-- ==== Sys2Proof/Word.lean ====
section
/-! DEFINITION. The word types of the DK6400: a byte, a 32-bit register word, a 64-bit tide (00_scope R9, R10). -/

namespace Sys2Proof

/-- One byte on a wire or in memory. -/
abbrev Byte := BitVec 8

/-- One 32-bit register or Anvil word. -/
abbrev Word := BitVec 32

/-- A 64-bit tide value in tt. -/
abbrev Tide := BitVec 64

end Sys2Proof
end

