-- ==== Sys2Proof/Syntax.lean ====
section
/-! DEFINITION. The commands of the DK6400: one constructor of Instr per row of spec/opcode_table.json, with the
operands the spec's text gives the step, and the small data types of those operands. -/

namespace Sys2Proof

/-- A host path, A or B (07 R189); also a mailbox channel (15 R397). -/
inductive Path where
  | a | b
  deriving DecidableEq, Repr

/-- Who makes a register access: a host path, an Anvil core, the card script of an Anvil core through its slot window (11 R310), or firmware acting
for the dictionary (07 R191, 11 R302, 15 R393). -/
inductive Agent where
  | path (p : Path)
  | core (k : Fin 4)
  | window (k : Fin 4)
  | fw
  deriving DecidableEq, Repr

/-- A rail whose loss asserts reset source POWER (01 Table 1-7). -/
inductive CoreRail where
  | vcore | vio | vdda
  deriving DecidableEq, Repr

/-- A card rail (03 Table 3-5). -/
inductive CardRail where
  | high | low
  deriving DecidableEq, Repr

/-- One of the 208 timers (05 R115). -/
inductive TimerId where
  | slot (s : Fin 64) (n : Fin 3)
  | gen (n : Fin 16)
  deriving DecidableEq, Repr

/-- What the read of a submission entry brought (07 R201): its 16 words, or an error with the tag if it was read. -/
inductive FetchRead where
  | entry (dws : List Word)
  | error (tag : Word)
  deriving DecidableEq, Repr

/-- What the host reads of stage 4 brought (07 R198, R203): each list's LEN values and the command bytes, none where the read
ended in an error. -/
structure GatherRead where
  cmdList  : Option (List Nat)
  respList : Option (List Nat)
  cmd      : Option (List Byte)
  deriving DecidableEq, Repr

/-- What the receivers of C7 read for so many ck: I/O high, above 30 % and above 70 % of VCC (04 R99, 09 R248). -/
structure Reading where
  ck     : Nat
  high   : Bool
  over30 : Bool
  over70 : Bool
  deriving DecidableEq, Repr

/-- A VCC comparison of slot `slot` below its class threshold, with what the branch of its own polder reads then: below its falling threshold or not
(03 R79). -/
structure Undervolt where
  slot      : Fin 64
  branchLow : Bool
  deriving DecidableEq, Repr

/-- VCC of slot `slot` at 0.4 V or more with the regulator off; qualified: for 100 µs (03 R80). -/
structure Leak where
  slot      : Fin 64
  qualified : Bool
  deriving DecidableEq, Repr

/-- I/O while the slot sends a character, from its start edge on: an edge of the card's in the guard, and what C7 reads (04 R108, R110; 09 R248). -/
structure SentLine where
  cardEdge : Bool
  wave     : List Reading
  deriving DecidableEq, Repr

/-- A repetition of slot `slot`, with what C7 reads from its start edge on (04 R108). -/
structure Repetition where
  slot : Fin 64
  wave : List Reading
  deriving DecidableEq, Repr

/-- What comes of a reception: its start edge dt ck from now; with what C7 reads from before the start edge on, past its end idle high, the vote of
the start bit and the bits with the middle stop sample; the late stop sample (04 R99, R100, R102). -/
inductive RxEvent where
  | edge (dt : Nat)
  | start (wave : List Reading)
  | stop (wave : List Reading)
  | late
  deriving DecidableEq, Repr

/-- The window of tempering that ends (09 R251): 16 characters; 64 card-clock periods with the high phase of each in ck; 64 samples of each
channel. -/
inductive Measure where
  | edge
  | duty (highs : List Nat)
  | conv
  deriving DecidableEq, Repr

/-- An apply point of tempering (09 R253): A, or B; at once is the mode change of R258 outside READY and BUSY. -/
inductive ApplyPoint where
  | a | b | atOnce
  deriving DecidableEq, Repr

/-- One card that answered CMD2 in an identification (10 R274 step 4 and 6): its CID and what bring-up found; bringUp is how many of CMD9, CMD7 and CMD8
went well, one after the other. -/
structure FoundCard where
  cid      : BitVec 128
  specVers : Nat
  cSize    : Nat
  sectors  : Word
  cardType : Byte
  bringUp  : Nat
  deriving DecidableEq, Repr

/-- A ledger card response (10 R278): R1 with its 32 status bits, or one with a CRC error. -/
inductive LedgerResp where
  | r1 (status : Word)
  | crcError
  deriving DecidableEq, Repr

/-- What a READY card does at the cleanup after a removal (10 R283): its R1 to CMD13, none where no answer comes, and the ck of busy after CMD12. -/
structure CleanupAnswer where
  r1   : Option Word
  busy : Nat := 0
  deriving DecidableEq, Repr

/-- An Anvil immediate: the 16 bits of format I or the 32 bits of the long form (11 R319, R321). -/
inductive Imm where
  | short (v : BitVec 16)
  | long (v : BitVec 32)
  deriving DecidableEq, Repr

/-- A displacement of format M, or the 32 bits of the long form (11 R319, R321). -/
inductive Disp where
  | short (v : BitVec 12)
  | long (v : BitVec 32)
  deriving DecidableEq, Repr

/-- The memory operand of a load, store or swap (11 R304, R320): segment, base register, POST and displacement. -/
structure MemArg where
  seg  : Fin 8
  ra   : Fin 32
  post : Bool
  disp : Disp
  deriving DecidableEq, Repr

/-- The operands of MOVS (11 Table 11-9, format V). -/
structure MovsArg where
  ss   : Fin 8
  sd   : Fin 8
  ra   : Fin 32
  rb   : Fin 32
  sfix : Bool
  dfix : Bool
  deriving DecidableEq, Repr

/-- A ring frame as it arrives (13 Table 13-2). good: it ended in EOF with a good CRC. -/
structure Frame where
  typ     : Byte
  flags   : Byte
  dst     : Byte
  src     : Byte
  seq     : BitVec 16
  hops    : Nat
  payload : List Byte
  mac     : List Byte
  good    : Bool
  deriving DecidableEq, Repr

/-- A run of like readings of TRAY_RXD: so many pk at one level (14 R369). -/
structure LineRun where
  pk   : Nat
  high : Bool
  deriving DecidableEq, Repr

/-- Readings of TRAY_RXD that begin dt ck from now, or where the readings of a reception in progress end (14 R369). -/
structure TrayLine where
  dt   : Nat
  runs : List LineRun
  deriving DecidableEq, Repr

/-- How the TRAY_STAT frame of one controller ended in a cycle, with its four bytes and the ck from the end of the PID stop bit to the end of the
frame, within RESP_MAX (14 R380 to R382). -/
structure TrayAnswer where
  result : BitVec 4
  bytes  : List Byte
  after  : Nat := 0
  deriving DecidableEq, Repr

/-- The blocks that own loop-back registers (17 Table 17-1). -/
inductive LoopBlock where
  | polder (p : Fin 8)
  | ledger (p : Fin 4)
  | ring
  | tray
  | device
  deriving DecidableEq, Repr

/-- The size of a BAR0 access (07 R190): a word, two words in one with the upper one given, or any other. -/
inductive BusSize where
  | word
  | double (hi : Word)
  | other
  deriving DecidableEq, Repr

/-- What a BAR0 write carries (07 R190). -/
structure BusWrite where
  size  : BusSize := .word
  value : Word
  deriving DecidableEq, Repr

/-- A command of the DK6400: one constructor per row of spec/opcode_table.json, in the table's order. A slot is Fin 64, a polder
Fin 8, a queue pair Fin 512, a card set Fin 32, a ledger port and a position Fin 4, a transaction its place Fin 1024 in the
device transaction table, a core Fin 4. `ag` is the agent of a register access, `w` the whole word written. -/
inductive Instr where
  -- resets and start
  | powerFail (rail : CoreRail) (vddaFirst : Bool)
  | powerRelease
  | pinReset
  | sysrstRelease
  | softwareReset
  | lifecycleReset
  | slotLogicRelease
  | startZero
  | corePllLock
  | memoryWipe (ok : Bool)
  | lifecycleRecordRead
  | mramWipeDone (ok : Bool) (wipeUs : Word)
  | journalScan
  | recoveryPosting
  | imageCheck (header payload : List Byte) (readError : Bool)
  | startEntry
  | dictionaryLoad
  -- slot commands and activation
  | activate (ag : Agent) (s : Fin 64) (w : Word)
  | warmReset (ag : Agent) (s : Fin 64) (w : Word)
  | deactivate (ag : Agent) (s : Fin 64) (w : Word)
  | park (ag : Agent) (s : Fin 64) (w : Word)
  | unpark (ag : Agent) (s : Fin 64) (w : Word)
  | faultClear (ag : Agent) (s : Fin 64) (w : Word)
  | cancelActAt (ag : Agent) (s : Fin 64) (w : Word)
  | cancelDeactAt (ag : Agent) (s : Fin 64) (w : Word)
  | actAtHiWrite (ag : Agent) (s : Fin 64) (v : Word)
  | deactAtHiWrite (ag : Agent) (s : Fin 64) (v : Word)
  | actAtDue (s : Fin 64)
  | deactAtDue (s : Fin 64)
  | presAbsent (s : Fin 64)
  | presPresentRead (s : Fin 64)
  | presDebounceDone (s : Fin 64)
  | vccRampStart (s : Fin 64)
  | settleRequest (s : Fin 64)
  | settleCheckDone (s : Fin 64)
  | ioRelease (s : Fin 64)
  | rstRise (s : Fin 64)
  | atrAbsent (s : Fin 64)
  | atrCharTimeout (s : Fin 64)
  | clockStop (s : Fin 64)
  | clockRestartDone (s : Fin 64)
  | deactStep (s : Fin 64)
  | vccBelow04 (s : Fin 64)
  | reactGapEnd (s : Fin 64)
  -- quench
  | ocTrip (s : Fin 64)
  | ocFoldback (s : Fin 64)
  | undervoltage (d : Undervolt)
  | clkReadback (s : Fin 64)
  | rstReadback (s : Fin 64)
  | quenchStep (s : Fin 64)
  | dischargeGrant
  | dischTimeout (s : Fin 64)
  | seepLeak (l : Leak)
  | tempSample (p : Fin 8) (celsius : Int)
  | railH (p : Fin 8)
  | railL (p : Fin 8)
  | railClear (rail : CardRail) (p : Fin 8)
  -- character engine
  | charTransmit (s : Fin 64) (line : SentLine)
  | charReceive (s : Fin 64) (e : RxEvent)
  | txErrsigCheck (s : Fin 64) (wave late : List Reading)
  | txRepeat (r : Repetition)
  | charRawWrite (ag : Agent) (s : Fin 64) (v : Word)
  | charRawRead (ag : Agent) (s : Fin 64)
  -- timers
  | timerWrap (t : TimerId)
  | timerCompare (t : TimerId)
  | timerCapture (t : TimerId) (src : BitVec 4) (dt : Nat)
  | timerMakeup (t : TimerId) (dt : Nat)
  | start (ag : Agent) (t : TimerId) (w : Word)
  | stop (ag : Agent) (t : TimerId) (w : Word)
  | clrCap (ag : Agent) (t : TimerId) (w : Word)
  | capSoft (ag : Agent) (t : TimerId) (w : Word)
  | timCountWrite (ag : Agent) (t : TimerId) (v : Word)
  | timCountRead (ag : Agent) (t : TimerId) (dt : Nat)
  | timReloadWrite (ag : Agent) (t : TimerId) (v : Word)
  | timCmpWrite (ag : Agent) (t : TimerId) (v : Word)
  | timCapValRead (ag : Agent) (t : TimerId)
  -- tide
  | tideNowRead (ag : Agent)
  | tideSetHiWrite (ag : Agent) (v : Word)
  | cancelSet (ag : Agent) (w : Word)
  | tideMarkEdge (dt : Nat)
  | tideHoldover
  | tidePauseEnd
  | talarmHiWrite (ag : Agent) (n : Fin 8) (v : Word)
  | cancel (ag : Agent) (w : Word)
  | talarmDue (n : Fin 8)
  -- protocols
  | ppsResponse (s : Fin 64)
  | ppsWaitExpired (s : Fin 64)
  | slotDispatch (s : Fin 64)
  | intentCommit (t : Fin 1024)
  | smWrap (t : Fin 1024)
  | smUnwrap (t : Fin 1024)
  | procedureByte (s : Fin 64)
  | t0TpduEnd (s : Fin 64)
  | wtExpired (s : Fin 64)
  | t1BlockReceived (s : Fin 64)
  | cwtExpired (s : Fin 64)
  | bwtExpired (s : Fin 64)
  | exchLimit (s : Fin 64)
  | outcomeCommit (t : Fin 1024)
  | completionWrite (t : Fin 1024)
  -- queues and transactions
  | sqFetch (q : Fin 512) (r : FetchRead)
  | cmdGather (t : Fin 1024) (r : GatherRead)
  | cardCmd (t : Fin 1024)
  | openSession (t : Fin 1024)
  | closeSession (t : Fin 1024)
  | nop (t : Fin 1024)
  | ledgerRead (t : Fin 1024)
  | ledgerWrite (t : Fin 1024)
  | sqTailDoorbell (p : Path) (q : Fin 512) (v : Word)
  | cqHeadDoorbell (p : Path) (q : Fin 512) (v : Word)
  | qpEnable (ag : Agent) (q : Fin 512) (w : Word)
  | qpDisable (ag : Agent) (q : Fin 512) (w : Word)
  | resume (ag : Agent) (q : Fin 512) (w : Word)
  | resumeAt (ag : Agent) (q : Fin 512) (w : Word)
  | linkDown (p : Path) (perst : Bool)
  | linkUp (p : Path)
  | evrCfgWrite (ag : Agent) (v : Word)
  | evrHead (ag : Agent) (v : Word)
  | eventWrite
  | irqMaskWrite (ag : Agent) (v : Word)
  | spillStatusRead (ag : Agent)
  | ackPersist (q : Fin 512)
  -- card sets
  | setEnable (ag : Agent) (k : Fin 32) (w : Word)
  | setDisable (ag : Agent) (k : Fin 32) (w : Word)
  | clearDiverged (ag : Agent) (k : Fin 32) (w : Word)
  | eject (ag : Agent) (k : Fin 32) (w : Word)
  | setRejoin (ag : Agent) (k : Fin 32) (w : Word)
  | roundEnd (t : Fin 1024)
  -- tempering and converter
  | temperWindowEnd (s : Fin 64) (m : Measure)
  | temperApply (s : Fin 64) (at_ : ApplyPoint)
  | go (ag : Agent) (p : Fin 8) (w : Word)
  | convSample (p : Fin 8) (code : BitVec 12)
  -- ledger ports
  | ledgerPresAbsent (p a : Fin 4)
  | ledgerPresDebounced (p a : Fin 4)
  | removalCleanup (p : Fin 4) (answers : List CleanupAnswer) (strays : List Bool)
  | identification (p : Fin 4) (found : List FoundCard) (ocrReady : Bool)
  | cardReadyPoll (p : Fin 4) (ready : Bool)
  | ledgerJobStart (p : Fin 4)
  | ledgerResponse (p : Fin 4) (r : LedgerResp)
  | ledgerBlock (p : Fin 4) (data : List Byte) (crcOk : Bool)
  | crcStatusToken (p : Fin 4) (positive : Bool)
  | busyEnd (p : Fin 4)
  | ledgerTimeout (p : Fin 4)
  | identify (ag : Agent) (p : Fin 4) (w : Word)
  | format (ag : Agent) (p : Fin 4) (w : Word) (a : Fin 4)
  | lpUnbind (ag : Agent) (p : Fin 4) (w : Word)
  | lpCfgWrite (ag : Agent) (p : Fin 4) (v : Word)
  | mirrorSweep (p a c : Fin 4)
  | imageScan (p a c : Fin 4) (dt : Nat)
  -- Anvil instructions
  | add (k : Fin 4) (rd ra rb : Fin 32)
  | adc (k : Fin 4) (rd ra rb : Fin 32)
  | sub (k : Fin 4) (rd ra rb : Fin 32)
  | sbc (k : Fin 4) (rd ra rb : Fin 32)
  | neg (k : Fin 4) (rd ra : Fin 32)
  | cmp (k : Fin 4) (ra rb : Fin 32)
  | and (k : Fin 4) (rd ra rb : Fin 32)
  | or (k : Fin 4) (rd ra rb : Fin 32)
  | xor (k : Fin 4) (rd ra rb : Fin 32)
  | andn (k : Fin 4) (rd ra rb : Fin 32)
  | tst (k : Fin 4) (ra rb : Fin 32)
  | shl (k : Fin 4) (rd ra rb : Fin 32)
  | shr (k : Fin 4) (rd ra rb : Fin 32)
  | sar (k : Fin 4) (rd ra rb : Fin 32)
  | rol (k : Fin 4) (rd ra rb : Fin 32)
  | ror (k : Fin 4) (rd ra rb : Fin 32)
  | mul (k : Fin 4) (rd ra rb : Fin 32)
  | mulh (k : Fin 4) (rd ra rb : Fin 32)
  | mulhu (k : Fin 4) (rd ra rb : Fin 32)
  | div (k : Fin 4) (rd ra rb : Fin 32)
  | divu (k : Fin 4) (rd ra rb : Fin 32)
  | rem (k : Fin 4) (rd ra rb : Fin 32)
  | remu (k : Fin 4) (rd ra rb : Fin 32)
  | sextB (k : Fin 4) (rd ra : Fin 32)
  | sextH (k : Fin 4) (rd ra : Fin 32)
  | clz (k : Fin 4) (rd ra : Fin 32)
  | addi (k : Fin 4) (rd ra : Fin 32) (imm : Imm)
  | andi (k : Fin 4) (rd ra : Fin 32) (imm : Imm)
  | ori (k : Fin 4) (rd ra : Fin 32) (imm : Imm)
  | xori (k : Fin 4) (rd ra : Fin 32) (imm : Imm)
  | cmpi (k : Fin 4) (ra : Fin 32) (imm : Imm)
  | tsti (k : Fin 4) (ra : Fin 32) (imm : Imm)
  | lui (k : Fin 4) (rd : Fin 32) (imm : BitVec 16)
  | li (k : Fin 4) (rd : Fin 32) (imm : Word)
  | shli (k : Fin 4) (rd ra : Fin 32) (cnt : BitVec 6) (long : Bool)
  | shri (k : Fin 4) (rd ra : Fin 32) (cnt : BitVec 6) (long : Bool)
  | sari (k : Fin 4) (rd ra : Fin 32) (cnt : BitVec 6) (long : Bool)
  | roli (k : Fin 4) (rd ra : Fin 32) (cnt : BitVec 6) (long : Bool)
  | rori (k : Fin 4) (rd ra : Fin 32) (cnt : BitVec 6) (long : Bool)
  | muli (k : Fin 4) (rd ra : Fin 32) (imm : Imm)
  | ldB (k : Fin 4) (rd : Fin 32) (m : MemArg)
  | ldBu (k : Fin 4) (rd : Fin 32) (m : MemArg)
  | ldH (k : Fin 4) (rd : Fin 32) (m : MemArg)
  | ldHu (k : Fin 4) (rd : Fin 32) (m : MemArg)
  | ldW (k : Fin 4) (rd : Fin 32) (m : MemArg)
  | stB (k : Fin 4) (rd : Fin 32) (m : MemArg)
  | stH (k : Fin 4) (rd : Fin 32) (m : MemArg)
  | stW (k : Fin 4) (rd : Fin 32) (m : MemArg)
  | swapW (k : Fin 4) (rd : Fin 32) (m : MemArg)
  | movsB (k : Fin 4) (m : MovsArg)
  | movsW (k : Fin 4) (m : MovsArg)
  | b (k : Fin 4) (cond : Fin 16) (disp : BitVec 22)
  | bl (k : Fin 4) (disp : BitVec 26)
  | jr (k : Fin 4) (ra : Fin 32)
  | jlr (k : Fin 4) (rd ra : Fin 32)
  | mfs (k : Fin 4) (rd : Fin 32) (sr : Byte)
  | mts (k : Fin 4) (sr : Byte) (ra : Fin 32)
  | wait (k : Fin 4)
  | fence (k : Fin 4)
  | eret (k : Fin 4)
  | halt (k : Fin 4)
  | fadd (k : Fin 4) (rd ra rb : Fin 32)
  | fsub (k : Fin 4) (rd ra rb : Fin 32)
  | fmul (k : Fin 4) (rd ra rb : Fin 32)
  | fdiv (k : Fin 4) (rd ra rb : Fin 32)
  | fsqrt (k : Fin 4) (rd ra : Fin 32)
  | fmadd (k : Fin 4) (rd ra rb : Fin 32)
  | fmin (k : Fin 4) (rd ra rb : Fin 32)
  | fmax (k : Fin 4) (rd ra rb : Fin 32)
  | fcmp (k : Fin 4) (ra rb : Fin 32)
  | fcvtSw (k : Fin 4) (rd ra : Fin 32)
  | fcvtWs (k : Fin 4) (rd ra : Fin 32)
  | fcvtzWs (k : Fin 4) (rd ra : Fin 32)
  | fabs (k : Fin 4) (rd ra : Fin 32)
  | fneg (k : Fin 4) (rd ra : Fin 32)
  | rep (k : Fin 4)
  | repl (k : Fin 4)
  -- Anvil events and control block
  | interruptEntry (k : Fin 4)
  | coreWake (k : Fin 4)
  | watchdogExpiry (k : Fin 4)
  | coreRunWrite (ag : Agent) (v : Word)
  | ipi (ag : Agent) (v : Word)
  | fwEvent (k : Fin 4) (v : Word)
  | xchgEnd (ag : Agent) (s : Fin 64) (v : Word)
  | xchgCmdDataRead (ag : Agent) (s : Fin 64)
  | xchgRespData (ag : Agent) (s : Fin 64) (v : Word)
  | xchgRespLenWrite (ag : Agent) (s : Fin 64) (v : Word)
  | xchgLimitExpiry (s : Fin 64)
  -- Lyette ring
  | rxLock
  | rxLockLost
  | loss
  | tide (f : Frame) (dt : Nat) (frac : Fin 16)
  | tideLaunch
  | ringCheck (hops : Fin 16)
  | ringCheckTimer
  | enum (f : Frame)
  | measure (f : Frame)
  | measureWindowEnd (delay : Option Word)
  | measReport (delay : Option Word)
  | dictReq (f : Frame)
  | dictRsp (f : Frame)
  | dictRetry (src : Agent)
  | sched (f : Frame)
  | schedAck (f : Frame)
  | schedResend
  | schedGo (ag : Agent) (w : Word)
  | enumerate (ag : Agent) (w : Word)
  | ringUnbind (ag : Agent) (w : Word)
  | leave (ag : Agent) (w : Word)
  | ringRejoin (ag : Agent) (w : Word)
  | sluiceRxFail
  | sluiceRehold
  | ringTxCommit (k : Fin 4)
  | ringRxPop (k : Fin 4)
  -- tray bus
  | txBreak (ag : Agent) (w : Word)
  | flushRx (ag : Agent) (w : Word)
  | frameGo (ag : Agent) (w : Word)
  | abort (ag : Agent) (w : Word)
  | trayTx (ag : Agent) (v : Word)
  | trayBaudWrite (ag : Agent) (v : Word)
  | rxRdWrite (ag : Agent) (v : Word)
  | trayCharReceived (line : TrayLine)
  | rxIdleClose
  | frameEnd
  | trayCycle (answers : List TrayAnswer)
  -- dictionary and life cycle
  | read (c : Path)
  | write (c : Path)
  | default (c : Path)
  | challenge (c : Path)
  | respond (c : Path)
  | logout (c : Path)
  | mbAbort (ag : Agent) (c : Path) (w : Word)
  | challengeExpiry (c : Path)
  | lockoutEnd (c : Path)
  | endLogin (c : Path)
  | countPersist
  | transitionRequest (c : Path)
  | debugOpen (c : Path)
  | keyLoad (c : Path)
  | keyGenerate (c : Path)
  | keyErase (c : Path)
  | exportedUpto (c : Path)
  | clear (c : Path)
  -- crypto
  | aes256Ctr (k : Fin 4)
  | aesCmac (k : Fin 4)
  | sha384 (k : Fin 4)
  | ecdsaVerify (k : Fin 4)
  | kcv (k : Fin 4)
  | cryptoDone
  | pubkeyVerifyDone
  | auditHash
  | rngRead (k : Fin 4)
  | rngFail (code : Fin 3)
  -- loop-backs and test access port
  | loopGo (ag : Agent) (b : LoopBlock) (w : Word)
  | loopStop (ag : Agent) (b : LoopBlock) (w : Word)
  | loopUnitDone (b : LoopBlock) (errors : Nat)
  | tapReset
  | idcode
  | samplePreload
  | extest
  | clamp
  | highz
  | dbgOpen
  | devReset
  | coreCtrl (w : Byte)
  | memAccess (isWrite : Bool) (addr data : Word)
  | bypass
  | pcieLoopback (p : Path)
  -- register writes, and steps listed last in the table
  | registerWrite (ag : Agent) (addr : Word) (b : BusWrite)
  | ledgerPresPresentRead (p a : Fin 4)
  | debugOpened (ok : Bool) (wipeUs : Word)
  | mramStoreCommit (k : Fin 4)
  | scrubBurst (bad : Option Word)
  | polderThermRead (ag : Agent) (p : Fin 8)
  | trayCharTransmit
  | undefinedOpcode (k : Fin 4) (word : Word)
  deriving DecidableEq, Repr

end Sys2Proof
end

