-- ==== Sys2Proof/Decode.lean ====
section
/-! DEFINITION. The decoder of the opcode table. No row of spec/opcode_table.json has bits: the commands are events and accesses, and no word spells
one (11 R319 gives the Anvil encodings, which the meanings of the Anvil rows use). -/

namespace Sys2Proof

/-- The command that a word spells by the table's bits: none, since the table gives no row any. -/
def decodeTableWord (_nbits _w : Nat) : Option Instr := none

end Sys2Proof
end

