-- ==== Sys2Proof/Machine/Bits.lean ====
section
/-! DEFINITION. Bit fields of register words, byte order, and the checks the spec names: CRC-32C (07 R209), the CRC of ISO/IEC
13239 (06 R172), the exclusive OR check (06 R172). -/

namespace Sys2Proof.Machine

/-- Bits [hi:lo] of a word as a number. -/
def fld (w : Word) (hi lo : Nat) : Nat := (w.toNat / 2 ^ lo) % 2 ^ (hi + 1 - lo)

/-- Bit i of a word. -/
def bitOf (w : Word) (i : Nat) : Bool := w.getLsbD i

/-- 1 for true. -/
def b2n (b : Bool) : Nat := if b then 1 else 0

/-- The word with the values of a list at their least bits: (lo, value). -/
def packed (l : List (Nat × Nat)) : Word := BitVec.ofNat 32 (l.foldl (fun a p => a + p.2 * 2 ^ p.1) 0)

/-- The word with bits [hi:lo] replaced by v. -/
def setFld (w : Word) (hi lo v : Nat) : Word :=
  BitVec.ofNat 32 (w.toNat - fld w hi lo * 2 ^ lo + (v % 2 ^ (hi + 1 - lo)) * 2 ^ lo)

/-- The low 32 bits of a 64-bit value. -/
def lo32 (v : BitVec 64) : Word := v.setWidth 32

/-- The high 32 bits of a 64-bit value. -/
def hi32 (v : BitVec 64) : Word := (v >>> 32).setWidth 32

/-- The 64-bit value of two words. -/
def cat64 (hi lo : Word) : BitVec 64 := hi ++ lo

/-- A byte of a number. -/
def byteOf (n i : Nat) : Byte := BitVec.ofNat 8 (n / 256 ^ i)

/-- The k bytes of a number, least significant first. -/
def leBytes (n : Nat) : Nat → List Byte
  | 0 => []
  | k + 1 => BitVec.ofNat 8 n :: leBytes (n / 256) k

/-- The k bytes of a number, most significant first. -/
def beBytes (n k : Nat) : List Byte := (leBytes n k).reverse

/-- The number that bytes spell, least significant first. -/
def ofLe : List Byte → Nat
  | [] => 0
  | b :: t => b.toNat + 256 * ofLe t

/-- The number that bytes spell, most significant first. -/
def ofBe (l : List Byte) : Nat := ofLe l.reverse

/-- The word that four bytes spell, least significant first. -/
def wordOfLe (l : List Byte) : Word := BitVec.ofNat 32 (ofLe (l.take 4))

/-- The element i of a list of bytes, 0 past its end. -/
def byteAt (l : List Byte) (i : Nat) : Byte := l.getD i 0

/-- A list of bytes cut or filled with zeros to n bytes. -/
def padTo (n : Nat) (l : List Byte) : List Byte := (l ++ List.replicate n 0).take n

/-- The exclusive OR of bytes (06 R172, 02 R51). -/
def xorBytes (l : List Byte) : Byte := l.foldl (fun a b => a ^^^ b) 0

/-- One step of a reflected CRC of width w, n bits. -/
def crcBits {w : Nat} (poly : BitVec w) : Nat → BitVec w → BitVec w
  | 0, c => c
  | n + 1, c => crcBits poly n (if c.getLsbD 0 then (c >>> 1) ^^^ poly else c >>> 1)

/-- CRC-32C of 07 R209: generator 0x1EDC_6F41 reflected, preset all ones, complemented. -/
def crc32c (l : List Byte) : Word :=
  ~~~ (l.foldl (fun c b => crcBits 0x82F63B78#32 8 (c ^^^ b.setWidth 32)) 0xFFFFFFFF#32)

/-- The CRC of ISO/IEC 13239 of 06 R172: x^16 + x^12 + x^5 + 1 reflected, preset 0xFFFF, complemented. -/
def crc16 (l : List Byte) : BitVec 16 :=
  ~~~ (l.foldl (fun c b => crcBits 0x8408#16 8 (c ^^^ b.setWidth 16)) 0xFFFF#16)

/-- The CRC of 06 R172 as it is sent: low byte first. -/
def crc16Bytes (l : List Byte) : List Byte := leBytes (crc16 l).toNat 2

/-- A count that saturates at 32 bits. -/
def satInc (n : Nat) : Nat := min (n + 1) 0xFFFFFFFF

/-- The natural number of bits of a list, bit i of it the truth of element i. -/
def maskOf : List Bool → Nat
  | [] => 0
  | b :: t => b2n b + 2 * maskOf t

/-- A signed number as a word of w bits, two's complement. -/
def twos (w : Nat) (v : Int) : Nat := (BitVec.ofInt w v).toNat

end Sys2Proof.Machine
end

