-- ==== Sys2Proof/Machine/Sparse.lean ====
section
/-! DEFINITION. Sparse tables: a list of (key, value) pairs with strictly rising keys and no entry equal to what an unlisted
key reads as. Slots, timers, queue pairs, registers and memories of State are held so. -/

namespace Sys2Proof.Machine

/-- A sparse table of values keyed by a number. -/
abbrev Table (α : Type) := List (Nat × α)

/-- The value at key i; an unlisted key reads as d. -/
def tget {α : Type} (d : α) : Table α → Nat → α
  | [], _ => d
  | (k, v) :: t, i => if i = k then v else tget d t i

/-- The table without any entry at key i. -/
def tdel {α : Type} : Table α → Nat → Table α
  | [], _ => []
  | (k, v) :: t, i => if i = k then tdel t i else (k, v) :: tdel t i

/-- The table with v at key i, listed in order. -/
def tins {α : Type} : Table α → Nat → α → Table α
  | [], i, v => [(i, v)]
  | (k, w) :: t, i, v =>
    if i < k then (i, v) :: (k, w) :: t
    else if i = k then (i, v) :: t
    else (k, w) :: tins t i v

/-- Writing v at key i; writing the default removes the entry. -/
def tset {α : Type} [DecidableEq α] (d : α) (t : Table α) (i : Nat) (v : α) : Table α :=
  if v = d then tdel t i else tins t i v

/-- Whether every key of the table is above m and the keys rise. -/
def trising {α : Type} : Option Nat → Table α → Bool
  | _, [] => true
  | none, (k, _) :: t => trising (some k) t
  | some m, (k, _) :: t => decide (m < k) && trising (some k) t

/-- The canonical form: keys rise strictly and no entry equals the default. -/
def twf {α : Type} [DecidableEq α] (d : α) (t : Table α) : Bool :=
  trising none t && t.all (fun p => decide (p.2 ≠ d))

end Sys2Proof.Machine
end

