-- ==== Sys2Proof/Machine/SlotTypes.lean ====
section
/-! DEFINITION. The state of one slot: registers, supply and sequencers, character engine, protocol engine (02, 03, 04, 06),
its tempering block (09), its exchange block (11 R313), and the state of one polder (02 R64, 03 R91, 09 R265). -/

namespace Sys2Proof.Machine

/-- The slot states of 00 R5, coded by 02 Table 2-1. -/
inductive SlotState where
  | empty | present | activating | atr | negotiating | ready | busy | clockstop | quenching | fault | parked
  deriving DecidableEq, Repr

/-- SLOT_STATUS.STATE (02 Table 2-1). -/
def SlotState.code : SlotState → Nat
  | .empty => 0 | .present => 1 | .activating => 2 | .atr => 3 | .negotiating => 4 | .ready => 5 | .busy => 6
  | .clockstop => 7 | .quenching => 8 | .fault => 9 | .parked => 10

/-- The result of the last write of a register block (02 Table 2-14). -/
inductive CmdErr where
  | none | state | multiple | value | locked
  deriving DecidableEq, Repr

/-- The code of a CMD_ERR field (02 Table 2-14). -/
def CmdErr.code : CmdErr → Nat
  | .none => 0 | .state => 1 | .multiple => 2 | .value => 3 | .locked => 4

/-- The supply classes of 02 Table 2-4. -/
inductive SClass where
  | a | b | c
  deriving DecidableEq, Repr

/-- The code of a class in SLOT_CFG.FIXED_CLASS and SLOT_STATUS.CLASS (02 Tables 2-11, 2-14). -/
def SClass.code : SClass → Nat
  | .a => 0 | .b => 1 | .c => 2

/-- VCC of a slot: off and below 0.4 V; ramping; on; regulator off and not yet below 0.4 V. -/
inductive Vcc where
  | off | ramp | on | disch
  deriving DecidableEq, Repr

/-- Where an activation stands (02 R45 to R54). Times are in ck. -/
inductive ActPhase where
  /-- no activation in progress -/
  | none
  /-- a ramp is wanted and has not started: ACT_PENDING -/
  | wait
  /-- the ramp started at t0 -/
  | ramp (t0 : Nat)
  /-- the settle check is requested -/
  | settle
  /-- CLK runs since Ta -/
  | clk (ta : Nat)
  /-- I/O is released; CLK runs since Ta -/
  | io (ta : Nat)
  /-- a warm reset holds RST low; the RST_HOLD count started at t0 -/
  | warm (t0 : Nat)
  /-- a class-change deactivation runs -/
  | classChange
  deriving DecidableEq, Repr

/-- Registers of the slot block that software writes, and the sticky flags it clears (02 R63, 03 R90, 04 R113, 06 R187). -/
structure SlotRegs where
  cfg        : Word := 0x00009487#32
  actTiming  : Word := 0x007801F4#32
  cstopIdle  : BitVec 16 := 1860#16
  supervise  : Word := 0x00003210#32
  charCfg    : Word := 0x0B601800#32
  charEtu    : Word := 0x02E80110#32
  protCfg    : Word := 0x07BFE0C1#32
  actAt      : Tide := 0#64
  deactAt    : Tide := 0#64
  actAtArmed   : Option Tide := none
  deactAtArmed : Option Tide := none
  actStart   : Tide := 0#64
  quenchAt   : Tide := 0#64
  cmdErr     : CmdErr := .none
  dischTimeout : Bool := false
  seepLeak   : Bool := false
  primary    : Nat := 0
  also       : BitVec 11 := 0#11
  atrErr     : Nat := 0
  actResult  : Nat := 0
  deriving DecidableEq, Repr

/-- Supply, clock, reset driver and presence of a slot, and its activation and deactivation sequencers (02, 03). -/
structure SlotSeq where
  vcc        : Vcc := .off
  rst        : Bool := false
  clkRun     : Bool := false
  stopLevel  : Bool := false
  /-- C7 is released to the pull-up (else driven low) -/
  ioUp       : Bool := false
  /-- from quench detection to step 3: whether C7 stays driven low (03 R68) -/
  ioHold     : Option Bool := none
  /-- the divider last in use on CLK, a rising edge of CLK at it, a divider staged under R56 and the falling edge at which it is taken up (02 R56) -/
  div        : Nat := 120
  clkRef     : Nat := 0
  divNext    : Option Nat := none
  divAt      : Nat := 0
  /-- ck of the first rising edge since CLK last started (05 R118) -/
  clkFrom    : Nat := 0
  /-- card clocks from the last re-arm to the last clock stop (02 R58) -/
  idleClk    : Nat := 0
  cls        : Option SClass := none
  /-- the VCC-settle check of the present supply has passed (03 R79, R81) -/
  settled    : Bool := false
  phase      : ActPhase := .none
  /-- the class of the present or next ramp -/
  tryCls     : SClass := .c
  retries    : Nat := 0
  negResetUsed : Bool := false
  /-- the last reset of the card was a warm reset -/
  warmed     : Bool := false
  /-- tide at which the ramp was asked for, or its gap ended -/
  askedAt    : Nat := 0
  /-- ck of the rise of RST (Tb) -/
  tb         : Nat := 0
  /-- ck at which a clock restart was started -/
  restartAt  : Option Nat := none
  warmAfterRestart : Bool := false
  pres       : Bool := false
  /-- ck at which the running presence debounce ends -/
  debounce   : Option Nat := none
  warmPend   : Bool := false
  deactPend  : Bool := false
  parkPend   : Bool := false
  discharging : Bool := false
  /-- ck at which a normal or class-change deactivation acted -/
  deactT0    : Option Nat := none
  /-- ck at which a quench was detected -/
  quenchT0   : Option Nat := none
  /-- steps of 02 R59 or 03 Table 3-3 done: 1 RST low, 2 CLK low, 3 I/O low, 4 regulator off -/
  steps      : Nat := 0
  toPark     : Bool := false
  sinkReq    : Option Nat := none
  sinkOn     : Option Nat := none
  timedOut   : Bool := false
  /-- ck at which VCC last fell below 0.4 V, while its gap runs -/
  gapFrom    : Option Nat := none
  /-- VCC reads 0.4 V or more with the regulator off; it has done so for 100 us (03 R80) -/
  leaking    : Bool := false
  leakSeen   : Bool := false
  deriving DecidableEq, Repr

/-- A received character as it is passed on (04 R102, R105): its byte and its parity and framing results. -/
structure RxChar where
  data    : Byte
  parity  : Bool
  framing : Bool
  deriving DecidableEq, Repr

/-- The timing latched at a start edge (04 R98): E is num / den ck. -/
structure Etu where
  num : Nat := 44640
  den : Nat := 1
  deriving DecidableEq, Repr

/-- A character in transmission: what it carries and its start edge. -/
structure TxChar where
  levels : BitVec 9
  start  : Nat
  raw    : Bool
  deriving DecidableEq, Repr

/-- A character judged but for the late sample of its stop position (04 R102): its levels, the middle sample, the vote of the three, and the ck of the
late one. -/
structure RxHeld where
  levels : BitVec 9
  mid    : Bool
  vote   : Bool
  lateAt : Nat
  deriving DecidableEq, Repr

/-- Register values before the changes made in the ck `at_`: TX_GT, CHAR_ETU and SAMPLE_OFS (04 R98). -/
structure Before where
  at_ : Nat
  gt  : Nat
  etu : Word
  ofs : Int
  deriving DecidableEq, Repr

/-- A character in reception: its start edge, and what a false start gives back (04 R99, R100): the leading edges known before it and the count,
residue and arming of T0, where T0 ran; begun: its start bit has voted low. -/
structure RxOpen where
  start     : Nat
  lastStart : Nat
  lastRx    : Option Nat
  lastRxEtu : Etu
  t0        : Option (Nat × Nat × Bool)
  begun     : Bool := false
  deriving DecidableEq, Repr

/-- The character engine of a slot (04). -/
structure CharEng where
  inverse   : Bool := false
  convSet   : Bool := false
  etu       : Etu := {}
  latOfs    : Int := 0
  latGt     : Nat := 12
  pend      : Bool := false
  chg       : Option Before := none
  /-- leading edge of the last character, either direction, and of the last received one, with the E latched for it -/
  lastStart : Nat := 0
  lastTx    : Option Nat := none
  /-- the levels of the last character sent after its start bit, and when an error signal is driven: from, until (04 R107) -/
  txLevels  : BitVec 9 := 0x1FF#9
  esig      : Option (Nat × Nat) := none
  /-- ck before which no further start bit is begun: TX_GT after the last one, at its own E (04 R106) -/
  txFrom    : Nat := 0
  lastRx    : Option Nat := none
  lastRxEtu : Etu := {}
  /-- the character in reception, from its start edge to its middle stop sample -/
  rxOn      : Option RxOpen := none
  rxHold    : Option RxHeld := none
  /-- ck at which the last reception, and the last transmission without a check, no longer count as under way (04 Table 4-8) -/
  rxEnd     : Nat := 0
  txEnd     : Nat := 0
  /-- ck of the last middle stop sample that is an apply point A (09 R253) -/
  applyAt   : Option Nat := none
  /-- ck of the last re-arm of start detection -/
  rearm     : Nat := 0
  /-- bytes the protocol engine has asked to send, in order -/
  txq       : List Byte := []
  /-- the character sent whose error-signal check is due, or that is to be repeated -/
  txChk     : Option TxChar := none
  txAgain   : Option Nat := none
  txReps    : Nat := 0
  rxReps    : Nat := 0
  rxBuf     : List RxChar := []
  rawTx     : List (BitVec 9) := []
  rawRx     : List (Bool × BitVec 9) := []
  rawOvf    : Bool := false
  framing   : Bool := false
  parity    : Bool := false
  rxRptLim  : Bool := false
  txRptLim  : Bool := false
  atr       : List Byte := []
  /-- a character of the present ATR has been received; the ATR is complete -/
  atrOn     : Bool := false
  atrDone   : Bool := false
  deriving DecidableEq, Repr

/-- The exchange a protocol engine carries (06 R157 to R179). -/
inductive ProtMode where
  | idle
  /-- PPS: the request sent, its response awaited -/
  | pps
  /-- S(IFS request) of negotiation outstanding -/
  | ifs
  /-- T=0 exchange -/
  | t0
  /-- T=1 exchange -/
  | t1
  /-- S(RESYNCH request) outstanding, or the re-announcement after it -/
  | resynch
  | reIfs
  /-- a card script owns the exchange -/
  | script
  deriving DecidableEq, Repr

/-- What a T=0 engine expects next (06 R167). -/
inductive T0Phase where
  | proc | sendAll | sendOne | recvAll | recvOne | sw2
  deriving DecidableEq, Repr

/-- The T=0 exchange (06 R166 to R170). -/
structure T0Eng where
  phase   : T0Phase := .proc
  header  : List Byte := []
  casee   : Nat := 1
  isGr    : Bool := false
  toSend  : List Byte := []
  toRecv  : Nat := 0
  data    : List Byte := []
  acc     : List Byte := []
  sw1     : Option Byte := none
  corrected : Bool := false
  deriving DecidableEq, Repr

/-- The T=1 exchange (06 R171 to R178). -/
structure T1Eng where
  ns      : Bool := false
  nr      : Bool := false
  attempts : Nat := 0
  rsync   : Nat := 0
  /-- the last block sent -/
  last    : List Byte := []
  /-- the last I-block sent, its N(S), its M, and its INF length -/
  lastI   : List Byte := []
  lastINs : Bool := false
  lastIM  : Bool := false
  lastILen : Nat := 0
  awaitAck : Bool := false
  /-- command bytes not yet acknowledged or sent in the last block -/
  rest    : List Byte := []
  acc     : List Byte := []
  cardChain : Bool := false
  sPending : Bool := false
  wtx     : Nat := 1
  ifsTries : Nat := 0
  bwtArmed : Bool := false
  /-- the answer waits until no start edge has occurred for CWT -/
  quiet    : Bool := false
  /-- the exchange ends with CARD_ABORT once the block in transmission is sent -/
  abortEnd : Bool := false
  deriving DecidableEq, Repr

/-- The protocol engine and slot context of a slot (06 R151, R180, R187). -/
structure ProtEng where
  fi      : Nat := 1
  di      : Nat := 1
  ta1     : Option Byte := none
  ta1Ok   : Bool := false
  guardN  : Nat := 0
  offered : List Nat := []
  specific : Option Byte := none
  wi      : Nat := 10
  ifsc    : Nat := 32
  ifscAtr : Nat := 32
  bwi     : Nat := 4
  cwi     : Nat := 13
  crc     : Bool := false
  t1Ok    : Bool := true
  proto   : Nat := 0
  settled : Bool := false
  lastEnd : Nat := 0
  negResult : Nat := 0
  mode    : ProtMode := .idle
  ppsReq  : List Byte := []
  t0      : T0Eng := {}
  t1      : T1Eng := {}
  sent    : Nat := 0
  /-- tide of the first start bit of the exchange (06 R157) -/
  firstTx : Option Nat := none
  gate    : Bool := false
  smWait  : Bool := false
  /-- ATR_INFO (02 Table 2-16) -/
  x       : Nat := 0
  y       : Nat := 0
  t15     : Bool := false
  deriving DecidableEq, Repr

/-- A tempering setting group (09 Table 9-3): OFS in ck, PULL code, SLEW code, DUTY_TRIM in half-ck. -/
structure Setting where
  ofs  : Int := 0
  pull : Nat := 1
  slew : Nat := 3
  duty : Int := 0
  deriving DecidableEq, Repr

/-- The windows of a slot in hand (09 R251): characters with their measures, card-clock periods counted up to the rising edge dutyFrom, converter
samples of VCC and of its current. -/
structure Window where
  received    : Nat := 0
  transmitted : Nat := 0
  rise     : Nat := 0
  fall     : Nat := 0
  txFall   : Nat := 0
  ring     : Nat := 0
  eMin     : Int := 0
  eMax     : Int := 0
  dutyN    : Nat := 0
  dutyFrom : Option Nat := none
  vccN     : Nat := 0
  vccSum   : Nat := 0
  vccMin   : Nat := 4095
  vccMax   : Nat := 0
  curN     : Nat := 0
  curSum   : Nat := 0
  curMax   : Nat := 0
  deriving DecidableEq, Repr

/-- The tempering block of a slot (09 R264). Decisions not yet applied are in pend. -/
structure Temper where
  cfg      : Word := 0x07040064#32
  fixed    : Word := 0x00010300#32
  app      : Setting := {}
  pendOfs  : Option Int := none
  pendPull : Option Nat := none
  pendSlew : Option Nat := none
  pendDuty : Option Int := none
  /-- a duty trim that takes effect at the falling edge dutyAt of CLK (09 R256) -/
  dutyNext : Option Int := none
  dutyAt   : Nat := 0
  modeApplied : Nat := 0
  lastLimit : Nat := 0
  overdraw : Bool := false
  vccRange : Bool := false
  ripple   : Bool := false
  duty     : Bool := false
  edge     : Bool := false
  eye      : Bool := false
  m10 : Word := 0#32
  m14 : Word := 0#32
  m18 : Word := 0#32
  m1c : Word := 0#32
  m20 : Word := 0#32
  m24 : Word := 0#32
  m28 : Word := 0#32
  /-- consecutive windows that met limit code i + 1, and whether the limit has acted in that run (09 R262, R263) -/
  runs     : List Nat := [0, 0, 0, 0, 0, 0]
  acted    : List Bool := [false, false, false, false, false, false]
  win      : Window := {}
  deriving DecidableEq, Repr

/-- The exchange block of a slot bound to a card script (11 R313 to R315). -/
structure Xchg where
  limit    : BitVec 16 := 1000#16
  active   : Bool := false
  sent     : Bool := false
  hwEnd    : Bool := false
  evt      : Bool := false
  cmd      : List Byte := []
  pos      : Nat := 0
  resp     : List Byte := []
  startedAt : Tide := 0#64
  deriving DecidableEq, Repr

/-- One slot. holder is the transaction that holds or has reserved it (01 R20). -/
structure Slot where
  st     : SlotState := .empty
  regs   : SlotRegs := {}
  seq    : SlotSeq := {}
  ch     : CharEng := {}
  pr     : ProtEng := {}
  temp   : Temper := {}
  xchg   : Xchg := {}
  holder : Option Nat := none
  lastQp : Nat := 511
  /-- ck at which its last holder left it (14 R383) -/
  lastBusy : Option Nat := none
  deriving DecidableEq, Repr

/-- A user of a polder converter (09 R259). -/
structure ConvReq where
  cfg      : Word := 0#32
  busy     : Bool := false
  done     : Bool := false
  preempted : Bool := false
  samples  : List Nat := []
  mean     : Nat := 0
  maxC     : Nat := 0
  minC     : Nat := 0
  tempEn   : Bool := true
  /-- the request restarted the clock of its slot, which runs until the request ends (09 R261) -/
  holdClk  : Bool := false
  cmdErr   : CmdErr := .none
  deriving DecidableEq, Repr

/-- For whom the polder converter takes a sample: a settle check of a slot, the request, or tempering for a slot on channel 0 VCC or 1 current
(09 R259, R260). -/
inductive ConvUser where
  | settle (i : Nat)
  | request
  | temper (i ch : Nat)
  deriving DecidableEq, Repr

/-- One polder: stagger, temperature, rails, converter. -/
structure Polder where
  stagger   : BitVec 16 := 4096#16
  lastRamp  : Option Tide := none
  prevTemp  : Option Int := none
  temp      : Option Int := none
  peak      : Option Int := none
  warn      : Bool := false
  warnClearAt : Nat := 0
  hotQuench : Bool := false
  highLow   : Bool := false
  lowLow    : Bool := false
  highSeen  : Bool := false
  lowSeen   : Bool := false
  highClearAt : Nat := 0
  lowClearAt : Nat := 0
  conv      : ConvReq := {}
  /-- settle checks waiting, oldest first, with the samples taken -/
  settle    : List (Nat × List Nat) := []
  /-- the tempering round: the (slot, channel) samples still to take, and whether a sample of a settle check or request came since -/
  tround    : List (Nat × Nat) := []
  /-- ck at which the sample in progress began, or from which the converter has stood idle -/
  convAt    : Nat := 0
  /-- the user of the sample in progress -/
  convUser  : Option ConvUser := none
  deriving DecidableEq, Repr

end Sys2Proof.Machine
end

