-- ==== Sys2Proof/Machine/Clock.lean ====
section
/-! DEFINITION. The card clock of a slot and its boundaries of the elementary time unit as functions of the time (02 R56, R58, 04 R94, R95,
05 R117, R118). -/

namespace Sys2Proof.Machine

/-- The high phase of divider n in ck: the shorter one where n is odd, lengthened by a duty trim of so many half ck, whole ck only (02 R56, 09 R252;
log 120). -/
def clkHigh (n : Nat) (trim : Int) : Nat := ((2 * (n / 2) : Nat) + trim).toNat / 2

/-- The low phase of divider n (02 R56). -/
def clkLow (n : Nat) (trim : Int) : Nat := n - clkHigh n trim

/-- Card-clock periods from the rising edge a up to ck t. -/
def periods (a n t : Nat) : Nat := (t - a) / n

/-- The window with the periods of divider n up to ck t counted; the period of a change is not, and the next begins at ck r (09 R250). -/
def Window.change (w : Window) (n t r : Nat) : Window :=
  match w.dutyFrom with
  | some a => { w with dutyN := w.dutyN + periods a n t, dutyFrom := some (max a r) }
  | none => w

/-- The slot with a staged duty trim in use from the falling edge that has come by ck t (09 R256). -/
def Slot.takeTrim (x : Slot) (t : Nat) : Slot :=
  match x.temp.dutyNext with
  | some d =>
    if x.seq.clkRun && x.temp.dutyAt ≤ t then
      let r := x.temp.dutyAt + clkLow x.seq.div d
      { x with
        seq := { x.seq with clkRef := r }
        temp := { x.temp with
          app := { x.temp.app with duty := d }, dutyNext := none, pendDuty := if x.temp.pendDuty = some d then none else x.temp.pendDuty
          win := x.temp.win.change x.seq.div x.temp.dutyAt r } }
    else x
  | none => x

/-- The slot with a staged divider and a staged duty trim in use from the falling edges that have come by ck t (02 R56, 09 R256). -/
def Slot.takeUp (x : Slot) (t : Nat) : Slot :=
  match x.seq.divNext with
  | some n =>
    if x.seq.clkRun && x.seq.divAt ≤ t then
      let y := x.takeTrim x.seq.divAt
      let r := y.seq.divAt + clkLow n y.temp.app.duty
      ({ y with
        seq := { y.seq with div := n, clkRef := r, divNext := none }
        temp := { y.temp with win := y.temp.win.change y.seq.div y.seq.divAt r } } : Slot).takeTrim t
    else x.takeTrim t
  | none => x.takeTrim t

/-- The divider in use on CLK at ck t, as SLOT_CLOCK.DIV shows it (04 R94). -/
def Slot.divNow (x : Slot) (t : Nat) : Nat := (x.takeUp t).seq.div

/-- The first ck after t, of the ck a, a + n, a + 2n and so on. -/
def nextOf (a n t : Nat) : Nat := if t < a then a else a + ((t - a) / n + 1) * n

/-- The first falling edge of CLK after ck t, with the divider in use (02 R56). -/
def Slot.nextFall (x : Slot) (t : Nat) : Nat :=
  let y := x.takeUp t
  let low := clkLow y.seq.div y.temp.app.duty
  nextOf (if low ≤ y.seq.clkRef then y.seq.clkRef - low else y.seq.clkRef + (y.seq.div - low)) y.seq.div t

/-- The first rising edge of CLK after ck t, with the divider in use. -/
def Slot.nextRise (x : Slot) (t : Nat) : Nat :=
  let y := x.takeUp t
  nextOf y.seq.clkRef y.seq.div t

/-- Divider n is staged at ck t: in use from the next falling edge of CLK, or at once where CLK does not run (02 R56). -/
def Slot.stageDiv (x : Slot) (t n : Nat) : Slot :=
  let y := x.takeUp t
  if y.seq.clkRun then
    if n = y.seq.div then { y with seq := { y.seq with divNext := none } }
    else { y with seq := { y.seq with divNext := some n, divAt := y.nextFall t } }
  else { y with seq := { y.seq with div := n, divNext := none } }

/-- CLK starts at ck t at the divider last in use: from a low level with a rising edge, and a divider staged before the stop waits for the first
falling edge; from a high level with that falling edge (02 R45, R58). -/
def Slot.startClk (x : Slot) (t : Nat) : Slot :=
  let trim := x.temp.app.duty
  let n := if x.seq.stopLevel then x.seq.divNext.getD x.seq.div else x.seq.div
  let r := if x.seq.stopLevel then t + clkLow n trim else t
  { x with
    seq := { x.seq with
      clkRun := true, stopLevel := false, div := n, divNext := if x.seq.stopLevel then none else x.seq.divNext
      clkRef := r, clkFrom := r, divAt := t + clkHigh n trim } }

/-- CLK stops at ck t at a level; a divider whose falling edge has come is in use (02 R58). -/
def Slot.stopClk (x : Slot) (t : Nat) (level : Bool) : Slot :=
  let y := x.takeUp t
  { y with
    seq := { y.seq with clkRun := false, stopLevel := level }
    temp := { y.temp with win := { y.temp.win with dutyFrom := none }, dutyNext := none } }

/-- Rising edges of CLK from the reference edge up to ck t, a staged divider taken up on the way. -/
def Slot.risesBy (x : Slot) (t : Nat) : Nat :=
  let from_ (a n b : Nat) : Nat := if b < a ∨ n = 0 then 0 else (b - a) / n + 1
  match x.seq.divNext with
  | some n =>
    if x.seq.divAt ≤ t then from_ x.seq.clkRef x.seq.div x.seq.divAt + from_ (x.seq.divAt + clkLow n x.temp.app.duty) n t
    else from_ x.seq.clkRef x.seq.div t
  | none => from_ x.seq.clkRef x.seq.div t

/-- The instant h half ETUs after a start edge, in ck: h / 2 ETU rounded to the nearest ck, halves up (04 R95). -/
def Etu.halves (e : Etu) (h : Nat) : Nat := (h * e.num + e.den) / (2 * e.den)

/-- Boundary k (04 R95). -/
def Etu.bound (e : Etu) (k : Nat) : Nat := e.halves (2 * k)

/-- Whole ck of E. -/
def Etu.whole (e : Etu) : Nat := e.num / e.den

/-- The number of boundaries Bk, k = 1, 2, 3 and so on, at most t ck after the start edge (05 R118). -/
def Etu.boundsBy (e : Etu) (t : Nat) : Nat := (e.den * (2 * t + 1) - 1) / (2 * e.num)

/-- The edge from which the ETU source counts: the latest start edge, or the first rising edge after a later restart of CLK (05 R118). -/
def Slot.gridFrom (x : Slot) : Nat := max x.ch.lastStart x.seq.clkFrom

end Sys2Proof.Machine
end

