-- ==== Sys2Proof/Config.lean ====
section
/-! DEFINITION. What one device fixes, what the spec takes from another standard, and the free values: constants without a body, so
that a statement about them holds for every value. -/

namespace Sys2Proof.Config

/-- The RINGMASTER strap as sampled at the release of every reset source (18 R462). Log 8. -/
opaque ringMaster : Bool

/-- The TEST_EN strap (18 R462). Log 8. -/
opaque testEn : Bool

/-- The SLOW_SEL strap (18 R462). Log 8. -/
opaque slowSel : Bool

/-- The silicon stepping code of DEV_ID (07 R192). Log 8. -/
opaque stepping : Byte

/-- The bytes of the device serial number, least significant first (15 Table 15-11). Log 8. -/
opaque serial : Nat → Byte

/-- The contents of the external flash (11 Table 11-5). Log 8. -/
opaque flash : Nat → Byte

/-- One AES-256 block encryption, FIPS 197 (16 R431). Log 6. -/
opaque aesBlock : BitVec 256 → BitVec 128 → BitVec 128

/-- The SHA-384 digest, FIPS 180-4 (16 R431). Log 6. -/
opaque sha384 : List Byte → BitVec 384

/-- Whether an ECDSA P-384 signature verifies: public key, digest, signature bytes, FIPS 186 (16 R432). Log 6. -/
opaque ecdsaVerify : List Byte → BitVec 384 → List Byte → Bool

/-- Whether a public key is a point of P-384 (16 R419). Log 6. -/
opaque pointOnCurve : List Byte → Bool

/-- FREE VALUE: the n-th 32-bit word drawn from the random number generator (16 R430). Log 5. -/
opaque random : Nat → BitVec 32

/-- FREE VALUE: the rate trim in ppb after the n-th correction of the tide (05 R141 gives no law). Log 7. -/
opaque rateTrim : Nat → Int

/-- FREE VALUE: the n-th 32-bit value that the spec leaves open. Log 15. -/
opaque freeValue : Nat → BitVec 32

end Sys2Proof.Config
end

