-- ==== Sys2Proof/Machine/TxnTypes.lean ====
section
/-! DEFINITION. The state of the queues, transactions, journal, sessions, card sets (06, 07, 08), of the timers and the tide (05),
and of the device block and its events (07 R192, R223 to R225). -/

namespace Sys2Proof.Machine

/-- One general event (07 Table 7-21); data holds DW4 and on. -/
structure Event where
  typ    : Nat
  source : Nat := 0
  code   : Nat := 0
  tide   : Tide := 0#64
  data   : List Word := []
  deriving DecidableEq, Repr

/-- The outcome classes of 01 Table 1-5. -/
inductive OClass where
  | done | notSent | inDoubt
  deriving DecidableEq, Repr

/-- The code of a class in a completion (07 Table 7-13). -/
def OClass.code : OClass → Nat
  | .done => 0 | .notSent => 1 | .inDoubt => 2

/-- The outcome of a transaction: the fields of its completion entry (07 Table 7-13) and its response. -/
structure Outcome where
  cls      : OClass := .notSent
  status   : Nat := 0
  cause    : Nat := 0
  setFlags : Nat := 0
  promoted : Bool := false
  sw       : BitVec 16 := 0#16
  respLen  : Nat := 0
  sentLen  : Nat := 0
  resp     : List Byte := []
  tide     : Tide := 0#64
  deriving DecidableEq, Repr

/-- A journal record (07 Table 7-17). target is bytes 36 to 39 and slots bytes 28 to 35. -/
structure JRec where
  seq      : Nat
  outcome  : Bool
  tag      : Word
  qp       : Nat
  opcode   : Nat
  flags    : Nat
  session  : Word
  tide     : Tide
  slots    : BitVec 64
  target   : Word
  cmdLen   : Nat := 0
  deadline : Tide := 0#64
  cmd      : List Byte := []
  intentSeq : Nat := 0
  o        : Outcome := {}
  deriving DecidableEq, Repr

/-- What a transaction is aimed at. -/
inductive Target where
  | none
  | slot (s : Nat)
  | set (k : Nat)
  | ledger (p a : Nat)
  deriving DecidableEq, Repr

/-- Where a transaction stands in 01 Table 1-1. -/
inductive Stage where
  | check | gather | wait | intent | exch | outcome | complete
  deriving DecidableEq, Repr

/-- What one card-set member answered in a round (08 R235, R237). -/
structure MemberResp where
  done   : Bool
  resp   : List Byte
  status : Nat
  cause  : Nat
  sent   : Nat
  cls    : OClass
  deriving DecidableEq, Repr

/-- The rounds of a card-set transaction (08 R236 to R239). -/
structure Rounds where
  lead     : Nat := 0
  /-- targets of the present round, and those whose exchange has not ended -/
  targets  : List Nat := []
  /-- the targets that were MEMBER when the round began -/
  asMember : List Nat := []
  running  : List Nat := []
  /-- current response by position -/
  cur      : List (Option MemberResp) := [none, none, none, none, none, none]
  leadLast : Option MemberResp := none
  outLast  : List Nat := []
  /-- positions that went OUT in this transaction with their status and quench cause -/
  outs     : List (Nat × Nat × Nat) := []
  suspects : List Nat := []
  /-- positions promoted in this transaction that have run no round as MEMBER -/
  fresh    : List Nat := []
  promoted : Bool := false
  reissued : Bool := false
  retried  : Bool := false
  began    : Bool := false
  deriving DecidableEq, Repr

/-- A transaction of the device transaction table (07 R201). dws is the entry of 07 Table 7-11. -/
structure Txn where
  qp       : Nat
  dws      : List Word
  readErr  : Bool := false
  role     : Nat := 0
  stage    : Stage := .check
  target   : Target := .none
  sess     : Nat := 0
  cmd      : List Byte := []
  respSegs : List Nat := []
  /-- chunks of the buffer pool it holds (07 R202) -/
  chunks   : Nat := 0
  /-- order of fetch, and of arrival at stage 5 -/
  fetchNo  : Nat := 0
  arriveNo : Nat := 0
  slots    : List Nat := []
  intentSeq : Option Nat := none
  /-- secure messaging: the session has a profile, its key reference, its SSC, and characters sent when the response was complete -/
  sm       : Bool := false
  smKey    : Word := 0#32
  smSsc    : BitVec 64 := 0#64
  smSent   : Nat := 0
  sscOld   : Option (BitVec 64) := none
  wrapped  : List Byte := []
  outDone  : Option Outcome := none
  jseq     : Nat := 0
  held     : Bool := false
  warmAfter : List Nat := []
  rounds   : Rounds := {}
  deriving DecidableEq, Repr

/-- A completion that waits in the spillway (07 R220). ring is the queue pair whose ring it goes to. -/
structure Spill where
  ring : Nat
  qp   : Nat
  tag  : Word
  jseq : Nat
  trunc : Bool
  o    : Outcome
  deriving DecidableEq, Repr

/-- The states of a queue pair (07 Table 7-9). -/
inductive QState where
  | disabled | enabled | suspended | draining
  deriving DecidableEq, Repr

/-- The code of QP_STATUS.STATE. -/
def QState.code : QState → Nat
  | .disabled => 0 | .enabled => 1 | .suspended => 2 | .draining => 3

/-- One queue pair (07 R193). -/
structure QPair where
  sqBase  : BitVec 64 := 0#64
  cqBase  : BitVec 64 := 0#64
  size    : Word := 0x000F000F#32
  cfg     : Word := 0x01002000#32
  login   : Word := 0#32
  cmdErr  : CmdErr := .none
  dbErr   : Bool := false
  stalled : Bool := false
  st      : QState := .disabled
  sqTail  : Nat := 0
  sqHead  : Nat := 0
  cqHead  : Nat := 0
  cqTail  : Nat := 0
  cqPhase : Bool := true
  role    : Nat := 0
  checkpoint : Option (Nat × Nat) := none
  passed  : Option Nat := none
  lastJ   : Option Nat := none
  ackAt   : Option Nat := none
  deriving DecidableEq, Repr

/-- A host session context (06 R180 to R186). The generation stands in Mram. -/
structure Session where
  isOpen  : Bool := false
  onSet   : Bool := false
  target  : Nat := 0
  channel : Nat := 0
  profile : Nat := 0
  key     : Word := 0#32
  ssc     : BitVec 64 := 0#64
  deriving DecidableEq, Repr

/-- The state of a card-set position (08 Table 8-5). -/
inductive Pos where
  | unused | pending | member | reserve | out
  deriving DecidableEq, Repr

/-- SET_POS codes (08 Table 8-5). -/
def Pos.code : Pos → Nat
  | .unused => 0 | .pending => 1 | .member => 2 | .reserve => 3 | .out => 4

/-- One card set (08). -/
structure CardSet where
  cfg      : Word := 3#32
  mapLo    : Word := 0#32
  mapHi    : Word := 0#32
  cmdErr   : CmdErr := .none
  suspect  : Nat := 0
  forming  : Bool := false
  diverged : Bool := false
  enabled  : Bool := false
  draining : Bool := false
  pos      : List Pos := [.unused, .unused, .unused, .unused, .unused, .unused]
  cause    : List Nat := [0, 0, 0, 0, 0, 0]
  /-- the STATE last reported by SET_STATE -/
  shown    : Nat := 0
  deriving DecidableEq, Repr

/-- One timer (05 R115 to R134, R149). -/
structure Timer where
  cfg      : Word := 0#32
  count    : Nat := 0
  reload   : Nat := 0xFFFFFFFF
  cmp      : Nat := 0
  interval : Nat := 1
  en       : Bool := false
  armed    : Bool := false
  out      : Bool := false
  cmpEvt   : Bool := false
  wrapEvt  : Bool := false
  capOvf   : Bool := false
  makeup   : Bool := false
  multiWrap : Bool := false
  makeupSat : Bool := false
  capLost  : Nat := 0
  caps     : List (Nat × Nat) := []
  makeupTicks : Nat := 0
  residue  : Nat := 0
  presc    : Nat := 0
  loStage  : Option Nat := none
  /-- ck at which it fell asleep, and the rate of its source then, in events per slow-clock second as a fraction (05 R133) -/
  sleptAt  : Option Nat := none
  sleptRate : Nat × Nat := (0, 1)
  /-- ck at which the slot logic starts it (06 R154) -/
  enAt     : Option Nat := none
  /-- the pk edge at which a tick is lost to a write of TIM_COUNT, and a RELOAD that takes effect after the tick of the pk edge named (05 R122) -/
  lostAt   : Option Nat := none
  reloadNext : Option (Nat × Nat) := none
  cmdErr   : CmdErr := .none
  deriving DecidableEq, Repr

/-- The tide states (05 Table 5-6). -/
inductive TState where
  | free | acquiring | locked | holdover
  deriving DecidableEq, Repr

/-- TIDE_STATUS.STATE. -/
def TState.code : TState → Nat
  | .free => 0 | .acquiring => 1 | .locked => 2 | .holdover => 3

/-- The tide unit (05 R136 to R147, R150). -/
structure TideUnit where
  val      : Tide := 0#64
  phase    : Nat := 0
  st       : TState := .free
  setReg   : Tide := 0#64
  armed    : Option Tide := none
  setErr   : Nat := 0
  stepLimit : Nat := 16
  steps    : Nat := 0
  pauses   : Nat := 0
  reject   : Bool := false
  /-- a member in HOLDOVER ignores the ring tide (05 R143) -/
  rejecting : Bool := false
  paused   : Bool := false
  /-- ck the tide is still ahead of its reference in a pause -/
  pauseLeft : Nat := 0
  /-- what of the rate trim has not made a whole ck yet, in 1e-9 ck -/
  acc      : Int := 0
  /-- phase slew still to make, in ck: positive lengthens tts; ck since its last step (05 R141) -/
  slew     : Int := 0
  slewAcc  : Nat := 0
  /-- tt edges so far, and those that the timers have counted: the MODEL's own fields (05 R147) -/
  edges    : Nat := 0
  fed      : Nat := 0
  ref      : Tide := 0#64
  err      : Int := 0
  rate     : Int := 0
  rates    : List Int := []
  /-- consecutive corrections within 3 ck (05 Table 5-6) -/
  good     : Nat := 0
  /-- the last correction, if it called for a step or pause -/
  lastBig  : Option Int := none
  /-- local tide at which the next TIDE_MARK edge is expected -/
  expect   : Option Nat := none
  /-- ck of the last TIDE_MARK edge or tide frame that counts -/
  lastAt   : Nat := 0
  alarms   : List Tide := [0#64, 0#64, 0#64, 0#64, 0#64, 0#64, 0#64, 0#64]
  alarmArmed : List (Option Tide) := [none, none, none, none, none, none, none, none]
  fired    : Nat := 0
  deriving DecidableEq, Repr

/-- The device block and the event ring (07 R192, R223). -/
structure Dev where
  evrBase  : BitVec 64 := 0#64
  evrCfg   : Word := 15#32
  evrHead  : Nat := 0
  evrTail  : Nat := 0
  evrPhase : Bool := true
  evrLost  : Nat := 0
  irqStatus : BitVec 16 := 0#16
  irqMask  : BitVec 16 := 0xFFFF#16
  spillHigh : Nat := 768
  spillPeak : Nat := 0
  spillArmed : Bool := true
  cmdErr   : CmdErr := .none
  wdenyA   : Bool := false
  wdenyB   : Bool := false
  /-- RECOVERY: 0 SCAN, 1 WAIT_EVR, 2 POSTING, 3 DONE -/
  recovery : Nat := 0
  jsat     : Bool := false
  jsatAtStart : Bool := false
  linkA    : Bool := false
  linkB    : Bool := false
  /-- general events waiting, oldest first (07 R225) -/
  evq      : List Event := []
  /-- SEQs of the outcome records to post in recovery, and how many were orphans (07 R213) -/
  recList  : List Nat := []
  orphanFrom : Nat := 0
  orphans  : Nat := 0
  recPosted : Nat := 0
  deriving DecidableEq, Repr

/-- The queue engine, dispatch and journal controller outside MRAM. -/
structure Flow where
  qps      : Table QPair := []
  txns     : Table (Option Txn) := []
  spill    : List Spill := []
  sessions : Table Session := []
  sets     : Table CardSet := []
  /-- transactions whose outcome record is requested, in order (01 R22) -/
  outq     : List Nat := []
  /-- SEQs of outcome records whose completion is not written (07 R210) -/
  unwritten : List Nat := []
  fetchNo  : Nat := 0
  arriveNo : Nat := 0
  lastFetch : Nat := 511
  jNext    : Nat := 1
  jPos     : Nat := 8191
  /-- MRAM bursts of the other users since the last of the scrub (01 R21) -/
  bursts   : Nat := 0
  /-- the BSEQ after the last used on any ledger position, 0 none since the start (10 R286; log 138) -/
  nextBseq : Nat := 0
  deriving DecidableEq, Repr

/-- Another user than the scrub takes n bursts of MRAM. The scrub burst owed in every 64 goes in between by itself (01 R21, log 132). -/
def Flow.burst (f : Flow) (n : Nat) : Flow := { f with bursts := if 63 < f.bursts + n then n else f.bursts + n }

end Sys2Proof.Machine
end

