-- ==== Sys2Proof/Machine/CoreTypes.lean ====
section
/-! DEFINITION. The state of an Anvil core and of the core control block (11 R294 to R303, R326, 12 R333 to R343). -/

namespace Sys2Proof.Machine

/-- The run states of a core (11 R296). -/
inductive RunState where
  | halted | run | sleep | wdog
  deriving DecidableEq, Repr

/-- The code of a run state (11 R296). -/
def RunState.code : RunState → Nat
  | .halted => 0 | .run => 1 | .sleep => 2 | .wdog => 3

/-- A repeat prefix at PC (11 R323, R324, 12 R331): whether it is REPL, and whether the instruction after it has passed its checks. -/
structure Rep where
  repl    : Bool
  checked : Bool := false
  deriving DecidableEq, Repr

/-- A segment of a core (11 R303). -/
structure Seg where
  base   : Word := 0#32
  limit  : Word := 0xFFFFFFFF#32
  rights : BitVec 4 := 0xF#4
  deriving DecidableEq, Repr

/-- One Anvil core. regs holds g1 to g31; g0 reads 0. -/
structure Core where
  run     : RunState := .halted
  regs    : Table Word := []
  cnt     : Word := 0#32
  pc      : Word := 0#32
  psr     : Word := 0#32
  fpcsr   : Word := 0#32
  epc     : Word := 0#32
  epsr    : Word := 0#32
  ecause  : Word := 0#32
  eaddr   : Word := 0#32
  tvec    : Word := 0#32
  irqEn   : BitVec 64 := 0#64
  irqPend : BitVec 64 := 0#64
  wdogEn  : Bool := false
  wdogPeriod : Nat := 0
  /-- local tide at which the watchdog count reaches 0, while it runs; else what is left of it -/
  wdogLeft : Nat := 0
  wdogFrom : Option Tide := none
  scrBind : BitVec 64 := 0#64
  scrBase : BitVec 16 := 0#16
  scrLimit : BitVec 16 := 0#16
  segs    : Table Seg := []
  rep     : Option Rep := none
  /-- CORE_RUN is cleared and the loop of REPL has still to end (11 R297, R324) -/
  stopReq : Bool := false
  deriving DecidableEq, Repr

/-- The core control block (11 R326). -/
structure CoreCtl where
  entry : Table Word := []
  /-- IRQ_ROUTE: EN in bit 2, core in bits 1, 0 -/
  route : Table (BitVec 3) := []
  /-- what CORES_STOPPED and CORES_RUNNING last reported -/
  anyRun : Bool := false
  deriving DecidableEq, Repr

/-- One of the 16 log-ins (15 R403). role: 1 operator, 2 installer, 3 maker. -/
structure Login where
  live : Bool := false
  gen  : Nat := 0
  role : Nat := 0
  chan : Path := .a
  at_  : Tide := 0#64
  deriving DecidableEq, Repr

/-- The reset sources of 16 R409. -/
inductive ResetSource where
  | power | pin | software | lifecycle | jtag
  deriving DecidableEq, Repr

/-- The start sequence (16 R409 to R416). -/
structure Boot where
  sources  : List ResetSource := []
  /-- start zero has passed since the last reset -/
  zero     : Bool := false
  /-- the reset cause kept, 0 none (16 R409) -/
  cause    : Nat := 0
  /-- the slot logic is held in reset (03 R85) -/
  slotHeld : Bool := false
  /-- step of 16 Table 16-3 reached, 0 before start zero -/
  step     : Nat := 0
  /-- the dictionary load has ended (15 R394) -/
  loaded   : Bool := false
  halted   : Bool := false
  /-- VDDA fell below its monitor threshold first (03 R86) -/
  vddaFirst : Bool := false
  /-- ck of the last grant of the discharge arbiter, which no reset stops (03 R70, R85) -/
  sinkGrant : Option Nat := none
  deriving DecidableEq, Repr

end Sys2Proof.Machine
end

