-- ==== Sys2Proof/Machine/LedgerTypes.lean ====
section
/-! DEFINITION. The state of a ledger port and of a card position (10). -/

namespace Sys2Proof.Machine

/-- Position states (10 Table 10-4). -/
inductive LPosState where
  | absent | present | identifying | ready | unplaced | unsupported | failed
  deriving DecidableEq, Repr

/-- POS_STATE.STATE. -/
def LPosState.code : LPosState → Nat
  | .absent => 0 | .present => 1 | .identifying => 2 | .ready => 3 | .unplaced => 4 | .unsupported => 5 | .failed => 6

/-- Image states (10 Table 10-11, POS_IMAGE). -/
inductive ImgState where
  | none | scanning | valid | recovered | unformatted | foreign | formatting
  deriving DecidableEq, Repr

/-- POS_IMAGE.IMG_STATE. -/
def ImgState.code : ImgState → Nat
  | .none => 0 | .scanning => 1 | .valid => 2 | .recovered => 3 | .unformatted => 4 | .foreign => 5 | .formatting => 6

/-- One copy of an image block as a scan reads it (10 R287): whether it is valid, its BSEQ, and whether its payload is what MRAM holds. -/
structure CopyRead where
  valid : Bool := false
  bseq  : Nat := 0
  same  : Bool := false
  deriving DecidableEq, Repr

/-- A valid label copy as a scan reads it (10 R290 step 1): its BSEQ, and whether SERIAL, KIND and the key check value are the device's. -/
structure LabelRead where
  bseq : Nat
  own  : Bool
  deriving DecidableEq, Repr

/-- What a mirror command is for (10 R285, R289 to R291): i is its first logical block, copy its region. -/
inductive MirrorKind where
  | labelRead
  | scanRead (copy i : Nat)
  | formatRead
  | labelWrite (copy : Nat)
  | dataWrite (copy i : Nat)
  deriving DecidableEq, Repr

/-- A mirror command (10 R276, R287): the sector it begins at and its blocks. -/
structure MirrorCmd where
  kind  : MirrorKind
  first : Nat
  count : Nat
  deriving DecidableEq, Repr

/-- What firmware does with the image of a position (10 R289 to R291): the steps of a scan, a sweep, the steps of FORMAT. -/
inductive LTask where
  | scanLabels
  | scanBlocks
  | scanWrites (lost : Nat)
  | sweep (began : Tide)
  | formatRead
  | formatWrite
  deriving DecidableEq, Repr

/-- One card position (10 R272 to R275, R287 to R291). cfg is POS_CFG. -/
structure LPos where
  st       : LPosState := .absent
  rca      : Nat := 0
  cid      : BitVec 128 := 0#128
  sectors  : Word := 0#32
  cardType : Byte := 0#8
  debounce : Option Nat := none
  cfg      : Word := 100#32
  /-- POS_CFG in effect since the port's last free point (10 R292) -/
  live     : Word := 100#32
  imgBase  : Word := 0#32
  nseq     : BitVec 64 := 0#64
  img      : ImgState := .none
  lost     : Nat := 0
  /-- a scan is wanted (10 R290) -/
  scan     : Bool := false
  /-- what firmware does with the image, and the mirror commands that it has yet to give -/
  task     : Option LTask := none
  mq       : List MirrorCmd := []
  /-- of the task: copy c of block i as read, at 2i + c; the valid labels read; the highest BSEQ found; the blocks written -/
  reads    : Table CopyRead := []
  labels   : List LabelRead := []
  high     : Option Nat := none
  written  : Nat := 0
  /-- logical blocks marked changed (10 R289) -/
  dirty    : List Nat := []
  /-- the copy that holds the current version of a block: 0 none, 1 copy 0, 2 copy 1 (10 R287) -/
  copy     : Table Nat := []
  sweepAt  : Nat := 0
  deriving DecidableEq, Repr

/-- Where a host transaction stands on the port (10 R278 to R280). -/
inductive LStep where
  | select | selectBusy | status | count | command | dataIn | token | busy | final | stop | stopBusy
  | recover (tries : Nat)
  deriving DecidableEq, Repr

/-- The transfer a port carries: a host transaction in stage 7, or a mirror command with its prepared blocks and their plain payloads. -/
structure LJob where
  txn       : Option Nat
  cmd       : Option MirrorCmd := none
  blocks    : List (List Byte) := []
  plains    : List (List Byte) := []
  pos       : Nat
  write     : Bool
  first     : Nat
  count     : Nat
  step      : LStep := .select
  sent      : Bool := false
  confirmed : Nat := 0
  begun     : Nat := 0
  reissues  : Nat := 0
  /-- ck at which the present wait began -/
  since     : Nat := 0
  bits      : Nat := 0
  data      : List Byte := []
  fail      : Nat := 0
  /-- the data command sent last is CMD18 or CMD25; RETRIES at the free point before the job (10 R292) -/
  many      : Bool := false
  retries   : Nat := 0
  deriving DecidableEq, Repr

/-- One ledger port (10 R266 to R293). -/
structure Port where
  cfg      : Word := 0x34C8000A#32
  /-- LP_CFG in effect since the last free point, EN apart (10 R292) -/
  live     : Word := 0x34C8000A#32
  timeout  : Word := 0x03E80064#32
  cmdErr   : CmdErr := .none
  busFault : Bool := false
  /-- no further job until IDENTIFY (10 R274 step 4) -/
  stuck    : Bool := false
  /-- RCAs of the unplaced cards -/
  strays   : List Nat := []
  div      : Nat := 1200
  /-- an identification has ended: rates follow R268 -/
  known    : Bool := false
  /-- ck at which Lp_CLK stops low; none while the last event of a command is to come (10 R271) -/
  clk      : Option Nat := some 0
  hs       : Bool := false
  width    : Nat := 0
  /-- an identification is wanted: true a port identification, false a runtime one -/
  want     : Option Bool := none
  /-- CMD1 runs since this ck: the positions taken in and the cards that will answer CMD2 -/
  ident    : Option (Nat × List Nat × List FoundCard) := none
  /-- cards that R270 still switches, and the step of the first; its busy since a ck; cards it owes after a removal -/
  switch   : Option (List Nat × Nat) := none
  swBusy   : Option Nat := none
  owed     : List Nat := []
  selected : Option Nat := none
  job      : Option LJob := none
  cleanup  : Option Nat := none
  checkUnplaced : Bool := false
  lastQp   : Nat := 511
  lastMirror : Bool := false
  deriving DecidableEq, Repr

end Sys2Proof.Machine
end

