-- ==== Sys2Proof/Machine/DictTypes.lean ====
section
/-! DEFINITION. The state behind the object dictionary, the mailbox and the log-ins (15), of the life cycle, the secret store and the
audit record (16). -/

namespace Sys2Proof.Machine

/-- One copy of a record of 15 Table 15-2, or of the life-cycle record: its VERSION and its value. A copy that is not valid is none. -/
structure RecCopy where
  version : Word
  value   : List Byte
  deriving DecidableEq, Repr

/-- The two copies of a record (15 R395, 16 R423). -/
structure Record where
  a : Option RecCopy := none
  b : Option RecCopy := none
  deriving DecidableEq, Repr

/-- Whether VERSION a is ahead of b (15 R396). -/
def versionAhead (a b : Word) : Bool := decide (1 ≤ (a - b).toNat ∧ (a - b).toNat ≤ 2 ^ 31 - 1)

/-- Whether neither VERSION is ahead (15 R396). -/
def Record.tied (r : Record) : Bool :=
  match r.a, r.b with
  | some x, some y => !versionAhead x.version y.version && !versionAhead y.version x.version
  | _, _ => false

/-- Whether the current copy is copy 1 (15 R396). -/
def Record.second (r : Record) : Bool :=
  match r.a, r.b with
  | none, some _ => true
  | some x, some y => versionAhead y.version x.version
  | _, _ => false

/-- The current copy (15 R396). -/
def Record.current (r : Record) : Option RecCopy := if r.second then r.b else r.a

/-- The record after a write of a value: to the copy that is not current, one VERSION on (15 R396). -/
def Record.write (r : Record) (v : List Byte) : Record :=
  match r.current with
  | none => { r with a := some { version := 1#32, value := v } }
  | some c => if r.second then { r with a := some { version := c.version + 1, value := v } } else { r with b := some { version := c.version + 1, value := v } }

/-- A pending challenge of a channel (15 R403): its bytes 0 to 57 and the tide at which it lapses. -/
structure Challenge where
  bytes : List Byte
  role  : Nat
  until_ : Tide
  deriving DecidableEq, Repr

/-- One channel of the host mailbox (15 R397, R398). -/
structure Mailbox where
  req     : Word := 0#32
  entry   : Word := 0#32
  handle  : Word := 0#32
  len     : Word := 0#32
  cmdErr  : CmdErr := .none
  busy    : Bool := false
  taken   : Bool := false
  /-- a measurement request has been started for the request (15 Table 15-17) -/
  started : Bool := false
  done    : Bool := false
  status  : Nat := 0
  rlen    : Nat := 0
  data    : Table Byte := []
  /-- order in which requests reached the service (15 R400) -/
  order   : Nat := 0
  challenge : Option Challenge := none
  fails   : Nat := 0
  lockedUntil : Option Tide := none
  deriving DecidableEq, Repr

/-- The life-cycle states (16 Table 16-7). -/
inductive LifeState where
  | blank | maker | installed | operational | service | retired
  deriving DecidableEq, Repr

/-- The code of a life-cycle state. -/
def LifeState.code : LifeState → Nat
  | .blank => 1 | .maker => 2 | .installed => 3 | .operational => 4 | .service => 5 | .retired => 6

/-- The fields of the life-cycle record (16 Table 16-10). wiping holds TARGET while PHASE is WIPING. -/
structure LifeRec where
  state       : LifeState := .blank
  wiping      : Option LifeState := none
  transitions : Nat := 0
  minVersion  : Word := 0#32
  imageKey    : List Byte := []
  deriving DecidableEq, Repr

/-- One copy of the life-cycle record, with its VERSION. -/
structure LifeCopy where
  version : Word
  r       : LifeRec
  deriving DecidableEq, Repr

/-- The audit record's run-time marks (16 R438): a run of drops goes on; AUDIT_FULL has been posted and not cleared. -/
structure AuditRun where
  dropping : Bool := false
  full     : Bool := false
  /-- the backlog has passed 256 and has not fallen since -/
  deep     : Bool := false
  /-- ck at which each entry of the backlog was committed, oldest first (16 R431) -/
  since    : List Nat := []
  deriving DecidableEq, Repr

/-- A declaration of the running image (16 Table 16-5). -/
structure Decl where
  index  : Nat
  sub    : Nat
  typ    : Nat
  maxLen : Nat
  access : Byte
  flags  : Byte
  dflt   : List Byte
  deriving DecidableEq, Repr

/-- A job of the public-key lane (16 R432), of a mailbox channel or of the crypto registers. -/
inductive LaneJob where
  | respond (c : Nat)
  | cred (c : Nat)
  | crypto
  deriving DecidableEq, Repr

/-- What the running image gave (16 R414 to R417) and what a start found. -/
structure LifeRun where
  place     : Nat := 0
  imgVersion : Word := 0#32
  digest    : List Byte := []
  pubkey    : List Byte := []
  /-- image places rejected in this start -/
  rejected  : Nat := 0
  booted    : Bool := false
  debugOpen : Bool := false
  wipeUs    : Word := 0#32
  /-- old state of a phase 2 committed in this start -/
  from_     : Option LifeState := none
  wipeFails : Nat := 0
  /-- a reset to be asserted: its source code (16 R409, R421) -/
  resetDue  : Option Nat := none
  keySelect : Nat := 0
  readSeq   : Nat := 0
  decls     : List Decl := []
  /-- the values of declared entries, keyed index * 256 + subindex -/
  vals      : Table (Option (List Byte)) := []
  /-- the public-key lane, first in, first out -/
  lane      : List LaneJob := []
  /-- an accepted opening of the debug port that has not ended: true by JTAG -/
  opening   : Option Bool := none
  rngFailed : Bool := false
  /-- ck at which the C counts were last written to MRAM (15 R392) -/
  countsAt  : Option Nat := none
  deriving DecidableEq, Repr

/-- The crypto registers (16 Table 16-12) and the operation in progress: its result bytes and whether it fails. -/
structure Crypto where
  key    : Nat := 0
  src    : Word := 0#32
  dst    : Word := 0#32
  len    : Nat := 0
  iv     : List Word := [0#32, 0#32, 0#32, 0#32]
  cmdErr : CmdErr := .none
  error  : Bool := false
  done   : Bool := false
  busy   : Bool := false
  result : Option (List Byte) := none
  fail   : Bool := false
  /-- the operation that runs (16 Table 16-13) -/
  op     : Nat := 0
  /-- transactions that asked the symmetric lane for a wrap or an unwrap, oldest first (16 R431) -/
  asked  : List Nat := []
  deriving DecidableEq, Repr

end Sys2Proof.Machine
end

