-- ==== Sys2Proof/Machine/LoopTypes.lean ====
section
/-! DEFINITION. The state of the loop-backs (17 R441 to R446) and of the test access port (17 R447 to R449). -/

namespace Sys2Proof.Machine

/-- The loop-back of one block of 17 Table 17-1. ctrl is the LOOP_CTRL word of the last accepted GO; result is LOOP_STATUS.RESULT. -/
structure LoopUnit where
  cmdErr : CmdErr := .none
  result : Nat := 0
  units  : Nat := 0
  errors : Nat := 0
  ctrl   : Word := 0#32
  deriving DecidableEq, Repr

/-- The test access port: the instruction register, whether an instruction that takes the pins is loaded, and the data register of MEM_ACCESS. -/
structure Tap where
  ir   : Byte := 1#8
  pins : Bool := false
  dr   : Word := 0#32
  err  : Bool := false
  deriving DecidableEq, Repr

end Sys2Proof.Machine
end

