-- ==== Sys2Proof/Machine/RingTypes.lean ====
section
/-! DEFINITION. The state of the Lyette ring (13) and of the tray bus (14). -/

namespace Sys2Proof.Machine

/-- One entry of an enumeration (13 Table 13-4) and of the master's member table (Table 13-15). -/
structure Member where
  serial : BitVec 64 := 0#64
  addr   : Nat := 0
  hop    : Nat := 0
  isNew  : Bool := false
  conflict : Bool := false
  noRoom : Bool := false
  failed : Bool := false
  delay  : Word := 0xFFFFFFFF#32
  deriving DecidableEq, Repr

/-- A dictionary access that this device carries out over the ring (13 R359, R361). -/
structure RingReq where
  /-- the mailbox channel that asked -/
  chan   : Path
  dst    : Nat
  write  : Bool
  role   : Nat
  index  : Nat
  sub    : Nat
  total  : Nat
  /-- the value to write, or what has been read of it -/
  data   : List Byte
  offset : Nat := 0
  seq    : BitVec 16
  tries  : Nat := 0
  sentAt : Nat
  deriving DecidableEq, Repr

/-- What a member remembers of one SRC (13 R359, R360): SEQs of accepted requests, the latest first, the response it gave to the
latest, and the segments of a write that have arrived in order. -/
structure RingPeer where
  seqs     : List (BitVec 16) := []
  response : Option Frame := none
  partial_ : List Byte := []
  /-- index * 256 + subindex of that write -/
  partOf   : Nat := 0
  deriving DecidableEq, Repr

/-- A symbol of the ring (13 Table 13-1) or a byte of a frame as a data code (13 R344). -/
inductive RingSymbol where
  | idle | skip | loss | sof | eof | abort
  | data (b : Byte)
  deriving DecidableEq, Repr

/-- A frame that waits for the transmitter (13 R346): its class, 1 a tide frame, 2 another forwarded frame, 3 an own frame; firm: it came through the
firmware's queue; at_: ck at which its SOF arrived or it was issued. -/
structure RingWait where
  cls   : Nat
  firm  : Bool := false
  frame : Frame
  at_   : Nat
  deriving DecidableEq, Repr

/-- The ring block (13 R349 to R364). -/
structure Ring where
  cfg      : Word := 0x0FA0A010#32
  cmdErr   : CmdErr := .none
  conflict : Bool := false
  noKey    : Bool := false
  /-- ADDR_STATE: 0 NONE, 1 BOUND, 2 CONFLICT, 3 NO_ROOM -/
  addrState : Nat := 0
  closed   : Bool := false
  /-- pass of the enumeration that runs, 0 none -/
  enumPass : Nat := 0
  /-- the hop under measurement, and how often it has been tried -/
  measure  : Option (Nat × Nat) := none
  /-- ck at which its MEASURE was issued -/
  measureAt : Nat := 0
  /-- this device measures its output link: the measurement window is open -/
  window   : Bool := false
  /-- its receiver takes part in a measurement and counts no loss of lock -/
  quiet    : Bool := false
  hold     : Bool := false
  stopped  : Bool := false
  rxLock   : Bool := false
  discard  : Bool := false
  left     : Bool := false
  releases : Nat := 0
  releasedAt : Option Nat := none
  unlockedAt : Nat := 0
  addr     : Nat := 0
  hop      : Nat := 0
  masterAddr : Nat := 0
  linkOut  : Word := 0xFFFFFFFF#32
  members  : List Member := []
  checkAt  : Option Nat := none
  launched : Tide := 0#64
  schedT   : Tide := 0#64
  schedCmd : Word := 0#32
  schedSlots : BitVec 64 := 0#64
  schedId  : Nat := 0
  result   : Nat := 0
  ack      : Nat := 0
  late     : Nat := 0
  /-- the SCHED payload in force, whether it has left, how often it was sent again, ck of its last sending -/
  sched    : Option (List Byte) := none
  schedSent : Bool := false
  resends  : Nat := 0
  schedAt  : Nat := 0
  /-- the last 16 SCHED_IDs acted on, and whether each was LATE (13 R363) -/
  acted    : List (Nat × Bool) := []
  /-- the next SEQ of each frame type (13 Table 13-2) -/
  seqs     : Table (BitVec 16) := []
  txSlot   : Table Byte := []
  txQ      : List Frame := []
  /-- frames that wait for the transmitter, and the ck at which the frame in progress ends (13 R346) -/
  waits    : List RingWait := []
  txUntil  : Nat := 0
  /-- received dictionary frames, each with its place in the order of requests (15 R400) -/
  rxQ      : List (Frame × Nat) := []
  peers    : Table RingPeer := []
  reqs     : List RingReq := []
  deriving DecidableEq, Repr

/-- A frame of FRAME mode in progress (14 R378, R380). sent bytes are of sync, PID and a PUBLISH response. -/
structure TrayFrame where
  cmd    : Word
  pid    : Byte
  /-- bytes still to send after the break, in order; the byte whose read-back is awaited -/
  toSend : List Byte
  echo   : Option Byte := none
  rx     : List Byte := []
  framing : Bool := false
  bitErr : Bool := false
  abort  : Bool := false
  /-- the break has not begun; a response byte has begun -/
  brk    : Bool := false
  begun  : Bool := false
  /-- ck at which the PID stop bit ends, and at which RESP_MAX expires -/
  pidEnd : Nat
  respEnd : Nat := 0
  /-- ck at which the stop bit of the last response byte ended -/
  rxEnd  : Nat := 0
  deriving DecidableEq, Repr

/-- What is latched at a start edge (14 R371, R377): 64 DIV_INT + DIV_FRAC, data bits and parity. -/
structure TrayLatch where
  q    : Nat := 49984
  data : Nat := 8
  par  : Nat := 0
  deriving DecidableEq, Repr

/-- A reception in progress: the ck of its start edge, what was latched there, and the readings from that edge on (14 R369). -/
structure TrayIn where
  start : Nat
  lat   : TrayLatch
  wave  : List LineRun
  deriving DecidableEq, Repr

/-- What firmware knows of one tray controller (14 R385). -/
structure TrayCtl where
  fails  : Nat := 0
  lost   : Bool := false
  /-- LOCKED as last shown, and LOCK as last commanded -/
  locked : Option Byte := none
  lock   : Byte := 0#8
  door   : Option Bool := none
  svc    : Option Bool := none
  deriving DecidableEq, Repr

/-- The tray block and the tray protocol (14 R366 to R388). -/
structure Tray where
  cfg     : Word := 0x182D0100#32
  rate    : Nat := 19200
  cmdErr  : CmdErr := .none
  divInt  : Nat := 781
  divFrac : Nat := 0
  fract   : Bool := false
  block   : Bool := false
  rxOvf   : Bool := false
  framing : Bool := false
  parity  : Bool := false
  rxLost  : Nat := 0
  lossRun : Bool := false
  txFifo  : List (BitVec 9) := []
  /-- breaks asked for: characters of the FIFO that go before each -/
  breaks  : List Nat := []
  /-- ck at which the character or break being sent ends -/
  txEnd   : Option Nat := none
  /-- ck at which it began -/
  txFrom  : Nat := 0
  /-- a start edge has come and its re-arm has not (RX_BUSY); the reception in progress; the line read low last -/
  rxBusy  : Bool := false
  rx      : Option TrayIn := none
  low     : Bool := false
  rxBase  : Word := 0x20000000#32
  rxCfg   : Word := 0x0000010A#32
  rxWr    : Nat := 0
  rxRd    : Nat := 0
  /-- words of the open block: they stand in the ring after RX_WR -/
  openWords : Nat := 0
  /-- ck at which the last received stop bit ended -/
  lastStop : Nat := 0
  frameCmd : Word := 0x00002200#32
  frameTx : BitVec 64 := 0#64
  result  : Word := 0#32
  frameRx : BitVec 64 := 0#64
  frame   : Option TrayFrame := none
  /-- ck before which the next break may not begin -/
  holdOff : Nat := 0
  seq     : Byte := 0#8
  cycleAt : Option Nat := none
  ctls    : Table TrayCtl := []
  deriving DecidableEq, Repr

end Sys2Proof.Machine
end

