-- ==== Sys2Proof/Machine/State.lean ====
section
/-! DEFINITION. The state of the DK6400 and its reset. -/

namespace Sys2Proof.Machine

/-- The faults of a step: the spec names no command that stops the device, so no meaning raises one. -/
inductive Fault where
  /-- raised by nothing (safe) -/
  | never
  deriving DecidableEq, Repr

/-- The refusals of a step. -/
inductive Refusal where
  /-- a command rejected by name in Dispatch.lean, and by no meaning (safe) -/
  | notModelled (mnemonic : String)
  deriving DecidableEq, Repr

/-- What a card set keeps in MRAM (08 R233): the cause of each OUT position (0: not OUT) and DIVERGED. -/
structure SetKeep where
  out : List Nat := [0, 0, 0, 0, 0, 0]
  diverged : Bool := false
  deriving DecidableEq, Repr

/-- What a secret-store reference holds (16 R428): type 0 nothing, 1 an AES-256 key, 2 a pair K_enc ‖ K_mac. -/
structure Secret where
  typ : Nat := 0
  key : List Byte := []
  deriving DecidableEq, Repr

/-- The contents of MRAM (16 Table 16-1). -/
structure Mram where
  journal : Table (Option JRec) := []
  acks : Table Nat := []
  gens : Table Byte := []
  drawn : Bool := false
  sets : Table SetKeep := []
  secrets : Table Secret := []
  /-- dictionary records, keyed index * 256 + subindex (15 R395); CID bindings and BSEQ reservations are among them (10 R273, R288) -/
  dict : Table Record := []
  /-- the bytes of the dictionary region (11 R308) -/
  dictMem : Table Byte := []
  /-- the telemetry and dictionary counts as last written (15 R392) -/
  telemetry : Table Nat := []
  counts : Table Nat := []
  /-- audit entries by position, SEQ of the next, SEQ and hash of the newest hashed, positions exported under 10 R289 (16 R434 to R438) -/
  audit : Table (List Byte) := []
  auditNext : Nat := 1
  auditHashed : Nat := 0
  auditHash : List Byte := []
  exported : Table Bool := []
  /-- the 64-bit words, by offset / 8, that hold an uncorrectable error (16 R408) -/
  bad : List Nat := []
  /-- the two copies of the life-cycle record (16 R423) -/
  lifeA : Option LifeCopy := none
  lifeB : Option LifeCopy := none
  deriving DecidableEq, Repr

/-- What left the device. -/
inductive Out where
  /-- response data posted to a buffer, or to the buffers of a list of segN descriptors whose lengths are lens (07 R206) -/
  | resp (p : Path) (ptr : BitVec 64) (segN : Nat) (lens : List Nat) (data : List Byte)
  /-- words posted to host memory (07 R206, R223) -/
  | write (p : Path) (addr : BitVec 64) (dws : List Word)
  | msix (p : Path) (vector : Nat)
  | chr (s : Nat) (levels : BitVec 9)
  /-- the character begun last on a slot is none: a quench is detected in the ck of its start bit (03 R68) -/
  | noChr (s : Nat)
  /-- an error signal driven on C7 for so many ck from a ck on (04 R107), and the level C7 keeps from a quench detection on: driven low or
  released (03 R68) -/
  | errSignal (s : Nat) (from_ len : Nat)
  | ioKeeps (s : Nat) (low : Bool)
  /-- a command on Lp_CMD, and a block written on Lp_DAT (10 Table 10-1) -/
  | ledgerCmd (p cmd : Nat) (arg : Word)
  | ledgerBlock (p : Nat) (data : List Byte)
  /-- a frame on the ring output (13 R347), and a level of SLUICE_HOLD -/
  | ring (f : Frame)
  /-- a character on TRAY_TXD, or a break of so many bits (14 R373) -/
  | tray (c : BitVec 9)
  | trayBreak (bits : Nat)
  deriving DecidableEq, Repr

/-- The DK6400: a block that takes commands from the queue `pending`. Sparse tables are keyed by slot, polder, timer, queue pair and so on, with
the structure's defaults for what they do not list. -/
structure State where
  /-- ck since the model began (log 4) -/
  now : Nat
  slots : Table Slot
  polders : Table Polder
  timers : Table Timer
  tide : TideUnit
  dev : Dev
  flow : Flow
  mram : Mram
  cores : Table Core
  coreCtl : CoreCtl
  /-- the 16 log-ins (15 R403) -/
  logins : Table Login
  boot : Boot
  /-- the slot telemetry counts, 64 i + c, and the other C counts of the dictionary, with their increments not yet written (15 R392) -/
  telemetry : Table Nat
  counts : Table Nat
  /-- the ledger ports, and the positions 4p + a -/
  ports : Table Port
  lpos : Table LPos
  /-- the mailbox channels: 0 A, 1 B; 2 the request of the ring receive queue that the service carries out -/
  mail : Table Mailbox
  audit : AuditRun
  life : LifeRun
  crypto : Crypto
  /-- the local SRAMs and the shared SRAM by physical address (11 Table 11-5) -/
  sram : Table Byte
  /-- the dictionary window as the newest stores left it, and the stores not yet committed: core and bytes (11 R308) -/
  dictView : Table Byte
  storeQ : List (Nat × List (Nat × Byte))
  ring : Ring
  tray : Tray
  /-- the loop-backs: polder p at p, ledger port p at 8 + p, the ring at 12, the tray bus at 13, the host paths at 14 -/
  loops : Table LoopUnit
  tap : Tap
  /-- the read latches of each agent (11 R302) -/
  latches : Table Word
  /-- what the last read command answered -/
  lastRead : Word
  /-- what left the device, oldest first (log 10) -/
  out : List Out
  /-- the MSI-X tables and pending bits of the two functions (07 R189) -/
  msix : Table Word
  pba : Table Bool
  /-- the MODEL's own field: how many free values have been drawn (logs 5, 7, 15) -/
  freeCount : Nat
  /-- the commands that wait, first in, first out -/
  pending : List Instr
  deriving DecidableEq, Repr

/-- A new device with reset source POWER asserted: MRAM as made, every register at its reset value, no command waiting (16 R409, R411; logs 1,
2). The commands POWER_RELEASE and those of the start sequence bring it up. -/
def State.reset : State where
  now := 0
  slots := []
  polders := []
  timers := []
  tide := {}
  dev := {}
  flow := {}
  mram := {}
  cores := []
  coreCtl := {}
  logins := []
  boot := { sources := [.power], slotHeld := true, cause := 1 }
  telemetry := []
  counts := []
  ports := []
  lpos := []
  mail := []
  audit := {}
  life := {}
  crypto := {}
  sram := []
  dictView := []
  storeQ := []
  ring := {}
  tray := {}
  loops := []
  tap := {}
  latches := []
  lastRead := 0#32
  out := []
  msix := []
  pba := []
  freeCount := 0
  pending := []

end Sys2Proof.Machine
end

