-- ==== Sys2Proof/Machine/Ops.lean ====
section
/-! DEFINITION. The named operations over State: table accessors, time, telemetry counts, interrupts, MSI-X, device events,
random numbers. -/

namespace Sys2Proof.Machine

/-- The answer of a command that completes. -/
abbrev nx (s : State) : Host.Outcome State Fault Refusal := .next s

/-! Accessors. -/

/-- Slot i. -/
def State.slot (s : State) (i : Nat) : Slot := tget {} s.slots i

/-- The state with slot i replaced. -/
def State.setSlot (s : State) (i : Nat) (x : Slot) : State := { s with slots := tset {} s.slots i x }

/-- The state with slot i changed by f. -/
def State.modSlot (s : State) (i : Nat) (f : Slot → Slot) : State := s.setSlot i (f (s.slot i))

/-- Polder p. -/
def State.polder (s : State) (p : Nat) : Polder := tget {} s.polders p

/-- The state with polder p changed by f. -/
def State.modPolder (s : State) (p : Nat) (f : Polder → Polder) : State :=
  { s with polders := tset {} s.polders p (f (s.polder p)) }

/-- Timer i: slot timer Tn of slot s is 3s + n, general timer Gn is 192 + n (05 R115). -/
def State.timer (s : State) (i : Nat) : Timer := tget {} s.timers i

/-- The state with timer i changed by f. -/
def State.modTimer (s : State) (i : Nat) (f : Timer → Timer) : State :=
  { s with timers := tset {} s.timers i (f (s.timer i)) }

/-- Queue pair q. -/
def State.qp (s : State) (q : Nat) : QPair := tget {} s.flow.qps q

/-- The state with queue pair q changed by f. -/
def State.modQp (s : State) (q : Nat) (f : QPair → QPair) : State :=
  { s with flow := { s.flow with qps := tset {} s.flow.qps q (f (s.qp q)) } }

/-- Entry t of the transaction table. -/
def State.txn (s : State) (t : Nat) : Option Txn := tget none s.flow.txns t

/-- The state with entry t of the transaction table set. -/
def State.setTxn (s : State) (t : Nat) (x : Option Txn) : State :=
  { s with flow := { s.flow with txns := tset none s.flow.txns t x } }

/-- The state with the transaction t, if there is one, changed by f. -/
def State.modTxn (s : State) (t : Nat) (f : Txn → Txn) : State := s.setTxn t ((s.txn t).map f)

/-- Session context i. -/
def State.session (s : State) (i : Nat) : Session := tget {} s.flow.sessions i

/-- The state with session context i set. -/
def State.setSession (s : State) (i : Nat) (x : Session) : State :=
  { s with flow := { s.flow with sessions := tset {} s.flow.sessions i x } }

/-- The generation of session context i (06 R185). -/
def State.gen (s : State) (i : Nat) : Byte := tget 0#8 s.mram.gens i

/-- The state with the generation of context i set. -/
def State.setGen (s : State) (i : Nat) (g : Byte) : State :=
  { s with mram := { s.mram with gens := tset 0#8 s.mram.gens i g } }

/-- Card set k. -/
def State.cset (s : State) (k : Nat) : CardSet := tget {} s.flow.sets k

/-- The state with card set k changed by f. -/
def State.modSet (s : State) (k : Nat) (f : CardSet → CardSet) : State :=
  { s with flow := { s.flow with sets := tset {} s.flow.sets k (f (s.cset k)) } }

/-- The state with the device block changed by f. -/
def State.modDev (s : State) (f : Dev → Dev) : State := { s with dev := f s.dev }

/-- The state with the tide unit changed by f. -/
def State.modTide (s : State) (f : TideUnit → TideUnit) : State := { s with tide := f s.tide }

/-- The local tide (05 R136). -/
abbrev State.ltide (s : State) : Tide := s.tide.val

/-! The outside. -/

/-- The state with o recorded as having left the device. Log 10. -/
def State.emit (s : State) (o : Out) : State := { s with out := s.out ++ [o] }

/-- Whether path p's link is up (07 R216). -/
def State.linkUp (s : State) : Path → Bool
  | .a => s.dev.linkA
  | .b => s.dev.linkB

/-- The other path. -/
def pathOther : Path → Path
  | .a => .b
  | .b => .a

/-- The path of a HOME bit: 0 A, 1 B. -/
def pathOf (b : Bool) : Path := if b then .b else .a

/-- The number of a path: 0 A, 1 B. -/
def pathNum : Path → Nat
  | .a => 0
  | .b => 1

/-- The path that carries the event ring: its HOME path while that link is up, otherwise the other (07 R223). -/
def State.evrPath (s : State) : Path :=
  let h := pathOf (bitOf s.dev.evrCfg 28)
  if s.linkUp h || !s.linkUp (pathOther h) then h else pathOther h

/-- Word i of the MSI-X table of path p; a Vector Control word resets to 1, masked (PRESUMED, PCI Express; log 12). -/
def State.msixWord (s : State) (p : Path) (i : Nat) : Word :=
  let raw := tget 0#32 s.msix (pathNum p * 4096 + i)
  if i % 4 = 3 then raw ^^^ 1#32 else raw


/-- The value of the dictionary count idx.sub (15 R392). -/
def State.tallyOf (s : State) (idx sub : Nat) : Nat := tget 0 s.counts (idx * 256 + sub)

/-- The dictionary count idx.sub rises by n; a U32 count saturates (15 R392). -/
def State.tally (s : State) (idx sub : Nat) (n : Nat := 1) (wide : Bool := false) : State :=
  let v := s.tallyOf idx sub + n
  { s with counts := tset 0 s.counts (idx * 256 + sub) (if wide then v else min v 0xFFFFFFFF) }

/-- Sends MSI-X vector v on path p, or marks it pending while its entry is masked or the link is down (07 R222). -/
def State.sendMsix (s : State) (p : Path) (v : Nat) : State :=
  if bitOf (s.msixWord p (4 * v + 3)) 0 || !s.linkUp p then { s with pba := tset false s.pba (pathNum p * 1024 + v) true }
  else (s.emit (.msix p v)).tally (0x1301 + pathNum p) 6 1 true

/-- A pending message of vector v on path p goes out, and its bit clears, where its entry is no longer masked and the link is up (07 R222). -/
def State.releaseMsix (s : State) (p : Path) (v : Nat) : State :=
  if tget false s.pba (pathNum p * 1024 + v) && !bitOf (s.msixWord p (4 * v + 3)) 0 && s.linkUp p then
    ({ s with pba := tset false s.pba (pathNum p * 1024 + v) false } : State).sendMsix p v
  else s

/-- Word i of the MSI-X table of path p is written; unmasking a vector sends its pending message (07 R222). -/
def State.setMsixWord (s : State) (p : Path) (i : Nat) (w : Word) : State :=
  ({ s with msix := tset 0#32 s.msix (pathNum p * 4096 + i) (if i % 4 = 3 then w ^^^ 1#32 else w) } : State).releaseMsix p (i / 4)

/-! Latching reads (11 R302): each core and each path has its own latches. -/

/-- The number of an agent. -/
def agentNum : Agent → Nat
  | .path .a => 0
  | .path .b => 1
  | .core k | .window k => 2 + k.val
  | .fw => 6

/-- What agent ag has latched for register key: a BAR0 offset, 0x40000 + t for TIM_COUNT of timer t, 0x50000 TIDE_STATUS.PHASE. -/
def State.latch (s : State) (ag : Agent) (key : Nat) : Word := tget 0#32 s.latches (agentNum ag * 1048576 + key)

/-- The state with that latch set. -/
def State.setLatch (s : State) (ag : Agent) (key : Nat) (w : Word) : State :=
  { s with latches := tset 0#32 s.latches (agentNum ag * 1048576 + key) w }

/-! Time. -/

/-- The tide unit d ck on: what is left of a pause, then the phase accumulator, nominal, trimmed by the rate, and slewed by 1 ck in every 64 tt
(05 R136, R141, R147). -/
def TideUnit.advance (u : TideUnit) (d : Nat) : TideUnit :=
  let p := if u.paused then min u.pauseLeft d else 0
  let r := d - p
  let acc := u.acc + r * u.rate
  let trim := acc / 1000000000
  let k : Int := min u.slew.natAbs ((u.slewAcc + r) / 1920)
  let sl : Int := if u.slew < 0 then -k else k
  let tot : Int := (u.phase + r : Nat) + trim - sl
  let ticks := tot.toNat
  { u with
    paused := u.paused && decide (d < u.pauseLeft), pauseLeft := u.pauseLeft - p
    acc := acc % 1000000000 + min tot 0 * 1000000000, slew := u.slew - sl, slewAcc := if u.slew - sl = 0 then 0 else (u.slewAcc + r) % 1920
    phase := ticks % 30, val := u.val + BitVec.ofNat 64 (ticks / 30), edges := u.edges + ticks / 30 }

/-- ck in one microsecond (00 Table 0-5). -/
abbrev us : Nat := 480

/-- ck in one millisecond. -/
abbrev ms : Nat := 480000

/-! Telemetry counts: 32 bits, saturating, kept across a device reset (03 R93, 04 R114, 06 R188). -/

/-- Telemetry count c of slot i: 1 to 11 quench causes, 12 DISCH_TIMEOUT, 13 SEEP_LEAK, 14 to 21 the character counts of 04 R114
in its order, 22 to 33 the protocol counts of 06 R188 in its order. -/
def State.count (s : State) (i c : Nat) : Nat := tget 0 s.telemetry (i * 64 + c)

/-- Count c of slot i rises by 1. -/
def State.bump (s : State) (i c : Nat) : State :=
  { s with telemetry := tset 0 s.telemetry (i * 64 + c) (satInc (s.count i c)) }

/-- Count c of slot i rises by n. -/
def State.bumpN (s : State) (i c n : Nat) : State :=
  { s with telemetry := tset 0 s.telemetry (i * 64 + c) (min (s.count i c + n) 0xFFFFFFFF) }

/-- The persisted value of the dictionary entry idx.sub, none where it has no valid record (15 R395, R396). -/
def State.dictVal (s : State) (idx sub : Nat) : Option (List Byte) := (tget {} s.mram.dict (idx * 256 + sub)).current.map (·.value)

/-- The persisted number of the dictionary entry idx.sub, d where it has no valid record. -/
def State.dictNum (s : State) (idx sub d : Nat) : Nat := match s.dictVal idx sub with | some v => ofLe v | none => d

/-- The state with a value persisted for the dictionary entry idx.sub (15 R396). -/
def State.persist (s : State) (idx sub : Nat) (v : List Byte) : State :=
  let k := idx * 256 + sub
  { s with mram := { s.mram with dict := tset {} s.mram.dict k ((tget {} s.mram.dict k).write v) } }

/-- Ledger port p (10). -/
def State.port (s : State) (p : Nat) : Port := tget {} s.ports p

/-- The state with ledger port p changed by f. -/
def State.modPort (s : State) (p : Nat) (f : Port → Port) : State := { s with ports := tset {} s.ports p (f (s.port p)) }

/-- Ledger position 4p + a (10). -/
def State.lp (s : State) (k : Nat) : LPos := tget {} s.lpos k

/-- The state with ledger position k changed by f. -/
def State.modLp (s : State) (k : Nat) (f : LPos → LPos) : State := { s with lpos := tset {} s.lpos k (f (s.lp k)) }

/-- POS_CFG.MODE in effect: 0 HOST, 1 MIRROR_JOURNAL, 2 MIRROR_AUDIT (10 R292). -/
def LPos.mode (x : LPos) : Nat := fld x.live 31 30

/-- Logical block b of every image of a kind is marked changed (10 R289). -/
def State.markChanged (s : State) (mode b : Nat) : State :=
  (List.range 16).foldl (fun s k =>
    if (s.lp k).mode = mode && !(s.lp k).dirty.contains b then s.modLp k fun x => { x with dirty := x.dirty ++ [b] } else s) s

/-! Loop-backs (17). -/

/-- The loop-back of block b. -/
def State.loop (s : State) (b : Nat) : LoopUnit := tget {} s.loops b

/-- The state with the loop-back of block b changed by f. -/
def State.modLoop (s : State) (b : Nat) (f : LoopUnit → LoopUnit) : State := { s with loops := tset {} s.loops b (f (s.loop b)) }

/-- A loop-back runs. -/
def LoopUnit.running (u : LoopUnit) : Bool := u.result = 1

/-- LOOP_CTRL.DEPTH: 1 ENGINE, 2 PAD, 3 PROTOCOL, 4 FAR. -/
def LoopUnit.depth (u : LoopUnit) : Nat := fld u.ctrl 10 8

/-- LOOP_CTRL.INDEX. -/
def LoopUnit.index (u : LoopUnit) : Nat := fld u.ctrl 2 0

/-- A loop-back runs on slot i. -/
def State.slotLoop (s : State) (i : Nat) : Bool := (s.loop (i / 8)).running && (s.loop (i / 8)).index = i % 8

/-- The loop-back of block b, if it runs, ends with a result: 2 PASS, 3 FAIL, 4 ABORTED, 5 TRIP (17 R443). -/
def State.endLoop (s : State) (b r : Nat) : State := s.modLoop b fun u => if u.running then { u with result := r } else u

/-- The keep condition of a loop-back of block b fails, of FAR or of another depth: it ends ABORTED (17 R443, Table 17-4). -/
def State.failLoop (s : State) (b : Nat) (far : Bool) : State := if ((s.loop b).depth == 4) == far then s.endLoop b 4 else s

/-! The symmetric lane (16 R431). -/

/-- Transaction t asks the symmetric lane for a wrap or an unwrap (06 R186, 16 R431). -/
def State.askLane (s : State) (t : Nat) : State := { s with crypto := { s.crypto with asked := s.crypto.asked.erase t ++ [t] } }

/-! Interrupt sources and events. -/

/-- An event of device interrupt source n (07 R222). -/
def State.irq (s : State) (n : Nat) : State :=
  if s.dev.irqStatus.getLsbD n then s
  else
    let s1 := s.modDev fun d => { d with irqStatus := d.irqStatus ||| (1#16 <<< n) }
    if s1.dev.irqMask.getLsbD n then s1 else s1.sendMsix s1.evrPath (513 + n)

/-- Posts an event, or drops it where the queue of 256 is full (07 R225). -/
def State.postEv (s : State) (e : Event) : State :=
  if s.dev.evq.length < 256 then s.modDev fun d => { d with evq := d.evq ++ [e] }
  else (s.modDev fun d => { d with evrLost := satInc d.evrLost }).irq 0

/-- Posts a general event at the present tide (07 Table 7-21). -/
def State.post (s : State) (typ source code : Nat) (data : List Word := []) : State :=
  s.postEv { typ := typ, source := source, code := code, tide := s.ltide, data := data }

/-! Anvil cores and their interrupt lines. -/

/-- Core k. -/
def State.core (s : State) (k : Nat) : Core := tget {} s.cores k

/-- The state with core k changed by f. -/
def State.modCore (s : State) (k : Nat) (f : Core → Core) : State := { s with cores := tset {} s.cores k (f (s.core k)) }

/-- Line n becomes pending at core k (11 R316). -/
def State.pend (s : State) (k n : Nat) : State := s.modCore k fun c => { c with irqPend := c.irqPend ||| (1#64 <<< n) }

/-- An event on interrupt line n: pending at the core IRQ_ROUTE names where EN is 1; lines 48 to 51 go to cores 0 to 3 (11 R316). -/
def State.line (s : State) (n : Nat) : State :=
  if 48 ≤ n ∧ n ≤ 51 then s.pend (n - 48) n
  else
    let r := tget 0#3 s.coreCtl.route n
    if r.getLsbD 2 then s.pend (r.toNat % 4) n else s

/-- What secret-store reference r holds (16 R428). -/
def State.secret (s : State) (r : Nat) : Secret := tget {} s.mram.secrets r

/-! The life-cycle record (16 R418, R423). -/

/-- Whether the current copy of the life-cycle record is copy 1 (15 R396). -/
def State.lifeSecond (s : State) : Bool :=
  match s.mram.lifeA, s.mram.lifeB with
  | none, some _ => true
  | some x, some y => versionAhead y.version x.version
  | _, _ => false

/-- The current copy of the life-cycle record. -/
def State.lifeCurrent (s : State) : Option LifeCopy := if s.lifeSecond then s.mram.lifeB else s.mram.lifeA

/-- The life-cycle record in force: BLANK with MIN_VERSION 0 where no copy is valid (16 R423). -/
def State.lifeRec (s : State) : LifeRec := match s.lifeCurrent with | some c => c.r | none => {}

/-- The life-cycle state in force (16 R418, R424). -/
def State.lifeState (s : State) : LifeState := s.lifeRec.state

/-- Commits the life-cycle record: to the copy that is not current, one VERSION on (16 R423, 15 R396). -/
def State.writeLife (s : State) (r : LifeRec) : State :=
  match s.lifeCurrent with
  | none => { s with mram := { s.mram with lifeA := some { version := 1#32, r := r } } }
  | some c =>
    if s.lifeSecond then { s with mram := { s.mram with lifeA := some { version := c.version + 1, r := r } } }
    else { s with mram := { s.mram with lifeB := some { version := c.version + 1, r := r } } }

/-! Write grants. -/

/-- The grant of path p: the highest role among the live log-ins made on its channel, 0 none (07 R191, 15 R397). -/
def State.grant (s : State) (p : Path) : Nat :=
  s.logins.foldl (fun m e => if e.2.live && e.2.chan = p then max m e.2.role else m) 0

/-- The role of the live log-in a handle names: index in [3:0], generation in [11:4] (15 R403); none where it names none. -/
def State.loginRole (s : State) (h : Word) : Option Nat :=
  let e := tget {} s.logins (h.toNat % 16)
  if h.toNat < 4096 && e.live && e.gen = h.toNat / 16 then some e.role else none

/-- Marks WDENY of path p (07 R191). -/
def State.wdeny (s : State) (p : Path) : State :=
  (s.tally (0x1301 + pathNum p) 4).modDev fun d => match p with | .a => { d with wdenyA := true } | .b => { d with wdenyB := true }

/-- Runs f where the agent's write is granted role g; else the write is discarded and WDENY set (07 R191). A core and firmware
need no grant. -/
def State.granted (s : State) (ag : Agent) (g : Nat) (f : State → State) : State :=
  match ag with
  | .path p => if g ≤ s.grant p then f s else s.wdeny p
  | _ => f s

/-! Random numbers: free values. -/

/-- The next random word. Log 5. -/
def State.rand (s : State) : Word × State := (Config.random s.freeCount, { s with freeCount := s.freeCount + 1 })

/-- The next free value. Log 15. -/
def State.free (s : State) : Word × State := (Config.freeValue s.freeCount, { s with freeCount := s.freeCount + 1 })

/-- n random bytes. Log 5. -/
def State.randBytes (s : State) : Nat → List Byte × State
  | 0 => ([], s)
  | n + 1 =>
    let r := s.rand
    let t := r.2.randBytes n
    (r.1.setWidth 8 :: t.1, t.2)

/-- Applies f for each number of a list in order. -/
def State.forEach (s : State) (l : List Nat) (f : State → Nat → State) : State := l.foldl f s

end Sys2Proof.Machine
end

