-- ==== Sys2Proof/Machine/Timers.lean ====
section
/-! DEFINITION. The 208 timers (05 R115 to R135, R147, R149) and the passing of time: counting, compare, capture, links, make-up, and the commands of
a timer. -/

namespace Sys2Proof.Machine

/-- The place of a timer among the 208: slot timer Tn of slot s is 3s + n, Gn is 192 + n. -/
def timerIdx : TimerId → Nat
  | .slot s n => 3 * s.val + n.val
  | .gen n => 192 + n.val

/-- TIM_CFG.SRC. -/
def Timer.src (x : Timer) : Nat := fld x.cfg 6 4
/-- TIM_CFG.CMP_EN. -/
def Timer.cmpEn (x : Timer) : Bool := bitOf x.cfg 14
/-- TIM_CFG.GATE_MODE. -/
def Timer.gate (x : Timer) : Nat := fld x.cfg 22 21
/-- TIM_CFG.TRIG. -/
def Timer.trig (x : Timer) : Nat := fld x.cfg 27 24
/-- TIM_CFG.CAP_SRC. -/
def Timer.capSrc (x : Timer) : Nat := fld x.cfg 31 28
/-- The period P. -/
def Timer.period (x : Timer) : Nat := x.reload + 1
/-- Whether the compare can fire: CMP_EN at 1 and CMP not above RELOAD (05 R123). -/
def Timer.cmpOn (x : Timer) : Bool := x.cmpEn && x.cmp ≤ x.reload

/-- How far count c lies past CMP, modulo P. -/
def Timer.past (x : Timer) (c : Nat) : Nat := (c + x.period - x.cmp % x.period) % x.period

/-- Whether count c lies in the compare window (05 R123). -/
def Timer.inWindow (x : Timer) (c : Nat) : Bool := x.past c < (x.period + 1) / 2

/-- The master of timer t (05 R128), none where TIM_CFG names none. -/
def State.masterOf (s : State) (t : Nat) : Option Nat :=
  let m := fld (s.timer t).cfg 20 17
  if t < 192 then (if 3 * (t / 3) + m < t then some (3 * (t / 3) + m) else none) else (if 192 + m < t then some (192 + m) else none)

/-- The timers whose master is t. -/
def State.slaves (s : State) (t : Nat) : List Nat :=
  ((if t < 192 then [3 * (t / 3), 3 * (t / 3) + 1, 3 * (t / 3) + 2] else (List.range 16).map (192 + ·)).filter fun i => s.masterOf i = some t)

/-- The interrupt line of timer t (11 Table 11-8). -/
def timerLine (t : Nat) : Nat := if t < 192 then 24 + t / 24 else t - 192

/-- The interrupt of a wrap (bit 7), compare (bit 8) or capture (bit 9) of timer t, where IRQ_EN has it (11 R316). -/
def State.timerIrq (s : State) (t bit : Nat) : State := if bitOf (s.timer t).cfg bit then s.line (timerLine t) else s

/-- A capture of timer t from source src (05 R126, R127). -/
def State.capture (s : State) (t src : Nat) : State :=
  let x := s.timer t
  if x.capSrc = src ∧ src ≠ 0 then
    (s.modTimer t fun x =>
      if x.caps.length < 8 then { x with caps := x.caps ++ [(x.count, src)] }
      else { x with capOvf := true, capLost := min (x.capLost + 1) 255 }).timerIrq t 9
  else s

/-- The source event src on the three timers of slot i (05 Table 5-3). -/
def State.captureSlot (s : State) (i src : Nat) : State := ((s.capture (3 * i) src).capture (3 * i + 1) src).capture (3 * i + 2) src

/-- The source event src on every timer (05 Table 5-3). -/
def State.captureAll (s : State) (src : Nat) : State := s.forEach (s.timers.map (·.1)) fun s t => s.capture t src

/-- The timer with its compare re-armed where the count lies outside the window, and OUT at the level of 05 R124 where no compare can fire
(05 R123, R124). -/
def Timer.level (x : Timer) : Timer :=
  { x with
    armed := x.armed || (x.cmpOn && x.count ≤ x.reload && !x.inWindow x.count)
    out := x.en && (!x.cmpOn || x.out) }

/-- A compare event (05 R123 to R125). -/
def Timer.fire (x : Timer) : Timer :=
  { x with cmpEvt := true, out := false, armed := bitOf x.cfg 15,
           cmp := if bitOf x.cfg 15 then (x.cmp + x.interval) % x.period else x.cmp }

/-- Whether a compare fires at the present count: running, armed, in the window (05 R123). Log 119. -/
def Timer.hit (x : Timer) : Bool := x.en && x.armed && x.cmpOn && x.count ≤ x.reload && x.inWindow x.count

/-- One tick (05 R120, R121, R123, R124): the timer after it, whether it wrapped, and whether a compare fired. -/
def Timer.tick (x : Timer) : Timer × Bool × Bool :=
  let w := x.reload ≤ x.count
  let stop := bitOf x.cfg 16 && w
  let x1 := ({ x with count := if w then 0 else x.count + 1, wrapEvt := x.wrapEvt || w, out := x.out || w } : Timer).level
  let c := x1.hit
  let x2 := if c then x1.fire else x1
  ({ x2 with en := x2.en && !stop, out := x2.out && !stop }, w, c)

/-- k ticks in which neither a wrap nor a compare falls. -/
def Timer.advance (x : Timer) (k : Nat) : Timer :=
  if k = 0 then x
  else { x with count := x.count + k, armed := x.armed || (x.cmpOn && !(x.inWindow x.count && x.past x.count + k < (x.period + 1) / 2)) }

/-- n source events through the prescaler: the ticks they make, and the timer with the new residue. The tick in progress completes at the old
PRESC (05 R119). -/
def Timer.absorb (x : Timer) (n : Nat) : Nat × Timer :=
  if x.residue + n < 2 ^ x.presc then (0, { x with residue := x.residue + n })
  else
    let m := x.residue + n - 2 ^ x.presc
    let q := fld x.cfg 3 0
    (1 + m / 2 ^ q, { x with residue := m % 2 ^ q, presc := q })

/-- Source events until the k-th tick from now, k at least 1. -/
def Timer.eventsFor (x : Timer) (k : Nat) : Nat := 2 ^ x.presc - x.residue + (k - 1) * 2 ^ fld x.cfg 3 0

/-- n ticks applied in one pk, as a make-up or a master that passed n wraps brings them (05 R134): the timer, the wraps passed and whether a compare
fired. A wrap under ONE_SHOT ends the count. -/
def Timer.ticks (x : Timer) (n0 : Nat) : Timer × Nat × Bool :=
  let n := if bitOf x.cfg 16 then min n0 (if x.reload < x.count then 1 else x.period - x.count) else n0
  if n = 0 then (x, 0, false)
  else if n = 1 then
    let r := x.tick
    (r.1, b2n r.2.1, r.2.2)
  else
    let above := x.reload < x.count
    let wraps := if above then 1 + (n - 1) / x.period else (x.count + n) / x.period
    let c0 := if above then (n - 1) % x.period else (x.count + n) % x.period
    let stop := bitOf x.cfg 16 && decide (0 < wraps)
    let first := if above then 0 else (x.count + 1) % x.period
    let hit := x.cmpOn && decide ((x.cmp + x.period - first) % x.period < n)
    let x1 := { x with count := c0, wrapEvt := x.wrapEvt || decide (0 < wraps), en := x.en && !stop }
    let x2 := if hit then x1.fire else x1
    ({ x2 with out := x2.en && (!x.cmpOn || c0 < x.cmp), armed := (x2.armed && !hit) || bitOf x.cfg 15 && hit || (x2.cmpOn && !x2.inWindow c0) }, wraps, hit)

mutual
/-- n source events reach timer t: whole ticks count, and its wraps and compares act on its slaves in the same pk (05 R119, R128, R129). `fuel` bounds
the chain of links, at most 16 timers. -/
def State.feed (fuel : Nat) (s : State) (t n : Nat) : State :=
  match fuel with
  | 0 => s
  | f + 1 =>
    let x := s.timer t
    let open_ := x.en && (x.gate ≠ 1 || (match s.masterOf t with | some m => (s.timer m).out | none => false))
    if !open_ || n = 0 then s
    else
      let m := x.absorb n
      let r := m.2.ticks m.1
      State.timerEvents f (s.modTimer t fun _ => r.1) t r.2.1 r.2.2
/-- Timer t passed w wraps and, if c, a compare: interrupts and slaves (05 R120, R123, R128 to R130). OUT of a timer that a trigger
starts goes high, as at START (log 119). -/
def State.timerEvents (fuel : Nat) (s : State) (t w : Nat) (c : Bool) : State :=
  match fuel with
  | 0 => s
  | f + 1 =>
    let s1 := if 0 < w then s.timerIrq t 7 else s
    let s2 := if c then s1.timerIrq t 8 else s1
    s2.forEach (s2.slaves t) fun s i =>
      let x := s.timer i
      let s3 := if x.src = 5 then State.feed f s i w else if x.src = 6 && c then State.feed f s i 1 else s
      let trg := (x.trig = 0 && 0 < w) || (x.trig = 1 && c)
      let s4 := if trg then s3.modTimer i fun x =>
          let x1 := if x.gate = 2 then { x with en := true, out := if x.en then x.out else true } else x
          if bitOf x.cfg 23 then { x1 with count := 0, residue := 0, armed := true } else x1
        else s3
      let s5 := if c then s4.capture i 7 else s4
      if 0 < w then s5.capture i 8 else s5
end

/-- A trigger of tide alarm n on every timer (05 R130, R144): triggers whose TRIG names it, and captures. -/
def State.alarmTriggers (s : State) (n : Nat) : State :=
  s.forEach (s.timers.map (·.1)) fun s i =>
    let x := s.timer i
    if x.trig = 8 + n then
      let s1 := s.modTimer i fun x =>
        let x1 := if x.gate = 2 then { x with en := true, out := if x.en then x.out else true } else x
        if bitOf x.cfg 23 then { x1 with count := 0, residue := 0, armed := true } else x1
      s1.capture i 6
    else s

/-- The bound of a chain of links: two for each of 16 timers and one more. -/
abbrev linkFuel : Nat := 34

/-- Ticks until the next compare of timer x can fire while it counts alone; 0 at the next pk edge without a tick; none where it never fires before a
further wrap. -/
def Timer.toCompare (x : Timer) : Option Nat :=
  if !x.cmpOn || x.reload < x.count then none
  else if x.armed && x.inWindow x.count then some 0
  else if x.past x.count = 0 then some x.period
  else some (x.period - x.past x.count)

/-- Ticks until timer x wraps. -/
def Timer.toWrap (x : Timer) : Nat := if x.reload < x.count then 1 else x.period - x.count

/-- Ticks until timer x wraps or a compare of it may fire, at least 1. -/
def Timer.toEvent (x : Timer) : Nat :=
  match x.toCompare with
  | some (k + 1) => min (k + 1) x.toWrap
  | _ => x.toWrap

/-- Whether the source of timer t has stopped (05 Table 5-2). -/
def State.stopped (s : State) (t : Nat) : Bool :=
  let x := s.timer t
  let g := fld x.cfg 12 10
  match x.src with
  | 0 | 1 => 4 ≤ g && (s.core (g - 4)).run = .sleep
  | 2 => false
  | 3 | 4 => !(s.slot (t / 3)).seq.clkRun
  | _ => match s.masterOf t with | some m => !(s.timer m).en | none => true

/-- Whether timer t counts a source of its own: enabled, its gate open, its source running. -/
def State.counting (s : State) (t : Nat) : Bool :=
  let x := s.timer t
  x.en && !s.stopped t && x.src < 5 && (x.gate ≠ 1 || (match s.masterOf t with | some m => (s.timer m).out | none => false))

/-- Rising edges of the slow clock up to ck t: 32,768 in 480,000,000 ck, the first after ck 0 (05 Table 5-2; log 120). -/
def slowEdges (t : Nat) : Nat := t * 32768 / 480000000

/-- Source events of timer t in the d ck from now (05 Table 5-2, R118, R147). -/
def State.sourceCount (s : State) (t d : Nat) : Nat :=
  let y := s.slot (t / 3)
  match (s.timer t).src with
  | 0 => (s.now + d) / 2 - s.now / 2
  | 1 => (s.tide.advance d).edges - s.tide.fed
  | 2 => slowEdges (s.now + d) - slowEdges s.now
  | 3 => y.risesBy (s.now + d) - y.risesBy s.now
  | 4 => y.ch.etu.boundsBy (s.now + d - y.gridFrom) - y.ch.etu.boundsBy (s.now - y.gridFrom)
  | _ => 0

/-- The least number above b, of at most 2^n above it, that p holds of, p rising. -/
def leastFrom (p : Nat → Bool) : Nat → Nat → Nat
  | 0, b => b + 1
  | n + 1, b => if p (b + 2 ^ n) then leastFrom p n b else leastFrom p n (b + 2 ^ n)

/-- ck until n source events of timer t have come, if they come within d ck. -/
def State.timeTo (s : State) (t n d : Nat) : Option Nat :=
  if n ≤ s.sourceCount t d then some (min d (leastFrom (fun k => n ≤ s.sourceCount t k) (d.log2 + 1) 0)) else none

/-- ck until the next pk edge, at least 1: the peripheral domain takes in there what was written since the last (05 R122). -/
def State.toPk (s : State) : Nat := 2 * (s.now / 2 + 1) - s.now

/-- ck until timer t next has something to do within d ck: its start, a compare without a tick, a staged write, a wrap or a compare. -/
def State.timerStop (s : State) (d t : Nat) : Nat :=
  let x := s.timer t
  let a := match x.enAt with | some v => if s.now < v then v - s.now else 1 | none => d
  let b := if x.lostAt.isSome || x.reloadNext.isSome || (x.hit && !s.stopped t) then s.toPk else d
  let c := if s.counting t then (s.timeTo t (x.eventsFor x.toEvent) d).getD d else d
  min a (min b c)

/-- ck until the next moment, within d ck, at which a timer has something to do. -/
def State.nextStop (s : State) (d : Nat) : Nat := s.timers.foldl (fun m e => min m (s.timerStop d e.1)) d

/-- What the time now does to timer t, n source events on: the ticks they make, less one lost to a write of TIM_COUNT; a staged RELOAD; a compare at a
pk edge; its start by the slot logic (05 R120 to R123, 06 R154). -/
def State.tickTimer (s : State) (t n : Nat) : State :=
  let x := s.timer t
  let m := x.absorb n
  let lost := x.lostAt.isSome && decide (1 ≤ m.1)
  let k := if lost then m.1 - 1 else m.1
  let x1 := { m.2 with lostAt := match x.lostAt with | some v => if lost || v ≤ s.now then none else some v | none => none }
  let r := if k = 0 then (x1, false, false) else (x1.advance (k - 1)).tick
  let y := match r.1.reloadNext with
    | some (v, c) => if c ≤ s.now then { r.1 with reload := v, reloadNext := none : Timer }.level else r.1
    | none => r.1
  let z := s.modTimer t fun _ => y
  let c := !r.2.2 && s.now % 2 = 0 && y.hit && !z.stopped t
  let y1 := if c then y.fire else y
  let y2 := match y1.enAt with
    | some v => if v ≤ s.now then { y1 with en := true, out := true, enAt := none } else y1
    | none => y1
  State.timerEvents linkFuel (s.modTimer t fun _ => y2) t (b2n r.2.1) (r.2.2 || c)

/-- k ck in which no timer has anything to do before their end; the timers with higher numbers first, so that what a master does in a pk comes after
the slave's own tick (05 R128, R130). -/
def State.timePass (s : State) (k : Nat) : State :=
  let l := s.timers.map fun e => (e.1, if s.counting e.1 then s.sourceCount e.1 k else 0)
  let u := s.tide.advance k
  let s1 := { s with now := s.now + k, tide := { u with fed := u.edges } }
  l.reverse.foldl (fun s e => s.tickTimer e.1 e.2) s1

/-- The rate of the source of timer t, in events per second, as a fraction (05 R133). -/
def State.rateOf (s : State) (t : Nat) : Nat × Nat :=
  let y := s.slot (t / 3)
  match (s.timer t).src with
  | 0 => (240000000, 1)
  | 1 => (16000000, 1)
  | 3 => (480000000, y.divNow s.now)
  | 4 => (480000000 * y.ch.etu.den, y.ch.etu.num)
  | _ => (0, 1)

/-- Timer t falls asleep where its source has stopped, or wakes where it runs again: a MAKEUP timer then makes up, in one pk, the ticks it missed over S
rising edges of the slow clock (05 R132 to R134). -/
def State.wakeTimer (s : State) (t : Nat) : State :=
  let x := s.timer t
  if !x.en then s.modTimer t fun x => { x with sleptAt := none }
  else if s.stopped t then
    match x.sleptAt with
    | some _ => s
    | none => s.modTimer t fun x => { x with sleptAt := some s.now, sleptRate := s.rateOf t }
  else
    match x.sleptAt with
    | none => s
    | some v =>
      if bitOf x.cfg 13 then
        let e := min (slowEdges s.now - slowEdges v) 0xFFFFFFFF
        let a := e * x.sleptRate.1 / (32768 * x.sleptRate.2)
        let m := x.absorb a
        let y := m.2.ticks m.1
        let x1 := { y.1 with
          sleptAt := none, makeup := true, makeupTicks := m.1 % 2 ^ 32,
          multiWrap := x.multiWrap || decide (1 < y.2.1), makeupSat := x.makeupSat || decide (e = 0xFFFFFFFF) }
        State.timerEvents linkFuel (s.modTimer t fun _ => x1) t y.2.1 y.2.2
      else s.modTimer t fun x => { x with sleptAt := none }

/-- Every timer falls asleep or wakes as its source now stands. -/
def State.wakeTimers (s : State) : State := s.forEach (s.timers.map (·.1)) State.wakeTimer

/-- d ck pass in at most `fuel` slices. -/
def State.pass : Nat → State → Nat → State
  | 0, s, _ => s
  | f + 1, s, d =>
    if d = 0 then s
    else
      let s1 := s.wakeTimers
      let k := min d (max 1 (s1.nextStop d))
      State.pass f (s1.timePass k) (d - k)

/-- d ck pass: the tide advances and the timers count (05 R117, R136, R147). Log 4. -/
def State.elapse (s : State) (d : Nat) : State := State.pass d s d

/-- Time passes until ck t, if t is not past. Log 4. -/
def State.elapseTo (s : State) (t : Nat) : State := s.elapse (t - s.now)

/-- Time passes until d ck have passed since a ck, if there is one. Log 4. -/
def State.elapseSince (s : State) (o : Option Nat) (d : Nat) : State := match o with | some t => s.elapseTo (t + d) | none => s

/-- ck until n source events of timer t, n at least 1, while nothing but time acts: by its own source, or by the wraps or compares of its master. -/
def State.dueIn (fuel : Nat) (s : State) (t n : Nat) : Option Nat :=
  match fuel with
  | 0 => none
  | f + 1 =>
    let x := s.timer t
    if s.counting t then s.timeTo t n (2 ^ (n.log2 + 25) + s.tide.pauseLeft)
    else if x.en && 5 ≤ x.src then
      match s.masterOf t with
      | none => none
      | some m =>
        let y := s.timer m
        let k := if x.src = 5 then some (y.toWrap + (n - 1) * y.period) else y.toCompare.map fun c => c + (n - 1) * y.period
        match k with
        | none => none
        | some 0 => some s.toPk
        | some (k + 1) => s.dueIn f m (y.eventsFor (k + 1))
    else none

/-- TIMER_WRAP (05 R120): time passes until the timer has counted to its wrap. Log 3, 4. -/
def execTimerWrap (t : TimerId) (s : State) : Host.Outcome State Fault Refusal :=
  let i := timerIdx t
  match s.dueIn 17 i ((s.timer i).eventsFor (s.timer i).toWrap) with
  | some d => nx (s.elapse d)
  | none => nx s

/-- TIMER_COMPARE (05 R123): time passes until the count reaches the window of an armed compare. Log 3, 4. -/
def execTimerCompare (t : TimerId) (s : State) : Host.Outcome State Fault Refusal :=
  let i := timerIdx t
  if (s.timer i).hit && !s.stopped i then nx (s.elapse s.toPk)
  else
    match (s.timer i).toCompare with
    | some (k + 1) =>
      match s.dueIn 17 i ((s.timer i).eventsFor (k + 1)) with
      | some d => nx (s.elapse d)
      | none => nx s
    | _ => nx s

/-- TIMER_CAPTURE (05 R126): after dt ck, an event of source src that no other command brings: the start edge of a character that a loop-back receives
(1) or transmits (2) on the timer's slot. Log 121. -/
def execTimerCapture (t : TimerId) (src : BitVec 4) (dt : Nat) (s : State) : Host.Outcome State Fault Refusal :=
  let i := timerIdx t
  if i < 192 && s.slotLoop (i / 3) && (src = 1#4 || src = 2#4) then nx ((s.elapse dt).capture i src.toNat) else nx s

/-- TIMER_MAKEUP (05 R133, R134): a MAKEUP timer whose source has resumed, dt ck from now. Log 3. -/
def execTimerMakeup (t : TimerId) (dt : Nat) (s : State) : Host.Outcome State Fault Refusal :=
  let i := timerIdx t
  let r := s.elapse dt
  if r.stopped i then nx r else nx (r.wakeTimer i)

/-! Register accesses of a timer. -/

/-- Whether agent ag may write timer t now (05 Table 5-1). -/
def State.timerWritable (s : State) (ag : Agent) (t : Nat) : Bool :=
  if t < 192 then
    if t % 3 < 2 then
      match (s.slot (t / 3)).st with
      | .activating | .atr | .negotiating | .ready | .busy | .clockstop => false
      | _ => true
    else
      match (List.range 4).find? fun k => (s.core k).scrBind.getLsbD (t / 3), ag with
      | none, _ => true
      | some k, .window j => k = j.val
      | some _, _ => false
  else match ag with
    | .path _ => false
    | _ => true

/-- Sets TIM_STATUS.CMD_ERR of timer t. -/
def State.timErr (s : State) (t : Nat) (e : CmdErr) : State := s.modTimer t fun x => { x with cmdErr := e }

/-- A write to timer t: grant, then the check e, then ownership, then the effect f (05 R116, R149, 07 R191). -/
def State.timerWrite (s : State) (ag : Agent) (t : Nat) (e : CmdErr) (f : State → State) : State :=
  s.granted ag (if t < 192 then 1 else 0) fun s =>
    if e ≠ .none then s.timErr t e
    else if s.timerWritable ag t then f (s.timErr t .none) else s.timErr t .state

/-- The effect of a TIM_CTRL word on timer t (05 Table 5-9). -/
def State.timCtrl (s : State) (t : Nat) (w : Word) : State :=
  let s1 := if bitOf w 1 then s.modTimer t fun x => { x with en := false, out := false, enAt := none } else s
  let s2 := if bitOf w 2 then s1.modTimer t fun x => { x with caps := [], capLost := 0 } else s1
  let s3 := if bitOf w 0 then s2.modTimer t fun x => { x with en := true, residue := 0, presc := fld x.cfg 3 0, out := true, enAt := none } else s2
  if bitOf w 3 then s3.capture t 9 else s3

/-- A write of TIM_CTRL (05 R149): START with STOP is MULTIPLE. -/
def State.writeTimCtrl (s : State) (ag : Agent) (t : Nat) (w : Word) : State :=
  s.timerWrite ag t (if bitOf w 0 && bitOf w 1 then .multiple else .none) fun s => s.timCtrl t w

/-- TIM_CTRL START (05 R120). -/
def execStart (ag : Agent) (t : TimerId) (w : Word) (s : State) : Host.Outcome State Fault Refusal :=
  nx (s.writeTimCtrl ag (timerIdx t) (w ||| 1#32))
/-- TIM_CTRL STOP (05 R120). -/
def execStop (ag : Agent) (t : TimerId) (w : Word) (s : State) : Host.Outcome State Fault Refusal :=
  nx (s.writeTimCtrl ag (timerIdx t) (w ||| 2#32))
/-- TIM_CTRL CLR_CAP (05 R127). -/
def execClrCap (ag : Agent) (t : TimerId) (w : Word) (s : State) : Host.Outcome State Fault Refusal :=
  nx (s.writeTimCtrl ag (timerIdx t) (w ||| 4#32))
/-- TIM_CTRL CAP_SOFT (05 R126). -/
def execCapSoft (ag : Agent) (t : TimerId) (w : Word) (s : State) : Host.Outcome State Fault Refusal :=
  nx (s.writeTimCtrl ag (timerIdx t) (w ||| 8#32))

/-- Whether G(i) and G(i + 1) form a linked pair, i the lower place (05 R131). -/
def State.linkedLow (s : State) (i : Nat) : Bool :=
  192 ≤ i && i % 2 = 0 && i < 207 && s.masterOf (i + 1) = some i && (s.timer (i + 1)).src = 5

/-- Whether place i is the upper half of a linked pair. -/
def State.linkedHigh (s : State) (i : Nat) : Bool := 193 ≤ i && i % 2 = 1 && s.linkedLow (i - 1)

/-- The count of timer t is written: a tick at the next pk edge is lost to it (05 R121 to R123). -/
def State.putCount (s : State) (t v : Nat) : State := s.modTimer t fun x => { x with count := v, lostAt := some (s.now + s.toPk) : Timer }.level

/-- A write of TIM_COUNT (05 R122, R131). A high half written with no low half staged is loaded alone (DESIGN CHOICE, log 119). -/
def State.writeCount (s : State) (ag : Agent) (t : Nat) (v : Word) : State :=
  s.timerWrite ag t .none fun s =>
    if s.linkedLow t then s.modTimer t fun x => { x with loStage := some v.toNat }
    else if s.linkedHigh t then
      match (s.timer (t - 1)).loStage with
      | some lo => ((s.putCount t v.toNat).putCount (t - 1) lo).modTimer (t - 1) fun x => { x with loStage := none }
      | none => s.putCount t v.toNat
    else s.putCount t v.toNat

/-- TIM_COUNT_WRITE (05 R122). -/
def execTimCountWrite (ag : Agent) (t : TimerId) (v : Word) (s : State) : Host.Outcome State Fault Refusal :=
  nx (s.writeCount ag (timerIdx t) v)

/-- A read of TIM_COUNT (05 R131). -/
def State.readCount (s : State) (ag : Agent) (t : Nat) : Word × State :=
  if s.linkedLow t then
    (BitVec.ofNat 32 (s.timer t).count, s.setLatch ag (0x40000 + t + 1) (BitVec.ofNat 32 (s.timer (t + 1)).count))
  else if s.linkedHigh t then (s.latch ag (0x40000 + t), s)
  else (BitVec.ofNat 32 (s.timer t).count, s)

/-- TIM_COUNT_READ (05 R131): the read comes dt ck from now. -/
def execTimCountRead (ag : Agent) (t : TimerId) (dt : Nat) (s : State) : Host.Outcome State Fault Refusal :=
  let r := (s.elapse dt).readCount ag (timerIdx t)
  nx { r.2 with lastRead := r.1 }

/-- A write of TIM_RELOAD: it takes effect after a tick at the next pk edge (05 R121, R122). -/
def State.writeReload (s : State) (ag : Agent) (t : Nat) (v : Word) : State :=
  s.timerWrite ag t .none fun s => s.modTimer t fun x => { x with reloadNext := some (v.toNat, s.now + s.toPk) }

/-- TIM_RELOAD_WRITE (05 R121). -/
def execTimReloadWrite (ag : Agent) (t : TimerId) (v : Word) (s : State) : Host.Outcome State Fault Refusal :=
  nx (s.writeReload ag (timerIdx t) v)

/-- A write of TIM_CMP: the compare is re-armed (05 R122, R123). -/
def State.writeCmp (s : State) (ag : Agent) (t : Nat) (v : Word) : State :=
  s.timerWrite ag t .none fun s => s.modTimer t fun x => ({ x with cmp := v.toNat, armed := true } : Timer).level

/-- TIM_CMP_WRITE (05 R123). -/
def execTimCmpWrite (ag : Agent) (t : TimerId) (v : Word) (s : State) : Host.Outcome State Fault Refusal :=
  nx (s.writeCmp ag (timerIdx t) v)

/-- A read of TIM_CAP_VAL (05 R126): the oldest entry is removed. -/
def State.readCapVal (s : State) (t : Nat) : Word × State :=
  match (s.timer t).caps with
  | [] => (0#32, s)
  | c :: r => (BitVec.ofNat 32 c.1, s.modTimer t fun x => { x with caps := r })

/-- TIM_CAP_VAL_READ (05 R126). -/
def execTimCapValRead (_ag : Agent) (t : TimerId) (s : State) : Host.Outcome State Fault Refusal :=
  let r := s.readCapVal (timerIdx t)
  nx { r.2 with lastRead := r.1 }

/-- Whether a TIM_CFG word carries a reserved value for timer t (05 Tables 5-2 to 5-4, 5-10, R128, R130, R132). T0 and G0 have no lower timer:
MASTER 0 is accepted there unless a field uses the master (DESIGN CHOICE, log 119). -/
def timCfgBad (t : Nat) (w : Word) : Bool :=
  let slot := t < 192
  let src := fld w 6 4
  let g := fld w 12 10
  let m := fld w 20 17
  let tr := fld w 27 24
  let cs := fld w 31 28
  let usesMaster := src = 5 || src = 6 || fld w 22 21 ≠ 0 || bitOf w 23 || cs = 7 || cs = 8
  src = 7 || (!slot && (src = 3 || src = 4)) || fld w 22 21 = 3 || (2 ≤ tr && tr ≤ 7) || 10 ≤ cs || (!slot && 1 ≤ cs && cs ≤ 4)
    || (if slot then g ≠ 0 else 1 ≤ g && g ≤ 3) || (slot && 3 ≤ m)
    || ((if slot then t % 3 else t - 192) ≤ m && (m ≠ 0 || (usesMaster && !(fld w 22 21 ≠ 1 && 8 ≤ tr && src ≠ 5 && src ≠ 6 && cs ≠ 7 && cs ≠ 8))))

/-- The fields of TIM_CFG that are locked while EN is 1 (05 R149): SRC, MASTER, GATE_MODE, RESET_LINK, TRIG, CAP_SRC, CORE_GATE. -/
def timCfgLocked (a b : Word) : Bool := (a ^^^ b) &&& 0xFFFE1C70#32 ≠ 0#32

/-- A write of TIM_CFG (05 R149). Of several rules broken VALUE is reported before LOCKED and LOCKED before STATE, as MULTIPLE is before STATE in
TIM_CTRL (DESIGN CHOICE, log 119). -/
def State.writeTimCfg (s : State) (ag : Agent) (t : Nat) (w : Word) : State :=
  let e := if timCfgBad t w then .value else if (s.timer t).en && timCfgLocked (s.timer t).cfg w then .locked else CmdErr.none
  s.timerWrite ag t e fun s => s.modTimer t fun x =>
    ({ x with cfg := w } : Timer).level

/-- A write of TIM_INTERVAL (05 R125): 0 is rejected. -/
def State.writeTimInterval (s : State) (ag : Agent) (t : Nat) (w : Word) : State :=
  s.timerWrite ag t (if w = 0#32 then .value else .none) fun s => s.modTimer t fun x => { x with interval := w.toNat }

/-- A write of TIM_STATUS (05 Table 5-11): write 1 to clear in [11:6]. -/
def State.writeTimStatus (s : State) (ag : Agent) (t : Nat) (w : Word) : State :=
  s.timerWrite ag t .none fun s => s.modTimer t fun x => { x with
    makeupSat := x.makeupSat && !bitOf w 11, multiWrap := x.multiWrap && !bitOf w 10, makeup := x.makeup && !bitOf w 9,
    capOvf := x.capOvf && !bitOf w 8, cmpEvt := x.cmpEvt && !bitOf w 7, wrapEvt := x.wrapEvt && !bitOf w 6 }

/-- A write of register `off` of the block of timer t (05 Table 5-8). -/
def State.writeTimer (s : State) (ag : Agent) (t off : Nat) (w : Word) : State :=
  match off with
  | 0x00 => s.writeTimCtrl ag t w
  | 0x04 => s.writeTimCfg ag t w
  | 0x08 => s.writeCount ag t w
  | 0x0C => s.writeReload ag t w
  | 0x10 => s.writeCmp ag t w
  | 0x14 => s.writeTimInterval ag t w
  | 0x18 => s.writeTimStatus ag t w
  | _ => s.timerWrite ag t .none id

/-- Whether the slot logic owns timer t (05 Table 5-11, OWNED). -/
def State.timerOwned (s : State) (t : Nat) : Bool :=
  t < 192 && t % 3 < 2 &&
    match (s.slot (t / 3)).st with
    | .activating | .atr | .negotiating | .ready | .busy | .clockstop => true
    | _ => false

/-- TIM_STATUS (05 Table 5-11). -/
def State.timStatus (s : State) (t : Nat) : Word :=
  let x := s.timer t
  packed [(29, x.cmdErr.code), (16, x.capLost), (12, x.caps.length), (11, b2n x.makeupSat), (10, b2n x.multiWrap), (9, b2n x.makeup),
    (8, b2n x.capOvf), (7, b2n x.cmpEvt), (6, b2n x.wrapEvt), (5, b2n x.out), (4, b2n x.armed), (3, b2n (x.en && s.stopped t)),
    (2, b2n (s.timerOwned t)), (0, b2n x.en)]

/-- A read of register `off` of the block of timer t (05 Table 5-8). -/
def State.readTimer (s : State) (ag : Agent) (t off : Nat) : Word × State :=
  let x := s.timer t
  match off with
  | 0x04 => (x.cfg, s)
  | 0x08 => s.readCount ag t
  | 0x0C => (BitVec.ofNat 32 (match x.reloadNext with | some (v, _) => v | none => x.reload), s)
  | 0x10 => (BitVec.ofNat 32 x.cmp, s)
  | 0x14 => (BitVec.ofNat 32 x.interval, s)
  | 0x18 => (s.timStatus t, s)
  | 0x1C => (packed [(8, x.caps.length), (4, match x.caps with | c :: _ => c.2 | [] => 0), (0, b2n (!x.caps.isEmpty))], s)
  | 0x20 => s.readCapVal t
  | 0x24 => (BitVec.ofNat 32 x.makeupTicks, s)
  | _ => (0#32, s)

/-- The slot logic stops the timers of slot i at quench detection (05 R135). -/
def State.stopSlotTimers (s : State) (i : Nat) : State :=
  s.forEach [3 * i, 3 * i + 1, 3 * i + 2] fun s t => s.modTimer t fun x => { x with en := false, out := false, enAt := none }

/-- The slot logic sets timer n of slot i up for a wait of `limit` source events, started now with `count` of them past, or at ck `from_` (06 R154). -/
def State.armWait (s : State) (i n src presc limit : Nat) (count : Nat := 0) (from_ : Option Nat := none) : State :=
  s.modTimer (3 * i + n) fun x =>
    { x with cfg := packed [(14, 1), (4, src), (0, presc)], count := count, residue := 0, presc := presc, reload := 0xFFFFFFFF,
             cmp := limit % 2 ^ 32, armed := true, en := from_.isNone, out := from_.isNone, enAt := from_, sleptAt := none, lostAt := none, reloadNext := none }

/-- A start edge sets the count of T0 of slot i to 0 (06 R154). -/
def State.restartT0 (s : State) (i : Nat) : State :=
  s.modTimer (3 * i) fun x => if x.en then { x with count := 0, residue := 0, armed := true } else x

/-- The wait timed on timer n of slot i has expired: its compare event, where it has not come yet, and the timer stops (06 R154). -/
def State.expireWait (s : State) (i n : Nat) : State :=
  let t := 3 * i + n
  let x := s.timer t
  let s1 := if (x.en || x.enAt.isSome) && x.armed then
      State.timerEvents linkFuel (s.modTimer t fun x => ({ x with count := x.cmp } : Timer).fire) t 0 true
    else s
  s1.modTimer t fun x => { x with en := false, out := false, enAt := none }

/-- The wait on timer n of slot i ends before it expires. -/
def State.endWait (s : State) (i n : Nat) : State := s.modTimer (3 * i + n) fun x => { x with en := false, out := false, enAt := none }

end Sys2Proof.Machine
end

