-- ==== Sys2Proof/Machine/Audit.lean ====
section
/-! DEFINITION. The audit record: entries, hashing, export and fill (16 R434 to R438). -/

namespace Sys2Proof.Machine

/-- The classes of audit entries (16 Table 16-15). -/
inductive AuditClass where
  | security | privileged | routine
  deriving DecidableEq, Repr

/-- What an audit entry says beyond SEQ, TIDE and the checks (16 Table 16-14). -/
structure AuditEntry where
  kind   : Nat
  role   : Nat := 0
  origin : Nat := 3
  ring   : Nat := 0
  handle : Word := 0#32
  index  : Nat := 0
  sub    : Nat := 0
  result : Nat := 0
  detail : List Byte := []
  deriving DecidableEq, Repr

/-- The eight bytes of the device serial number. -/
def serialBytes : List Byte := (List.range 8).map Config.serial

/-- The audit position of SEQ n. -/
def auditPos (n : Nat) : Nat := (n - 1) % 8192

/-- The entry at audit position p, none where nothing stands there. -/
def State.auditAt (s : State) (p : Nat) : List Byte := tget [] s.mram.audit p

/-- SEQ of an entry. -/
def auditSeq (l : List Byte) : Nat := ofLe (l.take 8)

/-- EXPORTED_UPTO (16 R438). -/
def State.exportedUpto (s : State) : Nat := s.dictNum 0x1181 6 0

/-- Whether the entry at position p is exported (16 R438). -/
def State.isExported (s : State) (p : Nat) : Bool := tget false s.mram.exported p || decide (auditSeq (s.auditAt p) ≤ s.exportedUpto)

/-- F: positions from that of the next SEQ onward that hold no entry or an exported one (16 R438). -/
def State.auditFree (s : State) : Nat :=
  let p := auditPos s.mram.auditNext
  s.mram.audit.foldl (fun m e => if s.isExported e.1 then m else min m ((e.1 + 8192 - p) % 8192)) 8192

/-- POLICY is HOLD_PRIVILEGED (15 Table 15-21). -/
def State.auditHold (s : State) : Bool := s.dictNum 0x2900 1 1 = 1

/-- Privileged changes end with AUDIT_HELD (16 R438). -/
def State.auditHeld (s : State) : Bool := s.auditHold && s.auditFree ≤ 64

/-- Entries held, not exported and awaiting hashing (15 Table 15-21). -/
def State.auditBacklog (s : State) : Nat := s.mram.auditNext - 1 - s.mram.auditHashed

/-- Bytes 0 to 43 of an entry. -/
def AuditEntry.body (e : AuditEntry) (seq : Nat) (tide : Tide) : List Byte :=
  padTo 44 (leBytes seq 8 ++ leBytes tide.toNat 8 ++
    [BitVec.ofNat 8 e.kind, BitVec.ofNat 8 e.role, BitVec.ofNat 8 e.origin, BitVec.ofNat 8 e.ring] ++
    leBytes e.handle.toNat 4 ++ leBytes e.index 2 ++ [BitVec.ofNat 8 e.sub, BitVec.ofNat 8 e.result] ++ padTo 16 e.detail)

/-- The events that follow a change of F: AUDIT_FULL and line 46 (16 R438, R440). -/
def State.auditFill (s : State) : State :=
  let f := s.auditFree
  if f ≤ 64 && !s.audit.full then
    (((({ s with audit := { s.audit with full := true } } : State).post 0xA5 0 (if s.auditHold then 1 else 2) [BitVec.ofNat 32 f]).irq 12).line 46)
  else if 128 ≤ f && s.audit.full then ({ s with audit := { s.audit with full := false } } : State).post 0xA5 0 0 [BitVec.ofNat 32 f]
  else s

/-- Line 46 when the backlog passes 256 (16 R440). -/
def State.auditDeep (s : State) : State :=
  if 256 < s.auditBacklog then (if s.audit.deep then s else ({ s with audit := { s.audit with deep := true } } : State).line 46)
  else { s with audit := { s.audit with deep := false } }

/-- Writes an audit entry, or drops and counts it under the fill policy (16 R435, R438). -/
def State.auditAdd (s : State) (c : AuditClass) (e : AuditEntry) : State :=
  let f := s.auditFree
  if s.auditHold && (f = 0 || (f ≤ 64 && c = .routine)) then
    let s1 := s.tally 0x1181 3
    if s1.audit.dropping then s1
    else (({ s1 with audit := { s1.audit with dropping := true } } : State).post 0xA6 0 e.kind [BitVec.ofNat 32 (s1.tallyOf 0x1181 3)]).irq 12
  else
    let n := s.mram.auditNext
    let p := auditPos n
    let lost := s.auditAt p ≠ [] && !s.isExported p
    let b := e.body n s.ltide
    let s1 : State := { s with
      mram := { s.mram with
        audit := tset [] s.mram.audit p (padTo 64 (b ++ leBytes (crc32c b).toNat 4))
        exported := tset false s.mram.exported p false
        auditNext := n + 1, bad := s.mram.bad.filter fun w => w / 8 ≠ 0x4000 + p }
      flow := s.flow.burst 1
      audit := { s.audit with dropping := false, since := s.audit.since ++ [s.now] } }
    let s2 := if lost then s1.tally 0x1181 4 else s1
    ((s2.markChanged 2 (p / 7)).auditFill).auditDeep

/-- Firmware runs its services: the START entry has been written (16 R425). Log 19. -/
def State.serving (s : State) : Bool := 7 ≤ s.boot.step

/-- A routine entry of the device (16 Table 16-15), once firmware runs. -/
def State.auditRoutine (s : State) (kind : Nat) (detail : List Nat) : State :=
  if s.serving then s.auditAdd .routine { kind := kind, detail := detail.map (BitVec.ofNat 8) } else s

/-- LINK of SEQ n: of LINK_0 for 0 (16 R436). -/
def State.auditLink (s : State) (n : Nat) : List Byte :=
  if n = 0 then (beBytes (Config.sha384 serialBytes).toNat 48).take 16 else (s.auditAt (auditPos n)).drop 48

/-- The body of the oldest entry of the backlog has waited 1 ms for its hash (16 R431). -/
def State.auditLate (s : State) : Bool :=
  match s.audit.since with
  | t :: l => decide (l.length + 1 = s.auditBacklog ∧ t + ms ≤ s.now)
  | [] => false

/-- Hashes the oldest entry of the backlog (16 R435, R436). -/
def State.auditHashNext (s : State) : State :=
  if s.auditBacklog = 0 then s
  else
    let n := s.mram.auditHashed + 1
    let e := s.auditAt (auditPos n)
    let h := beBytes (Config.sha384 (s.auditLink (n - 1) ++ e.take 48)).toNat 48
    (({ s with audit := { s.audit with since := s.audit.since.tail }, mram := { s.mram with
        auditHashed := n, auditHash := h, audit := tset [] s.mram.audit (auditPos n) (padTo 48 e ++ h.take 16) } } : State).markChanged 2 (auditPos n / 7)).auditDeep

end Sys2Proof.Machine
end

