-- ==== Sys2Proof/Machine/TxnOps.lean ====
section
/-! DEFINITION. Operations on transactions, sessions and card sets that several commands share: the fields of a submission entry,
ending a transaction, closing a session, taking a card-set position OUT (06 R184, 07 R198 to R203, 08 R229 to R232). -/

namespace Sys2Proof.Machine

/-! Fields of a submission entry (07 Table 7-11). -/

/-- Word i of the entry. -/
def Txn.dw (x : Txn) (i : Nat) : Word := x.dws.getD i 0#32
/-- OPCODE. -/
def Txn.opcode (x : Txn) : Nat := fld (x.dw 0) 7 0
/-- IDEMPOTENT. -/
def Txn.idem (x : Txn) : Bool := bitOf (x.dw 0) 8
/-- STATE_CHANGING. -/
def Txn.changing (x : Txn) : Bool := bitOf (x.dw 0) 9
/-- NO_COMPARE. -/
def Txn.noCompare (x : Txn) : Bool := bitOf (x.dw 0) 10
/-- CARD_SET. -/
def Txn.cardSet (x : Txn) : Bool := bitOf (x.dw 0) 11
/-- TAG. -/
def Txn.tag (x : Txn) : Word := x.dw 1
/-- DEADLINE. -/
def Txn.deadline (x : Txn) : Tide := cat64 (x.dw 5) (x.dw 4)
/-- CMD_LEN. -/
def Txn.cmdLen (x : Txn) : Nat := fld (x.dw 8) 16 0
/-- CMD_SEGS. -/
def Txn.cmdSegs (x : Txn) : Nat := fld (x.dw 8) 31 24
/-- RESP_PTR. -/
def Txn.respPtr (x : Txn) : BitVec 64 := cat64 (x.dw 11) (x.dw 10)
/-- RESP_CAP. -/
def Txn.respCap (x : Txn) : Nat := fld (x.dw 12) 16 0
/-- RESP_SEGS. -/
def Txn.respSegN (x : Txn) : Nat := fld (x.dw 12) 31 24

/-- The transactions of the table with their places. -/
def State.txnList (s : State) : List (Nat × Txn) := s.flow.txns.filterMap fun p => p.2.map fun x => (p.1, x)

/-- Frees the slots that transaction t holds. -/
def State.freeSlots (s : State) (t : Nat) (l : List Nat) : State :=
  s.forEach l fun s i => if (s.slot i).holder = some t then s.modSlot i fun x => { x with holder := none, lastBusy := some s.now } else s

/-- Ends a transaction before stage 6, NOT_SENT, without a journal record (01 R15, 07 R200, R205). -/
def State.endEarly (s : State) (t status : Nat) (cause : Nat := 0) (resp : List Byte := []) : State :=
  match s.txn t with
  | none => s
  | some x =>
    (s.setTxn t (some { x with stage := .complete, outDone := some { cls := .notSent, status := status, cause := cause, tide := s.ltide,
                                                                     resp := resp, respLen := resp.length } })).freeSlots t x.slots

/-- SW of a completion (07 Table 7-13): SW1 SW2 of a CARD_CMD that ends DONE. -/
def Txn.swOf (x : Txn) (o : Outcome) : BitVec 16 :=
  if x.opcode = 1 then (if o.cls = .done then BitVec.ofNat 16 (ofBe (o.resp.drop (o.resp.length - 2))) else 0#16) else o.sw

/-- A journal write waits for MRAM: an outcome record is requested, or a transaction stands at stage 6 (01 R21, R22). -/
def State.journalWaits (s : State) : Bool := !s.flow.outq.isEmpty || s.txnList.any fun e => e.2.stage = .intent

/-- A burst of dictionary persistence or of audit is taken (01 R21). -/
def State.burst (s : State) : State := { s with flow := s.flow.burst 1 }

/-- Decides the outcome of a transaction past stage 6: its outcome record is requested (01 R16, R22, 03 R89). -/
def State.requestOutcome (s : State) (t : Nat) (o : Outcome) : State :=
  let s1 := s.modTxn t fun x => { x with stage := .outcome, outDone := some { o with tide := s.ltide, sw := x.swOf o } }
  { s1 with flow := { s1.flow with outq := s1.flow.outq ++ [t] } }

/-- The context a session handle names, none where it is stale (06 R181). -/
def State.lookup (s : State) (h : Word) : Option Nat :=
  let i := fld h 10 0
  if fld h 31 19 = 0 && 64 ≤ i && (s.session i).isOpen && fld h 18 11 = (s.gen i).toNat then some i else none

/-! Card sets: the map (08 Table 8-10) and what follows from it. -/

/-- Whether position p is used. -/
def CardSet.used (k : CardSet) (p : Nat) : Bool := if p < 4 then bitOf k.mapLo (8 * p + 7) else bitOf k.mapHi (8 * (p - 4) + 7)

/-- The slot of position p. -/
def CardSet.slotOf (k : CardSet) (p : Nat) : Nat :=
  if p < 4 then fld k.mapLo (8 * p + 5) (8 * p) else fld k.mapHi (8 * (p - 4) + 5) (8 * (p - 4))

/-- The configured member count c (08 R227). -/
def CardSet.c (k : CardSet) : Nat := ([0, 1, 2, 3].filter k.used).length

/-- The quorum q (08 R227). -/
def CardSet.quorum (k : CardSet) : Nat := k.c / 2 + 1

/-- The state of position p. -/
def CardSet.at (k : CardSet) (p : Nat) : Pos := k.pos.getD p .unused

/-- The positions in state x. -/
def CardSet.which (k : CardSet) (x : Pos) : List Nat := [0, 1, 2, 3, 4, 5].filter fun p => k.at p = x

/-- MEMBERS. -/
def CardSet.members (k : CardSet) : Nat := (k.which .member).length

/-- SET_STATUS.STATE: 0 DISABLED, 1 ACTIVE, 2 DEGRADED, 3 FAILED (08 R232). -/
def CardSet.state (k : CardSet) : Nat :=
  if !k.enabled then 0 else if k.draining then k.shown else if k.members = k.c then 1 else if k.quorum ≤ k.members then 2 else 3

/-- The lead: the MEMBER position with the lowest number (08 R231). -/
def CardSet.lead (k : CardSet) : Nat := (k.which .member).headD 0

/-- The slots of the MEMBER and RESERVE positions, by position. -/
def CardSet.serving (k : CardSet) : List Nat := ([0, 1, 2, 3, 4, 5].filter fun p => k.at p = .member ∨ k.at p = .reserve).map k.slotOf

/-- Whether transaction x, at stage 5, waits for slot i. -/
def State.waitsFor (s : State) (x : Txn) (i : Nat) : Bool :=
  match x.target with
  | .slot j => j = i
  | .set k => (s.cset k).serving.contains i
  | _ => false

/-- Ends every transaction waiting at stage 5 for slot i with SLOT_NOT_ACTIVE (02 R40, 03 R87). -/
def State.endWaiters (s : State) (i : Nat) (cause : Nat := 0) : State :=
  s.forEach ((s.txnList.filter fun p => p.2.stage = .wait && s.waitsFor p.2 i).map (·.1)) fun s t => s.endEarly t 0x0E cause

/-- Closes a session: its generation advances, its transactions at stage 4 or waiting at stage 5 end SESSION_CLOSED (06 R184). -/
def State.closeSession (s : State) (i : Nat) : State :=
  let s1 := (s.setSession i {}).setGen i (s.gen i + 1)
  s1.forEach ((s1.txnList.filter fun p => p.2.sess = i && (p.2.stage = .gather || p.2.stage = .wait)).map (·.1))
    fun s t => s.endEarly t 0x0F

/-- The open sessions bound to a slot or a set. -/
def State.sessionsOn (s : State) (onSet : Bool) (target : Nat) : List Nat :=
  (s.flow.sessions.filter fun p => p.2.isOpen && p.2.onSet = onSet && p.2.target = target).map (·.1)

/-- Closes every session bound to a slot or a set. -/
def State.closeAll (s : State) (onSet : Bool) (target : Nat) : State := s.forEach (s.sessionsOn onSet target) fun s i => s.closeSession i

/-- Writes the OUT marks, causes and DIVERGED of set k to MRAM (08 R233). -/
def State.keepSet (s : State) (k : Nat) : State :=
  let c := s.cset k
  { s with mram := { s.mram with
      sets := tset {} s.mram.sets k { out := [0, 1, 2, 3, 4, 5].map fun p => if c.at p = .out then c.cause.getD p 0 else 0, diverged := c.diverged } } }

/-- Reports a changed STATE of set k: SET_STATE, the CARD_SET source on DEGRADED or FAILED, sessions closed on FAILED (08 R232, R246). -/
def State.setStateShow (s : State) (k : Nat) : State :=
  let c := s.cset k
  if c.state = c.shown then s
  else
    let s1 := (s.modSet k fun c => { c with shown := c.state }).post 0x50 k c.state [BitVec.ofNat 32 c.members]
    if c.state = 3 then (s1.irq 15).closeAll true k else if c.state = 2 then s1.irq 15 else s1

/-- The transaction of set k past stage 5, if any. -/
def State.setTxnOf (s : State) (k : Nat) : Option Nat :=
  ((s.txnList.filter fun p => p.2.target = .set k && (p.2.stage = .intent || p.2.stage = .exch)).map (·.1)).head?

/-- The state with the rounds of transaction t changed. -/
def State.modRounds (s : State) (t : Nat) (f : Rounds → Rounds) : State := s.modTxn t fun x => { x with rounds := f x.rounds }

/-- The audit entry of a changed position p of set k (16 Table 16-15). -/
def State.auditSetPos (s : State) (k p : Nat) : State :=
  let c := s.cset k
  s.auditRoutine 0x11 [k, p, (c.at p).code, if c.at p = .out then c.cause.getD p 0 else 0]

/-- MEMBER positions and the PENDING ones that may still become MEMBER (08 R229). -/
def CardSet.hopeful (k : CardSet) : Nat := k.members + ((k.which .pending).filter (· < 4)).length

/-- The lowest OUT position below 4, or p itself: what a promotion replaces. -/
def CardSet.replaced (c : CardSet) (p : Nat) : Nat := ((c.which .out).filter (· < 4)).headD p

/-- Promotes the lowest RESERVE of set k where MEMBERs are short of c (08 R231); `old` is the position replaced. A PENDING member position of a
FORMING set is no shortfall (DEDUCED, log 123). -/
def State.promote (s : State) (k old : Nat) : State :=
  let c := s.cset k
  match c.which .reserve with
  | r :: _ =>
    if c.hopeful < c.c then
      let s1 := (((s.modSet k fun c => { c with pos := c.pos.set r .member }).post 0x52 k r [BitVec.ofNat 32 old]).auditSetPos k r).tally (0x2400 + k) 0x0B
      match s1.setTxnOf k with
      | some t => s1.modRounds t fun n => { n with fresh := n.fresh ++ [r], promoted := true }
      | none => s1
    else s
  | [] => s

/-- Position p of set k goes OUT with a cause of 08 Table 8-12 (08 R230): the status and quench cause it gives a transaction of the set, and `shown`,
the STATUS of an exchange that has ended with it, or 0 (08 Table 8-14). -/
def State.posOut (s : State) (k p cause : Nat) (status : Nat := 0) (qcause : Nat := 0) (shown : Nat := 0) : State :=
  let c := s.cset k
  if c.at p = .member ∨ c.at p = .reserve ∨ c.at p = .pending then
    let s1 := s.modSet k fun c => { c with pos := c.pos.set p .out, cause := c.cause.set p cause }
    let s2 := ((s1.keepSet k).post 0x51 k p [BitVec.ofNat 32 cause, BitVec.ofNat 32 (c.slotOf p), BitVec.ofNat 32 shown]).auditSetPos k p
    let s3 := match s2.setTxnOf k with
      | some t => s2.modRounds t fun n => { n with outs := n.outs ++ [(p, status, qcause)], outLast := n.outLast ++ [p] }
      | none => s2
    (s3.promote k p).setStateShow k
  else s

/-- The (set, position) pairs in service whose slot is i. -/
def State.positionsOf (s : State) (i : Nat) : List (Nat × Nat) :=
  s.flow.sets.flatMap fun e =>
    if e.2.enabled then (([0, 1, 2, 3, 4, 5].filter fun p => (e.2.at p = .member ∨ e.2.at p = .reserve) ∧ e.2.slotOf p = i).map fun p => (e.1, p)) else []

/-- Slot i leaves READY, BUSY and CLOCKSTOP: its positions go OUT with SLOT_LEFT, or EXCHANGE where a transaction of the set held
the slot (08 R230). -/
def State.setsLeave (s : State) (i status qcause : Nat) : State :=
  (s.positionsOf i).foldl (fun s kp =>
    let held := match s.setTxnOf kp.1 with
      | some t => (match s.txn t with | some x => x.slots.contains i | none => false)
      | none => false
    s.posOut kp.1 kp.2 (if held then 2 else 1) (if held then status else 0) qcause) s

/-- Slot i has entered READY: in a FORMING set its PENDING position takes the role its number gives (08 R229, R231). -/
def State.setsReady (s : State) (i : Nat) : State :=
  (s.flow.sets.flatMap fun e =>
    if e.2.enabled && e.2.forming then (([0, 1, 2, 3, 4, 5].filter fun p => e.2.at p = .pending ∧ e.2.slotOf p = i).map fun p => (e.1, p)) else []).foldl
    (fun s kp =>
      let s1 := (s.modSet kp.1 fun c => { c with pos := c.pos.set kp.2 (if kp.2 < 4 then .member else .reserve) }).auditSetPos kp.1 kp.2
      (s1.promote kp.1 ((s1.cset kp.1).replaced kp.2)).setStateShow kp.1) s

/-! The bytes of a journal record. -/

/-- The bytes of an outcome's class and status in a record (07 Table 7-17). -/
def Outcome.setByte (o : Outcome) : Nat := o.setFlags + 128 * b2n o.promoted

/-- Bytes 0 to 123 of a record (07 Table 7-17). -/
def JRec.body (r : JRec) : List Byte :=
  let head := leBytes r.seq 6 ++ [if r.outcome then 0x02#8 else 0x01#8, 0x01#8] ++ leBytes r.tag.toNat 4 ++ leBytes r.qp 2 ++
    [BitVec.ofNat 8 r.opcode, BitVec.ofNat 8 r.flags] ++ leBytes r.session.toNat 4 ++ leBytes r.tide.toNat 8 ++
    leBytes r.slots.toNat 8 ++ leBytes r.target.toNat 4
  let rest :=
    if r.outcome then
      leBytes r.intentSeq 6 ++ [BitVec.ofNat 8 r.o.cls.code, BitVec.ofNat 8 r.o.status, BitVec.ofNat 8 r.o.cause, BitVec.ofNat 8 r.o.setByte] ++
        beBytes r.o.sw.toNat 2 ++ leBytes r.o.respLen 4 ++ leBytes r.o.sentLen 4 ++ padTo 24 r.o.resp ++
        [BitVec.ofNat 8 (min 24 r.o.resp.length)]
    else leBytes r.cmdLen 4 ++ leBytes r.deadline.toNat 8 ++ padTo 64 r.cmd
  padTo 124 (head ++ rest)

/-- The 128 bytes of a record with its COMMIT word (07 R209). -/
def JRec.bytes (r : JRec) : List Byte := r.body ++ leBytes (crc32c r.body).toNat 4

end Sys2Proof.Machine
end

