-- ==== Sys2Proof/Machine/SlotOps.lean ====
section
/-! DEFINITION. Operations on a slot that several commands share: leaving service, ending its exchange, deactivation, warm reset,
quench (02 R37 to R43, R54, R59, 03 R65 to R74, R87, R88, 06 R179). -/

namespace Sys2Proof.Machine

/-! Register fields. -/

/-- SLOT_CFG.CLASS_MASK permits class c (02 Table 2-11). -/
def classOk (cfg : Word) : SClass → Bool
  | .a => bitOf cfg 0
  | .b => bitOf cfg 1
  | .c => bitOf cfg 2

/-- SLOT_CFG.FIXED_CLASS. -/
def fixedClass (cfg : Word) : SClass := if fld cfg 6 5 = 0 then .a else if fld cfg 6 5 = 1 then .b else .c

/-- TRIAL_ORDER is FIXED. -/
def isFixed (cfg : Word) : Bool := fld cfg 4 3 = 1

/-- The permitted classes in trial order (02 R42). -/
def trialOrder (cfg : Word) : List SClass :=
  (if isFixed cfg then [fixedClass cfg] else [.c, .b, .a]).filter (classOk cfg)

/-- The classes of the trial order after c. -/
def classesAfter (cfg : Word) (c : SClass) : List SClass := ((trialOrder cfg).dropWhile (· ≠ c)).drop 1

/-- SLOT_ACT_TIMING.ACT_DIV. -/
def Slot.actDiv (x : Slot) : Nat := fld x.regs.actTiming 24 16
/-- SLOT_ACT_TIMING.RST_HOLD. -/
def Slot.rstHold (x : Slot) : Nat := fld x.regs.actTiming 15 0
/-- SLOT_CFG.ATR_RETRIES. -/
def Slot.atrRetries (x : Slot) : Nat := fld x.regs.cfg 11 10
/-- The ramp time of SLOT_CFG.SLEW in ck (02 Table 2-5). -/
def Slot.rampCk (x : Slot) : Nat := (match fld x.regs.cfg 8 7 with | 0 => 100 | 1 => 250 | 2 => 500 | _ => 1000) * us

/-- READY, BUSY and CLOCKSTOP. -/
def Slot.inService (x : Slot) : Bool := x.st = .ready || x.st = .busy || x.st = .clockstop

/-- ACTIVATING, ATR, NEGOTIATING. -/
def Slot.inActivation (x : Slot) : Bool := x.st = .activating || x.st = .atr || x.st = .negotiating

/-- VCC on or discharging (03 R65). -/
def Slot.powered (x : Slot) : Bool := x.seq.vcc ≠ .off

/-- ACT_PENDING: a ramp is wanted and has not started (02 R45; DEDUCED for a class change, log 13). -/
def Slot.actPending (x : Slot) : Bool := x.seq.phase = .wait

/-- Fi by FI (02 Table 2-8), 0 for a reserved code. -/
def fiOf : Nat → Nat
  | 0 => 372 | 1 => 372 | 2 => 558 | 3 => 744 | 4 => 1116 | 5 => 1488 | 6 => 1860 | 9 => 512 | 10 => 768 | 11 => 1024
  | 12 => 1536 | 13 => 2048 | _ => 0

/-- The smallest divider by FI (02 Table 2-8), 0 for a reserved code. -/
def minDivOf : Nat → Nat
  | 0 => 120 | 1 => 96 | 2 => 80 | 3 => 60 | 4 => 40 | 5 => 30 | 6 => 24 | 9 => 96 | 10 => 64 | 11 => 48 | 12 => 32 | 13 => 24
  | _ => 0

/-- Di by DI (04 Table 4-1), 0 for a reserved code. -/
def diOf : Nat → Nat
  | 1 => 1 | 2 => 2 | 3 => 4 | 4 => 8 | 5 => 16 | 6 => 32 | 7 => 64 | 8 => 12 | 9 => 20 | _ => 0

/-- The E of a CHAR_ETU word at divider n (04 R94, R97). -/
def etuOf (w : Word) (n : Nat) : Etu :=
  if bitOf w 31 then { num := fld w 30 17 * n, den := 1 } else { num := fiOf (fld w 11 8) * n, den := diOf (fld w 7 4) }

/-! The exchange of a slot and its end. -/

/-- The response characters received so far (03 R470). -/
def Slot.evidence (x : Slot) : List Byte :=
  match x.pr.mode with
  | .t0 => x.pr.t0.acc ++ x.pr.t0.data ++ (match x.pr.t0.sw1 with | some b => [b] | none => [])
  | .script => x.xchg.resp
  | _ => x.pr.t1.acc

/-- Whether the first start bit of the command has begun (03 Table 3-6, 11 R315). -/
def Slot.begun (x : Slot) : Bool := if x.pr.mode = .script then x.xchg.sent else 0 < x.pr.sent

/-- The position of slot i among the targets of a card-set transaction. -/
def State.positionIn (s : State) (k i : Nat) : Option Nat := [0, 1, 2, 3, 4, 5].find? fun p => (s.cset k).used p && (s.cset k).slotOf p = i

/-- The exchange counts of slot i by class (15 Table 15-16). -/
def State.tallyExch (s : State) (i : Nat) : OClass → State
  | .done => s.tally (0x2200 + i) 0x39 1 true
  | .inDoubt => s.tally (0x2200 + i) 0x3A 1 true
  | .notSent => s

/-- Slot i's exchange ends with m: the outcome of a single-slot transaction, or one member's of a card-set round (03 R87, R88,
08 R230, R236). -/
def State.exchResult (s : State) (i : Nat) (m : MemberResp) : State :=
  match (s.slot i).holder with
  | none => s
  | some t =>
    match s.txn t with
    | none => s
    | some x =>
      if x.stage = .intent then
        match x.target with
        | .set _ => s
        | _ => s.endEarly t m.status m.cause
      else if x.stage = .exch then
        match x.target with
        | .set k =>
          match s.positionIn k i with
          | none => s
          | some p =>
            if x.rounds.running.contains p then
              let s1 := (s.tallyExch i m.cls).modRounds t fun n =>
                { n with running := n.running.erase p, cur := if n.asMember.contains p then n.cur.set p (some m) else n.cur, began := n.began || 0 < m.sent,
                         leadLast := if p = n.lead then some m else n.leadLast }
              if m.done then s1 else s1.posOut k p 2 m.status m.cause m.status
            else s
        | _ =>
          ((s.tallyExch i m.cls).requestOutcome t { cls := m.cls, status := m.status, cause := m.cause, respLen := m.resp.length, sentLen := m.sent, resp := m.resp }).modSlot i fun x => { x with holder := none, lastBusy := some s.now }
      else s

/-- The outcome that 03 Table 3-6 gives the exchange of slot i ended by force: NOT_SENT where no start bit has begun, else IN_DOUBT
with its evidence. -/
def Slot.forced (x : Slot) (status cause : Nat) : MemberResp :=
  if x.begun then
    { done := false, resp := x.evidence, status := status, cause := cause, sent := x.pr.sent, cls := .inDoubt }
  else { done := false, resp := [], status := status, cause := cause, sent := 0, cls := .notSent }

/-- SSC returns to its value before the wrap (06 R186). -/
def State.unwrapSsc (s : State) (t : Nat) : State :=
  match s.txn t with
  | some x =>
    (match x.sscOld, s.lookup (x.dw 2) with
     | some v, some k => s.setSession k { s.session k with ssc := v }
     | _, _ => s)
  | none => s

/-- Tempering with its limit runs ended and its incomplete windows discarded (09 R251, R262). -/
def Temper.discard (t : Temper) : Temper :=
  { t with runs := [0, 0, 0, 0, 0, 0], acted := [false, false, false, false, false, false], win := {} }

/-- The duty window of slot x counts periods from the first rising edge of CLK after ck t (09 R250). -/
def Slot.countDuty (x : Slot) (t : Nat) : Slot :=
  if x.seq.clkRun && x.temp.modeApplied ≠ 3 then { x with temp := { x.temp with win := { x.temp.win with dutyN := 0, dutyFrom := some (x.nextRise t) } } }
  else x

/-- A protocol engine at rest, its slot context at reset values (06 R184, R187). -/
def ProtEng.rest (p : ProtEng) : ProtEng :=
  { lastEnd := p.lastEnd, negResult := p.negResult, x := p.x, y := p.y, t15 := p.t15 }

/-- A protocol engine whose exchange or negotiation has stopped: what Table 6-1 gave stands until the next entry into ACTIVATING (06 R187). -/
def ProtEng.still (p : ProtEng) : ProtEng :=
  { p with mode := .idle, settled := false, ppsReq := [], t0 := {}, t1 := { attempts := p.t1.attempts, rsync := p.t1.rsync }, sent := 0, firstTx := none,
           gate := false, smWait := false }

/-- The character engine stopped: nothing in the shifter, nothing queued (03 R68, 04 R111). -/
def CharEng.halt (c : CharEng) : CharEng := { c with rxOn := none, rxHold := none, rxEnd := 0, txEnd := 0, esig := none, txq := [], rawTx := [], txChk := none, txAgain := none, txReps := 0, rxReps := 0, rxBuf := [], pend := false }

/-- The DK6400 itself ends the script exchange of slot i, if one is active (11 R315, R316). -/
def State.xchgHwEnd (s : State) (i : Nat) : State :=
  if (s.slot i).xchg.active then
    (s.modSlot i fun x => { x with xchg := { x.xchg with active := false, hwEnd := true, evt := true } }).line (32 + i / 8)
  else s

/-- The core whose SCR_BIND binds slot i (11 R311). -/
def State.boundCore (s : State) (i : Nat) : Option Nat := [0, 1, 2, 3].find? fun k => (s.core k).scrBind.getLsbD i

/-- Whether core k runs: RUN or SLEEP (11 R296). -/
def State.coreRuns (s : State) (k : Nat) : Bool := (s.core k).run = .run || (s.core k).run = .sleep

/-- Hands the command over to the script of slot i (11 R313): readable, ACTIVE and EVT set. -/
def State.handOver (s : State) (i : Nat) (cmd : List Byte) : State :=
  (s.modSlot i fun x => { x with xchg := { x.xchg with
    active := true, sent := false, evt := true, cmd := cmd, pos := 0, resp := [], startedAt := s.ltide } }).line (32 + i / 8)

/-- Ends by force whatever transaction holds or has reserved slot i (03 R87). A response already complete and only waiting for
its unwrap counts as complete. -/
def State.forceEnd (s : State) (i status cause : Nat) : State :=
  let x := s.slot i
  match x.holder with
  | none => s
  | some t =>
    if x.pr.smWait && x.pr.mode = .idle then s.modSlot i fun x => { x with holder := none, lastBusy := some s.now }
    else
      let m := x.forced status cause
      let s1 := (if m.cls = .notSent then s.unwrapSsc t else s).xchgHwEnd i
      s1.exchResult i m

/-- Slot i leaves READY, BUSY and CLOCKSTOP. `down`: for PRESENT, QUENCHING or PARKED, so its waiters end (02 R40, 06 R184, 08 R230). -/
def State.leaveService (s : State) (i : Nat) (down : Bool) (status cause : Nat) : State :=
  let s1 := if down then s.endWaiters i cause else s
  let s2 := (s1.closeAll false i).setsLeave i status cause
  s2.modSlot i fun x =>
    { x with
      pr := x.pr.rest, ch := { x.ch with rawTx := [] }, xchg := { x.xchg with active := false, sent := false }
      temp := x.temp.discard }

/-- What an entry into ACTIVATING sets (04 Table 4-4, R111, 06 R187). -/
def Slot.enterActivating (x : Slot) : Slot :=
  { x with
    st := .activating
    temp := x.temp.discard
    ch := { x.ch.halt with rawTx := [], rawRx := [], convSet := false }
    pr := { x.pr.rest with negResult := 0 }
    regs := { x.regs with
      charCfg := setFld (setFld (setFld x.regs.charCfg 31 30 0) 29 29 0) 17 9 12
      charEtu := setFld (setFld (setFld x.regs.charEtu 31 31 0) 11 8 1) 7 4 1 } }

/-- Steps 2 to 4 of a warm reset (02 R54): RST low, ACT_DIV staged, ACTIVATING; RST_HOLD counts from the next falling edge of CLK. -/
def State.warmReset (s : State) (i : Nat) : State :=
  let x := s.slot i
  let s1 := if x.inService then s.leaveService i false 0 0 else s
  let s2 := s1.modSlot i fun x =>
    let y := (x.stageDiv s.now x.actDiv).enterActivating
    { y with
      seq := { y.seq with rst := false, phase := .warm (y.nextFall s.now), warmed := true, warmPend := false, restartAt := none,
                          warmAfterRestart := false } }
  (s2.endWait i 0).endWait i 1

/-- The WARM_RESET command acts (02 R54): from CLOCKSTOP the clock restarts first. -/
def State.warmStart (s : State) (i : Nat) : State :=
  let s0 := s.modSlot i fun x => { x with seq := { x.seq with retries := 0, negResetUsed := false, warmPend := false } }
  if (s.slot i).st = .clockstop then
    s0.modSlot i fun x =>
      let y := if x.seq.restartAt.isNone then x.startClk s.now else x
      { y with seq := { y.seq with restartAt := some (x.seq.restartAt.getD s.now), warmAfterRestart := true } }
  else s0.warmReset i

/-- Time 0 of a normal deactivation (02 R59), to PARKED where `park`. -/
def State.beginDeact (s : State) (i : Nat) (park : Bool) : State :=
  let x := s.slot i
  let st := if park then SlotState.parked else SlotState.present
  let aborted := x.inActivation
  let s1 := if x.inService then ((s.endWaiters i).forceEnd i 0x91 0).leaveService i true 0x91 0 else s
  let s2 := s1.modSlot i fun x =>
    let base : SlotSeq := { x.seq with
      phase := .none, warmPend := false, deactPend := false, parkPend := false, restartAt := none, warmAfterRestart := false }
    { x with
      st := st
      ch := x.ch.halt
      pr := x.pr.still
      temp := x.temp.discard
      regs := if aborted then { x.regs with actResult := 6 } else x.regs
      seq :=
        if x.seq.vcc = .off then base
        else if x.seq.deactT0.isSome then base
        else { base with rst := false, steps := 1, deactT0 := some s.now, discharging := true } }
  (s2.endWait i 0).endWait i 1

/-- A pending DEACTIVATE, PARK or WARM_RESET acts once no transaction holds or has reserved slot i (02 R40). -/
def State.actPend (s : State) (i : Nat) : State :=
  let x := s.slot i
  if x.holder = none ∧ x.inService then
    if x.seq.deactPend then s.beginDeact i x.seq.parkPend else if x.seq.warmPend then s.warmStart i else s
  else s

/-- Pending slot commands act on every slot that came free. -/
def State.actPendAll (s : State) : State := s.forEach (s.slots.map (·.1)) fun s i => s.actPend i

/-- Slot i's exchange ends with code LAST_END and result m; `warm`: a recovery warm reset follows (06 R170, R178, R179). -/
def State.endExchange (s : State) (i code : Nat) (m : MemberResp) (warm : Bool) : State :=
  let s1 := (s.xchgHwEnd i).modSlot i fun x =>
    { x with
      st := if x.st = .busy then .ready else x.st
      ch := { x.ch with txq := [], rawTx := [], txChk := none, txAgain := none, rxBuf := [] }
      pr := { x.pr with lastEnd := code, mode := .idle, gate := false, smWait := false, sent := 0, firstTx := none,
                        t0 := {}, t1 := { ns := x.pr.t1.ns, nr := x.pr.t1.nr, attempts := x.pr.t1.attempts, rsync := x.pr.t1.rsync } } }
  let s2 := ((s1.endWait i 0).endWait i 1).exchResult i m
  if warm then
    if (s2.slot i).seq.deactPend then s2.beginDeact i (s2.slot i).seq.parkPend
    else ((s2.bump i 32).modSlot i fun x => { x with seq := { x.seq with retries := 0, negResetUsed := false } }).warmReset i
  else (s2.setsReady i).actPend i

/-- The exchange of slot i ends IN_DOUBT with an end code of 06 Table 6-18. -/
def State.endInDoubt (s : State) (i code : Nat) (warm : Bool) : State :=
  let x := s.slot i
  s.endExchange i code { done := false, resp := x.evidence, status := 0x80 + code, cause := 0, sent := x.pr.sent, cls := .inDoubt } warm

/-! Quench. -/

/-- Whether a recorded cause is a FAULT cause (02 R38): codes 2 to 6, 0xA and 0xB. -/
def isFaultCause (also : BitVec 11) : Bool := also &&& 0b11000111110#11 ≠ 0#11

/-- Where slot x goes when VCC falls below 0.4 V in QUENCHING (02 R38). -/
def Slot.afterQuench (x : Slot) : SlotState :=
  if x.seq.toPark || x.seq.parkPend then .parked
  else if !x.seq.pres then .empty
  else if isFaultCause x.regs.also then .fault
  else .present

/-- Step k of a deactivation or quench (02 R59, 03 Table 3-3): 1 RST low, 2 CLK low, 3 I/O low, 4 regulator off and sink requested. -/
def Slot.doStep (x : Slot) (now : Nat) : Slot :=
  match x.seq.steps with
  | 0 => { x with seq := { x.seq with steps := 1, rst := false } }
  | 1 => let y := x.stopClk now false; { y with seq := { y.seq with steps := 2 } }
  | 2 => { x with seq := { x.seq with steps := 3, ioUp := false, ioHold := none } }
  | _ => { x with seq := { x.seq with steps := 4, vcc := .disch, sinkReq := some now, sinkOn := none } }

/-- ck at which the next step of slot x is due: at its time in 03 Table 3-3 or under 02 R59, whichever is earlier (03 R69). -/
def SlotSeq.stepDue (q : SlotSeq) : Option Nat :=
  let qt := q.quenchT0.map fun t => t + ([192, 432, 672, 912].getD q.steps 0)
  let dt := q.deactT0.map fun t => t + ([0, 10 * us, 20 * us, 30 * us].getD q.steps 0)
  if 4 ≤ q.steps then none
  else match qt, dt with
    | some a, some b => some (min a b)
    | some a, none => some a
    | none, b => b

/-- Asks for an activation of slot i (02 R45): ACT_PENDING, at the first class of the trial order. -/
def State.askActivation (s : State) (i : Nat) : State :=
  s.modSlot i fun x =>
    match trialOrder x.regs.cfg with
    | c :: _ => { x with seq := { x.seq with phase := .wait, tryCls := c, retries := 0, negResetUsed := false, warmed := false, askedAt := s.ltide.toNat } }
    | [] => x

/-- An activation of slot i fails with a result of 02 Table 2-15: normal deactivation to PRESENT (02 R43). -/
def State.failActivation (s : State) (i result : Nat) : State :=
  (s.beginDeact i false).modSlot i fun x => { x with regs := { x.regs with actResult := result } }

/-- A class-change deactivation of slot i on the way to class c (02 R43, R59). -/
def State.classChange (s : State) (i : Nat) (c : SClass) : State :=
  let s1 := s.modSlot i fun x =>
    { x.enterActivating with
      seq := { x.seq with rst := false, steps := 1, deactT0 := some s.now, discharging := true, phase := .classChange, tryCls := c,
                          retries := 0, warmed := false } }
  (s1.endWait i 0).endWait i 1

/-- No ATR, or an ATR in error: a warm-reset retry, the next class, or failure (02 R43 rules 1 and 2). Every warm reset that fails counts against
ATR_RETRIES, a commanded or recovery one too (02 R55). -/
def State.atrFail (s : State) (i : Nat) (noTs : Bool) : State :=
  let x := s.slot i
  let rule1 := noTs && !x.seq.warmed
  let n := x.seq.retries + b2n x.seq.warmed
  if !rule1 && n < x.atrRetries then (s.modSlot i fun x => { x with seq := { x.seq with retries := n } }).warmReset i
  else
    match classesAfter x.regs.cfg x.seq.tryCls with
    | c :: _ => s.classChange i c
    | [] => s.failActivation i (if rule1 then 2 else 3)

/-- An ATR error of 02 Table 2-6 on slot i. -/
def State.atrError (s : State) (i code : Nat) : State :=
  (s.modSlot i fun x => { x with regs := { x.regs with atrErr := code } }).atrFail i false

end Sys2Proof.Machine
end

