-- ==== Sys2Proof/Machine/Atr.lean ====
section
/-! DEFINITION. The structure of an answer to reset (02 R51 to R53) and what the protocol engine takes from it (06 R151, R152). -/

namespace Sys2Proof.Machine

/-- The interface bytes that one T0 or TDi announces. -/
structure AtrGroup where
  ta : Option Byte := none
  tb : Option Byte := none
  tc : Option Byte := none
  td : Option Byte := none
  deriving DecidableEq, Repr

/-- Takes the next byte where it is announced. -/
def atrTake (want : Bool) (l : List Byte) : Option Byte × List Byte :=
  if want then (match l with | b :: r => (some b, r) | [] => (none, [])) else (none, l)

/-- The interface bytes after T0: the groups received, the number of interface bytes announced so far, and whether any TDi names a
protocol other than T=0. y is the nibble that announces the next group. -/
def atrGroups : Nat → Nat → List Byte → List AtrGroup × Nat × Bool
  | 0, _, _ => ([], 0, false)
  | f + 1, y, l =>
    let a := atrTake (y % 2 = 1) l
    let b := atrTake (y / 2 % 2 = 1) a.2
    let c := atrTake (y / 4 % 2 = 1) b.2
    let d := atrTake (y / 8 % 2 = 1) c.2
    let g : AtrGroup := { ta := a.1, tb := b.1, tc := c.1, td := d.1 }
    let n := y % 2 + y / 2 % 2 + y / 4 % 2 + y / 8 % 2
    match d.1 with
    | some td =>
      let r := atrGroups f (td.toNat / 16) d.2
      (g :: r.1, n + r.2.1, r.2.2 || td.toNat % 16 ≠ 0)
    | none => ([g], n, false)

/-- A parsed answer to reset. total: characters announced so far, TS included; final: whether no further TDi can announce more. -/
structure AtrInfo where
  groups : List AtrGroup
  total  : Nat
  final  : Bool
  tck    : Bool
  deriving DecidableEq, Repr

/-- The structure of the characters received, TS first (02 R52). -/
def parseAtr (l : List Byte) : AtrInfo :=
  match l with
  | _ :: t0 :: rest =>
    let r := atrGroups 40 (t0.toNat / 16) rest
    let k := t0.toNat % 16
    let tck := r.2.2
    { groups := r.1, total := 2 + r.2.1 + k + b2n tck, final := r.2.1 ≤ rest.length, tck := tck }
  | _ => { groups := [], total := 2, final := false, tck := false }

/-- The protocol each TDi indicates, in order. -/
def AtrInfo.tds (a : AtrInfo) : List Nat := a.groups.filterMap fun g => g.td.map fun b => b.toNat % 16

/-- The groups after a TDi that indicates T, with their position i (the group of TAi): 06 R151. -/
def AtrInfo.after (a : AtrInfo) (t : Nat) : List (Nat × AtrGroup) :=
  ((List.range a.groups.length).filter fun i =>
      0 < i && (match (a.groups.getD (i - 1) {}).td with | some b => b.toNat % 16 = t | none => false)).map fun i => (i + 1, a.groups.getD i {})

/-- The first byte that f finds among the T=1 groups with i of 3 or more, that is after a TDi with i of 2 or more (06 R151). -/
def AtrInfo.first1 (a : AtrInfo) (f : AtrGroup → Option Byte) : Option Byte :=
  ((a.after 1).filter fun p => 3 ≤ p.1).findSome? fun p => f p.2

/-- The TA after T=15 (02 R53). -/
def AtrInfo.t15 (a : AtrInfo) : Option Byte := (a.after 15).findSome? fun p => p.2.ta

/-- The protocols offered (06 Table 6-1): the T of TD1, TD2 ... in order of appearance, T=15 apart; T=0 where there is no TD1. -/
def AtrInfo.offered (a : AtrInfo) : List Nat := if a.tds.isEmpty then [0] else a.tds.filter (· ≠ 15)

/-- What the protocol engine derives at ATR acceptance (06 Table 6-1). -/
def AtrInfo.params (a : AtrInfo) (p : ProtEng) : ProtEng :=
  let g1 := a.groups.getD 0 {}
  let g2 := a.groups.getD 1 {}
  let ta1Ok := match g1.ta with | some b => fiOf (b.toNat / 16) ≠ 0 && diOf (b.toNat % 16) ≠ 0 | none => false
  let t0off := a.offered.contains 0
  let wi := match g2.tc with | some b => if t0off then b.toNat else 10 | none => 10
  let ifs := (a.first1 (·.ta)).map (·.toNat)
  let tb := (a.first1 (·.tb)).map (·.toNat)
  { p with
    ta1 := g1.ta, ta1Ok := ta1Ok
    fi := match g1.ta with | some b => if ta1Ok then b.toNat / 16 else 1 | none => 1
    di := match g1.ta with | some b => if ta1Ok then b.toNat % 16 else 1 | none => 1
    guardN := match g1.tc with | some b => b.toNat | none => 0
    offered := a.offered
    specific := g2.ta
    wi := wi
    ifsc := ifs.getD 32, ifscAtr := ifs.getD 32
    bwi := (tb.getD 0x4D) / 16, cwi := (tb.getD 0x4D) % 16
    crc := match a.first1 (·.tc) with | some b => b.getLsbD 0 | none => false
    t1Ok := (match ifs with | some v => v ≠ 0 && v ≠ 255 | none => true) && (match tb with | some v => v / 16 < 10 | none => true)
    x := match a.t15 with | some b => b.toNat / 64 | none => 0
    y := match a.t15 with | some b => b.toNat % 64 | none => 0
    t15 := a.t15.isSome }

/-- Whether protocol t is usable (06 Table 6-1, R158). -/
def ProtEng.usable (p : ProtEng) (t : Nat) : Bool := if t = 0 then p.wi ≠ 0 else t = 1 && p.t1Ok

/-- Whether protocol t is offered and usable (06 R159). -/
def ProtEng.eligible (p : ProtEng) (t : Nat) : Bool := p.offered.contains t && p.usable t

end Sys2Proof.Machine
end

