-- ==== Sys2Proof/Machine/Proto.lean ====
section
/-! DEFINITION. The protocol engine: negotiation and PPS, T=0, T=1 (06 R151 to R179, R471). -/

namespace Sys2Proof.Machine

/-- Sets SLOT field groups of CHAR_ETU and CHAR_CFG that the engine owns. -/
def SlotRegs.engine (r : SlotRegs) (fi di gt : Nat) (errsig : Bool) : SlotRegs :=
  { r with
    charEtu := setFld (setFld r.charEtu 11 8 fi) 7 4 di
    charCfg := setFld (setFld r.charCfg 17 9 gt) 29 29 (b2n errsig) }

/-- CHAR_CFG.MODE is RAW. -/
def Slot.raw (x : Slot) : Bool := fld x.regs.charCfg 31 30 = 1
/-- CHAR_CFG.ERRSIG_EN, which RAW ignores (04 R112). -/
def Slot.errsig (x : Slot) : Bool := bitOf x.regs.charCfg 29 && !x.raw
/-- CHAR_CFG.TX_GT. -/
def Slot.txGuard (x : Slot) : Nat := fld x.regs.charCfg 17 9
/-- PROT_CFG fields (06 Table 6-15). -/
def Slot.blkRetry (x : Slot) : Nat := fld x.regs.protCfg 22 20
/-- PROT_CFG.RSYNC_MAX. -/
def Slot.rsyncMax (x : Slot) : Nat := fld x.regs.protCfg 24 23
/-- PROT_CFG.IFSD. -/
def Slot.ifsd (x : Slot) : Nat := fld x.regs.protCfg 19 12

/-! Blocks. -/

/-- EDC of a block (06 R172). -/
def edcOf (crc : Bool) (l : List Byte) : List Byte := if crc then crc16Bytes l else [xorBytes l]

/-- A block: NAD 00, PCB, LEN, INF, EDC (06 R171). -/
def blockOf (crc : Bool) (pcb : Byte) (inf : List Byte) : List Byte :=
  let l := [0#8, pcb, BitVec.ofNat 8 inf.length] ++ inf
  l ++ edcOf crc l

/-- The slot sends a block next. -/
def Slot.sendBlk (x : Slot) (pcb : Byte) (inf : List Byte) (quiet : Bool := false) : Slot :=
  let l := blockOf x.pr.crc pcb inf
  { x with ch := { x.ch with txq := l, rxBuf := [] }, pr := { x.pr with t1 := { x.pr.t1 with last := l, bwtArmed := false, quiet := quiet } } }

/-- The slot sends the next I-block of the command: at most IFSC bytes of INF, M in every block but the last (06 R174, R175). -/
def Slot.sendI (x : Slot) : Slot :=
  let t := x.pr.t1
  let inf := t.rest.take x.pr.ifsc
  let rest := t.rest.drop x.pr.ifsc
  let m := !rest.isEmpty
  let pcb := BitVec.ofNat 8 (b2n t.ns * 64 + b2n m * 32)
  let y := x.sendBlk pcb inf
  { y with pr := { y.pr with t1 := { y.pr.t1 with
      rest := rest, lastI := y.pr.t1.last, lastINs := t.ns, lastIM := m, lastILen := inf.length, awaitAck := m, ns := !t.ns } } }

/-- S(IFS request) with IFSD goes out (06 R165). -/
def Slot.sendIfs (x : Slot) (mode : ProtMode) (quiet : Bool) : Slot :=
  let y := x.sendBlk 0xC1#8 [BitVec.ofNat 8 x.ifsd] quiet
  { y with pr := { y.pr with mode := mode, t1 := { y.pr.t1 with sPending := true } } }

/-! Negotiation. -/

/-- The slot enters READY from NEGOTIATING (06 R165, 08 R229). -/
def State.enterReady (s : State) (i : Nat) : State :=
  ((((s.modSlot i fun x =>
    { x with st := .ready, pr := { x.pr with mode := .idle, settled := true, ifsc := x.pr.ifsc, sent := 0, t1 := { attempts := x.pr.t1.attempts } }, ch := { x.ch with rxBuf := [] } }).endWait i 0).endWait i 1).setsReady i).actPend i

/-- Negotiation fails with NEG_RESULT r: normal deactivation, ACT_RESULT NEG_FAILED (06 R161). -/
def State.negFail (s : State) (i r : Nat) : State :=
  (s.failActivation i 5).modSlot i fun x => { x with pr := { x.pr with negResult := r } }

/-- The negotiation reset where it is unused, else failure with NEG_RESULT r (06 R161). -/
def State.negReset (s : State) (i r : Nat) : State :=
  if (s.slot i).seq.negResetUsed then s.negFail i r
  else (s.modSlot i fun x => { x with seq := { x.seq with negResetUsed := true } }).warmReset i

/-- The divider after negotiation (06 R164, R152, R57; FMAX_OVERRIDE lifts F: DEDUCED, log 14). -/
def Slot.negDiv (x : Slot) : Nat :=
  let minDiv := fld x.regs.protCfg 11 3
  if x.pr.ta1.isSome && !x.pr.ta1Ok then x.actDiv
  else if bitOf x.regs.cfg 14 then minDiv
  else max (match x.pr.ta1 with | some b => minDivOf (b.toNat / 16) | none => 96) minDiv

/-- TX_GT for protocol t (04 R106). -/
def txGt (n t : Nat) : Nat := if n ≤ 254 then 12 + n else if t = 1 then 11 else 12

/-- The register values a start edge of this very ck still latches are kept beside the new ones (04 R98). -/
def Slot.noteChange (x : Slot) (now : Nat) : Slot :=
  match x.ch.chg with
  | some b =>
    if b.at_ = now then x
    else { x with ch := { x.ch with chg := some { at_ := now, gt := x.txGuard, etu := x.regs.charEtu, ofs := x.temp.app.ofs } } }
  | none => { x with ch := { x.ch with chg := some { at_ := now, gt := x.txGuard, etu := x.regs.charEtu, ofs := x.temp.app.ofs } } }

/-- Negotiation settles on protocol t at codes fi and di with NEG_RESULT r: its values are staged, the divider for the next falling edge of CLK
(06 R164, R165). -/
def State.settle (s : State) (i fi di t r : Nat) : State :=
  let s1 := s.modSlot i fun x =>
    let y := (x.noteChange s.now).stageDiv s.now x.negDiv
    { y with
      regs := y.regs.engine fi di (txGt y.pr.guardN t) (t = 0)
      pr := { y.pr with proto := t, settled := true, negResult := r, mode := .idle }
      ch := { y.ch with rxBuf := [], txq := [], pend := true } }
  if t = 1 && (s1.slot i).ifsd ≠ 32 then s1.modSlot i fun x => x.sendIfs .ifs false else s1.enterReady i

/-- The PPS request (06 R162). -/
def ppsRequest (pps1 : Option Byte) (t : Nat) : List Byte :=
  let l := [0xFF#8, BitVec.ofNat 8 ((if pps1.isSome then 16 else 0) + t)] ++ pps1.toList
  l ++ [xorBytes l]

/-- Negotiation begins at ATR acceptance (06 R158 to R162). -/
def State.negotiate (s : State) (i : Nat) : State :=
  let x := s.slot i
  let p := x.pr
  match p.specific with
  | some ta2 =>
    let t := ta2.toNat % 16
    if !ta2.getLsbD 4 && t < 2 && p.usable t then s.settle i p.fi p.di t 4
    else if !ta2.getLsbD 7 && !x.seq.negResetUsed then s.negReset i 5
    else s.negFail i 5
  | none =>
    let pref := fld x.regs.protCfg 2 1
    let t? := if pref = 0 then p.offered.find? (fun t => t < 2 && p.eligible t)
      else if p.eligible (pref - 1) then some (pref - 1) else none
    match t? with
    | none => s.negFail i 6
    | some t =>
      let a := p.offered.head? ≠ some t
      let pps1 := if x.seq.negResetUsed then none else match p.ta1 with | some b => if p.ta1Ok && b ≠ 0x11#8 then some b else none | none => none
      if bitOf x.regs.protCfg 0 && (a || pps1.isSome) then
        s.modSlot i fun x =>
          { x with pr := { x.pr with mode := .pps, ppsReq := ppsRequest pps1 t }, ch := { x.ch with txq := ppsRequest pps1 t, rxBuf := [] } }
      else if a then s.negFail i 6
      else s.settle i 1 1 t 1

/-- ATR acceptance (02 R43 rules 3 and 5, R53, 06 R151, 04 R106). ATR_ERR returns to NONE here and nowhere else but at a reset of the slot
registers (DESIGN CHOICE, log 125). -/
def State.acceptAtr (s : State) (i : Nat) : State :=
  let s1 := s.modSlot i fun x =>
    let p := (parseAtr x.ch.atr).params { x.pr with settled := false }
    { x.noteChange s.now with
      st := .negotiating
      regs := { x.regs with actResult := 1, atrErr := 0, charCfg := setFld x.regs.charCfg 17 9 (if p.guardN ≤ 254 then 12 + p.guardN else 12) }
      pr := p
      ch := { (x.noteChange s.now).ch with atrDone := true, rxBuf := [] } }
  (s1.endWait i 0).negotiate i

/-- A complete ATR without error is judged by its class indicator (02 R43 rules 3 to 5). -/
def State.judgeAtr (s : State) (i : Nat) : State :=
  let x := s.slot i
  let y := match (parseAtr x.ch.atr).t15 with | some b => b.toNat % 64 | none => 0
  let has : SClass → Bool := fun k => match k with | .a => y % 2 = 1 | .b => y / 2 % 2 = 1 | .c => y / 4 % 2 = 1
  if y = 0 || has x.seq.tryCls then s.acceptAtr i
  else
    match (classesAfter x.regs.cfg x.seq.tryCls).find? has with
    | some k => s.classChange i k
    | none => s.failActivation i 4

/-- ATR_INFO's clock-stop and class indicators from the characters received so far (02 R53). -/
def Slot.readAtr (x : Slot) : Slot :=
  let t := (parseAtr x.ch.atr).t15
  let v := match t with | some b => b.toNat | none => 0
  { x with pr := { x.pr with x := v / 64, y := v % 64, t15 := t.isSome } }

/-- A character of the ATR is received (02 R51, R52): `bad` is its ATR_ERR code, 0 none. -/
def State.atrChar (s : State) (i : Nat) (data : Byte) (bad : Nat) : State :=
  let s1 := s.modSlot i fun x => ({ x with ch := { x.ch with atr := if x.ch.atrOn then x.ch.atr ++ [data] else [data], atrOn := true } }).readAtr
  if bad ≠ 0 then s1.atrError i bad
  else
    let l := (s1.slot i).ch.atr
    let a := parseAtr l
    if 33 < a.total then s1.atrError i 5
    else if a.final && a.total ≤ l.length then
      if a.tck && xorBytes (l.drop 1) ≠ 0#8 then s1.atrError i 3 else s1.judgeAtr i
    else s1

/-- The PPS response so far is judged (06 R163): none while more characters are due. -/
def judgePps (req : List Byte) (t : Nat) (l : List RxChar) : Option Nat :=
  let bs := l.map (·.data)
  let p0 := (bs.getD 1 0#8).toNat
  let need := if bs.length < 2 then 3 else 3 + p0 / 16 % 2 + p0 / 32 % 2 + p0 / 64 % 2
  if l.any (fun c => !c.parity || !c.framing) then some 7
  else if l.length < need then none
  else if bs.take need = req then some 2
  else if bs.getD 0 0#8 = 0xFF#8 && p0 / 16 = 0 && p0 % 16 = t && xorBytes (bs.take need) = 0#8 && 4 ≤ req.length then some 3
  else some 7

/-- The T of the PPS request under way, which the slot takes when the response is accepted (06 R162, Table 6-3). -/
def ProtEng.ppsT (p : ProtEng) : Nat := (p.ppsReq.getD 1 0#8).toNat % 16

/-! The end of an exchange. -/

/-- Transaction t runs on a session with profile AES_CTR_CMAC (06 R186). -/
def State.isSm (s : State) (t : Nat) : Bool := match s.txn t with | some x => x.sm | none => false

/-- The complete response r of slot i is received (01 R16): DONE, or an unwrap where the session has a profile (06 R186). -/
def State.responseDone (s : State) (i : Nat) (r : List Byte) : State :=
  match (s.slot i).holder with
  | some t =>
    if s.isSm t then
      (((((s.askLane t).modTxn t fun x => { x with wrapped := r, smSent := (s.slot i).pr.sent }).modSlot i fun x =>
        { x with pr := { x.pr with mode := .idle, smWait := true } }).endWait i 0).endWait i 1)
    else
      s.endExchange i 1 { done := true, resp := r, status := 0, cause := 0, sent := (s.slot i).pr.sent, cls := .done } false
  | none => s

/-! T=0. -/

/-- The case of a command and its data by 06 Table 6-5: (case, P3, data length), none where the table rejects it. -/
def apduCase (l : List Byte) : Option (Nat × Byte) :=
  let n := l.length
  let b5 := l.getD 4 0#8
  if n = 4 then some (1, 0#8)
  else if n = 5 then some (2, b5)
  else if b5 ≠ 0#8 && n = 5 + b5.toNat then some (3, b5)
  else if b5 ≠ 0#8 && n = 6 + b5.toNat then some (4, b5)
  else none

/-- A T=0 TPDU starts: its five header bytes are sent (06 R167). -/
def Slot.startTpdu (x : Slot) (header : List Byte) (kase : Nat) (send : List Byte) (recv : Nat) (isGr corrected : Bool) : Slot :=
  { x with
    ch := { x.ch with txq := header, rxBuf := [] }
    pr := { x.pr with t0 := { x.pr.t0 with
      phase := .proc, header := header, casee := kase, isGr := isGr, toSend := send, toRecv := recv, data := [], sw1 := none, corrected := corrected } } }

/-- P3 as a count, 00 meaning 256. -/
def p3Count (b : Byte) : Nat := if b = 0#8 then 256 else b.toNat

/-- The slot starts a T=0 exchange with a command of 06 Table 6-5. -/
def Slot.startT0 (x : Slot) (cmd : List Byte) : Slot :=
  let k := (apduCase cmd).getD (1, 0#8)
  let y := { x with pr := { x.pr with mode := .t0, t0 := {}, sent := 0, firstTx := none } }
  y.startTpdu (cmd.take 4 ++ [k.2]) k.1 (if k.1 = 3 || k.1 = 4 then (cmd.drop 5).take k.2.toNat else [])
    (if k.1 = 2 then p3Count k.2 else 0) false false

/-- The slot starts a T=1 exchange with a command (06 R174). -/
def Slot.startT1 (x : Slot) (cmd : List Byte) : Slot :=
  ({ x with pr := { x.pr with mode := .t1, sent := 0, firstTx := none, t1 := { ns := x.pr.t1.ns, nr := x.pr.t1.nr, rest := cmd } } }).sendI

/-- The slot starts its exchange in the protocol in use. -/
def Slot.startProto (x : Slot) (cmd : List Byte) : Slot := if x.pr.proto = 0 then x.startT0 cmd else x.startT1 cmd

/-- A T=0 procedure byte (06 Table 6-6). -/
def State.procByte (s : State) (i : Nat) (b : Byte) : State :=
  let t := (s.slot i).pr.t0
  let ins := t.header.getD 1 0#8
  let set (f : T0Eng → T0Eng) (q : List Byte) : State := s.modSlot i fun x =>
    { x with pr := { x.pr with t0 := f x.pr.t0 }, ch := { x.ch with txq := q } }
  if b = 0x60#8 then s.bump i 23
  else if b = ins && !t.toSend.isEmpty then set (fun t => { t with toSend := [] }) t.toSend
  else if b = ins && 0 < t.toRecv then set (fun t => { t with phase := .recvAll }) []
  else if b = ins ^^^ 0xFF#8 && !t.toSend.isEmpty then set (fun t => { t with toSend := t.toSend.drop 1 }) (t.toSend.take 1)
  else if b = ins ^^^ 0xFF#8 && 0 < t.toRecv then set (fun t => { t with phase := .recvOne }) []
  else if b.toNat / 16 = 6 || b.toNat / 16 = 9 then set (fun t => { t with phase := .sw2, sw1 := some b }) []
  else s.endInDoubt i 2 true

/-- CLA with its secure-messaging indication cleared (06 R168). -/
def claClear (c : Byte) : Byte := if c.toNat < 0x20 then c &&& 0xF3#8 else if 0x40 ≤ c.toNat && c.toNat < 0x80 then c &&& 0xDF#8 else c

/-- SW2 ends a T=0 TPDU (06 R167 to R169); a corrected GET RESPONSE is a GET RESPONSE header sent too (06 R188). -/
def State.tpduEnd (s : State) (i : Nat) (sw2 : Byte) : State :=
  let x := s.slot i
  let t := x.pr.t0
  let sw1 := t.sw1.getD 0#8
  let acc := t.acc ++ t.data
  if bitOf x.regs.protCfg 26 && (t.casee = 2 || t.isGr) && sw1 = 0x6C#8 && !t.corrected && (!t.isGr || t.acc.length + p3Count sw2 ≤ 65536) then
    ((if t.isGr then s.bump i 24 else s).bump i 25).modSlot i fun x => x.startTpdu (t.header.take 4 ++ [sw2]) t.casee [] (p3Count sw2) t.isGr true
  else if bitOf x.regs.protCfg 25 && (t.casee = 2 || t.casee = 4 || t.isGr) && sw1 = 0x61#8 && acc.length + p3Count sw2 ≤ 65536 then
    (s.bump i 24).modSlot i fun x =>
      ({ x with pr := { x.pr with t0 := { x.pr.t0 with acc := acc } } }).startTpdu
        [claClear (t.header.getD 0 0#8), 0xC0#8, 0#8, 0#8, sw2] t.casee [] (p3Count sw2) true false
  else s.responseDone i (acc ++ [sw1, sw2])

/-- A character reaches the T=0 engine of slot i (06 R167, R170). -/
def State.t0Char (s : State) (i : Nat) (c : RxChar) : State :=
  let x := s.slot i
  if !c.framing then s.endInDoubt i 6 true
  else if !c.parity then s.endInDoubt i 4 true
  else if !x.ch.txq.isEmpty then s.endInDoubt i 2 true
  else match x.pr.t0.phase with
    | .recvAll => s.modSlot i fun x =>
        let n := x.pr.t0.toRecv - 1
        { x with pr := { x.pr with t0 := { x.pr.t0 with data := x.pr.t0.data ++ [c.data], toRecv := n, phase := if n = 0 then .proc else .recvAll } } }
    | .recvOne => s.modSlot i fun x =>
        { x with pr := { x.pr with t0 := { x.pr.t0 with data := x.pr.t0.data ++ [c.data], toRecv := x.pr.t0.toRecv - 1, phase := .proc } } }
    | _ => s.modSlot i fun x => { x with ch := { x.ch with rxBuf := x.ch.rxBuf ++ [c] } }

/-! T=1. -/

/-- RESYNCH, or its exhaustion (06 R178). -/
def State.startResync (s : State) (i : Nat) : State :=
  let x := s.slot i
  if x.rsyncMax ≤ x.pr.t1.rsync then s.endInDoubt i 8 true
  else
    (s.bump i 28).modSlot i fun x =>
      let y := x.sendBlk 0xC0#8 [] true
      { y with pr := { y.pr with mode := .resynch, t1 := { y.pr.t1 with rsync := y.pr.t1.rsync + 1, sPending := true, wtx := 1, cardChain := false, awaitAck := false } } }

/-- An event that counts as an attempt, with the engine's action f (06 R177). -/
def State.t1Attempt (s : State) (i : Nat) (f : State → State) : State :=
  let x := s.slot i
  if x.blkRetry < x.pr.t1.attempts + 1 then s.startResync i
  else f (s.modSlot i fun x => { x with pr := { x.pr with t1 := { x.pr.t1 with attempts := x.pr.t1.attempts + 1 } } })

/-- An invalid block with the error code of R173, or an expired BWT (code 2): 06 Table 6-10, R165, R178. -/
def State.t1Fail (s : State) (i code : Nat) : State :=
  let x := s.slot i
  match x.pr.mode with
  | .resynch => s.startResync i
  | .ifs | .reIfs =>
    if x.blkRetry ≤ x.pr.t1.ifsTries then
      if x.pr.mode = .ifs then s.negReset i 8 else s.startResync i
    else
      s.modSlot i fun x =>
        let y := x.sendBlk 0xC1#8 [BitVec.ofNat 8 x.ifsd] true
        { y with pr := { y.pr with t1 := { y.pr.t1 with ifsTries := y.pr.t1.ifsTries + 1, attempts := y.pr.t1.ifsTries + 1 } } }
  | _ =>
    s.t1Attempt i fun s => (s.bump i 26).modSlot i fun x =>
      x.sendBlk (BitVec.ofNat 8 (0x80 + b2n x.pr.t1.nr * 16 + code)) [] true

/-- A valid I-block of the card (06 R174, R175). -/
def State.t1I (s : State) (i : Nat) (pcb : Byte) (inf : List Byte) : State :=
  let x := s.slot i
  let t := x.pr.t1
  if x.pr.mode ≠ .t1 || t.sPending || t.awaitAck || pcb.getLsbD 6 ≠ t.nr then s.t1Fail i 2
  else if 65538 < t.acc.length + inf.length then s.endInDoubt i 10 true
  else
    let s1 := s.modSlot i fun x => { x with pr := { x.pr with t1 := { x.pr.t1 with
      acc := x.pr.t1.acc ++ inf, nr := !x.pr.t1.nr, attempts := 0, cardChain := pcb.getLsbD 5 } } }
    if pcb.getLsbD 5 then
      (s1.bump i 26).modSlot i fun x => x.sendBlk (BitVec.ofNat 8 (0x80 + b2n x.pr.t1.nr * 16)) []
    else s1.responseDone i (s1.slot i).pr.t1.acc

/-- A valid R-block of the card (06 Table 6-10). -/
def State.t1R (s : State) (i : Nat) (pcb : Byte) : State :=
  let x := s.slot i
  let t := x.pr.t1
  if x.pr.mode ≠ .t1 || t.sPending || t.lastI.isEmpty then s.t1Fail i 2
  else if pcb.getLsbD 4 = t.lastINs then
    s.t1Attempt i fun s => (s.bump i 27).modSlot i fun x =>
      { x with ch := { x.ch with txq := x.pr.t1.lastI, rxBuf := [] }, pr := { x.pr with t1 := { x.pr.t1 with last := x.pr.t1.lastI, bwtArmed := false } } }
  else if t.awaitAck then
    s.modSlot i fun x => ({ x with pr := { x.pr with t1 := { x.pr.t1 with attempts := 0 } } }).sendI
  else s.t1Fail i 2

/-- S(IFS response) accepted, or S(RESYNCH response): what follows (06 R165, R178). -/
def State.t1SAccepted (s : State) (i : Nat) : State :=
  let x := s.slot i
  let s1 := s.modSlot i fun x => { x with pr := { x.pr with t1 := { x.pr.t1 with sPending := false } }, ch := { x.ch with rxBuf := [] } }
  match x.pr.mode with
  | .ifs => s1.enterReady i
  | .reIfs => s1.endInDoubt i 7 false
  | .resynch =>
    let s2 := s1.modSlot i fun x => { x with pr := { x.pr with ifsc := x.pr.ifscAtr, t1 := { x.pr.t1 with ns := false, nr := false, ifsTries := 0 } } }
    if x.ifsd ≠ 32 then s2.modSlot i fun x => x.sendIfs .reIfs false else s2.endInDoubt i 7 false
  | _ => s1

/-- A valid S-block of the card (06 Table 6-9). -/
def State.t1S (s : State) (i : Nat) (pcb : Byte) (inf : List Byte) : State :=
  let x := s.slot i
  let t := x.pr.t1
  let v := (inf.getD 0 0#8)
  match pcb.toNat with
  | 0xC3 => ((s.bump i 29).modSlot i fun x => ({ x with pr := { x.pr with t1 := { x.pr.t1 with wtx := v.toNat } } }).sendBlk 0xE3#8 inf)
  | 0xC1 => ((s.bump i 30).modSlot i fun x => ({ x with pr := { x.pr with ifsc := v.toNat } }).sendBlk 0xE1#8 inf)
  | 0xC2 =>
    let s := s.bump i 31
    if x.pr.mode = .t1 && (t.awaitAck || t.cardChain) then
      s.modSlot i fun x => ({ x with pr := { x.pr with t1 := { x.pr.t1 with abortEnd := true } } }).sendBlk 0xE2#8 []
    else s.t1Fail i 2
  | 0xE1 => if t.sPending && (x.pr.mode = .ifs || x.pr.mode = .reIfs) && v.toNat = x.ifsd then s.t1SAccepted i else s.t1Fail i 2
  | 0xE0 => if t.sPending && x.pr.mode = .resynch then s.t1SAccepted i else s.t1Fail i 2
  | _ => s.t1Fail i 2

/-- Whether a block breaks 06 Table 6-8 or an I-block exceeds IFSD (06 R173). -/
def blockBad (ifsd : Nat) (nad pcb : Byte) (inf : List Byte) : Bool :=
  let p := pcb.toNat
  nad ≠ 0#8 ||
    (if p < 0x80 then p % 0x20 ≠ 0 || ifsd < inf.length || 254 < inf.length
     else if p < 0xC0 then !([0x80, 0x90, 0x81, 0x91, 0x82, 0x92].contains p) || !inf.isEmpty
     else if [0xC0, 0xE0, 0xC2, 0xE2].contains p then !inf.isEmpty
     else if [0xC1, 0xE1].contains p then inf.length ≠ 1 || inf.getD 0 0#8 = 0#8 || inf.getD 0 0#8 = 0xFF#8
     else if [0xC3, 0xE3].contains p then inf.length ≠ 1 || inf.getD 0 0#8 = 0#8
     else true)

/-- The number of characters of the block in reception, known once LEN is (06 R173). -/
def blockNeed (crc : Bool) (l : List Byte) : Option Nat :=
  match l with
  | _ :: _ :: n :: _ => some (n.toNat + (if crc then 5 else 4))
  | _ => none

/-- The received characters end a block; `atCwt`: it ended at an expired CWT (06 R173). -/
def State.t1Block (s : State) (i : Nat) (atCwt : Bool) : State :=
  let x := s.slot i
  let l := x.ch.rxBuf.map (·.data)
  let e := if x.pr.crc then 2 else 1
  let body := l.take (l.length - e)
  let pcb := byteAt l 1
  let inf := (body.drop 3)
  let s1 := s.modSlot i fun x => { x with ch := { x.ch with rxBuf := [] }, pr := { x.pr with t1 := { x.pr.t1 with wtx := 1 } } }
  if x.ch.rxBuf.any (fun c => !c.parity || !c.framing) then s1.t1Fail i 1
  else if !atCwt && edcOf x.pr.crc body ≠ l.drop (l.length - e) then s1.t1Fail i 1
  else if atCwt then s1.t1Fail i 2
  else if blockBad x.ifsd (byteAt l 0) pcb inf then s1.t1Fail i 2
  else if pcb.toNat < 0x80 then s1.t1I i pcb inf
  else if pcb.toNat < 0xC0 then s1.t1R i pcb
  else s1.t1S i pcb inf

/-- WT in ETU (06 Table 6-2). -/
def Slot.wt (x : Slot) : Nat := x.pr.wi * 960 * diOf (fld x.regs.charEtu 7 4)

/-- What the protocol engine awaits once the last queued character has begun: the wait of 06 R154 starts, BWT at B11 of that character, or a T=1
exchange that answered an ABORT ends (06 R176). -/
def State.afterSent (s : State) (i : Nat) : State :=
  let x := s.slot i
  match x.pr.mode with
  | .pps => s.armWait i 0 4 0 9600
  | .t1 | .ifs | .resynch | .reIfs =>
    if x.pr.t1.abortEnd then
      if x.errsig then s else (s.elapseTo (x.ch.lastStart + x.ch.etu.halves 21)).endInDoubt i 9 false
    else (s.armWait i 1 3 7 (x.pr.t1.wtx * 2 ^ x.pr.bwi * 2790) 0 (some (x.ch.lastStart + x.ch.etu.bound 11))).modSlot i fun x =>
      { x with pr := { x.pr with t1 := { x.pr.t1 with bwtArmed := true } } }
  | _ => s

end Sys2Proof.Machine
end

