-- ==== Sys2Proof/Machine/Wave.lean ====
section
/-! DEFINITION. What the receivers of C7 read, as the commands bring it: samples and votes of a character (04 R99, R100, R102, R108), and the measures
of tempering taken from it (09 R248, R249). A list of readings begins at or before the start edge of its character, the first ck at which I/O reads
low; past its end C7 is idle high. -/

namespace Sys2Proof.Machine

/-- Whether I/O reads high t ck after the beginning of the readings. -/
def waveHigh : List Reading → Nat → Bool
  | [], _ => true
  | r :: w, t => if t < r.ck then r.high else waveHigh w (t - r.ck)

/-- The start edge: the first ck at which I/O reads low (04 R99). -/
def waveStart : List Reading → Nat
  | [] => 0
  | r :: w => if r.high || r.ck = 0 then r.ck + waveStart w else 0

/-- The first ck, t or later, at which I/O reads high; a is the ck at which the list begins. -/
def waveHighFrom : List Reading → Nat → Nat → Nat
  | [], a, t => max a t
  | r :: w, a, t => if r.high && max a t < a + r.ck then max a t else waveHighFrom w (a + r.ck) t

/-- Whether I/O reads high t ck after the start edge. -/
def readsHigh (w : List Reading) (t : Nat) : Bool := waveHigh w (waveStart w + t)

/-- The first ck, t or more after the start edge, at which I/O reads high, counted from that edge. -/
def highAgain (w : List Reading) (t : Nat) : Nat := waveHighFrom w 0 (waveStart w + t) - waveStart w

/-- The majority of three samples (04 R100). -/
def vote3 (a b c : Bool) : Bool := (a && b) || (b && c) || (a && c)

/-- The vote of the samples d before, at and after the ck c. -/
def voteOf (w : List Reading) (c d : Nat) : Bool := vote3 (readsHigh w (c - d)) (readsHigh w c) (readsHigh w (c + d))

/-- ⌊E / n⌋. -/
def Etu.part (e : Etu) (n : Nat) : Nat := e.num / (n * e.den)

/-- The sample point n half ETU after the start edge, from that edge: SAMPLE_OFS as latched, clamped to ±d (04 R100). -/
def Slot.sampleOff (x : Slot) (n : Nat) : Nat :=
  let d : Int := x.ch.etu.part 8
  ((x.ch.etu.halves n : Nat) + max (-d) (min d x.ch.latOfs)).toNat

/-- That sample point as a ck. -/
def Slot.sampleAt (x : Slot) (n : Nat) : Nat := x.ch.lastStart + x.sampleOff n

/-- d of 04 R100. -/
def Slot.sampleD (x : Slot) : Nat := x.ch.etu.part 8

/-- Bit k of the character in hand as voted: 0 start bit, 1 to 9 data and parity, 10 the stop position (04 R100, R102). -/
def Slot.bitVote (x : Slot) (w : List Reading) (k : Nat) : Bool := voteOf w (x.sampleOff (2 * k + 1)) x.sampleD

/-- The nine levels after the start bit as voted. -/
def Slot.voted (x : Slot) (w : List Reading) : BitVec 9 := BitVec.ofNat 9 (maskOf ((List.range 9).map fun k => x.bitVote w (k + 1)))

/-! Measures. -/

/-- The longest rise and fall, and the falling edges that show ringing (09 R248). -/
structure Edges where
  rise : Nat := 0
  fall : Nat := 0
  ring : Nat := 0
  deriving DecidableEq, Repr

/-- The edges of a list of readings that begins at ck a: p30 and p70 are the readings before it, up and down the ck at which a rise or fall under way
began, below that of the fall last completed (09 R248). -/
def waveEdges : List Reading → Nat → Bool → Bool → Option Nat → Option Nat → Option Nat → Edges → Edges
  | [], _, _, _, _, _, _, e => e
  | r :: w, a, p30, p70, up, down, below, e =>
    if r.ck = 0 then waveEdges w a p30 p70 up down below e
    else
    let up1 := if !r.over30 then none else if !p30 then some a else up
    let down1 := if r.over70 then none else if p70 then some a else down
    let rise := match up1 with | some u => if r.over70 && !p70 then max e.rise (a - u) else e.rise | none => e.rise
    let fell := p30 && !r.over30 && down1.isSome
    let fall := if fell then max e.fall (a - down1.getD a) else e.fall
    let rings := match below with | some b => r.over30 && decide (a ≤ b + 16) | none => false
    waveEdges w (a + r.ck) r.over30 r.over70 (if r.over70 then none else up1) (if r.over30 then down1 else none)
      (if fell then some a else if r.over30 then none else below) { rise := rise, fall := fall, ring := e.ring + b2n rings }

/-- The first n ck of the readings, and C7 idle high after them. -/
def waveUpto : List Reading → Nat → List Reading
  | [], n => [{ ck := n, high := true, over30 := true, over70 := true }]
  | r :: w, n => if n ≤ r.ck then [{ r with ck := n }] else r :: waveUpto w (n - r.ck)

/-- The ck of every change of I/O in a list that begins at ck a, p the level before it. -/
def waveChanges : List Reading → Nat → Bool → List Nat
  | [], _, _ => []
  | r :: w, a, p => if r.high = p || r.ck = 0 then waveChanges w (a + r.ck) p else a :: waveChanges w (a + r.ck) r.high

/-- The readings of the character in hand up to its middle stop position. -/
def Slot.charWave (x : Slot) (w : List Reading) : List Reading := waveUpto w (waveStart w + x.ch.etu.halves 21)

/-- The deviations t - Bk of the level changes between bits k - 1 and k, k = 1 to 10 (09 R249). -/
def Slot.deviations (x : Slot) (w : List Reading) : List Int :=
  (waveChanges (x.charWave w) 0 true).filterMap fun t =>
    let u := t - waveStart w
    if u ≤ x.ch.etu.halves 1 then none
    else ((List.range 10).find? fun k => decide (u ≤ x.ch.etu.halves (2 * k + 3))).map fun k => (u : Int) - x.ch.etu.bound (k + 1)

/-- The window with a received character counted (09 R249, R251). -/
def Window.addRx (n : Window) (x : Slot) (w : List Reading) : Window :=
  let e := waveEdges (x.charWave w) 0 true true none none none {}
  let l := x.deviations w
  { n with
    received := n.received + 1, rise := max n.rise e.rise, fall := max n.fall e.fall
    eMin := l.foldl min (if n.received = 0 then l.headD 0 else n.eMin), eMax := l.foldl max (if n.received = 0 then l.headD 0 else n.eMax) }

/-- The window with a transmitted character counted (09 R248, R251). -/
def Window.addTx (n : Window) (x : Slot) (w : List Reading) : Window :=
  let e := waveEdges (x.charWave w) 0 true true none none none {}
  { n with transmitted := n.transmitted + 1, rise := max n.rise e.rise, txFall := max n.txFall e.fall, ring := n.ring + e.ring }

/-- Characters counted in the window. -/
def Window.chars (n : Window) : Nat := n.received + n.transmitted

/-- The states in which tempering measures edges, eye and duty (09 R247). -/
def Slot.measuredIn (x : Slot) : Bool := x.st = .atr || x.st = .negotiating || x.st = .ready || x.st = .busy

/-- Tempering measures slot x: in those states and not in mode OFF (09 R247, Table 9-4). -/
def Slot.measured (x : Slot) : Bool := x.measuredIn && x.temp.modeApplied ≠ 3

/-- READY and BUSY (09 R247, R253). -/
def Slot.tempered (x : Slot) : Bool := x.st = .ready || x.st = .busy

/-- The window of slot x changed by f, where tempering measures it. -/
def Slot.measure (x : Slot) (f : Window → Window) : Slot :=
  if x.measured then { x with temp := { x.temp with win := f x.temp.win } } else x

end Sys2Proof.Machine
end

