-- ==== Sys2Proof/Machine/Reception.lean ====
section
/-! DEFINITION. A judged character on its way to the protocol engine, the waits of 06 R154, and the quench that may come between (04 R102 to R112,
06 R154, R155, R163, R167, R173, 03 R65 to R68, R74, R87). -/

namespace Sys2Proof.Machine

/-- Whether a number of ones is even. -/
def evenOnes (b : Byte) : Bool := ((List.range 8).filter fun i => b.getLsbD i).length % 2 = 0

/-- The byte whose bit i is bit 7 - i of b. -/
def revByte (b : Byte) : Byte := BitVec.ofNat 8 (maskOf ((List.range 8).map fun i => b.getLsbD (7 - i)))

/-- The nine levels after the start bit, in line order, of a byte in a convention (04 R104, R105). -/
def levelsOf (inverse : Bool) (b : Byte) : BitVec 9 :=
  let l : BitVec 9 := BitVec.ofNat 9 ((if inverse then revByte b else b).toNat + if evenOnes b then 0 else 256)
  if inverse then ~~~ l else l

/-- The byte that nine levels spell in a convention. -/
def byteOfLevels (inverse : Bool) (l : BitVec 9) : Byte :=
  let d : Byte := (if inverse then ~~~ l else l).setWidth 8
  if inverse then revByte d else d

/-- The parity test of 04 R105. -/
def parityGood (inverse : Bool) (l : BitVec 9) : Bool :=
  let v := if inverse then ~~~ l else l
  v.getLsbD 8 = !(evenOnes (v.setWidth 8))

/-- CWT in ETU (06 Table 6-2). -/
def Slot.cwt (x : Slot) : Nat := 11 + 2 ^ x.pr.cwi

/-- BWT after B11 in ck (06 Table 6-2). -/
def Slot.bwt (x : Slot) : Nat := x.pr.t1.wtx * 2 ^ x.pr.bwi * 357120 * x.seq.div

/-- Slot i runs a T=0 exchange. -/
def Slot.inT0 (x : Slot) : Bool := x.st = .busy && x.pr.mode = .t0

/-- Slot i awaits or receives a T=1 block. -/
def Slot.inT1 (x : Slot) : Bool :=
  (x.st = .busy || x.st = .negotiating) && !x.pr.smWait && x.ch.txq.isEmpty &&
    (x.pr.mode = .t1 || x.pr.mode = .ifs || x.pr.mode = .resynch || x.pr.mode = .reIfs)

/-- Slot i awaits or receives a PPS response. -/
def Slot.inPps (x : Slot) : Bool := x.st = .negotiating && x.pr.mode = .pps && x.ch.txq.isEmpty

/-! What the engine makes of the characters it has. -/

/-- A PPS failure (06 R163, R161, R188). -/
def State.ppsFail (s : State) (i : Nat) : State := (s.bump i 22).negReset i 7

/-- The PPS response received so far is judged (06 R163, R164). -/
def State.ppsJudge (s : State) (i : Nat) : State :=
  let x := s.slot i
  match judgePps x.pr.ppsReq x.pr.ppsT x.ch.rxBuf with
  | none => s
  | some 2 =>
    let s1 := s.endWait i 0
    if x.pr.ppsReq.length = 4 then s1.settle i x.pr.fi x.pr.di x.pr.ppsT 2 else s1.settle i 1 1 x.pr.ppsT 2
  | some 3 => (s.endWait i 0).settle i 1 1 x.pr.ppsT 3
  | some _ => s.ppsFail i

/-- The characters a T=0 engine had not read yet reach it in order, while the exchange lasts. -/
def State.t0Rest (s : State) (i : Nat) (l : List RxChar) : State :=
  l.foldl (fun s c => if (s.slot i).pr.mode = .t0 then s.t0Char i c else s) s

/-- The first unread character is a procedure byte, where one is awaited (06 R167, Table 6-6). -/
def State.t0Proc (s : State) (i : Nat) : State :=
  let x := s.slot i
  match x.ch.rxBuf with
  | b :: r =>
    if x.inT0 && x.pr.t0.phase = .proc then ((s.modSlot i fun x => { x with ch := { x.ch with rxBuf := [] } }).procByte i b.data).t0Rest i r else s
  | [] => s

/-- The first unread character is SW2, where it is awaited (06 R167 to R169). -/
def State.t0Sw2 (s : State) (i : Nat) : State :=
  let x := s.slot i
  match x.ch.rxBuf with
  | b :: r =>
    if x.inT0 && x.pr.t0.phase = .sw2 then ((s.modSlot i fun x => { x with ch := { x.ch with rxBuf := [] } }).tpduEnd i b.data).t0Rest i r else s
  | [] => s

/-- The whole block of slot i is judged, where it is received (06 R173). -/
def State.t1Whole (s : State) (i : Nat) : State :=
  let x := s.slot i
  match blockNeed x.pr.crc (x.ch.rxBuf.map (·.data)) with
  | some n =>
    if x.inT1 && n ≤ x.ch.rxBuf.length then ((s.endWait i 0).modSlot i fun x => { x with ch := { x.ch with rxBuf := x.ch.rxBuf.take n } }).t1Block i false
    else s
  | none => s

/-- What the engine has received and no command has read is read: at most n characters under T=0 (log 3). -/
def State.t0Read : Nat → State → Nat → State
  | 0, s, _ => s
  | n + 1, s, i => if (s.slot i).pr.t0.phase = .sw2 then State.t0Read n (s.t0Sw2 i) i else State.t0Read n (s.t0Proc i) i

/-- The protocol engine of slot i acts on what it has received (06 R163, R167, R173; log 3). -/
def State.digest (s : State) (i : Nat) : State :=
  let x := s.slot i
  if x.inPps then s.ppsJudge i
  else if x.inT0 then State.t0Read x.ch.rxBuf.length s i
  else if x.inT1 then s.t1Whole i
  else s

/-! A character passed on. -/

/-- Passes a character judged by its convention to what awaits it (04 R102, R107, R109; 02 R51, R52; 06 R163, R167, R173). -/
def State.passChar (s : State) (i : Nat) (c : RxChar) : State :=
  let x := s.slot i
  if x.st ≠ .atr && x.ch.lastTx.isNone then s.bump i 21
  else match x.st with
  | .atr => s.atrChar i c.data (if !c.parity then 2 else if !c.framing then 6 else 0)
  | .negotiating | .busy =>
    match x.pr.mode with
    | .t0 => s.t0Char i c
    | .pps | .t1 | .ifs | .resynch | .reIfs =>
      if !x.ch.txq.isEmpty then s else s.modSlot i fun x => { x with ch := { x.ch with rxBuf := x.ch.rxBuf ++ [c] } }
    | _ => s
  | _ => s

/-- TS by its levels: the convention and the byte, none for TS_INVALID (04 R104). -/
def tsOf (l : BitVec 9) : Option (Bool × Byte) := if l = 0x13B#9 then some (false, 0x3B#8) else if l = 0x103#9 then some (true, 0x3F#8) else none

/-- A character whose stop position is judged: raw, TS, or by its convention (04 R102 to R105, R109, R112, 06 R154). -/
def State.rxPass (s : State) (i : Nat) (l : BitVec 9) (good : Bool) : State :=
  let x := s.slot i
  let s1 := s.modSlot i fun x => { x with ch := { x.ch with rxHold := none, framing := x.ch.framing || !good } }
  let s2 := if good then s1 else s1.bump i 15
  if x.raw then
    s2.modSlot i fun x =>
      if x.ch.rawRx.length < 16 then { x with ch := { x.ch with rawRx := x.ch.rawRx ++ [(!good, l)] } }
      else { x with ch := { x.ch with rawOvf := true } }
  else if x.st = .atr && !x.ch.convSet then
    match tsOf l with
    | some t =>
      ((s2.modSlot i fun x => { x with ch := { x.ch with inverse := t.1, convSet := true } }).armWait i 0 4 0 9600
        (x.ch.etu.boundsBy (s.now - x.ch.lastStart))).atrChar i t.2 (if good then 0 else 6)
    | none => (s2.modSlot i fun x => { x with ch := { x.ch with inverse := false } }).atrChar i (l.setWidth 8) 1
  else
    let p := parityGood x.ch.inverse l
    let s3 := if p && 0 < x.ch.rxReps then s2.bump i 19 else s2
    (s3.modSlot i fun x => { x with ch := { x.ch with rxReps := 0 } }).passChar i { data := byteOfLevels x.ch.inverse l, parity := p, framing := good }

/-- The late sample of the stop position is taken: the character held for it passes on (04 R102). -/
def State.rxFlush (s : State) (i : Nat) : State :=
  match (s.slot i).ch.rxHold with
  | some h => (s.elapseTo h.lateAt).rxPass i h.levels h.vote
  | none => s

/-- A character whose late sample has been taken by now has passed on, and the engine has acted on what it received (01 R16, 04 R111). -/
def State.rxRipe (s : State) (i : Nat) : State :=
  (match (s.slot i).ch.rxHold with
   | some h => if h.lateAt ≤ s.now then s.rxPass i h.levels h.vote else s
   | none => s).digest i

/-! Waits (06 Table 6-2). -/

/-- The waits of 06 Table 6-2. -/
inductive Wait where
  | ts | atrChar | pps | wt | cwt | bwt
  deriving DecidableEq, Repr

/-- The wait that slot x is in, while no character is in reception. WT runs on where a repetition waits for I/O to read high (04 R108). -/
def Slot.wait (x : Slot) : Option Wait :=
  if x.ch.rxOn.isSome then none
  else if x.st = .atr then some (if x.ch.atrOn then .atrChar else .ts)
  else if x.inPps then some .pps
  else if x.inT0 && !x.pr.smWait && 0 < x.pr.sent && (x.ch.txq.isEmpty || x.ch.txAgain.isSome) then some .wt
  else if x.inT1 && !x.ch.rxBuf.isEmpty then some .cwt
  else if x.inT1 && x.pr.t1.bwtArmed then some .bwt
  else none

/-- The ck at which a wait of slot x expires. -/
def Slot.waitAt (x : Slot) : Wait → Nat
  | .ts => x.seq.tb + 40000 * x.seq.div
  | .atrChar | .pps => x.ch.lastStart + x.ch.etu.bound 9600
  | .wt => x.ch.lastStart + x.ch.etu.bound x.wt
  | .cwt => x.ch.lastStart + x.ch.lastRxEtu.bound x.cwt
  | .bwt => x.ch.lastTx.getD 0 + x.ch.etu.bound 11 + x.bwt

/-- A wait of slot i expires (02 R50, R51, 06 R163, R170, R173, R177). -/
def State.expire (s : State) (i : Nat) (w : Wait) : State :=
  let s1 := s.elapseTo ((s.slot i).waitAt w)
  match w with
  | .ts => (s1.expireWait i 1).atrFail i true
  | .atrChar => (s1.expireWait i 0).atrError i 4
  | .pps => (s1.expireWait i 0).ppsFail i
  | .wt => (s1.expireWait i 0).endInDoubt i 5 true
  | .cwt => (s1.expireWait i 0).t1Block i true
  | .bwt => ((s1.expireWait i 1).modSlot i fun x => { x with pr := { x.pr with t1 := { x.pr.t1 with wtx := 1, bwtArmed := false } } }).t1Fail i 2

/-- Wait w of slot i expires, where the slot is in it once all that has come is read. -/
def State.expired (s : State) (i : Nat) (w : Wait) : State :=
  let s1 := (s.rxFlush i).digest i
  if (s1.slot i).wait = some w then s1.expire i w else s1

/-- A wait of slot i whose compare event lies in a pk before ck t has expired by then (06 R155). -/
def State.overdue (s : State) (i t : Nat) : State :=
  let x := s.slot i
  match x.wait with
  | some w => if x.waitAt w + x.waitAt w % 2 < t then s.expire i w else s
  | none => s

/-! Quench. -/

/-- Whether the slot drives C7 low at ck t: I/O not released, a low bit of a character, an error signal, or the level a quench keeps (03 R68, 04 R106,
R107). -/
def Slot.ioLow (x : Slot) (t : Nat) : Bool :=
  match x.seq.ioHold with
  | some b => b
  | none =>
    let k := x.ch.etu.boundsBy (t - x.ch.lastStart)
    !x.seq.ioUp ||
      (x.ch.lastTx = some x.ch.lastStart && k < 10 && (k = 0 || !x.ch.txLevels.getLsbD (k - 1))) ||
      (match x.ch.esig with | some (a, b) => decide (a ≤ t ∧ t < b) | none => false)

/-- The character engine begins no start bit in the ck of a quench detection: one begun in it is none (03 R68). -/
def State.unstart (s : State) (i : Nat) : State :=
  let x := s.slot i
  if x.ch.lastTx = some s.now then
    let s1 := s.modSlot i fun x =>
      { x with
        ch := { x.ch with lastTx := none }
        pr := { x.pr with sent := x.pr.sent - 1, firstTx := if x.pr.sent ≤ 1 then none else x.pr.firstTx }
        xchg := { x.xchg with sent := x.xchg.sent && decide (1 < x.pr.sent) } }
    s1.emit (.noChr i)
  else s

/-- The outcome with quench cause a, decided for slot i's quench at tide t, carries cause b instead. -/
def Outcome.recause (o : Outcome) (t : Tide) (a b : Nat) : Outcome := if o.cause = a ∧ o.tide = t then { o with cause := b } else o

/-- What the quench of slot i, in position p of a set, has put into transaction x carries cause b instead of a. -/
def Txn.recause (x : Txn) (i : Nat) (p : Option Nat) (t : Tide) (a b : Nat) : Txn :=
  match x.target, p with
  | .set _, some p =>
    { x with
      outDone := x.outDone.map fun o => o.recause t a b
      rounds := { x.rounds with
        cur := x.rounds.cur.zipIdx.map fun e => if e.2 = p then e.1.map (fun m => if m.cause = a then { m with cause := b } else m) else e.1
        outs := x.rounds.outs.map fun e => if e.1 = p ∧ e.2.2 = a then (e.1, e.2.1, b) else e } }
  | .slot j, _ => if j = i then { x with outDone := x.outDone.map fun o => o.recause t a b } else x
  | _, _ => x

/-- A lower code detected in the pk of a quench of slot i becomes its primary cause, in all that carries it: SLOT_QUENCH, the QUENCH event, and the
outcomes it decided (03 R67, R74, R87). -/
def State.newPrimary (s : State) (i cause : Nat) : State :=
  let r := (s.slot i).regs
  let a := r.primary
  let s1 := s.modSlot i fun x => { x with regs := { x.regs with primary := cause } }
  let s2 := s1.modDev fun d =>
    { d with evq := d.evq.map fun e => if e.typ = 0x10 ∧ e.source = i ∧ e.code = a ∧ e.tide = r.quenchAt then { e with code := cause } else e }
  s2.forEach (s2.txnList.map (·.1)) fun s t => s.modTxn t fun x =>
    x.recause i (match x.target with | .set k => s.positionIn k i | _ => none) r.quenchAt a cause

/-- A cause detected on slot i (03 R65 to R68, R74, R87, R88, 17 R445): quenches a slot whose VCC is on or discharging, is recorded in QUENCHING, and
does nothing else where, nor while a device reset holds the slot logic (03 R85). What a stop sample up to this ck completed counts as received (01
R16). -/
def State.quench (s : State) (i cause : Nat) : State :=
  let x0 := s.slot i
  if s.boot.slotHeld then s
  else if x0.st = .quenching then
    if x0.regs.also.getLsbD (cause - 1) then s
    else
      let s1 := (s.modSlot i fun x => { x with regs := { x.regs with also := x.regs.also ||| (1#11 <<< (cause - 1)) } }).bump i cause
      if s.now / 2 = x0.seq.quenchT0.getD 0 / 2 ∧ cause < x0.regs.primary then s1.newPrimary i cause else s1
  else if x0.powered then
    let s0 := ((if s.slotLoop i then s.endLoop (i / 8) 5 else s).rxRipe i).unstart i
    let x := s0.slot i
    let low := x.ioLow s.now
    let s1 := (((s0.modSlot i fun x => { x with regs := { x.regs with
      also := 1#11 <<< (cause - 1), primary := cause, quenchAt := s.ltide } }).bump i cause).stopSlotTimers i).post 0x10 i cause
    let s2 := (s1.endWaiters i cause).forceEnd i 0x90 cause
    let s3 := if x.inService then s2.leaveService i true 0x90 cause else s2
    (s3.modSlot i fun y =>
      { y with
        st := .quenching
        ch := y.ch.halt
        pr := y.pr.still
        temp := { y.temp.discard with pendOfs := none, pendPull := none, pendSlew := none, pendDuty := none, dutyNext := none }
        regs := if x.inActivation then { y.regs with actResult := 7 } else y.regs
        seq := { y.seq with
          phase := .none, quenchT0 := some s.now, toPark := x.st = .parked, warmPend := false, deactPend := x.seq.parkPend, ioHold := some low,
          restartAt := none, warmAfterRestart := false } }).emit (.ioKeeps i low)
  else s

end Sys2Proof.Machine
end

