-- ==== Sys2Proof/Machine/TemperOps.lean ====
section
/-! DEFINITION. Tempering at the end of a window: decisions, limits and the measurement registers (09 R249 to R252, R260 to R263). -/

namespace Sys2Proof.Machine

/-- A number cut to a field of n bits. -/
def satField (n v : Nat) : Nat := min v (2 ^ n - 1)

/-- TEMP_STATE (09 Table 9-10). -/
def Temper.stateWord (t : Temper) : Word := packed [(24, twos 8 t.app.ofs), (16, t.app.pull), (8, t.app.slew), (4, twos 4 t.app.duty)]

/-! Decisions (09 Table 9-2). Each moves a setting at most one step from the value applied, within its range. -/

/-- The pull-up decision. -/
def pullDecision (e : Etu) (pull rise fall received : Nat) : Option Nat :=
  if e.part 8 < rise then (if 0 < pull then some (pull - 1) else none)
  else if 0 < received ∧ e.part 8 < fall ∧ rise < e.part 16 ∧ pull < 2 then some (pull + 1)
  else none

/-- The slew decision. -/
def slewDecision (e : Etu) (slew ring txFall transmitted : Nat) : Option Nat :=
  if 0 < ring then (if slew < 7 then some (slew + 1) else none)
  else if 0 < transmitted ∧ e.part 16 < txFall ∧ 0 < slew then some (slew - 1)
  else none

/-- The sample-offset decision. -/
def ofsDecision (e : Etu) (ofs eMin eMax : Int) (received : Nat) : Option Int :=
  let d := e.part 8
  let step : Int := max 1 (d / 4)
  let goal : Int := (eMin + eMax) / 2
  let new := if ofs < goal then min goal (ofs + step) else max goal (ofs - step)
  if 0 < received ∧ new ≠ ofs ∧ new.natAbs ≤ min d 127 then some new else none

/-- The duty-trim decision from the sum of 64 high phases at divider n. -/
def dutyDecision (n : Nat) (duty : Int) (highSum : Nat) : Option Int :=
  if 32 * n + 16 < highSum then (if -4 < duty then some (duty - 1) else none)
  else if highSum + 16 < 32 * n then (if duty < 4 then some (duty + 1) else none)
  else none

/-- EYE_MARGIN (09 R249). -/
def eyeMargin (e : Etu) (ofs eMin eMax : Int) : Int := (e.part 2 : Int) - e.part 8 - max (eMax - ofs) (ofs - eMin)

/-! Limits (09 R262, R263). -/

/-- TEMP_CFG.LIM_WINDOWS. -/
def Temper.limWindows (t : Temper) : Nat := fld t.cfg 19 16

/-- Whether a limit's action is a quench: ACT_EYE, ACT_EDGE, ACT_DUTY (09 Table 9-5). -/
def Temper.quenches (t : Temper) (code : Nat) : Bool :=
  (code = 1 && bitOf t.cfg 26) || (code = 2 && bitOf t.cfg 25) || (code = 3 && bitOf t.cfg 24)

/-- The flag of a limit that acted. -/
def Temper.flag (t : Temper) (code : Nat) : Temper :=
  let t := { t with lastLimit := code }
  match code with
  | 1 => { t with eye := true }
  | 2 => { t with edge := true }
  | 3 => { t with duty := true }
  | 4 => { t with ripple := true }
  | 5 => { t with vccRange := true }
  | _ => { t with overdraw := true }

/-- A window of slot i ends with limit code's condition c and its measured value v: the limit acts once in a run, when the condition has held for
LIM_WINDOWS windows or more (09 R262, R263). -/
def State.limitEnd (s : State) (i code : Nat) (c : Bool) (v : Int) : State :=
  let x := s.slot i
  if !x.tempered then s
  else
    let r := if c then x.temp.runs.getD (code - 1) 0 + 1 else 0
    let acts := c && x.temp.limWindows ≤ r && !x.temp.acted.getD (code - 1) false
    let s1 := s.modSlot i fun x => { x with temp := { x.temp with
      runs := x.temp.runs.set (code - 1) r, acted := x.temp.acted.set (code - 1) (c && (acts || x.temp.acted.getD (code - 1) false)) } }
    if acts then
      let s2 := s1.modSlot i fun x => { x with temp := x.temp.flag code }
      let data := [BitVec.ofInt 32 v, x.temp.stateWord]
      if x.temp.quenches code then (s2.post 0x60 i code data).quench i 11 else s2.post 0x61 i code data
    else s1

/-- The regulated range of a class in mV (02 Table 2-4). -/
def regulated : SClass → Nat × Nat
  | .a => (4850, 5150)
  | .b => (2910, 3090)
  | .c => (1746, 1854)

/-- The rated current of a class in mA (02 Table 2-4). -/
def ratedMa : SClass → Nat
  | .a => 60
  | .b => 50
  | .c => 30

/-- Whether the settings are held, so that a limit drops its setting clause (09 R262). -/
def Temper.held (t : Temper) : Bool := t.modeApplied = 1 || t.modeApplied = 2

/-- Decisions are made in ADAPT and FREEZE (09 Table 9-4). -/
def Temper.decides (t : Temper) : Bool := t.modeApplied = 0 || t.modeApplied = 1

/-- A 16-bit signed field. -/
def i16Field (v : Int) : Nat := twos 16 (max (-32768) (min 32767 v))

/-- The window with its characters, its periods or its converter samples gone (09 R251). -/
def Window.noChars (w : Window) : Window := { w with received := 0, transmitted := 0, rise := 0, fall := 0, txFall := 0, ring := 0, eMin := 0, eMax := 0 }
/-- The window without converter samples. -/
def Window.noSamples (w : Window) : Window := { w with vccN := 0, vccSum := 0, vccMin := 4095, vccMax := 0, curN := 0, curSum := 0, curMax := 0 }

/-- An edge window of slot i ends (09 R251). Without a received character E_MIN, E_MAX and EYE_MARGIN are free values (log 15). -/
def State.edgeEnd (s : State) (i : Nat) : State :=
  let x := s.slot i
  let e := x.ch.etu
  let t := x.temp
  let w := t.win
  let m := eyeMargin e t.app.ofs w.eMin w.eMax
  let eye : Word × Word × State :=
    if 0 < w.received then (packed [(16, i16Field w.eMax), (0, i16Field w.eMin)], BitVec.ofInt 32 m, s)
    else let a := s.free; let b := a.2.free; (a.1, b.1, b.2)
  let s1 := eye.2.2.modSlot i fun x =>
    let t := x.temp
    let t1 := { t with
      m10 := packed [(16, satField 16 w.rise), (0, satField 16 w.fall)], m14 := packed [(16, satField 16 w.txFall), (0, satField 8 w.ring)]
      m18 := eye.1, m1c := eye.2.1, win := w.noChars }
    { x with
      temp :=
        if t.decides then
          { t1 with
            pendPull := (pullDecision e t.app.pull w.rise w.fall w.received).or t.pendPull
            pendSlew := (slewDecision e t.app.slew w.ring w.txFall w.transmitted).or t.pendSlew
            pendOfs := (ofsDecision e t.app.ofs w.eMin w.eMax w.received).or t.pendOfs }
        else t1 }
  let s2 := s1.limitEnd i 1 (0 < w.received && m < 0) m
  s2.limitEnd i 2 (e.part 4 < w.rise && (t.held || t.app.pull = 0)) w.rise

/-- The edge window of slot i ends where it holds 16 characters (09 R251). -/
def State.edgeFull (s : State) (i : Nat) : State := if 16 ≤ (s.slot i).temp.win.chars then s.edgeEnd i else s

/-- The ck at which the duty window of slot x holds 64 periods, with the divider now in use (09 R250, R251). -/
def Slot.dutyDue (x : Slot) : Option Nat := x.temp.win.dutyFrom.map fun a => a + (64 - x.temp.win.dutyN) * x.seq.div

/-- The window with 64 counted periods taken out of it. -/
def Window.noPeriods (w : Window) (n : Nat) : Window :=
  if 64 ≤ w.dutyN then { w with dutyN := w.dutyN - 64 }
  else { w with dutyN := 0, dutyFrom := w.dutyFrom.map fun a => a + (64 - w.dutyN) * n }

/-- A duty window of slot i ends with its 64 high phases (09 R250). -/
def State.dutyEnd (s : State) (i : Nat) (highs : List Nat) : State :=
  let x := s.slot i
  let n := x.seq.div
  let highSum := (highs.take 64).sum
  let permille := highSum * 1000 / (64 * n)
  let s1 := s.modSlot i fun x =>
    let t := x.temp
    let t1 := { t with m20 := packed [(16, satField 16 (highSum / 4)), (0, satField 10 permille)], win := t.win.noPeriods n }
    { x with temp := if t.decides then { t1 with pendDuty := (dutyDecision n t.app.duty highSum).or t.pendDuty } else t1 }
  let low := highSum * 1000 < 400 * 64 * n
  let high := 600 * 64 * n < highSum * 1000
  s1.limitEnd i 3 ((low && (x.temp.held || x.temp.app.duty = 4)) || (high && (x.temp.held || x.temp.app.duty = -4))) permille

/-- A converter window of slot i ends (09 R260). -/
def State.convEnd (s : State) (i : Nat) : State :=
  let x := s.slot i
  let w := x.temp.win
  let r := regulated (x.seq.cls.getD .c)
  let ripple := w.vccMax - w.vccMin
  let s1 := s.modSlot i fun x => { x with temp := { x.temp with
    m24 := packed [(16, satField 12 (w.vccSum / 64)), (0, satField 12 ripple)], m28 := packed [(16, satField 12 (w.curSum / 64)), (0, satField 12 w.curMax)]
    win := x.temp.win.noSamples } }
  let s2 := s1.limitEnd i 4 (fld x.temp.cfg 11 0 < ripple) ripple
  let s3 := s2.limitEnd i 5 (2 * w.vccSum < 64 * r.1 || 64 * r.2 < 2 * w.vccSum) (w.vccSum / 64)
  s3.limitEnd i 6 (64 * 20 * ratedMa (x.seq.cls.getD .c) < w.curSum) (w.curSum / 64)

/-- The converter window of slot i ends where it holds 64 samples of each channel (09 R251). -/
def State.convFull (s : State) (i : Nat) : State :=
  let w := (s.slot i).temp.win
  if 64 ≤ w.vccN ∧ 64 ≤ w.curN then s.convEnd i else s

/-- A sample of tempering for slot i on channel ch, 0 VCC or 1 current, in its window (09 R260). -/
def State.convTake (s : State) (i ch code : Nat) : State :=
  (s.convFull i).modSlot i fun x =>
    let w := x.temp.win
    { x with temp := { x.temp with win :=
      if ch = 0 then
        if 64 ≤ w.vccN then w
        else { w with vccN := w.vccN + 1, vccSum := w.vccSum + code, vccMin := min w.vccMin code, vccMax := max w.vccMax code }
      else if 64 ≤ w.curN then w
      else { w with curN := w.curN + 1, curSum := w.curSum + code, curMax := max w.curMax code } } }

end Sys2Proof.Machine
end

