-- ==== Sys2Proof/Machine/Chars.lean ====
section
/-! DEFINITION. The character engine: transmission, reception, error signal, raw mode (04 R94 to R114). -/

namespace Sys2Proof.Machine

/-- TURN (06 R153). -/
def Slot.turn (x : Slot) : Nat := if x.pr.settled && x.pr.proto = 1 then 22 else 16

/-- The first ck at which slot x may begin a start bit (04 R106, R110, 06 R153, R173); raw words keep TX_GT alone (04 R112). -/
def Slot.txEarliest (x : Slot) : Nat :=
  let a := max x.ch.txFrom x.ch.rearm
  let b := match x.ch.lastRx with | some t => t + x.ch.lastRxEtu.bound x.turn | none => 0
  let q := if x.pr.t1.quiet then x.ch.lastStart + x.ch.lastRxEtu.bound x.cwt else 0
  if x.raw then a else max a (max b q)

/-- Whether slot x may transmit: a powered protocol state, its gate open, nothing before it in the shifter (01 R14, 04 R110, R111). -/
def Slot.mayTransmit (x : Slot) : Bool :=
  (x.st = .negotiating || (x.st = .busy && x.pr.gate && !x.pr.smWait)) && x.ch.txChk.isNone && x.ch.txAgain.isNone && x.ch.rxOn.isNone

/-- Latches timing and convention at a start edge (04 R98): a value changed in this very ck, or a divider not yet in use, stays staged. A duty trim
whose falling edge has not come stays pending (09 R256). -/
def Slot.latch (x : Slot) (now : Nat) : Slot :=
  let y := x.takeUp now
  let b := x.ch.chg.filter fun b => b.at_ = now
  { y with
    temp := { y.temp with dutyNext := none }
    ch := { y.ch with
      etu := etuOf (match b with | some b => b.etu | none => x.regs.charEtu) y.seq.div
      latOfs := match b with | some b => b.ofs | none => x.temp.app.ofs
      latGt := match b with | some b => b.gt | none => x.txGuard
      pend := b.isSome || y.seq.divNext.isSome
      lastStart := now } }

/-- A transmitted start edge of slot i now with levels l, C7 reading w (04 R106, R108; 06 R154; 09 R251). TX_BUSY of a character without a check ends
with its re-arm, 10½ ETU on (DESIGN CHOICE, log 126). -/
def State.txStart (s : State) (i : Nat) (l : BitVec 9) (w : List Reading) : State :=
  let s1 := s.modSlot i fun x =>
    let y := x.latch s.now
    let free := s.now + y.ch.etu.halves 21
    ({ y with ch := { y.ch with
        lastTx := some s.now
        txLevels := l
        txFrom := s.now + y.ch.etu.bound y.ch.latGt
        txChk := if x.errsig then some { levels := l, start := s.now, raw := x.raw } else none
        rearm := if x.errsig then y.ch.rearm else free
        txEnd := if x.errsig then 0 else free } } : Slot).measure fun n => n.addTx y w
  ((s1.restartT0 i).captureSlot i 2).emit (.chr i l)

/-- What the protocol engine does at a character's transmitted start edge: WT runs from it under T=0, and the wait for the answer from the last one
(06 R154). -/
def State.txWaits (s : State) (i : Nat) : State :=
  let x := s.slot i
  if x.inT0 then s.armWait i 0 4 0 x.wt else if x.ch.txq.isEmpty then s.afterSent i else s

/-- CHAR_TRANSMIT (04 R106, R110): the next queued character begins at its earliest ck; what has been received is read before it. Log 3, 4. -/
def execCharTransmit (i : Fin 64) (line : SentLine) (s : State) : Host.Outcome State Fault Refusal :=
  let r := (match (s.slot i).ch.rxHold with
    | some h => if h.lateAt ≤ (s.slot i).txEarliest then s.rxFlush i else s
    | none => s).digest i
  let x := r.slot i
  let s0 := (r.elapseTo x.txEarliest).edgeFull i
  let hit (s : State) : State := if line.cardEdge then s.bump i 20 else s
  let begins (x : Slot) : ProtEng := { x.pr with sent := x.pr.sent + 1, firstTx := some (x.pr.firstTx.getD s0.ltide.toNat) }
  if !x.mayTransmit then nx r
  else if !(s0.slot i).mayTransmit then nx s0
  else if x.raw then
    match x.ch.rawTx with
    | [] => nx r
    | l :: q =>
      nx (hit ((s0.modSlot i fun x =>
        { x with ch := { x.ch with rawTx := q }, xchg := { x.xchg with sent := true }, pr := begins x }).txStart i l line.wave))
  else
    match x.ch.txq with
    | [] => nx r
    | b :: q =>
      let s1 := s0.modSlot i fun x =>
        let p := begins x
        { x with ch := { x.ch with txq := q, txReps := 0 }, pr := { p with t1 := { p.t1 with quiet := false } } }
      nx ((hit (s1.txStart i (levelsOf x.ch.inverse b) line.wave)).txWaits i)

/-! Reception. -/

/-- Whether start detection of slot x is armed at ck t (04 R102, R103, R108, R110, R111, 02 R50). -/
def Slot.listening (x : Slot) (t : Nat) : Bool :=
  x.seq.clkRun && x.seq.rst && x.ch.txChk.isNone && x.ch.txAgain.isNone && x.ch.rxOn.isNone && x.ch.rearm ≤ t &&
    (match x.st with
     | .atr => x.ch.atrOn || x.ch.rxHold.isSome || x.seq.tb + 400 * x.seq.div ≤ t
     | .negotiating | .ready | .busy => true
     | _ => false)

/-- The start edge of a received character (04 R99; 06 R154). -/
def State.rxStart (s : State) (i : Nat) : State :=
  let t := s.timer (3 * i)
  let s1 := s.modSlot i fun x =>
    let y := x.latch s.now
    { y with ch := { y.ch with
        lastRx := some s.now, lastRxEtu := y.ch.etu
        rxOn := some { start := s.now, lastStart := x.ch.lastStart, lastRx := x.ch.lastRx, lastRxEtu := x.ch.lastRxEtu,
                       t0 := if t.en then some (t.count, t.residue, t.armed) else none } } }
  (s1.restartT0 i).captureSlot i 1

/-- A falling edge of C7 at ck t (04 R99, R102, R103): the start edge of a character where detection is armed. The character before it passes on, by
its middle stop sample alone where its late one is still due, the engine acts on it, and a wait that has expired by then ends first (06 R155). -/
def State.rxEdge (s : State) (i t : Nat) : State :=
  if !(s.slot i).listening t then s
  else
    let s1 := match (s.slot i).ch.rxHold with
      | some h => if h.lateAt ≤ t then s.rxFlush i else (s.elapseTo t).rxPass i h.levels h.mid
      | none => s
    let s2 := ((s1.digest i).edgeFull i).overdue i t
    if (s2.slot i).listening t then (s2.elapseTo t).rxStart i else s2

/-- A start bit that votes high: the edge is discarded and counted, detection re-arms once I/O reads high, and the waits run on as before it
(04 R100). Log 116. -/
def State.rxFalse (s : State) (i : Nat) (o : RxOpen) (rearm : Nat) : State :=
  let e := (s.slot i).ch.etu
  let s1 := (s.modSlot i fun x =>
    { x with ch := { x.ch with lastStart := o.lastStart, lastRx := o.lastRx, lastRxEtu := o.lastRxEtu, rxOn := none, rearm := rearm, rxEnd := rearm } }).bump i 16
  match o.t0 with
  | some (c, r, a) =>
    let g := (s1.slot i).gridFrom
    let n := e.boundsBy (s1.now - g) - e.boundsBy (o.start - g)
    s1.modTimer (3 * i) fun m => if m.en then { m with count := c + n, residue := r, armed := a } else m
  | none => s1

/-- A start bit that votes low (04 R100): the wait for a first character is over, CWT runs from its leading edge (06 R154), and a card character that
begins while T=0 bytes are still to be sent ends the exchange (06 R170). -/
def State.rxBegin (s : State) (i : Nat) (o : RxOpen) : State :=
  let x := s.slot i
  let s1 := s.modSlot i fun x => { x with ch := { x.ch with rxOn := some { o with begun := true } } }
  if x.st = .atr && !x.ch.convSet then s1.endWait i 1
  else if x.inT0 && !x.ch.txq.isEmpty then s1.endInDoubt i 2 true
  else if x.inT1 && x.ch.rxBuf.isEmpty then
    ((s1.endWait i 1).armWait i 0 4 0 x.cwt (x.ch.etu.boundsBy (s.now - o.start))).modSlot i fun x =>
      { x with pr := { x.pr with t1 := { x.pr.t1 with bwtArmed := false } } }
  else s1

/-- The start bit of the character in hand is judged at its last sample (04 R100). -/
def State.rxJudge (s : State) (i : Nat) (o : RxOpen) (w : List Reading) : State :=
  let x := s.slot i
  let c := x.sampleOff 1 + x.sampleD
  let s1 := s.elapseTo (x.ch.lastStart + c)
  if x.bitVote w 0 then s1.rxFalse i o (x.ch.lastStart + highAgain w c) else s1.rxBegin i o

/-- The character in hand is taken at ck t, and start detection re-arms at a ck (04 R102, R107, 09 R251). -/
def State.rxTaken (s : State) (i : Nat) (w : List Reading) (t rearm : Nat) : State :=
  (s.elapseTo t).modSlot i fun x =>
    let y := x.measure fun n => n.addRx x w
    { y with ch := { y.ch with rxOn := none, rearm := rearm, rxEnd := rearm } }

/-- A parity failure is shown and counted, and the repetition it came with (04 R105, R109, R114). -/
def State.parityBad (s : State) (i : Nat) : State :=
  let s1 := (s.bump i 14).modSlot i fun x => { x with ch := { x.ch with parity := true } }
  if 0 < (s.slot i).ch.rxReps then s1.bump i 19 else s1

/-- The stop position as it will be judged: by its vote, or by its middle sample where a falling edge comes by the late one (04 R102). -/
def Slot.stopGood (x : Slot) (w : List Reading) : Bool :=
  let m := x.sampleOff 21
  if (waveChanges w 0 true).any fun t => m + waveStart w ≤ t && t ≤ m + x.sampleD + waveStart w && !waveHigh w t then readsHigh w m else x.bitVote w 10

/-- Whether a character of data b ends the ATR of slot x (02 R52). -/
def Slot.endsAtr (x : Slot) (b : Byte) : Bool :=
  let l := x.ch.atr ++ [b]
  let a := parseAtr l
  x.st = .atr && x.ch.convSet && a.total ≤ 33 && a.final && a.total ≤ l.length

/-- Whether a character of data b is apply point A where its middle stop sample votes high: under T=1, one that ends a block (09 R253). -/
def Slot.pointA (x : Slot) (b : Byte) : Bool :=
  x.pr.proto = 0 ||
    (x.inT1 && (match blockNeed x.pr.crc (x.ch.rxBuf.map (·.data) ++ [b]) with | some n => decide (n = x.ch.rxBuf.length + 1) | none => false))

/-- The bits and the middle stop sample of the character in hand (04 R100 to R109, 02 R51, R52, 06 R164). A TS that is none and a bad parity in an ATR
end it at the last parity sample. The last character of an ATR is taken at the end of its tenth ETU, where its stop position turns out high; where it
turns out low the ATR is in error at its late sample (DEDUCED, log 127). A character that draws an error signal has no stop position of its own
(DESIGN CHOICE, log 128). Every other is held for its late stop sample; a PPS response whose stop position the middle sample already decides passes
there. -/
def State.rxStop (s : State) (i : Nat) (w : List Reading) : State :=
  let x := s.slot i
  let l := x.voted w
  let b := byteOfLevels x.ch.inverse l
  let ts := x.st = .atr && !x.ch.convSet
  let good := x.raw || ts || parityGood x.ch.inverse l
  let parityAt := x.sampleAt 19 + x.sampleD
  let stopAt := x.sampleAt 21
  if ts && (tsOf l).isNone then (s.rxTaken i w parityAt stopAt).rxPass i l true
  else if x.st = .atr && !good then ((s.rxTaken i w parityAt stopAt).parityBad i).rxPass i l true
  else if x.endsAtr b && x.stopGood w then (s.rxTaken i w (x.ch.lastStart + x.ch.etu.bound 10) stopAt).rxPass i l true
  else if !good && x.errsig && x.ch.rxReps < fld x.regs.charCfg 23 21 then
    let from_ := x.ch.lastStart + x.ch.etu.halves 21
    let until_ := x.ch.lastStart + x.ch.etu.halves (23 + fld x.regs.charCfg 28 27)
    let s1 := ((s.rxTaken i w from_ (x.ch.lastStart + x.ch.etu.halves (24 + fld x.regs.charCfg 28 27))).parityBad i).bump i 17
    (s1.modSlot i fun x => { x with ch := { x.ch with rxReps := x.ch.rxReps + 1, esig := some (from_, until_) } }).emit
      (.errSignal i from_ (until_ - from_))
  else
    let mid := readsHigh w (x.sampleOff 21)
    let s1 := s.rxTaken i w stopAt stopAt
    let s2 := if good then s1 else (s1.parityBad i).modSlot i fun x => { x with ch := { x.ch with rxRptLim := x.ch.rxRptLim || x.errsig } }
    let s3 := s2.modSlot i fun y =>
      { y with ch := { y.ch with
          rxHold := some { levels := l, mid := mid, vote := x.bitVote w 10, lateAt := stopAt + x.sampleD }
          applyAt := if mid && x.pointA b then some s2.now else y.ch.applyAt } }
    if x.inPps && mid = readsHigh w (x.sampleOff 21 - x.sampleD) then s3.rxPass i l mid else s3

/-- CHAR_RECEIVE (04 R99, R100, R102): a falling edge dt ck from now; with what C7 reads, the vote of the start bit, or all up to the middle stop sample;
the late stop sample. A character already begun is one that nothing has discarded since. Log 3, 4. -/
def execCharReceive (i : Fin 64) (e : RxEvent) (s : State) : Host.Outcome State Fault Refusal :=
  match e, (s.slot i).ch.rxOn with
  | .edge dt, _ => nx (s.rxEdge i (s.now + dt))
  | .start w, some o => if o.begun then nx s else nx (s.rxJudge i o w)
  | .stop w, some o =>
    let s1 := if o.begun then s else s.rxJudge i o w
    if (s1.slot i).ch.rxOn.isSome then nx (s1.rxStop i w) else nx s1
  | .late, _ => nx (s.rxFlush i)
  | _, none => nx s

/-! The error-signal check. -/

/-- The last of the three samples about ck c of the readings that reads low. -/
def lastLow (w : List Reading) (c d : Nat) : Nat := if !readsHigh w (c + d) then c + d else if !readsHigh w c then c else c - d

/-- TX_ERRSIG_CHECK (04 R108, R109): the check 11 ETU after a transmitted start edge, with what C7 reads from that edge on and
`late` what it reads after. Log 3, 4. -/
def execTxErrsigCheck (i : Fin 64) (wave late : List Reading) (s : State) : Host.Outcome State Fault Refusal :=
  let w := wave ++ late
  let x := s.slot i
  match x.ch.txChk, x.ch.txAgain with
  | some c, none =>
    let m := x.ch.etu.bound 11
    let d := x.sampleD
    let s1 := s.elapseTo (c.start + m + d)
    let up := c.start + highAgain w (lastLow w m d)
    if voteOf w m d then
      let s2 := s1.modSlot i fun x => { x with ch := { x.ch with txChk := none, txReps := 0, rearm := s1.now } }
      nx (if x.pr.t1.abortEnd && x.ch.txq.isEmpty then s2.endInDoubt i 9 false else s2)
    else if x.ch.txReps < fld x.regs.charCfg 26 24 then
      nx (s1.modSlot i fun y => { y with ch := { y.ch with txAgain := some (max (c.start + x.ch.etu.bound 13) (up + x.ch.etu.bound 1)) } })
    else
      let s2 := s1.modSlot i fun x =>
        { x with ch := { x.ch with txChk := none, txReps := 0, txRptLim := true, txq := [], rearm := max s1.now up } }
      nx (match x.pr.mode with
        | .t0 | .t1 | .resynch | .reIfs => s2.endInDoubt i 3 true
        | _ => s2)
  | _, _ => nx s

/-- TX_REPEAT (04 R108): the repetition of a character that drew an error signal; a waiting time that expires while I/O stays low comes first
(06 R170). -/
def execTxRepeat (r : Repetition) (s : State) : Host.Outcome State Fault Refusal :=
  let i := r.slot
  match (s.slot i).ch.txAgain with
  | some t =>
    let s0 := s.overdue i t
    match (s0.slot i).ch.txChk, (s0.slot i).ch.txAgain with
    | some c, some _ =>
      let s1 := (s0.elapseTo t).edgeFull i
      if (s1.slot i).ch.txAgain.isNone then nx s1
      else nx ((((s1.modSlot i fun x => { x with ch := { x.ch with txAgain := none, txReps := x.ch.txReps + 1 } }).txStart i c.levels r.wave).bump i 18).txWaits i)
    | _, _ => nx s0
  | none => nx s

/-! Status and raw mode. -/

/-- A character is being transmitted, or its check runs (04 Table 4-8; log 126). -/
def State.txBusy (s : State) (x : Slot) : Bool := x.ch.txChk.isSome || s.now < x.ch.txEnd

/-- From a detected start edge to its re-arm (04 Table 4-8). -/
def State.rxBusy (s : State) (x : Slot) : Bool := x.ch.rxOn.isSome || s.now < x.ch.rxEnd

/-- Sets SLOT_STATUS.CMD_ERR. -/
def State.slotErr (s : State) (i : Nat) (e : CmdErr) : State := s.modSlot i fun x => { x with regs := { x.regs with cmdErr := e } }

/-- A write of CHAR_RAW (04 R112, 11 R310): accepted through a slot window; elsewhere rejected with STATE, as is a full FIFO, or MODE NORMAL. -/
def State.writeRaw (s : State) (ag : Agent) (i : Nat) (v : Word) : State :=
  s.granted ag 1 fun s =>
    match ag with
    | .window _ =>
      if (s.slot i).raw ∧ (s.slot i).ch.rawTx.length < 16 then
        (s.slotErr i .none).modSlot i fun x => { x with ch := { x.ch with rawTx := x.ch.rawTx ++ [v.setWidth 9] } }
      else s.slotErr i .state
    | _ => s.slotErr i .state

/-- CHAR_RAW_WRITE (04 R112). -/
def execCharRawWrite (ag : Agent) (i : Fin 64) (v : Word) (s : State) : Host.Outcome State Fault Refusal := nx (s.writeRaw ag i v)

/-- A read of CHAR_RAW (04 Table 4-9): outside a slot window it returns 0. -/
def State.readRaw (s : State) (ag : Agent) (i : Nat) : Word × State :=
  match ag, if (s.slot i).raw then (s.slot i).ch.rawRx else [] with
  | .window _, c :: r =>
    (packed [(31, 1), (30, b2n c.1), (16, r.length), (0, c.2.toNat)], s.modSlot i fun x => { x with ch := { x.ch with rawRx := r } })
  | _, _ => (0#32, s)

/-- CHAR_RAW_READ (04 R112). -/
def execCharRawRead (ag : Agent) (i : Fin 64) (s : State) : Host.Outcome State Fault Refusal :=
  let r := s.readRaw ag i
  nx { r.2 with lastRead := r.1 }

end Sys2Proof.Machine
end

