-- ==== Sys2Proof/Machine/Activation.lean ====
section
/-! DEFINITION. Slot commands, schedules, presence, activation, clock stop, normal deactivation (02, 03 R75). -/

namespace Sys2Proof.Machine

/-! Slot commands (02 Table 2-3): each answers the CMD_ERR it gives and the state after. -/

/-- ACTIVATE (02 R42, R45, R47, R63). -/
def State.cmdActivate (s : State) (i : Nat) : CmdErr × State :=
  let x := s.slot i
  match x.st with
  | .present =>
    if (trialOrder x.regs.cfg).isEmpty then (.value, s)
    else
      let s1 := if x.actPending then s else s.askActivation i
      (.none, s1.modSlot i fun x => { x with regs := { x.regs with actAtArmed := none } })
  | .empty | .quenching | .fault | .parked => (if (trialOrder x.regs.cfg).isEmpty then .value else .state, s)
  | _ => (.none, s)

/-- WARM_RESET (02 R40, R54). -/
def State.cmdWarmReset (s : State) (i : Nat) : CmdErr × State :=
  let x := s.slot i
  match x.st with
  | .ready | .clockstop =>
    if x.holder.isNone then (.none, s.warmStart i)
    else (.none, s.modSlot i fun x => { x with seq := { x.seq with warmPend := true } })
  | .busy => (.none, s.modSlot i fun x => { x with seq := { x.seq with warmPend := true } })
  | _ => (.state, s)

/-- A forced deactivation in BUSY, with what has been received by this ck taken in (01 R16, 03 R87); what was pending is dropped (02 R40). -/
def State.forceDeact (s : State) (i : Nat) (park : Bool) : State :=
  let s1 := s.modSlot i fun x => { x with seq := { x.seq with warmPend := false, deactPend := false, parkPend := false } }
  (s1.rxRipe i).beginDeact i park

/-- DEACTIVATE with or without FORCE (02 R59, R62). Held pending in BUSY beside a PARK, it leaves the PARK standing (DESIGN CHOICE, log 130). -/
def State.cmdDeactivate (s : State) (i : Nat) (force : Bool) : CmdErr × State :=
  let x := s.slot i
  match x.st with
  | .activating | .atr | .negotiating | .ready | .clockstop => (.none, s.beginDeact i false)
  | .busy =>
    if force then (.none, s.forceDeact i false)
    else (.none, s.modSlot i fun x => { x with seq := { x.seq with deactPend := true } })
  | .present => (.none, s.modSlot i fun x => { x with seq := { x.seq with phase := .none } })
  | .quenching => (.state, s)
  | _ => (.none, s)

/-- PARK with or without FORCE (02 Table 2-3, R59). -/
def State.cmdPark (s : State) (i : Nat) (force : Bool) : CmdErr × State :=
  let x := s.slot i
  match x.st with
  | .empty | .present | .fault =>
    (.none, s.modSlot i fun x => { x with st := .parked, seq := { x.seq with phase := .none } })
  | .activating | .atr | .negotiating | .ready | .clockstop => (.none, s.beginDeact i true)
  | .busy =>
    if force then (.none, s.forceDeact i true)
    else (.none, s.modSlot i fun x => { x with seq := { x.seq with deactPend := true, parkPend := true } })
  | .quenching => (.none, s.modSlot i fun x => { x with seq := { x.seq with deactPend := true, parkPend := true } })
  | .parked => (.none, s)

/-- The loop-back of slot i ends ABORTED: PAD deactivates by 02 R59, and the slot stays PARKED (17 R443, R445). -/
def State.abortSlotLoop (s : State) (i : Nat) : State :=
  if s.slotLoop i then
    let s1 := s.endLoop (i / 8) 4
    if (s1.slot i).powered then s1.beginDeact i true else s1.modSlot i fun x => { x with seq := { x.seq with phase := .none } }
  else s

/-- PRESENT where the presence switch is closed, otherwise EMPTY (02 Table 2-2). -/
def Slot.byPresence (x : Slot) : SlotState := if x.seq.pres then .present else .empty

/-- UNPARK (02 Table 2-3). -/
def State.cmdUnpark (s : State) (i : Nat) : CmdErr × State :=
  if (s.slot i).st = .parked then (.none, (s.abortSlotLoop i).modSlot i fun x => { x with st := x.byPresence }) else (.none, s)

/-- FAULT_CLEAR (02 Table 2-3). -/
def State.cmdFaultClear (s : State) (i : Nat) : CmdErr × State :=
  if (s.slot i).st = .fault then (.none, s.modSlot i fun x => { x with st := x.byPresence }) else (.none, s)

/-- The command of a SLOT_CTRL word (02 Table 2-10). -/
def State.slotCommand (s : State) (i : Nat) (w : Word) : CmdErr × State :=
  if bitOf w 0 then s.cmdActivate i
  else if bitOf w 1 then s.cmdWarmReset i
  else if bitOf w 2 then s.cmdDeactivate i (bitOf w 3)
  else if bitOf w 4 then s.cmdPark i (bitOf w 3)
  else if bitOf w 5 then s.cmdUnpark i
  else if bitOf w 6 then s.cmdFaultClear i
  else (.none, s)

/-- How many of the command bits [6:4] and [2:0] a SLOT_CTRL word sets. -/
def slotCmds (w : Word) : Nat := b2n (bitOf w 0) + b2n (bitOf w 1) + b2n (bitOf w 2) + b2n (bitOf w 4) + b2n (bitOf w 5) + b2n (bitOf w 6)

/-- A write of SLOT_CTRL (02 R39, R63, Table 2-10): MULTIPLE rejects it whole; the cancel bits act before the command. -/
def State.writeSlotCtrl (s : State) (ag : Agent) (i : Nat) (w : Word) : State :=
  s.granted ag 1 fun s =>
    if 1 < slotCmds w then s.slotErr i .multiple
    else
      let s1 := if bitOf w 7 then s.modSlot i fun x => { x with regs := { x.regs with actAtArmed := none } } else s
      let s2 := if bitOf w 8 then s1.modSlot i fun x => { x with regs := { x.regs with deactAtArmed := none } } else s1
      let r := s2.slotCommand i w
      r.2.slotErr i r.1

/-- SLOT_CTRL ACTIVATE: a write of w with its bit 0. -/
def execActivate (ag : Agent) (i : Fin 64) (w : Word) (s : State) : Host.Outcome State Fault Refusal := nx (s.writeSlotCtrl ag i (w ||| 1#32))
/-- SLOT_CTRL WARM_RESET. -/
def execWarmReset (ag : Agent) (i : Fin 64) (w : Word) (s : State) : Host.Outcome State Fault Refusal := nx (s.writeSlotCtrl ag i (w ||| 2#32))
/-- SLOT_CTRL DEACTIVATE. -/
def execDeactivate (ag : Agent) (i : Fin 64) (w : Word) (s : State) : Host.Outcome State Fault Refusal := nx (s.writeSlotCtrl ag i (w ||| 4#32))
/-- SLOT_CTRL PARK. -/
def execPark (ag : Agent) (i : Fin 64) (w : Word) (s : State) : Host.Outcome State Fault Refusal := nx (s.writeSlotCtrl ag i (w ||| 16#32))
/-- SLOT_CTRL UNPARK. -/
def execUnpark (ag : Agent) (i : Fin 64) (w : Word) (s : State) : Host.Outcome State Fault Refusal := nx (s.writeSlotCtrl ag i (w ||| 32#32))
/-- SLOT_CTRL FAULT_CLEAR. -/
def execFaultClear (ag : Agent) (i : Fin 64) (w : Word) (s : State) : Host.Outcome State Fault Refusal := nx (s.writeSlotCtrl ag i (w ||| 64#32))
/-- SLOT_CTRL CANCEL_ACT_AT (02 R47). -/
def execCancelActAt (ag : Agent) (i : Fin 64) (w : Word) (s : State) : Host.Outcome State Fault Refusal := nx (s.writeSlotCtrl ag i (w ||| 128#32))
/-- SLOT_CTRL CANCEL_DEACT_AT (02 R62). -/
def execCancelDeactAt (ag : Agent) (i : Fin 64) (w : Word) (s : State) : Host.Outcome State Fault Refusal := nx (s.writeSlotCtrl ag i (w ||| 256#32))

/-- A write of ACT_AT_HI arms the schedule (02 R47). -/
def State.writeActAtHi (s : State) (ag : Agent) (i : Nat) (v : Word) : State :=
  s.granted ag 1 fun s => (s.slotErr i .none).modSlot i fun x =>
    { x with regs := { x.regs with actAt := cat64 v (lo32 x.regs.actAt), actAtArmed := some (cat64 v (lo32 x.regs.actAt)) } }

/-- A write of DEACT_AT_HI arms the schedule (02 R62). -/
def State.writeDeactAtHi (s : State) (ag : Agent) (i : Nat) (v : Word) : State :=
  s.granted ag 1 fun s => (s.slotErr i .none).modSlot i fun x =>
    { x with regs := { x.regs with deactAt := cat64 v (lo32 x.regs.deactAt), deactAtArmed := some (cat64 v (lo32 x.regs.deactAt)) } }

/-- ACT_AT_HI_WRITE (02 R47). -/
def execActAtHiWrite (ag : Agent) (i : Fin 64) (v : Word) (s : State) : Host.Outcome State Fault Refusal := nx (s.writeActAtHi ag i v)
/-- DEACT_AT_HI_WRITE (02 R62). -/
def execDeactAtHiWrite (ag : Agent) (i : Fin 64) (v : Word) (s : State) : Host.Outcome State Fault Refusal := nx (s.writeDeactAtHi ag i v)

/-- Time passes until the local tide reaches v, at the nominal rate (log 4). -/
def State.elapseTide (s : State) (v : Tide) : State :=
  if v ≤ s.ltide then s else s.elapse ((v - s.ltide).toNat * 30 - s.tide.phase)

/-- Whether an alarm TAj, j below n, is armed at a value up to v. -/
def State.alarmBy (s : State) (v : Tide) (n : Nat) : Bool :=
  (List.range n).any fun j => match s.tide.alarmArmed.getD j none with | some a => decide (a ≤ v) | none => false

/-- Whether a slot below n has DEACT_AT armed at a value up to v. -/
def State.deactBy (s : State) (v : Tide) (n : Nat) : Bool :=
  (List.range n).any fun j => match (s.slot j).regs.deactAtArmed with | some a => decide (a ≤ v) | none => false

/-- Whether a slot below n has ACT_AT armed at a value up to v. -/
def State.actBy (s : State) (v : Tide) (n : Nat) : Bool :=
  (List.range n).any fun j => match (s.slot j).regs.actAtArmed with | some a => decide (a ≤ v) | none => false

/-- The tide at which a schedule armed at v acts: its value, or the present tide if that is past. -/
def State.dueAt (s : State) (v : Tide) : Tide := if v ≤ s.ltide then s.ltide else v

/-- ACT_AT_DUE (02 R47, 05 R145): acts as an ACTIVATE; only a refusal changes CMD_ERR. Alarms, DEACT_AT schedules and lower slots
that fall due by then go first. Log 3, 4. -/
def execActAtDue (i : Fin 64) (s : State) : Host.Outcome State Fault Refusal :=
  match (s.slot i).regs.actAtArmed with
  | none => nx s
  | some v =>
    let d := s.dueAt v
    if s.alarmBy d 8 || s.deactBy d 64 || s.actBy d i then nx s
    else
      let s1 := s.elapseTide v
      if v ≤ s1.ltide then
        let r := (s1.modSlot i fun x => { x with regs := { x.regs with actAtArmed := none } }).cmdActivate i
        nx (if r.1 = .none then r.2 else r.2.slotErr i r.1)
      else nx s1

/-- DEACT_AT_DUE (02 R62, 05 R145): acts as a DEACTIVATE, with FORCE where SCHED_FORCE is 1. Log 3, 4. -/
def execDeactAtDue (i : Fin 64) (s : State) : Host.Outcome State Fault Refusal :=
  match (s.slot i).regs.deactAtArmed with
  | none => nx s
  | some v =>
    let d := s.dueAt v
    if s.alarmBy d 8 || s.deactBy d i then nx s
    else
      let s1 := s.elapseTide v
      if v ≤ s1.ltide then
        let r := (s1.modSlot i fun x => { x with regs := { x.regs with deactAtArmed := none } }).cmdDeactivate i (bitOf (s.slot i).regs.cfg 17)
        nx (if r.1 = .none then r.2 else r.2.slotErr i r.1)
      else nx s1

/-! Presence (03 R75, R76). -/

/-- PRES_ABSENT (03 R75, R88, 02 Table 2-2). -/
def execPresAbsent (i : Fin 64) (s : State) : Host.Outcome State Fault Refusal :=
  if s.boot.slotHeld then nx s
  else
    let x := s.slot i
    let s1 := s.modSlot i fun x => { x with seq := { x.seq with pres := false, debounce := none } }
    let s2 := if x.seq.pres then (s1.captureSlot i 4).auditRoutine 0x10 [i, 0] else s1
    if x.powered then nx (s2.quench i 1)
    else match x.st with
      | .present => nx ((s2.endWaiters i).modSlot i fun x => { x with st := .empty, seq := { x.seq with phase := .none } })
      | .activating =>
        nx ((s2.endWaiters i).modSlot i fun x =>
          { x with st := .empty, seq := { x.seq with phase := .none }, regs := { x.regs with actResult := 6 } })
      | _ => nx s2

/-- PRES_PRESENT_READ (03 R75, R90): the debounce starts with the PRES_DEBOUNCE now set. -/
def execPresPresentRead (i : Fin 64) (s : State) : Host.Outcome State Fault Refusal :=
  let x := s.slot i
  if s.boot.slotHeld || x.seq.pres || x.seq.debounce.isSome then nx s
  else nx (s.modSlot i fun x => { x with seq := { x.seq with debounce := some (s.now + fld x.regs.supervise 15 8 * ms) } })

/-- PRES_DEBOUNCE_DONE (03 R75, R76; 02 "Starting an activation"). Log 3, 4. -/
def execPresDebounceDone (i : Fin 64) (s : State) : Host.Outcome State Fault Refusal :=
  match (s.slot i).seq.debounce with
  | none => nx s
  | some t =>
    let s1 := s.elapseTo t
    let s2 := ((s1.modSlot i fun x => { x with seq := { x.seq with pres := true, debounce := none } }).captureSlot i 4).auditRoutine 0x10 [i, 1]
    if (s.slot i).st = .empty then
      let s3 := s2.modSlot i fun x => { x with st := .present }
      nx (if bitOf (s.slot i).regs.cfg 9 then s3.askActivation i else s3)
    else if (s.loop (i / 8)).depth = 2 then nx (s2.abortSlotLoop i)
    else nx s2

/-! Activation (02 R45 to R50). -/

/-- INH_RAIL: the rail of the class to be tried counts as below its threshold (02 R45, 03 R83). -/
def Polder.railLow (p : Polder) : SClass → Bool
  | .a => p.highLow
  | _ => p.lowLow

/-- Tide at which that rail last cleared. -/
def Polder.railAt (p : Polder) : SClass → Nat
  | .a => p.highClearAt
  | _ => p.lowClearAt

/-- Whether slot x of polder p waits for the stagger alone (02 R45, R46): at a class that SLOT_CFG permits (02 R42). -/
def Slot.freeToRamp (x : Slot) (p : Polder) : Bool :=
  x.actPending && (x.st = .parked || (trialOrder x.regs.cfg).contains x.seq.tryCls) && !p.warn && !p.railLow x.seq.tryCls && x.seq.gapFrom.isNone && !x.seq.leaking && x.seq.vcc = .off

/-- The tide at which it became so (02 R46). -/
def Slot.freeAt (x : Slot) (p : Polder) : Nat := max x.seq.askedAt (max p.warnClearAt (p.railAt x.seq.tryCls))

/-- Whether slot i starts next among the slots of its polder that wait for the stagger alone (02 R46). -/
def State.nextRamp (s : State) (i : Nat) : Bool :=
  let p := s.polder (i / 8)
  let f := (s.slot i).freeAt p
  ((List.range 8).map (8 * (i / 8) + ·)).all fun j =>
    j = i || !(s.slot j).freeToRamp p || f < (s.slot j).freeAt p || (f = (s.slot j).freeAt p && i < j)

/-- VCC_RAMP_START (02 R45, R46, R48 step 1). Log 3, 4. -/
def execVccRampStart (i : Fin 64) (s : State) : Host.Outcome State Fault Refusal :=
  let p := s.polder (i.val / 8)
  if s.boot.loaded && !s.boot.slotHeld && !s.tap.pins && (s.slot i).freeToRamp p && s.nextRamp i then
    let s1 := match p.lastRamp with | some v => s.elapseTide (v + p.stagger.setWidth 64) | none => s
    let ok : Bool := match p.lastRamp with | some v => decide (v + p.stagger.setWidth 64 ≤ s1.ltide) | none => true
    if ok then
      let s2 := s1.modSlot i fun x =>
        let y := if x.st = .present then x.enterActivating else x
        { y with
          seq := { y.seq with vcc := .ramp, phase := .ramp s1.now, cls := some y.seq.tryCls, rst := false, clkRun := false, ioUp := false, warmed := false,
                              settled := false, steps := 0, deactT0 := none, quenchT0 := none }
          regs := { y.regs with actStart := s1.ltide } }
      nx (s2.modPolder (i.val / 8) fun p => { p with lastRamp := some s1.ltide })
    else nx s1
  else nx s

/-- SETTLE_REQUEST (02 R48 step 2, R49). Log 3, 4. -/
def execSettleRequest (i : Fin 64) (s : State) : Host.Outcome State Fault Refusal :=
  match (s.slot i).seq.phase with
  | .ramp t0 =>
    let s1 := s.elapseTo (t0 + (s.slot i).rampCk + 20 * us)
    let s2 := s1.modSlot i fun x => { x with seq := { x.seq with vcc := .on, phase := .settle } }
    nx (s2.modPolder (i.val / 8) fun p =>
      { p with
        settle := (p.settle.filter fun e => e.1 ≠ i.val) ++ [(i.val, [])]
        convAt := if p.convUser.isNone then s1.now else p.convAt
        convUser := some (p.convUser.getD (.settle i)) })
  | _ => nx s

/-- The settle window of a class in mV (02 Table 2-4). -/
def settleWindow : SClass → Nat × Nat
  | .a => (4750, 5250)
  | .b => (2850, 3150)
  | .c => (1710, 1890)

/-- The settle check has passed: CLK starts at divider n (02 R48 step 4). -/
def Slot.runClk (x : Slot) (now n : Nat) (p : ActPhase) (ioUp : Bool) : Slot :=
  ({ x with seq := { x.seq with stopLevel := false, div := n, divNext := none, settled := true, phase := p, ioUp := ioUp } } : Slot).startClk now

/-- SETTLE_CHECK_DONE (02 R48 steps 3 and 4; 17 R445 for a PARKED slot): four samples of 2 mV per code, averaged. Log 3. -/
def execSettleCheckDone (i : Fin 64) (s : State) : Host.Outcome State Fault Refusal :=
  match (s.polder (i.val / 8)).settle.find? (fun e => e.1 = i.val), (s.slot i).seq.phase with
  | some e, .settle =>
    if e.2.length < 4 then nx s
    else
      let s1 := s.modPolder (i.val / 8) fun p => { p with settle := p.settle.filter fun e => e.1 ≠ i.val }
      let w := settleWindow (s.slot i).seq.tryCls
      let sum := 2 * e.2.sum
      if 4 * w.1 ≤ sum ∧ sum ≤ 4 * w.2 then
        if (s1.slot i).st = .parked then
          nx (s1.modSlot i fun x => x.runClk s1.now (if fld (s1.loop (i / 8)).ctrl 25 24 = 0 then 120 else 24) .none true)
        else nx (s1.modSlot i fun x => x.runClk s1.now x.actDiv (.clk s1.now) false)
      else nx (s1.quench i 10)
  | _, _ => nx s

/-- IO_RELEASE (02 R48 step 5). Log 3, 4. -/
def execIoRelease (i : Fin 64) (s : State) : Host.Outcome State Fault Refusal :=
  match (s.slot i).seq.phase with
  | .clk ta =>
    nx ((s.elapseTo (ta + 100 * (s.slot i).divNow s.now)).modSlot i fun x => { x with seq := { x.seq with ioUp := true, phase := .io ta } })
  | _ => nx s

/-- Tb (02 R48 step 6, R50, R54): RST high, the slot in ATR, the TS window on T1 (06 R154). -/
def State.riseRst (s : State) (i : Nat) : State :=
  let s1 := s.modSlot i fun x =>
    let y := x.takeUp s.now
    ({ y with
      st := .atr
      seq := { y.seq with rst := true, phase := .none, tb := s.now }
      ch := { y.ch with
        convSet := false, atrOn := false, atrDone := false, lastTx := none, lastRx := none, txFrom := 0, rxOn := none, rxHold := none, rearm := s.now
        applyAt := none } } : Slot).countDuty s.now
  (s1.captureSlot i 3).armWait i 1 3 0 40000

/-- RST_RISE (02 R48 step 6, R54 step 4). Log 3, 4. -/
def execRstRise (i : Fin 64) (s : State) : Host.Outcome State Fault Refusal :=
  let x := s.slot i
  match x.seq.phase with
  | .io ta => nx ((s.elapseTo (ta + x.rstHold * x.actDiv)).riseRst i)
  | .warm t0 => nx ((s.elapseTo (t0 + x.rstHold * x.actDiv)).riseRst i)
  | _ => nx s

/-- ATR_ABSENT (02 R50, R43 rule 1, R55). Log 3, 4. -/
def execAtrAbsent (i : Fin 64) (s : State) : Host.Outcome State Fault Refusal :=
  nx (s.expired i .ts)

/-- ATR_CHAR_TIMEOUT (02 R51). Log 3, 4. -/
def execAtrCharTimeout (i : Fin 64) (s : State) : Host.Outcome State Fault Refusal :=
  nx (s.expired i .atrChar)

/-! Clock stop (02 R58, 06 R156). -/

/-- Whether a converter request holds the clock of slot i running (09 R261). -/
def State.convHolds (s : State) (i : Nat) : Bool :=
  let c := (s.polder (i / 8)).conv
  c.busy && c.holdClk && fld c.cfg 2 0 = i % 8

/-- The card clocks of slot x from the last re-arm to ck t: those before the last clock stop and those since the restart (02 R58). -/
def Slot.idleAt (x : Slot) (t : Nat) : Nat :=
  if x.seq.clkFrom ≤ x.ch.rearm then (t - x.ch.rearm) / x.seq.div else x.seq.idleClk + (t - x.seq.clkFrom) / x.seq.div

/-- The ck at which they are CSTOP_IDLE. -/
def Slot.idleDue (x : Slot) : Nat :=
  if x.seq.clkFrom ≤ x.ch.rearm then x.ch.rearm + x.regs.cstopIdle.toNat * x.seq.div
  else x.seq.clkFrom + (x.regs.cstopIdle.toNat - x.seq.idleClk) * x.seq.div

/-- Whether slot i may stop its clock once it has idled (02 R58, 09 R261). -/
def State.mayStop (s : State) (i : Nat) : Bool :=
  let x := s.slot i
  x.st = .ready && bitOf x.regs.cfg 12 && x.pr.x ≠ 0 && x.holder.isNone && !s.convHolds i && x.seq.clkRun && x.ch.rxOn.isNone

/-- CLOCK_STOP (02 R58, 06 R156): the conditions come to hold, and CLK stops at the next edge that gives its stop level; what comes before that edge
comes before this command. Log 3, 4. -/
def execClockStop (i : Fin 64) (s : State) : Host.Outcome State Fault Refusal :=
  let s0 := s.rxFlush i
  let x := s0.slot i
  if s0.mayStop i then
    let s1 := s0.elapseTo (max x.idleDue (x.ch.lastStart + x.ch.etu.bound x.turn))
    let high := x.pr.x = 2 || (x.pr.x = 3 && bitOf x.regs.cfg 13)
    let s2 := s1.elapseTo (if high then x.nextRise s1.now else x.nextFall s1.now)
    nx (s2.modSlot i fun x =>
      let y := x.stopClk s2.now high
      { y with st := .clockstop, seq := { y.seq with idleClk := x.idleAt s2.now }, temp := y.temp.discard })
  else nx s0

/-- The clock of slot i restarts, where it stands in CLOCKSTOP (02 R58). -/
def State.restartClock (s : State) (i : Nat) : State :=
  s.modSlot i fun x =>
    if x.st = .clockstop ∧ x.seq.restartAt.isNone then
      let y := x.startClk s.now
      { y with seq := { y.seq with restartAt := some s.now } }
    else x

/-- CLOCK_RESTART_DONE (02 R58, R54, Table 2-2). Log 3, 4. -/
def execClockRestartDone (i : Fin 64) (s : State) : Host.Outcome State Fault Refusal :=
  let x := s.slot i
  match x.seq.restartAt with
  | none => nx s
  | some t =>
    let s1 := s.elapseTo (t + 700 * x.seq.div)
    let s2 := s1.modSlot i fun x =>
      ({ x with st := .ready, seq := { x.seq with restartAt := none, warmAfterRestart := false } } : Slot).countDuty s1.now
    if x.seq.warmAfterRestart && x.holder.isNone then nx (s2.warmReset i)
    else
      match x.holder.bind s.txn with
      | some n =>
        if n.stage = .exch && x.pr.mode ≠ .idle then
          let s3 := s2.modSlot i fun x => { x with st := .busy }
          nx (if x.pr.mode = .script && !x.pr.smWait then s3.handOver i n.cmd else s3)
        else nx (s2.setsReady i)
      | none => nx (s2.setsReady i)

/-! Normal deactivation (02 R59, R60). -/

/-- DEACT_STEP (02 R59): step 2 at the first falling edge of CLK from its time on. Log 3, 4. -/
def execDeactStep (i : Fin 64) (s : State) : Host.Outcome State Fault Refusal :=
  let x := s.slot i
  match x.seq.stepDue with
  | some t =>
    if x.st ≠ .quenching ∧ x.seq.deactT0.isSome then
      let s0 := s.elapseTo t
      let s1 := if x.seq.steps = 1 && x.seq.clkRun then s0.elapseTo (x.nextFall (s0.now - 1)) else s0
      nx (s1.modSlot i fun x => x.doStep s1.now)
    else nx s
  | none => nx s

/-- What a fall of VCC below 0.4 V resets of tempering (09 R257). -/
def Temper.restart (t : Temper) (cfg : Word) : Temper :=
  { t.discard with app := { pull := fld cfg 16 15 }, pendOfs := none, pendPull := none, pendSlew := none, pendDuty := none, dutyNext := none }

/-- VCC_BELOW_0V4 (02 R38, R59 step 5, R60, 03 R68, R80, 09 R257): a fall with the regulator off ends a leak, or a rise too short for one, and the
reactivation gap counts afresh. Log 3. -/
def execVccBelow04 (i : Fin 64) (s : State) : Host.Outcome State Fault Refusal :=
  let x := s.slot i
  if x.seq.leaking ∧ x.seq.vcc = .off then
    nx (s.modSlot i fun x => { x with seq := { x.seq with leaking := false, leakSeen := false, gapFrom := some s.now } })
  else if x.seq.vcc = .disch ∧ x.seq.sinkOn.isSome then
    nx (s.modSlot i fun x =>
      let base : SlotSeq := { x.seq with
        vcc := .off, rst := false, clkRun := false, ioUp := false, discharging := false, deactT0 := none, quenchT0 := none, steps := 0,
        sinkReq := none, sinkOn := none, timedOut := false, cls := none, gapFrom := some s.now, leaking := false, leakSeen := false, ioHold := none
        divNext := none }
      let t := x.temp.restart x.regs.cfg
      if x.st = .quenching then
        { x with st := x.afterQuench, temp := t, seq := { base with toPark := false, parkPend := false, deactPend := false } }
      else if x.seq.phase = .classChange then { x with temp := t, seq := { base with phase := .wait, askedAt := s.ltide.toNat } }
      else { x with temp := t, seq := base })
  else nx s

/-- REACT_GAP_END (02 R60). Log 3, 4. -/
def execReactGapEnd (i : Fin 64) (s : State) : Host.Outcome State Fault Refusal :=
  match (s.slot i).seq.gapFrom with
  | none => nx s
  | some t =>
    if (s.slot i).seq.leaking then nx s
    else
      let s1 := s.elapseTo (t + 10 * ms)
      nx (s1.modSlot i fun x => { x with seq := { x.seq with gapFrom := none, askedAt := max x.seq.askedAt s1.ltide.toNat } })

end Sys2Proof.Machine
end

