-- ==== Sys2Proof/Machine/CryptoOps.lean ====
section
/-! DEFINITION. AES-256 in CTR mode and AES-CMAC over the block operation, which is uninterpreted (16 R431; log 6). -/

namespace Sys2Proof.Machine

/-- Sixteen bytes as a block, the first byte most significant. -/
def blockOfBytes (l : List Byte) : BitVec 128 := BitVec.ofNat 128 (ofBe (padTo 16 l))

/-- The bytes of a block. -/
def bytesOfBlock (b : BitVec 128) : List Byte := beBytes b.toNat 16

/-- Thirty-two bytes as a key. -/
def keyOfBytes (l : List Byte) : BitVec 256 := BitVec.ofNat 256 (ofBe (padTo 32 l))

/-- n blocks of key stream from a counter block that rises by 1. -/
def keyStream (key : BitVec 256) : Nat → BitVec 128 → List Byte
  | 0, _ => []
  | n + 1, c => bytesOfBlock (Config.aesBlock key c) ++ keyStream key n (c + 1)

/-- AES-256 in CTR mode: encryption and decryption. -/
def aesCtr (key : BitVec 256) (ctr : BitVec 128) (data : List Byte) : List Byte :=
  List.zipWith (· ^^^ ·) data (keyStream key ((data.length + 15) / 16) ctr)

/-- The doubling of CMAC subkeys. -/
def cmacDbl (b : BitVec 128) : BitVec 128 := (b <<< 1) ^^^ (if b.getLsbD 127 then 0x87#128 else 0#128)

/-- CMAC over whole blocks: n blocks chained from x. -/
def cbcChain (key : BitVec 256) : Nat → BitVec 128 → List Byte → BitVec 128
  | 0, x, _ => x
  | n + 1, x, l => cbcChain key n (Config.aesBlock key (x ^^^ blockOfBytes (l.take 16))) (l.drop 16)

/-- AES-CMAC of a message (16 Table 16-13; NIST SP 800-38B). -/
def aesCmac (key : BitVec 256) (m : List Byte) : List Byte :=
  let k1 := cmacDbl (Config.aesBlock key 0#128)
  let n := if m.isEmpty then 0 else (m.length - 1) / 16
  let last := m.drop (16 * n)
  let x := cbcChain key n 0#128 m
  let b := if last.length = 16 then blockOfBytes last ^^^ k1 else blockOfBytes (last ++ [0x80#8]) ^^^ cmacDbl k1
  bytesOfBlock (Config.aesBlock key (x ^^^ b))

end Sys2Proof.Machine
end

