-- ==== Sys2Proof/Machine/LedgerImage.lean ====
section
/-! DEFINITION. The ledger image format, and what firmware does with the image of a position: scan, sweep and FORMAT as lists of mirror commands
(10 R285 to R291). -/

namespace Sys2Proof.Machine

/-- A ledger event, which also acts on line 43 (10 R293; log 20). -/
def State.lpost (s : State) (typ source code : Nat) (data : List Word := []) : State := (s.post typ source code data).line 43

/-! The format (10 R285, R286). -/

/-- L of a mirror mode (10 R285). -/
def imageBlocks (mode : Nat) : Nat := if mode = 1 then 2731 else 1171

/-- The sector of copy c of logical block i of an image that starts at block b (10 R285). -/
def imageSector (b mode c i : Nat) : Nat := b + 2 + c * imageBlocks mode + i

/-- The plain payload of logical block i, from MRAM (10 R285). -/
def State.imagePayload (s : State) (mode i : Nat) : List Byte :=
  padTo 448
    (if mode = 1 then
      [0, 1, 2].flatMap fun n => match tget none s.mram.journal (3 * i + n) with | some r => r.bytes | none => List.replicate 128 0
     else (List.range 7).flatMap fun n => padTo 64 (s.auditAt (7 * i + n)))

/-- The ledger image key (16 R428). -/
def State.imageKey (s : State) : BitVec 256 := keyOfBytes (s.secret 0xFF).key

/-- An image block from its PAYLOAD field (10 Table 10-9). -/
def imageFrame (payload : List Byte) (kind copy i : Nat) (bseq : Nat) (tide : Tide) : List Byte :=
  let b := padTo 508 (padTo 448 payload ++ leBytes 0x4C444752 4 ++ [0x01#8, BitVec.ofNat 8 kind, BitVec.ofNat 8 copy, 0#8] ++
    leBytes i 4 ++ leBytes bseq 8 ++ serialBytes ++ leBytes tide.toNat 8)
  b ++ leBytes (crc32c b).toNat 4

/-- The initial counter block of a data block (10 R286). -/
def imageCtr (mode i bseq : Nat) : BitVec 128 := BitVec.ofNat 64 bseq ++ BitVec.ofNat 8 mode ++ BitVec.ofNat 24 i ++ 0#32

/-- Logical block i as it is written with a BSEQ (10 R286, R287). -/
def State.imageBlock (s : State) (mode copy i bseq : Nat) : List Byte :=
  imageFrame (aesCtr s.imageKey (imageCtr mode i bseq) (s.imagePayload mode i)) mode copy i bseq s.ltide

/-- The key check value of the image key (10 R285). -/
def State.imageKcv (s : State) : List Byte := (bytesOfBlock (Config.aesBlock s.imageKey 0#128)).take 8

/-- The payload of a label (10 R285). -/
def State.labelPayload (s : State) (mode : Nat) : List Byte :=
  padTo 32 (leBytes (imageBlocks mode) 4 ++ [BitVec.ofNat 8 mode, 0#8, 0#8, 0#8] ++ serialBytes ++ leBytes s.ltide.toNat 8 ++ s.imageKcv)

/-- The label block of a copy (10 R285). -/
def State.labelBlock (s : State) (mode copy bseq : Nat) : List Byte := imageFrame (s.labelPayload mode) 3 copy 0 bseq s.ltide

/-! Blocks as they are read (10 R287, R290, R291). -/

/-- n bytes of a block from an offset on. -/
def blockField (b : List Byte) (off n : Nat) : List Byte := (b.drop off).take n

/-- CRC and MAGIC match (10 R287, R291). -/
def blockSound (b : List Byte) : Bool := ofLe (blockField b 448 4) = 0x4C444752 && ofLe (blockField b 508 4) = (crc32c (b.take 508)).toNat

/-- BSEQ of a block. -/
def blockBseq (b : List Byte) : Nat := ofLe (blockField b 460 8)

/-- FORMAT, KIND, COPY and LBLOCK are these (10 R287). -/
def blockNames (b : List Byte) (kind copy i : Nat) : Bool :=
  byteAt b 452 = 1#8 && (byteAt b 453).toNat = kind && (byteAt b 454).toNat = copy && ofLe (blockField b 456 4) = i

/-- Copy c of logical block i as read: the six conditions of R287, and whether it is what MRAM holds. -/
def State.readCopy (s : State) (mode c i : Nat) (b : List Byte) : CopyRead :=
  let valid := blockSound b && blockNames b mode c i && blockField b 468 8 = serialBytes
  { valid := valid, bseq := blockBseq b, same := valid && aesCtr s.imageKey (imageCtr mode i (blockBseq b)) (b.take 448) = s.imagePayload mode i }

/-- Label copy c as read, where it is valid (10 R290 step 1; log 137). -/
def State.readLabel (s : State) (mode c : Nat) (b : List Byte) : Option LabelRead :=
  if blockSound b && blockNames b 3 c 0 then
    some { bseq := blockBseq b
           own := (byteAt b 4).toNat = mode && blockField b 8 8 = serialBytes && blockField b 24 8 = s.imageKcv }
  else none

/-! Block sequences (10 R286 to R288). -/

/-- The BSEQ reservation of position k (10 R288). -/
def State.reserveOf (s : State) (k : Nat) : Nat := s.dictNum (0x2500 + k / 4) (0x0F + k % 4) 0

/-- The least BSEQ that no position has used: after a start, none at or above the highest stored reservation has been (10 R286, R288; log 138). -/
def State.bseqFloor (s : State) : Nat :=
  match s.flow.nextBseq with
  | 0 => ((List.range 16).map s.reserveOf).foldl max 0
  | n => n

/-- Takes one BSEQ at position k, raising the reservation first where it must (10 R286 to R288). -/
def State.takeBseq (s : State) (k : Nat) : Nat × State :=
  let b := max (s.lp k).nseq.toNat s.bseqFloor
  let s1 := if s.reserveOf k ≤ b then (s.persist (0x2500 + k / 4) (0x0F + k % 4) (leBytes ((b / 1024 + 1) * 1024) 8)).burst else s
  let s2 : State := { s1 with flow := { s1.flow with nextBseq := b + 1 } }
  (b, s2.modLp k fun x => { x with nseq := BitVec.ofNat 64 (b + 1) })

/-- NSEQ after a read of the card that found `high` as the highest BSEQ (10 R288, R291). -/
def State.nextNseq (s : State) (k : Nat) (high : Option Nat) : BitVec 64 :=
  BitVec.ofNat 64 (max (match high with | some h => h + 1 | none => 0) (s.reserveOf k))

/-! Lists of mirror commands (10 R287). -/

/-- Blocks that are consecutive and share a copy go in one command of at most 128 blocks: e is the copy and the block of each, ascending. -/
def groupBlocks (b mode : Nat) : List (Nat × Nat) → List MirrorCmd
  | [] => []
  | (c, i) :: l =>
    match groupBlocks b mode l with
    | ⟨.dataWrite c1 i1, _, n⟩ :: r =>
      if c1 = c && i1 = i + 1 && n < 128 then ⟨.dataWrite c i, imageSector b mode c i, n + 1⟩ :: r
      else ⟨.dataWrite c i, imageSector b mode c i, 1⟩ :: ⟨.dataWrite c1 i1, imageSector b mode c1 i1, n⟩ :: r
    | r => ⟨.dataWrite c i, imageSector b mode c i, 1⟩ :: r

/-- Reads of n blocks from a sector on, at most 128 in each, of region c (10 R290 step 2). -/
def scanReads (b mode c : Nat) : List MirrorCmd :=
  (List.range ((imageBlocks mode + 127) / 128)).map fun g =>
    ⟨.scanRead c (128 * g), imageSector b mode c (128 * g), min 128 (imageBlocks mode - 128 * g)⟩

/-- The reads of FORMAT: every label and region block (10 R291 step 1). -/
def formatReads (b mode : Nat) : List MirrorCmd :=
  let n := 2 * imageBlocks mode + 2
  (List.range ((n + 127) / 128)).map fun g => ⟨.formatRead, b + 128 * g, min 128 (n - 128 * g)⟩

/-- The copy that a write of a block goes to: the one that does not hold its current version (10 R287). -/
def LPos.target (x : LPos) (i : Nat) : Nat := if tget 0 x.copy i = 1 then 1 else 0

/-- The writes of a list of blocks at position x, ascending. -/
def LPos.writes (x : LPos) (l : List Nat) : List MirrorCmd := groupBlocks x.imgBase.toNat x.mode (l.map fun i => (x.target i, i))

/-- The current copy of a block: 0 none, 1 copy 0, 2 copy 1 (10 R287). -/
def currentCopy (c : CopyRead × CopyRead) : Nat :=
  if c.1.valid && (!c.2.valid || c.2.bseq ≤ c.1.bseq) then 1 else if c.2.valid then 2 else 0

/-- The current version of a block is in MRAM as it stands. -/
def copySame (c : CopyRead × CopyRead) : Bool := match currentCopy c with | 1 => c.1.same | 2 => c.2.same | _ => false

/-- The two copies of block i as the scan has read them; a copy not read is not valid (log 137). -/
def LPos.copies (x : LPos) (i : Nat) : CopyRead × CopyRead := (tget {} x.reads (2 * i), tget {} x.reads (2 * i + 1))

/-! Tasks (10 R289 to R291). -/

/-- Posts IMAGE_STATE of position k (10 R290, R293). -/
def State.postImage (s : State) (k : Nat) (st : ImgState) (lost written : Nat) : State :=
  let s1 := s.modLp k fun x => { x with img := st, lost := lost }
  let x := s1.lp k
  let s2 := s1.lpost 0x72 k st.code
    [BitVec.ofNat 32 (imageBlocks x.mode), BitVec.ofNat 32 lost, BitVec.ofNat 32 written, lo32 x.nseq, hi32 x.nseq]
  if st = .recovered || st = .unformatted || st = .foreign then s2.irq 10 else s2

/-- A scan ends with the labels: NSEQ follows R288 (10 R290 step 1). -/
def State.endLabels (s : State) (k : Nat) (st : ImgState) : State :=
  (s.modLp k fun x => { x with task := none, nseq := s.nextNseq k x.high }).postImage k st 0 0

/-- The writes of a scan have ended, lost blocks counted (10 R290 step 4). -/
def State.endScan (s : State) (k lost : Nat) : State :=
  (s.modLp k fun x => { x with task := none }).postImage k (if lost = 0 then .valid else .recovered) lost (s.lp k).written

/-- The copies have been read: current versions, LOST blocks, NSEQ and the blocks to write (10 R287, R288, R290 steps 2 and 3). A block that changed
during the scan is written too. -/
def State.scanDone (s : State) (k : Nat) : State :=
  let x := s.lp k
  let l := (List.range (imageBlocks x.mode)).map fun i => (i, x.copies i)
  let lost := (l.filter fun e => currentCopy e.2 = 0).length
  let todo := (l.filter fun e => !copySame e.2 || x.dirty.contains e.1).map (·.1)
  let s1 := s.modLp k fun x =>
    { x with
      nseq := s.nextNseq k x.high, copy := l.foldl (fun t e => tset 0 t e.1 (currentCopy e.2)) [], reads := [], labels := [], written := 0
      dirty := todo, task := some (.scanWrites lost) }
  if todo.isEmpty then s1.endScan k lost else s1.modLp k fun x => { x with mq := x.writes todo }

/-- The last command of a task has ended (10 R289 to R291). -/
def State.taskNext (s : State) (k : Nat) : State :=
  let x := s.lp k
  if !x.mq.isEmpty then s
  else match x.task with
    | none => s
    | some .scanLabels =>
      match x.labels.foldl (fun m l => match m with | some (a : LabelRead) => if a.bseq < l.bseq then some l else m | none => some l) none with
      | none => s.endLabels k .unformatted
      | some l =>
        if l.own then s.modLp k fun x => { x with task := some .scanBlocks, mq := scanReads x.imgBase.toNat x.mode 0 ++ scanReads x.imgBase.toNat x.mode 1 }
        else s.endLabels k .foreign
    | some .scanBlocks => s.scanDone k
    | some (.scanWrites lost) => s.endScan k lost
    | some (.sweep began) =>
      (s.modLp k fun x => { x with task := none }).lpost 0x73 k 0 [BitVec.ofNat 32 x.written, lo32 began, hi32 began]
    | some .formatRead =>
      s.modLp k fun x =>
        { x with
          task := some .formatWrite, nseq := s.nextNseq k x.high, dirty := [], copy := [], written := 0
          mq := [⟨.labelWrite 0, x.imgBase.toNat, 1⟩, ⟨.labelWrite 1, x.imgBase.toNat + 1, 1⟩] ++
            groupBlocks x.imgBase.toNat x.mode ((List.range (imageBlocks x.mode)).map fun i => (0, i)) }
    | some .formatWrite => (s.modLp k fun x => { x with task := none }).postImage k .valid 0 x.written

/-! Mirror commands (10 R287, R289). -/

/-- The blocks of a write, each with its BSEQ, and their plain payloads, block n next of those left (10 R286, R287). -/
def State.prepareFrom (s : State) (k : Nat) (kind : MirrorKind) (n : Nat) : Nat → List (List Byte) × List (List Byte) × State
  | 0 => ([], [], s)
  | left + 1 =>
    let mode := (s.lp k).mode
    let b := s.takeBseq k
    let e : List Byte × List Byte := match kind with
      | .labelWrite c => (s.labelBlock mode c b.1, s.labelPayload mode)
      | .dataWrite c i => (s.imageBlock mode c (i + n) b.1, s.imagePayload mode (i + n))
      | _ => ([], [])
    let r := b.2.prepareFrom k kind (n + 1) left
    (e.1 :: r.1, e.2 :: r.2.1, r.2.2)

/-- A command writes. -/
def MirrorKind.writes : MirrorKind → Bool
  | .labelWrite _ => true | .dataWrite _ _ => true | _ => false

/-- Block n of a read command has come (10 R287, R290, R291). -/
def State.mirrorRead (s : State) (k : Nat) (c : MirrorCmd) (n : Nat) (b : List Byte) : State :=
  let x := s.lp k
  let s1 := if blockSound b then s.modLp k fun x => { x with high := some (max (x.high.getD 0) (blockBseq b)) } else s
  match c.kind with
  | .labelRead => match s.readLabel x.mode n b with | some l => s1.modLp k fun x => { x with labels := x.labels ++ [l] } | none => s1
  | .scanRead r i => s1.modLp k fun x => { x with reads := tset {} x.reads (2 * (i + n) + r) (s.readCopy x.mode r (i + n) b) }
  | _ => s1

/-- The audit entries of a written block that MRAM still holds count as exported (10 R289). -/
def State.exportBlock (s : State) (i : Nat) (plain : List Byte) : State :=
  ({ s with mram := { s.mram with
      exported := (List.range 7).foldl (fun e n =>
        let a := s.auditAt (7 * i + n)
        if a ≠ [] && padTo 64 a = blockField plain (64 * n) 64 then tset false e (7 * i + n) true else e) s.mram.exported } } : State).auditFill

/-- Block n of a write command is confirmed: the copy holds the current version (10 R287, R289). -/
def State.mirrorWritten (s : State) (k : Nat) (c : MirrorCmd) (n : Nat) (plain : List Byte) : State :=
  match c.kind with
  | .dataWrite r i =>
    let s1 := s.modLp k fun x => { x with copy := tset 0 x.copy (i + n) (r + 1), written := x.written + 1 }
    if (s.lp k).mode = 2 then s1.exportBlock (i + n) plain else s1
  | _ => s

/-- The logical blocks of a write command from block n on are marked changed again (10 R289). -/
def LPos.unwritten (x : LPos) (c : MirrorCmd) (n : Nat) : LPos :=
  match c.kind with
  | .dataWrite _ i => { x with dirty := x.dirty ++ ((List.range (c.count - n)).map fun j => i + n + j).filter fun b => !x.dirty.contains b }
  | _ => x

/-- What is left of a read command after the block it failed at (log 137). -/
def MirrorCmd.after (c : MirrorCmd) (n : Nat) : Option MirrorCmd :=
  if c.count ≤ n + 1 then none
  else match c.kind with
    | .scanRead r i => some { kind := .scanRead r (i + n + 1), first := c.first + n + 1, count := c.count - n - 1 }
    | .formatRead => some { c with first := c.first + n + 1, count := c.count - n - 1 }
    | _ => none

/-- A mirror command ends with so many blocks confirmed (10 R289, R290; log 137). -/
def State.mirrorEnd (s : State) (k : Nat) (c : MirrorCmd) (confirmed : Nat) : State :=
  let s1 := if c.count ≤ confirmed then s
    else s.modLp k fun x => { x.unwritten c confirmed with mq := (c.after confirmed).toList ++ x.mq }
  s1.taskNext k

/-- The image task of a position is given up. -/
def LPos.noTask (x : LPos) : LPos := { x with task := none, mq := [], reads := [], labels := [] }

end Sys2Proof.Machine
end

