-- ==== Sys2Proof/Machine/LedgerOps.lean ====
section
/-! DEFINITION. What a ledger port does on its bus: states of its positions, rates and the switch of R270, a host transaction from its
first command to its outcome, recovery and removal (10 R268 to R283). -/

namespace Sys2Proof.Machine

/-! Fields. -/

/-- LP_CFG.EN. -/
def Port.en (x : Port) : Bool := bitOf x.cfg 31
/-- LP_CFG.RETRIES in effect. -/
def Port.retries (x : Port) : Nat := fld x.live 27 26
/-- LP_STATUS.UNPLACED: the unplaced cards (10 R275). -/
def Port.unplaced (x : Port) : Nat := min 4 x.strays.length
/-- Lp_CLK runs at ck t (10 R271). Stopped, it is low, and Lp_CMD and Lp_DAT are inputs. -/
def Port.clkRuns (x : Port) (t : Nat) : Bool := match x.clk with | none => true | some e => decide (t < e)
/-- Lp_CMD is open-drain: identification runs (10 R268). -/
def Port.openDrain (x : Port) : Bool := x.ident.isSome
/-- LP_TIMEOUT.READ_TO in ck. -/
def Port.readTo (x : Port) : Nat := fld x.timeout 15 0 * ms
/-- LP_TIMEOUT.BUSY_TO in ck. -/
def Port.busyTo (x : Port) : Nat := fld x.timeout 31 16 * ms

/-- The positions of a port. -/
abbrev four : List Nat := [0, 1, 2, 3]

/-- The READY positions of port p. -/
def State.ledgerReady (s : State) (p : Nat) : List Nat := four.filter fun a => (s.lp (4 * p + a)).st = .ready

/-- The words of a CID. -/
def cidWords (c : BitVec 128) : List Word := four.map fun i => (c >>> (32 * i)).setWidth 32

/-- Position a of port p takes a state, and says so (10 Tables 10-4, 10-15). Out of READY no image task runs (10 R289, R290). -/
def State.setLp (s : State) (p a : Nat) (st : LPosState) : State :=
  let k := 4 * p + a
  if (s.lp k).st = st then s
  else
    let s0 := if st ≠ .ready && (s.loop (8 + p)).index = a then s.failLoop (8 + p) true else s
    let s1 := s0.modLp k fun x => { (if st = .ready then x else x.noTask) with st := st }
    s1.lpost 0x70 k st.code (BitVec.ofNat 32 (s1.lp k).rca :: cidWords (s1.lp k).cid)

/-- A command on Lp_CMD; Lp_CLK runs for its answer (10 R271). -/
def State.lcmd (s : State) (p cmd : Nat) (arg : Word) : State := (s.emit (.ledgerCmd p cmd arg)).modPort p fun x => { x with clk := none }

/-- The last event of a command ends after n clocks: Lp_CLK stops low 8 clocks later (10 R271). -/
def State.lclk (s : State) (p n : Nat) : State := s.modPort p fun x => { x with clk := some (s.now + (n + 8) * x.div) }

/-- A command without a response, and the end of its 48 clocks. -/
def State.lcmd0 (s : State) (p cmd : Nat) (arg : Word) : State := (s.lcmd p cmd arg).lclk p 48

/-- The argument that addresses position a of port p. -/
def State.rcaArg (s : State) (p a : Nat) : Word := BitVec.ofNat 32 ((s.lp (4 * p + a)).rca * 65536)

/-! Clock, width, timing (10 R268 to R270). -/

/-- The positions of port p where an identified card is placed, READY or not. -/
def State.ledgerPlaced (s : State) (p : Nat) : List Nat := four.filter fun a => (s.lp (4 * p + a)).rca ≠ 0

/-- High speed is in effect: Mmin is 10 (10 R268). EXT_CSD of a card that no bring-up has read, an unplaced one too, shows no bit 1 (log 82). -/
def State.ledgerHs (s : State) (p : Nat) : Bool :=
  bitOf (s.port p).live 28 && (s.port p).strays.isEmpty && (s.ledgerPlaced p).all fun a => (s.lp (4 * p + a)).cardType.getLsbD 1

/-- The width in effect, coded as WIDTH (10 R269). -/
def State.ledgerWidth (s : State) (p : Nat) : Nat :=
  let w := fld (s.port p).live 30 29
  if w = 2 && 1 < (s.ledgerPlaced p).length + (s.port p).strays.length then 1 else w

/-- DAT lines at a width code. -/
def lines (w : Nat) : Nat := if w = 0 then 1 else if w = 1 then 4 else 8

/-- The command of step n of R270 on position a of port p. -/
def State.switchCmd (s : State) (p a n : Nat) : State :=
  let x := s.port p
  match n with
  | 0 => s.lcmd p 7 (s.rcaArg p a)
  | 1 => s.lcmd p 6 (if x.hs then 0x03B90100#32 else 0x03B90000#32)
  | 2 => s.lcmd p 13 (s.rcaArg p a)
  | 3 => s.lcmd p 6 (BitVec.ofNat 32 (0x03B70000 + x.width * 256))
  | 4 => s.lcmd p 13 (s.rcaArg p a)
  | 5 => s.lcmd p 19 0#32
  | _ => s.lcmd p 14 0#32

/-- A host transaction of port p stands at stage 6 or 7. -/
def State.ledgerTxn (s : State) (p : Nat) : Bool :=
  s.txnList.any fun e => (e.2.stage = .intent || e.2.stage = .exch) && (match e.2.target with | .ledger q _ => q = p | _ => false)

/-- Port p carries a job. -/
def State.portBusy (s : State) (p : Nat) : Bool :=
  let x := s.port p
  s.ledgerTxn p || x.ident.isSome || x.switch.isSome || x.cleanup.isSome || x.job.isSome

/-- POS_CFG of position k takes effect: a change to a mirror mode scans a READY card (10 R290, R292). -/
def State.loadPos (s : State) (k : Nat) : State :=
  let x := s.lp k
  if x.live = x.cfg then s
  else
    let s1 := s.modLp k fun x => { x with live := x.cfg }
    if fld x.cfg 31 30 = x.mode then s1
    else
      let scan := fld x.cfg 31 30 ≠ 0 && x.st = .ready
      s1.modLp k fun x => { x.noTask with scan := scan, img := if scan then .scanning else .none, lost := 0, dirty := [], copy := [] }

/-- At a free point of port p the changes of LP_CFG and POS_CFG take effect (10 R292). -/
def State.atFree (s : State) (p : Nat) : State :=
  if s.portBusy p then s
  else
    let s1 := if (s.port p).live = (s.port p).cfg then s else s.modPort p fun x => { x with live := x.cfg }
    s1.forEach four fun s a => s.loadPos (4 * p + a)

/-- R270 begins on the positions of a list. -/
def State.switchOn (s : State) (p : Nat) (l : List Nat) : State :=
  match l with
  | [] => s.modPort p fun x => { x with switch := none, swBusy := none, owed := [] }
  | a :: _ => (s.modPort p fun x => { x with switch := some (l, 0), swBusy := none, owed := [], selected := some a }).switchCmd p a 0

/-- The timing and width of port p come into effect: every READY card is switched where they change, else those of new and those that a removal left
over (10 R270). -/
def State.applyRate (s : State) (p : Nat) (new : List Nat) : State :=
  let x := s.port p
  let hs := s.ledgerHs p
  let w := s.ledgerWidth p
  let m := max (fld x.live 10 0) (if hs then 10 else 19)
  let change := x.hs ≠ hs || x.width ≠ w
  let l := if change then s.ledgerReady p else (s.ledgerReady p).filter fun a => new.contains a || x.owed.contains a
  (s.modPort p fun x => { x with hs := hs, width := w, div := m }).switchOn p l

/-- The card being switched is done: it is deselected, and the next follows; a card that failed goes to FAILED. -/
def State.switchEnd (s : State) (p : Nat) (ok : Bool) : State :=
  match (s.port p).switch with
  | some (a :: r, _) =>
    let s1 := (s.lcmd0 p 7 0#32).modPort p fun x => { x with selected := none }
    (if ok then s1 else s1.setLp p a .failed).switchOn p r
  | _ => s.modPort p fun x => { x with switch := none, swBusy := none }

/-- The step of R270 in progress ended well, its busy too. -/
def State.switchNext (s : State) (p : Nat) : State :=
  match (s.port p).switch with
  | some (a :: r, n) =>
    if n = 6 || (n = 4 && (s.port p).width = 0) then s.switchEnd p true
    else (s.modPort p fun x => { x with switch := some (a :: r, n + 1), swBusy := none }).switchCmd p a (n + 1)
  | _ => s

/-- R1 error bits by 10 Table 10-5: ADDR, WP, ECC, OTHER. -/
def r1Bits (w : Word) : Nat :=
  8 * b2n (fld w 31 30 ≠ 0) + 4 * b2n (bitOf w 26) + 2 * b2n (bitOf w 21) +
    b2n (w &&& 0x3BD90080#32 ≠ 0#32)

/-- The test pattern of the bus test on a number of lines (10 R270 step 5; log 136). -/
def busPattern (w : Nat) : List Byte := if w = 2 then [0x55#8, 0xAA#8] else if w = 1 then [0x5A#8] else [0x80#8]

/-- A response in step n of R270 (10 R270, R271): CMD7 and CMD6 are busy after it, CMD19 is followed by the pattern, CMD14 by what the card returns. -/
def State.switchAnswer (s : State) (p n : Nat) (r : LedgerResp) : State :=
  match r with
  | .crcError => s.switchEnd p false
  | .r1 w =>
    if (s.port p).swBusy.isSome then s
    else if r1Bits w ≠ 0 then s.switchEnd p false
    else if n = 0 || n = 1 || n = 3 || n = 6 then s.modPort p fun x => { x with swBusy := some s.now, clk := none }
    else if n = 5 then (s.emit (.ledgerBlock p (busPattern (s.port p).width))).switchNext p
    else s.switchNext p

/-! Jobs (10 R276, R278 to R281). -/

/-- Clocks of a block frame: start bit, data, CRC and end bit. -/
def frameClocks (lines : Nat) : Nat := 4096 / lines + 18

/-- ck at which the block on DAT ends. -/
def State.blockEnd (s : State) (p : Nat) (j : LJob) : Nat := j.since + frameClocks (lines (s.port p).width) * (s.port p).div

/-- The phase of 10 Table 10-6 in progress. -/
def State.phaseOf (s : State) (p : Nat) (j : LJob) : Nat :=
  match j.step with
  | .select => 1 | .selectBusy => 1 | .status => 1 | .count => 2 | .command => 2
  | .token => if s.now < s.blockEnd p j then 3 else 4
  | .busy => 5 | .dataIn => 6 | .stop => 7 | .stopBusy => 7 | .recover _ => 7 | .final => 8

/-- The transfer of port p ends; status 0 is DONE (10 R279 to R282, R289). A free point follows (10 R292). -/
def State.ledgerEnd (s : State) (p : Nat) (j : LJob) (status : Nat) : State :=
  let s0 := (s.modPort p fun x => { x with job := none }).lclk p 0
  match j.txn with
  | none => ((match j.cmd with | some c => s0.mirrorEnd (4 * p + j.pos) c j.confirmed | none => s0)).atFree p
  | some t =>
    let cls : OClass := if status = 0 then .done else if j.sent then .inDoubt else .notSent
    let sw := j.confirmed * 256 + (if status = 0 then 0 else 16 * s.phaseOf p j) + (if status = 0 then 0 else j.bits)
    let s1 := s0.tally (0x2500 + p) 0x13 1 true
    let s2 := if cls = .inDoubt then s1.tally (0x2500 + p) 0x14 else s1
    (s2.requestOutcome t
      { cls := cls, status := status, sw := BitVec.ofNat 16 sw, respLen := if j.write then 0 else 512 * j.confirmed,
        sentLen := if j.write then 512 * j.begun else 0, resp := j.data }).atFree p

/-- A step whose wait keeps Lp_CLK running without a command: busy, a block, a token (10 R271). -/
def LStep.waits : LStep → Bool
  | .selectBusy => true | .dataIn => true | .token => true | .busy => true | .stopBusy => true
  | _ => false

/-- The job of port p goes to a step, whose wait begins now. -/
def State.ledgerStep (s : State) (p : Nat) (j : LJob) (st : LStep) : State :=
  s.modPort p fun x => { x with job := some { j with step := st, since := s.now }, clk := if st.waits then none else x.clk }

/-- The data command for the blocks not yet confirmed (10 R278 step 4). -/
def State.ledgerData (s : State) (p : Nat) (j : LJob) : State :=
  let many := 1 < j.count - j.confirmed
  let c := if j.write then (if many then 25 else 24) else if many then 18 else 17
  (s.lcmd p c (BitVec.ofNat 32 (j.first + j.confirmed))).ledgerStep p { j with sent := true, many := many } .command

/-- Steps 3 and 4 of R278. -/
def State.ledgerSend (s : State) (p : Nat) (j : LJob) : State :=
  let left := j.count - j.confirmed
  if 1 < left then (s.lcmd p 23 (BitVec.ofNat 32 left)).ledgerStep p { j with sent := true } .count else s.ledgerData p j

/-- The next block of a write goes out on DAT. -/
def State.ledgerOut (s : State) (p : Nat) (j : LJob) : State :=
  let d := match j.txn with
    | some t => (match s.txn t with | some x => (x.cmd.drop (512 * j.confirmed)).take 512 | none => [])
    | none => j.blocks.getD j.confirmed []
  (s.emit (.ledgerBlock p d)).ledgerStep p { j with begun := max j.begun (j.confirmed + 1) } .token

/-- A job begins at its position: CMD7 if the card is not the one selected, then CMD13 (10 R278). -/
def State.beginJob (s : State) (p : Nat) (j : LJob) : State :=
  let k := { j with retries := (s.port p).retries }
  if (s.port p).selected = some j.pos then (s.lcmd p 13 (s.rcaArg p j.pos)).ledgerStep p k .status
  else ((s.modPort p fun y => { y with selected := some j.pos }).lcmd p 7 (s.rcaArg p j.pos)).ledgerStep p k .select

/-- Stage 7 of transaction t begins at position a of port p (10 R278). Where the card has gone since stage 5, the job has ended (10 R283). -/
def State.startLedger (s : State) (t p a : Nat) : State :=
  match s.txn t with
  | none => s
  | some x =>
    let j : LJob := { txn := some t, pos := a, write := x.opcode = 0x11, first := (x.dw 13).toNat, count := (x.dw 14).toNat }
    if (s.lp (4 * p + a)).st = .ready then s.beginJob p j else s.ledgerEnd p j 0x34

/-- The mirror command c of position 4p + a is given: a write is prepared, and its blocks are no longer marked changed (10 R287, R289). -/
def State.startMirror (s : State) (p a : Nat) (c : MirrorCmd) : State :=
  let k := 4 * p + a
  let r := if c.kind.writes then s.prepareFrom k c.kind 0 c.count else ([], [], s)
  let s1 := r.2.2.modLp k fun x =>
    { x with
      mq := x.mq.tail
      dirty := match c.kind with | .dataWrite _ i => x.dirty.filter fun b => decide (b < i) || decide (i + c.count ≤ b) | _ => x.dirty }
  (s1.modPort p fun y => { y with lastMirror := true }).beginJob p
    { txn := none, cmd := some c, blocks := r.1, plains := r.2.1, pos := a, write := c.kind.writes, first := c.first, count := c.count }

/-- The next block of the job is confirmed (10 R279, R289). -/
def State.ledgerConfirm (s : State) (p : Nat) (j : LJob) (data : List Byte) : State :=
  match j.txn, j.cmd with
  | none, some c =>
    if j.write then s.mirrorWritten (4 * p + j.pos) c j.confirmed (j.plains.getD j.confirmed [])
    else s.mirrorRead (4 * p + j.pos) c j.confirmed data
  | _, _ => s

/-- CMD18 or CMD25 is open, but for a CMD18 all of whose blocks have come. -/
def LJob.isOpen (j : LJob) : Bool :=
  j.many && (match j.step with | .command => true | .dataIn => true | .token => true | _ => false)

/-- A failure that R280 recovers from, with the status it would end in. -/
def State.ledgerFail (s : State) (p : Nat) (j : LJob) (status : Nat) : State :=
  if !j.sent then s.ledgerEnd p j 0x35
  else if j.retries ≤ j.reissues then s.ledgerEnd p j status
  else
    let k := { j with fail := status }
    if j.isOpen then (s.lcmd p 12 0#32).ledgerStep p k .stop else (s.lcmd p 13 (s.rcaArg p j.pos)).ledgerStep p k (.recover 0)

/-- One CMD13 of a recovery did not show the transfer state: at most three are sent (10 R280). -/
def State.recoverAgain (s : State) (p n : Nat) (j : LJob) : State :=
  if n < 2 then (s.lcmd p 13 (s.rcaArg p j.pos)).ledgerStep p j (.recover (n + 1)) else s.ledgerEnd p j 0x3A

/-- A response with a CRC error, or none in time (10 R280). -/
def State.ledgerNoResponse (s : State) (p : Nat) (j : LJob) : State :=
  match j.step with
  | .final => s.ledgerEnd p j 0
  | .stop => (s.lcmd p 13 (s.rcaArg p j.pos)).ledgerStep p j (.recover 0)
  | .recover n => s.recoverAgain p n j
  | _ => s.ledgerFail p j 0x35

/-- CURRENT_STATE of an R1 is tran. -/
def r1Tran (w : Word) : Bool := fld w 12 9 = 4

/-- An R1 without an error bit: the next command or phase (10 R278, R280). -/
def State.ledgerGood (s : State) (p : Nat) (j : LJob) (w : Word) : State :=
  match j.step with
  | .select => s.ledgerStep p j .selectBusy
  | .status => if r1Tran w then s.ledgerSend p j else s.ledgerEnd p j 0x35
  | .count => s.ledgerData p j
  | .command => if j.write then s.ledgerOut p j else s.ledgerStep p j .dataIn
  | .stop => s.ledgerStep p j .stopBusy
  | .recover n =>
    if r1Tran w then (s.tally (0x2500 + p) 0x16).ledgerSend p { j with reissues := j.reissues + 1 } else s.recoverAgain p n j
  | .final => s.ledgerEnd p j 0
  | _ => s

/-- Whether a step awaits a response. -/
def LStep.awaits : LStep → Bool
  | .select => true | .status => true | .count => true | .command => true | .stop => true | .recover _ => true | .final => true
  | _ => false

/-- A response of the addressed card (10 R278 to R280). -/
def State.ledgerAnswer (s : State) (p : Nat) (j : LJob) (r : LedgerResp) : State :=
  if !j.step.awaits then s
  else match r with
    | .crcError => s.ledgerNoResponse p j
    | .r1 w =>
      if r1Bits w ≠ 0 then s.ledgerEnd p { j with bits := r1Bits w } (if j.sent then 0x3A else 0x35)
      else s.ledgerGood p j w

/-- Lp_CLK stops low, Lp_CMD and Lp_DAT are released, and the cleanup is due 10 ms later (10 R283). -/
def State.ledgerStop (s : State) (p : Nat) : State :=
  s.modPort p fun x => { x with cleanup := some (s.now + 10 * ms), selected := none, clk := some s.now }

/-- Removal of the addressed card (10 R283, Table 10-8): the transfer ends; blocks of a mirror command not confirmed stay marked changed. -/
def State.ledgerRemoved (s : State) (p : Nat) (j : LJob) : State :=
  let s1 := s.ledgerStop p
  match j.txn, j.cmd with
  | none, some c => (s1.modPort p fun x => { x with job := none }).modLp (4 * p + j.pos) fun x => x.unwritten c j.confirmed
  | _, _ => (s1.ledgerEnd p j (if j.confirmed = j.count then 0 else 0x34)).modPort p fun x => { x with clk := some s.now }

end Sys2Proof.Machine
end

