-- ==== Sys2Proof/Machine/Quench.lean ====
section
/-! DEFINITION. Quench triggers, the quench sequence, the discharge arbiter, the seepage monitor, polder temperature and card rails
(03 R65 to R93). -/

namespace Sys2Proof.Machine

/-- The regulator of slot x is on: its ramp has started and step 4 is not reached. -/
def Slot.regOn (x : Slot) : Bool := x.seq.vcc = .ramp || x.seq.vcc = .on

/-- OC_TRIP (03 R78). Log 3. -/
def execOcTrip (i : Fin 64) (s : State) : Host.Outcome State Fault Refusal := if (s.slot i).regOn then nx (s.quench i 2) else nx s

/-- OC_FOLDBACK (03 R78). Log 3. -/
def execOcFoldback (i : Fin 64) (s : State) : Host.Outcome State Fault Refusal := if (s.slot i).regOn then nx (s.quench i 3) else nx s

/-- UNDERVOLTAGE (03 R79): no trigger while the slot's own polder branch of its class rail reads below its falling threshold, `branchLow`, qualified
or not. Log 3. -/
def execUndervoltage (d : Undervolt) (s : State) : Host.Outcome State Fault Refusal :=
  let x := s.slot d.slot
  if x.regOn && x.seq.settled && !d.branchLow then nx (s.quench d.slot 4) else nx s

/-- CLK_READBACK (03 R81). Log 3. -/
def execClkReadback (i : Fin 64) (s : State) : Host.Outcome State Fault Refusal :=
  let x := s.slot i
  if x.regOn && x.seq.settled && x.seq.steps < 2 then nx (s.quench i 5) else nx s

/-- RST_READBACK (03 R81). Log 3. -/
def execRstReadback (i : Fin 64) (s : State) : Host.Outcome State Fault Refusal :=
  let x := s.slot i
  if x.regOn && x.seq.settled && x.seq.steps < 1 then nx (s.quench i 6) else nx s

/-- QUENCH_STEP (03 R68, R69). Log 3, 4. -/
def execQuenchStep (i : Fin 64) (s : State) : Host.Outcome State Fault Refusal :=
  let x := s.slot i
  match x.seq.stepDue with
  | some t =>
    if x.st = .quenching then
      let s1 := s.elapseTo t
      nx (s1.modSlot i fun x => x.doStep s1.now)
    else nx s
  | none => nx s

/-! Discharge (03 R70, R73). -/

/-- ck of the oldest sink request of slot i that waits. -/
def Slot.sinkWaits (x : Slot) : Option Nat := if x.seq.sinkOn.isNone then x.seq.sinkReq else none

/-- The slot whose waiting sink request is oldest; among equals the lowest, so the lowest polder. -/
def State.oldestSink (s : State) : Option (Nat × Nat) :=
  (List.range 64).foldl (fun m i =>
    match (s.slot i).sinkWaits, m with
    | some t, some (t0, j) => if t < t0 then some (t, i) else some (t0, j)
    | some t, none => some (t, i)
    | none, m => m) none

/-- The window of the discharge arbiter in ck: 0.25 µs (03 R70). -/
abbrev sinkWindow : Nat := 120

/-- The sinks of the waiting slots of polder p engage, all in this window. -/
def State.engageSinks (s : State) (p : Nat) : State :=
  let s1 : State := { s with boot := { s.boot with sinkGrant := some s.now } }
  s1.forEach ((List.range 8).map (8 * p + ·)) fun u i =>
    if (u.slot i).sinkWaits.isSome then u.modSlot i fun x => { x with seq := { x.seq with sinkOn := some s.now } } else u

/-- DISCHARGE_GRANT (03 R70): every waiting slot of the polder of the oldest request, one polder in each window. Log 3, 4. -/
def execDischargeGrant (s : State) : Host.Outcome State Fault Refusal :=
  match s.oldestSink with
  | none => nx s
  | some _ =>
    let s1 := s.elapseSince s.boot.sinkGrant sinkWindow
    match s1.oldestSink with
    | none => nx s1
    | some (_, j) =>
      nx (s1.engageSinks (j / 8))

/-- The sinks engaged on a VCC at or above 0.4 V (03 R71). -/
def State.sinks (s : State) : Nat := (s.slots.filter fun e => e.2.seq.vcc = .disch && e.2.seq.sinkOn.isSome).length

/-- The current of the sink of slot i in 0.05 mA: an equal share of 6.4 A, at most 200 mA, set anew with every change of their number (03 R71, R84); 200
mA each where VDDA failed first (03 R86); 0 where it is not engaged. -/
def State.sinkCurrent (s : State) (i : Nat) : Nat :=
  let q := (s.slot i).seq
  if q.vcc = .disch && q.sinkOn.isSome then (if s.boot.vddaFirst then 4000 else min 4000 (128000 / s.sinks)) else 0

/-- DISCH_TIMEOUT (03 R73, R93). Log 3, 4. -/
def execDischTimeout (i : Fin 64) (s : State) : Host.Outcome State Fault Refusal :=
  let x := s.slot i
  match x.seq.sinkOn with
  | some t =>
    if x.seq.vcc = .disch && !x.seq.timedOut && !s.boot.slotHeld then
      nx ((((s.elapseTo (t + ms)).modSlot i fun x =>
        { x with regs := { x.regs with dischTimeout := true }, seq := { x.seq with timedOut := true } }).bump i 12).post 0x11 i 0)
    else nx s
  | none => nx s

/-- SEEP_LEAK (03 R80, R93): VCC reads 0.4 V or more with the regulator off and the sink released, which holds INH_GAP; `qualified`: it has done so for
100 µs. Log 3. -/
def execSeepLeak (l : Leak) (s : State) : Host.Outcome State Fault Refusal :=
  let i := l.slot
  let x := s.slot i
  if x.seq.vcc = .off && !s.boot.slotHeld then
    let s1 := s.modSlot i fun x => { x with seq := { x.seq with leaking := true } }
    if l.qualified && !x.seq.leakSeen then
      nx (((s1.modSlot i fun x => { x with regs := { x.regs with seepLeak := true }, seq := { x.seq with leakSeen := true } }).bump i 13).post 0x12 i 0)
    else nx s1
  else nx s

/-! Polder temperature (03 R82). -/

/-- A sample as POLDER_THERM shows it: two's complement in eight bits, 0x80 kept for no sample. -/
def shownTemp (v : Int) : Int := max (-127) (min 127 v)

/-- The slots of polder p. -/
def polderSlots (p : Nat) : List Nat := (List.range 8).map (8 * p + ·)

/-- The warning of polder p becomes `on` (03 R82). -/
def State.setWarn (s : State) (p : Nat) (on : Bool) (v : Int) : State :=
  let u := s.loop p
  let s0 := if on && u.running && u.depth = 2 then s.abortSlotLoop (8 * p + u.index) else s
  ((s0.modPolder p fun q => { q with warn := on, warnClearAt := if on then q.warnClearAt else s.ltide.toNat }).post 0x13 p (b2n on)
    [BitVec.ofInt 32 (shownTemp v)]).irq 6

/-- TEMP_SAMPLE (03 R82, R91). -/
def execTempSample (p : Fin 8) (celsius : Int) (s : State) : Host.Outcome State Fault Refusal :=
  let q := s.polder p
  let both (f : Int → Bool) : Bool := match q.prevTemp with | some v => f v && f celsius | none => false
  let s1 := s.modPolder p fun q =>
    { q with
      prevTemp := some celsius
      temp := some (shownTemp celsius)
      peak := some (match q.peak with | some v => max v (shownTemp celsius) | none => shownTemp celsius) }
  let s2 := if !q.warn && both (fun v => 115 ≤ v) then s1.setWarn p true celsius
    else if q.warn && both (fun v => v ≤ 110) then s1.setWarn p false celsius else s1
  if both (fun v => 130 ≤ v) then
    let l := (polderSlots p).filter fun i => (s2.slot i).powered
    let s3 := if l.isEmpty then s2 else (s2.modPolder p fun q => { q with hotQuench := true }).tally (0x2300 + p) 6
    nx (s3.forEach l fun s i => s.quench i 7)
  else nx s2

/-- A temperature field of POLDER_THERM. -/
def tempField : Option Int → Nat
  | some v => twos 8 v
  | none => 0x80

/-- POLDER_THERM (03 Table 3-12). -/
def Polder.thermWord (p : Polder) : Word :=
  packed [(25, b2n p.hotQuench), (24, b2n p.warn), (16, tempField p.peak), (0, tempField p.temp)]

/-- A read of POLDER_THERM clears TEMP_PEAK. -/
def State.readTherm (s : State) (p : Nat) : Word × State :=
  ((s.polder p).thermWord, s.modPolder p fun q => { q with peak := none })

/-- POLDER_THERM_READ (03 R91). -/
def execPolderThermRead (_ : Agent) (p : Fin 8) (s : State) : Host.Outcome State Fault Refusal :=
  let r := s.readTherm p
  nx { r.2 with lastRead := r.1 }

/-! Card rails (03 R83, R92). -/

/-- The slots of polder p ramping, on or discharging at a class of the rail. -/
def State.railSlots (s : State) (p : Nat) (high : Bool) : List Nat :=
  (polderSlots p).filter fun i => (s.slot i).powered && (match (s.slot i).seq.cls with | some .a => high | some _ => !high | none => false)

/-- A branch of VCARDH in polder p has stayed below its falling threshold. -/
def execRailH (p : Fin 8) (s : State) : Host.Outcome State Fault Refusal :=
  let s1 := if (s.polder p).highSeen then s else s.irq 5
  let s2 := (if (s.polder p).highLow then s1 else s1.tally (0x2300 + p) 7).modPolder p fun q => { q with highLow := true, highSeen := true }
  nx (s2.forEach (s2.railSlots p true) fun s i => s.quench i 8)

/-- A branch of VCARDL in polder p has stayed below its falling threshold. -/
def execRailL (p : Fin 8) (s : State) : Host.Outcome State Fault Refusal :=
  let s1 := if (s.polder p).lowSeen then s else s.irq 5
  let s2 := (if (s.polder p).lowLow then s1 else s1.tally (0x2300 + p) 8).modPolder p fun q => { q with lowLow := true, lowSeen := true }
  nx (s2.forEach (s2.railSlots p false) fun s i => s.quench i 9)

/-- RAIL_CLEAR (03 R83): the branch has stayed at or above its rising threshold for 1 ms. -/
def execRailClear (rail : CardRail) (p : Fin 8) (s : State) : Host.Outcome State Fault Refusal :=
  nx (s.modPolder p fun q => match rail with
    | .high => if q.highLow then { q with highLow := false, highClearAt := s.ltide.toNat } else q
    | .low => if q.lowLow then { q with lowLow := false, lowClearAt := s.ltide.toNat } else q)

end Sys2Proof.Machine
end

