-- ==== Sys2Proof/Machine/Exchange.lean ====
section
/-! DEFINITION. The commands of the protocol engine: PPS, T=0, T=1, its waits and its exchange limit (06 R153 to R179). -/

namespace Sys2Proof.Machine

/-- Time passes until the local tide reaches v counted from a start that has not wrapped. -/
def State.elapseTideNat (s : State) (v : Nat) : State := if v ≤ s.ltide.toNat then s else s.elapse ((v - s.ltide.toNat) * 30 - s.tide.phase)

/-- PPS_RESPONSE (06 R163, R164). Log 3. -/
def execPpsResponse (i : Fin 64) (s : State) : Host.Outcome State Fault Refusal :=
  let s1 := s.rxFlush i
  if (s1.slot i).inPps then nx (s1.ppsJudge i) else nx s1

/-- PPS_WAIT_EXPIRED (06 Table 6-2, R163). Log 3, 4. -/
def execPpsWaitExpired (i : Fin 64) (s : State) : Host.Outcome State Fault Refusal := nx (s.expired i .pps)

/-- PROCEDURE_BYTE (06 R167, Table 6-6). Log 3. -/
def execProcedureByte (i : Fin 64) (s : State) : Host.Outcome State Fault Refusal := nx ((s.rxFlush i).t0Proc i)

/-- T0_TPDU_END (06 R167 to R169): SW2 is received. Log 3. -/
def execT0TpduEnd (i : Fin 64) (s : State) : Host.Outcome State Fault Refusal := nx ((s.rxFlush i).t0Sw2 i)

/-- WT_EXPIRED (06 Table 6-2, R170). Log 3, 4. -/
def execWtExpired (i : Fin 64) (s : State) : Host.Outcome State Fault Refusal := nx (s.expired i .wt)

/-- T1_BLOCK_RECEIVED (06 R173): the last character of a block is received. Log 3. -/
def execT1BlockReceived (i : Fin 64) (s : State) : Host.Outcome State Fault Refusal := nx ((s.rxFlush i).t1Whole i)

/-- CWT_EXPIRED (06 Table 6-2, R173). Log 3, 4. -/
def execCwtExpired (i : Fin 64) (s : State) : Host.Outcome State Fault Refusal := nx (s.expired i .cwt)

/-- BWT_EXPIRED (06 Table 6-2, R177). Log 3, 4. -/
def execBwtExpired (i : Fin 64) (s : State) : Host.Outcome State Fault Refusal := nx (s.expired i .bwt)

/-- EXCH_LIMIT (06 R157, 11 R315): at the expiry, a response whose last stop sample has been taken is complete. Log 3, 4. -/
def execExchLimit (i : Fin 64) (s : State) : Host.Outcome State Fault Refusal :=
  let x := s.slot i
  let n := fld x.regs.protCfg 30 27
  match x.pr.firstTx with
  | some t =>
    if x.st = .busy && n ≠ 0 && x.pr.mode ≠ .idle then
      let v := t + 2 ^ (n - 1) * 1600000
      let s1 := (s.elapseTideNat v).rxRipe i
      let y := s1.slot i
      if v ≤ s1.ltide.toNat && y.st = .busy && y.pr.mode ≠ .idle && y.pr.firstTx = some t then nx (s1.endInDoubt i 11 true) else nx s1
    else nx s
  | none => nx s

end Sys2Proof.Machine
end

