-- ==== Sys2Proof/Machine/Tide.lean ====
section
/-! DEFINITION. The local tide: its set and discipline, its alarms and its registers (05 R136 to R150). -/

namespace Sys2Proof.Machine

/-- The local tide and phase in ck. -/
def TideUnit.pos (u : TideUnit) : Nat := u.val.toNat * 30 + u.phase

/-- The tide unit at position p, with no slew or pause left. -/
def TideUnit.setPos (u : TideUnit) (p : Nat) : TideUnit :=
  { u with val := BitVec.ofNat 64 (p / 30), phase := p % 30, slew := 0, slewAcc := 0, paused := false, pauseLeft := 0, lastBig := none }

/-- A number held to 32 bits, signed (05 Table 5-12, TIDE_ERR). -/
def sat32 (v : Int) : Int := max (-2147483648) (min 2147483647 v)

/-- The step limit L in ck. -/
def TideUnit.limitCk (u : TideUnit) : Int := u.stepLimit * 30

/-- A 64-bit signed value as two data words, low first. -/
def i64Words (v : Int) : List Word := [lo32 (BitVec.ofInt 64 v), hi32 (BitVec.ofInt 64 v)]

/-- A tide event of 07 Table 7-20 and its interrupt source. -/
def State.tideEvent (s : State) (typ code : Nat) (data : List Word := []) : State := (s.post typ 0 code data).irq 8

/-- A correction within L (05 R141): a phase slew, and a rate trim the spec gives no law for. Log 7. -/
def State.slewTide (s : State) (e : Int) : State :=
  let r : Int := max (-1000000) (min 1000000 (Config.rateTrim s.freeCount))
  { s with
    freeCount := s.freeCount + 1
    tide := { s.tide with
      slew := e, lastBig := none, rate := r, rates := (s.tide.rates ++ [r]).drop (s.tide.rates.length - 15)
      good := if e.natAbs ≤ 3 then s.tide.good + 1 else 0 } }

/-- A forward step of -e ck (05 R141): one tt edge (05 R147). -/
def State.stepTide (s : State) (e : Int) : State :=
  (s.modTide fun u => { u.setPos (u.pos + e.natAbs) with steps := min (u.steps + 1) 255, good := 0, edges := u.edges + 1 }).tideEvent 0x31 0 (i64Words (-e))

/-- A pause of e ck (05 R141). -/
def State.pauseTide (s : State) (e : Int) : State :=
  (s.modTide fun u => { u with paused := true, pauseLeft := e.natAbs, pauses := min (u.pauses + 1) 255, good := 0, lastBig := none, slew := 0, slewAcc := 0 }).tideEvent
    0x32 0 (i64Words (-e))

/-- Corrects the error e in ck (05 R141): a step or pause only where two consecutive corrections call for one in the same
direction and agree within 1 tt. In a pause a correction tells how much is left of it; the reference past, the rest is slewed. -/
def State.correctTide (s : State) (e : Int) : State :=
  let s0 := s.modTide fun u => { u with err := sat32 e }
  let u := s.tide
  if u.paused then s0.modTide fun u => { u with paused := decide (0 < e), pauseLeft := e.toNat, slew := min e 0 }
  else if e.natAbs ≤ u.limitCk.natAbs then s0.slewTide e
  else
    match u.lastBig with
    | some p =>
      if (decide (p < 0) == decide (e < 0)) && (p - e).natAbs ≤ 30 then (if e < 0 then s0.stepTide e else s0.pauseTide e)
      else s0.modTide fun u => { u with lastBig := some e, slew := 0, good := 0 }
    | none => s0.modTide fun u => { u with lastBig := some e, slew := 0, good := 0 }

/-- The expected edges passed when a TIDE_MARK edge is captured at position p: the nearest k of expect + 16,000 k tt (05 R140). -/
def TideUnit.nearest (u : TideUnit) (p : Nat) : Nat :=
  let e := u.expect.getD 0 * 30
  if p < e then 0 else (p - e + 240000) / 480000

/-- The master captures its tide at a TIDE_MARK edge and corrects the error, where the edge is one that counts (05 R140). -/
def State.markTide (s : State) : State :=
  let u := s.tide
  match u.st with
  | .locked | .holdover =>
    let k := u.nearest u.pos
    let x := u.expect.getD 0 + 16000 * k
    let e : Int := (u.pos : Int) - (x * 30 : Nat)
    if e.natAbs ≤ 4800 then
      (s.modTide fun u => { u with st := .locked, ref := u.val, lastAt := s.now, expect := some (x + 16000) }).correctTide e
    else s
  | _ => s.modTide fun u => { u with ref := u.val, lastAt := s.now }

/-- The tide is set from value v to its present one: a running Watchdog keeps what it has counted (11 R298). -/
def State.keepWdogs (s : State) (v : Tide) : State :=
  s.forEach [0, 1, 2, 3] fun s k => s.modCore k fun c => { c with wdogFrom := c.wdogFrom.map fun f => f + (s.ltide - v) }

/-- An armed tide set of value v meets a TIDE_MARK edge (05 R139): the tide takes it, at one tt edge (log 120), or refuses it, and the edge
corrects the tide. A refused set is disarmed, and SET_ERR stands until the next arming write (DESIGN CHOICE, log 122). -/
def State.applySet (s : State) (v : Tide) : State :=
  let s1 := s.modTide fun u => { u with armed := none }
  if v < s.ltide ∧ s.tide.st ≠ .free then ((s1.modTide fun u => { u with setErr := 1 }).tideEvent 0x30 1).markTide
  else (s1.modTide fun u =>
    { u.setPos (v.toNat * 30) with st := .locked, ref := v, expect := some (v.toNat + 16000), lastAt := s.now, good := 0, edges := u.edges + 1 }).keepWdogs s.ltide

/-- TIDE_MARK_EDGE (05 R126, R138 to R140, R146), dt ck from now. It captures on every timer; a member's tide ignores it. -/
def execTideMarkEdge (dt : Nat) (s : State) : Host.Outcome State Fault Refusal :=
  let s1 := (s.elapse dt).captureAll 5
  if !Config.ringMaster then nx s1
  else match s1.tide.armed with
    | some v => nx (s1.applySet v)
    | none => nx s1.markTide

/-- TIDE_HOLDOVER (05 R138): 64,000 tt without an edge or a valid frame. Log 3, 4. -/
def execTideHoldover (s : State) : Host.Outcome State Fault Refusal :=
  match s.tide.st with
  | .locked | .acquiring =>
    nx ((s.elapseTo (s.tide.lastAt + 1920000)).modTide fun u =>
      { u with st := .holdover, slew := 0, slewAcc := 0, good := 0, lastBig := none, rejecting := false,
               rate := if u.rates.isEmpty then 0 else u.rates.foldl (· + ·) 0 / u.rates.length })
  | _ => nx s

/-- TIDE_PAUSE_END (05 R141). Log 3, 4. -/
def execTidePauseEnd (s : State) : Host.Outcome State Fault Refusal :=
  if s.tide.paused then
    let s1 := s.elapse s.tide.pauseLeft
    nx (s1.modTide fun u => { u with paused := false, pauseLeft := 0 })
  else nx s

/-- A tide frame shows a member the error e in ck (05 R138, R141, R143). The correction that loads the tide in FREE is one tt edge (log 120) and
counts among the 16 within 3 ck (DESIGN CHOICE, log 122). -/
def State.memberTide (s : State) (e : Int) : State :=
  let s0 := s.modTide fun u => { u with lastAt := s.now }
  let used := s0.modTide fun u => { u with ref := u.val }
  match s.tide.st with
  | .free =>
    (used.modTide fun u =>
      { u.setPos ((u.pos : Int) - e).toNat with
        st := .acquiring, err := sat32 e, good := if e.natAbs ≤ 3 then 1 else 0, edges := u.edges + 1 }).keepWdogs s.ltide
  | .holdover =>
    if s.tide.rejecting && 480000 < e.natAbs then s0
    else if !s.tide.rejecting && 480000 < e then
      (s0.modTide fun u => { u with reject := true, rejecting := true }).tideEvent 0x33 0 (i64Words (e / 30))
    else (used.modTide fun u => { u with st := .locked, rejecting := false }).correctTide e
  | _ =>
    (used.correctTide e).modTide fun u => if u.st = .acquiring ∧ 16 ≤ u.good then { u with st := .locked } else u

/-! Registers (05 Tables 5-12 to 5-14). -/

/-- A read of TIDE_NOW_LO (05 R137): latches TIDE_NOW_HI and PHASE for the agent. -/
def State.readTideNow (s : State) (ag : Agent) : Word × State :=
  (lo32 s.ltide, (s.setLatch ag 0x4804 (hi32 s.ltide)).setLatch ag 0x50000 (BitVec.ofNat 32 s.tide.phase))

/-- TIDE_NOW_READ (05 R137). -/
def execTideNowRead (ag : Agent) (s : State) : Host.Outcome State Fault Refusal :=
  let r := s.readTideNow ag
  nx { r.2 with lastRead := r.1 }

/-- A write of TIDE_SET_HI (05 R139): on a member it is refused. Arming returns SET_ERR to NONE (DESIGN CHOICE, log 122). -/
def State.writeTideSetHi (s : State) (ag : Agent) (v : Word) : State :=
  s.granted ag 1 fun s =>
    if Config.ringMaster then
      s.modTide fun u => { u with setReg := cat64 v (lo32 u.setReg), armed := some (cat64 v (lo32 u.setReg)), setErr := 0 }
    else (s.modTide fun u => { u with setErr := 2 }).tideEvent 0x30 2

/-- TIDE_SET_HI_WRITE (05 R139). -/
def execTideSetHiWrite (ag : Agent) (v : Word) (s : State) : Host.Outcome State Fault Refusal := nx (s.writeTideSetHi ag v)

/-- A write of TIDE_CTRL (05 R150): a STEP_LIMIT of 0 refuses it silently. -/
def State.writeTideCtrl (s : State) (ag : Agent) (w : Word) : State :=
  s.granted ag 1 fun s =>
    if fld w 15 0 = 0 then s
    else s.modTide fun u => { u with stepLimit := fld w 15 0, armed := if bitOf w 16 then none else u.armed }

/-- TIDE_CTRL CANCEL_SET (05 R139). -/
def execCancelSet (ag : Agent) (w : Word) (s : State) : Host.Outcome State Fault Refusal := nx (s.writeTideCtrl ag (w ||| 0x10000#32))

/-- A write of TALARM_n_HI arms alarm n (05 R144). -/
def State.writeAlarmHi (s : State) (ag : Agent) (n : Nat) (v : Word) : State :=
  s.granted ag 1 fun s => s.modTide fun u =>
    let a := cat64 v (lo32 (u.alarms.getD n 0#64))
    { u with alarms := u.alarms.set n a, alarmArmed := u.alarmArmed.set n (some a) }

/-- TALARM_HI_WRITE (05 R144). -/
def execTalarmHiWrite (ag : Agent) (n : Fin 8) (v : Word) (s : State) : Host.Outcome State Fault Refusal := nx (s.writeAlarmHi ag n v)

/-- A write of TALARM_CTRL: CANCEL in [7:0], FIRED write 1 to clear in [23:16]. -/
def State.writeAlarmCtrl (s : State) (ag : Agent) (w : Word) : State :=
  s.granted ag 1 fun s => s.modTide fun u =>
    { u with
      alarmArmed := (List.range 8).map fun n => if bitOf w n then none else u.alarmArmed.getD n none
      fired := maskOf ((List.range 8).map fun n => u.fired / 2 ^ n % 2 = 1 && !bitOf w (16 + n)) }

/-- TALARM_CTRL CANCEL (05 R144). -/
def execCancel (ag : Agent) (w : Word) (s : State) : Host.Outcome State Fault Refusal := nx (s.writeAlarmCtrl ag w)

/-- TALARM_DUE (05 R144, R145). Log 3, 4. -/
def execTalarmDue (n : Fin 8) (s : State) : Host.Outcome State Fault Refusal :=
  match s.tide.alarmArmed.getD n none with
  | none => nx s
  | some v =>
    if s.alarmBy (s.dueAt v) n then nx s
    else
      let s1 := s.elapseTide v
      if v ≤ s1.ltide then
        let s2 := s1.modTide fun u =>
          { u with
            alarmArmed := u.alarmArmed.set n none
            fired := maskOf ((List.range 8).map fun j => u.fired / 2 ^ j % 2 = 1 || j = n.val) }
        nx ((s2.line (16 + n.val)).alarmTriggers n.val)
      else nx s1

/-- TIDE_STATUS (05 Table 5-14), with the PHASE the agent has latched. -/
def State.tideStatus (s : State) (ag : Agent) : Word :=
  let u := s.tide
  packed [(24, u.steps), (16, u.pauses), (11, (s.latch ag 0x50000).toNat), (10, b2n u.reject), (8, u.setErr), (7, b2n u.armed.isSome),
    (6, b2n u.paused), (5, b2n (u.slew ≠ 0)), (4, b2n Config.ringMaster), (0, u.st.code)]

/-- A read of register off of the tide block (05 Table 5-12). -/
def State.readTide (s : State) (ag : Agent) (off : Nat) : Word × State :=
  let u := s.tide
  match off with
  | 0x00 => s.readTideNow ag
  | 0x04 => (s.latch ag 0x4804, s)
  | 0x08 => (lo32 u.setReg, s.setLatch ag 0x480C (hi32 u.setReg))
  | 0x0C => (s.latch ag 0x480C, s)
  | 0x10 => (BitVec.ofNat 32 u.stepLimit, s)
  | 0x14 => (s.tideStatus ag, s)
  | 0x18 => (lo32 u.ref, s.setLatch ag 0x481C (hi32 u.ref))
  | 0x1C => (s.latch ag 0x481C, s)
  | 0x20 => (BitVec.ofInt 32 u.err, s)
  | 0x24 => (BitVec.ofInt 32 u.rate, s)
  | 0x80 =>
    (packed [(16, u.fired), (8, maskOf ((List.range 8).map fun n => (u.alarmArmed.getD n none).isSome))], s)
  | _ =>
    if 0x40 ≤ off ∧ off < 0x80 then
      let a := u.alarms.getD ((off - 0x40) / 8) 0#64
      if off % 8 = 0 then (lo32 a, s.setLatch ag (0x4800 + off + 4) (hi32 a)) else (s.latch ag (0x4800 + off), s)
    else (0#32, s)

/-- A write of register off of the tide block. -/
def State.writeTide (s : State) (ag : Agent) (off : Nat) (w : Word) : State :=
  match off with
  | 0x08 => s.granted ag 1 fun s => s.modTide fun u => { u with setReg := cat64 (hi32 u.setReg) w }
  | 0x0C => s.writeTideSetHi ag w
  | 0x10 => s.writeTideCtrl ag w
  | 0x14 => s.granted ag 1 fun s => s.modTide fun u => { u with reject := u.reject && !bitOf w 10 }
  | 0x80 => s.writeAlarmCtrl ag w
  | _ =>
    if 0x40 ≤ off ∧ off < 0x80 then
      if off % 8 = 0 then
        s.granted ag 1 fun s => s.modTide fun u =>
          { u with alarms := u.alarms.set ((off - 0x40) / 8) (cat64 (hi32 (u.alarms.getD ((off - 0x40) / 8) 0#64)) w) }
      else s.writeAlarmHi ag ((off - 0x40) / 8) w
    else s.granted ag 1 id

end Sys2Proof.Machine
end

