-- ==== Sys2Proof/Machine/Journal.lean ====
section
/-! DEFINITION. Dispatch and the journal: reservation of slots, intent and outcome records, start of an exchange, recovery
(01 R13 to R32, 07 R208 to R215, 11 R310, R313). -/

namespace Sys2Proof.Machine

/-! Journal records. -/

/-- The records the journal holds, with their positions. -/
def State.records (s : State) : List (Nat × JRec) := s.mram.journal.filterMap fun e => e.2.map fun r => (e.1, r)

/-- Whether record r is protected (07 R210). -/
def State.protects (s : State) (r : JRec) : Bool :=
  if r.outcome then s.flow.unwritten.contains r.seq || s.records.any fun e => !e.2.outcome && e.2.seq = r.intentSeq
  else !s.records.any fun e => e.2.outcome && e.2.intentSeq = r.seq

/-- The first position from p on, in ascending order with wrap, that no record protects (07 R210); within 2,117 positions. -/
def State.freePos (s : State) : Nat → Nat → Nat
  | 0, p => p % 8192
  | n + 1, p =>
    match tget none s.mram.journal (p % 8192) with
    | some r => if s.protects r then s.freePos n (p + 1) else p % 8192
    | none => p % 8192

/-- The highest SEQ of an intent record (07 R212). -/
abbrev seqLimit : Nat := 2 ^ 48 - 1025

/-- The journal is saturated: no further intent record may take a SEQ (07 R212). -/
def State.saturated (s : State) : Bool := seqLimit < s.flow.jNext

/-- Commits a record at the next position with the next SEQ (07 R210 to R212). -/
def State.commitRec (s : State) (r : JRec) : State :=
  let p := s.freePos 2200 (s.flow.jPos + 1)
  let s0 : State := { s with
    mram := { s.mram with
      journal := tset none s.mram.journal p (some { r with seq := s.flow.jNext }), bad := s.mram.bad.filter fun n => n / 16 ≠ p }
    flow := { s.flow.burst 2 with jNext := s.flow.jNext + 1, jPos := p } }
  let s1 := (s0.tally 0x2800 4 1 true).markChanged 1 (p / 3)
  if s1.saturated && !s1.dev.jsat then
    ((s1.modDev fun d => { d with jsat := true }).post 0x43 0 0 [BitVec.ofNat 32 s1.flow.jNext, BitVec.ofNat 32 (s1.flow.jNext / 2 ^ 32)]).irq 2
  else s1

/-- TARGET of a record (07 Table 7-17). -/
def Txn.recTarget (x : Txn) : Word :=
  match x.target with
  | .set k => BitVec.ofNat 32 (0x80000000 + k)
  | _ => x.dw 3

/-- SLOTS of a record (07 Table 7-17). -/
def slotMask (l : List Nat) : BitVec 64 := l.foldl (fun m i => m ||| (1#64 <<< i)) 0#64

/-- The intent record of transaction x (07 Table 7-17). -/
def State.intentRec (s : State) (x : Txn) : JRec :=
  { seq := 0, outcome := false, tag := x.tag, qp := x.qp, opcode := x.opcode, flags := fld (x.dw 0) 15 8, session := x.dw 2, tide := s.ltide,
    slots := slotMask x.slots, target := x.recTarget, cmdLen := x.cmdLen, deadline := x.deadline, cmd := x.cmd.take 64 }

/-- The outcome record of transaction x with outcome o. -/
def Txn.outcomeRec (x : Txn) (o : Outcome) : JRec :=
  { seq := 0, outcome := true, tag := x.tag, qp := x.qp, opcode := x.opcode, flags := fld (x.dw 0) 15 8, session := x.dw 2, tide := o.tide,
    slots := slotMask x.slots, target := x.recTarget, intentSeq := x.intentSeq.getD 0, o := { o with resp := o.resp.take 24 } }

/-! Dispatch (01 R20). -/

/-- Slot i is free for a new transaction: READY or CLOCKSTOP, no holder, nothing pending, its script's core running (11 R313). -/
def State.slotFree (s : State) (i : Nat) : Bool :=
  let x := s.slot i
  (x.st = .ready || x.st = .clockstop) && x.holder.isNone && !x.seq.warmPend && !x.seq.deactPend && !x.seq.warmAfterRestart &&
    (match s.boundCore i with | some k => s.coreRuns k | none => true)

/-- Whether some transaction of the same pair and session, fetched before x, has not reached stage 6 (01 R20 rule 1). -/
def State.elder (s : State) (x : Txn) : Bool :=
  s.txnList.any fun e => e.2.qp = x.qp && e.2.dw 2 = x.dw 2 && e.2.fetchNo < x.fetchNo &&
    (e.2.stage = .check || e.2.stage = .gather || e.2.stage = .wait)

/-- Whether a card-set transaction that reached stage 5 before x waits for slot i (01 R20 rule 3). -/
def State.setBefore (s : State) (x : Txn) (i : Nat) : Bool :=
  s.txnList.any fun e => e.2.stage = .wait && e.2.arriveNo < x.arriveNo && (match e.2.target with | .set k => (s.cset k).serving.contains i | _ => false)

/-- Whether transaction x may be dispatched to slot i now. -/
def State.canStart (s : State) (x : Txn) (i : Nat) : Bool :=
  x.stage = .wait && s.waitsFor x i && !s.elder x &&
    (match x.target with
     | .set k => (s.cset k).serving.all s.slotFree
     | _ => s.slotFree i && !s.setBefore x i)

/-- The next transaction for slot i: one from each queue pair in turn, after the pair served last (01 R20 rules 1 and 2); before any has been
served, from pair 0 on (DESIGN CHOICE, log 124). -/
def State.pick (s : State) (i : Nat) : Option Nat :=
  let l := s.txnList.filter fun e => s.canStart e.2 i
  let last := (s.slot i).lastQp
  let key (e : Nat × Txn) : Nat := (if last < e.2.qp then e.2.qp else e.2.qp + 512) * 2 ^ 64 + e.2.fetchNo
  (l.foldl (fun m e => match m with | some a => if key e < key a then some e else some a | none => some e) none).map (·.1)

/-- Reserves slot i for transaction t of pair q; a bound slot in NORMAL mode goes to RAW (01 R20, 11 R310). -/
def State.reserve (s : State) (t q i : Nat) : State :=
  let b := (s.boundCore i).isSome
  s.modSlot i fun x =>
    { x with holder := some t, lastQp := q, regs := if b then { x.regs with charCfg := setFld x.regs.charCfg 31 30 1 } else x.regs }

/-- SLOT_DISPATCH (01 R20, 08 R241). Log 3. -/
def execSlotDispatch (i : Fin 64) (s : State) : Host.Outcome State Fault Refusal :=
  match s.pick i with
  | none => nx s
  | some t =>
    match s.txn t with
    | none => nx s
    | some x =>
      match x.target with
      | .set k =>
        if (s.cset k).diverged then nx (s.endEarly t 0x23)
        else
          let l := (s.cset k).serving
          let s1 := s.modTxn t fun x => { x with stage := .intent, slots := l, smSsc := (s.session x.sess).ssc, rounds := { lead := (s.cset k).lead } }
          nx (s1.forEach l fun s j => s.reserve t x.qp j)
      | _ => nx ((s.modTxn t fun x => { x with stage := .intent, slots := [i.val], smSsc := (s.session x.sess).ssc }).reserve t x.qp i)

/-! Start of an exchange. -/

/-- The command goes to the engine or script of slot i once no wrap is awaited (06, 11 R313). -/
def State.sendCommand (s : State) (i : Nat) (cmd : List Byte) : State :=
  let x := s.slot i
  if x.pr.mode = .script then (if x.st = .busy then s.handOver i cmd else s) else s.modSlot i fun x => x.startProto cmd

/-- Stage 7 begins on slot i for transaction t (01 R14, Table 1-1, 06 R186, 11 R313). -/
def State.startExchange (s : State) (t i : Nat) : State :=
  match s.txn t with
  | none => s
  | some n =>
    let sm := s.isSm t
    let mode := if (s.boundCore i).isSome then ProtMode.script else if (s.slot i).pr.proto = 0 then .t0 else .t1
    let s1 := ((s.restartClock i).tally (0x2200 + i) 0x38 1 true).modSlot i fun x =>
      { x with
        st := if x.st = .ready then .busy else x.st
        pr := { x.pr with mode := mode, gate := true, smWait := sm, sent := 0, firstTx := none } }
    if sm then s1.askLane t else s1.sendCommand i n.cmd

/-! Card-set rounds. -/

/-- Runs a round of transaction t of set k on positions T (08 R234 to R236). -/
def State.runRound (s : State) (t k : Nat) (tg : List Nat) : State :=
  let c := s.cset k
  let s1 := s.modRounds t fun n =>
    { n with targets := tg, running := tg, asMember := tg.filter (fun p => c.at p = .member), outLast := [],
             fresh := n.fresh.filter (fun p => !tg.contains p) }
  (s1.tally (0x2400 + k) 0x08 1 true).forEach tg fun s p => s.startExchange t (c.slotOf p)

/-- The MEMBER positions, with the RESERVE positions where the command is STATE_CHANGING (08 R236). -/
def State.roundTargets (s : State) (x : Txn) (k : Nat) : List Nat :=
  (s.cset k).which .member ++ (if x.changing then (s.cset k).which .reserve else [])

/-- INTENT_COMMIT (01 R14, R15, R22, 06 R186, 07 R212): the deadline check, the limit of SSC, the intent record, and stage 7. Log 3. -/
def execIntentCommit (t : Fin 1024) (s : State) : Host.Outcome State Fault Refusal :=
  match s.txn t with
  | none => nx s
  | some x =>
    if x.stage ≠ .intent || !s.flow.outq.isEmpty then nx s
    else if x.deadline ≠ 0#64 ∧ x.deadline < s.ltide then nx ((s.endEarly t 0x10).actPendAll)
    else if x.sm ∧ 0xFFFFFFFFFFFFFFFE#64 ≤ x.smSsc then nx ((s.endEarly t 0x09).actPendAll)
    else if s.saturated then nx ((s.endEarly t 0x11).actPendAll)
    else
      let seq := s.flow.jNext
      let s1 := (s.commitRec (s.intentRec x)).modTxn t fun x => { x with stage := .exch, intentSeq := some seq }
      match x.target with
      | .set k => nx (s1.runRound t k (if x.noCompare then [x.rounds.lead].filter (fun p => (s1.cset k).at p = .member) else s1.roundTargets x k))
      | .slot i => nx (s1.startExchange t i)
      | .ledger p a => nx (s1.startLedger t p a)
      | .none => nx s1

/-- OUTCOME_COMMIT (01 R17, R22, 07 R209): the oldest requested outcome record. Log 3. -/
def execOutcomeCommit (t : Fin 1024) (s : State) : Host.Outcome State Fault Refusal :=
  match s.flow.outq, s.txn t with
  | h :: r, some x =>
    match x.outDone with
    | some o =>
      if h = t.val then
        let seq := s.flow.jNext
        let s1 : State := s.commitRec (x.outcomeRec o)
        let s2 : State := { s1 with flow := { s1.flow with outq := r, unwritten := s1.flow.unwritten ++ [seq] } }
        nx (s2.modTxn t fun x => { x with stage := .complete, jseq := seq })
      else nx s
    | none => nx s
  | _, _ => nx s

/-! Recovery at a start (01 R28, 07 R213, 08 R242). -/

/-- The orphan intents, in sequence order (01 R28). -/
def State.orphanList (s : State) : List JRec :=
  let rs := s.records.map (·.2)
  let l := rs.filter fun r => !r.outcome && !rs.any fun o => o.outcome && o.intentSeq = r.seq
  l.foldl (fun acc r => (acc.filter fun a => a.seq < r.seq) ++ [r] ++ acc.filter fun a => r.seq < a.seq) []

/-- The outcome record of an orphan intent: IN_DOUBT, RECOVERED (07 R213). -/
def orphanOutcome (r : JRec) (tide : Tide) : JRec :=
  { r with outcome := true, tide := tide, cmdLen := 0, deadline := 0#64, cmd := [], intentSeq := r.seq, o := { cls := .inDoubt, status := 0x92, tide := tide } }

/-- SUSPECT and DIVERGED of the set an orphan state-changing intent names, by the persisted map of the set (08 R242). -/
def State.orphanSet (s : State) (r : JRec) : State :=
  if bitOf r.target 31 && r.flags / 2 % 2 = 1 then
    let k := fld r.target 4 0
    let m := s.dictNum (0x2400 + k) 1 0
    let c : CardSet := { mapLo := BitVec.ofNat 32 m, mapHi := BitVec.ofNat 32 (m / 2 ^ 32) }
    let sus := maskOf ((List.range 6).map fun p => (s.cset k).suspect / 2 ^ p % 2 = 1 || (c.used p && r.slots.getLsbD (c.slotOf p)))
    let s1 : State := { s with mram := { s.mram with sets := tset {} s.mram.sets k { tget {} s.mram.sets k with diverged := true } } }
    ((s1.modSet k fun c => { c with diverged := true, suspect := sus }).post 0x53 k 2 [BitVec.ofNat 32 sus]).irq 15
  else s

end Sys2Proof.Machine
end

