-- ==== Sys2Proof/Machine/Sm.lean ====
section
/-! DEFINITION. Secure messaging: the wrap of a command and the unwrap of a response (06 R186). -/

namespace Sys2Proof.Machine

/-- K_enc and K_mac of the pair a reference names. -/
def State.smKeys (s : State) (r : Word) : BitVec 256 × BitVec 256 :=
  let k := (s.secret r.toNat).key
  (keyOfBytes (k.take 32), keyOfBytes (k.drop 32))

/-- The initial counter block of an SSC (06 R186 step 2). -/
def smCounter (ssc : BitVec 64) : BitVec 128 := ssc ++ 0#64

/-- CLA with its secure-messaging indication set (06 R186 step 3). -/
def claSm (c : Byte) : Byte := if c.toNat < 0x20 then c ||| 0x0C#8 else c ||| 0x20#8

/-- The data D of a command of 06 Table 6-5. -/
def apduData (l : List Byte) : List Byte :=
  match apduCase l with
  | some (3, b) => (l.drop 5).take b.toNat
  | some (4, b) => (l.drop 5).take b.toNat
  | _ => []

/-- The wrapped command (06 R186 steps 2 to 5) at the new SSC. -/
def smWrap (enc mac : BitVec 256) (ssc : BitVec 64) (cmd : List Byte) : List Byte :=
  let c := aesCtr enc (smCounter ssc) (apduData cmd)
  let head := [claSm (byteAt cmd 0), byteAt cmd 1, byteAt cmd 2, byteAt cmd 3]
  let t := (aesCmac mac (beBytes ssc.toNat 8 ++ head ++ c)).take 8
  head ++ [BitVec.ofNat 8 (c.length + 8)] ++ c ++ t ++ [0#8]

/-- The plain response at the new SSC, none where the MAC or the length is wrong (06 R186). -/
def smUnwrap (enc mac : BitVec 256) (ssc : BitVec 64) (r : List Byte) : Option (List Byte) :=
  let n := r.length
  let c := r.take (n - 10)
  let t := (r.drop (n - 10)).take 8
  let sw := r.drop (n - 2)
  if n = 2 then some r
  else if n < 10 then none
  else if t = (aesCmac mac (beBytes ssc.toNat 8 ++ c ++ sw)).take 8 then some (aesCtr enc (smCounter ssc) c ++ sw)
  else none

/-- The slot on which single-slot transaction x runs. -/
def Txn.slot? (x : Txn) : Option Nat := match x.target with | .slot i => some i | _ => none

/-- Transaction t awaits a wrap: its exchange has the slot, and its command is not sent. -/
def State.wantsWrap (s : State) (t : Nat) : Bool :=
  match s.txn t with
  | some x =>
    (match x.slot? with
     | some i => x.stage = .exch && (s.slot i).holder = some t && (s.slot i).pr.smWait && (s.slot i).pr.mode ≠ .idle
     | none => false)
  | none => false

/-- Transaction t awaits an unwrap: its complete response is received. -/
def State.wantsUnwrap (s : State) (t : Nat) : Bool :=
  match s.txn t with
  | some x => x.stage = .exch && x.slot?.isSome && !x.wrapped.isEmpty
  | none => false

/-- The transaction whose wrap or unwrap the symmetric lane serves next: the oldest request (16 R431). -/
def State.laneNext (s : State) : Option Nat := s.crypto.asked.find? fun t => s.wantsWrap t || s.wantsUnwrap t

/-- The symmetric lane serves secure messaging for transaction t: no audit hash has waited 1 ms, and no request is older (16 R431). -/
def State.laneServes (s : State) (t : Nat) : Bool := !s.auditLate && s.laneNext = some t

/-- The session of transaction x, while it is open, takes an SSC. -/
def State.putSsc (s : State) (x : Txn) (ssc : BitVec 64) : State :=
  match s.lookup (x.dw 2) with
  | some k => s.setSession k { s.session k with ssc := ssc }
  | none => s

/-- SM_WRAP (06 R186, 16 R431): the crypto lane completes the wrap. Log 3, 141. -/
def execSmWrap (t : Fin 1024) (s : State) : Host.Outcome State Fault Refusal :=
  match s.txn t with
  | none => nx s
  | some x =>
    match x.slot? with
    | none => nx s
    | some i =>
      if s.wantsWrap t && s.laneServes t then
        let ssc := x.smSsc + 1
        let k := s.smKeys x.smKey
        let w := smWrap k.1 k.2 ssc x.cmd
        let s1 := (s.putSsc x ssc).modTxn t fun x => { x with cmd := w, sscOld := some x.smSsc, smSsc := ssc }
        nx ((s1.modSlot i fun y => { y with pr := { y.pr with smWait := false } }).sendCommand i w)
      else nx s

/-- A secure-messaging failure (06 R186, R188): IN_DOUBT with SM_MAC, the received response its evidence, the session closed. -/
def State.smFail (s : State) (t i : Nat) (x : Txn) (held : Bool) : State :=
  let m : MemberResp := { done := false, resp := x.wrapped, status := 0x8C, cause := 0, sent := (s.slot i).pr.sent, cls := .inDoubt }
  let s1 := s.bump i 33
  let s2 := if held then s1.endExchange i 12 m false
    else s1.requestOutcome t { cls := .inDoubt, status := 0x8C, respLen := x.wrapped.length, sentLen := x.smSent, resp := x.wrapped }
  match s2.lookup (x.dw 2) with
  | some k => s2.closeSession k
  | none => s2

/-- SM_UNWRAP (06 R186, 16 R431): the crypto lane completes the MAC check and the decryption of a complete response. Log 3, 141. -/
def execSmUnwrap (t : Fin 1024) (s : State) : Host.Outcome State Fault Refusal :=
  match s.txn t with
  | none => nx s
  | some x =>
    match x.slot? with
    | none => nx s
    | some i =>
      if !(s.wantsUnwrap t && s.laneServes t) then nx s
      else
        let held := (s.slot i).holder = some t.val
        let k := s.smKeys x.smKey
        let ssc := if x.wrapped.length = 2 then x.smSsc else x.smSsc + 1
        let s0 := s.putSsc x ssc
        match smUnwrap k.1 k.2 ssc x.wrapped with
        | some r =>
          if held then
            nx (s0.endExchange i 1 { done := true, resp := r, status := 0, cause := 0, sent := (s.slot i).pr.sent, cls := .done } false)
          else nx (s0.requestOutcome t { cls := .done, status := 0, respLen := r.length, sentLen := x.smSent, resp := r })
        | none => nx (s0.smFail t i x held)

end Sys2Proof.Machine
end

