-- ==== Sys2Proof/Machine/Queue.lean ====
section
/-! DEFINITION. Queue pairs, fetch, the checks of stages 3 and 4, sessions opened and closed by the host (06 R180 to R186, 07 R193 to
R204, 08 R240, R241). -/

namespace Sys2Proof.Machine

/-! Queue pairs (07 R193 to R197). -/

/-- Entries of the submission ring. -/
def QPair.sqSize (x : QPair) : Nat := fld x.size 11 0 + 1
/-- Entries of the completion ring. -/
def QPair.cqSize (x : QPair) : Nat := fld x.size 27 16 + 1
/-- The home path. -/
def QPair.home (x : QPair) : Path := pathOf (bitOf x.cfg 29)
/-- QP_CFG.IRQ_EN. -/
def QPair.irqEn (x : QPair) : Bool := bitOf x.cfg 31
/-- QP_CFG.PAIRED. -/
def QPair.paired (x : QPair) : Bool := bitOf x.cfg 30
/-- QP_CFG.SPILL_QUOTA. -/
def QPair.quota (x : QPair) : Nat := fld x.cfg 28 18
/-- QP_CFG.FETCH_MAX. -/
def QPair.fetchMax (x : QPair) : Nat := fld x.cfg 15 9
/-- QP_CFG.MIRROR. -/
def QPair.mirror (x : QPair) : Nat := fld x.cfg 8 0
/-- Completions outstanding in the ring (07 R195). -/
def QPair.outstanding (x : QPair) : Nat := (x.cqTail + x.cqSize - x.cqHead) % x.cqSize
/-- ENABLED or SUSPENDED. -/
def QPair.live (x : QPair) : Bool := x.st = .enabled || x.st = .suspended

/-- The mirror of a joined queue pair (07 R217). -/
def State.joined (s : State) (q : Nat) : Option Nat :=
  let x := s.qp q
  let y := s.qp x.mirror
  if x.live && y.live && x.paired && y.paired && y.mirror = q && x.home ≠ y.home then some x.mirror else none

/-- The transactions of pair q in the table. -/
def State.txnsOf (s : State) (q : Nat) : List (Nat × Txn) := s.txnList.filter fun e => e.2.qp = q

/-- Transaction x has not reached stage 6. -/
def Txn.early (x : Txn) : Bool := x.stage = .check || x.stage = .gather || x.stage = .wait

/-- Ends the transactions of pair q that have not reached stage 6 (07 Table 7-10, R218). -/
def State.endEarlyOf (s : State) (q status : Nat) : State :=
  (s.forEach (((s.txnsOf q).filter fun e => e.2.early).map (·.1)) fun s t => s.endEarly t status).actPendAll

/-- A DRAINING pair whose last completion is written becomes DISABLED; STALLED clears when no completion of the pair is held
(07 Table 7-10, R221). -/
def State.settleQp (s : State) (q : Nat) : State :=
  let x := s.qp q
  let x1 := if x.stalled && !(s.txnsOf q).any (·.2.held) then { x with stalled := false } else x
  let x2 := if x1.st = .draining && (s.txnsOf q).isEmpty && !s.flow.spill.any (fun e => e.qp = q) then { x1 with st := .disabled } else x1
  s.modQp q fun _ => x2

/-- Sets QP_STATUS.CMD_ERR. -/
def State.qpErr (s : State) (q : Nat) (e : CmdErr) : State := s.modQp q fun x => { x with cmdErr := e }

/-- DISABLE (07 Table 7-10). -/
def State.disableQp (s : State) (q : Nat) : State :=
  ((s.modQp q fun x => { x with st := .draining }).endEarlyOf q 0x13).settleQp q

/-- A QP_CTRL command on a pair: the CMD_ERR and the state after (07 R194). -/
def State.qpCommand (s : State) (q : Nat) (w : Word) : CmdErr × State :=
  let x := s.qp q
  if bitOf w 0 then
    if x.st ≠ .disabled then (.state, s)
    else match s.loginRole x.login with
      | none => (.value, s)
      | some r =>
        (.none, s.modQp q fun x =>
          { x with sqHead := 0, sqTail := 0, cqHead := 0, cqTail := 0, cqPhase := true, role := r, checkpoint := none, stalled := false, st := .enabled })
  else if bitOf w 1 then (if x.live then (.none, s.disableQp q) else (.state, s))
  else if bitOf w 2 || bitOf w 3 then
    if x.st ≠ .suspended || !s.linkUp x.home then (.state, s)
    else if bitOf w 3 && x.sqSize ≤ fld w 31 16 then (.value, s)
    else (.none, s.modQp q fun x => { x with st := .enabled, sqHead := if bitOf w 3 then fld w 31 16 else x.sqHead })
  else (.none, s)

/-- A write of QP_CTRL (07 Table 7-8): more than one command is MULTIPLE. -/
def State.writeQpCtrl (s : State) (q : Nat) (w : Word) : State :=
  if 1 < b2n (bitOf w 0) + b2n (bitOf w 1) + b2n (bitOf w 2) + b2n (bitOf w 3) then s.qpErr q .multiple
  else
    let r := s.qpCommand q w
    r.2.qpErr q r.1

/-- QP_CTRL ENABLE. -/
def execQpEnable (_ : Agent) (q : Fin 512) (w : Word) (s : State) : Host.Outcome State Fault Refusal := nx (s.writeQpCtrl q (w ||| 1#32))
/-- QP_CTRL DISABLE. -/
def execQpDisable (_ : Agent) (q : Fin 512) (w : Word) (s : State) : Host.Outcome State Fault Refusal := nx (s.writeQpCtrl q (w ||| 2#32))
/-- QP_CTRL RESUME. -/
def execResume (_ : Agent) (q : Fin 512) (w : Word) (s : State) : Host.Outcome State Fault Refusal := nx (s.writeQpCtrl q (w ||| 4#32))
/-- QP_CTRL RESUME_AT. -/
def execResumeAt (_ : Agent) (q : Fin 512) (w : Word) (s : State) : Host.Outcome State Fault Refusal := nx (s.writeQpCtrl q (w ||| 8#32))

/-- Sets DB_ERR of pair q. -/
def State.dbErr (s : State) (q : Nat) : State := (s.tally (0x4000 + q) 7).modQp q fun x => { x with dbErr := true }

/-- A SQ_TAIL doorbell (07 R196). -/
def State.sqDoorbell (s : State) (q : Nat) (v : Word) : State :=
  let x := s.qp q
  if fld v 31 16 ≠ 0 || x.sqSize ≤ fld v 15 0 || x.st = .disabled || s.dev.recovery ≠ 3 || !s.boot.loaded then s.dbErr q
  else s.modQp q fun x => { x with sqTail := fld v 15 0 }

/-- SQ_TAIL_DOORBELL (07 R196), through either function. -/
def execSqTailDoorbell (_ : Path) (q : Fin 512) (v : Word) (s : State) : Host.Outcome State Fault Refusal := nx (s.sqDoorbell q v)

/-! Fetch (07 R201). -/

/-- Whether pair q may fetch. -/
def State.mayFetch (s : State) (q : Nat) (x : QPair) : Bool :=
  x.st = .enabled && s.linkUp x.home && (s.txnsOf q).length < x.fetchMax && s.txnList.length < 1024 && !x.stalled && x.sqHead ≠ x.sqTail

/-- The pair served next, in turn after the pair served last (07 R201). -/
def State.nextFetch (s : State) : Option Nat :=
  let l := (s.flow.qps.filter fun e => s.mayFetch e.1 e.2).map (·.1)
  match l.find? fun q => s.flow.lastFetch < q with
  | some q => some q
  | none => l.head?

/-- The lowest free place of the transaction table. -/
def State.freeTxn (s : State) : Option Nat := (List.range 1024).find? fun t => (s.txn t).isNone

/-- Whether an opcode is one of 07 Table 7-12. -/
def opcodeKnown (o : Nat) : Bool := [1, 2, 3, 4, 0x10, 0x11].contains o

/-- SQ_FETCH (07 R195, R199, R201): an entry is copied, and ends here where its read failed or its opcode is reserved. Log 3. -/
def execSqFetch (q : Fin 512) (r : FetchRead) (s : State) : Host.Outcome State Fault Refusal :=
  if s.nextFetch = some q.val then
    match s.freeTxn with
    | none => nx s
    | some t =>
      let s1 := (s.tally (0x4000 + q) 1 1 true).modQp q fun x => { x with sqHead := (x.sqHead + 1) % x.sqSize }
      let n : Txn := { qp := q, dws := match r with | .entry l => l | .error tag => [0#32, tag], role := (s.qp q).role, fetchNo := s.flow.fetchNo }
      let s2 : State := { s1 with flow := { s1.flow with
        fetchNo := s1.flow.fetchNo + 1, lastFetch := q, txns := tset none s1.flow.txns t (some n) } }
      match r with
      | .error _ => nx ((s2.modTxn t fun x => { x with readErr := true }).endEarly t 0x0D)
      | .entry _ => nx (if opcodeKnown n.opcode then s2 else s2.endEarly t 0x01)
  else nx s

/-! Stage 3 (07 R198, R199, R203). -/

/-- Reserved bits of the entry are set (07 R198). -/
def Txn.reservedBad (x : Txn) : Bool :=
  fld (x.dw 0) 31 12 ≠ 0 || fld (x.dw 8) 23 17 ≠ 0 || x.dw 9 ≠ 0#32 || fld (x.dw 12) 23 17 ≠ 0

/-- PARAM0 to PARAM2 are 0. -/
def Txn.paramsZero (x : Txn) : Bool := x.dw 13 = 0#32 && x.dw 14 = 0#32 && x.dw 15 = 0#32

/-- FLAGS bits [11:8] are set. -/
def Txn.flagsSet (x : Txn) : Bool := fld (x.dw 0) 11 8 ≠ 0

/-- A segment list made empty by a length of 0, or a RESP_CAP out of range (07 R198). -/
def Txn.listsBad (x : Txn) : Bool :=
  (x.cmdSegs ≠ 0 && x.cmdLen = 0) || (x.respSegN ≠ 0 && x.respCap = 0) || 65538 < x.respCap

/-- The first code of a list of (condition, code), 0 where none holds. -/
def firstCode (l : List (Bool × Nat)) : Nat := match l.find? (·.1) with | some e => e.2 | none => 0

/-- The stage 3 codes 0x01 to 0x05 of a CARD_CMD (07 R199, R203, 08 R234, 06 R181). -/
def State.cardCheck (s : State) (x : Txn) : Nat :=
  let k := s.lookup (x.dw 2)
  firstCode [
    (x.reservedBad || x.dw 3 ≠ 0#32 || !x.paramsZero, 0x01),
    (x.role < 1, 0x02),
    ((x.noCompare && x.changing) || (match k with | some i => (s.session i).onSet ≠ x.cardSet | none => false), 0x03),
    (x.cmdLen < 4 || 65544 < x.cmdLen || x.listsBad, 0x04),
    (k.isNone, 0x05)]

/-- CARD_CMD (07 R199, R203): the checks of stage 3 that need no command byte; then stage 4. Log 3. -/
def execCardCmd (t : Fin 1024) (s : State) : Host.Outcome State Fault Refusal :=
  match s.txn t with
  | none => nx s
  | some x =>
    if x.stage ≠ .check || x.opcode ≠ 1 then nx s
    else
      let e := s.cardCheck x
      if e ≠ 0 then nx (s.endEarly t e)
      else
        let i := (s.lookup (x.dw 2)).getD 0
        let d := s.session i
        nx (s.modTxn t fun x =>
          { x with stage := .gather, sess := i, target := if d.onSet then .set d.target else .slot d.target, sm := d.profile = 1, smKey := d.key })

/-- The lowest free session context (06 R182). -/
def State.freeSession (s : State) : Option Nat := (List.range 1984).map (64 + ·) |>.find? fun i => !(s.session i).isOpen

/-- Whether slot i is named by a PENDING, MEMBER or RESERVE position of a set that is not DISABLED (08 R240). -/
def State.slotInSet (s : State) (i : Nat) : Bool :=
  s.flow.sets.any fun e => e.2.enabled && !e.2.draining && [0, 1, 2, 3, 4, 5].any fun p =>
    (e.2.at p = .pending || e.2.at p = .member || e.2.at p = .reserve) && e.2.slotOf p = i

/-- The target of an OPEN_SESSION is not ready (06 R182, 08 R240, 16 R428). -/
def State.openNotReady (s : State) (x : Txn) : Bool :=
  let n := fld (x.dw 3) 5 0
  (if bitOf (x.dw 3) 8 then
    let k := s.cset n
    k.state = 0 || k.state = 3 || k.diverged || k.draining
   else !(s.slot n).inService || s.slotInSet n) ||
  (fld (x.dw 3) 27 24 = 1 && (255 < (x.dw 13).toNat || (s.secret (x.dw 13).toNat).typ ≠ 2))

/-- The stage 3 codes of an OPEN_SESSION (07 R199, R203, 06 R182, 08 R240). -/
def State.openCheck (s : State) (x : Txn) : Nat :=
  let g := x.dw 3
  let set := bitOf g 8
  let prof := fld g 27 24
  firstCode [
    (x.reservedBad || g &&& 0xF0E0FEC0#32 ≠ 0#32 || 19 < fld g 20 16 || 1 < prof || (set && 31 < fld g 5 0) || (prof = 0 && !x.paramsZero), 0x01),
    (x.role < 1, 0x02),
    (x.flagsSet, 0x03),
    (x.cmdLen ≠ 0 || x.respCap < 4 || x.listsBad, 0x04),
    (s.freeSession.isNone, 0x0A),
    (s.flow.sessions.any (fun e => e.2.isOpen && e.2.onSet = set && e.2.target = fld g 5 0 && e.2.channel = fld g 20 16), 0x0B),
    (s.openNotReady x, 0x0C),
    (set && prof ≠ 0, 0x24)]

/-- The first OPEN_SESSION on a FORMING set that succeeds clears FORMING; PENDING positions go OUT, FORM_LATE (08 R229). -/
def State.formed (s : State) (k : Nat) : State :=
  if (s.cset k).forming then
    let s1 := s.modSet k fun c => { c with forming := false }
    s1.forEach ((s.cset k).which .pending) fun s p => s.posOut k p 5
  else s

/-- OPEN_SESSION (06 R182, 07 R200). Log 3. -/
def execOpenSession (t : Fin 1024) (s : State) : Host.Outcome State Fault Refusal :=
  match s.txn t with
  | none => nx s
  | some x =>
    if x.stage ≠ .check || x.opcode ≠ 2 then nx s
    else
      let e := s.openCheck x
      if e ≠ 0 then nx (s.endEarly t e)
      else
        let i := s.freeSession.getD 64
        let g := x.dw 3
        let s1 := s.setSession i
          { isOpen := true, onSet := bitOf g 8, target := fld g 5 0, channel := fld g 20 16, profile := fld g 27 24, key := x.dw 13, ssc := cat64 (x.dw 15) (x.dw 14) }
        let s2 := if bitOf g 8 then s1.formed (fld g 5 0) else s1
        nx (s2.endEarly t 0 0 (leBytes ((s.gen i).toNat * 2048 + i) 4))

/-- The stage 3 codes of CLOSE_SESSION and NOP (07 R199, R200, 06 R181). -/
def State.plainCheck (s : State) (x : Txn) (close : Bool) : Nat :=
  firstCode [
    (x.reservedBad || x.dw 3 ≠ 0#32 || !x.paramsZero, 0x01),
    (x.role < 1, 0x02),
    (x.flagsSet, 0x03),
    (x.cmdLen ≠ 0 || x.respCap ≠ 0 || x.listsBad, 0x04),
    (close && (s.lookup (x.dw 2)).isNone, 0x05)]

/-- CLOSE_SESSION (06 R184, 07 R200). Log 3. -/
def execCloseSession (t : Fin 1024) (s : State) : Host.Outcome State Fault Refusal :=
  match s.txn t with
  | none => nx s
  | some x =>
    if x.stage ≠ .check || x.opcode ≠ 3 then nx s
    else
      let e := s.plainCheck x true
      if e ≠ 0 then nx (s.endEarly t e)
      else nx (((s.closeSession ((s.lookup (x.dw 2)).getD 0)).endEarly t 0).actPendAll)

/-- NOP (07 R200). Log 3. -/
def execNop (t : Fin 1024) (s : State) : Host.Outcome State Fault Refusal :=
  match s.txn t with
  | none => nx s
  | some x => if x.stage ≠ .check || x.opcode ≠ 4 then nx s else nx (s.endEarly t (s.plainCheck x false))

/-! Stage 4 (07 R202, R203). -/

/-- The channel of a CLA by 06 Table 6-12: none reserved, some none proprietary. -/
def claChannel (c : Byte) : Option (Option Nat) :=
  let n := c.toNat
  if n < 0x20 then some (some (n % 4))
  else if n < 0x40 then none
  else if n < 0x80 then some (some (4 + n % 16))
  else if n < 0xFF then some none
  else none

/-- CLA shows secure messaging, or is proprietary (06 R183). -/
def claShowsSm (c : Byte) : Bool :=
  let n := c.toNat
  if n < 0x20 then n / 4 % 4 ≠ 0 else if n < 0x80 then n / 32 % 2 = 1 else true

/-- Whether transaction x runs on a card under T=0. -/
def State.runsT0 (s : State) (x : Txn) : Bool :=
  match x.target with
  | .slot i => (s.slot i).pr.proto = 0
  | .set k => (s.cset k).serving.any fun i => (s.slot i).pr.proto = 0
  | _ => false

/-- The stage 3 codes above 0x05 of a CARD_CMD; cmd is none where its bytes could not be read (06 R166, R183, R186, 08 R241). -/
def State.byteCheck (s : State) (x : Txn) (cmd : Option (List Byte)) : Nat :=
  let d := s.session x.sess
  let t0 := s.runsT0 x
  let on (f : List Byte → Bool) : Bool := match cmd with | some l => f l | none => false
  let ins (l : List Byte) : Nat := (byteAt l 1).toNat / 16
  firstCode [
    (on fun l => (claChannel (byteAt l 0)).isNone || ((t0 || x.sm) && (apduCase l).isNone) || (t0 && (ins l = 6 || ins l = 9)) ||
      (x.sm && claShowsSm (byteAt l 0)), 0x06),
    (on fun l => match claChannel (byteAt l 0) with | some (some c) => c ≠ d.channel | _ => false, 0x07),
    (x.sm && on (fun l => 247 < (apduData l).length), 0x08),
    (x.sm && 0xFFFFFFFFFFFFFFFE#64 ≤ d.ssc, 0x09),
    ((match x.target with | .set k => (s.cset k).diverged | _ => false), 0x23)]

/-- The first failure of stage 4 (07 R203), 0 none. -/
def Txn.gatherFail (x : Txn) (r : GatherRead) : Nat :=
  let bad (n total : Nat) (l : Option (List Nat)) : Bool :=
    match l with | some l => n ≠ 0 && (l.length ≠ n || l.any (fun v => v = 0 || 65544 < v) || l.foldl (· + ·) 0 ≠ total) | none => false
  firstCode [
    (x.cmdSegs ≠ 0 && r.cmdList.isNone, 0x0D),
    (bad x.cmdSegs x.cmdLen r.cmdList, 0x04),
    (x.respSegN ≠ 0 && r.respList.isNone, 0x0D),
    (bad x.respSegN x.respCap r.respList, 0x04),
    (x.cmdLen ≠ 0 && r.cmd.isNone, 0x0D)]

/-- Chunks of 512 bytes a transaction reserves (07 R202, 08 R235). -/
def State.chunksFor (s : State) (x : Txn) : Nat :=
  let resp := match x.target with | .set k => (x.respCap + 2) * (s.cset k).serving.length | _ => x.respCap
  (x.cmdLen + resp + 511) / 512

/-- Chunks in use. -/
def State.chunksUsed (s : State) : Nat := s.txnList.foldl (fun n e => n + e.2.chunks) 0

/-- CMD_GATHER (07 R202, R203): the chunks it reserves are held until the completion is written or spilled; reservations in fetch order; then the lists and the command bytes are read. Log 3. -/
def execCmdGather (t : Fin 1024) (r : GatherRead) (s : State) : Host.Outcome State Fault Refusal :=
  match s.txn t with
  | none => nx s
  | some x =>
    let first := !s.txnList.any fun e => e.2.stage = .gather && e.2.fetchNo < x.fetchNo
    let need := s.chunksFor x
    if x.stage ≠ .gather || !first || 1024 < s.chunksUsed + need then nx s
    else
      let g := x.gatherFail r
      let cmd := if g = 0 then (if x.cmdLen = 0 then some [] else r.cmd.map (padTo x.cmdLen)) else none
      let e := if x.opcode = 1 then s.byteCheck x cmd else 0
      let s0 := s.modTxn t fun x => { x with chunks := need }
      if e ≠ 0 then nx (s0.endEarly t e)
      else if g ≠ 0 then nx (s0.endEarly t g)
      else
        let s1 : State := { s with flow := { s.flow with arriveNo := s.flow.arriveNo + 1 } }
        nx (s1.modTxn t fun x =>
          { x with stage := .wait, cmd := cmd.getD [], respSegs := r.respList.getD [], chunks := need, arriveNo := s.flow.arriveNo })

end Sys2Proof.Machine
end

