-- ==== Sys2Proof/Machine/Ledger.lean ====
section
/-! DEFINITION. Ledger ports: presence, identification, jobs, images, registers (10 R266 to R293, 07 R199). -/

namespace Sys2Proof.Machine

/-! Presence (10 R272, R276, R283). -/

/-- LEDGER_PRES_PRESENT_READ (10 R272): a reading of present begins, anew after a break too short to reach ABSENT. -/
def execLedgerPresPresentRead (p a : Fin 4) (s : State) : Host.Outcome State Fault Refusal :=
  let x := s.lp (4 * p + a)
  if x.st = .absent then
    nx (s.modLp (4 * p + a) fun x => { x with debounce := some (s.now + fld (s.port p).live 24 17 * ms) })
  else nx s

/-- LEDGER_PRES_DEBOUNCED (10 R272, R274). Log 3, 4. -/
def execLedgerPresDebounced (p a : Fin 4) (s : State) : Host.Outcome State Fault Refusal :=
  match (s.lp (4 * p + a)).debounce with
  | none => nx s
  | some t =>
    let s1 := (((s.failLoop (8 + p) false).elapseTo t).modLp (4 * p + a) fun x => { x with debounce := none }).setLp p a .present
    let s2 := s1.auditRoutine 0x10 [0x40 + 4 * p.val + a.val, 1]
    nx (if (s2.port p).en then s2.modPort p fun x => { x with want := some (x.want.getD false) } else s2)

/-- A host transaction for position a of port p stands at stage 6. -/
def State.ledgerIntent (s : State) (p a : Nat) : Bool :=
  s.txnList.any fun e => e.2.stage = .intent && (match e.2.target with | .ledger q b => q = p && b = a | _ => false)

/-- Position a leaves the cards that R270 still switches. Where it is the one being switched, the switch stops as a job does, and the others are owed
(10 R270, R283). -/
def State.switchRemoved (s : State) (p a : Nat) : State :=
  match (s.port p).switch with
  | some (l, n) =>
    if l.head? = some a then (s.modPort p fun x => { x with switch := none, swBusy := none, owed := l.tail }).ledgerStop p
    else s.modPort p fun x => { x with switch := some (l.erase a, n) }
  | none => s

/-- LEDGER_PRES_ABSENT (10 R272, R276, R283). Log 4. -/
def execLedgerPresAbsent (p a : Fin 4) (s : State) : Host.Outcome State Fault Refusal :=
  let k := 4 * p.val + a.val
  let s0 := s.modLp k fun x => { x with debounce := none }
  if (s.lp k).st = .absent then nx s0
  else
    let s1 := s0.elapse us
    let s2 := match (s1.port p).job with
      | some j => if j.pos = a.val then s1.ledgerRemoved p j else s1
      | none => if s1.ledgerIntent p a then s1.ledgerStop p else s1
    let s3 := (s2.setLp p a .absent).modLp k fun x =>
      { x with rca := 0, cid := 0#128, sectors := 0#32, cardType := 0#8, img := .none, lost := 0, scan := false }
    let s4 := (s3.modPort p fun x =>
      { x with
        checkUnplaced := true, owed := x.owed.erase a.val
        selected := if x.selected = some a.val then none else x.selected
        ident := x.ident.map fun e => (e.1, e.2.1.erase a.val, e.2.2) }).switchRemoved p a
    nx ((s4.tally (0x2500 + p.val) 0x15).auditRoutine 0x10 [0x40 + k, 0])

/-- The READY card at position a answers CMD13 of the cleanup as x says, after CMD12 and its busy where it is not in stand-by; one that does not answer
goes to FAILED (10 R283). -/
def State.cleanupCard (s : State) (p a : Nat) (x : Option CleanupAnswer) : State :=
  let s1 := s.lcmd p 13 (s.rcaArg p a)
  match x with
  | some ⟨some w, busy⟩ => if fld w 12 9 = 3 then s1 else (s1.lcmd p 12 0#32).elapse (min busy (s.port p).busyTo)
  | _ => s1.setLp p a .failed

/-- CMD13 to each unplaced card; those that do not answer are no longer counted (10 R276). -/
def State.checkStrays (s : State) (p : Nat) (l : List Bool) : State :=
  let e := (s.port p).strays.zipIdx
  let s1 := e.foldl (fun s e => s.lcmd p 13 (BitVec.ofNat 32 (e.1 * 65536))) s
  (s1.modPort p fun x => { x with cleanup := none, checkUnplaced := false, strays := (e.filter fun e => l.getD e.2 false).map (·.1) }).lclk p 0

/-- REMOVAL_CLEANUP (10 R276, R283): `answers` says of each position what its READY card does, strays whether each unplaced card answers. Log 3, 4. -/
def execRemovalCleanup (p : Fin 4) (answers : List CleanupAnswer) (strays : List Bool) (s : State) : Host.Outcome State Fault Refusal :=
  let x := s.port p
  match x.cleanup with
  | some t =>
    let s1 := (s.elapseTo t).lcmd0 p 7 0#32
    let l := s1.ledgerReady p
    let s2 := s1.forEach l fun s a => s.cleanupCard p a answers[a]?
    let s3 := if !l.isEmpty && (s2.ledgerReady p).isEmpty then (s2.lpost 0x74 p 2).irq 10 else s2
    nx (((s3.checkStrays p strays).atFree p).applyRate p [])
  | none => if x.checkUnplaced && !s.portBusy p then nx (((s.checkStrays p strays).atFree p).applyRate p []) else nx s

/-! Identification (10 R274, R275). -/

/-- The CID bound to a position, 0 none. -/
def State.binding (s : State) (k : Nat) : BitVec 128 := BitVec.ofNat 128 (s.dictNum (0x2500 + k / 4) (0x0B + k % 4) 0)

/-- The state with a binding set. -/
def State.setBinding (s : State) (k : Nat) (c : BitVec 128) : State :=
  s.persist (0x2500 + k / 4) (0x0B + k % 4) (leBytes c.toNat 16)

/-- Places a card at position a: it is bound there and nowhere else on the port (10 R273). -/
def State.placeCard (s : State) (p a rca : Nat) (c : FoundCard) : State :=
  let s1 := s.forEach (four.filter fun b => b ≠ a && s.binding (4 * p + b) = c.cid) fun s b => s.setBinding (4 * p + b) 0#128
  let s2 := s1.setBinding (4 * p + a) c.cid
  s2.modLp (4 * p + a) fun x => { x with rca := rca, cid := c.cid }

/-- The card at position a has come up: SEC_COUNT and CARD_TYPE are known, and the image of a mirror position is to be scanned (10 R274 step 6, R290). -/
def State.bringReady (s : State) (p a : Nat) (c : FoundCard) : State :=
  let s1 := (s.modLp (4 * p + a) fun x => { x with sectors := c.sectors, cardType := c.cardType }).setLp p a .ready
  if (s1.lp (4 * p + a)).mode = 0 then s1 else s1.modLp (4 * p + a) fun x => { x with scan := true, img := .scanning }

/-- Bring-up of the card at position a (10 R267, R274 step 6): CMD9, CMD7, CMD8 and CMD7 with argument 0; READY, UNSUPPORTED or FAILED (log 136). -/
def State.bringUp (s : State) (p a : Nat) (c : FoundCard) : State :=
  let s1 := s.lcmd p 9 (s.rcaArg p a)
  if c.bringUp = 0 then s1.setLp p a .failed
  else if c.specVers < 4 || c.cSize ≠ 0xFFF then (s1.lcmd0 p 15 (s.rcaArg p a)).setLp p a .unsupported
  else
    let s2 := s1.lcmd p 7 (s.rcaArg p a)
    if c.bringUp = 1 then (s2.lcmd0 p 7 0#32).setLp p a .failed
    else
      let s3 := (s2.lcmd p 8 0#32).lcmd0 p 7 0#32
      if c.bringUp = 2 then s3.setLp p a .failed else s3.bringReady p a c

/-- Step 4 of R274 with R275: the placements made (position, RCA, card) and the unmatched cards with their RCA. -/
def matchCards (bound : Nat → BitVec 128) : List Nat → Nat → List FoundCard → List (Nat × Nat × FoundCard) × List (Nat × FoundCard)
  | _, _, [] => ([], [])
  | free, u, c :: t =>
    match free.find? fun a => bound a = c.cid with
    | some a => let r := matchCards bound (free.erase a) u t; ((a, a + 1, c) :: r.1, r.2)
    | none => let r := matchCards bound free (u + 1) t; (r.1, (0x11 + u, c) :: r.2)

/-- CMD3 gives card c the RCA that step 4 has for it, each CMD2 before it: the cards answer in the order of `found` (10 R274 step 4). -/
def State.giveRcas (s : State) (p : Nat) (m : List (Nat × Nat × FoundCard) × List (Nat × FoundCard)) (found : List FoundCard) : State :=
  let rca (c : FoundCard) : Nat :=
    match m.1.find? fun e => e.2.2 = c with
    | some e => e.2.1
    | none => match m.2.find? fun e => e.2 = c with | some e => e.1 | none => 0
  (found.foldl (fun s c => (s.lcmd p 2 0#32).lcmd p 3 (BitVec.ofNat 32 (rca c * 65536))) s).lcmd p 2 0#32

/-- Steps 4 to 6 of an identification of positions l whose cards are `found` (10 R274, R275). A fifth CID ends it. -/
def State.identify (s : State) (p : Nat) (l : List Nat) (found : List FoundCard) : State :=
  let m := matchCards (fun a => s.binding (4 * p + a)) l 0 found
  if 4 < found.length then
    let s1 := (s.giveRcas p m (found.take 4)).lclk p 0
    ((s1.modPort p fun x => { x with ident := none, busFault := true, stuck := true }).lpost 0x74 p 1).irq 10
  else
    let s0 := if found.isEmpty then s else s.giveRcas p m found
    let free := l.filter fun a => !m.1.any fun e => e.1 = a
    let r : List (Nat × Nat × FoundCard) × List Nat := match m.2, free with
      | [u], [a] => (m.1 ++ [(a, u.1, u.2)], [])
      | l, _ => (m.1, l.map (·.1))
    let left := l.filter fun a => !r.1.any fun e => e.1 = a
    let s1 := r.1.foldl (fun s e => s.placeCard p e.1 e.2.1 e.2.2) s0
    let s2 := s1.modPort p fun x =>
      { x with ident := none, known := true, strays := x.strays ++ r.2, selected := if r.1.isEmpty then x.selected else none }
    let s3 := r.1.foldl (fun s e => s.bringUp p e.1 e.2.2) s2
    let s4 := s3.forEach left fun s a => s.setLp p a (if r.2.isEmpty then .failed else .unplaced)
    let pres := maskOf (four.map fun a => (s4.lp (4 * p + a)).st ≠ .absent)
    let s5 := if r.2.isEmpty then s4 else (s4.lpost 0x71 p (s4.port p).unplaced [BitVec.ofNat 32 pres]).irq 10
    ((s5.lclk p 0).atFree p).applyRate p ((r.1.map (·.1)).filter fun a => (s5.lp (4 * p + a)).st = .ready)

/-- IDENTIFICATION (10 R274): the wanted identification takes the free port, and holds Lp_CMD high for 80 clocks at 400 kHz before its first command;
`found` are the cards that answer CMD2 in order, ocrReady the first CMD1. Log 3. -/
def execIdentification (p : Fin 4) (found : List FoundCard) (ocrReady : Bool) (s : State) : Host.Outcome State Fault Refusal :=
  let x := s.port p
  match x.want with
  | none => nx s
  | some whole =>
    if !x.en || x.stuck || s.portBusy p then nx s
    else
      let l := four.filter fun a => let st := (s.lp (4 * p + a)).st; if whole then st ≠ .absent else st = .present
      let s0 := ((s.atFree p).elapse (80 * 1200))
      let s1 := s0.modPort p fun x =>
        { x with
          want := none, ident := some (s0.now, l, found), div := 1200, clk := none, selected := if whole then none else x.selected
          strays := if whole then [] else x.strays }
      let s2 := ((if whole then s1.lcmd p 0 0#32 else s1).lcmd p 1 0x40000080#32).forEach l fun s a =>
        (s.setLp p a .identifying).modLp (4 * p.val + a) fun x => { x with rca := 0, cid := 0#128, sectors := 0#32, cardType := 0#8 }
      nx (if ocrReady || found.isEmpty then s2.identify p l found else s2)

/-- CARD_READY_POLL (10 R274 step 3, Table 10-3): CMD1 again after 10 ms. Log 3, 4. -/
def execCardReadyPoll (p : Fin 4) (ready : Bool) (s : State) : Host.Outcome State Fault Refusal :=
  match (s.port p).ident with
  | none => nx s
  | some (t, l, found) =>
    let s1 := (s.elapse (10 * ms)).lcmd p 1 0x40000080#32
    nx (if ready then s1.identify p l found else if t + 1000 * ms ≤ s1.now then s1.identify p l [] else s1)

/-! Host transactions (07 R199, 10 R277 to R280). -/

/-- The port of a ledger entry. -/
def Txn.lport (x : Txn) : Nat := fld (x.dw 3) 1 0
/-- The position of a ledger entry. -/
def Txn.lposn (x : Txn) : Nat := fld (x.dw 3) 3 2

/-- The stage 3 codes of a ledger opcode (07 R198, R199, R203, 10 R277). -/
def State.ledgerCheck (s : State) (x : Txn) (write : Bool) : Nat :=
  let k := s.lp (4 * x.lport + x.lposn)
  let n := (x.dw 14).toNat
  firstCode [
    (x.reservedBad || x.dw 2 ≠ 0#32 || x.dw 15 ≠ 0#32, 0x01),
    (x.role < (if write then 2 else 1), 0x02),
    (x.flagsSet, 0x03),
    (x.listsBad || (if write then x.cmdLen ≠ 512 * n || x.respCap ≠ 0 else x.cmdLen ≠ 0), 0x04),
    (!(s.port x.lport).en, 0x30),
    (k.st ≠ .ready, 0x31),
    (n = 0 || 128 < n || k.sectors.toNat < (x.dw 13).toNat + n || fld (x.dw 3) 31 4 ≠ 0, 0x32),
    (write && k.mode ≠ 0, 0x33)]

/-- Stage 3 of a ledger opcode. -/
def State.ledgerStage3 (s : State) (t o : Nat) : State :=
  match s.txn t with
  | none => s
  | some x =>
    if x.stage ≠ .check || x.opcode ≠ o then s
    else
      let e := s.ledgerCheck x (o = 0x11)
      if e ≠ 0 then s.endEarly t e
      else s.modTxn t fun x => { x with stage := .gather, target := .ledger x.lport x.lposn }

/-- LEDGER_READ (07 R199, 10 R277). Log 3. -/
def execLedgerRead (t : Fin 1024) (s : State) : Host.Outcome State Fault Refusal := nx (s.ledgerStage3 t 0x10)

/-- LEDGER_WRITE (07 R199, 10 R277). Log 3. -/
def execLedgerWrite (t : Fin 1024) (s : State) : Host.Outcome State Fault Refusal := nx (s.ledgerStage3 t 0x11)

/-- The next transaction for port p: one from each queue pair in turn (01 R20). -/
def State.pickLedger (s : State) (p : Nat) : Option Nat :=
  let l := s.txnList.filter fun e =>
    e.2.stage = .wait && (match e.2.target with | .ledger q _ => q = p | _ => false) && !s.elder e.2
  let last := (s.port p).lastQp
  let key (e : Nat × Txn) : Nat := (if last < e.2.qp then e.2.qp else e.2.qp + 512) * 2 ^ 64 + e.2.fetchNo
  (l.foldl (fun m e => match m with | some a => if key e < key a then some e else some a | none => some e) none).map (·.1)

/-- Transaction t leaves stage 5 for port p: the first two checks of R277 again. -/
def State.takeLedger (s : State) (p t : Nat) : State :=
  match s.txn t with
  | none => s
  | some x =>
    if !(s.port p).en then s.endEarly t 0x30
    else if (s.lp (4 * p + x.lposn)).st ≠ .ready then s.endEarly t 0x31
    else (s.modTxn t fun x => { x with stage := .intent }).modPort p fun y => { y with lastQp := x.qp, lastMirror := false }

/-- LEDGER_RESPONSE (10 R270, R278 to R280). Log 3. -/
def execLedgerResponse (p : Fin 4) (r : LedgerResp) (s : State) : Host.Outcome State Fault Refusal :=
  match (s.port p).switch, (s.port p).job with
  | some (_, n), _ => nx (s.switchAnswer p n r)
  | none, some j => nx (s.ledgerAnswer p j r)
  | none, none => nx s

/-- LEDGER_BLOCK (10 R270 step 5, R279, R280). Log 3. -/
def execLedgerBlock (p : Fin 4) (data : List Byte) (crcOk : Bool) (s : State) : Host.Outcome State Fault Refusal :=
  match (s.port p).switch, (s.port p).job with
  | some (_, n), _ => nx (if n = 6 && (s.port p).swBusy.isSome then (if crcOk then s.switchNext p else s.switchEnd p false) else s)
  | none, some j =>
    if j.step ≠ .dataIn then nx s
    else if !crcOk then nx (s.ledgerFail p { j with many := j.many && j.confirmed + 1 ≠ j.count } 0x36)
    else
      let s1 := s.ledgerConfirm p j (padTo 512 data)
      let k := { j with confirmed := j.confirmed + 1, data := if j.txn.isSome then j.data ++ padTo 512 data else j.data }
      nx (if k.confirmed = k.count then s1.ledgerEnd p k 0 else s1.ledgerStep p k .dataIn)
  | none, none => nx s

/-- CRC_STATUS_TOKEN (10 R279, R280): after the block's end bit. Log 3, 4. -/
def execCrcStatusToken (p : Fin 4) (positive : Bool) (s : State) : Host.Outcome State Fault Refusal :=
  match (s.port p).job with
  | some j =>
    if j.step ≠ .token then nx s
    else
      let s1 := s.elapseTo (s.blockEnd p j)
      nx (if positive then s1.ledgerStep p j .busy else s1.ledgerFail p j 0x38)
  | none => nx s

/-- BUSY_END (10 R270, R278 to R280). Log 3. -/
def execBusyEnd (p : Fin 4) (s : State) : Host.Outcome State Fault Refusal :=
  match (s.port p).switch, (s.port p).job with
  | some (_, n), _ => nx (if n ≠ 6 && (s.port p).swBusy.isSome then s.switchNext p else s)
  | none, some j =>
    match j.step with
    | .selectBusy => nx ((s.lcmd p 13 (s.rcaArg p j.pos)).ledgerStep p j .status)
    | .busy =>
      let s1 := s.ledgerConfirm p j []
      let k := { j with confirmed := j.confirmed + 1 }
      nx (if k.confirmed = k.count then (s1.lcmd p 13 (s1.rcaArg p j.pos)).ledgerStep p k .final else s1.ledgerOut p k)
    | .stopBusy => nx ((s.lcmd p 13 (s.rcaArg p j.pos)).ledgerStep p j (.recover 0))
    | _ => nx s
  | none, none => nx s

/-- LEDGER_TIMEOUT (10 Table 10-3, R280): the limit of the present wait passes. Log 3, 4. -/
def execLedgerTimeout (p : Fin 4) (s : State) : Host.Outcome State Fault Refusal :=
  let x := s.port p
  match x.switch, x.job with
  | some (_, n), _ =>
    match x.swBusy with
    | some t => nx ((s.elapseTo (t + (if n = 6 then x.readTo else x.busyTo))).switchEnd p false)
    | none => nx ((s.elapse (64 * x.div)).switchEnd p false)
  | none, some j =>
    match j.step with
    | .selectBusy => nx ((s.elapseTo (j.since + x.busyTo)).ledgerEnd p j 0x35)
    | .dataIn => nx ((s.elapseTo (j.since + x.readTo)).ledgerFail p j 0x37)
    | .token => nx ((s.elapseTo (s.blockEnd p j + 8 * x.div)).ledgerFail p j 0x38)
    | .busy => nx ((s.elapseTo (j.since + x.busyTo)).ledgerEnd p j 0x39)
    | .stopBusy => nx ((s.elapseTo (j.since + x.busyTo)).ledgerEnd p j 0x39)
    | _ => nx ((s.elapseTo (j.since + 64 * x.div)).ledgerNoResponse p j)
  | none, none => nx s

/-! Images (10 R285 to R291). -/

/-- Firmware may run an image task at position k of port p (01 R19, 10 R289, R290). -/
def State.mirrors (s : State) (p k : Nat) : Bool :=
  let x := s.lp k
  x.st = .ready && x.mode ≠ 0 && (s.port p).en && !(s.port p).stuck && (List.range 4).any s.coreRuns

/-- MIRROR_SWEEP (10 R289): firmware on core c begins a sweep of the changed blocks; its commands wait for the port (R276). Log 3, 4, 137. -/
def execMirrorSweep (p a c : Fin 4) (s : State) : Host.Outcome State Fault Refusal :=
  let k := 4 * p.val + a.val
  let x := s.lp k
  if !s.mirrors p k || !s.coreRuns c || !(x.img = .valid || x.img = .recovered) || x.task.isSome || x.scan then nx s
  else
    let s1 := s.elapseTo (x.sweepAt + fld x.live 9 0 * ms)
    nx ((s1.modLp k fun x =>
      { x with
        sweepAt := s1.now, task := some (.sweep s1.ltide), written := 0
        mq := x.writes ((List.range (imageBlocks x.mode)).filter fun i => x.dirty.contains i) }).taskNext k)

/-- IMAGE_SCAN (10 R287, R288, R290): firmware on core c begins the scan wanted dt ck from now, with the two label copies; its commands wait for the port (R276). Log 3, 137. -/
def execImageScan (p a c : Fin 4) (dt : Nat) (s : State) : Host.Outcome State Fault Refusal :=
  let k := 4 * p.val + a.val
  let x := s.lp k
  if !s.mirrors p k || !s.coreRuns c || !x.scan || x.task.isSome then nx s
  else
    nx ((s.elapse dt).modLp k fun x =>
      { x with
        scan := false, img := .scanning, task := some .scanLabels, mq := [⟨.labelRead, x.imgBase.toNat, 2⟩], reads := [], labels := [], high := none
        written := 0, dirty := [], copy := [] })

/-- The next mirror command of port p: of the first position that has one; a write waits while a journal or dictionary write waits for MRAM
(01 R21, 10 R289; log 84). -/
def State.pickMirror (s : State) (p : Nat) : Option (Nat × MirrorCmd) :=
  four.findSome? fun a =>
    match (s.lp (4 * p + a)).mq with
    | c :: _ => if s.mirrors p (4 * p + a) && !(c.kind.writes && (s.journalWaits || !s.storeQ.isEmpty)) then some (a, c) else none
    | [] => none

/-- The next job of the free port p: a host transaction and a mirror command in turn where both wait (10 R276). -/
def State.nextJob (s : State) (p : Nat) : State :=
  match s.pickLedger p, s.pickMirror p with
  | none, none => s
  | some t, none => s.takeLedger p t
  | none, some m => s.startMirror p m.1 m.2
  | some t, some m => if (s.port p).lastMirror then s.takeLedger p t else s.startMirror p m.1 m.2

/-- LEDGER_JOB_START (10 R270, R274, R276): at the free point an identification goes first, then a switch of R270, then host
transactions and mirror commands in turn. Log 3. -/
def execLedgerJobStart (p : Fin 4) (s : State) : Host.Outcome State Fault Refusal :=
  let x := s.port p
  if s.portBusy p || x.stuck || (x.en && x.want.isSome) then nx s
  else
    let s0 := s.atFree p
    let s1 := if x.known then s0.applyRate p [] else s0
    nx (if s1.portBusy p then s1 else s1.nextJob p)

/-! Registers (10 R292, Tables 10-11 to 10-14). -/

/-- Sets LP_STATUS.CMD_ERR. -/
def State.lpErr (s : State) (p : Nat) (e : CmdErr) : State := s.modPort p fun x => { x with cmdErr := e }

/-- FORMAT of position k: its CMD_ERR, and the state after (10 R291). It takes the place of a scan or a sweep (log 137). -/
def State.askFormat (s : State) (k : Nat) : CmdErr × State :=
  let x := s.lp k
  if x.st ≠ .ready || x.mode = 0 then (.state, s)
  else if x.sectors.toNat < x.imgBase.toNat + 2 * imageBlocks x.mode + 2 then (.value, s)
  else (.none, s.modLp k fun x =>
    { x with img := .formatting, scan := false, task := some .formatRead, mq := formatReads x.imgBase.toNat x.mode, high := none, reads := [], labels := [] })

/-- A write of LP_CTRL (10 Table 10-12). -/
def State.writeLpCtrl (s : State) (ag : Agent) (p : Nat) (w : Word) : State :=
  s.granted ag 2 fun s =>
    if 1 < b2n (bitOf w 0) + b2n (bitOf w 1) + b2n (bitOf w 2) then s.lpErr p .multiple
    else
      let k := 4 * p + fld w 5 4
      let r : CmdErr × State :=
        if bitOf w 0 then
          (if (s.port p).en then (.none, s.modPort p fun x => { x with want := some true, stuck := false }) else (.state, s))
        else if bitOf w 1 then s.askFormat k
        else if bitOf w 2 then (.none, s.setBinding k 0#128)
        else (.none, s)
      r.2.lpErr p r.1

/-- LP_CTRL IDENTIFY (10 R274). -/
def execIdentify (ag : Agent) (p : Fin 4) (w : Word) (s : State) : Host.Outcome State Fault Refusal := nx (s.writeLpCtrl ag p (w ||| 1#32))

/-- LP_CTRL FORMAT (10 R291), with position a in POS. -/
def execFormat (ag : Agent) (p : Fin 4) (w : Word) (a : Fin 4) (s : State) : Host.Outcome State Fault Refusal :=
  nx (s.writeLpCtrl ag p (w &&& 0xFFFFFFCF#32 ||| 2#32 ||| BitVec.ofNat 32 (16 * a.val)))

/-- LP_CTRL UNBIND (10 R273). -/
def execLpUnbind (ag : Agent) (p : Fin 4) (w : Word) (s : State) : Host.Outcome State Fault Refusal := nx (s.writeLpCtrl ag p (w ||| 4#32))

/-- The transactions that wait for port p at stage 5 end (10 R292). -/
def State.endLedgerWaiters (s : State) (p : Nat) : State :=
  s.forEach ((s.txnList.filter fun e => e.2.stage = .wait && (match e.2.target with | .ledger q _ => q = p | _ => false)).map (·.1))
    fun s t => s.endEarly t 0x30

/-- A value of LP_CFG is taken: EN acts at once, the rest at the next free point (10 R274, R292; log 139). -/
def State.loadLpCfg (s : State) (p : Nat) (v : Word) : State :=
  let was := (s.port p).en
  let s1 := s.modPort p fun x => { x with cfg := v &&& 0xFFFE07FF#32 }
  let s2 := s1.atFree p
  if was && !bitOf v 31 then ((s2.failLoop (8 + p) true).modPort p fun x => { x with want := none }).endLedgerWaiters p
  else if !was && bitOf v 31 then (s2.failLoop (8 + p) false).modPort p fun x => { x with want := some true }
  else s2

/-- A write of LP_CFG. -/
def State.writeLpCfg (s : State) (p : Nat) (v : Word) : State :=
  let x := s.port p
  if fld v 30 29 = 3 || fld v 24 17 = 0 || fld v 10 0 < 10 || 1200 < fld v 10 0 then s.lpErr p .value
  else if x.en && bitOf v 25 ≠ bitOf x.cfg 25 then s.lpErr p .locked
  else (s.loadLpCfg p v).lpErr p .none

/-- LP_CFG_WRITE (10 R292). -/
def execLpCfgWrite (ag : Agent) (p : Fin 4) (v : Word) (s : State) : Host.Outcome State Fault Refusal :=
  nx (s.granted ag 2 fun s => s.writeLpCfg p v)

/-- A value of POS_CFG of position k is taken; it acts at the port's next free point (10 R292). -/
def State.loadPosCfg (s : State) (k : Nat) (v : Word) : State := (s.modLp k fun x => { x with cfg := v &&& 0xC00003FF#32 }).atFree (k / 4)

/-- A write of register off of the block of port p (10 Tables 10-11 to 10-14). -/
def State.writePort (s : State) (ag : Agent) (p off : Nat) (w : Word) : State :=
  if off = 0x000 then s.writeLpCtrl ag p w
  else s.granted ag 2 fun s =>
    let k := 4 * p + (off - 0x40) / 0x40
    match off with
    | 0x004 => s.writeLpCfg p w
    | 0x008 => if fld w 31 16 = 0 || fld w 15 0 = 0 then s.lpErr p .value else (s.modPort p fun x => { x with timeout := w }).lpErr p .none
    | 0x00C => (s.modPort p fun x => { x with busFault := x.busFault && !bitOf w 26 }).lpErr p .none
    | _ =>
      if 0x40 ≤ off && off < 0x140 && off % 0x40 = 0x04 then
        (if fld w 31 30 = 3 || fld w 9 0 < 10 || 1000 < fld w 9 0 then s.lpErr p .value else (s.loadPosCfg k w).lpErr p .none)
      else if 0x40 ≤ off && off < 0x140 && off % 0x40 = 0x1C then
        (if (s.port p).en && (s.lp k).mode ≠ 0 && w ≠ (s.lp k).imgBase then s.lpErr p .locked
         else (s.modLp k fun x => { x with imgBase := w }).lpErr p .none)
      else s.lpErr p .none

/-- A read of register off of the block of port p. -/
def State.readPort (s : State) (p off : Nat) : Word :=
  let x := s.port p
  if off = 0x004 then x.cfg
  else if off = 0x008 then x.timeout
  else if off = 0x00C then
    packed [(29, x.cmdErr.code), (28, b2n (s.portBusy p)), (27, b2n x.ident.isSome), (26, b2n x.busFault), (23, x.unplaced), (22, b2n x.hs),
      (20, x.width), (16, maskOf (four.map fun a => (s.lp (4 * p + a)).st ≠ .absent)), (0, x.div)]
  else if 0x40 ≤ off && off < 0x140 then
    let y := s.lp (4 * p + (off - 0x40) / 0x40)
    match off % 0x40 with
    | 0x00 => packed [(28, y.st.code), (0, y.rca)]
    | 0x04 => y.cfg
    | 0x08 => (cidWords y.cid).getD 0 0
    | 0x0C => (cidWords y.cid).getD 1 0
    | 0x10 => (cidWords y.cid).getD 2 0
    | 0x14 => (cidWords y.cid).getD 3 0
    | 0x18 => y.sectors
    | 0x1C => y.imgBase
    | 0x20 => lo32 y.nseq
    | 0x24 => hi32 y.nseq
    | 0x28 => packed [(28, y.img.code), (0, y.lost)]
    | _ => 0#32
  else 0#32

end Sys2Proof.Machine
end

