-- ==== Sys2Proof/Machine/Ring.lean ====
section
/-! DEFINITION. The Lyette ring: locking, forwarding, enumeration, link measurement, tide frames, the sluice, scheduled commands and the
ring registers (13 R344 to R358, R360 to R365). -/

namespace Sys2Proof.Machine

/-- The state with the ring block changed by f. -/
def State.modRing (s : State) (f : Ring → Ring) : State := { s with ring := f s.ring }

/-- RING_CFG.TIDE_PERIOD in tt. -/
def Ring.tidePeriod (r : Ring) : Nat := fld r.cfg 31 16
/-- RING_CFG.RX_FAIL in ck. -/
def Ring.rxFail (r : Ring) : Nat := fld r.cfg 15 12 * ms
/-- RING_CFG.SCHED_LEAD in tt. -/
def Ring.schedLead (r : Ring) : Nat := fld r.cfg 7 0 * 1000

/-- ck of one symbol (13 R344). -/
abbrev symCk : Nat := 10

/-- The serial number as a word. -/
def devSerial : BitVec 64 := BitVec.ofNat 64 (ofLe serialBytes)

/-- The device acts as ring master (13 R349). -/
def State.isMaster (s : State) : Bool := Config.ringMaster && !s.ring.conflict

/-- The address bound to this device in MRAM, 0 none (13 R350). -/
def State.boundAddr (s : State) : Nat := s.dictNum 0x1200 4 0

/-- Counts a discard: 1 bad frame, 2 hop limit, 3 MAC or no key, 4 tide window, 5 replay, 6 queue full (15 Table 15-13). -/
def State.ringDiscard (s : State) (n : Nat) : State := (s.modRing fun r => { r with discard := true }).tally 0x1201 n

/-! Frames (13 R346 to R348, R360). -/

/-- A TYPE of 13 Table 13-3. -/
def ringType (t : Nat) : Bool := [1, 2, 3, 4, 5, 0x10, 0x11, 0x20, 0x21].contains t

/-- Bytes 0 to the end of the payload, HOPS as given (13 Table 13-2). -/
def frameBytes (f : Frame) (hops : Nat) : List Byte :=
  [f.typ, f.flags, f.dst, f.src] ++ leBytes f.payload.length 2 ++ leBytes f.seq.toNat 2 ++ [BitVec.ofNat 8 hops, 0, 0, 0] ++ f.payload

/-- FLAGS.AUTH. -/
def frameAuth (f : Frame) : Bool := f.flags.getLsbD 0
/-- FLAGS.MASTER. -/
def frameMaster (f : Frame) : Bool := f.flags.getLsbD 1

/-- A bad frame (13 R348). -/
def frameBad (f : Frame) : Bool :=
  !f.good || 260 < f.payload.length || !ringType f.typ.toNat || !((1 ≤ f.dst.toNat && f.dst.toNat ≤ 16) || f.dst = 0xFF#8)

/-- The device holds a ring key (13 R360). -/
def State.hasRingKey (s : State) : Bool := (s.secret 0xFE).typ = 1

/-- The ring key. -/
def State.ringKey (s : State) : BitVec 256 := keyOfBytes (s.secret 0xFE).key

/-- The MAC of a frame (13 R360). -/
def State.ringMac (s : State) (f : Frame) : List Byte := (aesCmac s.ringKey (frameBytes f 0)).take 8

/-- The symbols of a frame as its sender sends them (13 R344, R347): SOF, the bytes with MAC and CRC, and EOF, or ABORT where it was found bad. -/
def frameSymbols (f : Frame) : List RingSymbol :=
  let b := frameBytes f f.hops ++ (if frameAuth f then padTo 8 f.mac else [])
  [.sof] ++ (b ++ leBytes (crc32c b).toNat 4).map .data ++ [if f.good then .eof else .abort]

/-- What the transmitter sends between frames, SKIP apart (13 R344, R346): LOSS while the receiver is not locked, but for a measurement (R352). -/
def State.ringFill (s : State) : RingSymbol := if s.ring.rxLock || s.ring.quiet then .idle else .loss

/-! The transmitter (13 R346). A frame that waits appears in out when the next frame is offered to the transmitter (log 134). -/

/-- A forwarded TIDE frame with its residence in 1/16 ck and the delay of the output link added to ACC_DELAY, or DELAY_BAD set (13 R354). -/
def State.tideOnward (s : State) (f : Frame) (residence : Nat) : Frame :=
  let p := f.payload
  let none_ : Bool := s.ring.linkOut = 0xFFFFFFFF#32
  let flags := setFld (BitVec.ofNat 32 (byteAt p 10).toNat) 0 0 (b2n ((byteAt p 10).getLsbD 0 || none_))
  let acc := ofLe ((p.drop 12).take 4) + residence + (if none_ then 0 else s.ring.linkOut.toNat)
  { f with payload := p.take 10 ++ [BitVec.ofNat 8 flags.toNat] ++ (p.drop 11).take 1 ++ leBytes acc 4 }

/-- The residence of a frame that finds the transmitter free, in 1/16 ck: a free value of 28 to 36 symbol times (13 R346; log 5). -/
def State.residence (s : State) : Nat × State :=
  let r := s.free
  (4480 + r.1.toNat % 1281, r.2)

/-- A frame leaves at ck t. A TIDE frame that waited has been here from its arrival on. -/
def State.ringLeave (s : State) (w : RingWait) (t : Nat) : State :=
  let f := if w.cls = 1 && w.at_ < t then s.tideOnward w.frame ((t - w.at_) * 16) else w.frame
  (s.modRing fun r => { r with txUntil := t + (frameSymbols f).length * symCk }).emit (.ring f)

/-- Frames that waited leave while the transmitter is free: tide frames, other forwarded ones, own ones. n bounds them. -/
def State.ringDrain (s : State) : Nat → State
  | 0 => s
  | n + 1 =>
    if s.now < s.ring.txUntil then s
    else match [1, 2, 3].findSome? fun c => s.ring.waits.find? fun w => w.cls = c with
      | none => s
      | some w => ((s.modRing fun r => { r with waits := r.waits.erase w }).ringLeave w s.ring.txUntil).ringDrain n

/-- A frame is offered to the transmitter. A frame that finds two forwarded ones waiting is lost (DESIGN CHOICE, log 134). -/
def State.ringOffer (s : State) (w : RingWait) : State :=
  let s1 := s.ringDrain s.ring.waits.length
  if s1.ring.waits.isEmpty && decide (s1.ring.txUntil ≤ s1.now) then
    if w.cls = 1 then
      let r := s1.residence
      r.2.ringLeave { w with frame := s1.tideOnward w.frame r.1 } s1.now
    else s1.ringLeave w s1.now
  else if w.cls < 3 && 2 ≤ (s1.ring.waits.filter fun e => e.cls < 3).length then s1
  else s1.modRing fun r => { r with waits := r.waits ++ [w] }

/-- A frame of this device goes to the transmitter: AUTH frames carry a MAC, and are not sent without a ring key (13 R360). -/
def State.ringSend (s : State) (f : Frame) (firm : Bool := false) : State :=
  if frameAuth f then
    (if s.hasRingKey then s.ringOffer { cls := 3, firm := firm, frame := { f with mac := s.ringMac f }, at_ := s.now }
     else s.modRing fun r => { r with noKey := true })
  else s.ringOffer { cls := 3, firm := firm, frame := { f with mac := [] }, at_ := s.now }

/-- A frame of this device with the next SEQ of its type (13 Table 13-2). -/
def State.ringNew (s : State) (typ flags dst : Nat) (payload : List Byte) : Frame × State :=
  ({ typ := BitVec.ofNat 8 typ, flags := BitVec.ofNat 8 flags, dst := BitVec.ofNat 8 dst, src := BitVec.ofNat 8 s.ring.addr,
     seq := tget 0#16 s.ring.seqs typ, hops := 0, payload := payload, mac := [], good := true },
   s.modRing fun r => { r with seqs := tset 0#16 r.seqs typ (tget 0#16 r.seqs typ + 1) })

/-- A new frame of this device leaves. -/
def State.ringPut (s : State) (typ flags dst : Nat) (payload : List Byte) : State :=
  let r := s.ringNew typ flags dst payload
  r.2.ringSend r.1

/-- A frame is forwarded with HOPS one more (13 R346, Table 13-2). -/
def State.ringForward (s : State) (f : Frame) : State := s.ringOffer { cls := 2, frame := { f with hops := f.hops + 1 }, at_ := s.now }

/-- What the rules of R348 make of a frame that arrives. -/
inductive RingFate where
  | discard (n : Nat) | mine | back | pass
  deriving DecidableEq, Repr

/-- The fate of a frame (13 R348): discarded, taken off the ring here, come back to its sender, or passing. -/
def State.ringFate (s : State) (f : Frame) : RingFate :=
  if frameBad f then .discard 1
  else if 16 ≤ f.hops then .discard 2
  else if f.dst = 0xFF#8 then (if frameMaster f && Config.ringMaster && f.src.toNat = s.ring.addr then .back else .pass)
  else if f.dst.toNat = s.ring.addr && s.ring.addr ≠ 0 then .mine
  else if f.src.toNat = s.ring.addr && s.ring.addr ≠ 0 then .back
  else .pass

/-- A frame is discarded (13 R348). Where a frame that would pass is found bad by its end only, and its resending has begun by then, ABORT ends it. -/
def State.ringDrop (s : State) (f : Frame) (n : Nat) : State :=
  let s1 := s.ringDiscard n
  let passes := !f.good && !frameBad { f with good := true } && s.ringFate { f with good := true } = .pass
  if !passes then s1
  else
    let r := s1.residence
    let g := { f with hops := f.hops + 1 }
    if r.1 < (frameSymbols g).length * symCk * 16 then r.2.ringOffer { cls := if f.typ = 1#8 then 1 else 2, frame := g, at_ := r.2.now } else r.2

/-- An AUTH frame passes its checks of key and MAC (13 R360). -/
def State.ringAuthOk (s : State) (f : Frame) : Bool := frameAuth f && s.hasRingKey && f.mac = s.ringMac f

/-! OPEN and CLOSED (13 R358). -/

/-- The ring becomes OPEN. -/
def State.ringOpen (s : State) (code : Nat) : State :=
  if s.isMaster && s.ring.closed then
    (((s.failLoop 12 true).modRing fun r => { r with closed := false, enumPass := 0, measure := none, window := false, checkAt := none }).post 0x80 0 code).irq 9
  else s

/-- RX_LOCK (13 R345). -/
def execRxLock (s : State) : Host.Outcome State Fault Refusal :=
  if s.ring.rxLock || s.boot.step = 0 then nx s
  else nx (s.modRing fun r => { r with rxLock := true, quiet := false, releases := 0 })

/-- RX_LOCK_LOST (13 R345, R346, R352, R358). -/
def execRxLockLost (s : State) : Host.Outcome State Fault Refusal :=
  if !s.ring.rxLock then nx s
  else
    let s1 := s.modRing fun r => { r with rxLock := false, unlockedAt := s.now }
    nx (if s.ring.quiet then s1 else (s1.tally 0x1201 7).ringOpen 1)

/-- LOSS (13 R358). -/
def execLoss (s : State) : Host.Outcome State Fault Refusal := nx (if s.ring.rxLock then s.ringOpen 2 else s)

/-! Enumeration (13 R349 to R351). -/

/-- An entry of an ENUM payload. -/
def Member.bytes (m : Member) : List Byte :=
  leBytes m.serial.toNat 8 ++ [BitVec.ofNat 8 m.addr, BitVec.ofNat 8 m.hop,
    BitVec.ofNat 8 (b2n m.isNew + 2 * b2n m.conflict + 4 * b2n m.noRoom), 0, 0, 0, 0, 0]

/-- The entry at the head of a list of bytes. -/
def memberOf (l : List Byte) : Member :=
  { serial := BitVec.ofNat 64 (ofLe (l.take 8)), addr := (byteAt l 8).toNat, hop := (byteAt l 9).toNat, isNew := (byteAt l 10).getLsbD 0,
    conflict := (byteAt l 10).getLsbD 1, noRoom := (byteAt l 10).getLsbD 2 }

/-- The entries in use of an ENUM payload, in order. -/
def enumEntries (l : List Byte) : List Member :=
  ((List.range 16).map fun n => (l.drop (4 + 16 * n)).take 16).filterMap fun e => if e.any (· ≠ 0#8) then some (memberOf e) else none

/-- An ENUM payload. -/
def enumPayload (pass : Nat) (l : List Member) : List Byte := padTo 260 ([BitVec.ofNat 8 pass, 0, 0, 0] ++ (l.take 16).flatMap Member.bytes)

/-- The lowest address that no entry claims. -/
def freeAddr (l : List Member) : Option Nat := ((List.range 16).map (· + 1)).find? fun a => !l.any fun m => m.addr = a

/-- ADDR_STATE changes: event and interrupt (13 R365). -/
def State.setAddrState (s : State) (n : Nat) : State :=
  if s.ring.addrState = n then s
  else
    let s1 := (s.modRing fun r => { r with addrState := n }).post 0x85 s.ring.addr n
    if 2 ≤ n then s1.irq 9 else s1

/-- This device claims its bound address, or takes one, in a pass: its entry, if it writes one, and the state after (13 R350). -/
def State.enumTake (s : State) (pass : Nat) (hop : Nat) (l : List Member) : List Member × State :=
  let b := s.boundAddr
  let me : Member := { serial := devSerial, hop := hop }
  if pass = 1 then
    if b = 0 then (l, if s.ring.addrState = 2 then s.setAddrState 0 else s)
    else if l.any (fun m => m.addr = b) then
      (l ++ [{ me with conflict := true }], (s.modRing fun r => { r with addr := 0 }).setAddrState 2)
    else (l ++ [{ me with addr := b }], (s.modRing fun r => { r with addr := b }).setAddrState 1)
  else if b ≠ 0 || s.ring.addrState = 2 then (l, s)
  else if 16 ≤ l.length then (l, (s.modRing fun r => { r with addr := 0 }).setAddrState 3)
  else match freeAddr l with
    | some a => (l ++ [{ me with addr := a, isNew := true }], ((s.modRing fun r => { r with addr := a }).persist 0x1200 4 [BitVec.ofNat 8 a]).setAddrState 1)
    | none => (l, (s.modRing fun r => { r with addr := 0 }).setAddrState 3)

/-- The master starts a pass (13 R350). In pass 1 it writes entry 0 itself; where it has no binding, entry 0 takes an address in pass 2. -/
def State.enumPassStart (s : State) (pass : Nat) (l : List Member) : State :=
  let t :=
    if pass = 1 then
      let r := s.enumTake 1 0 []
      (if r.1.isEmpty then [{ serial := devSerial }] else r.1, r.2)
    else if s.boundAddr = 0 then
      let r := s.enumTake 2 0 (l.drop 1)
      (match r.1.getLast? with | some m => if m.isNew && m.serial = devSerial then m :: l.drop 1 else l | none => l, r.2)
    else (l, s)
  let s1 := (t.2.failLoop 12 true).modRing fun r => { r with enumPass := pass, masterAddr := r.addr }
  s1.ringPut 0x03 2 0xFF (enumPayload pass t.1)

/-- The master begins the measurement of link h (13 R352). -/
def State.measureHop (s : State) (h n : Nat) : State :=
  let last := s.ring.members.foldl (fun m e => max m e.hop) 0
  let s1 := (s.failLoop 12 true).modRing fun r => { r with measure := some (h, n), measureAt := s.now, window := h = 0, quiet := h = last }
  s1.ringPut 0x04 2 0xFF [BitVec.ofNat 8 h, BitVec.ofNat 8 last]

/-- The audit entry of a ring member (16 Table 16-15). -/
def State.auditMember (s : State) (m : Member) (joined : Bool) : State :=
  s.auditRoutine 0x12 ([m.addr, b2n joined] ++ (leBytes m.serial.toNat 8).map (·.toNat))

/-- The entries in hop order. -/
def byHop (l : List Member) : List Member := (List.range 17).flatMap fun h => l.filter fun m => m.hop = h

/-- Pass 2 has come back: the member table is loaded (13 R350), then the links are measured (R352). -/
def State.enumDone (s : State) (l : List Member) : State :=
  let old := s.ring.members
  let s1 := s.modRing fun r => { r with enumPass := 0, members := (byHop l).map fun m => { m with delay := match old.find? (·.serial = m.serial) with | some o => o.delay | none => 0xFFFFFFFF#32 } }
  let lost := old.filter fun m => !l.any fun e => e.serial = m.serial
  let joined := l.filter fun m => !old.any fun e => e.serial = m.serial
  let s2 := lost.foldl (fun s m => ((s.post 0x83 m.addr 0 [lo32 m.serial, hi32 m.serial]).irq 9).auditMember m false) s1
  let s3 := joined.foldl (fun s m => (s.post 0x84 m.addr 0 [lo32 m.serial, hi32 m.serial, BitVec.ofNat 32 m.hop]).auditMember m true) s2
  let s4 := s3.post 0x82 0 l.length [BitVec.ofNat 32 (maskOf (l.map (·.isNew))), BitVec.ofNat 32 (maskOf (l.map (·.conflict)))]
  s4.measureHop 0 1

/-- ENUM (13 R349, R350): a pass arrives. Log 3. -/
def execEnum (f : Frame) (s : State) : Host.Outcome State Fault Refusal :=
  if !s.ring.rxLock then nx s
  else match s.ringFate f with
    | .discard n => nx (s.ringDrop f n)
    | _ =>
      let l := enumEntries f.payload
      let pass := (byteAt f.payload 0).toNat
      if s.isMaster then
        let first := (memberOf ((f.payload.drop 4).take 16)).serial
        if first ≠ devSerial then
          nx ((((s.failLoop 12 true).modRing fun r => { r with conflict := true, closed := false, enumPass := 0, measure := none }).post 0x86 0 0
            [lo32 first, hi32 first]).irq 9)
        else if s.ring.enumPass ≠ pass then nx s
        else if pass = 1 then nx (s.enumPassStart 2 l)
        else nx (s.enumDone l)
      else if Config.ringMaster then nx (s.ringForward f)
      else
        let s1 := s.modRing fun r => { r with masterAddr := f.src.toNat, hop := f.hops + 1 }
        let t := s1.enumTake pass (f.hops + 1) l
        nx (t.2.ringForward { f with payload := enumPayload pass t.1 })

/-! Link measurement (13 R352). -/

/-- MEASURE (13 R352): the measuring member opens its window; the receiver of the link counts no loss of lock. Log 3. -/
def execMeasure (f : Frame) (s : State) : Host.Outcome State Fault Refusal :=
  if !s.ring.rxLock then nx s
  else match s.ringFate f with
    | .discard n => nx (s.ringDrop f n)
    | .back => nx s
    | .mine => nx s
    | .pass =>
      let h := (byteAt f.payload 0).toNat
      nx ((s.modRing fun r => { r with window := h = r.hop && r.hop ≠ 0, quiet := h + 1 = r.hop }).ringForward f)

/-- A SCHED that waits for the ring leaves (13 R362). -/
def State.schedFrame (s : State) (p : List Byte) : State :=
  (s.ringPut 0x20 3 0xFF p).modRing fun r => { r with schedSent := true, schedAt := s.now }

/-- The master may send frames other than RING_CHECK and its measurement (13 R352, R358). -/
def State.ringFree (s : State) : Bool := !s.isMaster || (s.ring.closed && s.ring.measure.isNone)

/-- The firmware frames that waited leave, in order (13 R346). -/
def State.ringFlush (s : State) : State :=
  if s.ringFree then (s.ring.txQ.foldl (fun s f => s.ringSend f true) s).modRing fun r => { r with txQ := [] } else s

/-- The scheduled command ends with a result (13 R363, Table 13-17). -/
def State.schedEnd (s : State) (res : Nat) : State :=
  let s1 := (s.modRing fun r => { r with result := res, sched := none }).post 0x88 0 res
    [BitVec.ofNat 32 s.ring.schedId, BitVec.ofNat 32 s.ring.ack, BitVec.ofNat 32 s.ring.late]
  if res = 2 then s1 else s1.irq 9

/-- The devices a SCHED payload names. -/
def schedDevs (p : List Byte) : Nat := ofLe ((p.drop 10).take 2)

/-- Ends the command where every target has acknowledged (13 R363). -/
def State.schedSettle (s : State) : State :=
  match s.ring.sched with
  | some p =>
    if s.ring.schedSent && (List.range 16).all fun a => !(schedDevs p).testBit a || s.ring.ack.testBit a then
      s.schedEnd (if s.ring.late = 0 then 2 else 3)
    else s
  | none => s

/-- Target address a has acknowledged. -/
def State.schedAck (s : State) (a : Nat) (late : Bool) : State :=
  s.modRing fun r => { r with ack := r.ack ||| (1 <<< (a - 1)), late := if late then r.late ||| (1 <<< (a - 1)) else r.late }

/-- What a scheduled action does here, as the register writes of 13 Table 13-8 would; the second component says it was LATE. -/
def State.schedAct (s : State) (p : List Byte) : State × Bool :=
  let t := BitVec.ofNat 64 (ofLe (p.take 8))
  let n := (byteAt p 9).toNat
  let slots := (List.range 64).filter fun i => (ofLe ((p.drop 12).take 8)).testBit i
  let lo (f : SlotRegs → SlotRegs) (s : State) (i : Nat) : State := s.modSlot i fun x => { x with regs := f x.regs }
  let s1 := match (byteAt p 8).toNat with
    | 1 => s.forEach slots fun s i => (lo (fun r => { r with actAt := t }) s i).writeActAtHi .fw i (hi32 t)
    | 2 => s.forEach slots fun s i => (lo (fun r => { r with deactAt := t }) s i).writeDeactAtHi .fw i (hi32 t)
    | 3 => s.forEach slots fun s i => s.writeSlotCtrl .fw i 128#32
    | 4 => s.forEach slots fun s i => s.writeSlotCtrl .fw i 256#32
    | 5 => if n < 8 then (s.modTide fun u => { u with alarms := u.alarms.set n t }).writeAlarmHi .fw n (hi32 t) else s
    | 6 => if n < 8 then s.modTide fun u => { u with alarmArmed := u.alarmArmed.set n none } else s
    | _ => s
  (s1, decide (t ≤ s.ltide))

/-- The last 16 SCHED_IDs acted on (13 R363). -/
def State.schedRemember (s : State) (id : Nat) (late : Bool) : State := s.modRing fun r => { r with acted := ((id, late) :: r.acted).take 16 }

/-- The SCHED leaves; the master acts as a target of its own command (13 R362). -/
def State.schedLaunch (s : State) (p : List Byte) : State :=
  let s1 := s.schedFrame p
  let a := s.ring.addr
  if a ≠ 0 && (schedDevs p).testBit (a - 1) && !s.ring.ack.testBit (a - 1) then
    let r := s1.schedAct p
    ((r.1.schedRemember (byteAt p 20).toNat r.2).schedAck a r.2).schedSettle
  else s1.schedSettle

/-- The next link in ascending hop order, or the end of the measurement (13 R352, R358). -/
def State.nextHop (s : State) (h : Nat) : State :=
  let last := s.ring.members.foldl (fun m e => max m e.hop) 0
  if h < last then s.measureHop (h + 1) 1
  else
    let s1 := (s.modRing fun r => { r with measure := none, window := false }).ringFlush
    match s1.ring.sched with
    | some p => if s1.ring.schedSent then s1 else s1.schedLaunch p
    | none => s1

/-- The result of measuring hop h for the n-th time (13 R352). -/
def State.measureResult (s : State) (h n : Nat) (delay : Option Word) : State :=
  match delay with
  | none =>
    if n < 2 then s.measureHop h (n + 1)
    else
      let s1 := s.modRing fun r => { r with members := r.members.map fun m => if m.hop = h then { m with failed := true } else m }
      ((s1.post 0x89 h 0).irq 9).nextHop h
  | some d => (s.modRing fun r => { r with members := r.members.map fun m => if m.hop = h then { m with failed := false, delay := d } else m }).nextHop h

/-- MEASURE_WINDOW_END (13 R352): the measuring member keeps its delay and reports it; none: no reflection. Log 3. -/
def execMeasureWindowEnd (delay : Option Word) (s : State) : Host.Outcome State Fault Refusal :=
  if !s.ring.window then nx s
  else
    let s1 := s.modRing fun r => { r with window := false, linkOut := delay.getD r.linkOut }
    if s.isMaster then
      match s.ring.measure with
      | some (h, n) => nx (if h = 0 then s1.measureResult 0 n delay else s1)
      | none => nx s1
    else nx (s1.ringPut 0x05 0 s.ring.masterAddr (leBytes (delay.getD 0xFFFFFFFF#32).toNat 4))

/-- MEAS_REPORT (13 R352): the master's wait for the hop under measurement ends, with a report or, after 200 µs, without. Log 3. -/
def execMeasReport (delay : Option Word) (s : State) : Host.Outcome State Fault Refusal :=
  match s.ring.measure with
  | some (h, n) =>
    if s.isMaster && h ≠ 0 then
      let s1 := if delay.isNone then s.elapseTo (s.ring.measureAt + 200 * us) else s
      nx (s1.measureResult h n (if delay = some 0xFFFFFFFF#32 then none else delay))
    else nx s
  | none => nx s

/-! Ring checks (13 R358). -/

/-- RING_CHECK (13 R348, R358): the master's check comes back intact after `hops` forwarders, or a member forwards one. Log 3. -/
def execRingCheck (hops : Fin 16) (s : State) : Host.Outcome State Fault Refusal :=
  if !s.ring.rxLock then nx s
  else if !s.isMaster then
    nx (s.ringForward { typ := 2, flags := 2, dst := 0xFF, src := BitVec.ofNat 8 s.ring.masterAddr, seq := 0, hops := hops, payload := [], mac := [], good := true })
  else match s.ring.checkAt with
    | none => nx s
    | some _ =>
      let s1 := s.modRing fun r => { r with checkAt := none }
      if s.ring.closed then nx s1
      else nx (((s1.modRing fun r => { r with closed := true }).post 0x81 0 0 [BitVec.ofNat 32 (hops.val + 1)]).enumPassStart 1 [])

/-- RING_CHECK_TIMER (13 R358): an OPEN master sends a check every 50 µs; while CLOSED a check not back within 100 µs opens the ring.
Log 3, 4, 21. -/
def execRingCheckTimer (s : State) : Host.Outcome State Fault Refusal :=
  if !s.isMaster || s.boot.step = 0 then nx s
  else
    let send (s : State) : State := (s.modRing fun r => { r with checkAt := some s.now }).ringPut 0x02 2 0xFF []
    if s.ring.closed then
      match s.ring.checkAt with
      | some t => nx ((s.elapseTo (t + 100 * us)).ringOpen 3)
      | none => nx (if s.ring.measure.isSome || s.ring.enumPass ≠ 0 then s else send s)
    else match s.ring.checkAt with
      | some t => nx (send (s.elapseTo (t + 50 * us)))
      | none => nx (send s)

/-! Tide frames (13 R354, R355). -/

/-- A TIDE payload (13 Table 13-6). -/
def tidePayload (tide : Tide) (phase frac flags : Nat) (acc : Nat) : List Byte :=
  leBytes tide.toNat 8 ++ [BitVec.ofNat 8 phase, BitVec.ofNat 8 frac, BitVec.ofNat 8 flags, 0] ++ leBytes acc 4

/-- The next multiple of p above t. -/
def nextMultiple (t p : Nat) : Nat := (t / p + 1) * p

/-- TIDE_LAUNCH (13 R354): at the tt edge, or at the end of a frame in progress then, and with its actual launch. Log 3, 4. -/
def execTideLaunch (s : State) : Host.Outcome State Fault Refusal :=
  let st := s.tide.st
  if s.isMaster && (st = .locked || st = .holdover) && s.ring.closed && s.ring.enumPass = 0 && s.ring.measure.isNone then
    let s0 := s.elapseTide (BitVec.ofNat 64 (nextMultiple s.ltide.toNat s.ring.tidePeriod))
    let s1 := (s0.ringDrain s0.ring.waits.length).elapseTo s0.ring.txUntil
    let bad := s.ring.linkOut = 0xFFFFFFFF#32
    let p := tidePayload s1.ltide s1.tide.phase 0 (b2n bad + 2 * b2n (decide (st = .holdover))) (if bad then 0 else s.ring.linkOut.toNat)
    let f := s1.ringNew 0x01 2 0xFF p
    nx ((f.2.modRing fun r => { r with launched := s0.ltide }).ringLeave { cls := 3, frame := f.1, at_ := s1.now } s1.now)
  else nx s

/-- A TIDE frame is forwarded, before every other waiting frame (13 R346, R354). -/
def State.forwardTide (s : State) (f : Frame) : State := s.ringOffer { cls := 1, frame := { f with hops := f.hops + 1 }, at_ := s.now }

/-- TIDE (13 R354, R355, 05 R141): the first bit of SOF arrives dt ck and frac 1/16 ck from now. Log 3, 7. -/
def execTide (f : Frame) (dt : Nat) (frac : Fin 16) (s : State) : Host.Outcome State Fault Refusal :=
  if !s.ring.rxLock then nx s
  else
    let s1 := s.elapse dt
    match s1.ringFate f with
    | .discard n => nx (s1.ringDrop f n)
    | .back => nx s1
    | .mine => nx s1
    | .pass =>
      let p := f.payload
      let valid := frameMaster f && f.src.toNat = s1.ring.masterAddr && !(byteAt p 10).getLsbD 0 && p.length = 16 && !Config.ringMaster
      let sent : Int := ((ofLe (p.take 8)) * 30 + (byteAt p 8).toNat) * 16 + (byteAt p 9).toNat + ofLe ((p.drop 12).take 4)
      let here : Int := s1.tide.pos * 16 + frac.val
      nx ((if valid then s1.memberTide ((here - sent) / 16) else s1).forwardTide f)

/-! The sluice (13 R357). -/

/-- SLUICE_HOLD goes to a level; row is the condition of 13 Table 13-5. -/
def State.sluice (s : State) (high : Bool) (row : Nat) : State :=
  if s.ring.hold = high then s
  else ((if high then s.failLoop 12 false else s).modRing fun r => { r with hold := high, unlockedAt := if high && !r.rxLock then s.now else r.unlockedAt }).post 0x87 0 (b2n high) [BitVec.ofNat 32 row]

/-- SLUICE_RX_FAIL (13 Table 13-5). Log 3, 4. -/
def execSluiceRxFail (s : State) : Host.Outcome State Fault Refusal :=
  if s.ring.hold && !s.ring.rxLock then
    let s1 := s.elapseTo (s.ring.unlockedAt + s.ring.rxFail)
    nx ((s1.modRing fun r => { r with releases := r.releases + 1, releasedAt := some s1.now, stopped := r.stopped || 8 ≤ r.releases + 1 }).sluice false 4)
  else nx s

/-- SLUICE_REHOLD (13 Table 13-5). Log 3, 4. -/
def execSluiceRehold (s : State) : Host.Outcome State Fault Refusal :=
  let r := s.ring
  if r.hold || r.left || r.stopped || s.boot.step = 0 then nx s
  else match r.releasedAt with
    | some t => nx ((s.elapseTo (t + 1000 * ms)).sluice true 4)
    | none => nx ((s.elapse (100 * us)).sluice true 5)

/-! Scheduled commands (13 R362, R363). -/

/-- The result of SCHED_GO where it is refused, 0 where it is accepted (13 R362). -/
def State.schedRefuse (s : State) : Nat :=
  let a := fld s.ring.schedCmd 3 0
  if !s.isMaster then 5
  else if s.ring.sched.isSome then 6
  else if !s.hasRingKey then 7
  else if s.tide.st ≠ .locked then 8
  else if s.ring.schedT.toNat < s.ltide.toNat + s.ring.schedLead then 9
  else if a = 0 || 6 < a then 0xA
  else 0

/-- The SCHED payload of the registers (13 Table 13-9). -/
def State.schedPayload (s : State) (id : Nat) : List Byte :=
  let c := s.ring.schedCmd
  leBytes s.ring.schedT.toNat 8 ++ [BitVec.ofNat 8 (fld c 3 0), BitVec.ofNat 8 (fld c 15 8)] ++ leBytes (fld c 31 16) 2 ++
    leBytes s.ring.schedSlots.toNat 8 ++ [BitVec.ofNat 8 id, 0, 0, 0]

/-- SCHED_GO: its CMD_ERR and the state after (13 R362, R364). -/
def State.schedGo (s : State) : CmdErr × State :=
  let e := s.schedRefuse
  let noKey (s : State) : State := if e = 7 then s.modRing fun r => { r with noKey := true } else s
  if e ≠ 0 then (if e = 5 then .state else .none, noKey (s.modRing fun r => { r with result := e }))
  else
    let id := (s.ring.schedId + 1) % 256
    let p := s.schedPayload id
    let s1 := s.modRing fun r => { r with schedId := id, result := 1, ack := 0, late := 0, sched := some p, schedSent := false, resends := 0 }
    (.none, if s1.ringFree && s1.ring.enumPass = 0 then s1.schedLaunch p else s1)

/-- SCHED (13 R360, R363). Log 3. -/
def execSched (f : Frame) (s : State) : Host.Outcome State Fault Refusal :=
  if !s.ring.rxLock then nx s
  else match s.ringFate f with
    | .discard n => nx (s.ringDrop f n)
    | .back => nx s
    | .mine => nx s
    | .pass =>
      if !s.ringAuthOk f then nx (s.ringDiscard 3)
      else
        let p := f.payload
        let s1 := s.ringForward f
        if s.ring.addr = 0 || !(schedDevs p).testBit (s.ring.addr - 1) then nx s1
        else
          let id := (byteAt p 20).toNat
          let r := match s.ring.acted.find? fun e => e.1 = id with
            | some e => (s1, e.2)
            | none => let a := s1.schedAct p; (a.1.schedRemember id a.2, a.2)
          nx (r.1.ringPut 0x21 1 s.ring.masterAddr [BitVec.ofNat 8 id, BitVec.ofNat 8 (b2n r.2)])

/-- SCHED_ACK (13 R360, R363). Log 3. -/
def execSchedAck (f : Frame) (s : State) : Host.Outcome State Fault Refusal :=
  if !s.ring.rxLock then nx s
  else match s.ringFate f with
    | .discard n => nx (s.ringDrop f n)
    | .back => nx s
    | .pass => nx (s.ringForward f)
    | .mine =>
      if !s.ringAuthOk f then nx (s.ringDiscard 3)
      else if s.isMaster && s.ring.sched.isSome && (byteAt f.payload 0).toNat = s.ring.schedId && 1 ≤ f.src.toNat && f.src.toNat ≤ 16 then
        nx ((s.schedAck f.src.toNat ((byteAt f.payload 1).getLsbD 0)).schedSettle)
      else nx s

/-- SCHED_RESEND (13 R363): 2 ms after the last sending; a device that has met another master sends no SCHED (13 R349). Log 3, 4. -/
def execSchedResend (s : State) : Host.Outcome State Fault Refusal :=
  match s.ring.sched with
  | none => nx s
  | some p =>
    if !s.ring.schedSent then nx s
    else
      let s1 := s.elapseTo (s.ring.schedAt + 2 * ms)
      if 3 ≤ s.ring.resends then nx (s1.schedEnd 4)
      else
        let left := p.take 10 ++ leBytes (schedDevs p &&& (0xFFFF ^^^ s.ring.ack)) 2 ++ p.drop 12
        nx ((if s1.isMaster && s1.ringFree then s1.schedFrame left else s1.modRing fun r => { r with schedAt := s1.now }).modRing fun r => { r with resends := r.resends + 1 })

/-! Registers (13 R364). -/

/-- Sets RING_STATUS.CMD_ERR. -/
def State.ringErr (s : State) (e : CmdErr) : State := s.modRing fun r => { r with cmdErr := e }

/-- A RING_CTRL command: its CMD_ERR and the state after. -/
def State.ringCommand (s : State) (w : Word) : CmdErr × State :=
  if bitOf w 0 then
    (if !s.isMaster then (.state, s) else (.none, if s.ring.closed then (s.modRing fun r => { r with measure := none }).enumPassStart 1 [] else s))
  else if bitOf w 1 then (.none, (s.modRing fun r => { r with left := true }).sluice false 3)
  else if bitOf w 2 then (.none, ((s.failLoop 12 false).modRing fun r => { r with left := false, stopped := false, releases := 0, releasedAt := none }).sluice true 6)
  else if bitOf w 3 then (.none, s.persist 0x1200 4 [0#8])
  else if bitOf w 4 then s.schedGo
  else (.none, s)

/-- A write of RING_CTRL (13 Table 13-12). -/
def State.writeRingCtrl (s : State) (ag : Agent) (w : Word) : State :=
  s.granted ag 2 fun s =>
    if 1 < b2n (bitOf w 0) + b2n (bitOf w 1) + b2n (bitOf w 2) + b2n (bitOf w 3) + b2n (bitOf w 4) then s.ringErr .multiple
    else
      let r := s.ringCommand w
      r.2.ringErr r.1

/-- RING_CTRL ENUMERATE. -/
def execEnumerate (ag : Agent) (w : Word) (s : State) : Host.Outcome State Fault Refusal := nx (s.writeRingCtrl ag (w ||| 1#32))
/-- RING_CTRL LEAVE. -/
def execLeave (ag : Agent) (w : Word) (s : State) : Host.Outcome State Fault Refusal := nx (s.writeRingCtrl ag (w ||| 2#32))
/-- RING_CTRL REJOIN. -/
def execRingRejoin (ag : Agent) (w : Word) (s : State) : Host.Outcome State Fault Refusal := nx (s.writeRingCtrl ag (w ||| 4#32))
/-- RING_CTRL UNBIND. -/
def execRingUnbind (ag : Agent) (w : Word) (s : State) : Host.Outcome State Fault Refusal := nx (s.writeRingCtrl ag (w ||| 8#32))
/-- RING_CTRL SCHED_GO. -/
def execSchedGo (ag : Agent) (w : Word) (s : State) : Host.Outcome State Fault Refusal := nx (s.writeRingCtrl ag (w ||| 16#32))

/-- Whether RING_CFG may take a value (13 Table 13-13). -/
def ringCfgOk (w : Word) : Bool := 1600 ≤ fld w 31 16 && fld w 31 16 ≤ 16000 && fld w 15 12 ≠ 0 && fld w 7 0 ≠ 0

/-- A write of register off of the ring block (13 Table 13-11). -/
def State.writeRing (s : State) (ag : Agent) (off : Nat) (w : Word) : State :=
  if off = 0 then s.writeRingCtrl ag w
  else s.granted ag 2 fun s =>
    let set (f : Ring → Ring) : State := (s.modRing f).ringErr .none
    match off with
    | 0x004 => if ringCfgOk w then set fun r => { r with cfg := w &&& 0xFFFFF0FF#32 } else s.ringErr .value
    | 0x008 => set fun r => { r with discard := r.discard && !bitOf w 0 }
    | 0x020 => set fun r => { r with schedT := cat64 (hi32 r.schedT) w }
    | 0x024 => set fun r => { r with schedT := cat64 w (lo32 r.schedT) }
    | 0x028 => if fld w 3 0 = 0 || 6 < fld w 3 0 then s.ringErr .value else set fun r => { r with schedCmd := w &&& 0xFFFFFF0F#32 }
    | 0x030 => set fun r => { r with schedSlots := cat64 (hi32 r.schedSlots) w }
    | 0x034 => set fun r => { r with schedSlots := cat64 w (lo32 r.schedSlots) }
    | _ => s.ringErr .none

/-- A word of the member table (13 Table 13-15); only the master has one. -/
def State.memberWord (s : State) (n i : Nat) : Word :=
  if !Config.ringMaster then 0#32
  else match s.ring.members[n]? with
    | none => 0#32
    | some m =>
      match i with
      | 0 => lo32 m.serial
      | 1 => hi32 m.serial
      | 2 => packed [(31, 1), (30, b2n m.isNew), (29, b2n m.failed), (28, b2n m.conflict), (16, m.hop), (0, m.addr)]
      | _ => m.delay

/-- A read of register off of the ring block. -/
def State.readRing (s : State) (off : Nat) : Word :=
  let r := s.ring
  match off with
  | 0x004 => r.cfg
  | 0x008 =>
    packed [(29, r.cmdErr.code), (28, b2n r.conflict), (27, b2n r.noKey), (25, r.addrState), (24, b2n r.closed), (23, b2n r.measure.isSome),
      (22, b2n (r.enumPass ≠ 0)), (21, b2n r.hold), (20, b2n r.stopped), (19, b2n r.rxLock), (0, b2n r.discard)]
  | 0x00C => packed [(24, r.masterAddr), (16, r.hop), (0, r.addr)]
  | 0x010 => r.linkOut
  | 0x020 => lo32 r.schedT
  | 0x024 => hi32 r.schedT
  | 0x028 => r.schedCmd
  | 0x030 => lo32 r.schedSlots
  | 0x034 => hi32 r.schedSlots
  | 0x038 => packed [(16, r.ack), (8, r.schedId), (0, r.result)]
  | 0x03C => BitVec.ofNat 32 r.late
  | _ => if 0x100 ≤ off && off < 0x200 then s.memberWord ((off - 0x100) / 16) (off % 16 / 4) else 0#32

/-! The frame queues, which the Anvil cores alone reach (13 R361). -/

/-- A frame enters the transmit queue of 16, where there is room, and leaves when the ring is free. -/
def State.ringQueue (s : State) (f : Frame) : State :=
  if s.ring.txQ.length + (s.ring.waits.filter (·.firm)).length < 16 then (s.modRing fun r => { r with txQ := r.txQ ++ [f] }).ringFlush else s

/-- The frame in the transmit slot; the device adds SRC and HOPS, and MAC and CRC as it leaves. -/
def State.txFrame (s : State) : Frame :=
  let b (a n : Nat) : List Byte := (List.range n).map fun i => tget 0#8 s.ring.txSlot (a + i)
  { typ := byteAt (b 0 1) 0, flags := byteAt (b 1 1) 0, dst := byteAt (b 2 1) 0, src := BitVec.ofNat 8 s.ring.addr, seq := BitVec.ofNat 16 (ofLe (b 6 2)),
    hops := 0, payload := b 12 (min (ofLe (b 4 2)) 260), mac := [], good := true }

/-- The frame at the head of the receive queue is removed. -/
def State.rxPop (s : State) : State := s.modRing fun r => { r with rxQ := r.rxQ.drop 1 }

/-- A write of the frame queues by an agent. -/
def State.writeRingQueue (s : State) (ag : Agent) (off : Nat) (w : Word) : State :=
  match ag with
  | .path _ => s.granted ag 2 fun s => s.ringErr .none
  | _ =>
    let s1 := s.ringErr .none
    if off < 0x520 then s1.modRing fun r => { r with txSlot := ((leBytes w.toNat 4).zipIdx).foldl (fun t e => tset 0#8 t (off - 0x400 + e.2) e.1) r.txSlot }
    else if off = 0x520 then s1.ringQueue s1.txFrame
    else if off = 0x720 then s1.rxPop
    else s1

/-- A read of the frame queues by an agent: 0 from BAR0. -/
def State.readRingQueue (s : State) (ag : Agent) (off : Nat) : Word :=
  match ag with
  | .path _ => 0#32
  | _ =>
    if off < 0x520 then wordOfLe ((List.range 4).map fun i => tget 0#8 s.ring.txSlot (off - 0x400 + i))
    else if 0x600 ≤ off && off < 0x720 then
      match s.ring.rxQ with
      | e :: _ => wordOfLe (padTo 4 ((frameBytes e.1 e.1.hops ++ e.1.mac).drop (off - 0x600)))
      | [] => 0#32
    else 0#32

/-- RING_TX_COMMIT (13 R361). -/
def execRingTxCommit (k : Fin 4) (s : State) : Host.Outcome State Fault Refusal := nx (s.writeRingQueue (.core k) 0x520 0#32)

/-- RING_RX_POP (13 R361). -/
def execRingRxPop (k : Fin 4) (s : State) : Host.Outcome State Fault Refusal := nx (s.writeRingQueue (.core k) 0x720 0#32)

end Sys2Proof.Machine
end

