-- ==== Sys2Proof/Machine/Tray.lean ====
section
/-! DEFINITION. The service UART and the tray bus (14 R366 to R388). -/

namespace Sys2Proof.Machine

/-- The state with the tray block changed by f. -/
def State.modTray (s : State) (f : Tray → Tray) : State := { s with tray := f s.tray }

/-- TRAY_CFG.MODE: 0 OFF, 1 UART, 2 FRAME. -/
def Tray.mode (t : Tray) : Nat := fld t.cfg 31 30
/-- TRAY_CFG.BREAK_LEN. -/
def Tray.breakLen (t : Tray) : Nat := fld t.cfg 20 16
/-- TRAY_CFG.DELIM. -/
def Tray.delim (t : Tray) : Nat := fld t.cfg 15 14
/-- 64 DIV_INT + DIV_FRAC. -/
def Tray.q (t : Tray) : Nat := 64 * t.divInt + t.divFrac
/-- Tick edge n after a start edge in pk, for a tick of q / 64 pk: the nearest, halves up (14 R368, 04 R95). -/
def tickPk (q n : Nat) : Nat := (2 * n * q + 64) / 128
/-- n half bit times in ck (14 R368): a bit is 16 ticks. -/
def Tray.halfBits (t : Tray) (n : Nat) : Nat := 2 * tickPk t.q (8 * n)
/-- n bit times in ck. -/
def Tray.bits (t : Tray) (n : Nat) : Nat := t.halfBits (2 * n)
/-- What a start edge latches (14 R371, R377). -/
def Tray.latch (t : Tray) : TrayLatch :=
  if t.mode = 2 then { q := t.q, data := 8, par := 0 } else { q := t.q, data := 5 + fld t.cfg 29 27, par := fld t.cfg 26 24 }
/-- Half bit times of a character (14 R372, R377). -/
def Tray.charHalf (t : Tray) : Nat :=
  if t.mode = 2 then 20
  else 2 * (1 + (5 + fld t.cfg 29 27) + (if fld t.cfg 26 24 = 0 then 0 else 1)) + (match fld t.cfg 23 22 with | 0 => 2 | 1 => 3 | _ => 4)
/-- RX_SIZE. -/
def Tray.rxSize (t : Tray) : Nat := 2 ^ fld t.rxCfg 3 0
/-- BLK. -/
def Tray.blk (t : Tray) : Nat := fld t.rxCfg 11 4
/-- FRAME_CMD.LEN. -/
def frameLen (c : Word) : Nat := fld c 12 9

/-- A tray event. -/
def State.trayPost (s : State) (typ source code : Nat) (data : List Word := []) : State := s.post typ source code data

/-- A byte of SRAM. -/
def State.sramByte (s : State) (a : Nat) : Byte := tget 0#8 s.sram a

/-- The state with a byte of SRAM set. -/
def State.setSram (s : State) (a : Nat) (v : Byte) : State := { s with sram := tset 0#8 s.sram a v }

/-- Bytes of SRAM from an address on. -/
def State.setSramBytes (s : State) (a : Nat) : List Byte → State
  | [] => s
  | b :: t => (s.setSram a b).setSramBytes (a + 1) t

/-- n bytes of SRAM from an address on. -/
def State.sramBytes (s : State) (a n : Nat) : List Byte := (List.range n).map fun i => s.sramByte (a + i)

/-! UART mode (14 R372 to R376). -/

/-- Closes the open receive block (14 R375). -/
def State.closeBlock (s : State) : State :=
  let s1 := s.modTray fun t => { t with rxWr := (t.rxWr + 2 * t.openWords) % t.rxSize, openWords := 0, block := true }
  if bitOf s.tray.rxCfg 31 then s1.line 42 else s1

/-- A received word goes to the ring, or is dropped (14 R375, R376, R385). -/
def State.rxWord (s : State) (w : Nat) : State :=
  let t := s.tray
  let p := (t.rxWr + 2 * t.openWords) % t.rxSize
  if (p + 2) % t.rxSize = t.rxRd then
    let s1 := s.modTray fun t => { t with rxOvf := true, rxLost := min (t.rxLost + 1) 0xFFFF, lossRun := true }
    if t.lossRun then s1 else (s1.trayPost 0x95 0 0 [BitVec.ofNat 32 s1.tray.rxLost]).irq 11
  else
    let s1 := (s.setSramBytes (t.rxBase.toNat + p) (leBytes w 2)).modTray fun t => { t with openWords := t.openWords + 1, lossRun := false }
    if t.blk ≤ s1.tray.openWords then s1.closeBlock else s1

/-! The receiver (14 R369, R371, R372, R374). -/

/-- Pk that the readings last. -/
def runLen : List LineRun → Nat
  | [] => 0
  | r :: w => r.pk + runLen w

/-- Whether the line reads high t pk after the beginning of the readings. -/
def runHigh : List LineRun → Nat → Bool
  | [], _ => true
  | r :: w, t => if t < r.pk then r.high else runHigh w (t - r.pk)

/-- The readings from t pk on. -/
def runDrop : List LineRun → Nat → List LineRun
  | [], _ => []
  | r :: w, t => if t < r.pk then { r with pk := r.pk - t } :: w else runDrop w (t - r.pk)

/-- The first pk, t or later, at which the line reads high; a is the pk at which the readings begin. -/
def runRise : List LineRun → Nat → Nat → Option Nat
  | [], _, _ => none
  | r :: w, a, t => if r.high && max a t < a + r.pk then some (max a t) else runRise w (a + r.pk) t

/-- The first low reading after a high one, with the readings from it on; hi is the level before them, a the pk at which they begin (14 R369). -/
def runEdge : Bool → List LineRun → Nat → Option (Nat × List LineRun)
  | _, [], _ => none
  | hi, r :: w, a => if r.pk = 0 then runEdge hi w a else if hi && !r.high then some (a, r :: w) else runEdge r.high w (a + r.pk)

/-- The level at the end of the readings; hi is the level before them. -/
def runEnd : Bool → List LineRun → Bool
  | hi, [] => hi
  | hi, r :: w => runEnd (if r.pk = 0 then hi else r.high) w

/-- A received character or break (14 R374). -/
structure TrayChar where
  data    : BitVec 9
  parity  : Bool
  framing : Bool
  brk     : Bool
  deriving DecidableEq, Repr

/-- What the readings show, in pk after the start edge: nothing decided yet; a false start and the re-arm; a character, when it is decided and the
re-arm, none while the line stays low after a break. -/
inductive TrayVerdict where
  | undecided
  | falseStart (rearm : Nat)
  | char (c : TrayChar) (at_ : Nat) (rearm : Option Nat)
  deriving DecidableEq, Repr

/-- Bit k by majority of the samples at its ticks 7, 8 and 9 (14 R369). -/
def trayVote (q : Nat) (w : List LineRun) (k : Nat) : Bool :=
  vote3 (runHigh w (tickPk q (16 * k + 7))) (runHigh w (tickPk q (16 * k + 8))) (runHigh w (tickPk q (16 * k + 9)))

/-- Whether the data bits v and the parity bit p break the parity rule (14 R372). -/
def parityWrong (par v : Nat) (p : Bool) : Bool :=
  let ones := ((List.range 9).filter fun i => v.testBit i).length + b2n p
  match par with
  | 1 => ones % 2 ≠ 0
  | 2 => ones % 2 ≠ 1
  | 3 => !p
  | 4 => p
  | _ => false

/-- The judgement of the readings from a start edge on (14 R369, R372, R374). -/
def trayVerdict (l : TrayLatch) (w : List LineRun) : TrayVerdict :=
  let n := runLen w
  let late := tickPk l.q 9
  if n ≤ late then .undecided
  else if trayVote l.q w 0 then (match runRise w 0 late with | some h => .falseStart h | none => .undecided)
  else
    let stop := l.data + (if l.par = 0 then 1 else 2)
    let last := tickPk l.q (16 * stop + 9)
    let rearm := tickPk l.q (16 * stop + 8)
    if n ≤ last then .undecided
    else
      let v := maskOf ((List.range l.data).map fun k => trayVote l.q w (k + 1))
      let p := l.par ≠ 0 && trayVote l.q w (stop - 1)
      let c : TrayChar := { data := BitVec.ofNat 9 v, parity := parityWrong l.par v p, framing := !trayVote l.q w stop, brk := false }
      if !c.framing || v ≠ 0 || p then .char c last (some rearm)
      else
        let low := tickPk l.q 176
        match runRise w 0 0 with
        | some h =>
          if h < low then .char c (max h last) (some rearm)
          else .char { data := 0#9, parity := false, framing := true, brk := true } (max low last) (runRise w 0 (max low last))
        | none => if n < low then .undecided else .char { data := 0#9, parity := false, framing := true, brk := true } (max low last) none

/-- The word of a received character or break (14 R374). -/
def trayWord (c : TrayChar) : Nat :=
  if c.brk then 0xC00 else c.data.toNat + 512 * b2n c.parity + 1024 * b2n c.framing

/-- A character whose start edge fell at ck a arrives in a frame, its stop bit ending at ck e (14 R380). -/
def State.frameChar (s : State) (f : TrayFrame) (c : TrayChar) (a e : Nat) : State :=
  let b := c.data.setWidth 8
  match f.echo with
  | some x => s.modTray fun t => { t with frame := some { f with echo := none, bitErr := f.bitErr || b ≠ x || c.framing } }
  | none =>
    if f.toSend.isEmpty && !bitOf f.cmd 8 && f.rx.length ≤ frameLen f.cmd && !f.framing && f.pidEnd ≤ a && a ≤ f.respEnd then
      let late := decide (f.respEnd < e)
      s.modTray fun t =>
        { t with
          frame := some { f with
            begun := true, rx := if c.framing || late then f.rx else f.rx ++ [b], framing := f.framing || (c.framing && !late)
            rxEnd := if late then f.rxEnd else e } }
    else s

/-- The DK6400 was sending at ck a (14 R374). -/
def Tray.sendingAt (t : Tray) (a : Nat) : Bool := match t.txEnd with | some e => decide (t.txFrom ≤ a ∧ a < e) | none => false

/-- A character received, its start edge at ck a (14 R374, R377, R380). -/
def State.trayChar (s : State) (a : Nat) (c : TrayChar) : State :=
  let t := s.tray
  let e := a + t.halfBits t.charHalf
  let s1 := s.modTray fun t => { t with framing := t.framing || c.framing, parity := t.parity || c.parity, lastStop := max s.now e }
  if t.mode = 1 then (if bitOf t.cfg 21 && t.sendingAt a then s1 else s1.rxWord (trayWord c))
  else match t.frame with | some f => s1.frameChar f c a e | none => s1

/-- The ck at which the line has stayed high for RX_IDLE bit times (14 R375). -/
def Tray.idleAt (t : Tray) : Nat := t.lastStop + t.bits (fld t.cfg 13 6)

/-- Detection is armed again p pk after the start edge of a reception (14 R369): an edge in the readings from there on begins the next. -/
def State.rearmTray (s : State) (r : TrayIn) (p : Nat) : State :=
  match runEdge (runHigh r.wave p) (runDrop r.wave p) p with
  | some (n, w) =>
    s.modTray fun t => { t with rx := some { start := r.start + 2 * n, lat := t.latch, wave := w }, low := false, rxBusy := decide (r.start + 2 * n ≤ s.now) }
  | none => s.modTray fun t => { t with rx := none, low := !runEnd (runHigh r.wave p) (runDrop r.wave p), rxBusy := false }

/-- What the readings of a reception show by now (14 R369, R374). The block open so far closes first where the line stood high long enough before the
start edge (14 R375). -/
def State.judgeTray (s : State) (r : TrayIn) : State :=
  let s0 := if s.tray.mode = 1 && s.tray.openWords ≠ 0 && s.tray.idleAt ≤ r.start then s.closeBlock else s
  match trayVerdict r.lat r.wave with
  | .undecided => (s0.elapseTo (r.start + 2 * runLen r.wave)).modTray fun t => { t with rx := some r, low := false, rxBusy := true }
  | .falseStart p =>
    ((s0.elapseTo (r.start + 2 * p)).modTray fun t => { t with lastStop := max t.lastStop (r.start + 2 * p) }).rearmTray r p
  | .char c a rearm =>
    let s1 := (s0.elapseTo (r.start + 2 * a)).trayChar r.start c
    match rearm with
    | some p => s1.rearmTray r p
    | none => s1.modTray fun t => { t with rx := none, low := true, rxBusy := true }

/-- TRAY_CHAR_RECEIVED (14 R369, R374, R380): the next readings of TRAY_RXD bring at most one character to its decision;
readings that end before it leave the reception in progress. Log 135. -/
def execTrayCharReceived (line : TrayLine) (s : State) : Host.Outcome State Fault Refusal :=
  let w := line.runs
  let dt := line.dt
  let t := s.tray
  if t.mode = 0 then nx s
  else
    match t.rx with
    | some r => nx (s.judgeTray { r with wave := r.wave ++ w })
    | none =>
      match runEdge (!t.low) w 0 with
      | some (n, w1) => nx (s.judgeTray { start := s.now + dt + 2 * n, lat := t.latch, wave := w1 })
      | none =>
        let up := runRise w 0 0
        nx ((s.elapse (dt + 2 * runLen w)).modTray fun t =>
          { t with
            low := !runEnd (!t.low) w, rxBusy := t.rxBusy && up.isNone
            lastStop := match up with | some h => if t.low then max t.lastStop (s.now + dt + 2 * h) else t.lastStop | none => t.lastStop })

/-- RX_IDLE_CLOSE (14 R375). Log 3, 4. -/
def execRxIdleClose (s : State) : Host.Outcome State Fault Refusal :=
  if s.tray.mode = 1 && s.tray.openWords ≠ 0 && !s.tray.rxBusy && !s.tray.low then nx ((s.elapseTo s.tray.idleAt).closeBlock)
  else nx s

/-- A break begins at ck a: BREAK_LEN bits low and the delimiter (14 R373, R378). -/
def State.sendBreak (s : State) (a : Nat) : State :=
  (s.emit (.trayBreak s.tray.breakLen)).modTray fun t =>
    { t with txFrom := a, txEnd := some (a + t.bits (t.breakLen + 1 + t.delim)), frame := t.frame.map fun f => { f with brk := false } }

/-- A character begins at ck a (14 R373). -/
def State.sendChar (s : State) (a : Nat) (c : BitVec 9) : State :=
  (s.emit (.tray c)).modTray fun t => { t with txFrom := a, txEnd := some (a + t.halfBits t.charHalf) }

/-- Bytes of the response that the DK6400 sends (14 R378). -/
def TrayFrame.dataLen (f : TrayFrame) : Nat := if bitOf f.cmd 8 then frameLen f.cmd + 1 else 0

/-- The next byte b of a frame leaves, q following it: the first of a PUBLISH response 1 bit time after the PID stop bit, every other at the end of
the stop bit before it (14 R378). The end of the PID sets RESP_MAX (14 R380). -/
def State.sendFrameByte (s : State) (f : TrayFrame) (b : Byte) (q : List Byte) : State :=
  let e := s.tray.txEnd.getD 0
  let s1 := s.elapseTo (if q.length + 1 = f.dataLen then e + s.tray.bits 1 else e)
  let s2 := s1.sendChar s1.now (b.setWidth 9)
  s2.modTray fun t =>
    let pidEnd := if q.length = f.dataLen then t.txEnd.getD 0 else f.pidEnd
    { t with frame := some { f with toSend := q, echo := some b, pidEnd := pidEnd, respEnd := pidEnd + t.bits (14 * (frameLen f.cmd + 1)) } }

/-- TRAY_CHAR_TRANSMIT (14 R373, R378): the next character or break leaves once the last has ended, the break of a frame not before 4 bit times after
the frame before it (14 R380). A byte whose read-back has not come by its end is the last (14 R380). Log 3, 4, 135. -/
def execTrayCharTransmit (s : State) : Host.Outcome State Fault Refusal :=
  let t := s.tray
  match t.mode with
  | 1 =>
    let s1 := s.elapseTo (t.txEnd.getD 0)
    match t.breaks, t.txFifo with
    | 0 :: r, _ => nx ((s1.sendBreak s1.now).modTray fun x => { x with breaks := r })
    | bs, c :: q => nx ((s1.sendChar s1.now c).modTray fun x => { x with txFifo := q, breaks := bs.map (· - 1) })
    | _, [] => nx s
  | 2 =>
    match t.frame with
    | some f =>
      if f.brk then (let s1 := s.elapseTo (max t.holdOff (t.txEnd.getD 0)); nx (s1.sendBreak s1.now))
      else
        match f.toSend, f.echo with
        | b :: q, none => if f.bitErr || f.abort then nx s else nx (s.sendFrameByte f b q)
        | _ :: _, some _ =>
          nx ((s.elapseTo (t.txEnd.getD 0)).modTray fun x => { x with frame := some { f with echo := none, bitErr := true } })
        | [], _ => nx s
    | none => nx s
  | _ => nx s

/-! FRAME mode (14 R377 to R380). -/

/-- The protected identifier (14 R378). -/
def trayPid (id : Nat) : Byte :=
  let b (i : Nat) : Bool := id.testBit i
  let p0 := (b 0 ^^ b 1) ^^ (b 2 ^^ b 4)
  let p1 := !((b 1 ^^ b 3) ^^ (b 4 ^^ b 5))
  BitVec.ofNat 8 (id % 64 + 64 * b2n p0 + 128 * b2n p1)

/-- The sum of bytes with each carry added back, inverted (14 R379). -/
def traySum (l : List Byte) : Byte := ~~~ BitVec.ofNat 8 (l.foldl (fun a b => let n := a + b.toNat; if 255 < n then n - 255 else n) 0)

/-- The checksum of a frame (14 R379): enhanced where asked, never for 0x3C and 0x3D. -/
def trayCheck (cmd : Word) (pid : Byte) (data : List Byte) : Byte :=
  let id := fld cmd 5 0
  if bitOf cmd 13 && id ≠ 0x3C && id ≠ 0x3D then traySum (pid :: data) else traySum data

/-- Sets TRAY_STATUS.CMD_ERR. -/
def State.trayErr (s : State) (e : CmdErr) : State := s.modTray fun t => { t with cmdErr := e }

/-- The data bytes of FRAME_TX. -/
def Tray.txBytes (t : Tray) : List Byte := (leBytes t.frameTx.toNat 8).take (frameLen t.frameCmd)

/-- A TRAY_CTRL command: its CMD_ERR and the state after (14 R373, R375, R378, R380). -/
def State.trayCommand (s : State) (w : Word) : CmdErr × State :=
  let t := s.tray
  if bitOf w 0 then
    (if t.mode = 2 then (.state, s) else (.none, s.modTray fun t => { t with breaks := t.breaks ++ [t.txFifo.length] }))
  else if bitOf w 1 then (.none, if t.openWords = 0 || t.mode = 2 then s else s.closeBlock)
  else if bitOf w 2 then
    if t.mode ≠ 2 || t.frame.isSome then (.state, s)
    else
      let c := t.frameCmd
      let pid := trayPid (fld c 5 0)
      let data := if bitOf c 8 then t.txBytes ++ [trayCheck c pid t.txBytes] else []
      let s1 := s.modTray fun t => { t with frame := some { cmd := c, pid := pid, toSend := [0x55#8, pid] ++ data, brk := true, pidEnd := 0 } }
      (.none, if max t.holdOff (t.txEnd.getD 0) ≤ s.now then s1.sendBreak s.now else s1)
  else if bitOf w 3 then (.none, s.modTray fun t => { t with frame := t.frame.map fun f => { f with abort := true } })
  else (.none, s)

/-- A write of TRAY_CTRL: more than one bit is MULTIPLE (14 R387). -/
def State.writeTrayCtrl (s : State) (ag : Agent) (w : Word) : State :=
  s.granted ag 2 fun s =>
    if 1 < b2n (bitOf w 0) + b2n (bitOf w 1) + b2n (bitOf w 2) + b2n (bitOf w 3) then s.trayErr .multiple
    else
      let r := s.trayCommand w
      r.2.trayErr r.1

/-- TRAY_CTRL TX_BREAK (14 R373). -/
def execTxBreak (ag : Agent) (w : Word) (s : State) : Host.Outcome State Fault Refusal := nx (s.writeTrayCtrl ag (w ||| 1#32))
/-- TRAY_CTRL FLUSH_RX (14 R375). -/
def execFlushRx (ag : Agent) (w : Word) (s : State) : Host.Outcome State Fault Refusal := nx (s.writeTrayCtrl ag (w ||| 2#32))
/-- TRAY_CTRL FRAME_GO (14 R378). -/
def execFrameGo (ag : Agent) (w : Word) (s : State) : Host.Outcome State Fault Refusal := nx (s.writeTrayCtrl ag (w ||| 4#32))
/-- TRAY_CTRL ABORT (14 R380). -/
def execAbort (ag : Agent) (w : Word) (s : State) : Host.Outcome State Fault Refusal := nx (s.writeTrayCtrl ag (w ||| 8#32))

/-- The result of a frame that ends now, and whether it ends only when RESP_MAX expires; none where it goes on (14 Table 14-1). A byte whose read-back
has not come by its end differs (14 R380). -/
def TrayFrame.outcome (f : TrayFrame) : Option (Nat × Bool) :=
  if f.bitErr || f.echo.isSome then some (6, false)
  else if f.abort then some (7, false)
  else if !f.toSend.isEmpty then none
  else if bitOf f.cmd 8 then some (1, false)
  else if f.framing then some (5, false)
  else if f.rx.length = frameLen f.cmd + 1 then
    some (if trayCheck f.cmd f.pid (f.rx.take (frameLen f.cmd)) = f.rx.getLastD 0 then 1 else 4, false)
  else if !f.begun then some (2, true)
  else some (3, true)

/-- Loads FRAME_RESULT and FRAME_RX (14 R380, Table 14-10). -/
def State.frameResult (s : State) (cmd : Word) (pid : Byte) (rx : List Byte) (res : Nat) : State :=
  let n := frameLen cmd
  let s1 := s.modTray fun t =>
    { t with
      result := packed [(16, if rx.length = n + 1 then (rx.getLastD 0).toNat else 0), (8, pid.toNat), (4, rx.length), (0, res)]
      frameRx := if bitOf cmd 8 then t.frameRx else BitVec.ofNat 64 (ofLe (rx.take n))
      frame := none }
  if bitOf s.tray.cfg 5 then s1.line 42 else s1

/-- The end of what the frame has in progress: the break or byte sent, the response byte received last or being received. -/
def State.byteEnd (s : State) (f : TrayFrame) : Nat :=
  let rx := match s.tray.rx with | some r => if r.start ≤ s.now then r.start + s.tray.halfBits s.tray.charHalf else 0 | none => 0
  max (s.tray.txEnd.getD 0) (max f.rxEnd rx)

/-- FRAME_END (14 R380). Log 3, 4. -/
def execFrameEnd (s : State) : Host.Outcome State Fault Refusal :=
  match s.tray.frame with
  | none => nx s
  | some f =>
    match f.outcome with
    | none => nx s
    | some (res, late) =>
      let f1 := { f with begun := f.begun || (match s.tray.rx with | some r => decide (f.pidEnd ≤ r.start ∧ r.start ≤ f.respEnd) | none => false) }
      let s1 := if late then s.elapseTo f.respEnd else s.elapseTo (s.byteEnd f)
      let failed := !bitOf f.cmd 8 && res ≠ 1
      let res1 := if late then (if f1.begun then 3 else 2) else res
      nx ((s1.frameResult f.cmd f.pid f.rx res1).modTray fun t => { t with holdOff := (if failed then max s1.now f.respEnd else s1.now) + t.bits 4 })

/-! Registers (14 R387). -/

/-- A write of TRAY_TX (14 R373, R377). -/
def State.writeTrayTx (s : State) (v : Word) : State :=
  if s.tray.mode = 2 || 32 ≤ s.tray.txFifo.length then s.trayErr .state
  else (s.modTray fun t => { t with txFifo := t.txFifo ++ [v.setWidth 9] }).trayErr .none

/-- TRAY_TX (14 R373). -/
def execTrayTx (ag : Agent) (v : Word) (s : State) : Host.Outcome State Fault Refusal := nx (s.granted ag 2 fun s => s.writeTrayTx v)

/-- The divider of a rate: DIV_INT, DIV_FRAC, FRACT (14 R367). -/
def trayDivider (r : Nat) : Nat × Nat × Bool :=
  let i := (30000000 + r) / (2 * r)
  let d : Int := (15000000 : Int) - (r * i : Nat)
  if 1000 * d.natAbs ≤ r * i then (i, 0, false)
  else
    let f := (128 * (15000000 % r) + r) / (2 * r)
    if f = 64 then (15000000 / r + 1, 0, true) else (15000000 / r, f, true)

/-- A write of TRAY_BAUD. -/
def State.writeTrayBaud (s : State) (v : Word) : State :=
  let r := fld v 21 0
  if r < 1200 || 3000000 < r then s.trayErr .value
  else
    let d := trayDivider r
    (s.modTray fun t => { t with rate := r, divInt := d.1, divFrac := d.2.1, fract := d.2.2 }).trayErr .none

/-- TRAY_BAUD_WRITE (14 R367). -/
def execTrayBaudWrite (ag : Agent) (v : Word) (s : State) : Host.Outcome State Fault Refusal := nx (s.granted ag 2 fun s => s.writeTrayBaud v)

/-- A write of RX_RD (14 R376). -/
def State.writeRxRd (s : State) (v : Word) : State :=
  let t := s.tray
  let n := t.rxSize
  let i := v.toNat
  if i % 2 = 1 || n ≤ i || (t.rxWr + n - t.rxRd) % n < (i + n - t.rxRd) % n then s.trayErr .value
  else (s.modTray fun t => { t with rxRd := i }).trayErr .none

/-- RX_RD_WRITE (14 R376). -/
def execRxRdWrite (ag : Agent) (v : Word) (s : State) : Host.Outcome State Fault Refusal := nx (s.granted ag 2 fun s => s.writeRxRd v)

/-- A character or break is being sent (TX_BUSY). -/
def State.trayTxBusy (s : State) : Bool := s.tray.sendingAt s.now

/-- Whether TRAY_CFG may take a value (14 Table 14-7). -/
def trayCfgOk (w : Word) : Bool :=
  fld w 31 30 ≠ 3 && fld w 29 27 ≤ 4 && fld w 26 24 ≤ 4 && fld w 23 22 ≠ 3 && 13 ≤ fld w 20 16 && fld w 13 6 ≠ 0

/-- A write of TRAY_CFG. -/
def State.writeTrayCfg (s : State) (w : Word) : State :=
  if !trayCfgOk w then s.trayErr .value
  else if fld w 31 30 ≠ s.tray.mode && (s.trayTxBusy || s.tray.rxBusy || s.tray.frame.isSome) then s.trayErr .locked
  else ((if fld w 31 30 = 0 then s else s.failLoop 13 false).modTray fun t => { t with cfg := w &&& 0xFFFFFFE0#32 }).trayErr .none

/-- A write of register off of the tray block (14 Table 14-6). -/
def State.writeTray (s : State) (ag : Agent) (off : Nat) (w : Word) : State :=
  if off = 0 then s.writeTrayCtrl ag w
  else s.granted ag 2 fun s =>
    match off with
    | 0x004 => s.writeTrayCfg w
    | 0x008 => s.writeTrayBaud w
    | 0x010 =>
      (s.modTray fun t => { t with block := t.block && !bitOf w 3, rxOvf := t.rxOvf && !bitOf w 2, framing := t.framing && !bitOf w 1,
                                   parity := t.parity && !bitOf w 0 }).trayErr .none
    | 0x014 => s.writeTrayTx w
    | 0x020 =>
      if w.toNat < 0x20000000 || 0x20080000 < w.toNat + s.tray.rxSize || w.toNat % s.tray.rxSize ≠ 0 then s.trayErr .value
      else if s.tray.mode = 1 then s.trayErr .locked
      else (s.modTray fun t => { t with rxBase := w }).trayErr .none
    | 0x024 =>
      if fld w 11 4 < 4 || 128 < fld w 11 4 || fld w 3 0 < 8 then s.trayErr .value
      else if s.tray.mode = 1 then s.trayErr .locked
      else (s.modTray fun t => { t with rxCfg := w &&& 0x80000FFF#32 }).trayErr .none
    | 0x02C => s.writeRxRd w
    | 0x040 =>
      if fld w 12 9 = 0 || 8 < fld w 12 9 || 0x3E ≤ fld w 5 0 then s.trayErr .value
      else (s.modTray fun t => { t with frameCmd := w &&& 0x3F3F#32 }).trayErr .none
    | 0x044 => (s.modTray fun t => { t with frameTx := cat64 (hi32 t.frameTx) w }).trayErr .none
    | 0x048 => (s.modTray fun t => { t with frameTx := cat64 w (lo32 t.frameTx) }).trayErr .none
    | _ => s.trayErr .none

/-- A read of register off of the tray block. -/
def State.readTray (s : State) (off : Nat) : Word :=
  let t := s.tray
  match off with
  | 0x004 => t.cfg
  | 0x008 => BitVec.ofNat 32 t.rate
  | 0x00C => packed [(31, b2n t.fract), (6, t.divInt), (0, t.divFrac)]
  | 0x010 =>
    packed [(29, t.cmdErr.code), (13, t.rxLost), (7, t.txFifo.length), (6, b2n t.frame.isSome), (5, b2n t.rxBusy), (4, b2n s.trayTxBusy),
      (3, b2n t.block), (2, b2n t.rxOvf), (1, b2n t.framing), (0, b2n t.parity)]
  | 0x020 => t.rxBase
  | 0x024 => t.rxCfg
  | 0x028 => BitVec.ofNat 32 t.rxWr
  | 0x02C => BitVec.ofNat 32 t.rxRd
  | 0x040 => t.frameCmd
  | 0x044 => lo32 t.frameTx
  | 0x048 => hi32 t.frameTx
  | 0x04C => t.result
  | 0x050 => lo32 t.frameRx
  | 0x054 => hi32 t.frameRx
  | _ => 0#32

/-! The tray protocol (14 R381 to R385). -/

/-- The latch policy of slot i (14 R383). -/
def State.policy (s : State) (i : Nat) : Nat := s.dictNum 0x2600 (0x10 + i) 0

/-- Whether the policy of slot i calls for a lock (14 R383). -/
def State.wantsLock (s : State) (i : Nat) : Bool :=
  let x := s.slot i
  match s.policy i with
  | 1 => x.st = .busy || x.holder.isSome ||
      (match x.lastBusy with | some t => decide (s.now < t + s.dictNum 0x2600 4 500 * ms) | none => false)
  | 2 => x.inActivation || x.inService || x.st = .quenching
  | 3 => true
  | _ => false

/-- Slot i stands at a used position of a set that is OUT or SUSPECT. -/
def State.slotSuspect (s : State) (i : Nat) : Bool :=
  s.flow.sets.any fun e => [0, 1, 2, 3, 4, 5].any fun p => e.2.used p && e.2.slotOf p = i && (e.2.at p = .out || e.2.suspect.testBit p)

/-- The indicator code of slot i (14 Table 14-3). -/
def State.indicator (s : State) (i : Nat) : Nat :=
  let x := s.slot i
  if (s.dictNum 0x2600 5 0).testBit i then 7
  else if x.st = .fault || x.st = .quenching then 5
  else if s.slotSuspect i then 6
  else if x.st = .parked then 4
  else if x.inActivation then 2
  else if x.inService then 1
  else if x.st = .present then 3
  else 0

/-- The data of TRAY_CMD for controller n (14 Table 14-2). -/
def State.trayCmd (s : State) (n : Nat) : List Byte :=
  let lock := maskOf ((List.range 8).map fun k => s.wantsLock (8 * n + k))
  [BitVec.ofNat 8 lock, s.tray.seq] ++ [0, 1, 2, 3].map fun j => BitVec.ofNat 8 (s.indicator (8 * n + 2 * j) + 16 * s.indicator (8 * n + 2 * j + 1))

/-- The state with controller n changed by f. -/
def State.modCtl (s : State) (n : Nat) (f : TrayCtl → TrayCtl) : State := s.modTray fun t => { t with ctls := tset {} t.ctls n (f (tget {} t.ctls n)) }

/-- A change of DOOR_CLOSED or SERVICE_REQ of controller n (14 R385). -/
def State.trayBit (s : State) (typ n : Nat) (old : Option Bool) (new : Bool) : State :=
  match old with
  | some b => if b = new then s else s.trayPost typ n (b2n new)
  | none => s

/-- The answer to TRAY_STAT of controller n (14 R385). -/
def State.trayStat (s : State) (n : Nat) (a : TrayAnswer) : State :=
  let c := tget {} s.tray.ctls n
  if a.result ≠ 1#4 then
    let fails := c.fails + 1
    if !c.lost && s.dictNum 0x2600 3 3 ≤ fails then
      ((s.modCtl n fun c => { c with fails := fails, lost := true, locked := none }).trayPost 0x90 n a.result.toNat).irq 11
    else s.modCtl n fun c => { c with fails := fails }
  else
    let closed := byteAt a.bytes 0
    let locked := byteAt a.bytes 1
    let door := (byteAt a.bytes 2).getLsbD 0
    let svc := (byteAt a.bytes 2).getLsbD 1
    let s1 := if c.lost then s.trayPost 0x91 n 0 [closed.setWidth 32, locked.setWidth 32] else s
    let s2 := (s1.trayBit 0x92 n c.door door).trayBit 0x94 n c.svc svc
    let forced := (List.range 8).filter fun k => !closed.getLsbD k && (c.locked.getD 0).getLsbD k && c.lock.getLsbD k
    let s3 := s2.forEach forced fun s k => (s.trayPost 0x93 (8 * n + k) 0 [BitVec.ofNat 32 (s.policy (8 * n + k))]).irq 11
    s3.modCtl n fun c => { c with fails := 0, lost := false, locked := some locked, door := some door, svc := some svc }

/-- A frame of the cycle: FRAME_CMD, FRAME_TX for a PUBLISH, then the break and the bytes l that the DK6400 sends, at their times (14 R378, R380). -/
def State.trayFrame (s : State) (cmd : Word) (data l : List Byte) : State :=
  let s0 := s.modTray fun t => { t with frameCmd := cmd, frameTx := if data.isEmpty then t.frameTx else BitVec.ofNat 64 (ofLe data), cmdErr := .none }
  let s1 := s0.elapseTo (max s0.tray.holdOff (s0.tray.txEnd.getD 0))
  let s2 := s1.sendBreak s1.now
  let s3 := l.foldl (fun s b => s.emit (.tray (b.setWidth 9))) s2
  let e := s2.tray.txEnd.getD 0 + s2.tray.bits (10 * l.length + (if data.isEmpty then 0 else 1))
  (s3.elapseTo e).modTray fun t => { t with txFrom := e - t.bits 10, txEnd := some e, holdOff := e + t.bits 4 }

/-- TRAY_CMD and TRAY_STAT of controller n (14 R381, R382). Log 135. -/
def State.trayPair (s : State) (n : Nat) (a : TrayAnswer) : State :=
  let d := s.trayCmd n
  let pid := trayPid (8 + n)
  let cmd := BitVec.ofNat 32 (0x2D08 + n)
  let s1 := (s.trayFrame cmd d ([0x55#8, pid] ++ d ++ [traySum (pid :: d)])).frameResult cmd pid [] 1
  let s2 := (s1.modTray fun t => { t with seq := t.seq + 1 }).modCtl n fun c => { c with lock := byteAt d 0 }
  let ask := BitVec.ofNat 32 (0x2810 + n)
  let s3 := s2.trayFrame ask [] [0x55#8, trayPid (16 + n)]
  let respMax := s3.tray.bits 70
  let respEnd := s3.now + respMax
  let rx := if a.result = 1#4 then a.bytes.take 4 ++ [traySum (trayPid (16 + n) :: a.bytes.take 4)] else []
  let s4 := s3.elapse (if a.result = 2#4 || a.result = 3#4 then respMax else min a.after respMax)
  let s5 := (s4.frameResult ask (trayPid (16 + n)) rx a.result.toNat).modTray fun t =>
    { t with holdOff := (if a.result = 1#4 then s4.now else max s4.now respEnd) + t.bits 4 }
  s5.trayStat n a

/-- The fitted controllers, ascending. -/
def State.controllers (s : State) : List Nat := (List.range 8).filter fun n => (s.dictNum 0x2600 1 0).testBit n

/-- TRAY_CYCLE (14 R382): `answers` are how TRAY_STAT ends for the fitted controllers in order. Log 3, 4. -/
def execTrayCycle (answers : List TrayAnswer) (s : State) : Host.Outcome State Fault Refusal :=
  if s.tray.mode ≠ 2 || s.tray.frame.isSome || s.tray.rxBusy || !s.serving || !(List.range 4).any s.coreRuns then nx s
  else
    let s1 := s.elapseSince s.tray.cycleAt (s.dictNum 0x2600 2 50 * ms)
    let s2 := s1.modTray fun t => { t with cycleAt := some s1.now }
    nx ((s2.controllers.zip answers).foldl (fun s e => s.trayPair e.1 e.2) s2)

end Sys2Proof.Machine
end

