-- ==== Sys2Proof/Machine/Loop.lean ====
section
/-! DEFINITION. Loop-backs (17 R441 to R446). -/

namespace Sys2Proof.Machine

/-- The block number of a block of 17 Table 17-1. -/
def loopNum : LoopBlock → Nat
  | .polder p => p.val
  | .ledger p => 8 + p.val
  | .ring => 12
  | .tray => 13
  | .device => 14

/-- Block b is a polder, a ledger port, the ring, the tray bus or the host paths. -/
def loopDepths (b : Nat) : List Nat :=
  if b < 8 then [1, 2, 3] else if b < 12 then [1, 2, 4] else if b = 12 then [1, 2, 4] else if b = 13 then [1, 2] else [2]

/-- The greatest INDEX of block b. -/
def loopIndexMax (b : Nat) : Nat := if b < 8 then 7 else if b < 12 then 3 else if b < 14 then 0 else 1

/-- The start and keep condition of 17 Table 17-4 for block b at a depth and INDEX. `start` adds what holds at the start alone. -/
def State.loopCond (s : State) (b depth i : Nat) (start : Bool) : Bool :=
  if b < 8 then
    let x := s.slot (8 * b + i)
    let p := s.polder b
    x.st = .parked && !x.seq.discharging && (depth ≠ 2 || (!x.seq.pres && !p.warn && !p.lowLow && (!start || (x.seq.gapFrom.isNone && !x.seq.leaking && x.seq.vcc = .off))))
  else if b < 12 then
    let p := b - 8
    if depth = 4 then (s.port p).en && (s.lp (4 * p + i)).st = .ready
    else !(s.port p).en && (List.range 4).all fun a => (s.lp (4 * p + a)).st = .absent
  else if b = 12 then
    if depth = 4 then s.isMaster && s.ring.closed && s.ring.enumPass = 0 && s.ring.measure.isNone else s.ring.left && !s.ring.hold
  else if b = 13 then s.tray.mode = 0
  else !s.linkUp (pathOf (i = 1))

/-- Sets LOOP_STATUS.CMD_ERR of block b. -/
def State.loopErr (s : State) (b : Nat) (e : CmdErr) : State := s.modLoop b fun u => { u with cmdErr := e }

/-- The loop-back of block b ends with a result, and what it set up is taken back (17 R443, R445, R446). -/
def State.stopLoop (s : State) (b r : Nat) : State :=
  let u := s.loop b
  let i := 8 * b + u.index
  let s1 := s.endLoop b r
  if b < 8 then
    if u.depth = 2 then (if (s1.slot i).powered then s1.beginDeact i true else s1.modSlot i fun x => { x with seq := { x.seq with phase := .none } })
    else if u.depth = 3 then
      s1.modSlot i fun x =>
        { x with pr := {}, ch := {}, regs := { x.regs with
            protCfg := ({} : SlotRegs).protCfg
            charCfg := setFld (setFld (setFld x.regs.charCfg 31 30 0) 29 29 0) 17 9 12
            charEtu := setFld (setFld (setFld x.regs.charEtu 31 31 0) 11 8 1) 7 4 1 } }
    else s1
  else s1

/-! The card responder of PROTOCOL (17 R446). -/

/-- The responder's answer to reset. -/
def responderAtr : List Byte := [0x3B#8, 0x80#8, 0x81#8, 0x31#8, 0x20#8, 0x45#8, 0x55#8]

/-- INF of exchange k. -/
def loopInf (k : Nat) : List Byte := (List.range 16).map fun i => BitVec.ofNat 8 (k + i)

/-- The I-block of the engine in exchange k, and the responder's valid reply: N(S) starts at 0 and alternates. -/
def loopBlock (k : Nat) : List Byte := blockOf false (BitVec.ofNat 8 (64 * ((k + 1) % 2))) (loopInf k)

/-- What slot x holds after exchange k with the responder: its ATR, the default negotiation under T=1, the block sent and the reply. -/
def Slot.afterExchange (x : Slot) (k : Nat) : Slot :=
  let p := (parseAtr responderAtr).params {}
  let odd := k % 2 = 1
  { x with
    regs := x.regs.engine 1 1 (txGt p.guardN 1) false
    pr := { p with
      proto := 1, settled := true, negResult := 1
      t1 := { ns := odd, nr := odd, last := loopBlock k, lastI := loopBlock k, lastINs := !odd, lastILen := 16, acc := loopInf k } }
    ch := { x.ch with atr := responderAtr, atrOn := true, atrDone := true, convSet := true, inverse := false } }

/-- A loop-back whose keep condition no longer holds ends ABORTED (17 R443). -/
def State.keepLoop (s : State) (b : Nat) : State :=
  let u := s.loop b
  if u.running && !s.loopCond b u.depth u.index false then s.stopLoop b 4 else s

/-- Whether an agent may start the loop-back of a host path: through the other path, or firmware (17 Table 17-4). -/
def loopAgentOk (b i : Nat) : Agent → Bool
  | .path p => b ≠ 14 || i ≠ pathNum p
  | _ => true

/-- An accepted GO of block b: RUNNING; a slot's PAD asks for a class C ramp (17 R442, R445). -/
def State.startLoop (s : State) (b : Nat) (w : Word) : State :=
  let s1 := s.modLoop b fun _ => { cmdErr := .none, result := 1, units := 0, errors := 0, ctrl := w }
  if b < 8 && fld w 10 8 = 2 then
    s1.modSlot (8 * b + fld w 2 0) fun x => { x with seq := { x.seq with phase := .wait, tryCls := .c, askedAt := s.ltide.toNat } }
  else s1

/-- A write of LOOP_CTRL of block b (17 R441, R442). Log 22. -/
def State.writeLoopCtrl (s : State) (ag : Agent) (b : Nat) (w : Word) : State :=
  s.granted ag 2 fun s0 =>
    let s := s0.keepLoop b
    let depth := fld w 10 8
    let i := fld w 2 0
    if bitOf w 31 && bitOf w 30 then s.loopErr b .multiple
    else if bitOf w 31 then
      if !(loopDepths b).contains depth || fld w 23 16 = 0 || loopIndexMax b < i || fld w 25 24 = 3 || (8 ≤ b && fld w 25 24 ≠ 0) then s.loopErr b .value
      else if (s.loop b).running || s.lifeState = .retired || !s.loopCond b depth i true || !loopAgentOk b i ag then s.loopErr b .state
      else if b = 12 && depth = 4 then (s.startLoop b w).ringPut 0x02 2 0xFF []
      else s.startLoop b w
    else if bitOf w 30 then
      if (s.loop b).running then (s.stopLoop b 4).loopErr b .none else s.loopErr b .state
    else s.loopErr b .none

/-- LOOP_STATUS of block b (17 Table 17-3). -/
def State.loopStatus (s : State) (b : Nat) : Word :=
  let u := s.loop b
  packed [(29, u.cmdErr.code), (24, u.result), (16, u.units), (0, u.errors)]

/-- LOOP_GO: a write of w with GO (17 R442). -/
def execLoopGo (ag : Agent) (b : LoopBlock) (w : Word) (s : State) : Host.Outcome State Fault Refusal := nx (s.writeLoopCtrl ag (loopNum b) (w ||| 0x80000000#32))

/-- LOOP_STOP: a write of w with STOP (17 R442). -/
def execLoopStop (ag : Agent) (b : LoopBlock) (w : Word) (s : State) : Host.Outcome State Fault Refusal := nx (s.writeLoopCtrl ag (loopNum b) (w ||| 0x40000000#32))

/-- The duration in ck of a unit of characters on a slot, 3,070.5 ETU (17 Table 17-5); other units are given none (log 4). -/
def LoopUnit.unitCk (u : LoopUnit) (b : Nat) : Nat :=
  if b < 8 && u.depth ≠ 3 then (match fld u.ctrl 25 24 with | 0 => 137067120 | 1 => 2141674 | _ => 589536) else 0

/-- LOOP_UNIT_DONE (17 R443, R446): a unit ends with so many errors. Log 3, 4, 22. -/
def execLoopUnitDone (b : LoopBlock) (errors : Nat) (s : State) : Host.Outcome State Fault Refusal :=
  let n := (loopNum b)
  let s1 := s.keepLoop n
  let u := s1.loop n
  if !u.running || (n < 8 && u.depth = 2 && !(s1.slot (8 * n + u.index)).seq.clkRun) then nx s1
  else
    let e := min (u.errors + errors) 0xFFFF
    if n = 12 && u.depth = 4 && 0 < errors then nx ((s1.modLoop n fun u => { u with errors := e }).stopLoop n 3)
    else
      let lead := if n < 8 && u.depth = 2 && u.units = 0 then 1000 * (s1.slot (8 * n + u.index)).seq.div else 0
      let s2 := ((if n < 8 && u.depth = 3 then s1.modSlot (8 * n + u.index) fun x => x.afterExchange (u.units + 1) else s1).elapse
        (lead + u.unitCk n)).modLoop n fun u => { u with units := u.units + 1, errors := e }
      if fld u.ctrl 23 16 ≤ u.units + 1 then nx (s2.stopLoop n (if e = 0 then 2 else 3))
      else if n = 12 && u.depth = 4 then nx (s2.ringPut 0x02 2 0xFF [])
      else nx s2

end Sys2Proof.Machine
end

