-- ==== Sys2Proof/Machine/Mailbox.lean ====
section
/-! DEFINITION. The registers of the host mailbox (15 R397, R398) and of the crypto engine (16 R433, Table 16-12), and the exchange
block of a slot (11 R309, R313, R314). -/

namespace Sys2Proof.Machine

/-! The mailbox. -/

/-- Mailbox channel c: 0 A, 1 B; 2 the request of the ring receive queue that the service carries out. -/
def State.mb (s : State) (c : Nat) : Mailbox := tget {} s.mail c

/-- The state with channel c changed by f. -/
def State.modMb (s : State) (c : Nat) (f : Mailbox → Mailbox) : State := { s with mail := tset {} s.mail c (f (s.mb c)) }

/-- The place of the next request in the order of requests (15 R400). Table entry 2 stands for the ring receive queue. -/
def State.nextOrder (s : State) : Nat := max (s.mb 0).order (max (s.mb 1).order (s.mb 2).order) + 1

/-- Sets MB_STATUS.CMD_ERR of channel c. -/
def State.mbErr (s : State) (c : Nat) (e : CmdErr) : State := s.modMb c fun m => { m with cmdErr := e }

/-- The request of channel c ends with a status and a response (15 R398). -/
def State.mbDone (s : State) (c status : Nat) (resp : List Byte) : State :=
  (s.modMb c fun m =>
    { m with
      busy := false, taken := false, started := false, done := true, status := status, rlen := resp.length
      data := (resp.zipIdx).foldl (fun t e => tset 0#8 t e.2 e.1) m.data }).irq 4

/-- A write of MB_CTRL (15 R397, R398). -/
def State.writeMbCtrl (s : State) (c : Nat) (w : Word) : State :=
  let m := s.mb c
  if bitOf w 0 && bitOf w 1 then s.mbErr c .multiple
  else if bitOf w 1 then
    if !m.busy then s.mbErr c .state
    else if m.taken then s.mbErr c .none
    else (s.mbErr c .none).mbDone c 0x0F []
  else if m.busy then s.mbErr c .state
  else if bitOf w 0 then
    ((s.mbErr c .none).modMb c fun m => { m with busy := true, taken := false, started := false, order := s.nextOrder }).line 40
  else s.mbErr c .none

/-- A write of register off of channel c through path or by a core (15 R397, Tables 15-3 to 15-5). -/
def State.writeMb (s : State) (ag : Agent) (c off : Nat) (w : Word) : State :=
  let other : Bool := match ag with | .path p => pathNum p ≠ c | _ => false
  if other then (match ag with | .path p => s.wdeny p | _ => s)
  else
    let m := s.mb c
    if off = 0 then s.writeMbCtrl c w
    else if off = 0x010 && 1024 < fld w 10 0 then s.mbErr c .value
    else if m.busy then s.mbErr c .state
    else
      let set (f : Mailbox → Mailbox) : State := (s.modMb c f).mbErr c .none
      match off with
      | 0x004 => set fun m => { m with req := w &&& 0x00031FFF#32 }
      | 0x008 => set fun m => { m with entry := w &&& 0x00FFFFFF#32 }
      | 0x00C => set fun m => { m with handle := w }
      | 0x010 => set fun m => { m with len := w &&& 0x7FF#32 }
      | 0x014 => set fun m => { m with done := m.done && !bitOf w 26 }
      | _ =>
        if 0x400 ≤ off && off < 0x800 then
          set fun m => { m with data := ((leBytes w.toNat 4).zipIdx).foldl (fun t e => tset 0#8 t (off - 0x400 + e.2) e.1) m.data }
        else s.mbErr c .none

/-- n bytes of MB_DATA from an offset. -/
def Mailbox.bytes (m : Mailbox) (a n : Nat) : List Byte := (List.range n).map fun i => tget 0#8 m.data (a + i)

/-- A read of register off of channel c. -/
def State.readMb (s : State) (c off : Nat) : Word :=
  let m := s.mb c
  match off with
  | 0x004 => m.req
  | 0x008 => m.entry
  | 0x00C => m.handle
  | 0x010 => m.len
  | 0x014 => packed [(29, m.cmdErr.code), (28, b2n m.busy), (27, b2n m.taken), (26, b2n m.done), (16, m.status), (0, m.rlen)]
  | _ => if 0x400 ≤ off && off < 0x800 then wordOfLe (m.bytes (off - 0x400) 4) else 0#32

/-- MB_ABORT: a write of w with ABORT (15 R398). -/
def execMbAbort (ag : Agent) (c : Path) (w : Word) (s : State) : Host.Outcome State Fault Refusal :=
  nx (s.writeMb ag (pathNum c) 0 (w ||| 2#32))

/-! The crypto engine (16 R428, R431 to R433). -/

/-- The state with the crypto registers changed by f. -/
def State.modCry (s : State) (f : Crypto → Crypto) : State := { s with crypto := f s.crypto }

/-- Whether n bytes at an address lie in shared SRAM (16 Table 16-13). -/
def inShared (a n : Nat) : Bool := 0x20000000 ≤ a && a + n ≤ 0x20080000

/-- The AES key of an operation: type 1, or where `kcv` also K_enc of type 2 (16 Table 16-13). -/
def State.cryKey (s : State) (kcv : Bool) : Option (BitVec 256) :=
  let k := s.secret s.crypto.key
  if s.crypto.key = 0 then none
  else if k.typ = 1 then some (keyOfBytes k.key)
  else if k.typ = 2 && kcv then some (keyOfBytes (k.key.take 32))
  else none

/-- The first 8 bytes of AES-256 of a zero block: the key check value. -/
def kcvOf (key : BitVec 256) : List Byte := (bytesOfBlock (Config.aesBlock key 0#128)).take 8

/-- What operation op gives: the bytes written at DST, none where it ends with ERROR (16 Table 16-13). -/
def State.cryResult (s : State) (op : Nat) : Option (List Byte) :=
  let c := s.crypto
  let src := s.sramBytes c.src.toNat c.len
  let out (n : Nat) (v : Option (List Byte)) : Option (List Byte) :=
    if inShared c.src.toNat c.len && inShared c.dst.toNat n then v else none
  match op with
  | 1 => out c.len ((s.cryKey false).map fun k => aesCtr k (blockOfBytes (c.iv.flatMap fun w => leBytes w.toNat 4)) src)
  | 2 => out 16 ((s.cryKey false).map fun k => aesCmac k src)
  | 3 => out 48 (some (beBytes (Config.sha384 src).toNat 48))
  | 4 =>
    if inShared c.src.toNat c.len && c.len = 241 && Config.ecdsaVerify ((src.drop 48).take 97) (BitVec.ofNat 384 (ofBe (src.take 48))) (src.drop 145)
    then some [] else none
  | _ => if inShared c.dst.toNat 8 then (s.cryKey true).map kcvOf else none

/-- A GO of an operation: a reserved one is rejected with VALUE (16 R433). -/
def State.cryGo (s : State) (op : Nat) : State :=
  if op = 0 || 5 < op then s.modCry fun c => { c with cmdErr := .value }
  else
    let s1 := s.modCry fun c => { c with cmdErr := .none, busy := true, op := op, result := s.cryResult op }
    if op = 4 then { s1 with life := { s1.life with lane := s1.life.lane ++ [.crypto] } } else s1

/-- A write of register off of the crypto engine (16 R433, Table 16-12). -/
def State.writeCry (s : State) (off : Nat) (w : Word) : State :=
  if s.crypto.busy then s.modCry fun c => { c with cmdErr := .state }
  else
    let set (f : Crypto → Crypto) : State := s.modCry fun c => { f c with cmdErr := .none }
    match off with
    | 0x00 => if bitOf w 31 then s.cryGo (fld w 7 0) else if fld w 7 0 = 0 || 5 < fld w 7 0 then s.modCry fun c => { c with cmdErr := .value } else set id
    | 0x04 => set fun c => { c with key := fld w 7 0 }
    | 0x08 => set fun c => { c with src := w }
    | 0x0C => set fun c => { c with dst := w }
    | 0x10 => set fun c => { c with len := fld w 16 0 }
    | 0x14 => set fun c => { c with iv := c.iv.set 0 w }
    | 0x18 => set fun c => { c with iv := c.iv.set 1 w }
    | 0x1C => set fun c => { c with iv := c.iv.set 2 w }
    | 0x20 => set fun c => { c with iv := c.iv.set 3 w }
    | 0x24 => set fun c => { c with error := c.error && !bitOf w 2, done := c.done && !bitOf w 1 }
    | _ => set id

/-- A read of register off of the crypto engine. CRY_RNG draws 32 random bits, or 0 with ERROR while the generator is FAILED (16 R430). -/
def State.readCry (s : State) (off : Nat) : Word × State :=
  let c := s.crypto
  match off with
  | 0x04 => (BitVec.ofNat 32 c.key, s)
  | 0x08 => (c.src, s)
  | 0x0C => (c.dst, s)
  | 0x10 => (BitVec.ofNat 32 c.len, s)
  | 0x14 => (c.iv.getD 0 0#32, s)
  | 0x18 => (c.iv.getD 1 0#32, s)
  | 0x1C => (c.iv.getD 2 0#32, s)
  | 0x20 => (c.iv.getD 3 0#32, s)
  | 0x24 => (packed [(29, c.cmdErr.code), (3, b2n s.life.rngFailed), (2, b2n c.error), (1, b2n c.done), (0, b2n c.busy)], s)
  | 0x28 => if s.life.rngFailed then (0#32, s.modCry fun c => { c with error := true }) else s.rand
  | _ => (0#32, s)

/-! The exchange block (11 Table 11-7, R314). -/

/-- The state with the exchange block of slot i changed by f. -/
def State.modXchg (s : State) (i : Nat) (f : Xchg → Xchg) : State := s.modSlot i fun x => { x with xchg := f x.xchg }

/-- ABANDON of the exchange of slot i, given, at the limit or by a cleared binding (11 R311, R314, R315): LAST_END, forced deactivation with status
DEACTIVATED, and SCRIPT_ABANDON. `hw`: the DK6400 itself ends it. -/
def State.abandon (s : State) (i k code : Nat) (hw : Bool) : State :=
  let s1 := s.post 0xB1 i code [BitVec.ofNat 32 k, BitVec.ofNat 32 (s.slot i).pr.sent]
  let s2 := s1.modSlot i fun x => { x with pr := { x.pr with lastEnd := 15 } }
  let s3 := if hw then s2.xchgHwEnd i else s2.modXchg i fun e => { e with active := false }
  s3.beginDeact i false

/-- An accepted end code of the exchange of slot i (11 R314): the pk of the write is the decision. -/
def State.endScript (s : State) (i k code : Nat) : State :=
  let x := s.slot i
  if code = 15 then s.abandon i k 1 false
  else if !x.xchg.sent then
    ((s.modXchg i fun e => { e with active := false }).modSlot i fun x => { x with pr := { x.pr with lastEnd := code } }).beginDeact i false
  else if code = 1 then
    (s.modSlot i fun x => { x with pr := { x.pr with lastEnd := 1 }, xchg := { x.xchg with active := false } }).responseDone i x.xchg.resp
  else (s.modXchg i fun e => { e with active := false }).endInDoubt i code false

/-- A write of register off of the exchange block of slot i (11 Table 11-7, R309). -/
def State.writeXchg (s : State) (i off : Nat) (w : Word) : State :=
  let x := (s.slot i).xchg
  let set (f : Xchg → Xchg) : State := (s.modXchg i f).slotErr i .none
  let k := (s.boundCore i).getD 0
  match off with
  | 0x200 => if fld w 15 0 = 0 then s.slotErr i .value else set fun e => { e with limit := w.setWidth 16 }
  | 0x204 => set fun e => { e with hwEnd := e.hwEnd && !bitOf w 29, evt := e.evt && !bitOf w 28 }
  | 0x20C =>
    if !x.active then s.slotErr i .state else if 65544 < fld w 16 0 then s.slotErr i .value else set fun e => { e with pos := fld w 16 0 }
  | 0x214 =>
    if !x.active then s.slotErr i .state
    else if 65540 < x.resp.length + 4 then s.slotErr i .value
    else set fun e => { e with resp := e.resp ++ leBytes w.toNat 4 }
  | 0x218 =>
    if !x.active then s.slotErr i .state
    else if x.resp.length < fld w 16 0 then s.slotErr i .value
    else set fun e => { e with resp := e.resp.take (fld w 16 0) }
  | 0x21C =>
    let c := fld w 3 0
    if !x.active then s.slotErr i .state
    else if c = 0 || (11 < c && c ≠ 15) || (c = 1 && (x.resp.length < 2 || 65538 < x.resp.length)) then s.slotErr i .value
    else (s.slotErr i .none).endScript i k c
  | _ => if !x.active && 0x20C ≤ off && off ≤ 0x21C then s.slotErr i .state else s.slotErr i .none

/-- A read of register off of the exchange block of slot i. -/
def State.readXchg (s : State) (i off : Nat) : Word × State :=
  let x := (s.slot i).xchg
  match off with
  | 0x200 => (packed [(0, x.limit.toNat)], s)
  | 0x204 => (packed [(31, b2n x.active), (30, b2n x.sent), (29, b2n x.hwEnd), (28, b2n x.evt)], s)
  | 0x208 => (BitVec.ofNat 32 x.cmd.length, s)
  | 0x20C => (BitVec.ofNat 32 x.pos, s)
  | 0x210 =>
    if x.active then (wordOfLe (padTo 4 (x.cmd.drop x.pos)), s.modXchg i fun e => { e with pos := min (e.pos + 4) 65544 }) else (0#32, s)
  | 0x218 => (BitVec.ofNat 32 x.resp.length, s)
  | _ => (0#32, s)

end Sys2Proof.Machine
end

