-- ==== Sys2Proof/Machine/Completion.lean ====
section
/-! DEFINITION. Completion entries, their order and routes, the spillway, ACK, links and failover, the event ring and device
interrupts (07 R204 to R207, R213 to R225). -/

namespace Sys2Proof.Machine

/-! Completion entries (07 Table 7-13). -/

/-- DW0 to DW6 of a completion entry. -/
def entryWords (q sqHead : Nat) (trunc mirrored : Bool) (tag : Word) (jseq : Nat) (o : Outcome) : List Word :=
  [tag,
   packed [(16, sqHead), (12, b2n trunc), (11, b2n mirrored), (0, q)],
   BitVec.ofNat 32 jseq,
   packed [(16, o.sw.toNat), (0, jseq / 2 ^ 32)],
   lo32 o.tide, hi32 o.tide,
   packed [(30, o.cls.code), (22, o.status), (18, o.cause), (17, b2n o.promoted), (0, o.respLen)]]

/-- DW7 of a completion entry. -/
def entryLast (o : Outcome) (phase : Bool) : Word := packed [(31, b2n phase), (23, o.setFlags), (0, o.sentLen)]

/-- The response data of transaction x goes out on path p (07 R204, R206). -/
def State.emitResp (s : State) (p : Path) (x : Txn) (o : Outcome) : State :=
  let d := o.resp.take x.respCap
  if d.isEmpty then s else s.emit (.resp p x.respPtr x.respSegN x.respSegs d)

/-- Writes a completion entry of pair q to the ring of pair r over r's home path (07 R195, R206, R214, R222). -/
def State.writeEntry (s : State) (q r : Nat) (tag : Word) (jseq : Nat) (trunc : Bool) (o : Outcome) : State :=
  let x := s.qp r
  let p := x.home
  let addr := x.cqBase + BitVec.ofNat 64 (32 * x.cqTail)
  let s0 := ((s.tally (0x4000 + q) 2 1 true).tally (0x4000 + q) (match o.cls with | .done => 3 | .notSent => 4 | .inDoubt => 5) 1 true).tally
    (0x1301 + pathNum p) 5 1 true
  let s1 := (s0.emit (.write p addr (entryWords q (s.qp q).sqHead trunc (r ≠ q) tag jseq o))).emit (.write p (addr + 28) [entryLast o x.cqPhase])
  let next := (x.cqTail + 1) % x.cqSize
  let s2 := s1.modQp r fun x =>
    { x with
      cqTail := next, cqPhase := if next = 0 then !x.cqPhase else x.cqPhase
      checkpoint := if jseq ≠ 0 ∧ x.checkpoint.isNone then some (x.cqTail, jseq) else x.checkpoint
      lastJ := if jseq ≠ 0 then some jseq else x.lastJ }
  let s3 : State := { s2 with flow := { s2.flow with unwritten := s2.flow.unwritten.filter (· ≠ jseq) } }
  if x.irqEn then s3.sendMsix p r else s3

/-- Whether a completion may be written to the ring of pair r now (07 R195). -/
def State.ringRoom (s : State) (r : Nat) : Bool :=
  let x := s.qp r
  x.st ≠ .disabled && s.linkUp x.home && x.outstanding < x.cqSize - 1

/-- The spillway entries of ring r. -/
def State.spillOf (s : State) (r : Nat) : List Spill := s.flow.spill.filter fun e => e.ring = r

/-- Removes the first spillway entry of ring r. -/
def dropFirst (r : Nat) : List Spill → List Spill
  | [] => []
  | e :: t => if e.ring = r then t else e :: dropFirst r t

/-- Writes the spillway entries of ring r while there is room (07 R197, R220); n bounds them. -/
def State.drain (s : State) (r : Nat) : Nat → State
  | 0 => s
  | n + 1 =>
    match s.spillOf r with
    | [] => s
    | e :: _ =>
      if s.ringRoom r then
        let s1 := s.writeEntry e.qp r e.tag e.jseq e.trunc e.o
        let s2 : State := { s1 with flow := { s1.flow with spill := dropFirst r s1.flow.spill } }
        let s3 := if 2 * s2.flow.spill.length < s2.dev.spillHigh then s2.modDev fun d => { d with spillArmed := true } else s2
        (s3.settleQp e.qp).drain r n
      else s

/-- The ring that takes completions of pair q now (07 R218, R219): its own while its home link is up, else its mirror's. -/
def State.route (s : State) (q : Nat) : Option Nat :=
  if s.linkUp (s.qp q).home then some q
  else match s.joined q with
    | some m => if s.linkUp (s.qp m).home then some m else none
    | none => none

/-- Pairs whose completions are ordered with those of q (07 R207). -/
def State.orderedWith (s : State) (q : Nat) : List Nat := q :: (s.joined q).toList

/-- The completion enters the spillway of ring r (07 R220). -/
def State.spillIn (s : State) (t r : Nat) (x : Txn) (o : Outcome) : State :=
  let s1 := ((s.tally (0x4000 + x.qp) 6 1 true).emitResp (s.qp r).home x o).setTxn t none
  let s2 : State := { s1 with flow := { s1.flow with
    spill := s1.flow.spill ++ [{ ring := r, qp := x.qp, tag := x.tag, jseq := x.jseq, trunc := x.respCap < o.respLen, o := { o with resp := [] } }] } }
  let l := s2.flow.spill.length
  let s3 := s2.modDev fun d => { d with spillPeak := max d.spillPeak l }
  if s3.dev.spillHigh ≤ l && s3.dev.spillArmed then
    ((s3.modDev fun d => { d with spillArmed := false }).post 0x42 0 0 [BitVec.ofNat 32 l]).irq 1
  else s3

/-- COMPLETION_WRITE (07 R205 to R207, R218 to R221): the completion of transaction t goes to a ring, the spillway, or is held. Log 3. -/
def execCompletionWrite (t : Fin 1024) (s : State) : Host.Outcome State Fault Refusal :=
  match s.txn t with
  | none => nx s
  | some x =>
    match x.outDone with
    | none => nx s
    | some o =>
      if x.stage ≠ .complete then nx s
      else
        let group := s.orderedWith x.qp
        let before (j : Nat) : Bool := x.jseq ≠ 0 && j ≠ 0 && j < x.jseq
        let waits := s.txnList.any fun e => group.contains e.2.qp && e.2.stage = .complete && before e.2.jseq
        let spilled := s.flow.spill.filter fun e => group.contains e.qp && before e.jseq
        let hold (stall : Bool) : State :=
          (s.modTxn t fun x => { x with held := true }).modQp x.qp fun y => { y with stalled := y.stalled || stall }
        match s.route x.qp with
        | none => nx (hold false)
        | some r =>
          if waits then (if s.txnList.any fun e => group.contains e.2.qp && e.2.held && before e.2.jseq then nx (hold false) else nx s)
          else if spilled.any (fun e => e.ring ≠ r) then nx (hold false)
          else if (s.spillOf r).isEmpty && s.ringRoom r then
            nx ((((s.emitResp (s.qp r).home x o).setTxn t none).writeEntry x.qp r x.tag x.jseq (x.respCap < o.respLen) o).settleQp x.qp)
          else if s.flow.spill.length < 1024 && (s.spillOf r).length < (s.qp r).quota then nx ((s.spillIn t r x o).settleQp x.qp)
          else nx (hold true)

/-- A CQ_HEAD doorbell (07 R196, R197, R214). -/
def State.cqDoorbell (s : State) (q : Nat) (v : Word) : State :=
  let x := s.qp q
  let n := x.cqSize
  let i := fld v 15 0
  if fld v 31 16 ≠ 0 || n ≤ i || x.st = .disabled || !s.boot.loaded || (x.cqTail + n - x.cqHead) % n < (i + n - x.cqHead) % n then s.dbErr q
  else
    let k := (i + n - x.cqHead) % n
    let past := match x.checkpoint with | some c => decide ((c.1 + n - x.cqHead) % n < k) | none => false
    (s.modQp q fun x =>
      { x with cqHead := i, passed := if past then x.checkpoint.map (·.2) else x.passed, checkpoint := if past then none else x.checkpoint }).drain q 1024

/-- CQ_HEAD_DOORBELL (07 R197), through either function. -/
def execCqHeadDoorbell (_ : Path) (q : Fin 512) (v : Word) (s : State) : Host.Outcome State Fault Refusal := nx (s.cqDoorbell q v)

/-! ACK (07 R214, R215). -/

/-- The value of one ring. -/
def State.ringAck (s : State) (q : Nat) : Nat :=
  let x := s.qp q
  if x.checkpoint.isNone && x.cqHead = x.cqTail && (s.spillOf q).isEmpty && !(s.txnsOf q).any (·.2.held) then x.lastJ.getD 0 else x.passed.getD 0

/-- ACK of pair q: the least over the rings of the pair. -/
def State.ackOf (s : State) (q : Nat) : Nat :=
  match s.joined q with
  | some m => min (s.ringAck q) (s.ringAck m)
  | none => s.ringAck q

/-- The stored ACK of pair q becomes a. -/
def State.keepAck (s : State) (q a : Nat) : State :=
  ({ s with mram := { s.mram with acks := tset 0 s.mram.acks q a } } : State).modQp q fun x => { x with ackAt := some s.now }

/-- ACK_PERSIST (07 R215): at most once per 10 ms per pair, and not while a journal write waits (01 R21). Log 3, 4. -/
def execAckPersist (q : Fin 512) (s : State) : Host.Outcome State Fault Refusal :=
  let a := s.ackOf q
  if a = tget 0 s.mram.acks q || s.journalWaits then nx s
  else
    nx (((s.elapseSince (s.qp q).ackAt (10 * ms)).keepAck q a).burst)

/-! Links (07 R216, R218). -/

/-- The state with the link of path p set. -/
def State.setLink (s : State) (p : Path) (up : Bool) : State :=
  s.modDev fun d => match p with | .a => { d with linkA := up } | .b => { d with linkB := up }

/-- The joined, ENABLED pairs at home on path p. -/
def State.joinedOn (s : State) (p : Path) : List Nat :=
  (s.flow.qps.filter fun e => e.2.st = .enabled && e.2.home = p && (s.joined e.1).isSome).map (·.1)

/-- A path reset: the MSI-X table and pending bits of that function (07 R216). -/
def State.resetFunction (s : State) (p : Path) : State :=
  { s with msix := s.msix.filter fun e => e.1 / 4096 ≠ pathNum p, pba := s.pba.filter fun e => e.1 / 1024 ≠ pathNum p }

/-- The link of path p goes down (07 R216, R218). -/
def State.dropLink (s : State) (p : Path) : State :=
  if s.linkUp p then
    let l := s.joinedOn p
    let s1 := s.forEach l fun s q => s.modQp q fun x => { x with st := .suspended }
    let s2 := s1.forEach l fun s q => s.endEarlyOf q 0x12
    (((s2.setLink p false).tally (0x1301 + pathNum p) 3).post 0x40 (pathNum p) 0 [BitVec.ofNat 32 l.length]).irq 3
  else s

/-- LINK_DOWN (07 R216, R218); perst: PERST_N of the path is asserted, which also resets its function. -/
def execLinkDown (p : Path) (perst : Bool) (s : State) : Host.Outcome State Fault Refusal := nx ((if perst then s.resetFunction p else s).dropLink p)

/-- LINK_UP (07 R216, R219): the pending messages of the function go out, and spillway entries drain. A link comes up only once
the start has reached its step 2 (16 R412). -/
def execLinkUp (p : Path) (s : State) : Host.Outcome State Fault Refusal :=
  if s.linkUp p || s.boot.step < 2 || ((s.loop 14).running && (s.loop 14).index = pathNum p) then nx s
  else
    let s1 := ((s.setLink p true).post 0x41 (pathNum p) 0).irq 3
    let s2 := s1.forEach ((s1.pba.filter fun e => e.2 && e.1 / 1024 = pathNum p).map (·.1 % 1024)) fun s v => s.releaseMsix p v
    nx (s2.forEach ((s2.flow.qps.filter fun e => e.2.home = p).map (·.1)) fun s q => s.drain q 1024)

/-! The event ring (07 R223 to R225). -/

/-- Entries of the event ring. -/
def Dev.evrSize (d : Dev) : Nat := fld d.evrCfg 11 0 + 1
/-- EVR_CFG.EN. -/
def Dev.evrEn (d : Dev) : Bool := bitOf d.evrCfg 31

/-- The event ring takes an entry now: enabled, room, a link. -/
def State.evrReady (s : State) : Bool :=
  let d := s.dev
  d.evrEn && (d.evrTail + d.evrSize - d.evrHead) % d.evrSize < d.evrSize - 1 && (s.dev.linkA || s.dev.linkB)

/-- Writes an entry of 15 words to the event ring, then DW15, then vector 512 (07 R222, R223). -/
def State.writeEvent (s : State) (dws : List Word) : State :=
  let p := s.evrPath
  let d := s.dev
  let addr := d.evrBase + BitVec.ofNat 64 (64 * d.evrTail)
  let s1 := (s.emit (.write p addr dws)).emit (.write p (addr + 60) [packed [(31, b2n d.evrPhase)]])
  let next := (d.evrTail + 1) % d.evrSize
  (s1.modDev fun d => { d with evrTail := next, evrPhase := if next = 0 then !d.evrPhase else d.evrPhase }).sendMsix p 512

/-- A list of words filled with zeros to n words. -/
def padWords (n : Nat) (l : List Word) : List Word := (l ++ List.replicate n 0).take n

/-- DW0 to DW14 of a general event (07 Table 7-21). -/
def Event.words (e : Event) : List Word :=
  padWords 15 ([packed [(16, e.source), (8, e.code), (0, e.typ)], 0#32, lo32 e.tide, hi32 e.tide] ++ e.data)

/-- The words of a list of bytes, little-endian, n words. -/
def wordsOfBytes : Nat → List Byte → List Word
  | 0, _ => []
  | n + 1, l => wordOfLe (padTo 4 l) :: wordsOfBytes n (l.drop 4)

/-- DW0 to DW14 of a recovery completion (07 Table 7-22). -/
def recoveryWords (r : JRec) (again : Bool) : List Word :=
  [packed [(16, r.qp), (9, b2n (decide (r.o.respLen ≤ 24))), (8, b2n again), (0, 1)]] ++
    entryWords r.qp 0 false false r.tag r.seq r.o ++ [entryLast r.o false] ++ wordsOfBytes 6 r.o.resp

/-- EVENT_WRITE (07 R225): the oldest general event, once recovery is done. Log 3. -/
def execEventWrite (s : State) : Host.Outcome State Fault Refusal :=
  match s.dev.evq with
  | [] => nx s
  | e :: r => if s.evrReady && s.dev.recovery = 3 then nx ((s.modDev fun d => { d with evq := r }).writeEvent e.words) else nx s

/-- The outcome records RECOVERY must post, in sequence order (01 R28). -/
def State.toPost (s : State) : List JRec :=
  s.dev.recList.filterMap fun q => ((s.records.map (·.2)).find? fun r => r.outcome && r.seq = q)

/-- RECOVERY_POSTING (01 R28, 07 R213, R225): one recovery completion, or at the end the recovery-complete entry. Log 3. -/
def execRecoveryPosting (s : State) : Host.Outcome State Fault Refusal :=
  if !(s.dev.recovery = 1 || s.dev.recovery = 2) || !s.evrReady then nx s
  else
    let s1 := s.modDev fun d => { d with recovery := 2 }
    match s.toPost with
    | r :: _ =>
      let s2 := (s1.writeEvent (recoveryWords r (r.seq < s.dev.orphanFrom))).modDev fun d =>
        { d with recList := d.recList.filter (· ≠ r.seq), recPosted := d.recPosted + 1 }
      nx { s2 with flow := { s2.flow with unwritten := s2.flow.unwritten.filter (· ≠ r.seq) } }
    | [] =>
      let e : Event :=
        { typ := 2, code := b2n s.dev.jsatAtStart, tide := s.ltide,
          data := [BitVec.ofNat 32 s.dev.recPosted, BitVec.ofNat 32 s.dev.orphans, BitVec.ofNat 32 s.flow.jNext, BitVec.ofNat 32 (s.flow.jNext / 2 ^ 32)] }
      nx ((s1.writeEvent e.words).modDev fun d => { d with recovery := 3 })

/-- Sets DEV_STATUS.CMD_ERR. -/
def State.devErr (s : State) (e : CmdErr) : State := s.modDev fun d => { d with cmdErr := e }

/-- A write of EVR_CFG (07 R223, Table 7-4): EN ends WAIT_EVR (R213). -/
def State.writeEvrCfg (s : State) (v : Word) : State :=
  let d := s.dev
  if fld v 11 0 < 15 then s.devErr .value
  else if d.evrEn && (bitOf v 28 ≠ bitOf d.evrCfg 28 || fld v 11 0 ≠ fld d.evrCfg 11 0) then s.devErr .locked
  else
    let w := v &&& 0x90000FFF#32
    (s.devErr .none).modDev fun d =>
      if bitOf v 31 && !d.evrEn then
        { d with evrCfg := w, evrHead := 0, evrTail := 0, evrPhase := true, recovery := if d.recovery = 1 then 2 else d.recovery }
      else { d with evrCfg := w }

/-- EVR_CFG_WRITE (07 R223). -/
def execEvrCfgWrite (_ : Agent) (v : Word) (s : State) : Host.Outcome State Fault Refusal := nx (s.writeEvrCfg v)

/-- A write of EVR_HEAD (07 R223). -/
def State.writeEvrHead (s : State) (v : Word) : State :=
  let d := s.dev
  let n := d.evrSize
  let i := fld v 15 0
  if fld v 31 16 ≠ 0 || n ≤ i || (d.evrTail + n - d.evrHead) % n < (i + n - d.evrHead) % n then s.devErr .value
  else if !d.evrEn then s.devErr .state
  else (s.devErr .none).modDev fun d => { d with evrHead := i }

/-- EVR_HEAD (07 R223). -/
def execEvrHead (_ : Agent) (v : Word) (s : State) : Host.Outcome State Fault Refusal := nx (s.writeEvrHead v)

/-- A write of IRQ_MASK (07 R222): unmasking a set source sends its vector. -/
def State.writeIrqMask (s : State) (v : Word) : State :=
  let old := s.dev.irqMask
  let s1 := (s.devErr .none).modDev fun d => { d with irqMask := v.setWidth 16 }
  s1.forEach (List.range 16) fun s n =>
    if old.getLsbD n && !bitOf v n && s.dev.irqStatus.getLsbD n then s.sendMsix s.evrPath (513 + n) else s

/-- IRQ_MASK_WRITE (07 R222). -/
def execIrqMaskWrite (_ : Agent) (v : Word) (s : State) : Host.Outcome State Fault Refusal := nx (s.writeIrqMask v)

/-- A read of SPILL_STATUS (07 Table 7-2): PEAK clears. -/
def State.readSpill (s : State) : Word × State :=
  (packed [(16, s.dev.spillPeak), (0, s.flow.spill.length)], s.modDev fun d => { d with spillPeak := 0 })

/-- SPILL_STATUS_READ (07 R220). -/
def execSpillStatusRead (_ : Agent) (s : State) : Host.Outcome State Fault Refusal :=
  let r := s.readSpill
  nx { r.2 with lastRead := r.1 }

end Sys2Proof.Machine
end

