-- ==== Sys2Proof/Machine/Sets.lean ====
section
/-! DEFINITION. Card sets: their commands and registers, rounds and the decision (08 R227 to R246). -/

namespace Sys2Proof.Machine

/-- Sets SET_STATUS.CMD_ERR. -/
def State.setErr (s : State) (k : Nat) (e : CmdErr) : State := s.modSet k fun c => { c with cmdErr := e }

/-- The positions of a list of six. -/
abbrev positions : List Nat := [0, 1, 2, 3, 4, 5]

/-- The used positions. -/
def CardSet.usedList (c : CardSet) : List Nat := positions.filter c.used

/-- Whether the map of a set meets 08 R228. -/
def CardSet.mapOk (c : CardSet) : Bool :=
  let m := [0, 1, 2, 3].filter c.used
  let slots := c.usedList.map c.slotOf
  c.used 0 && c.used 1 && (!c.used 3 || c.used 2) && (!c.used 5 || c.used 4) && slots.eraseDups.length = slots.length &&
    m.any (fun p => c.slotOf p / 8 ≠ c.slotOf 0 / 8)

/-- A slot of the map of set k is named by another set that is not DISABLED, or holds an open single-slot session (08 R228). -/
def State.mapTaken (s : State) (k : Nat) : Bool :=
  (s.cset k).usedList.any fun p =>
    let i := (s.cset k).slotOf p
    s.flow.sets.any (fun e => e.1 ≠ k && e.2.enabled && e.2.usedList.any fun j => e.2.slotOf j = i) || !(s.sessionsOn false i).isEmpty

/-- Every used position whose slot is READY takes its role (08 R229, R231). -/
def State.formReady (s : State) (k : Nat) : State :=
  s.forEach (((s.cset k).which .pending).filter fun p => (s.slot ((s.cset k).slotOf p)).st = .ready) fun s p =>
    let s1 := (s.modSet k fun c => { c with pos := c.pos.set p (if p < 4 then .member else .reserve) }).auditSetPos k p
    s1.promote k ((s1.cset k).replaced p)

/-- ENABLE (08 R228, R229, Table 8-6). -/
def State.enableSet (s : State) (k : Nat) : CmdErr × State :=
  let c := s.cset k
  if !c.mapOk then (.value, s)
  else if c.enabled || s.mapTaken k then (.state, s)
  else
    let s1 := s.modSet k fun c =>
      { c with enabled := true, forming := true, diverged := false, suspect := 0, cause := [0, 0, 0, 0, 0, 0], shown := 0,
               pos := positions.map fun p => if c.used p then .pending else .unused }
    (.none, ((s1.keepSet k).formReady k).setStateShow k)

/-- A draining set is DISABLED once no transaction of it is past stage 5 (08 Table 8-6). -/
def State.settleSet (s : State) (k : Nat) : State :=
  if (s.cset k).draining && (s.setTxnOf k).isNone then
    let s1 := s.modSet k fun c =>
      { c with enabled := false, draining := false, forming := false, pos := positions.map fun _ => .unused }
    s1.setStateShow k
  else s

/-- DISABLE (08 Table 8-6): accepted until STATE is DISABLED. -/
def State.disableSet (s : State) (k : Nat) : CmdErr × State :=
  if !(s.cset k).enabled then (.state, s)
  else (.none, (((s.closeAll true k).modSet k fun c => { c with draining := true }).settleSet k).actPendAll)

/-- CLEAR_DIVERGED (08 Table 8-6). -/
def State.clearDiverged (s : State) (k : Nat) : CmdErr × State :=
  if (s.cset k).diverged then
    let s1 := s.modSet k fun c => { c with diverged := false }
    (.none, { s1 with mram := { s1.mram with sets := tset {} s1.mram.sets k { tget {} s1.mram.sets k with diverged := false } } })
  else (.state, s)

/-- EJECT of position p (08 Table 8-6). -/
def State.ejectPos (s : State) (k p : Nat) : CmdErr × State :=
  if !(s.cset k).draining ∧ ((s.cset k).at p = .member ∨ (s.cset k).at p = .reserve) then (.none, s.posOut k p 4) else (.state, s)

/-- REJOIN of position p (08 Table 8-6, R231). -/
def State.rejoinPos (s : State) (k p : Nat) : CmdErr × State :=
  let c := s.cset k
  let i := c.slotOf p
  if c.at p = .out ∧ (s.slot i).st = .ready ∧ (s.sessionsOn false i).isEmpty ∧ (s.sessionsOn true k).isEmpty ∧ !c.diverged ∧ !c.draining then
    let s1 := (((s.modSet k fun c => { c with pos := c.pos.set p .reserve, cause := c.cause.set p 0 }).keepSet k).post 0x54 k p [BitVec.ofNat 32 i]).auditSetPos k p
    (.none, (s1.promote k ((s1.cset k).replaced p)).setStateShow k)
  else (.state, s)

/-- A write of SET_CTRL (08 R243, R244, Table 8-8): more than one command is MULTIPLE. -/
def State.writeSetCtrl (s : State) (ag : Agent) (k : Nat) (w : Word) : State :=
  s.granted ag 2 fun s =>
    let n := b2n (bitOf w 0) + b2n (bitOf w 1) + b2n (bitOf w 2) + b2n (bitOf w 3) + b2n (bitOf w 4)
    let p := fld w 10 8
    if 1 < n then s.setErr k .multiple
    else if 5 < p then s.setErr k .value
    else
      let r := if bitOf w 0 then s.enableSet k else if bitOf w 1 then s.disableSet k else if bitOf w 2 then s.clearDiverged k
        else if bitOf w 3 then s.rejoinPos k p else if bitOf w 4 then s.ejectPos k p
        else (CmdErr.none, s)
      r.2.setErr k r.1

/-- SET_CTRL ENABLE. -/
def execSetEnable (ag : Agent) (k : Fin 32) (w : Word) (s : State) : Host.Outcome State Fault Refusal := nx (s.writeSetCtrl ag k (w ||| 1#32))
/-- SET_CTRL DISABLE. -/
def execSetDisable (ag : Agent) (k : Fin 32) (w : Word) (s : State) : Host.Outcome State Fault Refusal := nx (s.writeSetCtrl ag k (w ||| 2#32))
/-- SET_CTRL CLEAR_DIVERGED. -/
def execClearDiverged (ag : Agent) (k : Fin 32) (w : Word) (s : State) : Host.Outcome State Fault Refusal := nx (s.writeSetCtrl ag k (w ||| 4#32))
/-- SET_CTRL REJOIN. -/
def execSetRejoin (ag : Agent) (k : Fin 32) (w : Word) (s : State) : Host.Outcome State Fault Refusal := nx (s.writeSetCtrl ag k (w ||| 8#32))
/-- SET_CTRL EJECT. -/
def execEject (ag : Agent) (k : Fin 32) (w : Word) (s : State) : Host.Outcome State Fault Refusal := nx (s.writeSetCtrl ag k (w ||| 16#32))

/-- A write of register off of the block of set k (08 R244). -/
def State.writeSet (s : State) (ag : Agent) (k off : Nat) (w : Word) : State :=
  let cfg (f : CardSet → CardSet) : State :=
    s.granted ag 2 fun s => if (s.cset k).enabled then s.setErr k .locked else (s.modSet k f).setErr k .none
  match off with
  | 0x00 => s.writeSetCtrl ag k w
  | 0x04 => cfg fun c => { c with cfg := w &&& 3#32 }
  | 0x08 => cfg fun c => { c with mapLo := w &&& 0xBFBFBFBF#32 }
  | 0x0C => cfg fun c => { c with mapHi := w &&& 0x0000BFBF#32 }
  | 0x10 => s.granted ag 2 fun s =>
      (s.modSet k fun c => { c with suspect := maskOf (positions.map fun p => c.suspect / 2 ^ p % 2 = 1 && !bitOf w (18 + p)) }).setErr k .none
  | _ => s.granted ag 2 fun s => s.setErr k .none

/-- A read of register off of the block of set k. -/
def State.readSet (s : State) (k off : Nat) : Word :=
  let c := s.cset k
  match off with
  | 0x04 => c.cfg
  | 0x08 => c.mapLo
  | 0x0C => c.mapHi
  | 0x10 => packed [(29, c.cmdErr.code), (18, c.suspect), (9, if c.draining then 0 else c.members), (6, if c.enabled then c.c else 0),
      (5, b2n (!(s.sessionsOn true k).isEmpty)), (4, b2n c.forming), (3, b2n c.diverged), (0, c.state)]
  | 0x14 => if c.draining then 0#32 else packed (positions.map fun p => (3 * p, (c.at p).code))
  | 0x18 => packed (positions.map fun p => (4 * p, if c.at p = .out then c.cause.getD p 0 else 0))
  | _ => 0#32

/-! The decision (08 R235 to R239). -/

/-- Two responses are identical (08 R235). -/
def sameResp (cap : Nat) (a b : MemberResp) : Bool :=
  a.resp.length = b.resp.length && a.resp.take cap = b.resp.take cap && a.resp.drop (a.resp.length - 2) = b.resp.drop (b.resp.length - 2) &&
    crc32c a.resp = crc32c b.resp

/-- The positions whose DONE responses are decided on, with those responses (08 R236, R237). -/
def decided (c : CardSet) (n : Rounds) : List (Nat × MemberResp) :=
  positions.filterMap fun p =>
    match n.cur.getD p none with
    | some m => if m.done && (c.at p = .member || n.outLast.contains p) then some (p, m) else none
    | none => none

/-- The positions whose response equals m. -/
def sameAs (cap : Nat) (l : List (Nat × MemberResp)) (m : MemberResp) : List Nat := (l.filter fun e => sameResp cap e.2 m).map (·.1)

/-- The largest group of identical responses: its positions and response. -/
def largest (cap : Nat) (l : List (Nat × MemberResp)) : List Nat × List Byte :=
  l.foldl (fun g e => let h := sameAs cap l e.2; if g.1.length < h.length then (h, e.2.resp) else g) ([], [])

/-- Whether the responses are not all identical. -/
def disagree (cap : Nat) (l : List (Nat × MemberResp)) : Bool := (largest cap l).1.length ≠ l.length

/-- SUSPECT is set on positions of set k. -/
def State.suspect (s : State) (k : Nat) (l : List Nat) : State :=
  s.modSet k fun c => { c with suspect := maskOf (positions.map fun p => c.suspect / 2 ^ p % 2 = 1 || l.contains p) }

/-- The lowest position of a list of outs for which f holds. -/
def lowestOut (l : List (Nat × Nat × Nat)) (f : Nat × Nat × Nat → Bool) : Option (Nat × Nat × Nat) :=
  positions.findSome? fun p => l.find? fun e => e.1 = p && f e

/-- Ends transaction t of set k with a class, status and response; sus are the positions that got SUSPECT (08 R238). -/
def State.endSetTxn (s : State) (t k : Nat) (cls : OClass) (status : Nat) (resp : List Byte) (sus : List Nat) : State :=
  match s.txn t with
  | none => s
  | some x =>
    let n := x.rounds
    let flags := maskOf (positions.map fun p => sus.contains p || n.outs.any fun e => e.1 = p)
    let cause := match lowestOut n.outs (fun e => e.2.2 ≠ 0) with | some e => e.2.2 | none => 0
    let sent := match n.leadLast with | some m => m.sent | none => 0
    let s1 := s.requestOutcome t
      { cls := cls, status := status, cause := cause, setFlags := flags, promoted := n.promoted, respLen := resp.length,
        sentLen := if cls = .notSent then 0 else sent, resp := resp }
    ((s1.freeSlots t x.slots).settleSet k).actPendAll

/-- The decision of 08 Table 8-2 on transaction t of set k. -/
def State.decideSet (s : State) (t k : Nat) (x : Txn) : State :=
  let n := x.rounds
  let c := s.cset k
  let cap := x.respCap
  let l := decided c n
  let g := largest cap l
  let lead := match n.cur.getD n.lead none with | some m => m.resp | none => []
  if !n.began then s.endSetTxn t k .notSent ((lowestOut n.outs fun e => e.2.1 ≠ 0).map (·.2.1) |>.getD 0x90) [] []
  else if !disagree cap l && c.quorum ≤ l.length then s.endSetTxn t k .done 0x00 g.2 []
  else if disagree cap l && 3 ≤ c.c && c.quorum ≤ g.1.length then
    let out := (l.map (·.1)).filter fun p => !g.1.contains p
    let s1 := ((s.tally (0x2400 + k) 9).suspect k out).forEach out fun s p => s.posOut k p 3
    s1.endSetTxn t k .done 0x21 g.2 out
  else if disagree cap l then
    let s1 := ((s.tally (0x2400 + k) 0x0A).suspect k (l.map (·.1))).modSet k fun c => { c with diverged := true }
    let s2 := ((s1.keepSet k).post 0x53 k 1 [BitVec.ofNat 32 (s1.cset k).suspect]).irq 15
    s2.endSetTxn t k .inDoubt 0x20 lead (l.map (·.1))
  else s.endSetTxn t k .inDoubt 0x22 lead []

/-- Whether the decision would be SET_MISMATCH. -/
def mismatch (c : CardSet) (cap : Nat) (n : Rounds) : Bool :=
  let l := decided c n
  n.began && disagree cap l && !(3 ≤ c.c && c.quorum ≤ (largest cap l).1.length)

/-- The end of a NO_COMPARE round (08 R239). -/
def State.endNoCompare (s : State) (t k : Nat) (x : Txn) : State :=
  let n := x.rounds
  let c := s.cset k
  let p := n.targets.headD n.lead
  let again := x.idem && bitOf c.cfg 1 && !n.reissued && c.at p ≠ .member && 0 < c.members
  if again then (s.modRounds t fun n => { n with reissued := true }).runRound t k [c.lead]
  else match n.cur.getD p none with
    | some m => s.endSetTxn t k m.cls m.status (if m.done then m.resp else (match n.cur.getD n.lead none with | some l => l.resp | none => m.resp)) []
    | none => s.endSetTxn t k .notSent ((lowestOut n.outs fun e => e.2.1 ≠ 0).map (·.2.1) |>.getD 0x90) [] []

/-- ROUND_END (08 R236 to R239): every target exchange of the round has ended. Log 3. -/
def execRoundEnd (t : Fin 1024) (s : State) : Host.Outcome State Fault Refusal :=
  match s.txn t with
  | none => nx s
  | some x =>
    match x.target with
    | .set k =>
      let n := x.rounds
      let c := s.cset k
      if x.stage ≠ .exch || !n.running.isEmpty then nx s
      else if x.noCompare then nx (s.endNoCompare t k x)
      else
        let p := n.fresh.filter fun i => c.at i = .member
        if !p.isEmpty && x.idem && bitOf c.cfg 1 && !n.reissued then
          nx ((s.modRounds t fun n => { n with reissued := true }).runRound t k p)
        else if mismatch c x.respCap n && x.idem && bitOf c.cfg 0 && !n.retried then
          nx ((s.modRounds t fun n => { n with retried := true }).runRound t k (s.roundTargets x k))
        else nx (s.decideSet t k x)
    | _ => nx s

end Sys2Proof.Machine
end

