-- ==== Sys2Proof/Machine/Tempering.lean ====
section
/-! DEFINITION. Tempering: windows, decisions, limits, apply points; the polder converter (09 R247 to R265). -/

namespace Sys2Proof.Machine

/-- The largest sample offset: min(d, 127), d of 04 R100. -/
def Slot.ofsMax (x : Slot) : Nat := min (x.ch.etu.part 8) 127

/-! Registers (09 Tables 9-9 to 9-11). -/

/-- TEMP_CFG.MODE. -/
def Temper.mode (t : Temper) : Nat := fld t.cfg 31 30

/-- Whether a decision waits or is held (09 Table 9-11, PEND). -/
def Temper.pend (t : Temper) : Bool := t.pendOfs.isSome || t.pendPull.isSome || t.pendSlew.isSome || t.pendDuty.isSome

/-- TEMP_STATUS (09 Table 9-11). -/
def Temper.statusWord (t : Temper) : Word :=
  packed [(20, t.lastLimit), (10, b2n t.overdraw), (9, b2n t.vccRange), (8, b2n t.ripple), (6, b2n t.duty), (5, b2n t.edge), (4, b2n t.eye),
    (3, b2n t.pend), (0, t.modeApplied)]

/-- The settings of TEMP_FIXED, OFS clamped to ±m (09 R258). -/
def Temper.fixedSetting (t : Temper) (m : Nat) : Setting :=
  let o : Int := (BitVec.ofNat 8 (fld t.fixed 31 24)).toInt
  { ofs := max (-m) (min m o), pull := fld t.fixed 17 16, slew := fld t.fixed 10 8, duty := (BitVec.ofNat 4 (fld t.fixed 7 4)).toInt }

/-- Duty trim d is applied to slot x at ck t: it waits for the first falling edge of CLK (09 R256). -/
def Slot.stageDuty (x : Slot) (t : Nat) (d : Int) : Slot :=
  let y := x.takeUp t
  if d = y.temp.app.duty then { y with temp := { y.temp with pendDuty := none, dutyNext := none } }
  else if y.seq.clkRun then { y with temp := { y.temp with pendDuty := some d, dutyNext := some d, dutyAt := y.nextFall t } }
  else { y with temp := { y.temp with app := { y.temp.app with duty := d }, pendDuty := none, dutyNext := none } }

/-- A setting is applied to slot x at ck t: a new SAMPLE_OFS is staged while a character is in the shifter, `busy` (04 R98). -/
def Slot.applySetting (x : Slot) (t : Nat) (busy : Bool) (n : Setting) : Slot :=
  let y := x.noteChange t
  ({ y with
    temp := { y.temp with app := { n with duty := y.temp.app.duty }, pendOfs := none, pendPull := none, pendSlew := none }
    ch := { y.ch with pend := y.ch.pend || (busy && n.ofs ≠ x.temp.app.ofs) } } : Slot).stageDuty t n.duty

/-- The start values of 09 Table 9-3. -/
def Slot.startSetting (x : Slot) : Setting := { pull := fld x.regs.cfg 16 15 }

/-- A new TEMP_CFG.MODE takes effect on slot x at ck t, and nothing where the mode is not new (09 R258). -/
def Slot.modeNow (x : Slot) (t : Nat) (busy : Bool) : Slot :=
  let m := x.temp.mode
  let y : Slot := { x with temp := { x.temp with modeApplied := m } }
  if m = x.temp.modeApplied then x
  else if m = 2 then y.applySetting t busy (x.temp.fixedSetting x.ofsMax)
  else if m = 3 then let z := y.applySetting t busy x.startSetting; { z with temp := z.temp.discard }
  else if x.temp.modeApplied = 3 ∧ x.measuredIn then y.countDuty t
  else y

/-- An apply point of slot x at ck t: a new mode, and the decisions pending or, in FIXED, TEMP_FIXED (09 R253, R258). -/
def Slot.temperNow (x : Slot) (t : Nat) (busy : Bool) : Slot :=
  let y := x.modeNow t busy
  let p := y.temp
  if p.modeApplied = 0 then
    y.applySetting t busy
      { ofs := p.pendOfs.getD p.app.ofs, pull := p.pendPull.getD p.app.pull, slew := p.pendSlew.getD p.app.slew, duty := p.pendDuty.getD p.app.duty }
  else if p.modeApplied = 2 then y.applySetting t busy (p.fixedSetting y.ofsMax)
  else y

/-- A character is in the shifter of slot x: sent, received, or with its late stop sample due (04 R98). -/
def State.inShifter (s : State) (x : Slot) : Bool := s.txBusy x || s.rxBusy x || x.ch.rxHold.isSome

/-- A write of register off of the tempering block of slot i (09 R264). -/
def State.writeTemper (s : State) (ag : Agent) (i off : Nat) (w : Word) : State :=
  s.granted ag 1 fun s =>
    match off with
    | 0x00 =>
      if fld w 19 16 = 0 || fld w 11 0 = 0 then s.slotErr i .value
      else (s.slotErr i .none).modSlot i fun x =>
        let y := { x with temp := { x.temp with cfg := w &&& 0xC70F0FFF#32 } }
        if y.tempered then y else y.modeNow s.now (s.inShifter y)
    | 0x04 =>
      let d := (BitVec.ofNat 4 (fld w 7 4)).toInt
      if fld w 31 24 = 0x80 || fld w 17 16 = 3 || d < -4 || 4 < d then s.slotErr i .value
      else (s.slotErr i .none).modSlot i fun x => { x with temp := { x.temp with fixed := w &&& 0xFF0307F0#32 } }
    | 0x0C =>
      (s.slotErr i .none).modSlot i fun x => { x with temp := { x.temp with
        overdraw := x.temp.overdraw && !bitOf w 10, vccRange := x.temp.vccRange && !bitOf w 9, ripple := x.temp.ripple && !bitOf w 8,
        duty := x.temp.duty && !bitOf w 6, edge := x.temp.edge && !bitOf w 5, eye := x.temp.eye && !bitOf w 4 } }
    | _ => s.slotErr i .none

/-- A read of register off of the tempering block of slot i. -/
def State.readTemper (s : State) (i off : Nat) : Word :=
  let t := (s.slot i).temp
  match off with
  | 0x00 => t.cfg
  | 0x04 => t.fixed
  | 0x08 => t.stateWord
  | 0x0C => t.statusWord
  | 0x10 => t.m10
  | 0x14 => t.m14
  | 0x18 => t.m18
  | 0x1C => t.m1c
  | 0x20 => t.m20
  | 0x24 => t.m24
  | 0x28 => t.m28
  | _ => 0#32

/-- The duty window of slot i ends at the end of its 64th period (09 R250, R251). -/
def State.dutyFull (s : State) (i : Nat) (highs : List Nat) : State :=
  match ((s.slot i).takeUp s.now).dutyDue with
  | none => s
  | some v =>
    let s1 := s.elapseTo v
    let y := (s1.slot i).takeUp s1.now
    match y.dutyDue with
    | some u => if u ≤ s1.now then (s1.modSlot i fun _ => y).dutyEnd i highs else s1
    | none => s1

/-- TEMPER_WINDOW_END (09 R251, R262): a window that is full ends. Log 3, 4. -/
def execTemperWindowEnd (i : Fin 64) (m : Measure) (s : State) : Host.Outcome State Fault Refusal :=
  match m with
  | .edge => nx (s.edgeFull i)
  | .duty l => if (s.slot i).measured && (s.slot i).seq.clkRun then nx (s.dutyFull i l) else nx s
  | .conv => nx (s.convFull i)

/-- Whether no T=1 block is partly sent or received on slot x (09 R253). -/
def Slot.betweenBlocks (x : Slot) : Bool :=
  x.pr.proto = 0 || ((x.ch.txq.isEmpty || x.ch.txq = x.pr.t1.last) &&
    (x.ch.rxBuf.isEmpty || (match blockNeed x.pr.crc (x.ch.rxBuf.map (·.data)) with | some n => decide (n ≤ x.ch.rxBuf.length) | none => false)))

/-- The ck at which C7 of slot x has been idle high for 4 ETU (09 R253 B). -/
def Slot.pointB (x : Slot) : Nat :=
  max x.ch.rearm (match x.ch.lastTx with | some t => t + x.ch.etu.bound 10 | none => 0) + x.ch.etu.bound 4

/-- Whether a character queued at slot x begins by ck t (09 R254). -/
def Slot.startsBy (x : Slot) (t : Nat) : Bool := x.mayTransmit && !(if x.raw then x.ch.rawTx.isEmpty else x.ch.txq.isEmpty) && x.txEarliest ≤ t

/-- TEMPER_APPLY (09 R253 to R258): A in the ck of the middle stop sample that is one, B 4 ETU into the idle line; a start bit or edge in that ck goes
ahead. A window that is full ends before it. Log 3, 4. -/
def execTemperApply (i : Fin 64) (at_ : ApplyPoint) (s : State) : Host.Outcome State Fault Refusal :=
  match at_ with
  | .a =>
    let s1 := s.edgeFull i
    let x := s1.slot i
    if x.tempered && x.ch.applyAt = some s1.now && x.ch.lastStart ≠ s1.now then nx (s1.modSlot i fun x => x.temperNow s1.now (s1.inShifter x)) else nx s1
  | .b =>
    let s1 := ((s.rxFlush i).digest i).edgeFull i
    let x := s1.slot i
    if x.tempered && x.ch.txChk.isNone && x.ch.rxOn.isNone && x.betweenBlocks && (x.ch.rxBuf.isEmpty || x.pr.proto = 0) && !x.startsBy x.pointB then
      let s2 := s1.elapseTo x.pointB
      nx (s2.modSlot i fun x => x.temperNow s2.now false)
    else nx s1
  | .atOnce => if (s.slot i).tempered then nx s else nx (s.modSlot i fun x => x.modeNow s.now (s.inShifter x))

/-! The converter (09 R259 to R261, R265). -/

/-- Sets CONV_STATUS.CMD_ERR. -/
def State.convErr (s : State) (p : Nat) (e : CmdErr) : State := s.modPolder p fun q => { q with conv := { q.conv with cmdErr := e } }

/-- The slots of polder p that tempering samples. -/
def State.sampled (s : State) (p : Nat) : List Nat := (polderSlots p).filter fun i => (s.slot i).tempered && (s.slot i).temp.modeApplied ≠ 3

/-- The samples tempering still takes in the round in hand of polder p, or in a new one (09 R260). -/
def State.tempRound (s : State) (p : Nat) : List (Nat × Nat) :=
  let l := s.sampled p
  let left := (s.polder p).tround.filter fun e => l.contains e.1
  if left.isEmpty then l.flatMap fun i => [(i, 0), (i, 1)] else left

/-- Whose sample the converter of polder p takes next, in the order of 09 R259; a request that has restarted its slot's clock waits for it (09 R261). -/
def State.convNext (s : State) (p : Nat) : Option ConvUser :=
  let q := s.polder p
  match q.settle.find? fun e => (s.slot e.1).seq.phase = .settle && e.2.length < 4 with
  | some e => some (.settle e.1)
  | none =>
    if q.conv.busy && !(q.conv.holdClk && (s.slot (8 * p + fld q.conv.cfg 2 0)).seq.restartAt.isSome) then some .request
    else if q.conv.tempEn then (s.tempRound p).head?.map fun e => .temper e.1 e.2
    else none

/-- An idle converter of polder p takes up the next sample now; one in progress is not cut short (09 R259). -/
def State.convTakeUp (s : State) (p : Nat) : State :=
  if (s.polder p).convUser.isSome then s
  else
    let u := s.convNext p
    s.modPolder p fun q =>
      { q with
        convUser := u, convAt := s.now
        tround := match u with | some (.temper _ _) => (s.tempRound p).drop 1 | _ => q.tround }

/-- A write of CONV_REQ (09 R261, Table 9-13): RUN_CLK acts only on a slot in CLOCKSTOP. -/
def State.writeConvReq (s : State) (ag : Agent) (p : Nat) (w : Word) : State :=
  s.granted ag 2 fun s =>
    if (s.polder p).conv.busy then s.convErr p .state
    else
      let i := 8 * p + fld w 2 0
      let go := bitOf w 31
      let hold := go && bitOf w 16 && fld w 5 4 < 2 && (s.slot i).st = .clockstop
      let s1 := (s.convErr p .none).modPolder p fun q => { q with
        conv :=
          if go then { q.conv with cfg := w &&& 0x0001FF37#32, busy := true, preempted := false, samples := [], holdClk := hold }
          else { q.conv with cfg := w &&& 0x0001FF37#32 } }
      let s2 := if hold then s1.restartClock i else s1
      if go then s2.convTakeUp p else s2

/-- GO (09 R261). -/
def execGo (ag : Agent) (p : Fin 8) (w : Word) (s : State) : Host.Outcome State Fault Refusal := nx (s.writeConvReq ag p (w ||| 0x80000000#32))

/-- Samples of the request. -/
def ConvReq.total (c : ConvReq) : Nat := fld c.cfg 15 8 + 1

/-- A sample of the request of polder p (09 R261). -/
def State.reqSample (s : State) (p code : Nat) : State :=
  let c := (s.polder p).conv
  let l := c.samples ++ [code]
  if !c.busy then s
  else if l.length < c.total then s.modPolder p fun q => { q with conv := { q.conv with samples := l } }
  else
    let mean := l.sum / l.length
    let mx := l.foldl max 0
    let mn := l.foldl min 4095
    (s.modPolder p fun q =>
      { q with conv := { q.conv with samples := l, busy := false, holdClk := false, done := true, mean := mean, maxC := mx, minC := mn } }).post
      0x62 p (fld c.cfg 5 4) [BitVec.ofNat 32 mean, BitVec.ofNat 32 mn, BitVec.ofNat 32 mx, BitVec.ofNat 32 l.length]

/-- The code of a sample of polder p goes to the user it was taken for (09 R259, R260). -/
def State.convGive (s : State) (p : Nat) (u : ConvUser) (code : Nat) : State :=
  match u with
  | .settle i =>
    s.modPolder p fun q =>
      { q with
        settle := (q.settle.filter fun f => (s.slot f.1).seq.phase = .settle).map fun f => if f.1 = i ∧ f.2.length < 4 then (f.1, f.2 ++ [code]) else f
        conv := { q.conv with preempted := q.conv.preempted || q.conv.busy } }
  | .request => s.reqSample p code
  | .temper i ch => if (s.sampled p).contains i then s.convTake i ch code else s

/-- CONV_SAMPLE (09 R259): the sample in progress ends, 2 µs after the converter took it up, and the next is taken up. An idle converter takes one up
first. Log 3, 4. -/
def execConvSample (p : Fin 8) (code : BitVec 12) (s : State) : Host.Outcome State Fault Refusal :=
  let s0 := s.convTakeUp p
  match (s0.polder p).convUser with
  | none => nx s
  | some u =>
    let s1 := (s0.elapseTo ((s0.polder p).convAt + 960)).modPolder p fun q => { q with convUser := none }
    nx ((s1.convGive p u code.toNat).convTakeUp p)

/-- A write of register off of the polder block of polder p, its loop-back registers apart (09 R265, 02 R64, 03 R91). -/
def State.writePolder (s : State) (ag : Agent) (p off : Nat) (w : Word) : State :=
  match off with
  | 0x00 => s.writeConvReq ag p w
  | 0x04 => s.granted ag 2 fun s => (s.convErr p .none).modPolder p fun q => { q with conv := { q.conv with done := q.conv.done && !bitOf w 1 } }
  | 0x10 => s.granted ag 2 fun s => (s.convErr p .none).modPolder p fun q => { q with conv := { q.conv with tempEn := bitOf w 0 } }
  | 0x20 => s.granted ag 2 fun s =>
      if fld w 15 0 < 800 then s.convErr p .value else (s.convErr p .none).modPolder p fun q => { q with stagger := w.setWidth 16 }
  | 0x24 => s.granted ag 2 fun s => (s.convErr p .none).modPolder p fun q => { q with hotQuench := q.hotQuench && !bitOf w 25 }
  | 0x44 => s.granted ag 2 fun s => s
  | _ => s.granted ag 2 fun s => s.convErr p .none

/-- A read of register off of the polder block of polder p. -/
def State.readPolder (s : State) (p off : Nat) : Word × State :=
  let q := s.polder p
  let c := q.conv
  match off with
  | 0x00 => (c.cfg, s)
  | 0x04 => (packed [(29, c.cmdErr.code), (8, c.samples.length - 1), (2, b2n c.preempted), (1, b2n c.done), (0, b2n c.busy)], s)
  | 0x08 => (BitVec.ofNat 32 c.mean, s)
  | 0x0C => (packed [(16, c.maxC), (0, c.minC)], s)
  | 0x10 => (packed [(0, b2n c.tempEn)], s)
  | 0x20 => (packed [(0, q.stagger.toNat)], s)
  | 0x24 => s.readTherm p
  | _ => (0#32, s)

end Sys2Proof.Machine
end

