-- ==== Sys2Proof/Machine/SlotRegs.lean ====
section
/-! DEFINITION. The slot register block (02 R63, 03 R90, 04 R113, 06 R187) beyond its commands. -/

namespace Sys2Proof.Machine

/-- The states in which locked fields are locked (02 R63). -/
def Slot.locked (x : Slot) : Bool := x.inActivation || x.inService || x.st = .quenching

/-- Whether a write changes a bit of a mask. -/
def changes (old new mask : Word) : Bool := (old ^^^ new) &&& mask ≠ 0#32

/-- Whether SLOT_CFG may take a value (02 Table 2-11). -/
def slotCfgOk (w : Word) : Bool := fld w 16 15 ≠ 3 && fld w 6 5 ≠ 3 && fld w 4 3 < 2 && fld w 2 0 ≠ 0

/-- Whether SLOT_ACT_TIMING may take a value (02 Table 2-12). -/
def actTimingOk (w : Word) : Bool := 96 ≤ fld w 24 16 && fld w 24 16 ≤ 480 && 400 ≤ fld w 15 0

/-- Whether CHAR_CFG may take a value (04 Table 4-6). -/
def charCfgOk (w : Word) : Bool := fld w 31 30 < 2 && fld w 28 27 ≠ 3 && 11 ≤ fld w 17 9 && fld w 17 9 ≤ 267

/-- Whether CHAR_ETU may take a value (04 Table 4-7). -/
def charEtuOk (w : Word) : Bool := 8 ≤ fld w 30 17 && fld w 30 17 ≤ 8192 && fiOf (fld w 11 8) ≠ 0 && diOf (fld w 7 4) ≠ 0

/-- Whether PROT_CFG may take a value (06 Table 6-15). -/
def protCfgOk (w : Word) : Bool :=
  fld w 24 23 ≠ 0 && fld w 22 20 ≠ 0 && fld w 19 12 ≠ 0 && fld w 19 12 ≠ 255 && 24 ≤ fld w 11 3 && fld w 11 3 ≤ 480 && fld w 2 1 ≠ 3

/-- SLOT_CFG takes a value: with VCC off and the tempering not FIXED, the pull-up in use follows IO_PULL_INIT (09 R258); an activation that waits in
PRESENT is at the first class of the new trial order, and at the old one where none is permitted, which does not ramp (02 R42; DESIGN CHOICE, log
129). -/
def State.loadSlotCfg (s : State) (i : Nat) (w : Word) : State :=
  s.modSlot i fun x =>
    { x with regs := { x.regs with cfg := w }
             seq := if x.st = .present && x.actPending then { x.seq with tryCls := (trialOrder w).headD x.seq.tryCls } else x.seq
             temp := if x.seq.vcc = .off && x.temp.modeApplied ≠ 2 then { x.temp with app := { x.temp.app with pull := fld w 16 15 } } else x.temp }

/-- A write of a register with reserved values and locked fields (02 R63): VALUE, LOCKED, STATE, else f. -/
def State.slotField (s : State) (i : Nat) (ok locked state : Bool) (f : State → State) : State :=
  if !ok then s.slotErr i .value else if locked then s.slotErr i .locked else if state then s.slotErr i .state else (f s).slotErr i .none

/-- Runs f unless a path without the maker's grant changes an expert field, which discards the write (15 R391). -/
def State.expert (s : State) (ag : Agent) (changed : Bool) (f : State → State) : State := if changed then s.granted ag 3 f else f s

/-- A write of register off of the register block of slot i (02 Table 2-9, 03 Table 3-9, 04 Table 4-5, 06 Table 6-14). -/
def State.writeSlot (s : State) (ag : Agent) (i off : Nat) (w : Word) : State :=
  let x := s.slot i
  let r := x.regs
  let reg (f : SlotRegs → SlotRegs) (s : State) : State := s.modSlot i fun x => { x with regs := f x.regs }
  let timing (f : SlotRegs → SlotRegs) (s : State) : State := s.modSlot i fun x =>
    let y := x.noteChange s.now
    { y with regs := f y.regs, ch := { y.ch with pend := y.ch.pend || s.inShifter x } }
  match off with
  | 0x00 => s.writeSlotCtrl ag i w
  | 0x1C => s.writeActAtHi ag i w
  | 0x24 => s.writeDeactAtHi ag i w
  | 0x70 => s.writeRaw ag i w
  | _ => s.granted ag 1 fun s =>
    match off with
    | 0x04 =>
      s.expert ag (changes r.cfg w 0x4000#32) fun s =>
        s.slotField i (slotCfgOk w) (x.locked && changes r.cfg w 0x18DFF#32) false fun s => s.loadSlotCfg i (w &&& 0x3FFFF#32)
    | 0x08 => s.slotField i (actTimingOk w) (x.locked && changes r.actTiming w 0x1FFFFFF#32) false (reg fun r => { r with actTiming := w &&& 0x1FFFFFF#32 })
    | 0x0C => s.slotField i (1860 ≤ fld w 31 16) false false (reg fun r => { r with cstopIdle := BitVec.ofNat 16 (fld w 31 16) })
    | 0x14 => s.slotField i true false false (reg fun r => { r with dischTimeout := r.dischTimeout && !bitOf w 1, seepLeak := r.seepLeak && !bitOf w 0 })
    | 0x18 => s.slotField i true false false (reg fun r => { r with actAt := cat64 (hi32 r.actAt) w })
    | 0x20 => s.slotField i true false false (reg fun r => { r with deactAt := cat64 (hi32 r.deactAt) w })
    | 0x34 => s.slotField i (fld w 15 8 ≠ 0) (x.locked && changes r.supervise w 0x31#32) false (reg fun r => { r with supervise := w &&& 0xFF31#32 })
    | 0x64 =>
      s.slotField i (charCfgOk w) (x.locked && changes r.charCfg w 0x1FE00000#32)
        ((changes r.charCfg w 0xE003FE00#32 && x.st ≠ .ready && x.st ≠ .clockstop) || (bitOf w 30 && x.st ≠ .ready))
        (timing fun r => { r with charCfg := w &&& 0xFFE3FE00#32 })
    | 0x68 =>
      s.expert ag (changes r.charEtu w 0xFFFE0000#32) fun s =>
        s.slotField i (charEtuOk w) false (changes r.charEtu w 0xFFFE0FF0#32 && x.st ≠ .ready && x.st ≠ .clockstop)
          (timing fun r => { r with charEtu := w &&& 0xFFFE0FF0#32 })
    | 0x6C =>
      (s.slotErr i .none).modSlot i fun x => { x with ch := { x.ch with
        rawOvf := x.ch.rawOvf && !bitOf w 4, framing := x.ch.framing && !bitOf w 3, parity := x.ch.parity && !bitOf w 2,
        rxRptLim := x.ch.rxRptLim && !bitOf w 1, txRptLim := x.ch.txRptLim && !bitOf w 0 } }
    | 0x74 => s.slotField i (protCfgOk w) (x.locked && changes r.protCfg w 0x7FFFFFFF#32) false (reg fun r => { r with protCfg := w &&& 0x7FFFFFFF#32 })
    | _ => s.slotErr i .none

/-- Slot i waits for the polder stagger: the last ramp is too near, or another slot that waits for it alone goes first (02 R45, R46). -/
def State.inhStagger (s : State) (i : Nat) : Bool :=
  let p := s.polder (i / 8)
  (s.slot i).actPending &&
    (((s.slot i).freeToRamp p && !s.nextRamp i) || (match p.lastRamp with | some v => decide (s.ltide < v + p.stagger.setWidth 64) | none => false))

/-- SLOT_STATUS (02 Table 2-14). -/
def State.slotStatus (s : State) (i : Nat) : Word :=
  let x := s.slot i
  let p := s.polder (i / 8)
  packed [(26, x.regs.cmdErr.code), (25, b2n (s.inhStagger i)), (24, b2n (x.seq.gapFrom.isSome || x.seq.leaking || x.seq.vcc = .disch)),
    (23, b2n (p.railLow x.seq.tryCls)), (22, b2n p.warn), (21, b2n x.regs.deactAtArmed.isSome), (20, b2n x.regs.actAtArmed.isSome),
    (19, b2n x.seq.warmPend), (18, b2n x.seq.deactPend), (17, b2n (x.actPending && x.st ≠ .parked)), (16, b2n x.seq.discharging), (15, b2n x.seq.pres),
    (12, x.regs.atrErr), (8, x.regs.actResult), (6, match x.seq.cls with | some c => c.code | none => 3), (0, x.st.code)]

/-- CHAR_STATUS (04 Table 4-8). -/
def State.charStatus (s : State) (i : Nat) : Word :=
  let x := s.slot i
  packed [(10, x.ch.etu.whole), (9, b2n x.ch.inverse), (8, b2n (x.ch.etu.num % x.ch.etu.den ≠ 0)), (7, b2n x.ch.pend), (6, b2n (s.txBusy x)),
    (5, b2n (s.rxBusy x)), (4, b2n x.ch.rawOvf), (3, b2n x.ch.framing), (2, b2n x.ch.parity), (1, b2n x.ch.rxRptLim), (0, b2n x.ch.txRptLim)]

/-- ATR_INFO (02 Table 2-16). -/
def Slot.atrInfo (x : Slot) : Word :=
  packed [(15, b2n x.ch.inverse), (14, b2n x.pr.t15), (8, x.pr.y), (6, x.pr.x), (0, x.ch.atr.length)]

/-- PROT_PARAM (06 Table 6-16). -/
def Slot.protParam (x : Slot) : Word :=
  packed [(29, b2n x.pr.crc), (21, x.pr.ifsc), (17, x.pr.bwi), (13, x.pr.cwi), (5, x.pr.wi), (4, b2n x.pr.specific.isSome), (3, x.pr.proto)]

/-- PROT_STATUS (06 Table 6-17). -/
def Slot.protStatus (x : Slot) : Word :=
  let t := x.pr.t1
  packed [(28, x.pr.lastEnd), (24, x.pr.negResult), (15, b2n x.seq.negResetUsed), (14, b2n (t.bwtArmed && 1 < t.wtx)),
    (13, b2n (t.sPending || x.pr.mode = .ifs || x.pr.mode = .resynch || x.pr.mode = .reIfs)), (12, b2n t.nr), (11, b2n t.ns), (8, t.attempts % 8), (6, t.rsync)]

/-- SLOT_QUENCH (03 Table 3-10). -/
def Slot.quenchWord (x : Slot) : Word :=
  packed [(12, x.regs.also.toNat), (8, x.regs.primary), (1, b2n x.regs.dischTimeout), (0, b2n x.regs.seepLeak)]

/-- A read of the half of a 64-bit tide register: the low half latches the high half for the agent (02 R63, 11 R302). -/
def State.readTidePair (s : State) (ag : Agent) (key : Nat) (v : Tide) (hi : Bool) : Word × State :=
  if hi then (s.latch ag key, s) else (lo32 v, s.setLatch ag key (hi32 v))

/-- A read of register off of the register block of slot i. The latches are those of BAR0 offset 0x2000 + 0x80 i + off. -/
def State.readSlot (s : State) (ag : Agent) (i off : Nat) : Word × State :=
  let x := s.slot i
  let r := x.regs
  let key (h : Nat) : Nat := 0x2000 + 0x80 * i + h
  match off with
  | 0x04 => (r.cfg, s)
  | 0x08 => (r.actTiming, s)
  | 0x0C => (packed [(16, r.cstopIdle.toNat), (10, b2n x.seq.stopLevel), (9, b2n x.seq.clkRun), (0, x.divNow s.now)], s)
  | 0x10 => (s.slotStatus i, s)
  | 0x14 => (x.quenchWord, s)
  | 0x18 => s.readTidePair ag (key 0x1C) r.actAt false
  | 0x1C => s.readTidePair ag (key 0x1C) r.actAt true
  | 0x20 => s.readTidePair ag (key 0x24) r.deactAt false
  | 0x24 => s.readTidePair ag (key 0x24) r.deactAt true
  | 0x28 => s.readTidePair ag (key 0x2C) r.actStart false
  | 0x2C => s.readTidePair ag (key 0x2C) r.actStart true
  | 0x30 => (x.atrInfo, s)
  | 0x34 => (r.supervise, s)
  | 0x38 => s.readTidePair ag (key 0x3C) r.quenchAt false
  | 0x3C => s.readTidePair ag (key 0x3C) r.quenchAt true
  | 0x64 => (r.charCfg ||| BitVec.ofNat 32 (twos 8 x.temp.app.ofs), s)
  | 0x68 => (r.charEtu, s)
  | 0x6C => (s.charStatus i, s)
  | 0x70 => s.readRaw ag i
  | 0x74 => (r.protCfg, s)
  | 0x78 => (x.protParam, s)
  | 0x7C => (x.protStatus, s)
  | _ => if 0x40 ≤ off && off ≤ 0x60 then (wordOfLe (padTo 4 (x.ch.atr.drop (off - 0x40))), s) else (0#32, s)

end Sys2Proof.Machine
end

