-- ==== Sys2Proof/Machine/Bus.lean ====
section
/-! DEFINITION. BAR0: the map of 07 Table 7-1, the device block and the queue pair blocks (07 R190 to R193, 05 R115, R150). -/

namespace Sys2Proof.Machine

/-! The device block (07 Table 7-2). -/

/-- DEV_STATUS (07 Table 7-3). -/
def State.devStatus (s : State) : Word :=
  let d := s.dev
  packed [(29, d.cmdErr.code), (28, b2n d.wdenyB), (27, b2n d.wdenyA), (25, s.grant .b), (23, s.grant .a), (18, d.recovery), (17, b2n d.jsat),
    (16, pathNum s.evrPath), (3, b2n d.linkB), (2, b2n d.linkA)]

/-- RAIL_STATUS (03 Table 3-13). -/
def State.railStatus (s : State) : Word :=
  let m (f : Polder → Bool) : Nat := maskOf ((List.range 8).map fun p => f (s.polder p))
  packed [(24, m (·.highSeen)), (16, m (·.lowSeen)), (8, m (·.highLow)), (0, m (·.lowLow))]

/-- A write of register off of the device block. -/
def State.writeDev (s : State) (ag : Agent) (off : Nat) (w : Word) : State :=
  let d := s.dev
  match off with
  | 0x004 => (s.devErr .none).modDev fun d => { d with wdenyB := d.wdenyB && !bitOf w 28, wdenyA := d.wdenyA && !bitOf w 27 }
  | 0x010 =>
    s.granted ag 1 fun s => s.forEach (List.range 8) (fun s p => s.modPolder p fun q =>
      { q with highSeen := q.highSeen && !bitOf w (24 + p), lowSeen := q.lowSeen && !bitOf w (16 + p) }) |>.devErr .none
  | 0x020 => if d.evrEn then s.devErr .locked else (s.devErr .none).modDev fun d => { d with evrBase := cat64 (hi32 d.evrBase) (w &&& 0xFFFFFFC0#32) }
  | 0x024 => if d.evrEn then s.devErr .locked else (s.devErr .none).modDev fun d => { d with evrBase := cat64 w (lo32 d.evrBase) }
  | 0x028 => s.writeEvrCfg w
  | 0x02C => s.writeEvrHead w
  | 0x040 => (s.devErr .none).modDev fun d => { d with irqStatus := d.irqStatus &&& ~~~(w.setWidth 16) }
  | 0x044 => s.writeIrqMask w
  | 0x064 =>
    if fld w 10 0 = 0 || 1024 < fld w 10 0 then s.devErr .value else (s.devErr .none).modDev fun d => { d with spillHigh := fld w 10 0 }
  | 0x070 => s.writeLoopCtrl ag 14 w
  | _ => s.devErr .none

/-- A read of register off of the device block. -/
def State.readDev (s : State) (ag : Agent) (off : Nat) : Word × State :=
  let d := s.dev
  match off with
  | 0x000 => (packed [(16, 0x6400), (8, Config.stepping.toNat)], s)
  | 0x004 => (s.devStatus, s)
  | 0x010 => (s.railStatus, s)
  | 0x020 => (lo32 d.evrBase, s)
  | 0x024 => (hi32 d.evrBase, s)
  | 0x028 => (d.evrCfg, s)
  | 0x030 => (packed [(16, b2n d.evrPhase), (0, d.evrTail)], s)
  | 0x034 => (BitVec.ofNat 32 d.evrLost, s)
  | 0x040 => (d.irqStatus.setWidth 32, s)
  | 0x044 => (d.irqMask.setWidth 32, s)
  | 0x050 => s.readTidePair ag 0x054 (BitVec.ofNat 64 s.flow.jNext) false
  | 0x054 => s.readTidePair ag 0x054 0#64 true
  | 0x060 => s.readSpill
  | 0x064 => (BitVec.ofNat 32 d.spillHigh, s)
  | 0x074 => (s.loopStatus 14, s)
  | _ => (0#32, s)

/-! Queue pair blocks (07 Table 7-5). -/

/-- Whether QP_SIZE may take a value (07 Table 7-6). -/
def qpSizeOk (w : Word) : Bool := 15 ≤ fld w 27 16 && 15 ≤ fld w 11 0

/-- Whether QP_CFG may take a value (07 Table 7-7). -/
def qpCfgOk (w : Word) : Bool := fld w 28 18 ≠ 0 && fld w 28 18 ≤ 1024 && fld w 15 9 ≠ 0 && fld w 15 9 ≤ 64

/-- A write of register off of the block of pair q. -/
def State.writeQp (s : State) (q off : Nat) (w : Word) : State :=
  let x := s.qp q
  let set (ok locked : Bool) (f : QPair → QPair) : State :=
    if !ok then s.qpErr q .value else if locked then s.qpErr q .locked else (s.modQp q f).qpErr q .none
  let busy : Bool := x.st ≠ .disabled
  match off with
  | 0x00 => set true busy fun x => { x with sqBase := cat64 (hi32 x.sqBase) (w &&& 0xFFFFFFC0#32) }
  | 0x04 => set true busy fun x => { x with sqBase := cat64 w (lo32 x.sqBase) }
  | 0x08 => set true busy fun x => { x with cqBase := cat64 (hi32 x.cqBase) (w &&& 0xFFFFFFE0#32) }
  | 0x0C => set true busy fun x => { x with cqBase := cat64 w (lo32 x.cqBase) }
  | 0x10 => set (qpSizeOk w) busy fun x => { x with size := w &&& 0x0FFF0FFF#32 }
  | 0x14 => set (qpCfgOk w) (busy && changes x.cfg w 0x7FFCFFFF#32) fun x => { x with cfg := w &&& 0xFFFCFFFF#32 }
  | 0x18 => set true busy fun x => { x with login := w }
  | 0x1C => s.writeQpCtrl q w
  | 0x20 => set true false fun x => { x with dbErr := x.dbErr && !bitOf w 11 }
  | _ => s.qpErr q .none

/-- QP_STATUS (07 Table 7-9). -/
def State.qpStatus (s : State) (q : Nat) : Word :=
  let x := s.qp q
  packed [(29, x.cmdErr.code), (18, (s.flow.spill.filter fun e => e.ring = q).length), (11, b2n x.dbErr), (10, b2n ((s.txnsOf q).any (·.2.held))),
    (9, b2n x.stalled), (8, b2n (s.joined q).isSome), (7, b2n x.cqPhase), (0, x.st.code)]

/-- A read of register off of the block of pair q. -/
def State.readQp (s : State) (ag : Agent) (q off : Nat) : Word × State :=
  let x := s.qp q
  let key := 0x10000 + 0x40 * q + 0x34
  match off with
  | 0x00 => (lo32 x.sqBase, s)
  | 0x04 => (hi32 x.sqBase, s)
  | 0x08 => (lo32 x.cqBase, s)
  | 0x0C => (hi32 x.cqBase, s)
  | 0x10 => (x.size, s)
  | 0x14 => (x.cfg, s)
  | 0x18 => (x.login, s)
  | 0x20 => (s.qpStatus q, s)
  | 0x24 => (packed [(16, x.sqTail), (0, x.sqHead)], s)
  | 0x28 => (packed [(16, x.cqHead), (0, x.cqTail)], s)
  | 0x30 => s.readTidePair ag key (BitVec.ofNat 64 (s.ackOf q)) false
  | 0x34 => s.readTidePair ag key 0#64 true
  | _ => (0#32, s)

/-! The map. -/

/-- A register of BAR0: the block and what names it in the block. -/
inductive Reg where
  | dev (off : Nat)
  | mb (c off : Nat)
  | slot (i off : Nat)
  | polder (p off : Nat)
  | tide (off : Nat)
  | timer (t off : Nat)
  | port (p off : Nat)
  | ring (off : Nat)
  | tray (off : Nat)
  | set (k off : Nat)
  | temper (i off : Nat)
  | qp (q off : Nat)
  | doorbell (q : Nat) (head : Bool)
  | msix (i : Nat)
  | pba (i : Nat)
  | none
  deriving DecidableEq, Repr

/-- The register at an aligned BAR0 offset (07 Table 7-1). -/
def regAt (a : Nat) : Reg :=
  if a < 0x1000 then .dev a
  else if a < 0x2000 then .mb ((a - 0x1000) / 0x800) (a % 0x800)
  else if a < 0x4000 then .slot ((a - 0x2000) / 0x80) (a % 0x80)
  else if a < 0x4800 then .polder ((a - 0x4000) / 0x100) (a % 0x100)
  else if a < 0x4900 then .tide (a % 0x100)
  else if a < 0x5000 then .none
  else if a < 0x5400 then .timer (192 + (a - 0x5000) / 0x40) (a % 0x40)
  else if a < 0x6000 then .none
  else if a < 0x9000 then .timer ((a - 0x6000) / 0x40) (a % 0x40)
  else if a < 0xA000 then .port ((a - 0x9000) / 0x400) (a % 0x400)
  else if a < 0xB000 then .ring (a % 0x1000)
  else if a < 0xC000 then .tray (a % 0x1000)
  else if a < 0xD000 then .set ((a - 0xC000) / 0x80) (a % 0x80)
  else if a < 0xE000 then .none
  else if a < 0x10000 then .temper ((a - 0xE000) / 0x80) (a % 0x80)
  else if a < 0x18000 then .qp ((a - 0x10000) / 0x40) (a % 0x40)
  else if a < 0x19000 then .doorbell ((a - 0x18000) / 8) (a % 8 = 4)
  else if a < 0x1A000 then .none
  else if a < 0x1C110 then .msix ((a - 0x1A000) / 4)
  else if a < 0x1D000 then .none
  else if a < 0x1D048 then .pba ((a - 0x1D000) / 4)
  else .none

/-- A write of a register (07 R190, R191). Loop-back registers are those of 17 Table 17-1. -/
def State.writeReg (s : State) (ag : Agent) (r : Reg) (w : Word) : State :=
  match r with
  | .dev off => s.writeDev ag off w
  | .mb c off => s.writeMb ag c off w
  | .slot i off => s.writeSlot ag i off w
  | .polder p off => if off = 0x40 then s.writeLoopCtrl ag p w else s.writePolder ag p off w
  | .tide off => s.writeTide ag off w
  | .timer t off => s.writeTimer ag t off w
  | .port p off => if off = 0x010 then s.writeLoopCtrl ag (8 + p) w else s.writePort ag p off w
  | .ring off => if 0x400 ≤ off then s.writeRingQueue ag off w else if off = 0x040 then s.writeLoopCtrl ag 12 w else s.writeRing ag off w
  | .tray off => if off = 0x018 then s.writeLoopCtrl ag 13 w else s.writeTray ag off w
  | .set k off => s.writeSet ag k off w
  | .temper i off => s.writeTemper ag i off w
  | .qp q off => s.writeQp q off w
  | .doorbell q head => if head then s.cqDoorbell q w else s.sqDoorbell q w
  | .msix i => (match ag with | .path p => s.setMsixWord p i w | _ => s)
  | .pba _ | .none => s

/-- Pending bits 32 i to 32 i + 31 of a path's function. -/
def State.pbaWord (s : State) (p : Path) (i : Nat) : Word :=
  BitVec.ofNat 32 (maskOf ((List.range 32).map fun b => tget false s.pba (pathNum p * 1024 + 32 * i + b)))

/-- A read of a register. -/
def State.readReg (s : State) (ag : Agent) (r : Reg) : Word × State :=
  match r with
  | .dev off => s.readDev ag off
  | .mb c off => (s.readMb c off, s)
  | .slot i off => s.readSlot ag i off
  | .polder p off => if off = 0x44 then ((s.keepLoop p).loopStatus p, s.keepLoop p) else s.readPolder p off
  | .tide off => s.readTide ag off
  | .timer t off => s.readTimer ag t off
  | .port p off => if off = 0x014 then (s.loopStatus (8 + p), s) else (s.readPort p off, s)
  | .ring off => if 0x400 ≤ off then (s.readRingQueue ag off, s) else if off = 0x044 then (s.loopStatus 12, s) else (s.readRing off, s)
  | .tray off => if off = 0x01C then (s.loopStatus 13, s) else (s.readTray off, s)
  | .set k off => (s.readSet k off, s)
  | .temper i off => (s.readTemper i off, s)
  | .qp q off => s.readQp ag q off
  | .msix i => ((match ag with | .path p => s.msixWord p i | _ => 0#32), s)
  | .pba i => ((match ag with | .path p => s.pbaWord p i | _ => 0#32), s)
  | .doorbell .. | .none => (0#32, s)

/-- Whether the device answers an agent: a path from step 2 of the start on (16 R412). -/
def State.answers (s : State) : Agent → Bool
  | .path _ => 2 ≤ s.boot.step
  | _ => true

/-- A write of the aligned word at a BAR0 offset (07 R190). -/
def State.busWrite (s : State) (ag : Agent) (a : Nat) (w : Word) : State :=
  if a % 4 = 0 && s.answers ag then s.writeReg ag (regAt a) w else s

/-- A read of the aligned word at a BAR0 offset (07 R190). -/
def State.busRead (s : State) (ag : Agent) (a : Nat) : Word × State :=
  if a % 4 = 0 && s.answers ag then s.readReg ag (regAt a) else (0#32, s)

/-- A write of any size (07 R190): an aligned 64-bit one acts on the lower register first, any other than one of 32 or 64 bits is discarded. -/
def State.busWriteSized (s : State) (ag : Agent) (a : Nat) (z : BusSize) (v : Word) : State :=
  match z with
  | .word => s.busWrite ag a v
  | .double hi => if a % 8 = 0 then (s.busWrite ag a v).busWrite ag (a + 4) hi else s
  | .other => s

/-- A 64-bit read (07 R190): the lower register is read first, so that a tide or sequence pair gives one value. -/
def State.busReadWide (s : State) (ag : Agent) (a : Nat) : BitVec 64 × State :=
  if a % 8 = 0 then
    let lo := s.busRead ag a
    let hi := lo.2.busRead ag (a + 4)
    (cat64 hi.1 lo.1, hi.2)
  else (0#64, s)

/-- REGISTER_WRITE (07 R190 to R192): a register of BAR0 is written. A core writes it at 0x3000_0000 + addr (11 R306). -/
def execRegisterWrite (ag : Agent) (addr : Word) (b : BusWrite) (s : State) : Host.Outcome State Fault Refusal :=
  nx (s.busWriteSized ag addr.toNat b.size b.value)

end Sys2Proof.Machine
end

