-- ==== Sys2Proof/Machine/AnvilOps.lean ====
section
/-! DEFINITION. Anvil cores: registers, traps, segments, the memory map, and how one instruction runs (11 R294 to R325, 12 R331,
R338 to R343). -/

namespace Sys2Proof.Machine

/-! Registers. -/

/-- General register r of a core; g0 reads 0 (11 R299). -/
def Core.g (c : Core) (r : Fin 32) : Word := if r.val = 0 then 0#32 else tget 0#32 c.regs r.val

/-- The core with general register r written; a write of g0 is discarded (11 R299). -/
def Core.setG (c : Core) (r : Fin 32) (v : Word) : Core := if r.val = 0 then c else { c with regs := tset 0#32 c.regs r.val v }

/-- Segment n of a core (11 R303). -/
def Core.seg (c : Core) (n : Nat) : Seg := tget {} c.segs n

/-- The core with segment n replaced. -/
def Core.setSeg (c : Core) (n : Nat) (x : Seg) : Core := { c with segs := tset {} c.segs n x }

/-- PSR.LVL is 1: script level (11 R295). -/
def Core.script (c : Core) : Bool := bitOf c.psr 0

/-- PSR.C. -/
def Core.carry (c : Core) : Bool := bitOf c.psr 29

/-- PSR bits that hold something (11 Table 11-2). -/
abbrev psrMask : Word := 0xF0000103#32

/-- seg0 and seg7 exchange contents (12 R340, R341). -/
def Core.exchange (c : Core) : Core := (c.setSeg 0 (c.seg 7)).setSeg 7 (c.seg 0)

/-! Running and not running (11 R296, 01 R19). -/

/-- CORES_STOPPED when the last running core stops and CORES_RUNNING when the first runs again (01 R19). The first release of a start, before which
no core ran, posts CORES_RUNNING too (DESIGN CHOICE, log 131). -/
def State.noteCores (s : State) : State :=
  match [0, 1, 2, 3].find? s.coreRuns with
  | some k => if s.coreCtl.anyRun then s else (({ s with coreCtl := { s.coreCtl with anyRun := true } } : State).post 0x21 k 0).irq 7
  | none => if s.coreCtl.anyRun then (({ s with coreCtl := { s.coreCtl with anyRun := false } } : State).post 0x20 0 0).irq 7 else s

/-- The watchdog count of a core stops where it is, at tide t (11 R298). -/
def Core.holdWdog (c : Core) (t : Tide) : Core :=
  match c.wdogFrom with
  | some f => { c with wdogFrom := none, wdogLeft := c.wdogLeft - (t - f).toNat }
  | none => c

/-- The watchdog count of a core goes on from tide t where it is enabled and the core is in RUN (11 R298). -/
def Core.runWdog (c : Core) (t : Tide) : Core := if c.wdogEn && c.run = .run then { c with wdogFrom := some t } else c

/-- Core k stops: HALTED, and a repeat prefix is left at PC (11 R297). -/
def State.haltCore (s : State) (k : Nat) : State :=
  (s.modCore k fun c => { c.holdWdog s.ltide with run := .halted, rep := none, stopReq := false }).noteCores

/-- The core is amid the iterations of REPL (11 R324). -/
def Core.inRepl (c : Core) : Bool := match c.rep with | some r => r.repl && r.checked | none => false

/-- Core k is to stop: at this instruction or REP boundary, or at the end of the loop of REPL it is in (11 R297, R324). -/
def State.stopCore (s : State) (k : Nat) : State :=
  if (s.core k).inRepl then s.modCore k fun c => { c with stopReq := true } else s.haltCore k

/-- Core k stops where it was to stop and no loop of REPL is left. -/
def State.stopDue (s : State) (k : Nat) : State := if (s.core k).stopReq && !(s.core k).inRepl then s.haltCore k else s

/-- Core k is released from HALTED (11 R297). -/
def State.releaseCore (s : State) (k : Nat) : State :=
  (s.modCore k fun c =>
    { c with run := .run, pc := (tget 0#32 s.coreCtl.entry k) &&& 0xFFFFFFFC#32, psr := 0#32, segs := [], rep := none }.runWdog s.ltide).noteCores

/-- Firmware writes WDOG.PERIOD of core k from 0x2700.01 at its release, once the dictionary is loaded (15 Table 15-20). -/
def State.loadWdog (s : State) (k : Nat) : State :=
  if s.boot.loaded then s.modCore k fun c => { c with wdogPeriod := s.dictNum 0x2700 1 100000 } else s

/-! Segments and the memory map (11 R303 to R308, R312). -/

/-- The kinds of access (11 R304). -/
inductive Acc where
  | fetch | load | store | swap
  deriving DecidableEq, Repr

/-- ECAUSE.ACC (12 Table 12-6). -/
def Acc.code : Acc → Nat
  | .fetch => 1 | .load => 2 | .store => 3 | .swap => 3

/-- Whether rights R, W, X allow an access (11 R304). -/
def Acc.allowed (r : BitVec 4) : Acc → Bool
  | .fetch => r.getLsbD 2
  | .load => r.getLsbD 0
  | .store => r.getLsbD 1
  | .swap => r.getLsbD 0 && r.getLsbD 1

/-- The regions of 11 Table 11-5. -/
inductive Region where
  | own | localOf (k : Nat) | shared | regs | ctl | slotWin (s : Nat) | dict | journal | audit | crypto | flash
  deriving DecidableEq, Repr

/-- The region of a physical address (11 Table 11-5). -/
def regionOf (x : Nat) : Option Region :=
  if x < 0x10000 then some .own
  else if 0x10000000 ≤ x ∧ x < 0x10040000 then some (.localOf (x / 0x10000 % 4))
  else if 0x20000000 ≤ x ∧ x < 0x20080000 then some .shared
  else if 0x30000000 ≤ x ∧ x < 0x30020000 then some .regs
  else if 0x30020000 ≤ x ∧ x < 0x30021000 then some .ctl
  else if 0x31000000 ≤ x ∧ x < 0x31040000 then some (.slotWin (x / 0x1000 % 64))
  else if 0x32000000 ≤ x ∧ x < 0x32040000 then some .dict
  else if 0x33000000 ≤ x ∧ x < 0x33100000 then some .journal
  else if 0x33100000 ≤ x ∧ x < 0x33180000 then some .audit
  else if 0x34000000 ≤ x ∧ x < 0x34001000 then some .crypto
  else if 0x40000000 ≤ x ∧ x < 0x50000000 then some .flash
  else none

/-- What a region permits at a level (11 Table 11-5). -/
def Region.permits (r : Region) (script : Bool) (a : Acc) : Bool :=
  match r with
  | .own => true
  | .slotWin _ => a ≠ .fetch
  | .shared => !script
  | .localOf _ | .regs | .ctl | .dict | .crypto => !script && a ≠ .fetch
  | .journal | .audit => !script && a = .load
  | .flash => !script && (a = .load || a = .fetch)

/-- Whether an access of z bytes at x passes the region rules (11 R305 to R307): no hole, no refusal, alignment in register regions and
slot windows, SWAP.W on an aligned word of shared SRAM. -/
def busOk (script : Bool) (a : Acc) (x z : Nat) : Bool :=
  match regionOf x, regionOf (x + z - 1) with
  | some r, some r' =>
    r.permits script a && r'.permits script a &&
      (match r with | .regs | .slotWin _ => x % z = 0 | _ => true) &&
      (a ≠ .swap || (r = .shared && x % 4 = 0))
  | _, _ => false

/-- Whether script level may access z bytes at x (11 R312): inside the script area, or inside the window of one bound slot. -/
def Core.confined (c : Core) (a : Acc) (x z : Nat) : Bool :=
  (decide (c.scrBase.toNat ≤ x) && decide (x + z - 1 ≤ c.scrLimit.toNat)) ||
  (a ≠ .fetch &&
    match regionOf x, regionOf (x + z - 1) with
    | some (.slotWin i), some (.slotWin j) => decide (i = j) && c.scrBind.getLsbD i
    | _, _ => false)

/-- The offset o of an access fails the segment checks (11 R304 step 2 and step 4). -/
def Core.segBad (c : Core) (n : Nat) (a : Acc) (o z : Nat) : Bool :=
  let g := c.seg n
  !a.allowed g.rights || (g.rights.getLsbD 3 && c.script) || g.limit.toNat < o + z - 1 || 0xFFFFFFFF < g.base.toNat + o + z - 1 ||
    (c.script && !c.confined a (g.base.toNat + o) z)

/-- The physical address of offset o of segment n. -/
def Core.phys (c : Core) (n o : Nat) : Nat := (c.seg n).base.toNat + o

/-- The trap of an access, if it fails: cause code, EADDR, and ECAUSE.ACC (11 R304, 12 Table 12-5). -/
def Core.accTrap (c : Core) (n : Nat) (a : Acc) (o z : Nat) : Option (Nat × Word × Word) :=
  let e := packed [(24, a.code)]
  if c.segBad n a o z then some (1, BitVec.ofNat 32 o, e)
  else if !busOk c.script a (c.phys n o) z then some (2, BitVec.ofNat 32 (c.phys n o), e)
  else none

/-- Whether a script-level store to a slot window is one that R309 forbids: anything but CHAR_CFG, CHAR_ETU, CHAR_STATUS, CHAR_RAW, the T2
block and the exchange registers marked script. -/
def scriptStoreBad (x : Nat) : Bool :=
  match regionOf x with
  | some (.slotWin _) =>
    let o := x % 0x1000 / 4 * 4
    !((0x64 ≤ o && o ≤ 0x70) || (0x180 ≤ o && o < 0x1C0) || o = 0x20C || o = 0x214 || o = 0x218 || o = 0x21C)
  | _ => false

/-- The privilege trap of a store at script level (11 R309). -/
def Core.storePriv (c : Core) (n : Nat) (a : Acc) (o z : Nat) : Bool := c.script && !c.segBad n a o z && scriptStoreBad (c.phys n o)

/-! Physical accesses. -/

/-- The SRAM address that core k's address x means: its own local SRAM appears at 0 (11 Table 11-5). -/
def sramAddr (k x : Nat) : Nat := if x < 0x10000 then 0x10000000 + 0x10000 * k + x else x

/-- CORE_RUN (11 Table 11-14): the bit of a core that is still to stop reads 0. -/
def State.coreRunBits (s : State) : Nat := maskOf ((List.range 4).map fun k => (s.core k).run ≠ .halted && !(s.core k).stopReq)

/-- CORE_STATE. -/
def State.coreStateBits (s : State) : Nat := (List.range 4).foldl (fun m k => m + (s.core k).run.code * 4 ^ k) 0

/-- A byte of the core control block. -/
def State.ctlByte (s : State) (o : Nat) : Byte :=
  let word (w : Nat) : Byte := byteOf w (o % 4)
  if o < 4 then word s.coreRunBits
  else if o < 8 then word s.coreStateBits
  else if 0x10 ≤ o && o < 0x20 then word (tget 0#32 s.coreCtl.entry ((o - 0x10) / 4)).toNat
  else if 0x100 ≤ o && o < 0x140 then
    let r := (tget 0#3 s.coreCtl.route (o - 0x100)).toNat
    BitVec.ofNat 8 (r / 4 * 128 + r % 4)
  else 0#8

/-- A write of CORE_RUN (11 R297): a bit set releases a HALTED core, a bit cleared stops a core. The cores are taken in ascending order, and a bit
set again for a core that is still to stop lets it run on (DESIGN CHOICE, log 131). -/
def State.writeCoreRun (s : State) (v : Word) : State :=
  s.forEach [0, 1, 2, 3] fun s k =>
    if bitOf v k then
      if (s.core k).run = .halted then (s.releaseCore k).loadWdog k else s.modCore k fun c => { c with stopReq := false }
    else if (s.core k).run = .halted then s else s.stopCore k

/-- A write of IPI (11 Table 11-14). -/
def State.writeIpi (s : State) (v : Word) : State := s.forEach [0, 1, 2, 3] fun s k => if bitOf v k then s.line (48 + k) else s

/-- A write of FW_EVENT by core k (11 Tables 11-14, 11-16). -/
def State.writeFwEvent (s : State) (k : Nat) (v : Word) : State := s.post 0xB2 k (fld v 7 0) [BitVec.ofNat 32 (fld v 31 8)]

/-- A store of bytes in the core control block by core k. Word registers take whole aligned words. -/
def State.writeCtl (s : State) (k o : Nat) (l : List Byte) : State :=
  let w := wordOfLe l
  if 0x100 ≤ o then
    (l.zipIdx).foldl (fun s e =>
      if o + e.2 < 0x140 then { s with coreCtl := { s.coreCtl with
        route := tset 0#3 s.coreCtl.route (o + e.2 - 0x100) (BitVec.ofNat 3 (e.1.toNat / 128 * 4 + e.1.toNat % 4)) } } else s) s
  else if l.length ≠ 4 then s
  else if o = 0 then s.writeCoreRun w
  else if 0x10 ≤ o && o < 0x20 && o % 4 = 0 then
    { s with coreCtl := { s.coreCtl with entry := tset 0#32 s.coreCtl.entry ((o - 0x10) / 4) (w &&& 0xFFFFFFFC#32) } }
  else if o = 0x20 then s.writeIpi w
  else if o = 0x30 then s.writeFwEvent k w
  else s

/-- A read of the aligned word at an offset of the window of slot i by an agent (11 Table 11-6). -/
def State.readWindow (s : State) (ag : Agent) (i o : Nat) : Word × State :=
  if o < 0x80 then s.readSlot ag i o
  else if o < 0x100 then (s.readTemper i (o - 0x80), s)
  else if o < 0x1C0 then s.readTimer ag (3 * i + (o - 0x100) / 0x40) (o % 0x40)
  else if 0x200 ≤ o && o < 0x220 then s.readXchg i o
  else (0#32, s)

/-- A write of the aligned word at an offset of the window of slot i by an agent. -/
def State.writeWindow (s : State) (ag : Agent) (i o : Nat) (w : Word) : State :=
  if o < 0x80 then s.writeSlot ag i o w
  else if o < 0x100 then s.writeTemper ag i (o - 0x80) w
  else if o < 0x1C0 then s.writeTimer ag (3 * i + (o - 0x100) / 0x40) (o % 0x40) w
  else if 0x200 ≤ o && o < 0x220 then s.writeXchg i o w
  else s

/-- A byte of the MRAM journal region. -/
def State.journalByte (s : State) (o : Nat) : Byte :=
  match tget none s.mram.journal (o / 128) with
  | some r => byteAt r.bytes (o % 128)
  | none => 0#8

/-- The byte of a memory at physical address y, as core k sees it (11 Table 11-5, R308). -/
def State.memByte (s : State) (k y : Nat) : Byte :=
  match regionOf y with
  | some .own | some (.localOf _) | some .shared => s.sramByte (sramAddr k y)
  | some .ctl => s.ctlByte (y % 0x1000)
  | some .dict => tget 0#8 s.dictView (y % 0x40000)
  | some .journal => s.journalByte (y % 0x100000)
  | some .audit => byteAt (s.auditAt (y % 0x80000 / 64)) (y % 64)
  | some .flash => Config.flash (y % 0x10000000)
  | _ => 0#8

/-- A load of z bytes at physical address x by core k, as a number (11 R306 to R308). A register takes aligned words; a narrower
access reads 0 (07 R190). Log 23. -/
def State.load (s : State) (k x z : Nat) : Nat × State :=
  match regionOf x with
  | some .regs => if z = 4 then let r := s.busRead (.core (Fin.ofNat 4 k)) (x % 0x20000); (r.1.toNat, r.2) else (0, s)
  | some (.slotWin i) => if z = 4 then let r := s.readWindow (.window (Fin.ofNat 4 k)) i (x % 0x1000); (r.1.toNat, r.2) else (0, s)
  | some .crypto => if z = 4 && x % 4 = 0 then let r := s.readCry (x % 0x1000); (r.1.toNat, r.2) else (0, s)
  | some _ => (ofLe ((List.range z).map fun j => s.memByte k (x + j)), s)
  | none => (0, s)

/-! Uncorrectable errors of MRAM (11 R307, 16 R408). -/

/-- The MRAM offset behind a physical address (11 Table 11-5, 16 Table 16-1). -/
def mramOffset (y : Nat) : Option Nat :=
  match regionOf y with
  | some .journal | some .audit => some (y % 0x1000000)
  | some .dict => some (0x180000 + y % 0x40000)
  | _ => none

/-- The MRAM offset of the first byte of z at x that a load takes from a word with an uncorrectable error. A byte of the dictionary window that waits
in a store queue is not read from MRAM (11 R308). -/
def State.badAt (s : State) (x z : Nat) : Option Nat :=
  if s.mram.bad.isEmpty then none
  else (List.range z).findSome? fun j =>
    match mramOffset (x + j) with
    | some a => if s.mram.bad.contains (a / 8) && !s.storeQ.any (fun e => e.2.any fun b => b.1 + 0x180000 = a) then some a else none
    | none => none

/-- An uncorrectable error is met at MRAM offset a: the ECC event, interrupt source and line (16 R408, 11 Table 11-8). -/
def State.eccError (s : State) (a : Nat) : State := ((s.post 0xA8 0 2 [BitVec.ofNat 32 a]).irq 14).line 52

/-- Bytes of a store burst written to a table. -/
def putBytes (t : Table Byte) (l : List (Nat × Byte)) : Table Byte := l.foldl (fun t e => tset 0#8 t e.1 e.2) t

/-- The oldest queued burst of core k, and every burst queued before it, are committed (11 R308). Line 45 where the issuing core's queue becomes empty. -/
def State.commitStore (s : State) (k : Nat) : State :=
  let rec go (s : State) : List (Nat × List (Nat × Byte)) → State
    | [] => s
    | e :: r =>
      let words : List Nat := e.2.map fun b => (b.1 + 0x180000) / 8
      let s1 : State := { s.burst with
        storeQ := r, mram := { s.mram with dictMem := putBytes s.mram.dictMem e.2, bad := s.mram.bad.filter fun n => !words.contains n } }
      let s2 := if r.any (fun f => f.1 = e.1) then s1 else s1.line 45
      if e.1 = k then s2 else go s2 r
  if s.storeQ.any (fun e => e.1 = k) then go s s.storeQ else s

/-- Commits every queued burst of core k (11 R308): n bounds their number. -/
def State.drainStores (s : State) (k : Nat) : Nat → State
  | 0 => s
  | n + 1 => if s.storeQ.any (fun e => e.1 = k) then (s.commitStore k).drainStores k n else s

/-- A store to the dictionary window (11 R308): a full queue of 64 bursts first commits its oldest. -/
def State.storeDict (s : State) (k : Nat) (l : List (Nat × Byte)) : State :=
  let s1 := if 64 ≤ (s.storeQ.filter fun e => e.1 = k).length then s.commitStore k else s
  { s1 with dictView := putBytes s1.dictView l, storeQ := s1.storeQ ++ [(k, l)] }

/-- A store of the low z bytes of v at physical address x by core k (11 R306 to R308). Log 23. -/
def State.store (s : State) (k x z v : Nat) : State :=
  let l := leBytes v z
  match regionOf x with
  | some .own | some (.localOf _) | some .shared => (l.zipIdx).foldl (fun s e => s.setSram (sramAddr k (x + e.2)) e.1) s
  | some .regs => if z = 4 then s.busWrite (.core (Fin.ofNat 4 k)) (x % 0x20000) (BitVec.ofNat 32 v) else s
  | some .ctl => s.writeCtl k (x % 0x1000) l
  | some (.slotWin i) => if z = 4 then s.writeWindow (.window (Fin.ofNat 4 k)) i (x % 0x1000) (BitVec.ofNat 32 v) else s
  | some .dict => s.storeDict k ((l.zipIdx).map fun e => (x % 0x40000 + e.2, e.1))
  | some .crypto => if z = 4 && x % 4 = 0 then s.writeCry (x % 0x1000) (BitVec.ofNat 32 v) else s
  | _ => s

/-! Traps and interrupts (12 R338 to R341, R343). -/

/-- The trap of the fetch of the word at an offset (11 R304, R331). -/
def Core.fetchTrap (c : Core) (o : Word) : Option (Nat × Word × Word) := c.accTrap 0 .fetch o.toNat 4

/-- Core k enters the trap or interrupt of a code (12 R340): ex holds ECAUSE bits beside CODE. A fault on the fetch at the vector halts it. -/
def State.trap (s : State) (k code : Nat) (epc eaddr ex : Word) : State :=
  let s1 := s.modCore k fun c =>
    let d := if c.script then c.exchange else c
    { d with
      epc := epc &&& 0xFFFFFFFC#32, epsr := c.psr, ecause := ex ||| BitVec.ofNat 32 code, eaddr := eaddr
      psr := c.psr &&& 0xFFFFFFFC#32, pc := c.tvec + BitVec.ofNat 32 (16 * code), rep := none }
  if ((s1.core k).fetchTrap (s1.core k).pc).isSome then s1.haltCore k else s1

/-- Whether the word at PC of core k is a long form, as memory holds it (12 Table 12-6). -/
def State.longAt (s : State) (k : Nat) : Bool :=
  let c := s.core k
  (c.fetchTrap c.pc).isNone && (s.load k (c.phys 0 c.pc.toNat) 4).1 / 2 ^ 26 = 0x3E

/-- ECAUSE.REP or LONG for a trap between instructions (12 Table 12-6). -/
def State.boundaryBits (s : State) (k : Nat) : Word :=
  if (s.core k).rep.isSome then 0x20#32 else if s.longAt k then 0x40#32 else 0#32

/-- The lines both pending at a core and enabled (11 R317). -/
def Core.ready (c : Core) : BitVec 64 := c.irqPend &&& c.irqEn

/-- The core would take an interrupt at a boundary (11 R317). -/
def Core.irqDue (c : Core) : Bool := c.ready ≠ 0#64 && (c.script || bitOf c.psr 1)

/-- The watchdog count of core c has reached 0 at tide t (11 R298). -/
def Core.wdogDue (c : Core) (t : Tide) : Bool :=
  c.wdogEn && c.run = .run && (match c.wdogFrom with | some f => decide (c.wdogLeft ≤ (t - f).toNat) | none => false)

/-! One instruction. -/

/-- What an instruction's operation gives: the state after it with PC still to advance, a jump, a trap that changes nothing (cause, EADDR, ECAUSE
bits), a Bus trap for an uncorrectable error that the state shows (11 R307), or a stall (11 R308): the core waits with the instruction. -/
inductive Res where
  | done (s : State)
  | jump (s : State) (pc : Word)
  | trap (code : Nat) (eaddr ex : Word)
  | ecc (s : State) (eaddr ex : Word)
  | stall

/-- An instruction as it is fetched: its word, whether it is the long form, whether 11 R319 and R301 define it, whether it may follow a repeat
prefix (11 R325, 12 R331) and whether its level permits it. -/
structure Ins where
  word : Word
  long : Bool := false
  defd : Bool := true
  rep  : Bool := true
  priv : Bool := true
  deriving DecidableEq, Repr

/-- Bytes of an instruction. -/
def Ins.size (i : Ins) : Word := if i.long then 8#32 else 4#32

/-- The trap of the fetch of an instruction at an offset: both words of a long form (11 R304). -/
def Core.insTrap (c : Core) (i : Ins) (o : Word) : Option (Nat × Word × Word) :=
  match c.fetchTrap o with
  | some t => some t
  | none => if i.long then c.fetchTrap (o + 4#32) else none

/-- The checks of 12 R331, steps 3 to 7, on the instruction after a prefix at PC. -/
def Core.repTrap (c : Core) (i : Ins) (repl : Bool) : Option (Nat × Word × Word) :=
  match c.insTrap i (c.pc + 4#32) with
  | some t => some t
  | none =>
    if !i.defd then some (3, i.word, 0#32)
    else if !i.rep then some (5, i.word, 0#32)
    else if !i.priv then some (4, i.word, 0#32)
    else if repl && 256 < c.cnt.toNat then some (5, c.cnt, 0#32)
    else none

/-- An iteration of a repeated instruction (11 R323 to R325). -/
def State.iterate (s : State) (k : Nat) (i : Ins) (body : State → Res) : State :=
  let c := s.core k
  let after := c.pc + 4#32 + i.size
  if c.cnt = 0#32 then s.modCore k fun c => { c with pc := after, rep := none }
  else match body s with
    | .trap code eaddr ex => s.trap k code c.pc eaddr (ex ||| 0x20#32)
    | .ecc t eaddr ex => t.trap k 2 c.pc eaddr (ex ||| 0x20#32)
    | .stall => s
    | .done t | .jump t _ =>
      t.modCore k fun c =>
        let n := c.cnt - 1
        if n = 0#32 then { c with cnt := n, pc := after, rep := none } else { c with cnt := n }

/-- An instruction without a prefix: 12 R339. -/
def State.single (s : State) (k : Nat) (i : Ins) (body : State → Res) : State :=
  let c := s.core k
  let l := if i.long then 0x40#32 else 0#32
  match c.insTrap i c.pc with
  | some t => s.trap k t.1 c.pc t.2.1 (t.2.2 ||| l)
  | none =>
    if !i.defd then s.trap k 3 c.pc i.word l
    else if !i.priv then s.trap k 4 c.pc i.word l
    else match body s with
      | .trap code eaddr ex => s.trap k code c.pc eaddr (ex ||| l)
      | .ecc t eaddr ex => t.trap k 2 c.pc eaddr (ex ||| l)
      | .stall => s
      | .done t => t.modCore k fun d => { d with pc := c.pc + i.size }
      | .jump t pc => t.modCore k fun d => { d with pc := pc }

/-- Core k, in RUN or WDOG with no Watchdog trap or interrupt due, executes an instruction at PC or after the prefix at PC. Log 3, 24. -/
def State.run (s : State) (k : Nat) (i : Ins) (body : State → Res) : State :=
  let c := s.core k
  if c.run = .halted || c.run = .sleep then s
  else if !c.inRepl && (c.wdogDue s.ltide || c.irqDue) then s
  else match c.rep with
    | none => s.single k i body
    | some r =>
      if r.checked then (s.iterate k i body).stopDue k
      else match c.repTrap i r.repl with
        | some t => s.trap k t.1 c.pc t.2.1 (t.2.2 ||| 0x20#32)
        | none => ((s.modCore k fun c => { c with rep := some { r with checked := true } }).iterate k i body).stopDue k

/-! Encodings (11 Table 11-9). -/

/-- Format R. -/
def encR (op : Nat) (rd ra rb : Fin 32) (fn : Nat) : Word := packed [(26, op), (21, rd.val), (16, ra.val), (11, rb.val), (0, fn)]

/-- Format I, or the long form with its IMM32 in word 1 (11 R321). -/
def insI (op : Nat) (rd ra : Fin 32) : Imm → Ins
  | .short v => { word := packed [(26, op), (21, rd.val), (16, ra.val), (0, v.toNat)] }
  | .long _ => { word := packed [(26, 0x3E), (21, rd.val), (16, ra.val), (10, op)], long := true }

/-- Format M, or the long form. -/
def insM (op : Nat) (rd : Fin 32) (m : MemArg) : Ins :=
  match m.disp with
  | .short d => { word := packed [(26, op), (21, rd.val), (16, m.ra.val), (13, m.seg.val), (12, b2n m.post), (0, d.toNat)] }
  | .long _ => { word := packed [(26, 0x3E), (21, rd.val), (16, m.ra.val), (10, op), (7, m.seg.val), (6, b2n m.post)], long := true }

/-- Format V. -/
def encV (op : Nat) (m : MovsArg) : Word :=
  packed [(26, op), (23, m.ss.val), (20, m.sd.val), (15, m.ra.val), (10, m.rb.val), (9, b2n m.sfix), (8, b2n m.dfix)]

/-- Format S. -/
def encS (rd ra : Fin 32) (sr fn : Nat) : Word := packed [(26, 0x28), (21, rd.val), (16, ra.val), (8, sr), (0, fn)]

/-- An immediate sign-extended (11 R322). -/
def immSext : Imm → Word
  | .short v => v.signExtend 32
  | .long v => v

/-- An immediate zero-extended (11 R322). -/
def immZext : Imm → Word
  | .short v => v.setWidth 32
  | .long v => v

/-- A displacement sign-extended. -/
def dispSext : Disp → Word
  | .short v => v.signExtend 32
  | .long v => v

end Sys2Proof.Machine
end

