-- ==== Sys2Proof/Machine/AnvilInt.lean ====
section
/-! DEFINITION. The integer instructions of the Anvil cores (11 R322, Table 11-12, 12 R328 to R330). -/

namespace Sys2Proof.Machine

/-- A result with the carry and overflow it sets; none leaves the flag (11 R322). -/
structure Alu where
  val : Word
  c   : Option Bool := none
  v   : Option Bool := none
  deriving DecidableEq, Repr

/-- PSR with N and Z of a result, and C and V where given (11 Table 11-2). -/
def psrWith (psr : Word) (r : Alu) : Word :=
  setFld (setFld (setFld (setFld psr 31 31 (b2n (r.val.getLsbD 31))) 30 30 (b2n (r.val = 0#32))) 29 29 (b2n (r.c.getD (bitOf psr 29))))
    28 28 (b2n (r.v.getD (bitOf psr 28)))

/-- An ALU operation of core k: rd, if named, and the flags. -/
def aluOp (k : Nat) (rd : Option (Fin 32)) (f : Core → Alu) (s : State) : Res :=
  .done (s.modCore k fun c =>
    let r := f c
    let d := { c with psr := psrWith c.psr r }
    match rd with
    | some n => d.setG n r.val
    | none => d)

/-- a + b + carry with C and V. A subtraction adds ¬b (11 Table 11-12). -/
def addc (a b : Word) (cin : Bool) : Alu :=
  let sum := a.toNat + b.toNat + b2n cin
  let r := BitVec.ofNat 32 sum
  { val := r, c := some (decide (2 ^ 32 ≤ sum)), v := some (a.getLsbD 31 = b.getLsbD 31 && a.getLsbD 31 ≠ r.getLsbD 31) }

/-- SHL by n from 0 to 63 (12 R330). -/
def shlOp (a : Word) (n : Nat) : Alu := { val := a <<< n, c := if n = 0 then none else some (decide (n ≤ 32) && a.getLsbD (32 - n)) }

/-- SHR by n (12 R330). -/
def shrOp (a : Word) (n : Nat) : Alu := { val := a >>> n, c := if n = 0 then none else some (a.getLsbD (n - 1)) }

/-- SAR by n (12 R330). -/
def sarOp (a : Word) (n : Nat) : Alu := { val := a.sshiftRight n, c := if n = 0 then none else some (a.getLsbD (min (n - 1) 31)) }

/-- ROL by n: n mod 32 (12 R330). -/
def rolOp (a : Word) (n : Nat) : Alu :=
  let r := a.rotateLeft (n % 32)
  { val := r, c := if n = 0 then none else some (r.getLsbD 0) }

/-- ROR by n (12 R330). -/
def rorOp (a : Word) (n : Nat) : Alu :=
  let r := a.rotateRight (n % 32)
  { val := r, c := if n = 0 then none else some (r.getLsbD 31) }

/-- The high half of a product. -/
def mulHigh (p : Int) : Word := BitVec.ofInt 32 (p / 2 ^ 32)

/-- Leading zeros of a word: n bits from the top are left to look at. -/
def leadZeros (a : Word) : Nat → Nat
  | 0 => 0
  | n + 1 => if a.getLsbD n then 0 else 1 + leadZeros a n

/-- The most negative number by -1 (12 Table 12-1). -/
def divEdge (a b : Word) : Bool := a = 0x80000000#32 && b = 0xFFFFFFFF#32

/-- A division of core k (12 R329): by zero with DZE it traps with EADDR ra, else gives ra with V. -/
def divOp (k : Nat) (rd ra rb : Fin 32) (f : Word → Word → Alu) (s : State) : Res :=
  let c := s.core k
  if c.g rb = 0#32 then
    (if bitOf c.psr 8 then .trap 6 (c.g ra) 0#32 else aluOp k (some rd) (fun c => { val := c.g ra, v := some true }) s)
  else aluOp k (some rd) (fun c => f (c.g ra) (c.g rb)) s

/-- A move to rd without flags. -/
def movOp (k : Nat) (rd : Fin 32) (v : Word) (s : State) : Res := .done (s.modCore k fun c => c.setG rd v)

/-- The shift count of the R form: RB[5:0] (11 R322). -/
def Core.cnt6 (c : Core) (r : Fin 32) : Nat := fld (c.g r) 5 0

/-- The instruction word of an immediate shift: in the long form the count stands in word 1. -/
def insShift (op : Nat) (rd ra : Fin 32) (n : BitVec 6) (long : Bool) : Ins := insI op rd ra (if long then .long (n.setWidth 32) else .short (n.setWidth 16))

/-- ADD (11 Table 11-12). -/
def execAdd (k : Fin 4) (rd ra rb : Fin 32) (s : State) : Host.Outcome State Fault Refusal := nx (s.run k.val { word := encR 0 rd ra rb 0x00 } (aluOp k.val (some rd) fun c => addc (c.g ra) (c.g rb) false))
/-- ADC (11 Table 11-12). -/
def execAdc (k : Fin 4) (rd ra rb : Fin 32) (s : State) : Host.Outcome State Fault Refusal := nx (s.run k.val { word := encR 0 rd ra rb 0x01 } (aluOp k.val (some rd) fun c => addc (c.g ra) (c.g rb) c.carry))
/-- SUB (11 Table 11-12). -/
def execSub (k : Fin 4) (rd ra rb : Fin 32) (s : State) : Host.Outcome State Fault Refusal := nx (s.run k.val { word := encR 0 rd ra rb 0x02 } (aluOp k.val (some rd) fun c => addc (c.g ra) (~~~(c.g rb)) true))
/-- SBC (11 Table 11-12). -/
def execSbc (k : Fin 4) (rd ra rb : Fin 32) (s : State) : Host.Outcome State Fault Refusal := nx (s.run k.val { word := encR 0 rd ra rb 0x03 } (aluOp k.val (some rd) fun c => addc (c.g ra) (~~~(c.g rb)) c.carry))
/-- NEG (11 Table 11-12). -/
def execNeg (k : Fin 4) (rd ra : Fin 32) (s : State) : Host.Outcome State Fault Refusal := nx (s.run k.val { word := encR 0 rd ra 0 0x04 } (aluOp k.val (some rd) fun c => addc 0#32 (~~~(c.g ra)) true))
/-- CMP (11 Table 11-12). -/
def execCmp (k : Fin 4) (ra rb : Fin 32) (s : State) : Host.Outcome State Fault Refusal := nx (s.run k.val { word := encR 0 0 ra rb 0x05 } (aluOp k.val none fun c => addc (c.g ra) (~~~(c.g rb)) true))
/-- AND (11 Table 11-12). -/
def execAnd (k : Fin 4) (rd ra rb : Fin 32) (s : State) : Host.Outcome State Fault Refusal := nx (s.run k.val { word := encR 0 rd ra rb 0x06 } (aluOp k.val (some rd) fun c => { val := c.g ra &&& c.g rb }))
/-- OR (11 Table 11-12). -/
def execOr (k : Fin 4) (rd ra rb : Fin 32) (s : State) : Host.Outcome State Fault Refusal := nx (s.run k.val { word := encR 0 rd ra rb 0x07 } (aluOp k.val (some rd) fun c => { val := c.g ra ||| c.g rb }))
/-- XOR (11 Table 11-12). -/
def execXor (k : Fin 4) (rd ra rb : Fin 32) (s : State) : Host.Outcome State Fault Refusal := nx (s.run k.val { word := encR 0 rd ra rb 0x08 } (aluOp k.val (some rd) fun c => { val := c.g ra ^^^ c.g rb }))
/-- ANDN (11 Table 11-12). -/
def execAndn (k : Fin 4) (rd ra rb : Fin 32) (s : State) : Host.Outcome State Fault Refusal := nx (s.run k.val { word := encR 0 rd ra rb 0x09 } (aluOp k.val (some rd) fun c => { val := c.g ra &&& ~~~(c.g rb) }))
/-- TST (11 Table 11-12). -/
def execTst (k : Fin 4) (ra rb : Fin 32) (s : State) : Host.Outcome State Fault Refusal := nx (s.run k.val { word := encR 0 0 ra rb 0x0A } (aluOp k.val none fun c => { val := c.g ra &&& c.g rb }))
/-- SHL (11 Table 11-12). -/
def execShl (k : Fin 4) (rd ra rb : Fin 32) (s : State) : Host.Outcome State Fault Refusal := nx (s.run k.val { word := encR 0 rd ra rb 0x0B } (aluOp k.val (some rd) fun c => shlOp (c.g ra) (c.cnt6 rb)))
/-- SHR (11 Table 11-12). -/
def execShr (k : Fin 4) (rd ra rb : Fin 32) (s : State) : Host.Outcome State Fault Refusal := nx (s.run k.val { word := encR 0 rd ra rb 0x0C } (aluOp k.val (some rd) fun c => shrOp (c.g ra) (c.cnt6 rb)))
/-- SAR (11 Table 11-12). -/
def execSar (k : Fin 4) (rd ra rb : Fin 32) (s : State) : Host.Outcome State Fault Refusal := nx (s.run k.val { word := encR 0 rd ra rb 0x0D } (aluOp k.val (some rd) fun c => sarOp (c.g ra) (c.cnt6 rb)))
/-- ROL (11 Table 11-12). -/
def execRol (k : Fin 4) (rd ra rb : Fin 32) (s : State) : Host.Outcome State Fault Refusal := nx (s.run k.val { word := encR 0 rd ra rb 0x0E } (aluOp k.val (some rd) fun c => rolOp (c.g ra) (c.cnt6 rb)))
/-- ROR (11 Table 11-12). -/
def execRor (k : Fin 4) (rd ra rb : Fin 32) (s : State) : Host.Outcome State Fault Refusal := nx (s.run k.val { word := encR 0 rd ra rb 0x0F } (aluOp k.val (some rd) fun c => rorOp (c.g ra) (c.cnt6 rb)))
/-- MUL (11 Table 11-12). -/
def execMul (k : Fin 4) (rd ra rb : Fin 32) (s : State) : Host.Outcome State Fault Refusal := nx (s.run k.val { word := encR 0 rd ra rb 0x10 } (aluOp k.val (some rd) fun c => { val := c.g ra * c.g rb }))
/-- MULH (11 Table 11-12). -/
def execMulh (k : Fin 4) (rd ra rb : Fin 32) (s : State) : Host.Outcome State Fault Refusal := nx (s.run k.val { word := encR 0 rd ra rb 0x11 } (aluOp k.val (some rd) fun c => { val := mulHigh ((c.g ra).toInt * (c.g rb).toInt) }))
/-- MULHU (11 Table 11-12). -/
def execMulhu (k : Fin 4) (rd ra rb : Fin 32) (s : State) : Host.Outcome State Fault Refusal := nx (s.run k.val { word := encR 0 rd ra rb 0x12 } (aluOp k.val (some rd) fun c => { val := mulHigh ((c.g ra).toNat * (c.g rb).toNat) }))
/-- DIV (11 Table 11-12, 12 R329). -/
def execDiv (k : Fin 4) (rd ra rb : Fin 32) (s : State) : Host.Outcome State Fault Refusal := nx (s.run k.val { word := encR 0 rd ra rb 0x13 } (divOp k.val rd ra rb fun a b => { val := a.sdiv b, v := some (divEdge a b) }))
/-- DIVU (11 Table 11-12, 12 R329). -/
def execDivu (k : Fin 4) (rd ra rb : Fin 32) (s : State) : Host.Outcome State Fault Refusal := nx (s.run k.val { word := encR 0 rd ra rb 0x14 } (divOp k.val rd ra rb fun a b => { val := a / b, v := some false }))
/-- REM (11 Table 11-12, 12 R329). -/
def execRem (k : Fin 4) (rd ra rb : Fin 32) (s : State) : Host.Outcome State Fault Refusal := nx (s.run k.val { word := encR 0 rd ra rb 0x15 } (divOp k.val rd ra rb fun a b => { val := a.srem b, v := some (divEdge a b) }))
/-- REMU (11 Table 11-12, 12 R329). -/
def execRemu (k : Fin 4) (rd ra rb : Fin 32) (s : State) : Host.Outcome State Fault Refusal := nx (s.run k.val { word := encR 0 rd ra rb 0x16 } (divOp k.val rd ra rb fun a b => { val := a % b, v := some false }))
/-- SEXT.B (11 Table 11-12). -/
def execSextB (k : Fin 4) (rd ra : Fin 32) (s : State) : Host.Outcome State Fault Refusal := nx (s.run k.val { word := encR 0 rd ra 0 0x17 } (aluOp k.val (some rd) fun c => { val := ((c.g ra).setWidth 8).signExtend 32 }))
/-- SEXT.H (11 Table 11-12). -/
def execSextH (k : Fin 4) (rd ra : Fin 32) (s : State) : Host.Outcome State Fault Refusal := nx (s.run k.val { word := encR 0 rd ra 0 0x18 } (aluOp k.val (some rd) fun c => { val := ((c.g ra).setWidth 16).signExtend 32 }))
/-- CLZ (11 Table 11-12). -/
def execClz (k : Fin 4) (rd ra : Fin 32) (s : State) : Host.Outcome State Fault Refusal := nx (s.run k.val { word := encR 0 rd ra 0 0x19 } (aluOp k.val (some rd) fun c => { val := BitVec.ofNat 32 (leadZeros (c.g ra) 32) }))
/-- ADDI (11 Table 11-12, R322). -/
def execAddi (k : Fin 4) (rd ra : Fin 32) (imm : Imm) (s : State) : Host.Outcome State Fault Refusal := nx (s.run k.val (insI 0x01 rd ra imm) (aluOp k.val (some rd) fun c => addc (c.g ra) (immSext imm) false))
/-- ANDI (11 Table 11-12, R322). -/
def execAndi (k : Fin 4) (rd ra : Fin 32) (imm : Imm) (s : State) : Host.Outcome State Fault Refusal := nx (s.run k.val (insI 0x02 rd ra imm) (aluOp k.val (some rd) fun c => { val := c.g ra &&& (immZext imm) }))
/-- ORI (11 Table 11-12, R322). -/
def execOri (k : Fin 4) (rd ra : Fin 32) (imm : Imm) (s : State) : Host.Outcome State Fault Refusal := nx (s.run k.val (insI 0x03 rd ra imm) (aluOp k.val (some rd) fun c => { val := c.g ra ||| (immZext imm) }))
/-- XORI (11 Table 11-12, R322). -/
def execXori (k : Fin 4) (rd ra : Fin 32) (imm : Imm) (s : State) : Host.Outcome State Fault Refusal := nx (s.run k.val (insI 0x04 rd ra imm) (aluOp k.val (some rd) fun c => { val := c.g ra ^^^ (immZext imm) }))
/-- CMPI (11 Table 11-12, R322). -/
def execCmpi (k : Fin 4) (ra : Fin 32) (imm : Imm) (s : State) : Host.Outcome State Fault Refusal := nx (s.run k.val (insI 0x05 0 ra imm) (aluOp k.val none fun c => addc (c.g ra) (~~~(immSext imm)) true))
/-- TSTI (11 Table 11-12, R322). -/
def execTsti (k : Fin 4) (ra : Fin 32) (imm : Imm) (s : State) : Host.Outcome State Fault Refusal := nx (s.run k.val (insI 0x06 0 ra imm) (aluOp k.val none fun c => { val := c.g ra &&& (immZext imm) }))
/-- LUI (11 Table 11-12). -/
def execLui (k : Fin 4) (rd : Fin 32) (imm : BitVec 16) (s : State) : Host.Outcome State Fault Refusal := nx (s.run k.val (insI 0x07 rd 0 (.short imm)) (movOp k.val rd (imm.setWidth 32 <<< 16)))
/-- LI, the long form of LUI (11 R321). -/
def execLi (k : Fin 4) (rd : Fin 32) (imm : Word) (s : State) : Host.Outcome State Fault Refusal := nx (s.run k.val (insI 0x07 rd 0 (.long imm)) (movOp k.val rd imm))
/-- SHLI (11 Table 11-12, R322). -/
def execShli (k : Fin 4) (rd ra : Fin 32) (cnt : BitVec 6) (long : Bool) (s : State) : Host.Outcome State Fault Refusal := nx (s.run k.val (insShift 0x08 rd ra cnt long) (aluOp k.val (some rd) fun c => shlOp (c.g ra) cnt.toNat))
/-- SHRI (11 Table 11-12, R322). -/
def execShri (k : Fin 4) (rd ra : Fin 32) (cnt : BitVec 6) (long : Bool) (s : State) : Host.Outcome State Fault Refusal := nx (s.run k.val (insShift 0x09 rd ra cnt long) (aluOp k.val (some rd) fun c => shrOp (c.g ra) cnt.toNat))
/-- SARI (11 Table 11-12, R322). -/
def execSari (k : Fin 4) (rd ra : Fin 32) (cnt : BitVec 6) (long : Bool) (s : State) : Host.Outcome State Fault Refusal := nx (s.run k.val (insShift 0x0A rd ra cnt long) (aluOp k.val (some rd) fun c => sarOp (c.g ra) cnt.toNat))
/-- ROLI (11 Table 11-12, R322). -/
def execRoli (k : Fin 4) (rd ra : Fin 32) (cnt : BitVec 6) (long : Bool) (s : State) : Host.Outcome State Fault Refusal := nx (s.run k.val (insShift 0x0B rd ra cnt long) (aluOp k.val (some rd) fun c => rolOp (c.g ra) cnt.toNat))
/-- RORI (11 Table 11-12, R322). -/
def execRori (k : Fin 4) (rd ra : Fin 32) (cnt : BitVec 6) (long : Bool) (s : State) : Host.Outcome State Fault Refusal := nx (s.run k.val (insShift 0x0C rd ra cnt long) (aluOp k.val (some rd) fun c => rorOp (c.g ra) cnt.toNat))
/-- MULI (11 Table 11-12, R322). -/
def execMuli (k : Fin 4) (rd ra : Fin 32) (imm : Imm) (s : State) : Host.Outcome State Fault Refusal := nx (s.run k.val (insI 0x0D rd ra imm) (aluOp k.val (some rd) fun c => { val := c.g ra * (immSext imm) }))

end Sys2Proof.Machine
end

