-- ==== Sys2Proof/Machine/AnvilMem.lean ====
section
/-! DEFINITION. The loads, stores, moves, branches and system instructions of the Anvil cores, and the repeat prefixes (11 R297 to R301,
R307, R311, R318, R320 to R325, 12 R341, R343). -/

namespace Sys2Proof.Machine

/-! Loads and stores (11 R304, R320). -/

/-- The offset of a format M operand: RA, or under POST RA before its increment (11 R320). -/
def Core.offset (c : Core) (m : MemArg) : Word := if m.post then c.g m.ra else c.g m.ra + dispSext m.disp

/-- RA after a format M access: under POST it rises by the displacement (11 R320). -/
def Core.postInc (c : Core) (m : MemArg) : Core := if m.post then c.setG m.ra (c.g m.ra + dispSext m.disp) else c

/-- The traps of a data access, Privilege first (12 R339): cause, EADDR, ECAUSE bits. word is the instruction word. -/
def Core.dataTrap (c : Core) (word : Word) (n : Nat) (a : Acc) (o : Word) (z : Nat) : Option (Nat × Word × Word) :=
  if (a = .store || a = .swap) && c.storePriv n a o.toNat z then some (4, word, 0#32) else c.accTrap n a o.toNat z

/-- The Bus trap of a read of z bytes at physical address x that meets an uncorrectable error (11 R307, 12 Table 12-5): ECAUSE.ACC says load. -/
def State.eccTrap (s : State) (x z : Nat) : Option Res :=
  (s.badAt x z).map fun a => .ecc (s.eccError a) (BitVec.ofNat 32 x) (packed [(24, Acc.load.code)])

/-- A store of z bytes at x by core k finds its queue of 64 bursts full while a write of higher priority waits for MRAM (11 R308, 01 R21). -/
def State.storeStalls (s : State) (k x : Nat) : Bool :=
  regionOf x = some .dict && s.journalWaits && decide (64 ≤ (s.storeQ.filter fun e => e.1 = k).length)

/-- A load of z bytes to rd; f extends the value (11 Table 11-12, R320). With RD equal to RA the increment is discarded. -/
def loadOp (k : Nat) (word : Word) (rd : Fin 32) (m : MemArg) (z : Nat) (f : Nat → Word) (s : State) : Res :=
  let c := s.core k
  match c.dataTrap word m.seg.val .load (c.offset m) z with
  | some t => .trap t.1 t.2.1 t.2.2
  | none =>
    let x := c.phys m.seg.val (c.offset m).toNat
    (s.eccTrap x z).getD (
      let r := s.load k x z
      .done (r.2.modCore k fun c => (c.postInc m).setG rd (f r.1)))

/-- A store of the low z bytes of rd (11 Table 11-12). -/
def storeOp (k : Nat) (word : Word) (rd : Fin 32) (m : MemArg) (z : Nat) (s : State) : Res :=
  let c := s.core k
  match c.dataTrap word m.seg.val .store (c.offset m) z with
  | some t => .trap t.1 t.2.1 t.2.2
  | none =>
    let x := c.phys m.seg.val (c.offset m).toNat
    if s.storeStalls k x then .stall else .done ((s.store k x z (c.g rd).toNat).modCore k fun c => c.postInc m)

/-- SWAP.W: t ← memory, memory ← rd, rd ← t (11 Table 11-12, R307). -/
def swapOp (k : Nat) (word : Word) (rd : Fin 32) (m : MemArg) (s : State) : Res :=
  let c := s.core k
  match c.dataTrap word m.seg.val .swap (c.offset m) 4 with
  | some t => .trap t.1 t.2.1 t.2.2
  | none =>
    let x := c.phys m.seg.val (c.offset m).toNat
    let r := s.load k x 4
    .done ((r.2.store k x 4 (c.g rd).toNat).modCore k fun c => (c.postInc m).setG rd (BitVec.ofNat 32 r.1))

/-- MOVS of z bytes (11 R304, R320, Table 11-12): both operands pass every check before either access, the source first. -/
def movsOp (k : Nat) (word : Word) (m : MovsArg) (z : Nat) (s : State) : Res :=
  let c := s.core k
  let src := c.g m.ra
  let dst := c.g m.rb
  if c.storePriv m.sd.val .store dst.toNat z then .trap 4 word 0#32
  else match c.accTrap m.ss.val .load src.toNat z with
    | some t => .trap t.1 t.2.1 t.2.2
    | none =>
      match c.accTrap m.sd.val .store dst.toNat z with
      | some t => .trap t.1 t.2.1 (t.2.2 ||| 0x04000000#32)
      | none =>
        if s.storeStalls k (c.phys m.sd.val dst.toNat) then .stall
        else (s.eccTrap (c.phys m.ss.val src.toNat) z).getD (
        let r := s.load k (c.phys m.ss.val src.toNat) z
        .done ((r.2.store k (c.phys m.sd.val dst.toNat) z r.1).modCore k fun c =>
          let d := if m.sfix then c else c.setG m.ra (c.g m.ra + BitVec.ofNat 32 z)
          if m.dfix then d else d.setG m.rb (d.g m.rb + BitVec.ofNat 32 z)))

/-- A value of n bits, sign-extended. -/
def sextN (n v : Nat) : Word := (BitVec.ofNat n v).signExtend 32

/-- LD.B (11 Table 11-12). -/
def execLdB (k : Fin 4) (rd : Fin 32) (m : MemArg) (s : State) : Host.Outcome State Fault Refusal :=
  nx (s.run k.val (insM 0x10 rd m) (loadOp k.val (insM 0x10 rd m).word rd m 1 (sextN 8)))
/-- LD.BU. -/
def execLdBu (k : Fin 4) (rd : Fin 32) (m : MemArg) (s : State) : Host.Outcome State Fault Refusal :=
  nx (s.run k.val (insM 0x11 rd m) (loadOp k.val (insM 0x11 rd m).word rd m 1 (BitVec.ofNat 32)))
/-- LD.H. -/
def execLdH (k : Fin 4) (rd : Fin 32) (m : MemArg) (s : State) : Host.Outcome State Fault Refusal :=
  nx (s.run k.val (insM 0x12 rd m) (loadOp k.val (insM 0x12 rd m).word rd m 2 (sextN 16)))
/-- LD.HU. -/
def execLdHu (k : Fin 4) (rd : Fin 32) (m : MemArg) (s : State) : Host.Outcome State Fault Refusal :=
  nx (s.run k.val (insM 0x13 rd m) (loadOp k.val (insM 0x13 rd m).word rd m 2 (BitVec.ofNat 32)))
/-- LD.W. -/
def execLdW (k : Fin 4) (rd : Fin 32) (m : MemArg) (s : State) : Host.Outcome State Fault Refusal :=
  nx (s.run k.val (insM 0x14 rd m) (loadOp k.val (insM 0x14 rd m).word rd m 4 (BitVec.ofNat 32)))
/-- ST.B. -/
def execStB (k : Fin 4) (rd : Fin 32) (m : MemArg) (s : State) : Host.Outcome State Fault Refusal :=
  nx (s.run k.val (insM 0x15 rd m) (storeOp k.val (insM 0x15 rd m).word rd m 1))
/-- ST.H. -/
def execStH (k : Fin 4) (rd : Fin 32) (m : MemArg) (s : State) : Host.Outcome State Fault Refusal :=
  nx (s.run k.val (insM 0x16 rd m) (storeOp k.val (insM 0x16 rd m).word rd m 2))
/-- ST.W. -/
def execStW (k : Fin 4) (rd : Fin 32) (m : MemArg) (s : State) : Host.Outcome State Fault Refusal :=
  nx (s.run k.val (insM 0x17 rd m) (storeOp k.val (insM 0x17 rd m).word rd m 4))
/-- SWAP.W. -/
def execSwapW (k : Fin 4) (rd : Fin 32) (m : MemArg) (s : State) : Host.Outcome State Fault Refusal :=
  nx (s.run k.val (insM 0x18 rd m) (swapOp k.val (insM 0x18 rd m).word rd m))
/-- MOVS.B. -/
def execMovsB (k : Fin 4) (m : MovsArg) (s : State) : Host.Outcome State Fault Refusal :=
  nx (s.run k.val { word := encV 0x19 m } (movsOp k.val (encV 0x19 m) m 1))
/-- MOVS.W. -/
def execMovsW (k : Fin 4) (m : MovsArg) (s : State) : Host.Outcome State Fault Refusal :=
  nx (s.run k.val { word := encV 0x1A m } (movsOp k.val (encV 0x1A m) m 4))

/-! Branches. -/

/-- Whether a condition holds (11 Table 11-11). -/
def Core.holds (c : Core) (cond : Fin 16) : Bool :=
  let n := bitOf c.psr 31
  let z := bitOf c.psr 30
  let cy := bitOf c.psr 29
  let v := bitOf c.psr 28
  match cond.val with
  | 0 => z
  | 1 => !z
  | 2 => cy
  | 3 => !cy
  | 4 => n
  | 5 => !n
  | 6 => v
  | 7 => !v
  | 8 => cy && !z
  | 9 => !cy || z
  | 10 => n = v
  | 11 => n ≠ v
  | 12 => !z && n = v
  | 13 => z || n ≠ v
  | 14 => true
  | _ => false

/-- B (11 Tables 11-11, 11-12). -/
def execB (k : Fin 4) (cond : Fin 16) (disp : BitVec 22) (s : State) : Host.Outcome State Fault Refusal :=
  nx (s.run k.val { word := packed [(26, 0x20), (22, cond.val), (0, disp.toNat)], rep := false } fun s =>
    let c := s.core k.val
    if c.holds cond then .jump s (c.pc + (disp.signExtend 32 <<< 2)) else .done s)

/-- BL (11 Table 11-12): the link goes to g31. -/
def execBl (k : Fin 4) (disp : BitVec 26) (s : State) : Host.Outcome State Fault Refusal :=
  nx (s.run k.val { word := packed [(26, 0x21), (0, disp.toNat)], rep := false } fun s =>
    let c := s.core k.val
    .jump (s.modCore k.val fun c => c.setG 31 (c.pc + 4#32)) (c.pc + (disp.signExtend 32 <<< 2)))

/-- JR (11 Table 11-12). -/
def execJr (k : Fin 4) (ra : Fin 32) (s : State) : Host.Outcome State Fault Refusal :=
  nx (s.run k.val { word := encR 0x22 0 ra 0 0x00, rep := false } fun s => .jump s ((s.core k.val).g ra &&& 0xFFFFFFFC#32))

/-- JLR (11 Table 11-12, R299). -/
def execJlr (k : Fin 4) (rd ra : Fin 32) (s : State) : Host.Outcome State Fault Refusal :=
  nx (s.run k.val { word := encR 0x22 rd ra 0 0x01, rep := false } fun s =>
    let t := (s.core k.val).g ra
    .jump (s.modCore k.val fun c => c.setG rd (c.pc + 4#32)) (t &&& 0xFFFFFFFC#32))

/-! System registers (11 R300, R301, Table 11-3). -/

/-- The access of a system register at firmware and at script level: 0 none, 1 RO, 2 RW; none where the table does not list the number.
IRQ_PEND, which is write 1 to clear, counts as RW. -/
def srAccess (n : Nat) : Option (Nat × Nat) :=
  if n < 3 then some (2, 2)
  else if n = 3 || n = 0x1C || n = 0x1D then some (1, 1)
  else if 0x04 ≤ n && n ≤ 0x08 then some (2, 0)
  else if 0x10 ≤ n && n ≤ 0x14 then some (2, 0)
  else if 0x18 ≤ n && n ≤ 0x1B then some (2, 0)
  else if 0x20 ≤ n && n < 0x38 then some (2, 1)
  else if 0x40 ≤ n && n < 0x60 then some (2, 0)
  else none

/-- Whether a level reaches a system register at all: an access marked "—" does not (11 R301). -/
def srPermitted (script : Bool) (n : Nat) : Bool :=
  match srAccess n with
  | some a => (if script then a.2 else a.1) ≠ 0
  | none => true

/-- Whether a level may write a system register; a write of an RO one has no effect (log 25). -/
def srWritable (script : Bool) (n : Nat) : Bool :=
  match srAccess n with
  | some a => (if script then a.2 else a.1) = 2
  | none => false

/-- WDOG (11 R298). -/
def Core.wdogWord (c : Core) : Word := packed [(31, b2n c.wdogEn), (0, c.wdogPeriod)]

/-- MFS of system register n by core k (11 Table 11-3). -/
def State.readSr (s : State) (k n : Nat) : Word × State :=
  let c := s.core k
  match n with
  | 0x00 => (c.psr, s)
  | 0x01 => (c.cnt, s)
  | 0x02 => (c.fpcsr, s)
  | 0x03 => (BitVec.ofNat 32 k, s)
  | 0x04 => (c.epc, s)
  | 0x05 => (c.epsr, s)
  | 0x06 => (c.ecause, s)
  | 0x07 => (c.eaddr, s)
  | 0x08 => (c.tvec, s)
  | 0x10 => (lo32 c.irqEn, s)
  | 0x11 => (hi32 c.irqEn, s)
  | 0x12 => (lo32 c.irqPend, s)
  | 0x13 => (hi32 c.irqPend, s)
  | 0x14 => (c.wdogWord, s)
  | 0x18 => (lo32 c.scrBind, s)
  | 0x19 => (hi32 c.scrBind, s)
  | 0x1A => (c.scrBase.setWidth 32, s)
  | 0x1B => (c.scrLimit.setWidth 32, s)
  | 0x1C => s.readTideNow (.core (Fin.ofNat 4 k))
  | 0x1D => (s.latch (.core (Fin.ofNat 4 k)) 0x4804, s)
  | _ =>
    if 0x20 ≤ n && n < 0x38 then
      let g := c.seg ((n - 0x20) / 3)
      ((match (n - 0x20) % 3 with | 0 => g.base | 1 => g.limit | _ => g.rights.setWidth 32), s)
    else if n % 2 = 0 then s.readTimer (.core (Fin.ofNat 4 k)) (192 + (n - 0x40) / 2) 0x08
    else s.readTimer (.core (Fin.ofNat 4 k)) (192 + (n - 0x40) / 2) 0x10

/-- A write of SCR_BIND of core k (11 R311): a slot bound to another core stays unbound; an ACTIVE exchange of a slot whose bit clears ends
as ABANDON. -/
def State.writeBind (s : State) (k : Nat) (v : BitVec 64) : State :=
  let others := ([0, 1, 2, 3].filter (· ≠ k)).foldl (fun m j => m ||| (s.core j).scrBind) 0#64
  let old := (s.core k).scrBind
  let new := v &&& ~~~others
  let s1 := s.modCore k fun c => { c with scrBind := new }
  s1.forEach (List.range 64) fun s i => if old.getLsbD i && !new.getLsbD i && (s.slot i).xchg.active then s.abandon i k 3 false else s

/-- A write of WDOG by core k (11 R298, 12 R343): it restarts the count at PERIOD; a PERIOD of 0 is ignored; WDOG ends. -/
def State.writeWdog (s : State) (k : Nat) (w : Word) : State :=
  (s.modCore k fun c =>
    let c1 := { c with run := .run }
    if fld w 23 0 = 0 then (if c.run = .wdog then c1.runWdog s.ltide else c1)
    else { c1 with wdogEn := bitOf w 31, wdogPeriod := fld w 23 0, wdogLeft := fld w 23 0 * 16, wdogFrom := none }.runWdog s.ltide).noteCores

/-- MTS of system register n by core k at the level it runs (11 R300, Table 11-3). -/
def State.writeSr (s : State) (k n : Nat) (w : Word) : State :=
  let set (f : Core → Core) : State := s.modCore k f
  match n with
  | 0x00 =>
    set fun c =>
      let m : Word := if c.script then 0xF0000100#32 else 0xF0000102#32
      { c with psr := (c.psr &&& ~~~m) ||| (w &&& m) }
  | 0x01 => set fun c => { c with cnt := w }
  | 0x02 => set fun c => { c with fpcsr := w &&& 0xFFF#32 }
  | 0x04 => set fun c => { c with epc := w &&& 0xFFFFFFFC#32 }
  | 0x05 => set fun c => { c with epsr := w &&& psrMask }
  | 0x06 => set fun c => { c with ecause := w &&& 0x071F3F7F#32 }
  | 0x07 => set fun c => { c with eaddr := w }
  | 0x08 => set fun c => { c with tvec := w &&& 0xFFFFFF00#32 }
  | 0x10 => set fun c => { c with irqEn := cat64 (hi32 c.irqEn) w }
  | 0x11 => set fun c => { c with irqEn := cat64 w (lo32 c.irqEn) }
  | 0x12 => set fun c => { c with irqPend := c.irqPend &&& ~~~(w.setWidth 64) }
  | 0x13 => set fun c => { c with irqPend := c.irqPend &&& ~~~(cat64 w 0#32) }
  | 0x14 => s.writeWdog k w
  | 0x18 => s.writeBind k (cat64 (hi32 (s.core k).scrBind) w)
  | 0x19 => s.writeBind k (cat64 w (lo32 (s.core k).scrBind))
  | 0x1A => set fun c => { c with scrBase := w.setWidth 16 }
  | 0x1B => set fun c => { c with scrLimit := w.setWidth 16 }
  | _ =>
    if 0x20 ≤ n && n < 0x38 then
      set fun c =>
        let i := (n - 0x20) / 3
        let g := c.seg i
        c.setSeg i (match (n - 0x20) % 3 with | 0 => { g with base := w } | 1 => { g with limit := w } | _ => { g with rights := w.setWidth 4 })
    else if n % 2 = 0 then s.writeTimer (.core (Fin.ofNat 4 k)) (192 + (n - 0x40) / 2) 0x08 w
    else s.writeTimer (.core (Fin.ofNat 4 k)) (192 + (n - 0x40) / 2) 0x10 w

/-- MFS (11 R301). -/
def execMfs (k : Fin 4) (rd : Fin 32) (sr : Byte) (s : State) : Host.Outcome State Fault Refusal :=
  nx (s.run k.val
    { word := encS rd 0 sr.toNat 0x00, defd := (srAccess sr.toNat).isSome, priv := srPermitted (s.core k.val).script sr.toNat } fun s =>
      let r := s.readSr k.val sr.toNat
      movOp k.val rd r.1 r.2)

/-- MTS (11 R300, R301); SR 0x01 may not follow a prefix (11 R325). -/
def execMts (k : Fin 4) (sr : Byte) (ra : Fin 32) (s : State) : Host.Outcome State Fault Refusal :=
  nx (s.run k.val
    { word := encS 0 ra sr.toNat 0x01, defd := (srAccess sr.toNat).isSome, rep := sr ≠ 1#8, priv := srPermitted (s.core k.val).script sr.toNat } fun s =>
      .done (if srWritable (s.core k.val).script sr.toNat then s.writeSr k.val sr.toNat ((s.core k.val).g ra) else s))

/-- WAIT (11 R318): SLEEP, unless a line is already pending and enabled. -/
def execWait (k : Fin 4) (s : State) : Host.Outcome State Fault Refusal :=
  nx (s.run k.val { word := encS 0 0 0 0x02, priv := !(s.core k.val).script } fun s =>
    if (s.core k.val).ready ≠ 0#64 then .done s
    else .done (((s.modCore k.val fun c => { c.holdWdog s.ltide with run := .sleep })).noteCores))

/-- FENCE (11 R307, R308): every earlier store of the core to the dictionary window is committed; the core waits while a write of higher priority does. -/
def execFence (k : Fin 4) (s : State) : Host.Outcome State Fault Refusal :=
  nx (s.run k.val { word := encS 0 0 0 0x03 } fun s =>
    if s.journalWaits && s.storeQ.any (fun e => e.1 = k.val) then .stall else .done (s.drainStores k.val s.storeQ.length))

/-- ERET (12 R341). -/
def execEret (k : Fin 4) (s : State) : Host.Outcome State Fault Refusal :=
  nx (s.run k.val { word := encS 0 0 0 0x04, rep := false, priv := !(s.core k.val).script } fun s =>
    .jump (s.modCore k.val fun c =>
      let d := { c with psr := c.epsr &&& psrMask }
      if bitOf c.epsr 0 then d.exchange else d) (s.core k.val).epc)

/-- HALT (11 R297). -/
def execHalt (k : Fin 4) (s : State) : Host.Outcome State Fault Refusal :=
  nx (s.run k.val { word := encS 0 0 0 0x05, rep := false, priv := !(s.core k.val).script } fun s => .done (s.haltCore k.val))

/-! Repeat prefixes (11 R323 to R325, 12 R331). -/

/-- A prefix at PC, or after a prefix, which is an Illegal Repeat. -/
def State.prefix (s : State) (k : Nat) (repl : Bool) : State :=
  let w := packed [(26, 0x3D), (0, b2n repl)]
  let c := s.core k
  if c.rep.isSome then s.run k { word := w, rep := false } .done
  else if c.run = .halted || c.run = .sleep || c.wdogDue s.ltide || c.irqDue then s
  else match c.fetchTrap c.pc with
    | some t => s.trap k t.1 c.pc t.2.1 (t.2.2 ||| 0x20#32)
    | none => s.modCore k fun c => { c with rep := some { repl := repl } }

/-- REP (11 R323). -/
def execRep (k : Fin 4) (s : State) : Host.Outcome State Fault Refusal := nx (s.prefix k.val false)

/-- REPL (11 R324). -/
def execRepl (k : Fin 4) (s : State) : Host.Outcome State Fault Refusal := nx (s.prefix k.val true)

/-! Words that no instruction has (11 R319). -/

/-- Whether the register fields and FN of an R format word of the ALU are those of an instruction. -/
def aluDefined (w : Word) : Bool :=
  let fn := fld w 5 0
  fld w 10 6 = 0 && fn ≤ 0x19 &&
    (if fn = 0x05 || fn = 0x0A then fld w 25 21 = 0 else true) &&
    (if fn = 0x04 || 0x17 ≤ fn then fld w 15 11 = 0 else true)

/-- Whether the register fields and FN of a floating-point word are those of an instruction. -/
def fpDefined (w : Word) : Bool :=
  let fn := fld w 5 0
  fld w 10 6 = 0 && fn ≤ 0x0D &&
    (if fn = 0x08 then fld w 25 21 = 0 else true) &&
    (if fn = 0x04 || 0x09 ≤ fn then fld w 15 11 = 0 else true)

/-- Whether a word is the word of an instruction, or word 0 of a long form (11 R319, R321, Tables 11-9 to 11-12). -/
def anvilDefined (w : Word) : Bool :=
  let op := fld w 31 26
  let rd := fld w 25 21
  let ra := fld w 20 16
  match op with
  | 0x00 => aluDefined w
  | 0x05 | 0x06 => rd = 0
  | 0x07 => ra = 0
  | 0x08 | 0x09 | 0x0A | 0x0B | 0x0C => fld w 15 6 = 0
  | 0x01 | 0x02 | 0x03 | 0x04 | 0x0D => true
  | 0x10 | 0x11 | 0x12 | 0x13 | 0x14 | 0x15 | 0x16 | 0x17 | 0x18 => true
  | 0x19 | 0x1A => fld w 7 0 = 0
  | 0x20 | 0x21 => true
  | 0x22 => fld w 15 6 = 0 && (fld w 5 0 = 1 || (fld w 5 0 = 0 && rd = 0))
  | 0x28 =>
    match fld w 7 0 with
    | 0 => ra = 0 && (srAccess (fld w 15 8)).isSome
    | 1 => rd = 0 && (srAccess (fld w 15 8)).isSome
    | 2 | 3 | 4 | 5 => rd = 0 && ra = 0 && fld w 15 8 = 0
    | _ => false
  | 0x30 => fpDefined w
  | 0x3D => fld w 25 1 = 0
  | 0x3E =>
    let sub := fld w 15 10
    fld w 5 0 = 0 &&
      (if 0x10 ≤ sub && sub ≤ 0x18 then true
       else 0x01 ≤ sub && sub ≤ 0x0D && fld w 9 6 = 0 && (if sub = 0x05 || sub = 0x06 then rd = 0 else true) && (if sub = 0x07 then ra = 0 else true))
  | _ => false

/-- UNDEFINED_OPCODE (11 R319, 12 R338): the Undefined trap of a word that no instruction has. A repeat prefix with other bits set traps as the
prefix itself (12 R331 step 2). Log 3. -/
def execUndefinedOpcode (k : Fin 4) (word : Word) (s : State) : Host.Outcome State Fault Refusal :=
  if anvilDefined word then nx s
  else if fld word 31 26 = 0x3D && (s.core k.val).rep.isNone then
    let c := s.core k.val
    if c.run = .halted || c.run = .sleep || c.wdogDue s.ltide || c.irqDue then nx s
    else match c.fetchTrap c.pc with
      | some t => nx (s.trap k.val t.1 c.pc t.2.1 (t.2.2 ||| 0x20#32))
      | none => nx (s.trap k.val 3 c.pc word 0x20#32)
  else nx (s.run k.val { word := word, long := fld word 31 26 = 0x3E, defd := false } .done)

end Sys2Proof.Machine
end

