-- ==== Sys2Proof/Machine/Float.lean ====
section
/-! DEFINITION. Binary32 arithmetic: exact results, rounded once (12 R332 to R337). -/

namespace Sys2Proof.Machine

/-- A set of exceptions: bit 4 Invalid, 3 DivZero, 2 Overflow, 1 Underflow, 0 Inexact, in the order of FPCSR and ECAUSE.FPEXC. -/
abbrev Exc := Nat

/-- The canonical quiet NaN (12 R332). -/
abbrev canonNan : Word := 0x7FC00000#32

/-- An infinity. -/
def infW (sign : Bool) : Word := packed [(31, b2n sign), (23, 255)]

/-- A zero. -/
def zeroW (sign : Bool) : Word := packed [(31, b2n sign)]

/-- The sign bit. -/
def fSign (a : Word) : Bool := bitOf a 31

/-- A NaN. -/
def fNan (a : Word) : Bool := fld a 30 23 = 255 && fld a 22 0 ≠ 0

/-- A signaling NaN. -/
def fSnan (a : Word) : Bool := fNan a && !bitOf a 22

/-- An infinity. -/
def fInf (a : Word) : Bool := fld a 30 23 = 255 && fld a 22 0 = 0

/-- A zero. -/
def fZero (a : Word) : Bool := fld a 30 0 = 0

/-- The magnitude of a finite value is fMant · 2 ^ fExp (12 R332). -/
def fMant (a : Word) : Nat := if fld a 30 23 = 0 then fld a 22 0 else 2 ^ 23 + fld a 22 0

/-- Its exponent. -/
def fExp (a : Word) : Int := (max (fld a 30 23) 1 : Nat) - 150

/-- Bits of a number: m < 2 ^ fuel. -/
def bitLen (m : Nat) : Nat := if m = 0 then 0 else Nat.log2 m + 1

/-- m / 2 ^ sh rounded to an integer under RM (0 RNE, 1 RTZ, 2 RUP, 3 RDN), and whether that is inexact. `sticky`: the exact value lies above
m by less than 1. -/
def roundShift (rm : Nat) (sign : Bool) (m sh : Nat) (sticky : Bool) : Nat × Bool :=
  let q := m / 2 ^ sh
  let r := m % 2 ^ sh
  let inexact := r ≠ 0 || sticky
  let up :=
    match rm with
    | 0 => sh ≠ 0 && (2 ^ sh < 2 * r || (2 * r = 2 ^ sh && (sticky || q % 2 = 1)))
    | 1 => false
    | 2 => inexact && !sign
    | _ => inexact && sign
  (if up then q + 1 else q, inexact)

/-- The result of an overflow (12 R335). -/
def overflowW (rm : Nat) (sign : Bool) : Word :=
  let big : Word := packed [(31, b2n sign), (0, 0x7F7FFFFF)]
  match rm with
  | 0 => infW sign
  | 1 => big
  | 2 => if sign then big else infW sign
  | _ => if sign then infW sign else big

/-- The value (m + sticky) · 2 ^ e rounded to binary32 and the exceptions that raises (12 R334, R335). With `sticky`, m has more than 24
bits. `uft`: an exact tiny result raises Underflow. -/
def roundPack (rm : Nat) (uft sign : Bool) (m : Nat) (e : Int) (sticky : Bool) : Word × Exc :=
  if m = 0 && !sticky then (zeroW sign, 0)
  else
    let n := bitLen m
    let sh := n - 24
    let u := roundShift rm sign m sh sticky
    let top : Int := (bitLen u.1 : Int) - 1 + e + sh
    if 127 < top then (overflowW rm sign, 0b101)
    else if top < -126 then
      let low : Int := -149 - e
      let d := if low ≤ 0 then (m * 2 ^ (-low).toNat, sticky) else roundShift rm sign m low.toNat sticky
      (packed [(31, b2n sign), (0, d.1)], if d.2 then 0b011 else if uft then 0b010 else 0)
    else
      let frac := if 24 < bitLen u.1 then u.1 / 2 else u.1 * 2 ^ (24 - bitLen u.1)
      (packed [(31, b2n sign), (23, (top + 127).toNat), (0, frac % 2 ^ 23)], if u.2 then 1 else 0)

/-- A signed exact value i · 2 ^ e; zero takes the sign given. -/
def packInt (rm : Nat) (uft : Bool) (i e : Int) (zeroSign : Bool) : Word × Exc :=
  if i = 0 then (zeroW zeroSign, 0) else roundPack rm uft (i < 0) i.natAbs e false

/-- A finite value as a signed number of units of 2 ^ e, e at most its exponent. -/
def scaled (a : Word) (e : Int) : Int :=
  let m : Int := fMant a * 2 ^ (fExp a - e).toNat
  if fSign a then -m else m

/-- NaN with Invalid where a signaling NaN takes part. -/
def nanOf (l : List Word) : Word × Exc := (canonNan, if l.any fSnan then 16 else 0)

/-- a + b (12 R334, R335). -/
def fAdd (rm : Nat) (uft : Bool) (a b : Word) : Word × Exc :=
  if fNan a || fNan b then nanOf [a, b]
  else if fInf a then (if fInf b && fSign a ≠ fSign b then (canonNan, 16) else (a, 0))
  else if fInf b then (b, 0)
  else
    let e := min (fExp a) (fExp b)
    let z := if fZero a && fZero b && fSign a = fSign b then fSign a else rm = 3
    packInt rm uft (scaled a e + scaled b e) e z

/-- The operand with its sign inverted. -/
def fFlip (a : Word) : Word := a ^^^ 0x80000000#32

/-- a − b: a NaN operand stays a NaN of its kind. -/
def fSub (rm : Nat) (uft : Bool) (a b : Word) : Word × Exc := fAdd rm uft a (fFlip b)

/-- a × b. -/
def fMul (rm : Nat) (uft : Bool) (a b : Word) : Word × Exc :=
  let s := fSign a ≠ fSign b
  if fNan a || fNan b then nanOf [a, b]
  else if (fInf a && fZero b) || (fZero a && fInf b) then (canonNan, 16)
  else if fInf a || fInf b then (infW s, 0)
  else roundPack rm uft s (fMant a * fMant b) (fExp a + fExp b) false

/-- a / b. -/
def fDiv (rm : Nat) (uft : Bool) (a b : Word) : Word × Exc :=
  let s := fSign a ≠ fSign b
  if fNan a || fNan b then nanOf [a, b]
  else if (fInf a && fInf b) || (fZero a && fZero b) then (canonNan, 16)
  else if fInf a then (infW s, 0)
  else if fInf b then (zeroW s, 0)
  else if fZero b then (infW s, 8)
  else if fZero a then (zeroW s, 0)
  else
    let m := fMant a * 2 ^ 60
    roundPack rm uft s (m / fMant b) (fExp a - fExp b - 60) (m % fMant b ≠ 0)

/-- The integer square root of v by its bits: bits k - 1 to 0 of the root r are still to be found. -/
def isqrt (v : Nat) : Nat → Nat → Nat
  | 0, r => r
  | k + 1, r => if (r + 2 ^ k) * (r + 2 ^ k) ≤ v then isqrt v k (r + 2 ^ k) else isqrt v k r

/-- The square root of a. -/
def fSqrt (rm : Nat) (uft : Bool) (a : Word) : Word × Exc :=
  if fNan a then nanOf [a]
  else if fZero a then (a, 0)
  else if fSign a then (canonNan, 16)
  else if fInf a then (a, 0)
  else
    let odd : Nat := (fExp a % 2).toNat
    let v := fMant a * 2 ^ (60 + odd)
    let r := isqrt v 44 0
    roundPack rm uft false r ((fExp a - odd - 60) / 2) (r * r ≠ v)

/-- a × b + c, rounded once (11 Table 11-12, 12 R334). -/
def fMadd (rm : Nat) (uft : Bool) (a b c : Word) : Word × Exc :=
  let s := fSign a ≠ fSign b
  if (fInf a && fZero b) || (fZero a && fInf b) then (canonNan, 16)
  else if fNan a || fNan b || fNan c then nanOf [a, b, c]
  else if fInf a || fInf b then (if fInf c && fSign c ≠ s then (canonNan, 16) else (infW s, 0))
  else if fInf c then (c, 0)
  else
    let pe := fExp a + fExp b
    let e := min pe (fExp c)
    let p : Int := (fMant a * fMant b * 2 ^ (pe - e).toNat : Nat)
    let pz := fZero a || fZero b
    let z := if pz && fZero c && s = fSign c then s else rm = 3
    packInt rm uft ((if s then -p else p) + scaled c e) e z

/-- a < b for numbers, −0 below +0 (12 R335). -/
def fBelow (a b : Word) : Bool :=
  match fSign a, fSign b with
  | true, false => true
  | false, true => false
  | false, false => fld a 30 0 < fld b 30 0
  | true, true => fld b 30 0 < fld a 30 0

/-- FMIN and FMAX: minimumNumber and maximumNumber (12 R335). -/
def fMinMax (wantMax : Bool) (a b : Word) : Word × Exc :=
  let e : Exc := if fSnan a || fSnan b then 16 else 0
  if fNan a && fNan b then (canonNan, e)
  else if fNan a then (b, e)
  else if fNan b then (a, e)
  else if fBelow a b = wantMax then (b, e) else (a, e)

/-- The flags N, Z, C, V in bits [31:28] after FCMP (11 Table 11-13). -/
def fCmp (a b : Word) : Word × Exc :=
  let e : Exc := if fSnan a || fSnan b then 16 else 0
  if fNan a || fNan b then (0x30000000#32, e)
  else if a = b || (fZero a && fZero b) then (0x60000000#32, 0)
  else if fBelow a b then (0x80000000#32, 0)
  else (0x20000000#32, 0)

/-- Binary32 of a signed integer. -/
def fOfInt (rm : Nat) (uft : Bool) (a : Word) : Word × Exc := packInt rm uft a.toInt 0 false

/-- The signed integer of a value under RM (12 R334, R335). -/
def fToInt (rm : Nat) (a : Word) : Word × Exc :=
  let bad : Word × Exc := (if fNan a || !fSign a then 0x7FFFFFFF#32 else 0x80000000#32, 16)
  if fNan a || fInf a then bad
  else
    let e := fExp a
    let d := if 0 ≤ e then (fMant a * 2 ^ e.toNat, false) else roundShift rm (fSign a) (fMant a) (-e).toNat false
    let v : Int := if fSign a then -(d.1 : Int) else d.1
    if v < -(2 ^ 31) || 2 ^ 31 - 1 < v then bad else (BitVec.ofInt 32 v, if d.2 then 1 else 0)

end Sys2Proof.Machine
end

