-- ==== Sys2Proof/Machine/AnvilFp.lean ====
section
/-! DEFINITION. The floating-point instructions of the Anvil cores (11 Table 11-12, 12 R333 to R336). -/

namespace Sys2Proof.Machine

/-- The cause of the enabled exception that comes first (12 R336): Invalid 7, DivZero 8, Overflow 9, Underflow 10, Inexact 11. -/
def excCode (en : Exc) : Nat :=
  if en.testBit 4 then 7 else if en.testBit 3 then 8 else if en.testBit 2 then 9 else if en.testBit 1 then 10 else 11

/-- FPCSR.RM. -/
def Core.rm (c : Core) : Nat := fld c.fpcsr 1 0

/-- FPCSR.UFT. -/
def Core.uft (c : Core) : Bool := bitOf c.fpcsr 8

/-- A floating-point operation of core k (12 R336): an enabled exception traps with the default result in EADDR; else the result is delivered and
the exceptions are ORed into the sticky flags. -/
def fpOp (k : Nat) (deliver : Core → Word → Core) (f : Core → Word × Exc) (s : State) : Res :=
  let c := s.core k
  let r := f c
  let en := r.2 &&& fld c.fpcsr 11 7
  if en ≠ 0 then .trap (excCode en) r.1 (BitVec.ofNat 32 (r.2 * 2 ^ 16))
  else .done (s.modCore k fun c => { deliver c r.1 with fpcsr := c.fpcsr ||| BitVec.ofNat 32 (r.2 * 4) })

/-- Delivers a result to rd. -/
def toRd (rd : Fin 32) (c : Core) (v : Word) : Core := c.setG rd v

/-- FADD (11 Table 11-12). -/
def execFadd (k : Fin 4) (rd ra rb : Fin 32) (s : State) : Host.Outcome State Fault Refusal :=
  nx (s.run k.val { word := encR 0x30 rd ra rb 0x00 } (fpOp k.val (toRd rd) fun c => fAdd c.rm c.uft (c.g ra) (c.g rb)))
/-- FSUB. -/
def execFsub (k : Fin 4) (rd ra rb : Fin 32) (s : State) : Host.Outcome State Fault Refusal :=
  nx (s.run k.val { word := encR 0x30 rd ra rb 0x01 } (fpOp k.val (toRd rd) fun c => fSub c.rm c.uft (c.g ra) (c.g rb)))
/-- FMUL. -/
def execFmul (k : Fin 4) (rd ra rb : Fin 32) (s : State) : Host.Outcome State Fault Refusal :=
  nx (s.run k.val { word := encR 0x30 rd ra rb 0x02 } (fpOp k.val (toRd rd) fun c => fMul c.rm c.uft (c.g ra) (c.g rb)))
/-- FDIV. -/
def execFdiv (k : Fin 4) (rd ra rb : Fin 32) (s : State) : Host.Outcome State Fault Refusal :=
  nx (s.run k.val { word := encR 0x30 rd ra rb 0x03 } (fpOp k.val (toRd rd) fun c => fDiv c.rm c.uft (c.g ra) (c.g rb)))
/-- FSQRT. -/
def execFsqrt (k : Fin 4) (rd ra : Fin 32) (s : State) : Host.Outcome State Fault Refusal :=
  nx (s.run k.val { word := encR 0x30 rd ra 0 0x04 } (fpOp k.val (toRd rd) fun c => fSqrt c.rm c.uft (c.g ra)))
/-- FMADD: rd ← ra × rb + rd. -/
def execFmadd (k : Fin 4) (rd ra rb : Fin 32) (s : State) : Host.Outcome State Fault Refusal :=
  nx (s.run k.val { word := encR 0x30 rd ra rb 0x05 } (fpOp k.val (toRd rd) fun c => fMadd c.rm c.uft (c.g ra) (c.g rb) (c.g rd)))
/-- FMIN. -/
def execFmin (k : Fin 4) (rd ra rb : Fin 32) (s : State) : Host.Outcome State Fault Refusal :=
  nx (s.run k.val { word := encR 0x30 rd ra rb 0x06 } (fpOp k.val (toRd rd) fun c => fMinMax false (c.g ra) (c.g rb)))
/-- FMAX. -/
def execFmax (k : Fin 4) (rd ra rb : Fin 32) (s : State) : Host.Outcome State Fault Refusal :=
  nx (s.run k.val { word := encR 0x30 rd ra rb 0x07 } (fpOp k.val (toRd rd) fun c => fMinMax true (c.g ra) (c.g rb)))
/-- FCMP: the result goes to the flags (11 Table 11-13). -/
def execFcmp (k : Fin 4) (ra rb : Fin 32) (s : State) : Host.Outcome State Fault Refusal :=
  nx (s.run k.val { word := encR 0x30 0 ra rb 0x08 }
    (fpOp k.val (fun c v => { c with psr := (c.psr &&& 0x0FFFFFFF#32) ||| v }) fun c => fCmp (c.g ra) (c.g rb)))
/-- FCVT.SW. -/
def execFcvtSw (k : Fin 4) (rd ra : Fin 32) (s : State) : Host.Outcome State Fault Refusal :=
  nx (s.run k.val { word := encR 0x30 rd ra 0 0x09 } (fpOp k.val (toRd rd) fun c => fOfInt c.rm c.uft (c.g ra)))
/-- FCVT.WS. -/
def execFcvtWs (k : Fin 4) (rd ra : Fin 32) (s : State) : Host.Outcome State Fault Refusal :=
  nx (s.run k.val { word := encR 0x30 rd ra 0 0x0A } (fpOp k.val (toRd rd) fun c => fToInt c.rm (c.g ra)))
/-- FCVTZ.WS: toward zero (12 R333). -/
def execFcvtzWs (k : Fin 4) (rd ra : Fin 32) (s : State) : Host.Outcome State Fault Refusal :=
  nx (s.run k.val { word := encR 0x30 rd ra 0 0x0B } (fpOp k.val (toRd rd) fun c => fToInt 1 (c.g ra)))
/-- FABS: bit 31 cleared (12 R332). -/
def execFabs (k : Fin 4) (rd ra : Fin 32) (s : State) : Host.Outcome State Fault Refusal :=
  nx (s.run k.val { word := encR 0x30 rd ra 0 0x0C } fun s => movOp k.val rd ((s.core k.val).g ra &&& 0x7FFFFFFF#32) s)
/-- FNEG: bit 31 inverted (12 R332). -/
def execFneg (k : Fin 4) (rd ra : Fin 32) (s : State) : Host.Outcome State Fault Refusal :=
  nx (s.run k.val { word := encR 0x30 rd ra 0 0x0D } fun s => movOp k.val rd (fFlip ((s.core k.val).g ra)) s)

end Sys2Proof.Machine
end

