-- ==== Sys2Proof/Machine/CoreEvents.lean ====
section
/-! DEFINITION. What happens to Anvil cores from outside their instructions: interrupts, wake, watchdog, the core control block, the exchange
block, the MRAM store queue (11 R297, R298, R308, R313 to R318, R326, 12 R339 to R343). -/

namespace Sys2Proof.Machine

/-- The lowest set bit below n of a mask, n where none is set. -/
def lowestBit (m : BitVec 64) : Nat → Nat → Nat
  | 0, i => i
  | n + 1, i => if m.getLsbD i then i else lowestBit m n (i + 1)

/-- INTERRUPT_ENTRY (11 R317, 12 R338 to R340): the lowest line pending and enabled. Log 3. -/
def execInterruptEntry (k : Fin 4) (s : State) : Host.Outcome State Fault Refusal :=
  let c := s.core k.val
  if (c.run = .run || c.run = .wdog) && !c.inRepl && !c.wdogDue s.ltide && c.irqDue then
    nx (s.trap k.val 0x0D c.pc 0#32 (s.boundaryBits k.val ||| BitVec.ofNat 32 (lowestBit c.ready 64 0 * 256)))
  else nx s

/-- CORE_WAKE (11 R318). Log 3, 4. -/
def execCoreWake (k : Fin 4) (s : State) : Host.Outcome State Fault Refusal :=
  let c := s.core k.val
  if c.run = .sleep && c.ready ≠ 0#64 then nx (s.modCore k.val fun c => { c with run := .run }.runWdog s.ltide) else nx s

/-- WATCHDOG_EXPIRY (11 R298, 12 R339, R343): during REPL it waits for the end of the loop. Log 3, 4. -/
def execWatchdogExpiry (k : Fin 4) (s : State) : Host.Outcome State Fault Refusal :=
  let c := s.core k.val
  match c.wdogFrom with
  | none => nx s
  | some f =>
    let s1 := s.elapseTide (f + BitVec.ofNat 64 c.wdogLeft)
    if c.wdogDue s1.ltide && !c.inRepl then
      let s2 := (s1.post 0xB0 k.val 0 [c.pc]).tally 0x2700 2
      let s3 := (s2.modCore k.val fun c => { c with wdogEn := false, wdogFrom := none, wdogLeft := 0, run := .wdog }).noteCores
      nx (s3.trap k.val 0x0C c.pc 0#32 (s1.boundaryBits k.val))
    else nx s1

/-- Whether an agent reaches the Anvil memory map: a path does not (11 R305). -/
def anvilAgent : Agent → Bool
  | .path _ => false
  | _ => true

/-- CORE_RUN_WRITE (11 R297, Table 11-14). -/
def execCoreRunWrite (ag : Agent) (v : Word) (s : State) : Host.Outcome State Fault Refusal := nx (if anvilAgent ag then s.writeCoreRun v else s)

/-- IPI (11 Table 11-14, R316). -/
def execIpi (ag : Agent) (v : Word) (s : State) : Host.Outcome State Fault Refusal := nx (if anvilAgent ag then s.writeIpi v else s)

/-- FW_EVENT (11 Tables 11-14, 11-16). -/
def execFwEvent (k : Fin 4) (v : Word) (s : State) : Host.Outcome State Fault Refusal := nx (s.writeFwEvent k.val v)

/-- XCHG_END (11 R314). -/
def execXchgEnd (ag : Agent) (i : Fin 64) (v : Word) (s : State) : Host.Outcome State Fault Refusal :=
  nx (if anvilAgent ag then s.writeXchg i.val 0x21C v else s)

/-- XCHG_CMD_DATA_READ (11 Table 11-7). -/
def execXchgCmdDataRead (ag : Agent) (i : Fin 64) (s : State) : Host.Outcome State Fault Refusal :=
  if anvilAgent ag then let r := s.readXchg i.val 0x210; nx { r.2 with lastRead := r.1 } else nx s

/-- XCHG_RESP_DATA (11 Table 11-7). -/
def execXchgRespData (ag : Agent) (i : Fin 64) (v : Word) (s : State) : Host.Outcome State Fault Refusal :=
  nx (if anvilAgent ag then s.writeXchg i.val 0x214 v else s)

/-- XCHG_RESP_LEN_WRITE (11 Table 11-7). -/
def execXchgRespLenWrite (ag : Agent) (i : Fin 64) (v : Word) (s : State) : Host.Outcome State Fault Refusal :=
  nx (if anvilAgent ag then s.writeXchg i.val 0x218 v else s)

/-- XCHG_LIMIT_EXPIRY (11 R315): LIMIT ms of local tide since the hand-over; it acts as ABANDON. Log 3, 4. -/
def execXchgLimitExpiry (i : Fin 64) (s : State) : Host.Outcome State Fault Refusal :=
  let x := (s.slot i.val).xchg
  if x.active then
    let due := x.startedAt + BitVec.ofNat 64 (x.limit.toNat * 16000)
    let s1 := s.elapseTide due
    if due ≤ s1.ltide then nx (s1.abandon i.val ((s1.boundCore i.val).getD 0) 2 true) else nx s1
  else nx s

/-- MRAM_STORE_COMMIT (11 R308): the oldest queued burst of core k, when no journal write waits (01 R21). Log 3, 26. -/
def execMramStoreCommit (k : Fin 4) (s : State) : Host.Outcome State Fault Refusal := nx (if s.journalWaits then s else s.commitStore k.val)

/-- The MRAM record at an offset becomes invalid (16 R408, Table 16-1): a journal record, an audit entry or a copy of a dictionary record. -/
def State.spoil (s : State) (a : Nat) : State :=
  if a < 0x100000 then ({ s with mram := { s.mram with journal := tset none s.mram.journal (a / 128) none } } : State).markChanged 1 (a / 384)
  else if a < 0x180000 then
    ({ s with mram := { s.mram with audit := tset [] s.mram.audit ((a - 0x100000) / 64) [] } } : State).markChanged 2 ((a - 0x100000) / 448)
  else s

/-- Scrub is granted a burst: no other user waits, or the next write would make the burst owed in every 64 late (01 R21). -/
def State.scrubGranted (s : State) : Bool := !(s.journalWaits || !s.storeQ.isEmpty) || decide (62 ≤ s.flow.bursts)

/-- SCRUB_BURST (01 R21, 16 R408): a burst of scrub, when it is granted, finds no uncorrectable word, or the one at an MRAM offset, which holds the
error until it is written again. Log 27. -/
def execScrubBurst (bad : Option Word) (s : State) : Host.Outcome State Fault Refusal :=
  if !s.scrubGranted then nx s
  else
    let s1 : State := { s with flow := { s.flow with bursts := 0 } }
    match bad with
    | none => nx s1
    | some a =>
      let s2 := s1.spoil a.toNat
      nx (({ s2 with mram := { s2.mram with bad := s2.mram.bad.filter (· ≠ a.toNat / 8) ++ [a.toNat / 8] } } : State).eccError a.toNat)

end Sys2Proof.Machine
end

