-- ==== Sys2Proof/Machine/Dict.lean ====
section
/-! DEFINITION. The entries of the object dictionary: type, access, persistence, range, default and value (15 Tables 15-9 to 15-22, 16 Table
16-16), and the register mirrors (15 R393). -/

namespace Sys2Proof.Machine

/-- An entry as it stands now. acc: operator, installer, maker, each 0 —, 1 RO, 2 RW, 3 WO. pers: 0 —, 1 P, 2 C. lo and hi bound a number. -/
structure DEntry where
  typ  : Nat
  minL : Nat
  maxL : Nat
  acc  : List Nat
  pers : Nat
  lo   : Nat
  hi   : Nat
  dflt : List Byte
  val  : List Byte
  deriving DecidableEq, Repr

/-- Bytes of a scalar type (15 Table 15-1). -/
def typBytes (t : Nat) : Nat := match t with | 1 | 2 => 1 | 3 => 2 | 4 | 6 | 7 => 4 | 5 => 8 | _ => 0

/-- The greatest number of a scalar type. -/
def typMax (t : Nat) : Nat := if t = 1 then 1 else 256 ^ typBytes t - 1

/-- A scalar of the operator's read access: RO/RO/RO. -/
def dRo (t : Nat) (v : Nat) (pers : Nat := 0) : Option DEntry :=
  some { typ := t, minL := typBytes t, maxL := typBytes t, acc := [1, 1, 1], pers := pers, lo := 0, hi := typMax t, dflt := leBytes 0 (typBytes t),
         val := leBytes v (typBytes t) }

/-- Bytes RO/RO/RO. -/
def dRoB (t : Nat) (v : List Byte) : Option DEntry :=
  some { typ := t, minL := 0, maxL := v.length, acc := [1, 1, 1], pers := 0, lo := 0, hi := 0, dflt := [], val := v }

/-- A scalar that is written, with its range and default. -/
def dRw (t : Nat) (acc : List Nat) (pers lo hi d v : Nat) : Option DEntry :=
  some { typ := t, minL := typBytes t, maxL := typBytes t, acc := acc, pers := pers, lo := lo, hi := hi, dflt := leBytes d (typBytes t),
         val := leBytes v (typBytes t) }

/-- A P scalar RO/RW/RW without a register. -/
def State.dKept (s : State) (idx sub t lo hi d : Nat) : Option DEntry := dRw t [1, 2, 2] 1 lo hi d (s.dictNum idx sub d)

/-- A write-only scalar. -/
def dWo (t : Nat) (acc : List Nat) : Option DEntry := dRw t acc 0 0 (typMax t) 0 0

/-- A C count (15 R392). -/
def State.dCount (s : State) (idx sub t : Nat) : Option DEntry := dRo t (s.tallyOf idx sub) 2

/-! Register mirrors. -/

/-- A field of a register: BAR0 offset, highest and lowest bit. -/
structure RegField where
  addr : Nat
  hi   : Nat
  lo   : Nat
  deriving DecidableEq, Repr

/-- The fields that an entry mirrors, low part first; none where it is no mirror (15 Tables 15-13 to 15-20). -/
def mirrorOf (idx sub : Nat) : List RegField :=
  if idx = 0x1200 then
    match sub with
    | 1 => [⟨0xA004, 31, 16⟩] | 2 => [⟨0xA004, 15, 12⟩] | 3 => [⟨0xA004, 7, 0⟩] | 5 => [⟨0x4810, 15, 0⟩] | _ => []
  else if idx = 0x1300 then (if sub = 1 then [⟨0x064, 10, 0⟩] else [])
  else if 0x2000 ≤ idx && idx < 0x2040 then
    let a := 0x2000 + 0x80 * (idx - 0x2000)
    let t := 0xE000 + 0x80 * (idx - 0x2000)
    match sub with
    | 0x01 => [⟨a + 4, 2, 0⟩] | 0x02 => [⟨a + 4, 4, 3⟩] | 0x03 => [⟨a + 4, 6, 5⟩] | 0x04 => [⟨a + 4, 8, 7⟩] | 0x05 => [⟨a + 4, 11, 10⟩]
    | 0x06 => [⟨a + 4, 9, 9⟩] | 0x07 => [⟨a + 4, 12, 12⟩] | 0x08 => [⟨a + 4, 13, 13⟩] | 0x09 => [⟨a + 4, 14, 14⟩] | 0x0A => [⟨a + 4, 16, 15⟩]
    | 0x0B => [⟨a + 4, 17, 17⟩] | 0x0C => [⟨a + 8, 24, 16⟩] | 0x0D => [⟨a + 8, 15, 0⟩] | 0x0E => [⟨a + 0xC, 31, 16⟩]
    | 0x0F => [⟨a + 0x34, 15, 8⟩] | 0x10 => [⟨a + 0x34, 5, 4⟩] | 0x11 => [⟨a + 0x34, 0, 0⟩]
    | 0x12 => [⟨a + 0x64, 28, 27⟩] | 0x13 => [⟨a + 0x64, 26, 24⟩] | 0x14 => [⟨a + 0x64, 23, 21⟩]
    | 0x15 => [⟨a + 0x74, 31, 0⟩] | 0x16 => [⟨t, 31, 0⟩] | 0x17 => [⟨t + 4, 31, 0⟩]
    | _ => []
  else if 0x2300 ≤ idx && idx < 0x2308 then
    let a := 0x4000 + 0x100 * (idx - 0x2300)
    match sub with | 1 => [⟨a + 0x20, 15, 0⟩] | 2 => [⟨a + 0x10, 0, 0⟩] | _ => []
  else if 0x2400 ≤ idx && idx < 0x2420 then
    let a := 0xC000 + 0x80 * (idx - 0x2400)
    match sub with | 1 => [⟨a + 8, 31, 0⟩, ⟨a + 0xC, 31, 0⟩] | 2 => [⟨a + 4, 0, 0⟩] | 3 => [⟨a + 4, 1, 1⟩] | _ => []
  else if 0x2500 ≤ idx && idx < 0x2504 then
    let a := 0x9000 + 0x400 * (idx - 0x2500)
    if sub = 1 then [⟨a + 4, 31, 0⟩] else if sub = 2 then [⟨a + 8, 31, 0⟩]
    else if 3 ≤ sub && sub ≤ 6 then [⟨a + 0x44 + 0x40 * (sub - 3), 31, 0⟩]
    else if 7 ≤ sub && sub ≤ 10 then [⟨a + 0x5C + 0x40 * (sub - 7), 31, 0⟩]
    else []
  else if idx = 0x2600 then (match sub with | 6 => [⟨0xB008, 21, 0⟩] | 7 => [⟨0xB004, 31, 30⟩] | _ => [])
  else []

/-- The number that fields hold. -/
def State.mirrorVal (s : State) : List RegField → Nat
  | [] => 0
  | f :: t => fld (s.busRead .fw f.addr).1 f.hi f.lo + 2 ^ (f.hi + 1 - f.lo) * s.mirrorVal t

/-- Bits of the fields. -/
def mirrorBits : List RegField → Nat
  | [] => 0
  | f :: t => f.hi + 1 - f.lo + mirrorBits t

/-- CMD_ERR of the block of a register; the tide block has none (05 R150). -/
def State.regErr (s : State) : Reg → CmdErr
  | .slot i _ => (s.slot i).regs.cmdErr
  | .polder p _ => (s.polder p).conv.cmdErr
  | .tide _ => .none
  | .port p _ => (s.port p).cmdErr
  | .ring _ => s.ring.cmdErr
  | .tray _ => s.tray.cmdErr
  | .set k _ => (s.cset k).cmdErr
  | .temper i _ => (s.slot i).regs.cmdErr
  | .qp q _ => (s.qp q).cmdErr
  | _ => s.dev.cmdErr

/-- The register writes of a mirror, other fields rewritten as read; the first CMD_ERR that is not NONE ends them (15 R393). -/
def State.mirrorWrite (s : State) : List RegField → Nat → CmdErr × State
  | [], _ => (.none, s)
  | f :: t, v =>
    let n := f.hi + 1 - f.lo
    let s1 := s.busWrite .fw f.addr (setFld (s.busRead .fw f.addr).1 f.hi f.lo (v % 2 ^ n))
    match s1.regErr (regAt f.addr) with
    | .none => s1.mirrorWrite t (v / 2 ^ n)
    | e => (e, s1)

/-- A mirror: "reg" is the reset value (15 R393). -/
def State.dMirror (s : State) (idx sub t : Nat) (acc : List Nat := [1, 2, 2]) : Option DEntry :=
  let m := mirrorOf idx sub
  dRw t acc 1 0 (min (2 ^ mirrorBits m - 1) (typMax t)) (State.reset.mirrorVal m) (s.mirrorVal m)

/-! The tables. -/

/-- The credential of a role, as it reads: in BLANK the maker's is the PUBKEY of the running image (15 Table 15-12, 16 Table 16-7). -/
def State.credential (s : State) (role : Nat) : List Byte :=
  if role = 3 && s.lifeState = .blank then padTo 97 s.life.pubkey else padTo 97 ((s.dictVal 0x1110 role).getD [])

/-- The log-in i as 15 Table 15-12 shows it. -/
def State.loginBytes (s : State) (i : Nat) : List Byte :=
  let l := tget {} s.logins i
  if l.live then
    leBytes (16 * l.gen + i) 4 ++ [BitVec.ofNat 8 l.role, BitVec.ofNat 8 (pathNum l.chan), 0#8, 0#8] ++ leBytes l.at_.toNat 8
  else padTo 16 []

/-- Bytes RO/RW/RW, P. -/
def State.dKeptB (s : State) (idx sub t lo hi : Nat) (acc : List Nat := [1, 2, 2]) : Option DEntry :=
  let d := padTo lo []
  some { typ := t, minL := lo, maxL := hi, acc := acc, pers := 1, lo := 0, hi := 0, dflt := d, val := (s.dictVal idx sub).getD d }

/-- 0x1000 (15 Table 15-11). -/
def State.dIdentity (s : State) (sub : Nat) : Option DEntry :=
  match sub with
  | 1 => dRoB 8 ("Irwavan Devices".toList.map fun c => BitVec.ofNat 8 c.toNat)
  | 2 => dRo 3 0x6400
  | 3 => dRo 2 Config.stepping.toNat
  | 4 => dRo 5 (ofLe serialBytes)
  | 5 => dRo 4 s.life.imgVersion.toNat
  | 6 => dRoB 9 (padTo 48 s.life.digest)
  | 7 => dRo 2 s.lifeState.code
  | 8 => s.dKeptB 0x1000 8 9 16 16
  | 9 => s.dKeptB 0x1000 9 8 0 32
  | _ => none

/-- 0x1100 to 0x1110 (15 Table 15-12). -/
def State.dLogin (s : State) (idx sub : Nat) : Option DEntry :=
  if idx = 0x1100 then
    match sub with
    | 1 => dRo 2 16
    | 2 => dRo 2 (s.logins.filter (·.2.live)).length
    | 3 => s.dKept idx sub 2 1 255 8
    | 4 => s.dKept idx sub 3 1 3600 60
    | 5 => s.dKept idx sub 3 1 600 10
    | 6 => s.dCount idx sub 4
    | _ => none
  else if idx = 0x1101 then (if 1 ≤ sub && sub ≤ 16 then dRoB 9 (s.loginBytes (sub - 1)) else none)
  else if idx = 0x1102 then (if sub = 1 then dWo 4 [0, 3, 3] else none)
  else if 1 ≤ sub && sub ≤ 3 then
    (s.dKeptB idx sub 9 97 97 (if sub = 1 then [1, 2, 2] else [1, 1, 2])).map fun e => { e with val := s.credential sub }
  else none

/-- Kinds of life-cycle and audit entries held, not exported (15 Table 15-21). -/
def State.auditHeldCount (s : State) : Nat := (s.mram.audit.filter (·.2 ≠ [])).length

/-- Entries not yet exported. -/
def State.auditUnexported (s : State) : Nat := (s.mram.audit.filter fun e => e.2 ≠ [] && !s.isExported e.1).length

/-- The entry READ_SEQ names, none where it is not held (16 Table 16-16). -/
def State.auditRead (s : State) : Option (List Byte) :=
  let n := s.life.readSeq
  let e := s.auditAt (auditPos n)
  if n ≠ 0 && e ≠ [] && auditSeq e = n then some (padTo 64 e) else none

/-- 0x1180 and 0x1181 (16 Table 16-16). -/
def State.dLife (s : State) (idx sub : Nat) : Option DEntry :=
  if idx = 0x1180 then
    match sub with
    | 0x1 => dRo 2 s.lifeState.code
    | 0x2 => dWo 2 [0, 3, 3]
    | 0x3 => dRo 4 s.lifeRec.transitions
    | 0x4 => dWo 1 [0, 0, 3]
    | 0x5 => dRo 1 (b2n s.life.debugOpen)
    | 0x6 => dWo 2 [0, 3, 3]
    | 0x7 => dRo 2 s.boot.cause
    | 0x8 => dRoB 9 (padTo 97 s.lifeRec.imageKey)
    | 0x9 => dRw 4 [1, 1, 2] 1 0 0xFFFFFFFF 0 s.lifeRec.minVersion.toNat
    | 0xA => dRo 2 s.life.place
    | 0xB => dRo 4 s.life.wipeUs.toNat
    | _ => none
  else
    match sub with
    | 1 => dRw 5 [2, 2, 2] 0 0 (typMax 5) 0 s.life.readSeq
    | 2 => dRoB 9 (s.auditRead.getD (padTo 64 []))
    | 3 => s.dCount idx sub 4
    | 4 => s.dCount idx sub 4
    | 5 => dRo 3 s.auditFree
    | 6 => dRw 5 [2, 2, 2] 1 0 (typMax 5) 0 s.exportedUpto
    | _ => none

/-- 0x1200, 0x1201, 0x1300 to 0x1302 (15 Tables 15-13, 15-14). -/
def State.dRing (s : State) (idx sub : Nat) : Option DEntry :=
  if idx = 0x1200 then
    match sub with
    | 1 => s.dMirror idx sub 3
    | 2 => s.dMirror idx sub 2
    | 3 => s.dMirror idx sub 2
    | 4 => dRo 2 s.boundAddr 1
    | 5 => (s.dMirror idx sub 3).map fun e => { e with lo := 1 }
    | _ => none
  else if idx = 0x1201 then (if 1 ≤ sub && sub ≤ 7 then s.dCount idx sub 4 else none)
  else if idx = 0x1300 then (if sub = 1 then s.dMirror idx sub 3 else none)
  else
    let p := pathOf (idx = 0x1302)
    match sub with
    | 1 => dRo 1 (b2n (s.linkUp p))
    | 2 => dRo 2 (s.grant p)
    | 3 => s.dCount idx sub 4
    | 4 => s.dCount idx sub 4
    | 5 => s.dCount idx sub 5
    | 6 => s.dCount idx sub 5
    | _ => none

/-- The type of a subindex of 0x2000 + s (15 Table 15-15). -/
def slotCfgTyp (sub : Nat) : Nat :=
  if sub ≤ 5 || sub = 0xA || sub = 0xF || sub = 0x10 || (0x12 ≤ sub && sub ≤ 0x14) then 2
  else if 0xC ≤ sub && sub ≤ 0xE then 3
  else if 0x15 ≤ sub then 4 else 1

/-- The set in which slot i holds a position that is not OUT, 0xFF none (15 Table 15-16). -/
def State.setOf (s : State) (i : Nat) : Nat :=
  match s.flow.sets.find? fun e => e.2.enabled && positions.any fun p =>
      e.2.slotOf p = i && (e.2.at p = .pending || e.2.at p = .member || e.2.at p = .reserve) with
  | some e => e.1
  | none => 0xFF

/-- 0x2100 + i (15 Table 15-16). -/
def State.dSlotStatus (s : State) (i sub : Nat) : Option DEntry :=
  let x := s.slot i
  match sub with
  | 0x1 => dRo 2 x.st.code
  | 0x2 => dRo 4 (s.slotStatus i).toNat
  | 0x3 => dRoB 9 x.ch.atr
  | 0x4 => dRo 4 x.atrInfo.toNat
  | 0x5 => dRo 4 x.protParam.toNat
  | 0x6 => dRo 4 x.protStatus.toNat
  | 0x7 => dRo 4 x.quenchWord.toNat
  | 0x8 => dRo 5 x.regs.quenchAt.toNat
  | 0x9 => dRo 5 x.regs.actStart.toNat
  | 0xA => dRo 3 (s.sessionsOn false i).length
  | 0xB => dRo 2 (s.setOf i)
  | _ => none

/-- 0x2200 + i (15 Table 15-16). -/
def State.dSlotCounts (s : State) (i sub : Nat) : Option DEntry :=
  if 1 ≤ sub && sub ≤ 0x0D then dRo 4 (s.count i sub) 2
  else if 0x10 ≤ sub && sub ≤ 0x17 then dRo 4 (s.count i (14 + (sub - 0x10))) 2
  else if 0x20 ≤ sub && sub ≤ 0x2B then dRo 4 (s.count i (22 + (sub - 0x20))) 2
  else if 0x30 ≤ sub && sub ≤ 0x36 then dRo 4 (s.readTemper i (0x10 + 4 * (sub - 0x30))).toNat
  else if 0x38 ≤ sub && sub ≤ 0x3A then s.dCount (0x2200 + i) sub 5
  else if sub = 0x3F then dWo 1 [0, 3, 3]
  else none

/-- 0x2300 + p (15 Table 15-17). -/
def State.dPolder (s : State) (p sub : Nat) : Option DEntry :=
  let q := s.polder p
  let idx := 0x2300 + p
  match sub with
  | 0x1 => s.dMirror idx sub 3
  | 0x2 => s.dMirror idx sub 1
  | 0x3 => dRo 6 (twos 32 (q.temp.getD 0))
  | 0x4 => dRo 6 (twos 32 (q.peak.getD 0))
  | 0x5 => dRo 1 (b2n q.warn)
  | 0x6 => s.dCount idx sub 4
  | 0x7 => s.dCount idx sub 4
  | 0x8 => s.dCount idx sub 4
  | 0x9 => dRw 4 [1, 2, 2] 0 0 (typMax 4) 0 q.conv.cfg.toNat
  | 0xA => dRoB 9 (leBytes q.conv.mean 2 ++ leBytes q.conv.minC 2 ++ leBytes q.conv.maxC 2 ++ leBytes q.conv.samples.length 2)
  | _ => none

/-- 0x2400 + k (15 Table 15-18). -/
def State.dSet (s : State) (k sub : Nat) : Option DEntry :=
  let idx := 0x2400 + k
  match sub with
  | 0x1 => s.dMirror idx sub 5
  | 0x2 => s.dMirror idx sub 1
  | 0x3 => s.dMirror idx sub 1
  | 0x4 => s.dKept idx sub 1 0 1 0
  | 0x5 => dRo 4 (s.readSet k 0x10).toNat
  | 0x6 => dRo 4 (s.readSet k 0x14).toNat
  | 0x7 => dRo 4 (s.readSet k 0x18).toNat
  | 0x8 => s.dCount idx sub 5
  | 0x9 => s.dCount idx sub 4
  | 0xA => s.dCount idx sub 4
  | 0xB => s.dCount idx sub 4
  | _ => none

/-- 0x2500 + p (15 Table 15-19). -/
def State.dPort (s : State) (p sub : Nat) : Option DEntry :=
  let idx := 0x2500 + p
  if 1 ≤ sub && sub ≤ 0xA then s.dMirror idx sub 4
  else if 0xB ≤ sub && sub ≤ 0xE then s.dKeptB idx sub 9 16 16
  else if 0xF ≤ sub && sub ≤ 0x12 then dRo 5 (s.reserveOf (4 * p + (sub - 0xF))) 1
  else if sub = 0x13 then s.dCount idx sub 5
  else if 0x14 ≤ sub && sub ≤ 0x16 then s.dCount idx sub 4
  else none

/-- 0x2600 and 0x2700 (15 Table 15-20, 14 Table 14-11). -/
def State.dTray (s : State) (idx sub : Nat) : Option DEntry :=
  if idx = 0x2600 then
    match sub with
    | 1 => s.dKept idx sub 2 0 255 0
    | 2 => s.dKept idx sub 3 10 1000 50
    | 3 => s.dKept idx sub 2 1 15 3
    | 4 => s.dKept idx sub 3 0 10000 500
    | 5 => dRw 5 [2, 2, 2] 1 0 (typMax 5) 0 (s.dictNum idx sub 0)
    | 6 => s.dMirror idx sub 4
    | 7 => (s.dMirror idx sub 2).map fun e => { e with dflt := [2#8] }
    | _ => if 0x10 ≤ sub && sub ≤ 0x4F then s.dKept idx sub 2 0 3 0 else none
  else
    match sub with
    | 1 => dRw 4 [1, 1, 2] 1 1 16777215 100000 (s.dictNum idx sub 100000)
    | 2 => s.dCount idx sub 4
    | _ => none

/-- Intents of transactions in flight whose outcome record is not yet committed (15 Table 15-21). -/
def State.intentsOpen (s : State) : Nat :=
  (s.flow.txns.filter fun e => match e.2 with | some x => x.intentSeq.isSome && x.stage ≠ .complete && !x.held | none => false).length

/-- 0x2800 and 0x2900 (15 Table 15-21). -/
def State.dJournal (s : State) (idx sub : Nat) : Option DEntry :=
  if idx = 0x2800 then
    match sub with
    | 1 => dRo 5 s.flow.jNext
    | 2 => dRo 1 (b2n s.dev.jsat)
    | 3 => dRo 3 s.intentsOpen
    | 4 => s.dCount idx sub 5
    | 5 => s.dCount idx sub 5
    | 6 => dRo 4 s.dev.orphans
    | 7 => s.dCount idx sub 4
    | 8 => s.dCount idx sub 4
    | _ => none
  else
    match sub with
    | 1 => s.dKept idx sub 2 0 1 1
    | 2 => dRo 3 s.auditHeldCount
    | 3 => dRo 3 s.auditUnexported
    | 4 => dRo 3 s.auditBacklog
    | 5 => dRo 5 s.mram.auditHashed
    | 6 => dRoB 9 (padTo 48 s.mram.auditHash)
    | 7 => s.dCount idx sub 4
    | _ => none

/-- Type and key check value of what a secret reference holds, 9 bytes (16 Table 16-16). -/
def Secret.info (k : Secret) : List Byte := if k.typ = 0 then padTo 9 [] else BitVec.ofNat 8 k.typ :: kcvOf (keyOfBytes (k.key.take 32))

/-- 0x2A00 (16 Table 16-16). -/
def State.dCrypto (s : State) (sub : Nat) : Option DEntry :=
  match sub with
  | 1 => dRw 2 [1, 2, 2] 0 1 255 0 s.life.keySelect
  | 2 => some { typ := 9, minL := 33, maxL := 65, acc := [0, 3, 3], pers := 0, lo := 0, hi := 0, dflt := padTo 33 [], val := [] }
  | 3 => dWo 2 [0, 3, 3]
  | 4 => dWo 1 [0, 3, 3]
  | 5 => dRoB 9 (s.secret s.life.keySelect).info
  | 6 => dRo 2 (b2n s.life.rngFailed)
  | 7 => s.dCount 0x2A00 7 4
  | _ => none

/-- 0x4000 + q (15 Table 15-22). -/
def State.dQueue (s : State) (q sub : Nat) : Option DEntry :=
  if 1 ≤ sub && sub ≤ 6 then s.dCount (0x4000 + q) sub 5
  else match sub with
    | 7 => s.dCount (0x4000 + q) sub 4
    | 8 => dRo 5 (s.ackOf q)
    | 9 => dRo 2 (if (s.qp q).st = .disabled then 0 else (s.qp q).role)
    | _ => none

/-- The access code of a declaration's two bits, as DEntry.acc codes it: both orders agree (16 Table 16-5). -/
def declAcc (b : Byte) : List Nat := [b.toNat % 4, b.toNat / 4 % 4, b.toNat / 16 % 4]

/-- A declared entry (16 R417, Table 16-5). -/
def State.dDecl (s : State) (idx sub : Nat) : Option DEntry :=
  (s.life.decls.find? fun d => d.index = idx && d.sub = sub).map fun d =>
    let n := if typBytes d.typ = 0 then d.maxLen else typBytes d.typ
    let dv := padTo n d.dflt
    { typ := d.typ, minL := if typBytes d.typ = 0 then 0 else n, maxL := n, acc := declAcc d.access, pers := d.flags.toNat / 2 % 4, lo := 0,
      hi := typMax d.typ, dflt := dv
      val := if d.flags.toNat / 2 % 4 = 0 then (tget none s.life.vals (idx * 256 + sub)).getD dv
             else (s.dictVal idx sub).getD dv }

/-- The highest subindex of an index, 0 where the index is absent (15 R389). -/
def State.dictMax (s : State) (idx : Nat) : Nat :=
  match idx with
  | 0x1000 => 9 | 0x1100 => 6 | 0x1101 => 16 | 0x1102 => 1 | 0x1110 => 3 | 0x1180 => 0xB | 0x1181 => 6 | 0x1200 => 5 | 0x1201 => 7 | 0x1300 => 1
  | 0x1301 => 6 | 0x1302 => 6 | 0x2600 => 0x4F | 0x2700 => 2 | 0x2800 => 8 | 0x2900 => 7 | 0x2A00 => 7
  | _ =>
    if 0x2000 ≤ idx && idx < 0x2040 then 0x17 else if 0x2100 ≤ idx && idx < 0x2140 then 0xB else if 0x2200 ≤ idx && idx < 0x2240 then 0x3F
    else if 0x2300 ≤ idx && idx < 0x2308 then 0xA else if 0x2400 ≤ idx && idx < 0x2420 then 0xB else if 0x2500 ≤ idx && idx < 0x2504 then 0x16
    else if 0x4000 ≤ idx && idx < 0x4200 then 9
    else s.life.decls.foldl (fun m d => if d.index = idx then max m d.sub else m) 0

/-- The entry index.sub, none where it is absent (15 R389, R406, Table 15-9). -/
def State.dictEntry (s : State) (idx sub : Nat) : Option DEntry :=
  if s.dictMax idx = 0 then none
  else if sub = 0 then dRo 2 (s.dictMax idx)
  else match idx with
    | 0x1000 => s.dIdentity sub
    | 0x1100 | 0x1101 | 0x1102 | 0x1110 => s.dLogin idx sub
    | 0x1180 | 0x1181 => s.dLife idx sub
    | 0x1200 | 0x1201 | 0x1300 | 0x1301 | 0x1302 => s.dRing idx sub
    | 0x2600 | 0x2700 => s.dTray idx sub
    | 0x2800 | 0x2900 => s.dJournal idx sub
    | 0x2A00 => s.dCrypto sub
    | _ =>
      if 0x2000 ≤ idx && idx < 0x2040 then
        (if 1 ≤ sub && sub ≤ 0x17 then s.dMirror idx sub (slotCfgTyp sub) (if sub = 9 then [1, 1, 2] else [1, 2, 2]) else none)
      else if 0x2100 ≤ idx && idx < 0x2140 then s.dSlotStatus (idx - 0x2100) sub
      else if 0x2200 ≤ idx && idx < 0x2240 then s.dSlotCounts (idx - 0x2200) sub
      else if 0x2300 ≤ idx && idx < 0x2308 then s.dPolder (idx - 0x2300) sub
      else if 0x2400 ≤ idx && idx < 0x2420 then s.dSet (idx - 0x2400) sub
      else if 0x2500 ≤ idx && idx < 0x2504 then s.dPort (idx - 0x2500) sub
      else if 0x4000 ≤ idx && idx < 0x4200 then s.dQueue (idx - 0x4000) sub
      else s.dDecl idx sub

/-! Checks on a value (15 R399 steps 4 to 6). -/

/-- The access code of a role. -/
def DEntry.accOf (e : DEntry) (role : Nat) : Nat := e.acc.getD (role - 1) 0

/-- A READ is permitted to a role; role 0 is a read without a handle, which sees what every role may read (15 R390). -/
def DEntry.mayRead (e : DEntry) (role : Nat) : Bool := e.accOf (max role 1) = 1 || e.accOf (max role 1) = 2

/-- A WRITE is permitted to a role (15 R390). -/
def DEntry.mayWrite (e : DEntry) (role : Nat) : Bool := role ≠ 0 && (e.accOf role = 2 || e.accOf role = 3)

/-- A write of the entry is a privileged change: the operator may not write it (15 R401). -/
def DEntry.privileged (e : DEntry) : Bool := !e.mayWrite 1

/-- The length fits the type (15 R399 step 5). A key has 33 or 65 bytes. -/
def DEntry.fits (e : DEntry) (n : Nat) : Bool := e.minL ≤ n && n ≤ e.maxL && !(e.minL = 33 && n ≠ 33 && n ≠ 65)

/-- The value lies in the range of the type and the entry (15 R399 step 6). -/
def DEntry.inRange (e : DEntry) (v : List Byte) : Bool :=
  if e.typ = 8 then v.all fun b => b.toNat < 128 else if e.typ = 9 then true else e.lo ≤ ofLe v && ofLe v ≤ e.hi

end Sys2Proof.Machine
end

