-- ==== Sys2Proof/Machine/DictWrite.lean ====
section
/-! DEFINITION. What a write of a dictionary entry checks and does (15 R393, R399, R401, R404, 16 R419 to R421, R426, R429, R438). -/

namespace Sys2Proof.Machine

/-- Who asks for an access: origin 0 channel A, 1 channel B, 2 the ring; the role; the ring address; the handle (16 Table 16-14). -/
structure Asker where
  origin : Nat
  role   : Nat
  ring   : Nat := 0
  handle : Word := 0#32
  deriving DecidableEq, Repr

/-- The FIRMWARE event of the service, by the lowest running core (11 Table 11-16). -/
def State.fwEvent (s : State) (code data : Nat) : State := s.post 0xB2 (([0, 1, 2, 3].find? s.coreRuns).getD 0) code [BitVec.ofNat 32 data]

/-! Log-ins (15 R403, R404). -/

/-- The handle of log-in i. -/
def State.handleOf (s : State) (i : Nat) : Word := BitVec.ofNat 32 (16 * (tget {} s.logins i).gen + i)

/-- The queue pairs that a log-in's end disables. -/
def State.qpsOf (s : State) (h : Word) : List Nat := (s.flow.qps.filter fun e => e.2.live && e.2.login = h).map (·.1)

/-- Log-in i ends, for a reason 1 to 5 in the order of R404. -/
def State.endLogin (s : State) (i reason origin : Nat) : State :=
  let l := tget {} s.logins i
  if !l.live then s
  else
    let h := s.handleOf i
    let s1 : State := { s with logins := tset {} s.logins i { l with live := false } }
    (s1.forEach (s1.qpsOf h) fun s q => s.disableQp q).auditAdd .security
      { kind := 3, role := l.role, origin := origin, handle := h, detail := [BitVec.ofNat 8 reason] }

/-- The live log-ins of a role. -/
def State.roleLogins (s : State) (role : Nat) : List Nat := (List.range 16).filter fun i => (tget {} s.logins i).live && (tget {} s.logins i).role = role

/-! Life-cycle transitions (16 R420). -/

/-- The state of a code. -/
def lifeOf : Nat → Option LifeState
  | 1 => some .blank | 2 => some .maker | 3 => some .installed | 4 => some .operational | 5 => some .service | 6 => some .retired | _ => none

/-- The least role of a transition of 16 Table 16-8, none where there is no such transition. -/
def transitionRole : LifeState → LifeState → Option Nat
  | .blank, .maker => some 3
  | .maker, .installed => some 3
  | .installed, .operational => some 2
  | .operational, .service => some 2
  | .service, .operational => some 2
  | .service, .retired => some 2
  | _, _ => none

/-- Bytes that are not all zero. -/
def nonzero (l : List Byte) : Bool := l.any (· ≠ 0#8)

/-- The condition of a transition of 16 Table 16-8. -/
def State.transitionCond (s : State) : LifeState → LifeState → Bool
  | .maker, .installed => nonzero (s.credential 2)
  | .installed, .operational => nonzero (s.credential 1) && nonzero ((s.dictVal 0x1000 8).getD [])
  | .service, .operational => nonzero (s.credential 1)
  | _, _ => true

/-- Some queue pair is ENABLED, SUSPENDED or DRAINING. -/
def State.qpsLive (s : State) : Bool := s.flow.qps.any fun e => e.2.st ≠ .disabled

/-- Phase 1 of a transition (16 R421); the wiping copy already carries the IMAGE_KEY that phase 2 makes the state's (16 Table 16-8). -/
def State.lifePhase1 (s : State) (t : LifeState) : State :=
  let r := s.lifeRec
  let key := if r.state = .blank then padTo 97 s.life.pubkey else r.imageKey
  let s1 := s.writeLife { r with wiping := some t, imageKey := key }
  { s1 with life := { s1.life with resetDue := some 4 } }

/-! Checks on a value that an entry states (15 R399 steps 6 and 7). -/

/-- RANGE, or NO_ACCESS for a log-in of a higher role, by an entry's own words; 0 none. -/
def State.dictRange (s : State) (a : Asker) (idx sub : Nat) (v : List Byte) : Nat :=
  let n := ofLe v
  let k := s.life.keySelect
  let bad : Bool :=
    if idx = 0x1110 then nonzero v && [1, 2, 3].any fun r => r ≠ sub && s.credential r = v
    else if idx = 0x1180 then
      (if sub = 2 then (match lifeOf n with | some t => (transitionRole s.lifeState t).isNone | none => true)
       else if sub = 4 then n = 0 else if sub = 6 then n ≠ 0xA5 else if sub = 9 then n < s.lifeRec.minVersion.toNat else false)
    else if idx = 0x1181 then sub = 6 && (n < s.exportedUpto || s.mram.auditNext - 1 < n)
    else if 0x2500 ≤ idx && idx < 0x2504 then 0xB ≤ sub && sub ≤ 0xE && nonzero v
    else if idx = 0x2A00 then
      (if sub = 2 then
         k = 0 || !((v.length = 33 && byteAt v 0 = 1#8) || (v.length = 65 && byteAt v 0 = 2#8)) || (0xFE ≤ k && byteAt v 0 ≠ 1#8)
       else if sub = 3 then k = 0 || n = 0 || 2 < n || (0xFE ≤ k && n ≠ 1)
       else if sub = 4 then k = 0 else false)
    else if 0x2400 ≤ idx && idx < 0x2420 then
      sub = 4 && ((s.writeSetCtrl .fw (idx - 0x2400) (if n = 1 then 1#32 else 2#32)).cset (idx - 0x2400)).cmdErr = .value
    else false
  if idx = 0x1102 then (match s.loginRole (BitVec.ofNat 32 n) with | none => 4 | some r => if a.role < r then 2 else 0)
  else if bad then 4 else 0

/-- STATE for the reasons an entry states; 0 none. -/
def State.dictState (s : State) (a : Asker) (idx sub : Nat) (v : List Byte) : Nat :=
  let n := ofLe v
  let bad : Bool :=
    if idx = 0x1110 then sub = 3 && s.lifeState = .blank
    else if idx = 0x1180 then
      (if sub = 2 then
         match lifeOf n with
         | some t => a.role < (transitionRole s.lifeState t).getD 0 || !s.transitionCond s.lifeState t || s.qpsLive
         | none => false
       else sub = 4 && s.qpsLive)
    else if 0x2300 ≤ idx && idx < 0x2308 then sub = 9 && (s.polder (idx - 0x2300)).conv.busy
    else if 0x2400 ≤ idx && idx < 0x2420 then
      sub = 4 && ((s.writeSetCtrl .fw (idx - 0x2400) (if n = 1 then 1#32 else 2#32)).cset (idx - 0x2400)).cmdErr ≠ .none
    else if idx = 0x2A00 then 2 ≤ sub && sub ≤ 4 && (s.life.debugOpen || (sub = 3 && s.life.rngFailed))
    else false
  if bad then 6 else 0

/-! Effects. -/

/-- The state with secret-store reference r holding k (16 R428). -/
def State.setSecret (s : State) (r : Nat) (k : Secret) : State := { s with mram := { s.mram with secrets := tset {} s.mram.secrets r k } }

/-- KEY_GENERATE (16 R429): random bytes of the type. -/
def State.keyGenerate (s : State) (typ : Nat) : State :=
  let r := s.randBytes (if typ = 1 then 32 else 64)
  r.2.setSecret s.life.keySelect { typ := typ, key := r.1 }

/-- The state with the life-cycle run-time fields changed by f. -/
def State.modLife (s : State) (f : LifeRun → LifeRun) : State := { s with life := f s.life }

/-- CLEAR of the telemetry of slot i (15 Table 15-16). -/
def State.clearCounts (s : State) (i : Nat) : State :=
  { s with telemetry := (List.range 33).foldl (fun t c => tset 0 t (i * 64 + c + 1) 0) s.telemetry }

/-- The first steps of an accepted opening of the debug port (16 R426). -/
def State.beginOpening (s : State) (jtag : Bool) : State :=
  (s.forEach ((s.flow.sessions.filter (·.2.isOpen)).map (·.1)) fun s i => s.closeSession i).modLife fun l => { l with opening := some jtag }

/-- What a write of an entry that is no register mirror does. -/
def State.dictPut (s : State) (a : Asker) (idx sub pers : Nat) (v : List Byte) : State :=
  let n := ofLe v
  if idx = 0x1102 then s.endLogin (n % 16) 2 a.origin
  else if idx = 0x1110 then (s.forEach (s.roleLogins sub) fun s i => s.endLogin i 3 a.origin).persist idx sub v
  else if idx = 0x1180 then
    match sub with
    | 2 => (match lifeOf n with | some t => s.lifePhase1 t | none => s)
    | 4 => s.beginOpening false
    | 6 => s.modLife fun l => { l with resetDue := some 3 }
    | _ => s.writeLife { s.lifeRec with minVersion := BitVec.ofNat 32 n }
  else if idx = 0x1181 then (if sub = 1 then s.modLife fun l => { l with readSeq := n } else (s.persist idx sub v).auditFill)
  else if 0x2200 ≤ idx && idx < 0x2240 then (if n = 1 then s.clearCounts (idx - 0x2200) else s)
  else if 0x2300 ≤ idx && idx < 0x2308 then s.writeConvReq .fw (idx - 0x2300) (BitVec.ofNat 32 n ||| 0x80000000#32)
  else if 0x2400 ≤ idx && idx < 0x2420 then (s.writeSetCtrl .fw (idx - 0x2400) (if n = 1 then 1#32 else 2#32)).persist idx sub v
  else if 0x2500 ≤ idx && idx < 0x2504 then s.writeLpCtrl .fw (idx - 0x2500) (BitVec.ofNat 32 (4 + 16 * (sub - 0xB)))
  else if idx = 0x2A00 then
    match sub with
    | 1 => s.modLife fun l => { l with keySelect := n }
    | 2 => s.setSecret s.life.keySelect { typ := (byteAt v 0).toNat, key := v.drop 1 }
    | 3 => s.keyGenerate n
    | _ => if n = 1 then s.setSecret s.life.keySelect {} else s
  else if pers = 0 then s.modLife fun l => { l with vals := tset none l.vals (idx * 256 + sub) (some v) }
  else s.persist idx sub v

/-- A write of an entry: the status, LOCKED or RANGE where a mirrored register refuses it, and the state after (15 R393). -/
def State.dictEffect (s : State) (a : Asker) (idx sub pers : Nat) (v : List Byte) : Nat × State :=
  match mirrorOf idx sub with
  | [] => (0, s.dictPut a idx sub pers v)
  | m =>
    let r := s.mirrorWrite m (ofLe v)
    match r.1 with
    | .none => (0, r.2.persist idx sub v)
    | .value => (4, r.2)
    | _ => (5, r.2)

/-- The audit entry of a privileged change (16 Tables 16-14, 16-15). after: the state after the change. -/
def State.changeEntry (s : State) (a : Asker) (idx sub : Nat) (v : List Byte) (after : State) : AuditEntry :=
  let e : AuditEntry := { kind := 5, role := a.role, origin := a.origin, ring := a.ring, handle := a.handle, index := idx, sub := sub }
  if idx = 0x1180 && sub = 2 then { e with kind := 7, detail := [BitVec.ofNat 8 s.lifeState.code, BitVec.ofNat 8 (ofLe v)] }
  else if idx = 0x1180 && sub = 4 then { e with kind := 9, detail := [0#8] }
  else if idx = 0x2A00 then { e with detail := BitVec.ofNat 8 after.life.keySelect :: (after.secret after.life.keySelect).info }
  else if v.length ≤ 16 then { e with detail := v }
  else { e with detail := (beBytes (Config.sha384 v).toNat 48).take 16 }

/-- The state with the request of channel c noted as started. -/
def State.mbStarted (s : State) (c : Nat) : State := s.modMb c fun m => { m with started := true }

/-- The point of a credential waits for the public-key lane (16 R419, R432). -/
def State.pointWaits (s : State) (c idx : Nat) (v : List Byte) : Bool := idx = 0x1110 && nonzero v && !(s.mb c).started

/-- WRITE, or DEFAULT where v is none, of an entry for channel c, 2 the ring: its status, none while the request stays TAKEN, and the state after
(15 R393, R399, R401, 16 R437, R438). -/
def State.dictWrite (s : State) (c : Nat) (a : Asker) (idx sub : Nat) (v? : Option (List Byte)) : Option Nat × State :=
  match s.dictEntry idx sub with
  | none => (some 1, s)
  | some e =>
    let v := v?.getD e.dflt
    if (s.mb c).started && 0x2300 ≤ idx && idx < 0x2308 then (if (s.polder (idx - 0x2300)).conv.busy then (none, s) else (some 0, s))
    else if (s.mb c).started && s.life.lane.contains (.cred c) then (none, s)
    else if !e.mayWrite a.role then (some 2, s)
    else if !e.fits v.length then (some 3, s)
    else if !e.inRange v then (some 4, s)
    else if s.dictRange a idx sub v ≠ 0 then (some (s.dictRange a idx sub v), s)
    else if s.pointWaits c idx v then (none, (s.mbStarted c).modLife fun l => { l with lane := l.lane ++ [.cred c] })
    else if s.dictState a idx sub v ≠ 0 then (some 6, s)
    else
      let dry := s.dictEffect a idx sub e.pers v
      if !e.privileged then (some dry.1, dry.2)
      else if s.auditHeld then (if dry.1 ≠ 0 then (some dry.1, dry.2) else (some 0xC, s.tally 0x2900 7))
      else if 256 < s.auditBacklog then (none, s)
      else
        let r := (s.auditAdd .privileged (s.changeEntry a idx sub v dry.2)).dictEffect a idx sub e.pers v
        if r.1 ≠ 0 then
          (some r.1, r.2.auditAdd .security
            { kind := 6, role := a.role, origin := a.origin, ring := a.ring, handle := a.handle, index := idx, sub := sub, result := r.1,
              detail := [BitVec.ofNat 8 r.1] })
        else if 0x2300 ≤ idx && idx < 0x2308 && sub = 9 then (none, r.2.mbStarted c)
        else (some 0, r.2)

/-- READ of an entry by a role, 0 without a handle: its status and value (15 R390, R399). -/
def State.dictRead (s : State) (role idx sub : Nat) : Nat × List Byte :=
  match s.dictEntry idx sub with
  | none => (1, [])
  | some e =>
    if !e.mayRead role then (2, [])
    else if idx = 0x1181 && sub = 2 && s.auditRead.isNone then (6, [])
    else (0, e.val)

end Sys2Proof.Machine
end

