-- ==== Sys2Proof/Machine/DictSvc.lean ====
section
/-! DEFINITION. The dictionary service of the firmware: the requests of the mailbox, log-ins, and dictionary accesses over the ring (15 R398 to
R405, 13 R359 to R361). -/

namespace Sys2Proof.Machine

/-- Firmware serves the dictionary: the load has ended and a core runs (01 R19, 15 R394). -/
def State.dictRuns (s : State) : Bool := s.serving && s.boot.loaded && !s.boot.halted && [0, 1, 2, 3].any s.coreRuns

/-- No request but that of c is in progress (15 R400). -/
def State.serviceFree (s : State) (c : Nat) : Bool := [0, 1, 2].all fun d => d = c || !(s.mb d).taken

/-- The request of c with place o is the next of those that wait, or it is in progress (15 R400). -/
def State.turn (s : State) (c o : Nat) : Bool :=
  s.serviceFree c && ((s.mb c).taken ||
    ([0, 1].all (fun d => !(s.mb d).busy || o ≤ (s.mb d).order) && s.ring.rxQ.all fun e => e.1.typ ≠ 0x10#8 || o ≤ e.2))

/-- tt in a second. -/
abbrev tideSec : Nat := 16000000

/-! Dictionary frames (13 R359, R361, Table 13-7). -/

/-- A dictionary payload. -/
def dictPayload (tide : Tide) (op st idx sub ofs total : Nat) (data : List Byte) : List Byte :=
  leBytes tide.toNat 8 ++ [BitVec.ofNat 8 op, BitVec.ofNat 8 st] ++ leBytes idx 2 ++ [BitVec.ofNat 8 sub, 0#8] ++ leBytes ofs 4 ++ leBytes total 4 ++ data

/-- The payload of the present segment of a request. -/
def State.reqPayload (s : State) (r : RingReq) : List Byte :=
  dictPayload s.ltide (if r.write then 2 else 1) r.role r.index r.sub r.offset r.total (if r.write then (r.data.drop r.offset).take 200 else [])

/-- The request of channel p over the ring. -/
def State.reqOf (s : State) (p : Path) : Option RingReq := s.ring.reqs.find? fun r => r.chan = p

/-- The state with the ring request of its channel replaced, or ended where none. -/
def State.setReq (s : State) (p : Path) (r : Option RingReq) : State :=
  s.modRing fun g => { g with reqs := (g.reqs.filter fun x => x.chan ≠ p) ++ r.toList }

/-- The present segment of a request leaves for the first time. -/
def State.sendSegment (s : State) (r : RingReq) : State :=
  let f := s.ringNew 0x10 1 r.dst (s.reqPayload r)
  (f.2.ringQueue f.1).setReq r.chan (some { r with seq := f.1.seq, tries := 0, sentAt := s.now })

/-- The present segment leaves again, with the same SEQ and a fresh TIDE (13 R361). -/
def State.resendSegment (s : State) (r : RingReq) : State :=
  let f := (s.ringNew 0x10 1 r.dst (s.reqPayload r)).1
  (s.ringQueue { f with seq := r.seq }).setReq r.chan (some { r with tries := r.tries + 1, sentAt := s.now })

/-- The ring request of channel p ends with a status and response. -/
def State.endReq (s : State) (p : Path) (status : Nat) (resp : List Byte) : State := (s.setReq p none).mbDone (pathNum p) status resp

/-- A response to the request of channel p (13 R359). -/
def State.takeResponse (s : State) (f : Frame) : State :=
  let p := f.payload
  let seg := p.drop 22
  match s.ring.reqs.find? fun r => r.dst = f.src.toNat && (byteAt p 8).toNat = (if r.write then 2 else 1) && ofLe ((p.drop 10).take 2) = r.index &&
      (byteAt p 12).toNat = r.sub && ofLe ((p.drop 14).take 4) = r.offset with
  | none => s
  | some r =>
    if byteAt p 9 ≠ 0#8 then s.endReq r.chan (byteAt p 9).toNat []
    else if r.write then
      let o := r.offset + 200
      if r.total ≤ o then s.endReq r.chan 0 [] else s.sendSegment { r with offset := o }
    else
      let d := r.data ++ seg
      if ofLe ((p.drop 18).take 4) ≤ d.length || 1024 ≤ d.length then s.endReq r.chan 0 (d.take 1024)
      else s.sendSegment { r with data := d, offset := d.length }

/-- What this device remembers of a source. -/
def State.peer (s : State) (a : Nat) : RingPeer := tget {} s.ring.peers a

/-- The state with that changed by f. -/
def State.modPeer (s : State) (a : Nat) (f : RingPeer → RingPeer) : State := s.modRing fun r => { r with peers := tset {} r.peers a (f (s.peer a)) }

/-- The response to a request frame leaves, and is kept for a repetition (13 R360). -/
def State.respond (s : State) (f : Frame) (st total : Nat) (data : List Byte) : State :=
  let p := f.payload
  let r := s.ringNew 0x11 1 f.src.toNat
    (dictPayload s.ltide (byteAt p 8).toNat st (ofLe ((p.drop 10).take 2)) (byteAt p 12).toNat (ofLe ((p.drop 14).take 4)) total data)
  (r.2.ringQueue r.1).modPeer f.src.toNat fun x => { x with response := some r.1 }

/-- The response last given to a source leaves again, with a fresh TIDE (13 R359, R360). -/
def State.respondAgain (s : State) (a : Nat) : State :=
  match (s.peer a).response with
  | some f => s.ringQueue { f with payload := leBytes s.ltide.toNat 8 ++ f.payload.drop 8 }
  | none => s

/-- A request frame is carried out: the status, total and data of its response, none while it waits, and the state after (13 R359). -/
def State.ringCarry (s : State) (f : Frame) : Option (Nat × Nat × List Byte) × State :=
  let p := f.payload
  let op := (byteAt p 8).toNat
  let role := (byteAt p 9).toNat
  let idx := ofLe ((p.drop 10).take 2)
  let sub := (byteAt p 12).toNat
  let ofs := ofLe ((p.drop 14).take 4)
  let total := ofLe ((p.drop 18).take 4)
  let src := f.src.toNat
  if op = 0 || 2 < op then (some (0x10, 0, []), s)
  else if role = 0 || 3 < role then (some (2, 0, []), s)
  else if op = 1 then
    let r := s.dictRead role idx sub
    (some (r.1, r.2.length, (r.2.drop ofs).take 200), s)
  else
    let x := s.peer src
    let whole := (s.mb 2).taken
    if !whole && (1024 < total || (ofs ≠ 0 && (x.partOf ≠ idx * 256 + sub || x.partial_.length ≠ ofs))) then (some (3, total, []), s)
    else
      let v := if whole then x.partial_ else (if ofs = 0 then [] else x.partial_) ++ p.drop 22
      let s1 := s.modPeer src fun x => { x with partial_ := v, partOf := idx * 256 + sub }
      if v.length < total then (some (0, total, []), s1)
      else if total < v.length then (some (3, total, []), s1)
      else
        let r := s1.dictWrite 2 { origin := 2, role := role, ring := src } idx sub (some v)
        match r.1 with
        | some st => (some (st, total, []), r.2.modPeer src fun x => { x with partial_ := [] })
        | none => (none, r.2)

/-- The receive queue without the frame of place o. -/
def State.dropRx (s : State) (o : Nat) : State := s.modRing fun r => { r with rxQ := r.rxQ.filter fun e => e.2 ≠ o }

/-- The service works through the receive queue: responses at once, requests in their turn. n bounds the frames. -/
def State.serveRing (s : State) : Nat → State
  | 0 => s
  | n + 1 =>
    if !s.dictRuns then s
    else match s.ring.rxQ.find? fun e => e.1.typ = 0x11#8 with
      | some e => ((s.dropRx e.2).takeResponse e.1).serveRing n
      | none =>
        match s.ring.rxQ with
        | [] => s
        | e :: _ =>
          if !s.turn 2 e.2 then s
          else
            let r := s.ringCarry e.1
            match r.1 with
            | some a => ((((r.2.modMb 2 fun m => { m with taken := false, started := false }).dropRx e.2).respond e.1 a.1 a.2.1 a.2.2)).serveRing n
            | none => r.2.modMb 2 fun m => { m with taken := true }

/-- The service looks at the receive queue. -/
def State.service (s : State) : State := s.serveRing 17

/-- A dictionary frame of this device enters the receive queue and raises line 41 (13 R361). -/
def State.rxPush (s : State) (f : Frame) : State :=
  let o := s.nextOrder
  ((s.modMb 2 fun m => { m with order := o }).modRing fun r => { r with rxQ := r.rxQ ++ [(f, o)] }).line 41

/-- The checks of a dictionary frame addressed to this device: what it is counted as where it is discarded (13 R360, R361). -/
def State.dictFrameBad (s : State) (f : Frame) : Option Nat :=
  let t : Int := ofLe (f.payload.take 8)
  if !s.ringAuthOk f then some 3
  else if f.payload.length < 22 then some 1
  else if 16000 < (t - (s.ltide.toNat : Int)).natAbs then some 4
  else none

/-- DICT_REQ (13 R348, R359 to R361). Log 3. -/
def execDictReq (f : Frame) (s : State) : Host.Outcome State Fault Refusal :=
  if !s.ring.rxLock then nx s
  else match s.ringFate f with
    | .discard n => nx (s.ringDrop f n)
    | .pass => nx (s.ringForward f)
    | .back =>
      match s.ring.reqs.find? fun r => r.seq = f.seq && r.dst = f.dst.toNat with
      | some r => nx ((s.endReq r.chan 0x0E []).service)
      | none => nx s
    | .mine =>
      match s.dictFrameBad f with
      | some n => nx (s.ringDiscard n)
      | none =>
        let x := s.peer f.src.toNat
        if x.seqs.head? = some f.seq then nx (s.respondAgain f.src.toNat)
        else if x.seqs.contains f.seq then nx (s.ringDiscard 5)
        else if 16 ≤ s.ring.rxQ.length then nx (s.ringDiscard 6)
        else nx (((s.modPeer f.src.toNat fun x => { x with seqs := f.seq :: x.seqs, response := none }).rxPush f).service)

/-- DICT_RSP (13 R348, R359 to R361). Log 3. -/
def execDictRsp (f : Frame) (s : State) : Host.Outcome State Fault Refusal :=
  if !s.ring.rxLock then nx s
  else match s.ringFate f with
    | .discard n => nx (s.ringDrop f n)
    | .pass => nx (s.ringForward f)
    | .back => nx s
    | .mine =>
      match s.dictFrameBad f with
      | some n => nx (s.ringDiscard n)
      | none => if 16 ≤ s.ring.rxQ.length then nx (s.ringDiscard 6) else nx ((s.rxPush f).service)

/-- DICT_RETRY (13 R361): the 10 ms wait of the request of a channel ends. Log 3, 4. -/
def execDictRetry (src : Agent) (s : State) : Host.Outcome State Fault Refusal :=
  match src with
  | .path p =>
    match s.reqOf p with
    | none => nx s
    | some r =>
      let s1 := s.elapseTo (r.sentAt + 10 * ms)
      nx (if r.tries < 3 then s1.resendSegment r else (s1.endReq p 0x0D []).service)
  | _ => nx s

/-! The mailbox (15 R398 to R405). -/

/-- The fields of a request. -/
def Mailbox.op (m : Mailbox) : Nat := fld m.req 7 0
/-- TARGET. -/
def Mailbox.target (m : Mailbox) : Nat := fld m.req 12 8
/-- INDEX. -/
def Mailbox.index (m : Mailbox) : Nat := fld m.entry 15 0
/-- SUBINDEX. -/
def Mailbox.sub (m : Mailbox) : Nat := fld m.entry 23 16
/-- MB_LEN. -/
def Mailbox.length (m : Mailbox) : Nat := fld m.len 10 0

/-- A defined OP (15 Table 15-6). -/
def opDefined (op : Nat) : Bool := (1 ≤ op && op ≤ 3) || (0x10 ≤ op && op ≤ 0x12)

/-- The role of the handle of channel c's request, none where it is not live or was made on the other channel; 0 for a READ of 0x1000 without a
handle (15 R390, R399 step 2). -/
def State.mbRole (s : State) (c : Nat) : Option Nat :=
  let m := s.mb c
  if m.handle = 0#32 then (if m.op = 1 && m.index = 0x1000 then some 0 else none)
  else if pathNum (tget {} s.logins (m.handle.toNat % 16)).chan = c then s.loginRole m.handle else none

/-- The request of channel c goes over the ring (15 R402). -/
def State.forwardReq (s : State) (c role : Nat) : State :=
  let m := s.mb c
  let v : Option (List Byte) :=
    if m.op = 1 then some [] else if m.op = 2 then some (m.bytes 0 m.length) else (s.dictEntry m.index m.sub).map (·.dflt)
  if role = 0 then s.mbDone c 7 []
  else if s.ring.addr = 0 then s.mbDone c 0x0E []
  else match v with
    | none => s.mbDone c 1 []
    | some v =>
      s.sendSegment { chan := pathOf (c = 1), dst := m.target, write := m.op ≠ 1, role := role, index := m.index, sub := m.sub,
                      total := v.length, data := v, seq := 0, sentAt := s.now }

/-- READ, WRITE or DEFAULT of channel c (15 R399, R402). -/
def State.carryAccess (s : State) (c : Nat) : State :=
  let m := s.mb c
  if 16 < m.target then s.mbDone c 0x10 []
  else match s.mbRole c with
    | none => s.mbDone c 7 []
    | some role =>
      if m.target ≠ 0 && m.target ≠ s.ring.addr then (if (s.reqOf (pathOf (c = 1))).isSome then s else s.forwardReq c role)
      else if m.op = 1 then
        let r := s.dictRead role m.index m.sub
        s.mbDone c r.1 r.2
      else
        let r := s.dictWrite c { origin := c, role := role, handle := m.handle } m.index m.sub (if m.op = 2 then some (m.bytes 0 m.length) else none)
        match r.1 with
        | some st => r.2.mbDone c st []
        | none => r.2

/-- The roles that CHALLENGE accepts in a life-cycle state (16 Table 16-7). -/
def lifeRoles : LifeState → List Nat
  | .blank => [3] | .maker => [3] | .installed => [2, 3] | .operational => [1, 2] | .service => [2, 3] | .retired => []

/-- A lockout whose time has passed has ended (15 R405). -/
def State.lockoutCheck (s : State) (c : Nat) : State :=
  match (s.mb c).lockedUntil with
  | some t => if t ≤ s.ltide then s.modMb c fun m => { m with lockedUntil := none, fails := 0 } else s
  | none => s

/-- CHALLENGE on channel c (15 R403, R405, 16 R418, R430). -/
def State.carryChallenge (s0 : State) (c : Nat) : State :=
  let s := s0.lockoutCheck c
  let m := s.mb c
  let role := fld m.req 17 16
  if m.target ≠ 0 then s.mbDone c 0x10 []
  else if m.lockedUntil.isSome then s.mbDone c 0x0B []
  else if role = 0 then s.mbDone c 4 []
  else if !nonzero (s.credential role) then s.mbDone c 0x0A []
  else if !(lifeRoles s.lifeState).contains role || s.life.rngFailed then s.mbDone c 6 []
  else
    let r := s.randBytes 48
    let b := r.1 ++ serialBytes ++ [BitVec.ofNat 8 role, BitVec.ofNat 8 c]
    let until_ := s.ltide + BitVec.ofNat 64 (s.dictNum 0x1100 5 10 * tideSec)
    (r.2.modMb c fun m => { m with challenge := some { bytes := b, role := role, until_ := until_ } }).mbDone c 0 (padTo 64 b)

/-- RESPOND on channel c: the signature goes to the public-key lane (15 R403, 16 R432). -/
def State.carryRespond (s : State) (c : Nat) : State :=
  let m := s.mb c
  let drop (s : State) : State := s.modMb c fun m => { m with challenge := none }
  if s.life.lane.contains (.respond c) then s
  else if m.target ≠ 0 then (drop s).mbDone c 0x10 []
  else if m.length ≠ 96 then (drop s).mbDone c 3 []
  else match m.challenge with
    | none => s.mbDone c 6 []
    | some ch =>
      if ch.until_ ≤ s.ltide then (drop s).mbDone c 6 []
      else s.modLife fun l => { l with lane := l.lane ++ [.respond c] }

/-- LOGOUT on channel c (15 R404). -/
def State.carryLogout (s : State) (c : Nat) : State :=
  let m := s.mb c
  if m.target ≠ 0 then s.mbDone c 0x10 []
  else if m.handle = 0#32 then s.mbDone c 7 []
  else match s.mbRole c with
    | none => s.mbDone c 7 []
    | some _ => (s.endLogin (m.handle.toNat % 16) 1 c).mbDone c 0 []

/-- The request of channel c is carried out, or goes on. -/
def State.carry (s : State) (c : Nat) : State :=
  match (s.mb c).op with
  | 1 | 2 | 3 => s.carryAccess c
  | 0x10 => s.carryChallenge c
  | 0x11 => s.carryRespond c
  | 0x12 => s.carryLogout c
  | _ => s.mbDone c 0x10 []

/-- The service carries out the request of channel c where it is one that ok accepts and its turn has come (15 R398, R400). Log 3. -/
def State.serveIf (s : State) (c : Path) (ok : Mailbox → Bool) : State :=
  let s0 := s.service
  let n := pathNum c
  let m := s0.mb n
  if s0.dictRuns && m.busy && ok m && s0.turn n m.order then (((s0.modMb n fun m => { m with taken := true }).carry n).service) else s0

/-- A log-in is made on channel c (15 R403). -/
def State.makeLogin (s : State) (c role : Nat) : State :=
  match (List.range 16).find? fun i => !(tget {} s.logins i).live with
  | none => s.mbDone c 8 []
  | some i =>
    let l : Login := { live := true, gen := (tget {} s.logins i).gen % 255 + 1, role := role, chan := pathOf (c = 1), at_ := s.ltide }
    let s1 : State := ({ s with logins := tset {} s.logins i l } : State).modMb c fun m => { m with fails := 0 }
    (s1.auditAdd .security { kind := 2, role := role, origin := c, handle := s1.handleOf i, detail := [BitVec.ofNat 8 role, BitVec.ofNat 8 c] }).mbDone
      c 0 (leBytes (s1.handleOf i).toNat 4)

/-- A failed signature on channel c (15 R403, R405). -/
def State.failLogin (s : State) (c role : Nat) : State :=
  let n := (s.mb c).fails + 1
  let s1 := ((s.tally 0x1100 6).modMb c fun m => { m with fails := n }).auditAdd .security
    { kind := 4, role := role, origin := c, result := 9, detail := [BitVec.ofNat 8 role, BitVec.ofNat 8 c, BitVec.ofNat 8 n] }
  let s2 :=
    if s.dictNum 0x1100 3 8 ≤ n then
      (s1.modMb c fun m => { m with lockedUntil := some (s1.ltide + BitVec.ofNat 64 (s1.dictNum 0x1100 4 60 * tideSec)) }).fwEvent 2 c
    else s1
  s2.mbDone c 9 []

/-- The verification for RESPOND of channel c ends (15 R403, 16 R438). -/
def State.endRespond (s : State) (c : Nat) : State :=
  let m := s.mb c
  match m.challenge with
  | none => s
  | some ch =>
    let s1 := s.modMb c fun m => { m with challenge := none }
    if !Config.ecdsaVerify (s.credential ch.role) (Config.sha384 ch.bytes) (m.bytes 0 96) then s1.failLogin c ch.role
    else if s.auditHold && s.auditFree = 0 then (s1.tally 0x2900 7).mbDone c 0x0C []
    else s1.makeLogin c ch.role

/-- The value that a credential write of c brings. -/
def State.credValue (s : State) (c : Nat) : List Byte :=
  if c < 2 then (s.mb c).bytes 0 97
  else match s.ring.rxQ.find? fun e => e.1.typ = 0x10#8 with
    | some e => (s.peer e.1.src.toNat).partial_
    | none => []

/-- The request of c goes on after the lane. -/
def State.goOn (s : State) (c : Nat) : State := if c < 2 then (s.carry c).service else s.service

/-- The point check for a credential write of c ends: RANGE where it is no point (16 R419). -/
def State.endPoint (s : State) (c : Nat) : State :=
  if Config.pointOnCurve (s.credValue c) then s.goOn c
  else if c < 2 then (s.mbDone c 4 []).service
  else match s.ring.rxQ.find? fun e => e.1.typ = 0x10#8 with
    | some e => (((s.modMb 2 fun m => { m with taken := false, started := false }).dropRx e.2).respond e.1 4 97 []).service
    | none => s

/-- PUBKEY_VERIFY_DONE (16 R432): the oldest job of the public-key lane ends. Log 3. -/
def execPubkeyVerifyDone (s : State) : Host.Outcome State Fault Refusal :=
  match s.life.lane with
  | [] => nx s
  | j :: t =>
    let s1 := s.modLife fun l => { l with lane := t }
    match j with
    | .respond c => nx ((s1.endRespond c).service)
    | .cred c => nx (s1.endPoint c)
    | .crypto => nx s1

/-- An entry is one of an index and subindex. -/
def Mailbox.names (m : Mailbox) (idx sub : Nat) : Bool := m.op = 2 && m.index = idx && m.sub = sub

/-- READ (15 Table 15-6); a request with a reserved OP is answered with it. -/
def execRead (c : Path) (s : State) : Host.Outcome State Fault Refusal := nx (s.serveIf c fun m => m.op = 1 || !opDefined m.op)

/-- WRITE (15 Table 15-6). -/
def execWrite (c : Path) (s : State) : Host.Outcome State Fault Refusal := nx (s.serveIf c fun m => m.op = 2)

/-- DEFAULT (15 Table 15-6). -/
def execDefault (c : Path) (s : State) : Host.Outcome State Fault Refusal := nx (s.serveIf c fun m => m.op = 3)

/-- CHALLENGE (15 R403). -/
def execChallenge (c : Path) (s : State) : Host.Outcome State Fault Refusal := nx (s.serveIf c fun m => m.op = 0x10)

/-- RESPOND (15 R403). -/
def execRespond (c : Path) (s : State) : Host.Outcome State Fault Refusal := nx (s.serveIf c fun m => m.op = 0x11)

/-- LOGOUT (15 R404). -/
def execLogout (c : Path) (s : State) : Host.Outcome State Fault Refusal := nx (s.serveIf c fun m => m.op = 0x12)

/-- END_LOGIN (15 R404): a WRITE of 0x1102.01. -/
def execEndLogin (c : Path) (s : State) : Host.Outcome State Fault Refusal := nx (s.serveIf c fun m => m.names 0x1102 1)

/-- TRANSITION_REQUEST (16 R420, R421): a WRITE of 0x1180.02. -/
def execTransitionRequest (c : Path) (s : State) : Host.Outcome State Fault Refusal := nx (s.serveIf c fun m => m.names 0x1180 2)

/-- DEBUG_OPEN (16 R426): a WRITE of 0x1180.04. -/
def execDebugOpen (c : Path) (s : State) : Host.Outcome State Fault Refusal := nx (s.serveIf c fun m => m.names 0x1180 4)

/-- KEY_LOAD (16 R429): a WRITE of 0x2A00.02. -/
def execKeyLoad (c : Path) (s : State) : Host.Outcome State Fault Refusal := nx (s.serveIf c fun m => m.names 0x2A00 2)

/-- KEY_GENERATE (16 R429): a WRITE of 0x2A00.03. -/
def execKeyGenerate (c : Path) (s : State) : Host.Outcome State Fault Refusal := nx (s.serveIf c fun m => m.names 0x2A00 3)

/-- KEY_ERASE (16 R429): a WRITE of 0x2A00.04. -/
def execKeyErase (c : Path) (s : State) : Host.Outcome State Fault Refusal := nx (s.serveIf c fun m => m.names 0x2A00 4)

/-- EXPORTED_UPTO (16 R438): a WRITE of 0x1181.06. -/
def execExportedUpto (c : Path) (s : State) : Host.Outcome State Fault Refusal := nx (s.serveIf c fun m => m.names 0x1181 6)

/-- CLEAR (15 Table 15-16): a WRITE of 0x2200 + s, subindex 0x3F. -/
def execClear (c : Path) (s : State) : Host.Outcome State Fault Refusal :=
  nx (s.serveIf c fun m => m.op = 2 && 0x2200 ≤ m.index && m.index < 0x2240 && m.sub = 0x3F)

/-- CHALLENGE_EXPIRY (15 R403): a pending challenge lapses. One that a RESPOND has consumed does not. Log 3, 4. -/
def execChallengeExpiry (c : Path) (s : State) : Host.Outcome State Fault Refusal :=
  let n := pathNum c
  match (s.mb n).challenge with
  | none => nx s
  | some ch => if s.life.lane.contains (.respond n) then nx s else nx ((s.elapseTide ch.until_).modMb n fun m => { m with challenge := none })

/-- LOCKOUT_END (15 R405). Log 3, 4. -/
def execLockoutEnd (c : Path) (s : State) : Host.Outcome State Fault Refusal :=
  let n := pathNum c
  match (s.mb n).lockedUntil with
  | none => nx s
  | some t => nx ((s.elapseTide t).modMb n fun m => { m with lockedUntil := none, fails := 0 })

end Sys2Proof.Machine
end

