-- ==== Sys2Proof/Machine/Life.lean ====
section
/-! DEFINITION. Resets, the start sequence, the dictionary load, wipes, the debug opening and the crypto engine (16 R409 to R433, 15 R392, R394, 07
R213, 03 R85, R86). -/

namespace Sys2Proof.Machine

/-! Resets (16 R409 to R411, 03 R85, R86). -/

/-- A slot in a device reset: one that is powered or discharging is quenched by its own sequencer; its registers return to their reset values. -/
def Slot.reset (x : Slot) (now : Nat) (vddaFirst : Bool) : Slot :=
  let q := x.seq
  if x.powered then
    let kept : SlotSeq :=
      { vcc := q.vcc, rst := q.rst, clkRun := q.clkRun, stopLevel := q.stopLevel, ioUp := q.ioUp, div := q.div, cls := q.cls, steps := q.steps,
        ioHold := if q.steps < 3 then some (x.ioLow now) else none, clkRef := q.clkRef, divNext := q.divNext, divAt := q.divAt, clkFrom := q.clkFrom
        deactT0 := q.deactT0, quenchT0 := some (q.quenchT0.getD now), sinkReq := q.sinkReq, sinkOn := q.sinkOn, timedOut := q.timedOut, leaking := q.leaking }
    let seq : SlotSeq :=
      if vddaFirst then
        { kept with vcc := .disch, rst := false, clkRun := false, stopLevel := false, ioUp := false, ioHold := none, steps := 4, sinkReq := some now, sinkOn := some now }
      else kept
    { st := .quenching, seq := seq }
  else { seq := { gapFrom := q.gapFrom, leaking := q.leaking } }

/-- A slot at the release of the slot logic: EMPTY, its registers at their reset values (03 R85). -/
def Slot.release (x : Slot) : Slot := if x.powered then x else { seq := { gapFrom := x.seq.gapFrom, leaking := x.seq.leaking } }

/-- A device reset with a source's code (16 R409, R411). srcs: the sources asserted after it; lost: VCORE is lost, and with it the C increments not
yet written and the SRAM (15 R392). -/
def State.deviceReset (s : State) (code : Nat) (srcs : List ResetSource) (vddaFirst lost : Bool) : State :=
  let old := s.boot.cause
  { State.reset with
    now := s.now
    slots := s.slots.foldl (fun t e => tset {} t e.1 (e.2.reset s.now vddaFirst)) []
    mram := s.mram
    telemetry := if lost then s.mram.telemetry else s.telemetry
    counts := if lost then s.mram.counts else s.counts
    sram := if lost then [] else s.sram
    dictView := s.mram.dictMem
    ring := { unlockedAt := s.now }
    tap := { s.tap with pins := false }
    boot := { sources := srcs, slotHeld := true, cause := if s.boot.zero || old = 0 then code else min old code,
              vddaFirst := vddaFirst || (s.boot.slotHeld && s.boot.vddaFirst), sinkGrant := s.boot.sinkGrant }
    lastRead := s.lastRead
    out := s.out
    freeCount := s.freeCount
    pending := s.pending }

/-- POWER_FAIL (16 R409, 03 R86, 01 Table 1-7). -/
def execPowerFail (rail : CoreRail) (vddaFirst : Bool) (s : State) : Host.Outcome State Fault Refusal :=
  nx (s.deviceReset 1 (.power :: s.boot.sources.filter (· ≠ .power)) vddaFirst (rail = .vcore))

/-- POWER_RELEASE (18 R455): at least 1 ms after the last rail rose. Log 3, 4. -/
def execPowerRelease (s : State) : Host.Outcome State Fault Refusal :=
  if s.boot.sources.contains .power then
    let s1 := s.elapse ms
    nx { s1 with boot := { s1.boot with sources := s1.boot.sources.filter (· ≠ .power) } }
  else nx s

/-- PIN_RESET (16 R410). -/
def execPinReset (s : State) : Host.Outcome State Fault Refusal := nx (s.deviceReset 2 (.pin :: s.boot.sources.filter (· ≠ .pin)) false false)

/-- SYSRST_RELEASE (16 R410). Log 3. -/
def execSysrstRelease (s : State) : Host.Outcome State Fault Refusal :=
  nx { s with boot := { s.boot with sources := s.boot.sources.filter (· ≠ .pin) } }

/-- SOFTWARE_RESET (16 R409): firmware asserts the reset that a write of 0x1180.06 asked for. Log 3. -/
def execSoftwareReset (s : State) : Host.Outcome State Fault Refusal :=
  nx (if s.life.resetDue = some 3 then s.deviceReset 3 s.boot.sources false false else s)

/-- LIFECYCLE_RESET (16 R421). Log 3. -/
def execLifecycleReset (s : State) : Host.Outcome State Fault Refusal :=
  nx (if s.life.resetDue = some 4 then s.deviceReset 4 s.boot.sources false false else s)

/-- SLOT_LOGIC_RELEASE (03 R85): every sequencer has finished and every source is released. Log 3. -/
def execSlotLogicRelease (s : State) : Host.Outcome State Fault Refusal :=
  if s.boot.slotHeld && s.boot.sources.isEmpty && !s.slots.any (fun e => e.2.st = .quenching) then
    nx { s with boot := { s.boot with slotHeld := false, vddaFirst := false }, slots := s.slots.foldl (fun t e => tset {} t e.1 e.2.release) [] }
  else nx s

/-! The start (16 R412, R413). -/

/-- START_ZERO (16 R412): the last source has been released. Log 3. -/
def execStartZero (s : State) : Host.Outcome State Fault Refusal :=
  nx (if s.boot.sources.isEmpty && !s.boot.zero then { s with boot := { s.boot with zero := true } } else s)

/-- CORE_PLL_LOCK (16 Table 16-3): step 1; the tide counts from 0. Log 3. -/
def execCorePllLock (s : State) : Host.Outcome State Fault Refusal :=
  nx (if s.boot.zero && s.boot.step = 0 then { s with boot := { s.boot with step := 1 }, tide := {} } else s)

/-- The start halts (16 R413, R414, R422, Table 16-17). -/
def State.haltStart (s : State) (code : Nat) : State :=
  (({ s with boot := { s.boot with halted := true } } : State).post 0xA4 0 code).irq 13

/-- A read-back failed: the wipe is repeated once, then the start halts with a code. -/
def State.wipeFailed (s : State) (code : Nat) : State :=
  if s.life.wipeFails = 0 then s.modLife fun l => { l with wipeFails := 1 } else s.haltStart code

/-- The FIFOs of the slots are empty. -/
def State.wipeFifos (s : State) : State :=
  s.forEach (s.slots.map (·.1)) fun s i => s.modSlot i fun x => { x with ch := { x.ch with rawTx := [], rawRx := [], rxBuf := [], txq := [] } }

/-- The on-chip memories hold zeros (16 R413): SRAM, session contexts, transaction table, spillway, event queue, the ring's queues, the FIFOs of the
slots and the tray. -/
def State.wipeMemories (s : State) : State :=
  let t := s.wipeFifos
  { t with
    sram := [], flow := { t.flow with sessions := [], txns := [], spill := [] }, dev := { t.dev with evq := [] }
    ring := { t.ring with txQ := [], rxQ := [], waits := [] }, tray := { t.tray with txFifo := [] } }

/-- DIVERGED of each card set as MRAM keeps it (08 R233). -/
def State.loadDiverged (s : State) : State :=
  s.forEach ((s.mram.sets.filter (·.2.diverged)).map (·.1)) fun s k => s.modSet k fun c => { c with diverged := true }

/-- MEMORY_WIPE (16 R413): step 2. Log 3. -/
def execMemoryWipe (ok : Bool) (s : State) : Host.Outcome State Fault Refusal :=
  if s.boot.step ≠ 1 || s.boot.halted then nx s
  else if !ok then nx (s.wipeFailed 1)
  else nx ((({ s.wipeMemories with boot := { s.boot with step := 2 } } : State).modLife fun l => { l with wipeFails := 0 }).loadDiverged)

/-- n bytes drawn for generations: random, or 1 while the generator is FAILED (16 R430). -/
def State.drawGens (s : State) (n : Nat) : List Byte × State := if s.life.rngFailed then (List.replicate n 1#8, s) else s.randBytes n

/-- The generations of a list of contexts. -/
def setGens (t : Table Byte) (l : List (Byte × Nat)) : Table Byte := l.foldl (fun t e => tset 0#8 t e.2 e.1) t

/-- Session generations advance, or are drawn at the first start after a wipe (06 R185). -/
def State.advanceGens (s : State) : State :=
  if s.mram.drawn then
    { s with mram := { s.mram with gens := setGens [] ((List.range 2048).map fun i => (s.gen i + 1, i)) } }
  else
    let r := s.drawGens 2048
    { r.2 with mram := { r.2.mram with gens := setGens [] r.1.zipIdx, drawn := true } }

/-- Each log-in index starts from a drawn generation (15 R403). -/
def State.drawLogins (s : State) : State :=
  let r := s.drawGens 16
  { r.2 with logins := (r.1.zipIdx).foldl (fun t e => tset {} t e.2 { gen := e.1.toNat }) [] }

/-- The life-cycle state is in force: START is posted, and step 4 begins (16 R412, R424, Table 16-17). -/
def State.beginStep4 (s : State) : State :=
  let s1 := s.post 0xA9 0 s.boot.cause [BitVec.ofNat 32 s.lifeState.code]
  ({ s1 with boot := { s1.boot with step := 4 } } : State).advanceGens.drawLogins

/-- LIFECYCLE_RECORD_READ (16 R424): step 3. Log 3. -/
def execLifecycleRecordRead (s : State) : Host.Outcome State Fault Refusal :=
  if s.boot.step ≠ 2 || s.boot.halted then nx s
  else
    let s1 : State := { s with boot := { s.boot with step := 3 } }
    nx (if s.lifeRec.wiping.isNone then s1.beginStep4 else s1)

/-- The MRAM wipe: the secret store and session backing (16 Table 16-9). -/
def State.wipeMram (s : State) : State := { s with mram := { s.mram with secrets := [], gens := [], acks := [], drawn := false } }

/-- Phase 2 of a transition to a state (16 R424, Table 16-8). -/
def State.lifePhase2 (s : State) (t : LifeState) (us : Word) : State :=
  let r := s.lifeRec
  let s1 := s.writeLife { r with state := t, wiping := none, transitions := r.transitions + 1 }
  let s2 := if r.state = .blank then s1.persist 0x1110 3 (padTo 97 r.imageKey) else s1
  s2.modLife fun l => { l with from_ := some r.state, wipeUs := us, wipeFails := 0 }

/-- MRAM_WIPE_DONE (16 R422, R424). Log 3. -/
def execMramWipeDone (ok : Bool) (wipeUs : Word) (s : State) : Host.Outcome State Fault Refusal :=
  match s.lifeRec.wiping with
  | none => nx s
  | some t =>
    if s.boot.step ≠ 3 || s.boot.halted then nx s
    else if !ok then nx (s.wipeMram.wipeFailed 2)
    else nx ((s.wipeMram.lifePhase2 t wipeUs).beginStep4)

/-! The journal scan (07 R211 to R213, 01 R28, 08 R242). -/

/-- The highest SEQ of the journal and its position, 0 and 8,191 where it is empty. -/
def State.lastRecord (s : State) : Nat × Nat := s.records.foldl (fun m e => if m.1 < e.2.seq then (e.2.seq, e.1) else m) (0, 8191)

/-- SEQs of outcome records above the stored ACK of their queue pair, in sequence order (01 R28). -/
def State.unacked (s : State) : List Nat :=
  ((s.records.map (·.2)).filter fun r => r.outcome && tget 0 s.mram.acks r.qp < r.seq).foldl
    (fun acc r => (acc.filter (· < r.seq)) ++ [r.seq] ++ acc.filter (r.seq < ·)) []

/-- JOURNAL_SCAN: step 5. Log 3. -/
def execJournalScan (s : State) : Host.Outcome State Fault Refusal :=
  if s.boot.step < 4 || s.dev.recovery ≠ 0 || s.boot.halted then nx s
  else
    let last := s.lastRecord
    let s1 : State := { s with flow := { s.flow with jNext := last.1 + 1, jPos := last.2, unwritten := s.unacked } }
    let sat := s1.saturated
    let l := s1.orphanList
    let s2 := s1.modDev fun d => { d with jsat := sat, jsatAtStart := sat, orphanFrom := s1.flow.jNext, orphans := l.length }
    let s3 := l.foldl (fun s r => (s.commitRec (orphanOutcome r s.ltide)).orphanSet r) s2
    let s4 := ((s3.tally 0x2800 5 l.length true).tally 0x2800 8).modDev fun d => { d with recList := s3.unacked, recovery := if d.evrEn then 2 else 1 }
    nx { s4 with flow := { s4.flow with unwritten := s3.unacked }, boot := { s4.boot with step := max s4.boot.step 5 } }

/-! The image (16 R414 to R417). -/

/-- Bytes a to a + n - 1 of a list. -/
def slice (l : List Byte) (a n : Nat) : List Byte := padTo n (l.drop a)

/-- The number of n bytes at a. -/
def numAt (l : List Byte) (a n : Nat) : Nat := ofLe (slice l a n)

/-- A declaration (16 Table 16-5). -/
def declOf (l : List Byte) : Decl :=
  { index := numAt l 0 2, sub := numAt l 2 1, typ := numAt l 3 1, maxLen := numAt l 4 2, access := byteAt l 6, flags := byteAt l 7, dflt := slice l 8 8 }

/-- The declarations of an image. -/
def imageDecls (h p : List Byte) : List Decl := (List.range (numAt h 24 4)).map fun i => declOf (slice p (numAt h 20 4 + 16 * i) 16)

/-- A declaration within its ranges, without operator write in the maker's range (16 Tables 16-5, 16-6 check 8). -/
def declOk (d : Decl) : Bool :=
  ((0x3000 ≤ d.index && d.index < 0x3100) || (0x5000 ≤ d.index && d.index < 0x6000)) && d.sub ≠ 0 && 1 ≤ d.typ && d.typ ≤ 9 &&
    1 ≤ d.maxLen && d.maxLen ≤ 1024 && d.access.toNat < 64 && d.flags.toNat < 8 && d.flags.toNat / 2 ≠ 3 &&
    !(0x5000 ≤ d.index && 2 ≤ d.access.toNat % 4)

/-- The reason of 16 Table 16-6 for which an image is rejected, none where it passes every check. -/
def State.imageReason (s : State) (h p : List Byte) (readError : Bool) : Option Nat :=
  let len := numAt h 12 4
  let zero (a n : Nat) : Bool := !nonzero (slice h a n)
  if !(numAt h 0 4 = 0x4C455256 && numAt h 4 1 = 1 && zero 5 3 && zero 28 4 && zero 129 7 && zero 184 72 && zero 352 160) then some 1
  else if numAt h 8 4 < s.lifeRec.minVersion.toNat then some 2
  else if !(4 ≤ len && len ≤ 458752 && len % 4 = 0 && numAt h 16 4 % 4 = 0 && numAt h 16 4 < len && numAt h 24 4 ≤ 1024 &&
      numAt h 20 4 + 16 * numAt h 24 4 ≤ len) then some 3
  else if s.lifeState ≠ .blank && slice h 32 97 ≠ padTo 97 s.lifeRec.imageKey then some 4
  else if !Config.ecdsaVerify (slice h 32 97) (Config.sha384 (slice h 0 256)) (slice h 256 96) then some 5
  else if slice h 136 48 ≠ beBytes (Config.sha384 (slice p 0 len)).toNat 48 then some 6
  else if readError then some 7
  else if !(imageDecls h p).all declOk then some 8
  else none

/-- Core 0 is released at the entry of the accepted image (16 R415 to R417). -/
def State.bootImage (s : State) (h p : List Byte) (place : Nat) : State :=
  let len := numAt h 12 4
  let s1 := s.setSramBytes 0x20000000 (slice p 0 len)
  let s2 : State := { s1 with coreCtl := { s1.coreCtl with entry := tset 0#32 s1.coreCtl.entry 0 (BitVec.ofNat 32 (0x20000000 + numAt h 16 4)) } }
  let s3 := s2.modLife fun l => { l with
    place := place, imgVersion := BitVec.ofNat 32 (numAt h 8 4), digest := slice h 136 48, pubkey := slice h 32 97, booted := true, decls := imageDecls h p }
  let s4 := (s3.writeCoreRun 1#32).post 0xA2 0 place [BitVec.ofNat 32 (numAt h 8 4)]
  { s4 with boot := { s4.boot with step := max s4.boot.step 6 } }

/-- IMAGE_CHECK (16 R414 to R416): place A, then B. An image that fails a check after its digest has been copied (R415). Log 3. -/
def execImageCheck (header payload : List Byte) (readError : Bool) (s : State) : Host.Outcome State Fault Refusal :=
  if s.boot.step < 4 || s.boot.halted || s.life.booted then nx s
  else
    let place := s.life.rejected
    match s.imageReason header payload readError with
    | none => nx (s.bootImage header payload place)
    | some r =>
      let s0 := if r < 7 then s else s.setSramBytes 0x20000000 (slice payload 0 (numAt header 12 4))
      let s1 := ((s0.modLife fun l => { l with rejected := place + 1 }).post 0xA3 0 place [BitVec.ofNat 32 r]).irq 13
      nx (if place = 0 then s1 else s1.haltStart 3)

/-- n entries of the audit backlog are hashed. -/
def State.hashAll (s : State) : Nat → State
  | 0 => s
  | n + 1 => s.auditHashNext.hashAll n

/-- START_ENTRY (16 R425, R435, Table 16-15): the backlog is hashed, then the START entry and any LC_DONE entry are written. Log 3. -/
def execStartEntry (s : State) : Host.Outcome State Fault Refusal :=
  if !s.life.booted || s.serving || !s.coreRuns 0 then nx s
  else
    let s0 := s.hashAll s.auditBacklog
    let s1 : State := { s0 with boot := { s0.boot with step := 7 } }
    let st := s.lifeState
    let s2 := s1.auditAdd .security
      { kind := 1, detail := [BitVec.ofNat 8 s.boot.cause, BitVec.ofNat 8 st.code] ++ leBytes s.life.imgVersion.toNat 4 ++ [BitVec.ofNat 8 s.life.place] }
    match s.life.from_ with
    | none => nx s2
    | some o =>
      let s3 := s2.auditAdd .security { kind := 8, detail := [BitVec.ofNat 8 o.code, BitVec.ofNat 8 st.code] ++ leBytes s.life.wipeUs.toNat 4 }
      nx (((s3.post 0xA0 0 st.code [BitVec.ofNat 32 o.code, BitVec.ofNat 32 s.lifeRec.transitions, s.life.wipeUs]).irq 13).modLife fun l =>
        { l with from_ := none })

/-! The dictionary load (15 R394, R396). -/

/-- The subindices of an index in the order of the load: a ledger port's LP_CFG after its positions, since EN locks them. -/
def loadSubs (idx max : Nat) : List Nat :=
  let l := (List.range max).map (· + 1)
  if 0x2500 ≤ idx && idx < 0x2504 then l.reverse else l

/-- The indices of the dictionary that hold P entries, ascending. -/
def State.loadIndices (s : State) : List Nat :=
  [0x1000, 0x1100, 0x1110, 0x1180, 0x1181, 0x1200, 0x1300] ++ (List.range 64).map (0x2000 + ·) ++ (List.range 8).map (0x2300 + ·) ++
    (List.range 32).map (0x2400 + ·) ++ (List.range 4).map (0x2500 + ·) ++ [0x2600, 0x2700, 0x2900] ++ (s.life.decls.map (·.index)).eraseDups

/-- A card set that was enabled before the start returns to the enabled state, with its kept OUT marks and DIVERGED (08 R242, 15 R394). -/
def State.restoreSet (s : State) (k : Nat) : State :=
  let c := s.cset k
  let m := tget {} s.mram.sets k
  if !c.mapOk then s
  else
    let s1 := s.modSet k fun c =>
      { c with
        enabled := true, forming := true, diverged := m.diverged, shown := 0, cause := m.out
        pos := positions.map fun p => if !c.used p then .unused else if m.out.getD p 0 = 0 then .pending else .out }
    (s1.formReady k).setStateShow k

/-- The record of an entry is valid: MIN_VERSION stands in the life-cycle record. -/
def State.hasRecord (s : State) (idx sub : Nat) : Bool :=
  if idx = 0x1180 then s.lifeCurrent.isSome else (tget {} s.mram.dict (idx * 256 + sub)).current.isSome

/-- One P entry is loaded: FIRMWARE with CODE 1 where it has no valid record and CODE 3 where its copies tie; a mirror goes to its register. -/
def State.loadEntry (s : State) (idx sub : Nat) : State :=
  match s.dictEntry idx sub with
  | none => s
  | some e =>
    if e.pers ≠ 1 then s
    else
      let key := idx + 65536 * sub
      let s1 := if s.hasRecord idx sub then s else s.fwEvent 1 key
      let s2 := if idx ≠ 0x1180 && (tget {} s.mram.dict (idx * 256 + sub)).tied then s1.fwEvent 3 key else s1
      let v := (s.dictVal idx sub).getD e.dflt
      match mirrorOf idx sub with
      | [] => if 0x2400 ≤ idx && idx < 0x2420 && ofLe v = 1 then s2.restoreSet (idx - 0x2400) else s2
      | m => if s.mirrorVal m = ofLe v then s2 else (s2.mirrorWrite m (ofLe v)).2

/-- DICTIONARY_LOAD (15 R394): every P mirror goes to its register. In RETIRED every slot is PARKED (16 Table 16-7). Log 3. -/
def execDictionaryLoad (s : State) : Host.Outcome State Fault Refusal :=
  if !s.serving || s.boot.loaded || !(List.range 4).any s.coreRuns then nx s
  else
    let s1 := s.forEach s.loadIndices fun s idx => s.forEach (loadSubs idx (s.dictMax idx)) fun s sub => s.loadEntry idx sub
    let s2 := if s.lifeState = .retired then s1.forEach (List.range 64) fun s i => (s.cmdPark i false).2 else s1
    let s3 : State := { s2 with boot := { s2.boot with loaded := true } }
    nx (s3.forEach ((List.range 4).filter s3.coreRuns) fun s k => s.loadWdog k)

/-- The C counts are written to MRAM. -/
def State.keepCounts (s : State) : State :=
  ({ s with mram := { s.mram with telemetry := s.telemetry, counts := s.counts } } : State).modLife fun l => { l with countsAt := some s.now }

/-- COUNT_PERSIST (15 R392): at most once per 100 ms. Log 4. -/
def execCountPersist (s : State) : Host.Outcome State Fault Refusal :=
  if s.journalWaits then nx s
  else
    nx ((s.elapseSince s.life.countsAt (100 * ms)).keepCounts.burst)

/-! The debug opening (16 R426). -/

/-- DEBUG_OPENED: the wipe of an opening ends. Log 3. -/
def execDebugOpened (ok : Bool) (wipeUs : Word) (s : State) : Host.Outcome State Fault Refusal :=
  match s.life.opening with
  | none => nx s
  | some jtag =>
    let s1 := s.wipeMram
    if ok then
      nx (((s1.modLife fun l => { l with opening := none, debugOpen := true, wipeUs := wipeUs, wipeFails := 0 }).post 0xA1 0 (b2n jtag) [wipeUs]).irq 13)
    else if s.life.wipeFails = 0 then nx (s1.modLife fun l => { l with wipeFails := 1 })
    else nx (s1.modLife fun l => { l with opening := none, wipeFails := 0 })

/-! The crypto engine (16 R430 to R436). -/

/-- A write of CRY_CTRL with GO and an OP. -/
def State.startCrypto (s : State) (op : Nat) : State := s.writeCry 0 (BitVec.ofNat 32 (0x80000000 + op))

/-- Crypto operation AES-256 CTR (16 Table 16-13). -/
def execAes256Ctr (_ : Fin 4) (s : State) : Host.Outcome State Fault Refusal := nx (s.startCrypto 1)
/-- Crypto operation AES-CMAC. -/
def execAesCmac (_ : Fin 4) (s : State) : Host.Outcome State Fault Refusal := nx (s.startCrypto 2)
/-- Crypto operation SHA-384. -/
def execSha384 (_ : Fin 4) (s : State) : Host.Outcome State Fault Refusal := nx (s.startCrypto 3)
/-- Crypto operation ECDSA_VERIFY. -/
def execEcdsaVerify (_ : Fin 4) (s : State) : Host.Outcome State Fault Refusal := nx (s.startCrypto 4)
/-- Crypto operation KCV. -/
def execKcv (_ : Fin 4) (s : State) : Host.Outcome State Fault Refusal := nx (s.startCrypto 5)

/-- The symmetric lane is free for an operation of the crypto registers: no user above it waits (16 R431). -/
def State.laneFree (s : State) : Bool := s.laneNext.isNone && s.auditBacklog = 0

/-- CRYPTO_DONE (16 R431, R433): the result stands at DST, or ERROR; DONE and line 44. A verification waits for the public-key lane, another
operation for the symmetric lane. Log 3, 141. -/
def execCryptoDone (s : State) : Host.Outcome State Fault Refusal :=
  let c := s.crypto
  if !c.busy || s.life.lane.contains .crypto || (c.op ≠ 4 && !s.laneFree) then nx s
  else
    let s1 := match c.result with | some l => s.setSramBytes c.dst.toNat l | none => s
    nx ((s1.modCry fun d => { d with busy := false, done := true, error := d.error || c.result.isNone, result := none }).line 44)

/-- AUDIT_HASH (16 R431, R435, R436): after the wraps and unwraps that wait, unless its entry has waited 1 ms; LINK is written when no write of higher
priority waits (01 R21). Log 3, 141. -/
def execAuditHash (s : State) : Host.Outcome State Fault Refusal :=
  nx (if s.journalWaits || !s.storeQ.isEmpty || !(s.auditLate || s.laneNext.isNone) then s else s.auditHashNext)

/-- RNG_READ (16 R430). -/
def execRngRead (_ : Fin 4) (s : State) : Host.Outcome State Fault Refusal :=
  let r := s.readCry 0x28
  nx { r.2 with lastRead := r.1 }

/-- RNG_FAIL (16 R430, R440): code 0 repetition, 1 adaptive proportion, 2 start-up. Log 3. -/
def execRngFail (code : Fin 3) (s : State) : Host.Outcome State Fault Refusal :=
  if s.life.rngFailed then nx s
  else nx (((((s.modLife fun l => { l with rngFailed := true }).tally 0x2A00 7).post 0xA7 0 (code.val + 1)).irq 13).line 47)

/-! Idling. -/

/-- What a step does while no command waits: one tt passes, and the service looks at the ring's receive queue. Log 4, 16. -/
def State.idle (s : State) : State := (s.elapse 30).service

end Sys2Proof.Machine
end

