-- ==== Sys2Proof/Machine/Tap.lean ====
section
/-! DEFINITION. The test access port and the loop-back of a host path (17 R444, R447 to R449). -/

namespace Sys2Proof.Machine

/-- The state with the TAP changed by f. -/
def State.modTap (s : State) (f : Tap → Tap) : State := { s with tap := f s.tap }

/-- An instruction is loaded: its code, with a data register of zeros; the pins are free unless the instruction takes them. -/
def State.loadIr (s : State) (ir : Byte) (dr : Word := 0#32) : State := s.modTap fun t => { t with ir := ir, pins := false, dr := dr }

/-- IDCODE as the device shifts it out (17 R447). -/
def idcodeWord : Word := packed [(28, Config.stepping.toNat % 16), (12, 0x6400), (1, 0x2B7), (0, 1)]

/-- TAP_RESET: IDCODE is selected. -/
def execTapReset (s : State) : Host.Outcome State Fault Refusal := nx (s.loadIr 1 idcodeWord)

/-- IDCODE. -/
def execIdcode (s : State) : Host.Outcome State Fault Refusal := nx (s.loadIr 1 idcodeWord)

/-- SAMPLE/PRELOAD: the boundary register is selected. -/
def execSamplePreload (s : State) : Host.Outcome State Fault Refusal := nx (s.loadIr 2)

/-- EXTEST, CLAMP and HIGHZ: with the port open every slot is parked as by PARK with FORCE, and the boundary register may take the pins (17 R448);
with it closed, bypass. -/
def State.takePins (s : State) (ir : Byte) : State :=
  let s1 := s.loadIr ir
  if s.life.debugOpen then (s1.forEach (List.range 64) fun s i => (s.cmdPark i true).2).modTap fun t => { t with pins := true } else s1

/-- The boundary register has the pins: an instruction that takes them is loaded, and every VCC is below 0.4 V (17 R448). -/
def State.boundaryDrives (s : State) : Bool := s.tap.pins && (List.range 64).all fun i => (s.slot i).seq.vcc = .off && !(s.slot i).seq.leaking

/-- EXTEST. -/
def execExtest (s : State) : Host.Outcome State Fault Refusal := nx (s.takePins 3)
/-- CLAMP. -/
def execClamp (s : State) : Host.Outcome State Fault Refusal := nx (s.takePins 4)
/-- HIGHZ. -/
def execHighz (s : State) : Host.Outcome State Fault Refusal := nx (s.takePins 5)

/-- DBG_OPEN (16 R426, R440, 17 Table 17-6): in BLANK with the port closed, a request that raises line 47; firmware that runs accepts it unless a
queue pair is live or the audit record holds privileged changes. -/
def execDbgOpen (s : State) : Host.Outcome State Fault Refusal :=
  let s1 := s.loadIr 0x10
  if s.lifeState ≠ .blank || s.life.debugOpen then nx s1
  else
    let s2 := s1.line 47
    if s.qpsLive || s.auditHeld || s.life.opening.isSome || !s.dictRuns then nx s2
    else nx ((s2.auditAdd .privileged { kind := 9, origin := 4, detail := [1#8] }).beginOpening true)

/-- DEV_RESET (17 Table 17-6): with the port open, a device reset with source JTAG. -/
def execDevReset (s : State) : Host.Outcome State Fault Refusal :=
  let s1 := s.loadIr 0x11
  nx (if s.life.debugOpen then s1.deviceReset 5 s1.boot.sources false false else s1)

/-- CORE_CTRL (17 Table 17-6): with the port open, CORE_STATE is captured and w[3:0] written to CORE_RUN. -/
def execCoreCtrl (w : Byte) (s : State) : Host.Outcome State Fault Refusal :=
  if s.life.debugOpen then nx ((s.loadIr 0x20 (BitVec.ofNat 32 s.coreStateBits)).writeCoreRun ((w &&& 0x0F#8).setWidth 32)) else nx (s.loadIr 0x20)

/-- MEM_ACCESS (17 R449): with the port open, one aligned access in the map of core 0 at firmware level. ERR: it met a Bus condition. -/
def execMemAccess (isWrite : Bool) (addr data : Word) (s : State) : Host.Outcome State Fault Refusal :=
  let s1 := s.loadIr 0x21
  let x := addr.toNat
  if !s.life.debugOpen then nx s1
  else if x % 4 ≠ 0 || !busOk false (if isWrite then .store else .load) x 4 then nx (s1.modTap fun t => { t with err := true })
  else if !isWrite && (s1.badAt x 4).isSome then nx ((s1.eccError ((s1.badAt x 4).getD 0)).modTap fun t => { t with err := true })
  else if isWrite then nx ((s1.store 0 x 4 data.toNat).modTap fun t => { t with err := false })
  else
    let r := s1.load 0 x 4
    nx (r.2.modTap fun t => { t with err := false, dr := BitVec.ofNat 32 r.1 })

/-- BYPASS. -/
def execBypass (s : State) : Host.Outcome State Fault Refusal := nx (s.loadIr 0xFF)

/-- PCIE_LOOPBACK (17 R444): the path's link counts as down for the whole duration of the loop-back that its partner asks for. -/
def execPcieLoopback (p : Path) (s : State) : Host.Outcome State Fault Refusal := nx (s.dropLink p)

end Sys2Proof.Machine
end

