-- ==== Sys2Proof/Machine/Dispatch.lean ====
section
/-! DEFINITION. What each command does: one arm per row of the opcode table, in its order. -/

namespace Sys2Proof.Machine

/-- The effect of a command on everything but the queue. -/
def exec (i : Instr) (s : State) : Host.Outcome State Fault Refusal :=
  match i with
  | .powerFail rail vddaFirst => Sys2Proof.Machine.execPowerFail rail vddaFirst s
  | .powerRelease => Sys2Proof.Machine.execPowerRelease s
  | .pinReset => Sys2Proof.Machine.execPinReset s
  | .sysrstRelease => Sys2Proof.Machine.execSysrstRelease s
  | .softwareReset => Sys2Proof.Machine.execSoftwareReset s
  | .lifecycleReset => Sys2Proof.Machine.execLifecycleReset s
  | .slotLogicRelease => Sys2Proof.Machine.execSlotLogicRelease s
  | .startZero => Sys2Proof.Machine.execStartZero s
  | .corePllLock => Sys2Proof.Machine.execCorePllLock s
  | .memoryWipe ok => Sys2Proof.Machine.execMemoryWipe ok s
  | .lifecycleRecordRead => Sys2Proof.Machine.execLifecycleRecordRead s
  | .mramWipeDone ok wipeUs => Sys2Proof.Machine.execMramWipeDone ok wipeUs s
  | .journalScan => Sys2Proof.Machine.execJournalScan s
  | .recoveryPosting => Sys2Proof.Machine.execRecoveryPosting s
  | .imageCheck header payload readError => Sys2Proof.Machine.execImageCheck header payload readError s
  | .startEntry => Sys2Proof.Machine.execStartEntry s
  | .dictionaryLoad => Sys2Proof.Machine.execDictionaryLoad s
  | .activate ag slot w => Sys2Proof.Machine.execActivate ag slot w s
  | .warmReset ag slot w => Sys2Proof.Machine.execWarmReset ag slot w s
  | .deactivate ag slot w => Sys2Proof.Machine.execDeactivate ag slot w s
  | .park ag slot w => Sys2Proof.Machine.execPark ag slot w s
  | .unpark ag slot w => Sys2Proof.Machine.execUnpark ag slot w s
  | .faultClear ag slot w => Sys2Proof.Machine.execFaultClear ag slot w s
  | .cancelActAt ag slot w => Sys2Proof.Machine.execCancelActAt ag slot w s
  | .cancelDeactAt ag slot w => Sys2Proof.Machine.execCancelDeactAt ag slot w s
  | .actAtHiWrite ag slot v => Sys2Proof.Machine.execActAtHiWrite ag slot v s
  | .deactAtHiWrite ag slot v => Sys2Proof.Machine.execDeactAtHiWrite ag slot v s
  | .actAtDue slot => Sys2Proof.Machine.execActAtDue slot s
  | .deactAtDue slot => Sys2Proof.Machine.execDeactAtDue slot s
  | .presAbsent slot => Sys2Proof.Machine.execPresAbsent slot s
  | .presPresentRead slot => Sys2Proof.Machine.execPresPresentRead slot s
  | .presDebounceDone slot => Sys2Proof.Machine.execPresDebounceDone slot s
  | .vccRampStart slot => Sys2Proof.Machine.execVccRampStart slot s
  | .settleRequest slot => Sys2Proof.Machine.execSettleRequest slot s
  | .settleCheckDone slot => Sys2Proof.Machine.execSettleCheckDone slot s
  | .ioRelease slot => Sys2Proof.Machine.execIoRelease slot s
  | .rstRise slot => Sys2Proof.Machine.execRstRise slot s
  | .atrAbsent slot => Sys2Proof.Machine.execAtrAbsent slot s
  | .atrCharTimeout slot => Sys2Proof.Machine.execAtrCharTimeout slot s
  | .clockStop slot => Sys2Proof.Machine.execClockStop slot s
  | .clockRestartDone slot => Sys2Proof.Machine.execClockRestartDone slot s
  | .deactStep slot => Sys2Proof.Machine.execDeactStep slot s
  | .vccBelow04 slot => Sys2Proof.Machine.execVccBelow04 slot s
  | .reactGapEnd slot => Sys2Proof.Machine.execReactGapEnd slot s
  | .ocTrip slot => Sys2Proof.Machine.execOcTrip slot s
  | .ocFoldback slot => Sys2Proof.Machine.execOcFoldback slot s
  | .undervoltage d => Sys2Proof.Machine.execUndervoltage d s
  | .clkReadback slot => Sys2Proof.Machine.execClkReadback slot s
  | .rstReadback slot => Sys2Proof.Machine.execRstReadback slot s
  | .quenchStep slot => Sys2Proof.Machine.execQuenchStep slot s
  | .dischargeGrant => Sys2Proof.Machine.execDischargeGrant s
  | .dischTimeout slot => Sys2Proof.Machine.execDischTimeout slot s
  | .seepLeak l => Sys2Proof.Machine.execSeepLeak l s
  | .tempSample p celsius => Sys2Proof.Machine.execTempSample p celsius s
  | .railH p => Sys2Proof.Machine.execRailH p s
  | .railL p => Sys2Proof.Machine.execRailL p s
  | .railClear rail p => Sys2Proof.Machine.execRailClear rail p s
  | .charTransmit slot line => Sys2Proof.Machine.execCharTransmit slot line s
  | .charReceive slot e => Sys2Proof.Machine.execCharReceive slot e s
  | .txErrsigCheck slot wave late => Sys2Proof.Machine.execTxErrsigCheck slot wave late s
  | .txRepeat r => Sys2Proof.Machine.execTxRepeat r s
  | .charRawWrite ag slot v => Sys2Proof.Machine.execCharRawWrite ag slot v s
  | .charRawRead ag slot => Sys2Proof.Machine.execCharRawRead ag slot s
  | .timerWrap t => Sys2Proof.Machine.execTimerWrap t s
  | .timerCompare t => Sys2Proof.Machine.execTimerCompare t s
  | .timerCapture t src events => Sys2Proof.Machine.execTimerCapture t src events s
  | .timerMakeup t dt => Sys2Proof.Machine.execTimerMakeup t dt s
  | .start ag t w => Sys2Proof.Machine.execStart ag t w s
  | .stop ag t w => Sys2Proof.Machine.execStop ag t w s
  | .clrCap ag t w => Sys2Proof.Machine.execClrCap ag t w s
  | .capSoft ag t w => Sys2Proof.Machine.execCapSoft ag t w s
  | .timCountWrite ag t v => Sys2Proof.Machine.execTimCountWrite ag t v s
  | .timCountRead ag t dt => Sys2Proof.Machine.execTimCountRead ag t dt s
  | .timReloadWrite ag t v => Sys2Proof.Machine.execTimReloadWrite ag t v s
  | .timCmpWrite ag t v => Sys2Proof.Machine.execTimCmpWrite ag t v s
  | .timCapValRead ag t => Sys2Proof.Machine.execTimCapValRead ag t s
  | .tideNowRead ag => Sys2Proof.Machine.execTideNowRead ag s
  | .tideSetHiWrite ag v => Sys2Proof.Machine.execTideSetHiWrite ag v s
  | .cancelSet ag w => Sys2Proof.Machine.execCancelSet ag w s
  | .tideMarkEdge dt => Sys2Proof.Machine.execTideMarkEdge dt s
  | .tideHoldover => Sys2Proof.Machine.execTideHoldover s
  | .tidePauseEnd => Sys2Proof.Machine.execTidePauseEnd s
  | .talarmHiWrite ag n v => Sys2Proof.Machine.execTalarmHiWrite ag n v s
  | .cancel ag w => Sys2Proof.Machine.execCancel ag w s
  | .talarmDue n => Sys2Proof.Machine.execTalarmDue n s
  | .ppsResponse slot => Sys2Proof.Machine.execPpsResponse slot s
  | .ppsWaitExpired slot => Sys2Proof.Machine.execPpsWaitExpired slot s
  | .slotDispatch slot => Sys2Proof.Machine.execSlotDispatch slot s
  | .intentCommit t => Sys2Proof.Machine.execIntentCommit t s
  | .smWrap t => Sys2Proof.Machine.execSmWrap t s
  | .smUnwrap t => Sys2Proof.Machine.execSmUnwrap t s
  | .procedureByte slot => Sys2Proof.Machine.execProcedureByte slot s
  | .t0TpduEnd slot => Sys2Proof.Machine.execT0TpduEnd slot s
  | .wtExpired slot => Sys2Proof.Machine.execWtExpired slot s
  | .t1BlockReceived slot => Sys2Proof.Machine.execT1BlockReceived slot s
  | .cwtExpired slot => Sys2Proof.Machine.execCwtExpired slot s
  | .bwtExpired slot => Sys2Proof.Machine.execBwtExpired slot s
  | .exchLimit slot => Sys2Proof.Machine.execExchLimit slot s
  | .outcomeCommit t => Sys2Proof.Machine.execOutcomeCommit t s
  | .completionWrite t => Sys2Proof.Machine.execCompletionWrite t s
  | .sqFetch q r => Sys2Proof.Machine.execSqFetch q r s
  | .cmdGather t r => Sys2Proof.Machine.execCmdGather t r s
  | .cardCmd t => Sys2Proof.Machine.execCardCmd t s
  | .openSession t => Sys2Proof.Machine.execOpenSession t s
  | .closeSession t => Sys2Proof.Machine.execCloseSession t s
  | .nop t => Sys2Proof.Machine.execNop t s
  | .ledgerRead t => Sys2Proof.Machine.execLedgerRead t s
  | .ledgerWrite t => Sys2Proof.Machine.execLedgerWrite t s
  | .sqTailDoorbell p q v => Sys2Proof.Machine.execSqTailDoorbell p q v s
  | .cqHeadDoorbell p q v => Sys2Proof.Machine.execCqHeadDoorbell p q v s
  | .qpEnable ag q w => Sys2Proof.Machine.execQpEnable ag q w s
  | .qpDisable ag q w => Sys2Proof.Machine.execQpDisable ag q w s
  | .resume ag q w => Sys2Proof.Machine.execResume ag q w s
  | .resumeAt ag q w => Sys2Proof.Machine.execResumeAt ag q w s
  | .linkDown p perst => Sys2Proof.Machine.execLinkDown p perst s
  | .linkUp p => Sys2Proof.Machine.execLinkUp p s
  | .evrCfgWrite ag v => Sys2Proof.Machine.execEvrCfgWrite ag v s
  | .evrHead ag v => Sys2Proof.Machine.execEvrHead ag v s
  | .eventWrite => Sys2Proof.Machine.execEventWrite s
  | .irqMaskWrite ag v => Sys2Proof.Machine.execIrqMaskWrite ag v s
  | .spillStatusRead ag => Sys2Proof.Machine.execSpillStatusRead ag s
  | .ackPersist q => Sys2Proof.Machine.execAckPersist q s
  | .setEnable ag k w => Sys2Proof.Machine.execSetEnable ag k w s
  | .setDisable ag k w => Sys2Proof.Machine.execSetDisable ag k w s
  | .clearDiverged ag k w => Sys2Proof.Machine.execClearDiverged ag k w s
  | .eject ag k w => Sys2Proof.Machine.execEject ag k w s
  | .setRejoin ag k w => Sys2Proof.Machine.execSetRejoin ag k w s
  | .roundEnd t => Sys2Proof.Machine.execRoundEnd t s
  | .temperWindowEnd slot m => Sys2Proof.Machine.execTemperWindowEnd slot m s
  | .temperApply slot point => Sys2Proof.Machine.execTemperApply slot point s
  | .go ag p w => Sys2Proof.Machine.execGo ag p w s
  | .convSample p code => Sys2Proof.Machine.execConvSample p code s
  | .ledgerPresAbsent p a => Sys2Proof.Machine.execLedgerPresAbsent p a s
  | .ledgerPresDebounced p a => Sys2Proof.Machine.execLedgerPresDebounced p a s
  | .removalCleanup p answers strays => Sys2Proof.Machine.execRemovalCleanup p answers strays s
  | .identification p found ocrReady => Sys2Proof.Machine.execIdentification p found ocrReady s
  | .cardReadyPoll p ready => Sys2Proof.Machine.execCardReadyPoll p ready s
  | .ledgerJobStart p => Sys2Proof.Machine.execLedgerJobStart p s
  | .ledgerResponse p r => Sys2Proof.Machine.execLedgerResponse p r s
  | .ledgerBlock p data crcOk => Sys2Proof.Machine.execLedgerBlock p data crcOk s
  | .crcStatusToken p positive => Sys2Proof.Machine.execCrcStatusToken p positive s
  | .busyEnd p => Sys2Proof.Machine.execBusyEnd p s
  | .ledgerTimeout p => Sys2Proof.Machine.execLedgerTimeout p s
  | .identify ag p w => Sys2Proof.Machine.execIdentify ag p w s
  | .format ag p w a => Sys2Proof.Machine.execFormat ag p w a s
  | .lpUnbind ag p w => Sys2Proof.Machine.execLpUnbind ag p w s
  | .lpCfgWrite ag p v => Sys2Proof.Machine.execLpCfgWrite ag p v s
  | .mirrorSweep p a c => Sys2Proof.Machine.execMirrorSweep p a c s
  | .imageScan p a c dt => Sys2Proof.Machine.execImageScan p a c dt s
  | .add k rd ra rb => Sys2Proof.Machine.execAdd k rd ra rb s
  | .adc k rd ra rb => Sys2Proof.Machine.execAdc k rd ra rb s
  | .sub k rd ra rb => Sys2Proof.Machine.execSub k rd ra rb s
  | .sbc k rd ra rb => Sys2Proof.Machine.execSbc k rd ra rb s
  | .neg k rd ra => Sys2Proof.Machine.execNeg k rd ra s
  | .cmp k ra rb => Sys2Proof.Machine.execCmp k ra rb s
  | .and k rd ra rb => Sys2Proof.Machine.execAnd k rd ra rb s
  | .or k rd ra rb => Sys2Proof.Machine.execOr k rd ra rb s
  | .xor k rd ra rb => Sys2Proof.Machine.execXor k rd ra rb s
  | .andn k rd ra rb => Sys2Proof.Machine.execAndn k rd ra rb s
  | .tst k ra rb => Sys2Proof.Machine.execTst k ra rb s
  | .shl k rd ra rb => Sys2Proof.Machine.execShl k rd ra rb s
  | .shr k rd ra rb => Sys2Proof.Machine.execShr k rd ra rb s
  | .sar k rd ra rb => Sys2Proof.Machine.execSar k rd ra rb s
  | .rol k rd ra rb => Sys2Proof.Machine.execRol k rd ra rb s
  | .ror k rd ra rb => Sys2Proof.Machine.execRor k rd ra rb s
  | .mul k rd ra rb => Sys2Proof.Machine.execMul k rd ra rb s
  | .mulh k rd ra rb => Sys2Proof.Machine.execMulh k rd ra rb s
  | .mulhu k rd ra rb => Sys2Proof.Machine.execMulhu k rd ra rb s
  | .div k rd ra rb => Sys2Proof.Machine.execDiv k rd ra rb s
  | .divu k rd ra rb => Sys2Proof.Machine.execDivu k rd ra rb s
  | .rem k rd ra rb => Sys2Proof.Machine.execRem k rd ra rb s
  | .remu k rd ra rb => Sys2Proof.Machine.execRemu k rd ra rb s
  | .sextB k rd ra => Sys2Proof.Machine.execSextB k rd ra s
  | .sextH k rd ra => Sys2Proof.Machine.execSextH k rd ra s
  | .clz k rd ra => Sys2Proof.Machine.execClz k rd ra s
  | .addi k rd ra imm => Sys2Proof.Machine.execAddi k rd ra imm s
  | .andi k rd ra imm => Sys2Proof.Machine.execAndi k rd ra imm s
  | .ori k rd ra imm => Sys2Proof.Machine.execOri k rd ra imm s
  | .xori k rd ra imm => Sys2Proof.Machine.execXori k rd ra imm s
  | .cmpi k ra imm => Sys2Proof.Machine.execCmpi k ra imm s
  | .tsti k ra imm => Sys2Proof.Machine.execTsti k ra imm s
  | .lui k rd imm => Sys2Proof.Machine.execLui k rd imm s
  | .li k rd imm => Sys2Proof.Machine.execLi k rd imm s
  | .shli k rd ra cnt long => Sys2Proof.Machine.execShli k rd ra cnt long s
  | .shri k rd ra cnt long => Sys2Proof.Machine.execShri k rd ra cnt long s
  | .sari k rd ra cnt long => Sys2Proof.Machine.execSari k rd ra cnt long s
  | .roli k rd ra cnt long => Sys2Proof.Machine.execRoli k rd ra cnt long s
  | .rori k rd ra cnt long => Sys2Proof.Machine.execRori k rd ra cnt long s
  | .muli k rd ra imm => Sys2Proof.Machine.execMuli k rd ra imm s
  | .ldB k rd m => Sys2Proof.Machine.execLdB k rd m s
  | .ldBu k rd m => Sys2Proof.Machine.execLdBu k rd m s
  | .ldH k rd m => Sys2Proof.Machine.execLdH k rd m s
  | .ldHu k rd m => Sys2Proof.Machine.execLdHu k rd m s
  | .ldW k rd m => Sys2Proof.Machine.execLdW k rd m s
  | .stB k rd m => Sys2Proof.Machine.execStB k rd m s
  | .stH k rd m => Sys2Proof.Machine.execStH k rd m s
  | .stW k rd m => Sys2Proof.Machine.execStW k rd m s
  | .swapW k rd m => Sys2Proof.Machine.execSwapW k rd m s
  | .movsB k m => Sys2Proof.Machine.execMovsB k m s
  | .movsW k m => Sys2Proof.Machine.execMovsW k m s
  | .b k cond disp => Sys2Proof.Machine.execB k cond disp s
  | .bl k disp => Sys2Proof.Machine.execBl k disp s
  | .jr k ra => Sys2Proof.Machine.execJr k ra s
  | .jlr k rd ra => Sys2Proof.Machine.execJlr k rd ra s
  | .mfs k rd sr => Sys2Proof.Machine.execMfs k rd sr s
  | .mts k sr ra => Sys2Proof.Machine.execMts k sr ra s
  | .wait k => Sys2Proof.Machine.execWait k s
  | .fence k => Sys2Proof.Machine.execFence k s
  | .eret k => Sys2Proof.Machine.execEret k s
  | .halt k => Sys2Proof.Machine.execHalt k s
  | .fadd k rd ra rb => Sys2Proof.Machine.execFadd k rd ra rb s
  | .fsub k rd ra rb => Sys2Proof.Machine.execFsub k rd ra rb s
  | .fmul k rd ra rb => Sys2Proof.Machine.execFmul k rd ra rb s
  | .fdiv k rd ra rb => Sys2Proof.Machine.execFdiv k rd ra rb s
  | .fsqrt k rd ra => Sys2Proof.Machine.execFsqrt k rd ra s
  | .fmadd k rd ra rb => Sys2Proof.Machine.execFmadd k rd ra rb s
  | .fmin k rd ra rb => Sys2Proof.Machine.execFmin k rd ra rb s
  | .fmax k rd ra rb => Sys2Proof.Machine.execFmax k rd ra rb s
  | .fcmp k ra rb => Sys2Proof.Machine.execFcmp k ra rb s
  | .fcvtSw k rd ra => Sys2Proof.Machine.execFcvtSw k rd ra s
  | .fcvtWs k rd ra => Sys2Proof.Machine.execFcvtWs k rd ra s
  | .fcvtzWs k rd ra => Sys2Proof.Machine.execFcvtzWs k rd ra s
  | .fabs k rd ra => Sys2Proof.Machine.execFabs k rd ra s
  | .fneg k rd ra => Sys2Proof.Machine.execFneg k rd ra s
  | .rep k => Sys2Proof.Machine.execRep k s
  | .repl k => Sys2Proof.Machine.execRepl k s
  | .interruptEntry k => Sys2Proof.Machine.execInterruptEntry k s
  | .coreWake k => Sys2Proof.Machine.execCoreWake k s
  | .watchdogExpiry k => Sys2Proof.Machine.execWatchdogExpiry k s
  | .coreRunWrite ag v => Sys2Proof.Machine.execCoreRunWrite ag v s
  | .ipi ag v => Sys2Proof.Machine.execIpi ag v s
  | .fwEvent k v => Sys2Proof.Machine.execFwEvent k v s
  | .xchgEnd ag slot v => Sys2Proof.Machine.execXchgEnd ag slot v s
  | .xchgCmdDataRead ag slot => Sys2Proof.Machine.execXchgCmdDataRead ag slot s
  | .xchgRespData ag slot v => Sys2Proof.Machine.execXchgRespData ag slot v s
  | .xchgRespLenWrite ag slot v => Sys2Proof.Machine.execXchgRespLenWrite ag slot v s
  | .xchgLimitExpiry slot => Sys2Proof.Machine.execXchgLimitExpiry slot s
  | .rxLock => Sys2Proof.Machine.execRxLock s
  | .rxLockLost => Sys2Proof.Machine.execRxLockLost s
  | .loss => Sys2Proof.Machine.execLoss s
  | .tide f dt frac => Sys2Proof.Machine.execTide f dt frac s
  | .tideLaunch => Sys2Proof.Machine.execTideLaunch s
  | .ringCheck hops => Sys2Proof.Machine.execRingCheck hops s
  | .ringCheckTimer => Sys2Proof.Machine.execRingCheckTimer s
  | .enum f => Sys2Proof.Machine.execEnum f s
  | .measure f => Sys2Proof.Machine.execMeasure f s
  | .measureWindowEnd delay => Sys2Proof.Machine.execMeasureWindowEnd delay s
  | .measReport delay => Sys2Proof.Machine.execMeasReport delay s
  | .dictReq f => Sys2Proof.Machine.execDictReq f s
  | .dictRsp f => Sys2Proof.Machine.execDictRsp f s
  | .dictRetry src => Sys2Proof.Machine.execDictRetry src s
  | .sched f => Sys2Proof.Machine.execSched f s
  | .schedAck f => Sys2Proof.Machine.execSchedAck f s
  | .schedResend => Sys2Proof.Machine.execSchedResend s
  | .schedGo ag w => Sys2Proof.Machine.execSchedGo ag w s
  | .enumerate ag w => Sys2Proof.Machine.execEnumerate ag w s
  | .ringUnbind ag w => Sys2Proof.Machine.execRingUnbind ag w s
  | .leave ag w => Sys2Proof.Machine.execLeave ag w s
  | .ringRejoin ag w => Sys2Proof.Machine.execRingRejoin ag w s
  | .sluiceRxFail => Sys2Proof.Machine.execSluiceRxFail s
  | .sluiceRehold => Sys2Proof.Machine.execSluiceRehold s
  | .ringTxCommit k => Sys2Proof.Machine.execRingTxCommit k s
  | .ringRxPop k => Sys2Proof.Machine.execRingRxPop k s
  | .txBreak ag w => Sys2Proof.Machine.execTxBreak ag w s
  | .flushRx ag w => Sys2Proof.Machine.execFlushRx ag w s
  | .frameGo ag w => Sys2Proof.Machine.execFrameGo ag w s
  | .abort ag w => Sys2Proof.Machine.execAbort ag w s
  | .trayTx ag v => Sys2Proof.Machine.execTrayTx ag v s
  | .trayBaudWrite ag v => Sys2Proof.Machine.execTrayBaudWrite ag v s
  | .rxRdWrite ag v => Sys2Proof.Machine.execRxRdWrite ag v s
  | .trayCharReceived line => Sys2Proof.Machine.execTrayCharReceived line s
  | .rxIdleClose => Sys2Proof.Machine.execRxIdleClose s
  | .frameEnd => Sys2Proof.Machine.execFrameEnd s
  | .trayCycle answers => Sys2Proof.Machine.execTrayCycle answers s
  | .read c => Sys2Proof.Machine.execRead c s
  | .write c => Sys2Proof.Machine.execWrite c s
  | .default c => Sys2Proof.Machine.execDefault c s
  | .challenge c => Sys2Proof.Machine.execChallenge c s
  | .respond c => Sys2Proof.Machine.execRespond c s
  | .logout c => Sys2Proof.Machine.execLogout c s
  | .mbAbort ag c w => Sys2Proof.Machine.execMbAbort ag c w s
  | .challengeExpiry c => Sys2Proof.Machine.execChallengeExpiry c s
  | .lockoutEnd c => Sys2Proof.Machine.execLockoutEnd c s
  | .endLogin c => Sys2Proof.Machine.execEndLogin c s
  | .countPersist => Sys2Proof.Machine.execCountPersist s
  | .transitionRequest c => Sys2Proof.Machine.execTransitionRequest c s
  | .debugOpen c => Sys2Proof.Machine.execDebugOpen c s
  | .keyLoad c => Sys2Proof.Machine.execKeyLoad c s
  | .keyGenerate c => Sys2Proof.Machine.execKeyGenerate c s
  | .keyErase c => Sys2Proof.Machine.execKeyErase c s
  | .exportedUpto c => Sys2Proof.Machine.execExportedUpto c s
  | .clear c => Sys2Proof.Machine.execClear c s
  | .aes256Ctr k => Sys2Proof.Machine.execAes256Ctr k s
  | .aesCmac k => Sys2Proof.Machine.execAesCmac k s
  | .sha384 k => Sys2Proof.Machine.execSha384 k s
  | .ecdsaVerify k => Sys2Proof.Machine.execEcdsaVerify k s
  | .kcv k => Sys2Proof.Machine.execKcv k s
  | .cryptoDone => Sys2Proof.Machine.execCryptoDone s
  | .pubkeyVerifyDone => Sys2Proof.Machine.execPubkeyVerifyDone s
  | .auditHash => Sys2Proof.Machine.execAuditHash s
  | .rngRead k => Sys2Proof.Machine.execRngRead k s
  | .rngFail code => Sys2Proof.Machine.execRngFail code s
  | .loopGo ag b w => Sys2Proof.Machine.execLoopGo ag b w s
  | .loopStop ag b w => Sys2Proof.Machine.execLoopStop ag b w s
  | .loopUnitDone b errors => Sys2Proof.Machine.execLoopUnitDone b errors s
  | .tapReset => Sys2Proof.Machine.execTapReset s
  | .idcode => Sys2Proof.Machine.execIdcode s
  | .samplePreload => Sys2Proof.Machine.execSamplePreload s
  | .extest => Sys2Proof.Machine.execExtest s
  | .clamp => Sys2Proof.Machine.execClamp s
  | .highz => Sys2Proof.Machine.execHighz s
  | .dbgOpen => Sys2Proof.Machine.execDbgOpen s
  | .devReset => Sys2Proof.Machine.execDevReset s
  | .coreCtrl w => Sys2Proof.Machine.execCoreCtrl w s
  | .memAccess isWrite addr data => Sys2Proof.Machine.execMemAccess isWrite addr data s
  | .bypass => Sys2Proof.Machine.execBypass s
  | .pcieLoopback p => Sys2Proof.Machine.execPcieLoopback p s
  | .registerWrite ag addr b => Sys2Proof.Machine.execRegisterWrite ag addr b s
  | .ledgerPresPresentRead p a => Sys2Proof.Machine.execLedgerPresPresentRead p a s
  | .debugOpened ok wipeUs => Sys2Proof.Machine.execDebugOpened ok wipeUs s
  | .mramStoreCommit k => Sys2Proof.Machine.execMramStoreCommit k s
  | .scrubBurst bad => Sys2Proof.Machine.execScrubBurst bad s
  | .polderThermRead ag p => Sys2Proof.Machine.execPolderThermRead ag p s
  | .trayCharTransmit => Sys2Proof.Machine.execTrayCharTransmit s
  | .undefinedOpcode k word => Sys2Proof.Machine.execUndefinedOpcode k word s

end Sys2Proof.Machine
end

