-- ==== Sys2Proof/Safety.lean ====
section
/-! DEFINITION. The terms in which claims about the device are stated: completion of a command, and the canonical form of its tables. -/

namespace Sys2Proof.Machine

/-- The agent's write is taken where it needs the grant g (07 R191). -/
def State.allows (s : State) (ag : Agent) (g : Nat) : Bool := match ag with | .path p => decide (g ≤ s.grant p) | _ => true

/-- The parts of the state, one per field but the queue. -/
inductive Part where
  | now | slots | polders | timers | tide | dev | flow | mram | cores | coreCtl | logins | boot | telemetry | counts | ports | lpos | mail | audit
  | life | crypto | sram | dictView | storeQ | ring | tray | loops | tap | latches | lastRead | out | msix | pba | freeCount
  deriving DecidableEq, Repr

/-- Two states agree on a part. -/
def State.same (s t : State) : Part → Prop
  | .now => t.now = s.now
  | .slots => t.slots = s.slots
  | .polders => t.polders = s.polders
  | .timers => t.timers = s.timers
  | .tide => t.tide = s.tide
  | .dev => t.dev = s.dev
  | .flow => t.flow = s.flow
  | .mram => t.mram = s.mram
  | .cores => t.cores = s.cores
  | .coreCtl => t.coreCtl = s.coreCtl
  | .logins => t.logins = s.logins
  | .boot => t.boot = s.boot
  | .telemetry => t.telemetry = s.telemetry
  | .counts => t.counts = s.counts
  | .ports => t.ports = s.ports
  | .lpos => t.lpos = s.lpos
  | .mail => t.mail = s.mail
  | .audit => t.audit = s.audit
  | .life => t.life = s.life
  | .crypto => t.crypto = s.crypto
  | .sram => t.sram = s.sram
  | .dictView => t.dictView = s.dictView
  | .storeQ => t.storeQ = s.storeQ
  | .ring => t.ring = s.ring
  | .tray => t.tray = s.tray
  | .loops => t.loops = s.loops
  | .tap => t.tap = s.tap
  | .latches => t.latches = s.latches
  | .lastRead => t.lastRead = s.lastRead
  | .out => t.out = s.out
  | .msix => t.msix = s.msix
  | .pba => t.pba = s.pba
  | .freeCount => t.freeCount = s.freeCount

/-- Nothing but the listed parts differs between two states. -/
def Changes (l : List Part) (s t : State) : Prop := t.pending = s.pending ∧ ∀ p, p ∈ l ∨ s.same t p

/-- Every slot but slot i is as it was: state, registers, supply and sequencers, engines, tempering and exchange block. Only the transaction that
holds it may have left it. -/
def OtherSlots (i : Nat) (s t : State) : Prop :=
  ∀ j, j ≠ i → { t.slot j with holder := none, lastBusy := none } = { s.slot j with holder := none, lastBusy := none }

/-- The slot that a command of one slot acts on; none for the other commands, SLOT_DISPATCH among them, which may take up the slots of a card set. -/
def slotOfCommand (c : Instr) : Option (Fin 64) :=
  match c with
  | .activate _ i _ | .warmReset _ i _ | .deactivate _ i _ | .park _ i _ | .unpark _ i _ | .faultClear _ i _ | .cancelActAt _ i _
  | .cancelDeactAt _ i _ | .actAtHiWrite _ i _ | .deactAtHiWrite _ i _ | .actAtDue i | .deactAtDue i | .presAbsent i | .presPresentRead i
  | .presDebounceDone i | .vccRampStart i | .settleRequest i | .settleCheckDone i | .ioRelease i | .rstRise i | .atrAbsent i | .atrCharTimeout i
  | .clockStop i | .clockRestartDone i | .deactStep i | .vccBelow04 i | .reactGapEnd i | .ocTrip i | .ocFoldback i | .undervoltage ⟨i, _⟩
  | .clkReadback i | .rstReadback i | .quenchStep i | .dischTimeout i | .seepLeak ⟨i, _⟩ | .charTransmit i _ | .charReceive i _
  | .txErrsigCheck i _ _ | .txRepeat ⟨i, _⟩ | .charRawWrite _ i _ | .ppsResponse i | .ppsWaitExpired i | .procedureByte i | .t0TpduEnd i | .wtExpired i
  | .t1BlockReceived i | .cwtExpired i | .bwtExpired i | .exchLimit i | .temperWindowEnd i _ | .temperApply i _ | .xchgEnd _ i _
  | .xchgRespData _ i _ | .xchgRespLenWrite _ i _ | .xchgLimitExpiry i => some i
  | _ => none

/-- Transaction n has ended before stage 6 with a status, NOT_SENT, and awaits its completion (01 R15). -/
def State.ended (t : State) (n status : Nat) : Prop :=
  ∃ z o, t.txn n = some z ∧ z.stage = .complete ∧ z.outDone = some o ∧ o.cls = .notSent ∧ o.status = status

/-- The outcome of transaction n is decided, its record is requested, and P holds of it (01 R16, R22). -/
def State.outcomeIs (t : State) (n : Nat) (P : Outcome → Prop) : Prop :=
  n ∈ t.flow.outq ∧ ∃ z o, t.txn n = some z ∧ z.stage = .outcome ∧ z.outDone = some o ∧ P o

/-- The journal holds a record of sequence seq, of which P holds (07 R208, R212). -/
def State.recorded (t : State) (seq : Nat) (P : JRec → Prop) : Prop := ∃ p r, tget none t.mram.journal p = some r ∧ r.seq = seq ∧ P r

/-- An event of a type, source and code is posted from s to t, where the queue has room (07 R225). -/
def Posts (s t : State) (typ source code : Nat) : Prop :=
  s.dev.evq.length < 250 → ∃ e ∈ t.dev.evq.drop s.dev.evq.length, e.typ = typ ∧ e.source = source ∧ e.code = code

/-- t is s after a device reset with a source's code that leaves the sources srcs asserted; vdda: VDDA failed before the others; lost: VCORE is lost
(16 R409, R411, 15 R392, 03 R85, R86). -/
def AfterReset (s t : State) (code : Nat) (srcs : List ResetSource) (vdda lost : Bool) : Prop :=
  (∀ i, (t.slot i).regs = {} ∧ (t.slot i).holder = none ∧ (t.slot i).st = if (s.slot i).powered then .quenching else .empty) ∧
  t.boot = { sources := srcs, slotHeld := true, cause := if s.boot.zero || s.boot.cause = 0 then code else min s.boot.cause code,
             vddaFirst := vdda || (s.boot.slotHeld && s.boot.vddaFirst), sinkGrant := s.boot.sinkGrant } ∧ t.tap = { s.tap with pins := false } ∧
  t.sram = (if lost then [] else s.sram) ∧ t.telemetry = (if lost then s.mram.telemetry else s.telemetry) ∧
  t.counts = (if lost then s.mram.counts else s.counts) ∧ t.dictView = s.mram.dictMem ∧ t.ring = { unlockedAt := s.now } ∧
  (∀ p ∈ [Part.polders, .timers, .tide, .dev, .flow, .cores, .coreCtl, .logins, .ports, .lpos, .mail, .audit, .life, .crypto, .storeQ, .tray, .loops,
    .latches, .msix, .pba], State.reset.same t p) ∧
  (∀ p ∈ [Part.now, .mram, .lastRead, .out, .freeCount], s.same t p) ∧ t.pending = s.pending

/-- No timer whose master is timer i counts, is gated, reset or started, or captures by it (05 R128 to R130). -/
def State.unlinked (s : State) (i : Nat) : Prop :=
  ∀ j ∈ s.slaves i, let y := s.timer j
    y.src ≠ 5 ∧ y.src ≠ 6 ∧ y.gate = 0 ∧ bitOf y.cfg 23 = false ∧ y.capSrc ≠ 7 ∧ y.capSrc ≠ 8

/-- Command c completes in state s, in a state of which P holds. -/
def Does (c : Instr) (s : State) (P : State → Prop) : Prop := ∃ t, exec c s = .next t ∧ P t

/-- The tables of MRAM are in canonical form. -/
def Mram.wf (m : Mram) : Bool :=
  twf none m.journal && twf 0 m.acks && twf 0#8 m.gens && twf {} m.sets && twf {} m.secrets && twf {} m.dict && twf 0#8 m.dictMem &&
    twf 0 m.telemetry && twf 0 m.counts && twf [] m.audit && twf false m.exported

/-- The tables of the queues, transactions, sessions and card sets are in canonical form. -/
def Flow.wf (f : Flow) : Bool := twf {} f.qps && twf none f.txns && twf {} f.sessions && twf {} f.sets

/-- The tables that stand in the state itself, in its MRAM and in its Flow are in canonical form, so that equal contents are equal data. Tables inside an
entry (a core's registers and segments, a mailbox's bytes) are not looked into. -/
def State.wf (s : State) : Bool :=
  s.mram.wf && s.flow.wf && twf 0#32 s.coreCtl.entry && twf 0#3 s.coreCtl.route && twf {} s.slots && twf {} s.polders && twf {} s.timers && twf {} s.cores && twf {} s.logins && twf 0 s.telemetry && twf 0 s.counts &&
    twf {} s.ports && twf {} s.lpos && twf {} s.mail && twf 0#8 s.sram && twf 0#8 s.dictView && twf {} s.loops && twf 0#32 s.latches &&
    twf 0#32 s.msix && twf false s.pba

/-- No queue of the device holds more than the spec gives it: the event queue (07 R225), the ring's frame queues (13 R361). -/
def State.bounded (s : State) : Bool :=
  s.dev.evq.length ≤ 256 && s.ring.txQ.length ≤ 16 && s.ring.rxQ.length ≤ 16

/-! Anvil instructions. -/

/-- Whether an immediate takes the long form (11 R321). -/
def immLong (i : Imm) : Bool := match i with | .short _ => false | .long _ => true

/-- Whether a displacement takes the long form (11 R321). -/
def dispLong (d : Disp) : Bool := match d with | .short _ => false | .long _ => true

/-- Bytes of an instruction. -/
def insBytes (long : Bool) : Word := if long then 8#32 else 4#32

/-- Core k runs, no prefix stands at PC, neither a watchdog trap nor an interrupt is due, and the fetch of the instruction at PC passes its
checks: the conditions under which the instruction is executed once (11 R296, R304, 12 R339). -/
def State.runsAt (s : State) (k : Fin 4) (long : Bool) : Prop :=
  let c := s.core k
  (c.run = .run ∨ c.run = .wdog) ∧ c.rep = none ∧ c.wdogDue s.ltide = false ∧ c.irqDue = false ∧ c.fetchTrap c.pc = none ∧
    (long = true → c.fetchTrap (c.pc + 4#32) = none)

/-- Instruction i completes, leaves core k as c and everything else as it was. -/
def CoreDoes (i : Instr) (s : State) (k : Fin 4) (c : Core) : Prop :=
  Does i s fun t => t.core k = c ∧ (∀ j, j ≠ k.val → t.core j = s.core j) ∧ Changes [.cores] s t

/-- Instruction i writes v to rd, sets N and Z by it, C and V as given (none leaves a flag), advances PC, and changes nothing else (11 Table 11-12). -/
def AluDoes (i : Instr) (s : State) (k : Fin 4) (rd : Fin 32) (long : Bool) (v : Word) (cf vf : Option Bool) : Prop :=
  let c := s.core k
  ∃ p : Word, CoreDoes i s k { c.setG rd v with pc := c.pc + insBytes long, psr := p } ∧ bitOf p 31 = v.getLsbD 31 ∧ bitOf p 30 = decide (v = 0#32) ∧
    bitOf p 29 = cf.getD (bitOf c.psr 29) ∧ bitOf p 28 = vf.getD (bitOf c.psr 28) ∧ p &&& 0x0FFFFFFF#32 = c.psr &&& 0x0FFFFFFF#32

/-- The first fetch at the vector of a trap code passes its checks, so that the trap does not halt the core (12 R340). -/
def State.vectorOk (s : State) (k : Fin 4) (code : Nat) : Prop :=
  let c := s.core k
  ({ (if c.script then c.exchange else c) with psr := c.psr &&& 0xFFFFFFFC#32 } : Core).fetchTrap (c.tvec + BitVec.ofNat 32 (16 * code)) = none

/-- What a trap or interrupt of a code leaves in core k (12 R340): EPC, EPSR, ECAUSE and EADDR, firmware level with IE 0, PC at the vector, seg0 and
seg7 exchanged from script level, no prefix. -/
def Trapped (c d : Core) (code : Nat) (eaddr ex : Word) : Prop :=
  d.epc = c.pc &&& 0xFFFFFFFC#32 ∧ d.epsr = c.psr ∧ d.ecause = ex ||| BitVec.ofNat 32 code ∧ d.eaddr = eaddr ∧ d.psr = c.psr &&& 0xFFFFFFFC#32 ∧
    d.pc = c.tvec + BitVec.ofNat 32 (16 * code) ∧ d.rep = none ∧ d.regs = c.regs ∧ d.cnt = c.cnt ∧ d.fpcsr = c.fpcsr ∧ d.tvec = c.tvec ∧
    (∀ n < 8, d.seg n = if c.script then (if n = 0 then c.seg 7 else if n = 7 then c.seg 0 else c.seg n) else c.seg n) ∧
    d.irqEn = c.irqEn ∧ d.irqPend = c.irqPend ∧ d.scrBind = c.scrBind

/-- Instruction i takes the trap of a code and changes nothing outside core k. -/
def Traps (i : Instr) (s : State) (k : Fin 4) (code : Nat) (eaddr ex : Word) : Prop :=
  s.vectorOk k code → Does i s fun t =>
    Trapped (s.core k) (t.core k) code eaddr ex ∧ (t.core k).run = (s.core k).run ∧ (∀ j, j ≠ k.val → t.core j = s.core j) ∧ Changes [.cores] s t

end Sys2Proof.Machine
end

