-- ==== Sys2Proof/Certificates/Slice0/Obligations.lean ====
section
/-! DEFINITION. The statements about the device, one definition each. A command of the table stands for an event that may come at any time: where the state
gives it nothing to do it changes nothing (log 3), and one whose rule waits for a moment lets time pass up to the earliest moment the rule permits
(log 4). Clauses that say so rest on these choices of the model. Opaque constants of Config (log 6) stand for what the spec leaves to the device. -/

open Sys2Proof Sys2Proof.Machine

/-- Each step takes the command at the front of the queue and answers what that command does in the state with the rest of the queue: the commands
act first in, first out. With no command waiting one tide tick of 30 ck passes, and the dictionary service looks at its receive queue. The queue and its
idling are the model's (spec/opcode_table.json: each row is a step, whole and indivisible; logs 4 and 16). -/
def Obligations.StepRunsTheFrontCommand : Prop :=
  (∀ (c : Instr) (rest : List Instr) (s : State), step { s with pending := c :: rest } = exec c { s with pending := rest }) ∧
  ∀ s : State, s.pending = [] → ∃ t, step s = .next t ∧ s.now + 30 ≤ t.now ∧ t.pending = []

/-- What State.reset holds: reset source POWER asserted with its code 1, the slot logic held in reset, every slot EMPTY, every core HALTED, every queue
pair DISABLED, no log-in, both links down, the tide FREE at 0, the life cycle BLANK, MRAM as made and nothing that left the device. The register
values among these rest on logs 1 and 2. It is canonical and within bounds. -/
def Obligations.ResetState : Prop :=
  let s := State.reset
  s.boot.sources = [.power] ∧ s.boot.cause = 1 ∧ s.boot.slotHeld = true ∧ s.boot.step = 0 ∧ s.boot.loaded = false ∧
    (∀ i, (s.slot i).st = .empty ∧ (s.slot i).powered = false) ∧ (∀ k, (s.core k).run = .halted) ∧ (∀ q, (s.qp q).st = .disabled) ∧
    (∀ h, s.loginRole h = none) ∧ s.linkUp .a = false ∧ s.linkUp .b = false ∧ s.ltide = 0#64 ∧ s.lifeState = .blank ∧
    s.mram.journal = [] ∧ s.mram.audit = [] ∧ s.out = [] ∧ s.pending = [] ∧ s.wf = true ∧ s.bounded = true

/-- Every step keeps two invariants: the sparse tables that stand in the state itself, in its MRAM and in its queues and transactions stay in canonical form
(keys strictly rising, no entry equal to what an unlisted key reads as; tables inside an entry, such as a core's registers, are not spoken of), and the general event queue stays within its 256 entries and the ring's frame queues within their 16. -/
def Obligations.StepsKeepInvariants : Prop :=
  ∀ s t : State, step s = .next t → (s.wf = true → t.wf = true) ∧ (s.bounded = true → t.bounded = true)

/-- No command is refused and none stops the device, and every step keeps what has happened: time does not run back, what has left the device is neither
changed nor taken back, and of the commands that wait exactly the first is gone. -/
def Obligations.StepsCompleteAndKeepHistory : Prop :=
  ∀ s : State, ∃ t, step s = .next t ∧ s.now ≤ t.now ∧ s.out <+: t.out ∧ t.pending = s.pending.tail

/-- POWER_FAIL, PIN_RESET, SOFTWARE_RESET, LIFECYCLE_RESET and DEV_RESET are device resets: every powered slot is quenched, every other is EMPTY, every
register returns to its reset value, every log-in ends, and MRAM stays. A reset with VCORE lost also loses the SRAM and the counts not yet written.
A failing VDDA ahead of the others pulls every contact low at once. The kept cause is the first code of the start, or the lowest of several. -/
def Obligations.DeviceResets : Prop :=
  ∀ s : State, s.wf = true →
    (∀ rail vdda, Does (.powerFail rail vdda) s fun t =>
      AfterReset s t 1 (.power :: s.boot.sources.filter (· ≠ .power)) vdda (rail = .vcore) ∧
      (vdda = true → ∀ i, (s.slot i).powered = true →
        (t.slot i).seq.rst = false ∧ (t.slot i).seq.clkRun = false ∧ (t.slot i).seq.ioUp = false ∧ (t.slot i).seq.sinkOn = some s.now)) ∧
    Does .pinReset s (fun t => AfterReset s t 2 (.pin :: s.boot.sources.filter (· ≠ .pin)) false false) ∧
    (s.life.resetDue = some 3 → Does .softwareReset s fun t => AfterReset s t 3 s.boot.sources false false) ∧
    (s.life.resetDue = some 4 → Does .lifecycleReset s fun t => AfterReset s t 4 s.boot.sources false false) ∧
    (s.life.debugOpen = true → Does .devReset s fun t =>
      AfterReset { s with tap := { s.tap with ir := 0x11, dr := 0#32 } } t 5 s.boot.sources false false)

/-- The releases that follow a reset, each with the frame of all else: POWER_RELEASE and SYSRST_RELEASE end a source, SLOT_LOGIC_RELEASE lets the slots go
once every source is released and no slot quenches, START_ZERO begins the start, and CORE_PLL_LOCK reaches step 1 with the tide at 0. -/
def Obligations.ResetReleases : Prop :=
  ∀ s : State, s.wf = true →
    (s.boot.sources.contains .power = true → Does .powerRelease s fun t =>
      t.now = s.now + 480000 ∧ t.boot = { s.boot with sources := s.boot.sources.filter (· ≠ .power) } ∧ Changes [.now, .timers, .tide, .cores, .boot] s t) ∧
    exec .sysrstRelease s = .next { s with boot := { s.boot with sources := s.boot.sources.filter (· ≠ .pin) } } ∧
    (s.boot.slotHeld = true → s.boot.sources = [] → (∀ e ∈ s.slots, e.2.st ≠ .quenching) →
      Does .slotLogicRelease s fun t => t.boot = { s.boot with slotHeld := false, vddaFirst := false } ∧
        (∀ i, t.slot i = if (s.slot i).powered then s.slot i else { seq := { gapFrom := (s.slot i).seq.gapFrom, leaking := (s.slot i).seq.leaking } }) ∧
        Changes [.slots, .boot] s t) ∧
    (s.boot.sources = [] → s.boot.zero = false → exec .startZero s = .next { s with boot := { s.boot with zero := true } }) ∧
    (s.boot.zero = true → s.boot.step = 0 → exec .corePllLock s = .next { s with boot := { s.boot with step := 1 }, tide := {} })

/-- The start up to the posting of recovery completions (steps 2 to 5). MEMORY_WIPE zeroes the on-chip memories; LIFECYCLE_RECORD_READ goes on to step 4
where no wipe is due and every session generation advances by 1, else awaits the wipe; MRAM_WIPE_DONE commits the transition that was wiping, with an empty
secret store; a wipe whose read-back fails is repeated once, then the start halts with its code. JOURNAL_SCAN puts the next sequence number above every record and gives
every orphan intent an outcome; RECOVERY_POSTING posts the oldest outstanding outcome, and where none is left turns RECOVERY to DONE. A halted start goes
no further. -/
def Obligations.StartReadsMemory : Prop :=
  ∀ s : State, s.wf = true →
    let fails (c : Instr) (code : Nat) : Prop :=
      (s.life.wipeFails = 0 → Does c s fun t => t.life = { s.life with wipeFails := 1 } ∧ t.boot = s.boot ∧ t.lifeRec = s.lifeRec) ∧
      (s.life.wipeFails ≠ 0 → Does c s fun t => t.boot = { s.boot with halted := true } ∧ t.lifeRec = s.lifeRec ∧ Posts s t 0xA4 0 code)
    (s.boot.halted = false → s.boot.step = 1 →
      Does (.memoryWipe true) s (fun t =>
        t.sram = [] ∧ (∀ j, t.session j = {}) ∧ (∀ n, t.txn n = none) ∧ t.flow.spill = [] ∧ t.dev = { s.dev with evq := [] } ∧ t.ring.txQ = [] ∧
        t.ring.rxQ = [] ∧ t.tray.txFifo = [] ∧ t.boot = { s.boot with step := 2 } ∧ t.life = { s.life with wipeFails := 0 } ∧
        (∀ i, (t.slot i).ch.rxBuf = [] ∧ (t.slot i).ch.txq = [] ∧ (t.slot i).ch.rawRx = [] ∧ (t.slot i).ch.rawTx = [] ∧ (t.slot i).st = (s.slot i).st) ∧
        (∀ k, (t.cset k).diverged = ((s.cset k).diverged || (tget {} s.mram.sets k).diverged)) ∧ Changes [.slots, .dev, .flow, .boot, .counts, .life, .sram, .ring, .tray, .out, .pba] s t) ∧
      fails (.memoryWipe false) 1) ∧
    (s.boot.halted = false → s.boot.step = 2 →
      (s.lifeRec.wiping = none → Does .lifecycleRecordRead s fun t =>
        t.boot = { s.boot with step := 4 } ∧ t.lifeState = s.lifeState ∧ Posts s t 0xA9 0 s.boot.cause ∧
        (s.mram.drawn = true → ∀ j < 2048, t.gen j = s.gen j + 1) ∧ t.mram.drawn = true ∧ (∀ h, t.loginRole h = none) ∧ Changes [.dev, .mram, .logins, .boot, .counts, .out, .pba, .freeCount] s t) ∧
      (s.lifeRec.wiping ≠ none → exec .lifecycleRecordRead s = .next { s with boot := { s.boot with step := 3 } })) ∧
    (∀ dst us, s.boot.halted = false → s.boot.step = 3 → s.lifeRec.wiping = some dst →
      Does (.mramWipeDone true us) s (fun t =>
        t.boot = { s.boot with step := 4 } ∧ t.lifeState = dst ∧ t.lifeRec.wiping = none ∧ t.lifeRec.transitions = s.lifeRec.transitions + 1 ∧
        t.mram.secrets = [] ∧ t.life.from_ = some s.lifeState ∧ t.life.wipeUs = us ∧ t.life.wipeFails = 0 ∧ Posts s t 0xA9 0 s.boot.cause ∧
        Changes [.dev, .mram, .logins, .boot, .counts, .life, .out, .pba, .freeCount] s t) ∧
      fails (.mramWipeDone false us) 2) ∧
    (s.boot.halted = false → 4 ≤ s.boot.step → s.dev.recovery = 0 → Does .journalScan s fun t =>
      t.dev.recovery = (if s.dev.evrEn then 2 else 1) ∧ t.boot = { s.boot with step := max s.boot.step 5 } ∧ s.lastRecord.1 + s.orphanList.length < t.flow.jNext ∧
      t.dev.orphans = s.orphanList.length ∧ t.dev.orphanFrom = s.lastRecord.1 + 1 ∧ Changes [.dev, .flow, .mram, .boot, .counts, .lpos, .out, .pba] s t) ∧
    (s.dev.recovery = 2 → s.evrReady = true → s.toPost = [] → Does .recoveryPosting s fun t =>
      t.dev.recovery = 3 ∧ (∃ w l, t.out = s.out ++ .write s.evrPath (s.dev.evrBase + BitVec.ofNat 64 (64 * s.dev.evrTail)) w :: l ∧ fld (w.getD 0 0#32) 7 0 = 2) ∧ Changes [.dev, .flow, .counts, .out, .pba] s t) ∧
    (∀ r rest, s.dev.recovery = 2 → s.evrReady = true → s.toPost = r :: rest → Does .recoveryPosting s fun t =>
      t.dev.recovery = 2 ∧ r.seq ∉ t.dev.recList ∧ r.seq ∉ t.flow.unwritten ∧ t.dev.recPosted = s.dev.recPosted + 1 ∧
      (∃ l, t.out = s.out ++ .write s.evrPath (s.dev.evrBase + BitVec.ofNat 64 (64 * s.dev.evrTail))
        (recoveryWords r (decide (r.seq < s.dev.orphanFrom))) :: l) ∧ Changes [.dev, .flow, .counts, .out, .pba] s t) ∧
    (s.boot.halted = true → ∀ c ∈ [Instr.memoryWipe true, .lifecycleRecordRead, .mramWipeDone true 0#32, .journalScan], exec c s = .next s)

/-- The start from the image on: IMAGE_CHECK of an image that passes every check releases core 0 at its entry; START_ENTRY brings the device to step 7
once the image runs; DICTIONARY_LOAD ends with the device accepting work; COUNT_PERSIST writes the counts to MRAM, at most once in 100 ms;
DEBUG_OPENED opens the debug port once the wipe of its opening is done. -/
def Obligations.StartRunsFirmware : Prop :=
  ∀ s : State,
    (∀ h p, 4 ≤ s.boot.step → s.boot.halted = false → s.life.booted = false → s.imageReason h p false = none → Does (.imageCheck h p false) s fun t =>
      (t.core 0).run = .run ∧ t.life.booted = true ∧ t.life.place = s.life.rejected ∧ t.boot.step = max s.boot.step 6) ∧
    (s.life.booted = true → s.serving = false → s.coreRuns 0 = true → Does .startEntry s fun t => t.boot.step = 7 ∧ t.life.from_ = none) ∧
    (s.serving = true → s.boot.loaded = false → s.coreRuns 0 = true → Does .dictionaryLoad s fun t => t.boot.loaded = true) ∧
    (∀ t0, s.journalWaits = false → s.life.countsAt = some t0 → Does .countPersist s fun t =>
      t.mram = { s.mram with telemetry := s.telemetry, counts := s.counts } ∧ t0 + 48000000 ≤ t.now ∧ t.life.countsAt = some t.now ∧
      Changes [.now, .timers, .tide, .flow, .mram, .cores, .telemetry, .counts, .life] s t) ∧
    (∀ jtag us, s.life.opening = some jtag → Does (.debugOpened true us) s fun t =>
      t.life.debugOpen = true ∧ t.life.opening = none ∧ t.life.wipeUs = us ∧ t.mram.secrets = [] ∧
      Changes [.dev, .mram, .counts, .life, .out, .pba] s t)

/-- Slot commands that act in a slot whose card runs no exchange (02 R39, R42, R45, R59, Tables 2-2, 2-3, 2-10), each with CMD_ERR NONE or the refusal
that Table 2-3 gives and nothing else changed: ACTIVATE in PRESENT asks for a ramp of the first class of the trial order, DEACTIVATE in PRESENT drops it,
PARK parks, UNPARK and FAULT_CLEAR go where the presence switch says. -/
def Obligations.SlotCommandsAtRest : Prop :=
  ∀ (s : State) (ag : Agent) (i : Fin 64) (w : Word), s.wf = true → s.allows ag 1 = true → slotCmds w = 0 → bitOf w 7 = false → bitOf w 8 = false →
    let x := s.slot i
    let answer (e : CmdErr) (f : Slot → Slot) : Host.Outcome State Fault Refusal :=
      .next (s.modSlot i fun x => { f x with regs := { (f x).regs with cmdErr := e } })
    (x.st = .present → x.seq.phase ≠ .wait → ∀ c l, trialOrder x.regs.cfg = c :: l →
      exec (.activate ag i w) s = answer .none fun x => { x with
        regs := { x.regs with actAtArmed := none }
        seq := { x.seq with phase := .wait, tryCls := c, retries := 0, negResetUsed := false, warmed := false, askedAt := s.ltide.toNat } }) ∧
    (x.st = .present → x.seq.phase = .wait → trialOrder x.regs.cfg ≠ [] →
      exec (.activate ag i w) s = answer .none fun x => { x with regs := { x.regs with actAtArmed := none } }) ∧
    (x.st = .present → trialOrder x.regs.cfg = [] → exec (.activate ag i w) s = answer .value id) ∧
    (x.st ∈ [SlotState.empty, .quenching, .fault, .parked] → exec (.activate ag i w) s = answer (if trialOrder x.regs.cfg = [] then .value else .state) id) ∧
    (x.st ∉ [SlotState.present, .empty, .quenching, .fault, .parked] → exec (.activate ag i w) s = answer .none id) ∧
    (x.st ∉ [SlotState.ready, .clockstop, .busy] → exec (.warmReset ag i w) s = answer .state id) ∧
    (x.st = .present → exec (.deactivate ag i w) s = answer .none fun x => { x with seq := { x.seq with phase := .none } }) ∧
    (x.st = .quenching → exec (.deactivate ag i w) s = answer .state id) ∧
    (x.st ∈ [SlotState.empty, .fault, .parked] → exec (.deactivate ag i w) s = answer .none id) ∧
    (x.st ∈ [SlotState.empty, .present, .fault] →
      exec (.park ag i w) s = answer .none fun x => { x with st := .parked, seq := { x.seq with phase := .none } }) ∧
    (x.st = .quenching → exec (.park ag i w) s = answer .none fun x => { x with seq := { x.seq with deactPend := true, parkPend := true } }) ∧
    (x.st = .parked → exec (.park ag i w) s = answer .none id) ∧
    (x.st = .parked → s.slotLoop i = false →
      exec (.unpark ag i w) s = answer .none fun x => { x with st := if x.seq.pres then .present else .empty }) ∧
    (x.st ≠ .parked → exec (.unpark ag i w) s = answer .none id) ∧
    (x.st = .fault → exec (.faultClear ag i w) s = answer .none fun x => { x with st := if x.seq.pres then .present else .empty }) ∧
    (x.st ≠ .fault → exec (.faultClear ag i w) s = answer .none id)

/-- Slot commands on a slot in service or in activation (02 R40, R54, R59): while a transaction holds the slot WARM_RESET, DEACTIVATE and PARK wait for its
end; otherwise, or with FORCE, DEACTIVATE and PARK begin the deactivation at once with RST low, and WARM_RESET drives RST low with VCC on and the slot in
ACTIVATING. Every other slot is as it was, but for the transaction that holds it. -/
def Obligations.SlotCommandsInService : Prop :=
  ∀ (s : State) (ag : Agent) (i : Fin 64) (w : Word), s.wf = true → s.allows ag 1 = true → slotCmds w = 0 → bitOf w 7 = false → bitOf w 8 = false →
    let x := s.slot i
    let pend (f : SlotSeq → SlotSeq) : Host.Outcome State Fault Refusal :=
      .next (s.modSlot i fun x => { x with regs := { x.regs with cmdErr := .none }, seq := f x.seq })
    let down (dst : SlotState) (t : State) : Prop :=
      let y := t.slot i
      y.st = dst ∧ y.regs.cmdErr = .none ∧ y.seq.phase = .none ∧ y.seq.restartAt = none ∧ y.seq.vcc = x.seq.vcc ∧ y.pr.mode = .idle ∧ y.ch.txq = [] ∧
        (x.seq.vcc ≠ .off → x.seq.deactT0 = none → y.seq.rst = false ∧ y.seq.steps = 1 ∧ y.seq.deactT0 = some s.now ∧ y.seq.discharging = true) ∧
        (x.st ≠ .busy → y.regs.actResult = if x.inActivation then 6 else x.regs.actResult) ∧ OtherSlots i s t ∧ Changes [.slots, .timers, .dev, .flow, .mram, .cores, .telemetry, .counts, .lpos, .audit, .crypto, .loops, .out, .pba] s t
    (x.st = .busy → exec (.warmReset ag i w) s = pend fun q => { q with warmPend := true }) ∧
    (x.st ∈ [SlotState.ready, .clockstop] → x.holder.isSome = true → exec (.warmReset ag i w) s = pend fun q => { q with warmPend := true }) ∧
    (x.st = .busy → bitOf w 3 = false →
      exec (.deactivate ag i w) s = pend (fun q => { q with deactPend := true }) ∧
      exec (.park ag i w) s = pend (fun q => { q with deactPend := true, parkPend := true })) ∧
    (x.st ∈ [SlotState.activating, .atr, .negotiating, .ready, .clockstop] ∨ (x.st = .busy ∧ bitOf w 3 = true) →
      Does (.deactivate ag i w) s (down .present) ∧ Does (.park ag i w) s (down .parked)) ∧
    (x.st = .ready → x.holder = none → Does (.warmReset ag i w) s fun t =>
      let y := t.slot i
      y.st = .activating ∧ y.regs.cmdErr = .none ∧ y.seq.rst = false ∧ y.seq.phase = .warm ((x.stageDiv s.now x.actDiv).nextFall s.now) ∧ (x.seq.clkRun = true → x.actDiv = x.divNow s.now ∨ y.seq.divNext = some x.actDiv) ∧ y.seq.warmed = true ∧
        y.seq.vcc = x.seq.vcc ∧ y.seq.clkRun = x.seq.clkRun ∧ y.seq.retries = 0 ∧ y.pr.mode = .idle ∧ y.ch.convSet = false ∧
        OtherSlots i s t ∧ Changes [.slots, .timers, .dev, .flow, .mram, .cores, .telemetry, .counts, .lpos, .audit, .crypto, .loops, .out, .pba] s t) ∧
    (x.st = .clockstop → x.holder = none → Does (.warmReset ag i w) s fun t =>
      let q := (t.slot i).seq
      q.retries = 0 ∧ q.warmPend = false ∧ q.restartAt = some (x.seq.restartAt.getD s.now) ∧ q.warmAfterRestart = true ∧ (t.slot i).st = .clockstop ∧
        (x.seq.restartAt = none → q.clkRun = true) ∧ (t.slot i).regs = { x.regs with cmdErr := .none } ∧ OtherSlots i s t ∧ Changes [.slots] s t)

/-- SLOT_CTRL as a whole (02 R39, R47, R62, Table 2-10; 07 R191): a word with more than one command is rejected with MULTIPLE and does nothing else; the
cancel bits act before the command; without the operator's grant nothing but WDENY and its count change. -/
def Obligations.SlotControlWord : Prop :=
  ∀ (s : State) (ag : Agent) (i : Fin 64) (w : Word), s.wf = true →
    (s.allows ag 1 = true →
      (∀ e : Instr × Word, e ∈ [(.activate ag i w, 1#32), (.warmReset ag i w, 2#32), (.deactivate ag i w, 4#32), (.park ag i w, 16#32), (.unpark ag i w, 32#32),
          (.faultClear ag i w, 64#32), (.cancelActAt ag i w, 128#32), (.cancelDeactAt ag i w, 256#32)] →
        1 < slotCmds (w ||| e.2) → exec e.1 s = .next (s.modSlot i fun x => { x with regs := { x.regs with cmdErr := .multiple } })) ∧
      (slotCmds w = 0 →
        exec (.cancelActAt ag i w) s = .next (s.modSlot i fun x => { x with regs := { x.regs with
          cmdErr := .none, actAtArmed := none, deactAtArmed := if bitOf w 8 then none else x.regs.deactAtArmed } }) ∧
        exec (.cancelDeactAt ag i w) s = .next (s.modSlot i fun x => { x with regs := { x.regs with
          cmdErr := .none, deactAtArmed := none, actAtArmed := if bitOf w 7 then none else x.regs.actAtArmed } })) ∧
      (slotCmds w = 0 → bitOf w 7 = true → bitOf w 8 = true →
        let s1 := s.modSlot i fun x => { x with regs := { x.regs with actAtArmed := none, deactAtArmed := none } }
        let v := w &&& 0xFFFFFE7F#32
        exec (.activate ag i w) s = exec (.activate ag i v) s1 ∧ exec (.warmReset ag i w) s = exec (.warmReset ag i v) s1 ∧
        exec (.deactivate ag i w) s = exec (.deactivate ag i v) s1 ∧ exec (.park ag i w) s = exec (.park ag i v) s1 ∧
        exec (.unpark ag i w) s = exec (.unpark ag i v) s1 ∧ exec (.faultClear ag i w) s = exec (.faultClear ag i v) s1)) ∧
    (∀ p, ag = .path p → s.grant p = 0 →
      ∀ c ∈ [Instr.activate ag i w, .warmReset ag i w, .deactivate ag i w, .park ag i w, .unpark ag i w, .faultClear ag i w, .cancelActAt ag i w,
          .cancelDeactAt ag i w, .actAtHiWrite ag i w, .deactAtHiWrite ag i w],
        Does c s fun t => (if p = .a then t.dev.wdenyA else t.dev.wdenyB) = true ∧ Changes [.dev, .counts] s t)

/-- Slot schedules (02 R47, R62; 05 R145): the write of the high half arms ACT_AT or DEACT_AT with the 64-bit value; when its tide has come, and no alarm,
DEACT_AT or lower slot falls due by then, the schedule disarms and acts as ACTIVATE or DEACTIVATE would. -/
def Obligations.SlotSchedules : Prop :=
  ∀ (s : State) (ag : Agent) (i : Fin 64) (v : Word), s.wf = true →
    let x := s.slot i
    (s.allows ag 1 = true →
      exec (.actAtHiWrite ag i v) s = .next (s.modSlot i fun x => { x with regs := { x.regs with
        cmdErr := .none, actAt := cat64 v (lo32 x.regs.actAt), actAtArmed := some (cat64 v (lo32 x.regs.actAt)) } }) ∧
      exec (.deactAtHiWrite ag i v) s = .next (s.modSlot i fun x => { x with regs := { x.regs with
        cmdErr := .none, deactAt := cat64 v (lo32 x.regs.deactAt), deactAtArmed := some (cat64 v (lo32 x.regs.deactAt)) } })) ∧
    (∀ a, x.regs.actAtArmed = some a → a ≤ s.ltide → s.alarmBy s.ltide 8 = false → s.deactBy s.ltide 64 = false → s.actBy s.ltide i = false →
      (x.st = .present → x.seq.phase ≠ .wait → ∀ c l, trialOrder x.regs.cfg = c :: l →
        exec (.actAtDue i) s = .next (s.modSlot i fun x => { x with
          regs := { x.regs with actAtArmed := none }
          seq := { x.seq with phase := .wait, tryCls := c, retries := 0, negResetUsed := false, warmed := false, askedAt := s.ltide.toNat } })) ∧
      (x.st ∈ [SlotState.empty, .quenching, .fault, .parked] →
        exec (.actAtDue i) s = .next (s.modSlot i fun x => { x with regs := { x.regs with actAtArmed := none, cmdErr := if trialOrder x.regs.cfg = [] then .value else .state } }))) ∧
    (∀ a, x.regs.deactAtArmed = some a → a ≤ s.ltide → s.alarmBy s.ltide 8 = false → s.deactBy s.ltide i = false →
      (x.st ∈ [SlotState.activating, .atr, .negotiating, .ready, .clockstop] ∨ (x.st = .busy ∧ bitOf x.regs.cfg 17 = true) → Does (.deactAtDue i) s fun t =>
        (t.slot i).st = .present ∧ (t.slot i).regs.deactAtArmed = none ∧ (t.slot i).regs.cmdErr = x.regs.cmdErr ∧
        (x.seq.vcc ≠ .off → x.seq.deactT0 = none → (t.slot i).seq.rst = false ∧ (t.slot i).seq.deactT0 = some s.now) ∧ OtherSlots i s t ∧ Changes [.now, .slots, .timers, .tide, .dev, .flow, .mram, .cores, .telemetry, .counts, .lpos, .audit, .crypto, .out, .pba] s t) ∧
      (x.st = .busy → bitOf x.regs.cfg 17 = false →
        exec (.deactAtDue i) s = .next (s.modSlot i fun x => { x with
          regs := { x.regs with deactAtArmed := none }, seq := { x.seq with deactPend := true } })))

/-- Presence (03 R75, R76, R88; 02 Table 2-2): an open switch takes PRESENT to EMPTY at once and quenches a powered slot with CARD_REMOVED; a closed one
starts the debounce of PRES_DEBOUNCE ms, at whose end the slot is PRESENT, and waits for a ramp where AUTO_ACTIVATE is 1. The reactivation gap of 10 ms
after VCC fell below 0.4 V ends in REACT_GAP_END (02 R60). -/
def Obligations.Presence : Prop :=
  ∀ (s : State) (i : Fin 64),
    let x := s.slot i
    (s.boot.slotHeld = false → x.seq.pres = true → x.powered = false → x.st = .present → Does (.presAbsent i) s fun t =>
      (t.slot i).st = .empty ∧ (t.slot i).seq.pres = false ∧ (t.slot i).seq.phase = .none ∧ (t.slot i).seq.debounce = none ∧ OtherSlots i s t ∧
      Changes [.slots, .timers, .dev, .flow, .mram, .cores, .telemetry, .counts, .lpos, .audit, .crypto, .loops, .out, .pba] s t) ∧
    (s.boot.slotHeld = false → x.powered = true → x.st ≠ .quenching → Does (.presAbsent i) s fun t =>
      (t.slot i).st = .quenching ∧ (t.slot i).regs.primary = 1 ∧ (t.slot i).regs.also = 1#11 ∧ (t.slot i).seq.quenchT0 = some s.now ∧
      (t.slot i).seq.pres = false ∧ OtherSlots i s t ∧ Changes [.slots, .timers, .dev, .flow, .mram, .cores, .telemetry, .counts, .lpos, .audit, .crypto, .loops, .out, .pba] s t) ∧
    (s.boot.slotHeld = false → x.seq.pres = false → x.seq.debounce = none →
      exec (.presPresentRead i) s = .next (s.modSlot i fun x => { x with seq := { x.seq with debounce := some (s.now + fld x.regs.supervise 15 8 * 480000) } })) ∧
    (∀ d, x.seq.debounce = some d → x.st = .empty → Does (.presDebounceDone i) s fun t =>
      d ≤ t.now ∧ (t.slot i).st = .present ∧ (t.slot i).seq.pres = true ∧ (t.slot i).seq.debounce = none ∧ (t.slot i).regs = x.regs ∧
      (bitOf x.regs.cfg 9 = true → trialOrder x.regs.cfg ≠ [] → (t.slot i).seq.phase = .wait) ∧
      (bitOf x.regs.cfg 9 = false → (t.slot i).seq.phase = x.seq.phase) ∧ OtherSlots i s t ∧ Changes [.now, .slots, .timers, .tide, .dev, .flow, .mram, .cores, .counts, .lpos, .audit, .loops, .out, .pba] s t) ∧
    (∀ g, x.seq.gapFrom = some g → x.seq.leaking = false → Does (.reactGapEnd i) s fun t =>
      g + 4800000 ≤ t.now ∧ (t.slot i).seq.gapFrom = none ∧ (t.slot i).st = x.st ∧ (t.slot i).regs = x.regs ∧ (t.slot i).seq.vcc = x.seq.vcc ∧
      OtherSlots i s t ∧ Changes [.now, .slots, .timers, .tide, .cores] s t)

/-- The steps of an activation (02 R45 to R48, R54): VCC_RAMP_START begins the ramp of the slot that is next in its polder, SETTLE_REQUEST asks for the
check 20 us after the ramp's end, SETTLE_CHECK_DONE starts CLK at ACT_DIV where the mean of four samples lies in the window of the class and otherwise
quenches with SUPPLY_SETTLE, IO_RELEASE follows 100 card clocks after Ta, and RST_RISE after RST_HOLD card clocks, with the TS window on T1. -/
def Obligations.ActivationSteps : Prop :=
  ∀ (s : State) (i : Fin 64),
    let x := s.slot i
    let p := s.polder (i.val / 8)
    (s.boot.loaded = true → s.boot.slotHeld = false → s.tap.pins = false → x.freeToRamp p = true → s.nextRamp i = true →
      (∀ v, p.lastRamp = some v → v + p.stagger.setWidth 64 ≤ s.ltide) → Does (.vccRampStart i) s fun t =>
        let y := t.slot i
        y.seq.vcc = .ramp ∧ y.seq.phase = .ramp s.now ∧ y.seq.cls = some x.seq.tryCls ∧ y.seq.rst = false ∧ y.seq.clkRun = false ∧
        y.seq.ioUp = false ∧ y.seq.settled = false ∧ y.regs.actStart = s.ltide ∧ y.st = (if x.st = .present then .activating else x.st) ∧
        t.polder (i.val / 8) = { p with lastRamp := some s.ltide } ∧ OtherSlots i s t ∧ Changes [.slots, .polders] s t) ∧
    (∀ t0, x.seq.phase = .ramp t0 → Does (.settleRequest i) s fun t =>
      t.now = max s.now (t0 + x.rampCk + 9600) ∧ t.slot i = { x with seq := { x.seq with vcc := .on, phase := .settle } } ∧
      t.polder (i.val / 8) = { p with
        settle := (p.settle.filter fun e => e.1 ≠ i.val) ++ [(i.val, [])], convUser := some (p.convUser.getD (.settle i.val))
        convAt := if p.convUser = none then t.now else p.convAt } ∧ OtherSlots i s t ∧ Changes [.now, .slots, .polders, .timers, .tide, .dev, .flow, .mram, .cores, .counts, .lpos, .audit, .out, .pba] s t) ∧
    (∀ l, x.seq.phase = .settle → p.settle.find? (fun e => e.1 = i.val) = some (i.val, l) → 4 ≤ l.length →
      let w := settleWindow x.seq.tryCls
      let inside : Bool := 4 * w.1 ≤ 2 * l.sum && 2 * l.sum ≤ 4 * w.2
      (inside = true → x.st ≠ .parked → Does (.settleCheckDone i) s fun t =>
        let q := (t.slot i).seq
        q.clkRun = true ∧ q.stopLevel = false ∧ q.div = x.actDiv ∧ q.divNext = none ∧ q.clkRef = s.now ∧ q.settled = true ∧ q.phase = .clk s.now ∧
        q.vcc = x.seq.vcc ∧ q.ioUp = false ∧ q.rst = x.seq.rst ∧ (t.slot i).regs = x.regs ∧ (t.slot i).st = x.st ∧
        t.polder (i.val / 8) = { p with settle := p.settle.filter fun e => e.1 ≠ i.val } ∧ OtherSlots i s t ∧ Changes [.slots, .polders] s t) ∧
      (inside = false → x.powered = true → x.st ≠ .quenching → s.boot.slotHeld = false → Does (.settleCheckDone i) s fun t =>
        (t.slot i).st = .quenching ∧ (t.slot i).regs.primary = 10 ∧ (t.slot i).seq.quenchT0 = some s.now ∧ OtherSlots i s t ∧ Changes [.slots, .polders, .timers, .dev, .flow, .mram, .cores, .telemetry, .counts, .lpos, .audit, .crypto, .loops, .out, .pba] s t)) ∧
    (∀ ta, x.seq.phase = .clk ta → Does (.ioRelease i) s fun t =>
      t.now = max s.now (ta + 100 * x.divNow s.now) ∧ t.slot i = { x with seq := { x.seq with ioUp := true, phase := .io ta } } ∧ OtherSlots i s t ∧
      Changes [.now, .slots, .timers, .tide, .cores] s t) ∧
    (∀ t0, x.seq.phase = .io t0 ∨ x.seq.phase = .warm t0 → Does (.rstRise i) s fun t =>
      t.now = max s.now (t0 + x.rstHold * x.actDiv) ∧ (t.slot i).st = .atr ∧ (t.slot i).seq.rst = true ∧ (t.slot i).seq.tb = t.now ∧
      (t.slot i).seq.phase = .none ∧ (t.slot i).ch.atrOn = false ∧ (t.slot i).ch.convSet = false ∧ (t.slot i).regs = x.regs ∧
      (t.timer (3 * i + 1)).en = true ∧ (t.timer (3 * i + 1)).armed = true ∧ (t.timer (3 * i + 1)).cmp = 40000 ∧ OtherSlots i s t ∧
      Changes [.now, .slots, .timers, .tide, .cores] s t)

/-- An answer to reset that does not come, or stops (02 R43, R50, R51, R55): before a warm reset a missing TS goes to the next permitted class, or fails
with NO_CARD; else there is another warm reset while ATR_RETRIES allow, then the next class, then failure with ATR_ERROR. A stopped one also sets ATR_ERR
CHAR_TIMEOUT. -/
def Obligations.AtrFailures : Prop :=
  ∀ (s : State) (i : Fin 64),
    let x := s.slot i
    let again (t : State) : Prop :=
      (t.slot i).st = .activating ∧ (t.slot i).seq.rst = false ∧ (t.slot i).seq.phase = .warm ((x.stageDiv t.now x.actDiv).nextFall t.now) ∧ (t.slot i).seq.retries = x.seq.retries + b2n x.seq.warmed ∧
        (t.slot i).seq.warmed = true ∧ (t.slot i).seq.vcc = x.seq.vcc
    let change (c : SClass) (t : State) : Prop :=
      (t.slot i).st = .activating ∧ (t.slot i).seq.phase = .classChange ∧ (t.slot i).seq.tryCls = c ∧ (t.slot i).seq.rst = false ∧
        (t.slot i).seq.deactT0 = some t.now ∧ (t.slot i).seq.retries = 0
    let fails (r : Nat) (t : State) : Prop := (t.slot i).st = .present ∧ (t.slot i).regs.actResult = r ∧ (t.slot i).seq.phase = .none
    let next (noTs : Bool) (t : State) : Prop :=
      if noTs && !x.seq.warmed then (match classesAfter x.regs.cfg x.seq.tryCls with | c :: _ => change c t | [] => fails 2 t)
      else if x.seq.retries + b2n x.seq.warmed < x.atrRetries then again t
      else match classesAfter x.regs.cfg x.seq.tryCls with | c :: _ => change c t | [] => fails 3 t
    (x.st = .atr → x.ch.atrOn = false → x.ch.rxOn = none → x.ch.rxHold = none → Does (.atrAbsent i) s fun t =>
      t.now = max s.now (x.seq.tb + 40000 * x.seq.div) ∧ next true t ∧ OtherSlots i s t ∧ Changes [.now, .slots, .timers, .tide, .dev, .flow, .mram, .cores, .telemetry, .counts, .lpos, .audit, .crypto, .out, .pba] s t) ∧
    (x.st = .atr → x.ch.atrOn = true → x.ch.rxOn = none → x.ch.rxHold = none → Does (.atrCharTimeout i) s fun t =>
      t.now = max s.now (x.ch.lastStart + x.ch.etu.bound 9600) ∧ (t.slot i).regs.atrErr = 4 ∧ next false t ∧ OtherSlots i s t ∧
      Changes [.now, .slots, .timers, .tide, .dev, .flow, .mram, .cores, .telemetry, .counts, .lpos, .audit, .crypto, .out, .pba] s t) ∧
    (x.st ≠ .atr → x.ch.rxHold = none → x.inPps = false → x.inT0 = false → x.inT1 = false →
      exec (.atrAbsent i) s = .next s ∧ exec (.atrCharTimeout i) s = .next s)

/-- Clock stop (02 R58, R54; 06 R156): an idle READY slot that permits it stops CLK at the level the card asks for, at an edge of CLK no earlier than
CSTOP_IDLE card clocks after the last re-arm and the turnaround; 700 card clocks after a restart the slot is READY again, or BUSY where a transaction waits to
send, or resets warm. -/
def Obligations.ClockStops : Prop :=
  ∀ (s : State) (i : Fin 64),
    let x := s.slot i
    (s.mayStop i = true → x.ch.rxHold = none → Does (.clockStop i) s fun t =>
      x.idleDue ≤ t.now ∧ x.ch.lastStart + x.ch.etu.bound x.turn ≤ t.now ∧ (t.slot i).st = .clockstop ∧ (t.slot i).seq.clkRun = false ∧
      (x.pr.x = 1 → (t.slot i).seq.stopLevel = false) ∧ (x.pr.x = 2 → (t.slot i).seq.stopLevel = true) ∧
      (x.pr.x = 3 → (t.slot i).seq.stopLevel = bitOf x.regs.cfg 13) ∧ (t.slot i).seq.idleClk = x.idleAt t.now ∧ (t.slot i).regs = x.regs ∧
      OtherSlots i s t ∧ Changes [.now, .slots, .timers, .tide, .dev, .flow, .mram, .cores, .telemetry, .counts, .lpos, .audit, .out, .pba] s t) ∧
    (s.mayStop i = true ↔ x.st = .ready ∧ bitOf x.regs.cfg 12 = true ∧ x.pr.x ≠ 0 ∧ x.holder = none ∧ s.convHolds i = false ∧ x.seq.clkRun = true ∧
      x.ch.rxOn = none) ∧
    (s.mayStop i = false → x.ch.rxHold = none → exec (.clockStop i) s = .next s) ∧
    (x.seq.clkFrom ≤ x.ch.rearm → x.idleDue = x.ch.rearm + x.regs.cstopIdle.toNat * x.seq.div) ∧
    (∀ r, x.seq.restartAt = some r → x.seq.warmAfterRestart = false → x.holder = none → Does (.clockRestartDone i) s fun t =>
      t.now = max s.now (r + 700 * x.seq.div) ∧ (t.slot i).st = .ready ∧ (t.slot i).seq.restartAt = none ∧ (t.slot i).regs = x.regs ∧
      (t.slot i).ch.rearm = x.ch.rearm ∧ OtherSlots i s t ∧ Changes [.now, .slots, .timers, .tide, .dev, .flow, .mram, .cores, .counts, .lpos, .audit, .out, .pba] s t) ∧
    (∀ r n y, x.seq.restartAt = some r → x.seq.warmAfterRestart = false → x.holder = some n → s.txn n = some y → y.stage = .exch → x.pr.mode = .t0 →
      Does (.clockRestartDone i) s fun t => (t.slot i).st = .busy ∧ (t.slot i).pr = x.pr ∧ OtherSlots i s t ∧ Changes [.now, .tide, .timers, .cores, .slots] s t) ∧
    (∀ r, x.seq.restartAt = some r → x.seq.warmAfterRestart = true → x.holder = none → Does (.clockRestartDone i) s fun t =>
      (t.slot i).st = .activating ∧ (t.slot i).seq.rst = false ∧ (t.slot i).seq.phase = .warm ((x.stageDiv t.now x.actDiv).nextFall t.now) ∧ OtherSlots i s t ∧ Changes [.now, .slots, .timers, .tide, .dev, .flow, .mram, .cores, .counts, .lpos, .audit, .out, .pba] s t)

/-- The steps of a deactivation, at 0, 10, 20 and 30 us with CLK stopped at its falling edge (02 R59), and of a quench, at 0.4, 0.9, 1.4 and 1.9 us from its detection (03 R69, Table 3-3): RST
low, CLK low, I/O low, regulator off with a sink asked for. Nothing else of the device changes. -/
def Obligations.ShutdownSteps : Prop :=
  ∀ (s : State) (i : Fin 64),
    let x := s.slot i
    let does (t : State) : Prop :=
      (x.seq.steps = 0 → t.slot i = { x with seq := { x.seq with steps := 1, rst := false } }) ∧
      (x.seq.steps = 1 → (t.slot i).seq.steps = 2 ∧ (t.slot i).seq.clkRun = false ∧ (t.slot i).seq.stopLevel = false ∧ (t.slot i).seq.rst = x.seq.rst ∧
        (t.slot i).seq.vcc = x.seq.vcc ∧ (t.slot i).seq.ioUp = x.seq.ioUp ∧ (t.slot i).regs = x.regs ∧ (t.slot i).st = x.st) ∧
      (x.seq.steps = 2 → t.slot i = { x with seq := { x.seq with steps := 3, ioUp := false, ioHold := none } }) ∧
      (x.seq.steps = 3 → t.slot i = { x with seq := { x.seq with steps := 4, vcc := .disch, sinkReq := some t.now, sinkOn := none } }) ∧
      OtherSlots i s t ∧ Changes [.now, .slots, .timers, .tide, .cores] s t
    (∀ t0, x.st ≠ .quenching → x.seq.deactT0 = some t0 → x.seq.quenchT0 = none → x.seq.steps < 4 →
      Does (.deactStep i) s fun t =>
        (x.seq.steps ≠ 1 ∨ x.seq.clkRun = false → t.now = max s.now (t0 + 4800 * x.seq.steps)) ∧
        (x.seq.steps = 1 → x.seq.clkRun = true → t.now = max (max s.now (t0 + 4800)) (x.nextFall (max s.now (t0 + 4800) - 1))) ∧ does t) ∧
    (∀ t0, x.st = .quenching → x.seq.quenchT0 = some t0 → x.seq.deactT0 = none → x.seq.steps < 4 →
      Does (.quenchStep i) s fun t => t.now = max s.now (t0 + 192 + 240 * x.seq.steps) ∧ does t) ∧
    (∀ t0 t1, x.st = .quenching → x.seq.quenchT0 = some t0 → x.seq.deactT0 = some t1 → x.seq.steps < 4 →
      Does (.quenchStep i) s fun t => t.now = max s.now (min (t0 + 192 + 240 * x.seq.steps) (t1 + 4800 * x.seq.steps)) ∧ does t)

/-- VCC below 0.4 V (02 R38, R59, R60; 03 R68, R80): the slot is off, its gap runs and its tempering restarts; from QUENCHING it goes to PARKED where a
PARK asked for it or it was parked, to EMPTY where the card is gone, to FAULT after a FAULT cause, else to PRESENT; a class change waits for its next
ramp. DISCHARGE_GRANT switches on the sinks of the polder of the oldest request, one polder in 0.25 us, and the engaged sinks share 6.4 A, at most 200 mA each (R70, R71,
R86); a discharge of 1 ms sets DISCH_TIMEOUT; a leak of 100 us sets SEEP_LEAK, a shorter one holds the gap. -/
def Obligations.Discharge : Prop :=
  ∀ (s : State) (i : Fin 64),
    let x := s.slot i
    let event (t : State) (typ : Nat) : Prop :=
      s.dev.evq.length < 256 → t.dev.evq = s.dev.evq ++ [{ typ := typ, source := i.val, code := 0, tide := t.ltide, data := [] }]
    (∀ g, x.seq.vcc = .disch → x.seq.sinkOn = some g → Does (.vccBelow04 i) s fun t =>
      let y := t.slot i
      y.seq.vcc = .off ∧ y.seq.cls = none ∧ y.seq.steps = 0 ∧ y.seq.rst = false ∧ y.seq.clkRun = false ∧ y.seq.ioUp = false ∧ y.seq.sinkReq = none ∧
      y.seq.sinkOn = none ∧ y.seq.leaking = false ∧ y.seq.deactT0 = none ∧ y.seq.quenchT0 = none ∧ y.seq.gapFrom = some s.now ∧ y.temp.app.ofs = 0 ∧ y.temp.app.slew = 3 ∧
      y.regs = x.regs ∧ y.st = (if x.st = .quenching then
        (if x.seq.toPark || x.seq.parkPend then .parked else if !x.seq.pres then .empty
         else if x.regs.also &&& 0x63E#11 ≠ 0#11 then .fault else .present) else x.st) ∧
      (x.st ≠ .quenching → x.seq.phase = .classChange → y.seq.phase = .wait) ∧ OtherSlots i s t ∧ Changes [.slots] s t) ∧
    (x.seq.leaking = true → x.seq.vcc = .off →
      exec (.vccBelow04 i) s = .next (s.modSlot i fun x => { x with seq := { x.seq with leaking := false, leakSeen := false, gapFrom := some s.now } })) ∧
    (∀ t0 j, s.oldestSink = some (t0, j) →
      (∀ k < 64, ∀ u, (s.slot k).sinkWaits = some u → t0 ≤ u) ∧ Does .dischargeGrant s fun t =>
        (∀ g, s.boot.sinkGrant = some g → t.now = max s.now (g + 120)) ∧ (s.boot.sinkGrant = none → t.now = s.now) ∧
        t.boot = { s.boot with sinkGrant := some t.now } ∧
        (∀ k < 64, k / 8 = j / 8 → (s.slot k).sinkWaits.isSome = true →
          t.slot k = { s.slot k with seq := { (s.slot k).seq with sinkOn := some t.now } }) ∧
        (∀ k, k / 8 ≠ j / 8 ∨ (s.slot k).sinkWaits = none → t.slot k = s.slot k) ∧ Changes [.now, .slots, .timers, .tide, .cores, .boot] s t) ∧
    (s.oldestSink = none → exec .dischargeGrant s = .next s) ∧
    (∀ g, x.seq.vcc = .disch → x.seq.sinkOn = some g → s.sinkCurrent i = if s.boot.vddaFirst then 4000 else min 4000 (128000 / s.sinks)) ∧
    (∀ g, x.seq.sinkOn = some g → x.seq.vcc = .disch → x.seq.timedOut = false → s.boot.slotHeld = false → Does (.dischTimeout i) s fun t =>
      t.now = max s.now (g + 480000) ∧ t.slot i = { x with regs := { x.regs with dischTimeout := true }, seq := { x.seq with timedOut := true } } ∧
      t.count i 12 = min (s.count i 12 + 1) 0xFFFFFFFF ∧ event t 0x11 ∧ OtherSlots i s t ∧ Changes [.now, .slots, .timers, .tide, .dev, .cores, .telemetry, .counts, .out, .pba] s t) ∧
    (x.seq.vcc = .off → s.boot.slotHeld = false →
      exec (.seepLeak ⟨i, false⟩) s = .next (s.modSlot i fun x => { x with seq := { x.seq with leaking := true } }) ∧
      (x.seq.leakSeen = true → exec (.seepLeak ⟨i, true⟩) s = .next (s.modSlot i fun x => { x with seq := { x.seq with leaking := true } })) ∧
      (x.seq.leakSeen = false → Does (.seepLeak ⟨i, true⟩) s fun t =>
        t.slot i = { x with regs := { x.regs with seepLeak := true }, seq := { x.seq with leaking := true, leakSeen := true } } ∧
        t.count i 13 = min (s.count i 13 + 1) 0xFFFFFFFF ∧ event t 0x12 ∧ OtherSlots i s t ∧ Changes [.slots, .dev, .telemetry, .counts, .out, .pba] s t)) ∧
    (x.seq.vcc ≠ .off ∨ s.boot.slotHeld = true → ∀ q, exec (.seepLeak ⟨i, q⟩) s = .next s)

/-- A detected cause quenches the slot (03 R65 to R68, R74, R78, R79, R81, R88): the first cause is PRIMARY and the only one in ALSO, its QUENCH event is
posted, its count rises, the exchange and the sequencers end, while RST, CLK, VCC and the level of I/O stand until the quench's own steps. A further cause in
QUENCHING is recorded; a lower code of the same pk becomes PRIMARY, in the event too. While a device reset holds the slot logic there is no trigger (R85). -/
def Obligations.QuenchCauses : Prop :=
  ∀ (s : State) (i : Fin 64), s.wf = true →
    let x := s.slot i
    let quenched (cause : Nat) (t : State) : Prop :=
      let y := t.slot i
      y.st = .quenching ∧ y.regs.primary = cause ∧ y.regs.also = 1#11 <<< (cause - 1) ∧ y.regs.quenchAt = s.ltide ∧ y.seq.quenchT0 = some s.now ∧
        y.seq.phase = .none ∧ y.pr.mode = .idle ∧ y.ch.txq = [] ∧ y.temp.pendOfs = none ∧ OtherSlots i s t ∧ Changes [.slots, .timers, .dev, .flow, .mram, .cores, .telemetry, .counts, .lpos, .audit, .crypto, .loops, .out, .pba] s t ∧ Posts s t 0x10 i cause ∧
        (x.ch.rxHold = none → x.ch.rxBuf = [] → x.ch.lastTx ≠ some s.now → s.slotLoop i = false →
          y.seq.vcc = x.seq.vcc ∧ y.seq.rst = x.seq.rst ∧ y.seq.clkRun = x.seq.clkRun ∧ y.seq.ioUp = x.seq.ioUp ∧ y.seq.ioHold = some (x.ioLow s.now) ∧
          t.out.getLast? = some (.ioKeeps i (x.ioLow s.now)) ∧ t.count i cause = min (s.count i cause + 1) 0xFFFFFFFF)
    let recorded (cause : Nat) (t : State) : Prop :=
      (t.slot i).st = .quenching ∧ (t.slot i).regs.also = x.regs.also ||| (1#11 <<< (cause - 1)) ∧ (t.slot i).seq = x.seq ∧
        (t.slot i).regs.primary = (if s.now / 2 = x.seq.quenchT0.getD 0 / 2 ∧ cause < x.regs.primary then cause else x.regs.primary) ∧
        t.count i cause = min (s.count i cause + 1) 0xFFFFFFFF ∧ OtherSlots i s t ∧
        (¬(s.now / 2 = x.seq.quenchT0.getD 0 / 2 ∧ cause < x.regs.primary) → Changes [.slots, .telemetry] s t) ∧
        (s.now / 2 = x.seq.quenchT0.getD 0 / 2 → cause < x.regs.primary → Changes [.slots, .telemetry, .dev, .flow] s t ∧
          ∀ e ∈ t.dev.evq, e.typ = 0x10 → e.source = i.val → e.tide = x.regs.quenchAt → e.code ≠ x.regs.primary)
    let triggers : List (Instr × Nat) := [(.ocTrip i, 2), (.ocFoldback i, 3)] ++
      (if x.seq.settled then [(.undervoltage ⟨i, false⟩, 4)] ++ (if x.seq.steps < 2 then [(.clkReadback i, 5)] else []) ++
        (if x.seq.steps < 1 then [(.rstReadback i, 6)] else []) else [])
    (x.regOn = true → s.boot.slotHeld = false → x.st ≠ .quenching → ∀ c ∈ triggers, Does c.1 s (quenched c.2)) ∧
    (x.regOn = true → s.boot.slotHeld = false → x.st = .quenching → ∀ c ∈ triggers,
      (x.regs.also.getLsbD (c.2 - 1) = false → Does c.1 s (recorded c.2)) ∧ (x.regs.also.getLsbD (c.2 - 1) = true → exec c.1 s = .next s)) ∧
    (x.regOn = false ∨ s.boot.slotHeld = true → ∀ b, ∀ c ∈ [Instr.ocTrip i, .ocFoldback i, .undervoltage ⟨i, b⟩, .clkReadback i, .rstReadback i], exec c s = .next s) ∧
    (x.seq.settled = false → ∀ b, ∀ c ∈ [Instr.undervoltage ⟨i, b⟩, .clkReadback i, .rstReadback i], exec c s = .next s) ∧
    exec (.undervoltage ⟨i, true⟩) s = .next s

/-- The monitors of a polder (03 R82, R83, R91, R92): two samples in a row of 115 degrees or more warn, of 130 or more quench every powered slot of the
polder and no other; 110 or less clears the warning. A card rail below its threshold quenches the slots of the polder that it supplies; a read of
POLDER_THERM clears TEMP_PEAK. -/
def Obligations.PolderMonitors : Prop :=
  ∀ (s : State) (p : Fin 8) (c : Int) (ag : Agent),
    let q := s.polder p
    let elsewhere (t : State) : Prop :=
      ∀ j, j / 8 ≠ p.val → { t.slot j with holder := none, lastBusy := none } = { s.slot j with holder := none, lastBusy := none }
    let sampled : Polder :=
      { q with prevTemp := some c, temp := some (shownTemp c), peak := some (match q.peak with | some v => max v (shownTemp c) | none => shownTemp c) }
    (q.prevTemp = none → exec (.tempSample p c) s = .next (s.modPolder p fun _ => sampled)) ∧
    (∀ v, q.prevTemp = some v → v < 115 ∨ c < 115 → 110 < v ∨ 110 < c ∨ q.warn = false → exec (.tempSample p c) s = .next (s.modPolder p fun _ => sampled)) ∧
    (∀ v, q.prevTemp = some v → 115 ≤ v → 115 ≤ c → q.warn = false → v < 130 ∨ c < 130 → Does (.tempSample p c) s fun t =>
      (t.polder p).warn = true ∧ (t.polder p).temp = some (shownTemp c) ∧ t.dev.irqStatus.getLsbD 6 = true ∧ elsewhere t ∧ Changes [.slots, .polders, .timers, .dev, .flow, .mram, .cores, .telemetry, .counts, .lpos, .audit, .crypto, .loops, .out, .pba] s t) ∧
    (∀ v, q.prevTemp = some v → v ≤ 110 → c ≤ 110 → q.warn = true → Does (.tempSample p c) s fun t =>
      (t.polder p).warn = false ∧ (t.polder p).warnClearAt = s.ltide.toNat ∧ t.slots = s.slots ∧ Changes [.polders, .dev, .counts, .out, .pba] s t) ∧
    (∀ v, q.prevTemp = some v → 130 ≤ v → 130 ≤ c → s.boot.slotHeld = false → Does (.tempSample p c) s fun t =>
      (∀ i, i / 8 = p.val → (s.slot i).powered = true → (t.slot i).st = .quenching) ∧ (t.polder p).warn = true ∧ elsewhere t ∧ Changes [.slots, .polders, .timers, .dev, .flow, .mram, .cores, .telemetry, .counts, .lpos, .audit, .crypto, .loops, .out, .pba] s t) ∧
    (Does (.railH p) s fun t => (t.polder p).highLow = true ∧ (t.polder p).highSeen = true ∧ t.dev.irqStatus.getLsbD 5 = (!q.highSeen || s.dev.irqStatus.getLsbD 5) ∧
      (s.boot.slotHeld = false → ∀ i, i / 8 = p.val → (s.slot i).powered = true → (s.slot i).seq.cls = some .a → (t.slot i).st = .quenching) ∧ elsewhere t ∧ Changes [.slots, .polders, .timers, .dev, .flow, .mram, .cores, .telemetry, .counts, .lpos, .audit, .crypto, .loops, .out, .pba] s t) ∧
    (Does (.railL p) s fun t => (t.polder p).lowLow = true ∧ (t.polder p).lowSeen = true ∧ t.dev.irqStatus.getLsbD 5 = (!q.lowSeen || s.dev.irqStatus.getLsbD 5) ∧
      (s.boot.slotHeld = false → ∀ i, i / 8 = p.val → (s.slot i).powered = true → (s.slot i).seq.cls = some .b ∨ (s.slot i).seq.cls = some .c → (t.slot i).st = .quenching) ∧
      elsewhere t ∧ Changes [.slots, .polders, .timers, .dev, .flow, .mram, .cores, .telemetry, .counts, .lpos, .audit, .crypto, .loops, .out, .pba] s t) ∧
    (q.highLow = true → exec (.railClear .high p) s = .next (s.modPolder p fun q => { q with highLow := false, highClearAt := s.ltide.toNat })) ∧
    (q.lowLow = true → exec (.railClear .low p) s = .next (s.modPolder p fun q => { q with lowLow := false, lowClearAt := s.ltide.toNat })) ∧
    exec (.polderThermRead ag p) s = .next { s.modPolder p fun q => { q with peak := none } with lastRead := q.thermWord }

/-- Transmission (04 R98, R104, R106, R108 to R112; 06 R154, R170): the next queued character leaves at its earliest ck in the slot's convention, with the
timing latched there, counts as sent and restarts T0; after the last one the wait for the answer is set up; in RAW nine levels leave as they stand. The
error-signal check, three samples about 11 ETU, releases the character, or asks for its repetition, or at the limit ends the exchange with TX_RPT_LIM; a
waiting time that expires before the repetition ends the exchange. -/
def Obligations.CharactersOut : Prop :=
  ∀ (s : State) (i : Fin 64) (w late : List Reading), s.wf = true →
    let x := s.slot i
    let clear : Prop := x.mayTransmit = true ∧ x.ch.rxHold = none ∧ x.ch.rxBuf = [] ∧ x.temp.win.chars < 16
    let sent (l : BitVec 9) (t : State) : Prop :=
      let y := t.slot i
      t.now = max s.now x.txEarliest ∧ t.out = s.out ++ [.chr i l] ∧ y.ch.lastStart = t.now ∧ y.ch.lastTx = some t.now ∧ y.ch.txLevels = l ∧
        y.ch.txFrom = t.now + y.ch.etu.bound y.ch.latGt ∧ (x.ch.chg = none → y.ch.latGt = x.txGuard ∧ y.ch.etu = etuOf x.regs.charEtu (x.divNow t.now)) ∧
        (y.ch.txChk = if x.errsig then some { levels := l, start := t.now, raw := x.raw } else none) ∧
        y.pr.sent = x.pr.sent + 1 ∧ y.st = x.st ∧ y.regs = x.regs ∧ OtherSlots i s t ∧ Changes [.now, .tide, .slots, .timers, .cores, .out] s t
    (clear → x.raw = false → ∀ b c r, x.ch.txq = b :: c :: r → Does (.charTransmit i ⟨false, w⟩) s fun t =>
      sent (levelsOf x.ch.inverse b) t ∧ (t.slot i).ch.txq = c :: r) ∧
    (clear → x.raw = false → x.st = .busy → x.pr.mode = .t0 → ∀ b, x.ch.txq = [b] → Does (.charTransmit i ⟨false, w⟩) s fun t =>
      sent (levelsOf x.ch.inverse b) t ∧ (t.slot i).ch.txq = [] ∧ (t.timer (3 * i)).en = true ∧ (t.timer (3 * i)).count = 0 ∧
      (t.timer (3 * i)).cmp = x.pr.wi * 960 * diOf (fld x.regs.charEtu 7 4) % 2 ^ 32) ∧
    (clear → x.raw = false → x.pr.mode = .t1 → x.pr.t1.abortEnd = false → ∀ b, x.ch.txq = [b] → Does (.charTransmit i ⟨false, w⟩) s fun t =>
      sent (levelsOf x.ch.inverse b) t ∧ (t.slot i).ch.txq = [] ∧ (t.slot i).pr.t1.bwtArmed = true ∧
      (t.timer (3 * i + 1)).enAt = some (t.now + (t.slot i).ch.etu.bound 11) ∧
      (t.timer (3 * i + 1)).cmp = x.pr.t1.wtx * 2 ^ x.pr.bwi * 2790 % 2 ^ 32) ∧
    (clear → x.raw = true → ∀ l r, x.ch.rawTx = l :: r → Does (.charTransmit i ⟨false, w⟩) s fun t =>
      sent l t ∧ (t.slot i).ch.rawTx = r ∧ (t.slot i).xchg.sent = true) ∧
    (clear → x.raw = true → ∀ l r, x.ch.rawTx = l :: r → Does (.charTransmit i ⟨true, w⟩) s fun t =>
      t.out = s.out ++ [.chr i l] ∧ t.count i 20 = min (s.count i 20 + 1) 0xFFFFFFFF) ∧
    (x.mayTransmit = false → x.ch.rxHold = none → x.ch.rxBuf = [] → ∀ e, exec (.charTransmit i e) s = .next s) ∧
    (∀ k, x.ch.txChk = some k → x.ch.txAgain = none →
      let m := x.ch.etu.bound 11
      let good := voteOf (w ++ late) m x.sampleD
      (good = true → x.pr.t1.abortEnd = false → Does (.txErrsigCheck i w late) s fun t =>
        t.now = max s.now (k.start + m + x.sampleD) ∧ t.slot i = { x with ch := { x.ch with txChk := none, txReps := 0, rearm := t.now } } ∧
        OtherSlots i s t ∧ Changes [.now, .tide, .timers, .cores, .slots] s t) ∧
      (good = false → x.ch.txReps < fld x.regs.charCfg 26 24 → Does (.txErrsigCheck i w late) s fun t =>
        t.now = max s.now (k.start + m + x.sampleD) ∧
        t.slot i = { x with ch := { x.ch with txAgain := some (max (k.start + x.ch.etu.bound 13)
          (k.start + highAgain (w ++ late) (lastLow (w ++ late) m x.sampleD) + x.ch.etu.bound 1)) } } ∧ OtherSlots i s t ∧
        Changes [.now, .tide, .timers, .cores, .slots] s t) ∧
      (good = false → fld x.regs.charCfg 26 24 ≤ x.ch.txReps → x.pr.mode = .t0 ∨ x.pr.mode = .t1 → Does (.txErrsigCheck i w late) s fun t =>
        (t.slot i).ch.txRptLim = true ∧ (t.slot i).pr.lastEnd = 3 ∧ (t.slot i).pr.mode = .idle ∧ OtherSlots i s t ∧ Changes [.now, .slots, .timers, .tide, .dev, .flow, .mram, .cores, .telemetry, .counts, .lpos, .audit, .out, .pba] s t)) ∧
    (∀ k a, x.ch.txChk = some k → x.ch.txAgain = some a →
      ((∀ v, x.wait = some v → a ≤ x.waitAt v) → x.temp.win.chars < 16 → x.pr.t1.abortEnd = false → Does (.txRepeat ⟨i, w⟩) s fun t =>
        t.now = max s.now a ∧ t.out = s.out ++ [.chr i k.levels] ∧ (t.slot i).ch.txAgain = none ∧ (t.slot i).ch.txReps = x.ch.txReps + 1 ∧
        (t.slot i).ch.lastStart = t.now ∧ t.count i 18 = min (s.count i 18 + 1) 0xFFFFFFFF ∧ OtherSlots i s t ∧ Changes [.now, .slots, .timers, .tide, .dev, .flow, .mram, .cores, .telemetry, .counts, .lpos, .audit, .crypto, .loops, .out, .pba, .freeCount] s t) ∧
      (x.wait = some .wt → x.waitAt .wt + 1 < a → Does (.txRepeat ⟨i, w⟩) s fun t =>
        t.now = max s.now (x.waitAt .wt) ∧ (t.slot i).pr.lastEnd = 5 ∧ (t.slot i).pr.mode = .idle ∧ OtherSlots i s t ∧ Changes [.now, .slots, .timers, .tide, .dev, .flow, .mram, .cores, .telemetry, .counts, .lpos, .audit, .crypto, .loops, .out, .pba, .freeCount] s t))

/-- Reception (04 R98 to R107, R110, R112; 02 R51, R52; 06 R154, R155, R170): a start edge that start detection takes latches the timing and restarts T0; one
that comes after a wait has expired is late. Three samples vote on the start bit and on each bit: a start bit that votes high is a false start, counted
and undone, one that votes low while T=0 bytes are still to be sent ends the exchange with T0_PROC. At the middle stop sample the character is held for the
late one, and then passes on: raw, as TS, or to the engine; a parity error is answered while repetitions are left. -/
def Obligations.CharactersIn : Prop :=
  ∀ (s : State) (i : Fin 64) (w : List Reading), s.wf = true →
    let x := s.slot i
    let c := x.sampleOff 1 + x.sampleD
    (∀ dt, x.listening (s.now + dt) = false → exec (.charReceive i (.edge dt)) s = .next s) ∧
    (∀ dt, x.listening (s.now + dt) = true → x.ch.rxHold = none → x.ch.rxBuf = [] → x.temp.win.chars < 16 →
      ((∀ v, x.wait = some v → s.now + dt ≤ x.waitAt v) → Does (.charReceive i (.edge dt)) s fun t =>
        let y := t.slot i
        t.now = s.now + dt ∧ y.ch.lastStart = t.now ∧ y.ch.lastRx = some t.now ∧ y.ch.lastRxEtu = y.ch.etu ∧
        (x.ch.chg = none → y.ch.etu = etuOf x.regs.charEtu (x.divNow t.now) ∧ y.ch.latOfs = x.temp.app.ofs ∧ (x.seq.divNext = none → y.ch.pend = false)) ∧
        y.mayTransmit = false ∧ (∃ o, y.ch.rxOn = some o ∧ o.start = t.now ∧ o.lastStart = x.ch.lastStart ∧ o.lastRx = x.ch.lastRx ∧ o.begun = false) ∧
        y.ch.rxBuf = x.ch.rxBuf ∧ ((t.timer (3 * i)).en = true → (t.timer (3 * i)).count = 0) ∧ y.pr = x.pr ∧ y.regs = x.regs ∧ OtherSlots i s t ∧
        Changes [.now, .tide, .slots, .timers, .cores] s t) ∧
      (x.wait = some .wt → x.waitAt .wt + 1 < s.now + dt → Does (.charReceive i (.edge dt)) s fun t =>
        t.now = max s.now (x.waitAt .wt) ∧ (t.slot i).pr.lastEnd = 5 ∧ (t.slot i).pr.mode = .idle ∧ (t.slot i).ch.rxOn = none ∧ OtherSlots i s t ∧ Changes [.now, .slots, .timers, .tide, .dev, .flow, .mram, .cores, .telemetry, .counts, .lpos, .audit, .crypto, .loops, .out, .pba, .freeCount] s t)) ∧
    (x.ch.rxOn = none → exec (.charReceive i (.start w)) s = .next s ∧ exec (.charReceive i (.stop w)) s = .next s) ∧
    (x.ch.rxHold = none → exec (.charReceive i .late) s = .next s) ∧
    (∀ n, ((x.sampleAt n : Int) - (x.ch.lastStart + x.ch.etu.halves n : Nat)).natAbs ≤ x.ch.etu.part 8 ∧
      (x.ch.latOfs = 0 → x.sampleAt n = x.ch.lastStart + x.ch.etu.halves n)) ∧
    (∀ k, let p := x.sampleOff (2 * k + 1)
      x.bitVote w k = decide (2 ≤ b2n (readsHigh w (p - x.sampleD)) + b2n (readsHigh w p) + b2n (readsHigh w (p + x.sampleD)))) ∧
    (∀ o u, x.ch.rxOn = some o → exec (.charReceive i (.start w)) s = .next u → exec (.charReceive i (.stop w)) s = exec (.charReceive i (.stop w)) u) ∧
    (∀ o, x.ch.rxOn = some o → o.begun = true → exec (.charReceive i (.start w)) s = .next s) ∧
    (∀ o, x.ch.rxOn = some o → o.begun = false →
      (x.bitVote w 0 = true → Does (.charReceive i (.start w)) s fun t =>
        let r := x.ch.lastStart + highAgain w c
        t.now = max s.now (x.ch.lastStart + c) ∧ t.count i 16 = min (s.count i 16 + 1) 0xFFFFFFFF ∧
        t.slot i = { x with ch := { x.ch with lastStart := o.lastStart, lastRx := o.lastRx, lastRxEtu := o.lastRxEtu, rxOn := none, rearm := r, rxEnd := r } } ∧
        OtherSlots i s t ∧ Changes [.now, .slots, .timers, .tide, .dev, .flow, .mram, .cores, .telemetry, .counts, .lpos, .audit, .crypto, .loops, .out, .pba, .freeCount] s t) ∧
      (x.bitVote w 0 = false → x.st = .busy → x.pr.mode = .t0 → x.ch.txq ≠ [] → Does (.charReceive i (.start w)) s fun t =>
        t.now = max s.now (x.ch.lastStart + c) ∧ (t.slot i).pr.lastEnd = 2 ∧ (t.slot i).pr.mode = .idle ∧ (t.slot i).ch.txq = [] ∧
        (t.slot i).ch.rxOn = none ∧ OtherSlots i s t ∧ Changes [.now, .slots, .timers, .tide, .dev, .flow, .mram, .cores, .telemetry, .counts, .lpos, .audit, .crypto, .loops, .out, .pba, .freeCount] s t) ∧
      (x.bitVote w 0 = false → x.st = .atr → x.ch.convSet = false → Does (.charReceive i (.start w)) s fun t =>
        t.now = max s.now (x.ch.lastStart + c) ∧ t.slot i = { x with ch := { x.ch with rxOn := some { o with begun := true } } } ∧
        (t.timer (3 * i + 1)).en = false ∧ OtherSlots i s t ∧ Changes [.now, .tide, .timers, .cores, .slots] s t) ∧
      (x.bitVote w 0 = false → x.st ≠ .atr → x.inT0 = false ∨ x.ch.txq = [] → x.inT1 = false ∨ x.ch.rxBuf ≠ [] → Does (.charReceive i (.start w)) s fun t =>
        t.now = max s.now (x.ch.lastStart + c) ∧ t.slot i = { x with ch := { x.ch with rxOn := some { o with begun := true } } } ∧ OtherSlots i s t ∧
        Changes [.now, .tide, .timers, .cores, .slots] s t) ∧
      (x.bitVote w 0 = false → x.inT1 = true → x.ch.rxBuf = [] → Does (.charReceive i (.start w)) s fun t =>
        (t.slot i).ch.rxOn = some { o with begun := true } ∧ (t.slot i).pr.t1.bwtArmed = false ∧ (t.timer (3 * i + 1)).en = false ∧ (t.timer (3 * i)).en = true ∧
        (t.timer (3 * i)).cmp = (11 + 2 ^ x.pr.cwi) % 2 ^ 32 ∧ OtherSlots i s t ∧ Changes [.now, .slots, .timers, .tide, .dev, .flow, .mram, .cores, .telemetry, .counts, .lpos, .audit, .crypto, .loops, .out, .pba, .freeCount] s t)) ∧
    (∀ o, x.ch.rxOn = some o → o.begun = true →
      let l := x.voted w
      let good := parityGood x.ch.inverse l
      let part (t : State) : Prop := (t.slot i).ch.rxOn = none ∧ (t.slot i).ch.lastRx = x.ch.lastRx ∧ OtherSlots i s t ∧ Changes [.now, .slots, .timers, .tide, .dev, .flow, .mram, .cores, .telemetry, .counts, .lpos, .audit, .crypto, .loops, .out, .pba, .freeCount] s t
      ((x.raw = true ∧ x.st ≠ .atr ∧ x.inPps = false) ∨ (x.st = .busy ∧ good = true) ∨ (x.st = .atr ∧ x.ch.convSet = false ∧ (tsOf l).isSome = true) →
        Does (.charReceive i (.stop w)) s fun t =>
          part t ∧ t.now = max s.now (x.sampleAt 21) ∧ (t.slot i).ch.rearm = x.sampleAt 21 ∧ (t.slot i).pr = x.pr ∧ (t.slot i).regs = x.regs ∧
          (t.slot i).ch.rxHold = some { levels := l, mid := readsHigh w (x.sampleOff 21), vote := x.bitVote w 10, lateAt := x.sampleAt 21 + x.sampleD }) ∧
      (x.raw = false → x.st = .atr → x.ch.convSet = false → tsOf l = none → Does (.charReceive i (.stop w)) s fun t =>
        t.now = max s.now (x.sampleAt 19 + x.sampleD) ∧ (t.slot i).regs.atrErr = 1 ∧ (t.slot i).st ≠ .atr ∧ OtherSlots i s t ∧ Changes [.now, .slots, .timers, .tide, .dev, .flow, .mram, .cores, .telemetry, .counts, .lpos, .audit, .crypto, .loops, .out, .pba, .freeCount] s t) ∧
      (x.raw = false → x.st = .atr → x.ch.convSet = true → good = true → x.endsAtr (byteOfLevels x.ch.inverse l) = true → x.stopGood w = true →
        Does (.charReceive i (.stop w)) s fun t => t.now = max s.now (x.ch.lastStart + x.ch.etu.bound 10) ∧ (t.slot i).ch.rxOn = none ∧ OtherSlots i s t) ∧
      (x.st = .busy → good = false → x.errsig = true → x.ch.rxReps < fld x.regs.charCfg 23 21 →
        Does (.charReceive i (.stop w)) s fun t =>
          let a := x.ch.lastStart + x.ch.etu.halves 21
          let b := x.ch.lastStart + x.ch.etu.halves (23 + fld x.regs.charCfg 28 27)
          part t ∧ t.now = max s.now a ∧ (t.slot i).ch.rxReps = x.ch.rxReps + 1 ∧ (t.slot i).ch.parity = true ∧
          t.count i 14 = min (s.count i 14 + 1) 0xFFFFFFFF ∧ t.count i 17 = min (s.count i 17 + 1) 0xFFFFFFFF ∧ (t.slot i).ch.esig = some (a, b) ∧
          t.out = s.out ++ [.errSignal i a (b - a)] ∧ (t.slot i).ch.rearm = x.ch.lastStart + x.ch.etu.halves (24 + fld x.regs.charCfg 28 27) ∧
          (t.slot i).pr = x.pr) ∧
      (x.st = .busy → x.raw = false → good = false → x.errsig = false ∨ fld x.regs.charCfg 23 21 ≤ x.ch.rxReps → Does (.charReceive i (.stop w)) s fun t =>
        part t ∧ (t.slot i).ch.parity = true ∧ (t.slot i).ch.rxRptLim = (x.ch.rxRptLim || x.errsig) ∧ (t.slot i).ch.rxHold.isSome = true)) ∧
    (∀ h, x.ch.rxHold = some h →
      let passed (t : State) : Prop :=
        t.now = max s.now h.lateAt ∧ (t.slot i).ch.rxHold = none ∧ OtherSlots i s t ∧ Changes [.now, .slots, .timers, .tide, .dev, .flow, .mram, .cores, .telemetry, .counts, .lpos, .audit, .crypto, .loops, .out, .pba, .freeCount] s t ∧ (h.vote = false → t.count i 15 = min (s.count i 15 + 1) 0xFFFFFFFF)
      (x.raw = true → x.ch.rawRx.length < 16 → Does (.charReceive i .late) s fun t =>
        passed t ∧ (t.slot i).ch.rawRx = x.ch.rawRx ++ [(!h.vote, h.levels)] ∧ (t.slot i).pr = x.pr) ∧
      (x.raw = true → 16 ≤ x.ch.rawRx.length → Does (.charReceive i .late) s fun t =>
        passed t ∧ (t.slot i).ch.rawRx = x.ch.rawRx ∧ (t.slot i).ch.rawOvf = true) ∧
      (x.raw = false → x.st = .atr → x.ch.convSet = false → x.ch.atrOn = false → h.vote = true → h.levels = 0x13B#9 ∨ h.levels = 0x103#9 →
        Does (.charReceive i .late) s fun t =>
          passed t ∧ (t.slot i).ch.inverse = decide (h.levels = 0x103#9) ∧ (t.slot i).ch.convSet = true ∧
          (t.slot i).ch.atr = [if h.levels = 0x103#9 then 0x3F#8 else 0x3B#8] ∧ (t.slot i).st = .atr ∧ (t.timer (3 * i)).en = true ∧
          (t.timer (3 * i)).cmp = 9600) ∧
      (x.raw = false → x.st = .busy → h.vote = true → parityGood x.ch.inverse h.levels = true → x.ch.rxReps = 0 → x.ch.lastTx.isSome = true → x.pr.mode = .t0 →
        x.pr.t0.phase = .recvAll → x.ch.txq = [] → Does (.charReceive i .late) s fun t =>
          passed t ∧ (t.slot i).pr.t0.data = x.pr.t0.data ++ [byteOfLevels x.ch.inverse h.levels] ∧ (t.slot i).pr.t0.toRecv = x.pr.t0.toRecv - 1 ∧
          (t.slot i).st = .busy))

/-- Raw mode (04 R112, Table 4-9; 11 R310): a write of CHAR_RAW through a slot window queues nine levels in RAW while fewer than 16 wait; in NORMAL, into a
full queue or by any other way it is rejected with STATE. A read through the window takes the oldest received entry; every other read gives 0. -/
def Obligations.RawCharacters : Prop :=
  ∀ (s : State) (k : Fin 4) (i : Fin 64) (v : Word), s.wf = true →
    let x := s.slot i
    (x.raw = true → x.ch.rawTx.length < 16 → exec (.charRawWrite (.window k) i v) s = .next (s.modSlot i fun x => { x with
      regs := { x.regs with cmdErr := .none }, ch := { x.ch with rawTx := x.ch.rawTx ++ [v.setWidth 9] } })) ∧
    (x.raw = false ∨ 16 ≤ x.ch.rawTx.length →
      exec (.charRawWrite (.window k) i v) s = .next (s.modSlot i fun x => { x with regs := { x.regs with cmdErr := .state } })) ∧
    (∀ ag, (∀ k, ag ≠ .window k) → s.allows ag 1 = true →
      exec (.charRawWrite ag i v) s = .next (s.modSlot i fun x => { x with regs := { x.regs with cmdErr := .state } })) ∧
    (x.raw = true → ∀ g l r, x.ch.rawRx = (g, l) :: r → r.length < 16 → Does (.charRawRead (.window k) i) s fun t =>
      t.slot i = { x with ch := { x.ch with rawRx := r } } ∧ fld t.lastRead 31 31 = 1 ∧ fld t.lastRead 30 30 = b2n g ∧ fld t.lastRead 8 0 = l.toNat ∧
      fld t.lastRead 20 16 = r.length ∧ OtherSlots i s t ∧ Changes [.slots, .lastRead] s t) ∧
    (x.raw = false ∨ x.ch.rawRx = [] → exec (.charRawRead (.window k) i) s = .next { s with lastRead := 0#32 }) ∧
    (∀ ag, (∀ k, ag ≠ .window k) → exec (.charRawRead ag i) s = .next { s with lastRead := 0#32 })

/-- Counting (05 R119 to R129, R133, R134): the wrap of a timer of the 240 MHz source comes with its next tick and brings the count to 0, sets WRAP_EVT and
OUT, and stops a one-shot timer; a compare sets CMP_EVT, clears OUT and moves CMP on by INTERVAL in auto-advance; a capture keeps the count with its
source, or counts as lost where eight wait; make-up applies the whole ticks of the slow-clock edges at once. A timer that drives no other changes no
other. -/
def Obligations.TimerCounting : Prop :=
  ∀ (s : State) (t : TimerId), s.wf = true →
    let i := timerIdx t
    let x := s.timer i
    let alone (u : State) : Prop := (∀ j, j ≠ i → u.timer j = s.timer j) ∧ Changes [.now, .tide, .timers, .cores] s u
    let plain : Prop :=
      s.counting i = true ∧ x.src = 0 ∧ x.presc = 0 ∧ fld x.cfg 3 0 = 0 ∧ x.residue = 0 ∧ x.sleptAt = none ∧ x.enAt = none ∧ x.lostAt = none ∧ x.reloadNext = none ∧
        (∀ j, j ≠ i → s.timer j = {}) ∧ s.unlinked i
    (plain → x.cmpOn = false → x.count = x.reload → Does (.timerWrap t) s fun u =>
      (u.timer i).count = 0 ∧ (u.timer i).wrapEvt = true ∧ (u.timer i).en = (!bitOf x.cfg 16) ∧ (u.timer i).out = (!bitOf x.cfg 16) ∧
      (u.timer i).residue = 0 ∧ (u.timer i).reload = x.reload ∧ (u.timer i).cfg = x.cfg ∧ (u.timer i).caps = x.caps ∧ u.now = 2 * (s.now / 2 + 1) ∧ alone u) ∧
    (plain → x.cmpOn = true → x.armed = true → x.cmp = x.count + 1 → 2 ≤ x.reload → Does (.timerCompare t) s fun u =>
      (u.timer i).count = x.count + 1 ∧ (u.timer i).cmpEvt = true ∧ (u.timer i).out = false ∧ (u.timer i).en = true ∧ (u.timer i).armed = bitOf x.cfg 15 ∧
      (u.timer i).cmp = (if bitOf x.cfg 15 then (x.cmp + x.interval) % x.period else x.cmp) ∧ (u.timer i).wrapEvt = x.wrapEvt ∧
      (u.timer i).caps = x.caps ∧ u.now = 2 * (s.now / 2 + 1) ∧ alone u) ∧
    (x.en = false → exec (.timerWrap t) s = .next s) ∧
    (∀ (src : BitVec 4) dt, i < 192 → s.slotLoop (i / 3) = true → src = 1#4 ∨ src = 2#4 → x.capSrc = src.toNat →
      let y := (s.elapse dt).timer i
      (y.caps.length < 8 → y.cfg = x.cfg → Does (.timerCapture t src dt) s fun u =>
        u.timer i = { y with caps := y.caps ++ [(y.count, src.toNat)] } ∧ u.now = s.now + dt ∧ Changes [.now, .tide, .timers, .cores] s u) ∧
      (8 ≤ y.caps.length → y.cfg = x.cfg → Does (.timerCapture t src dt) s fun u =>
        u.timer i = { y with capOvf := true, capLost := min (y.capLost + 1) 255 } ∧ u.now = s.now + dt)) ∧
    (∀ src dt, 192 ≤ i ∨ s.slotLoop (i / 3) = false → exec (.timerCapture t src dt) s = .next s) ∧
    (∀ v dt,
      let r := s.elapse dt
      let x := r.timer i
      x.en = true → x.sleptAt = some v → r.stopped i = false → bitOf x.cfg 13 = true → x.cmpOn = false → x.sleptRate = (240000000, 1) →
      x.presc = fld x.cfg 3 0 → r.unlinked i →
      let e := min (slowEdges r.now - slowEdges v) 0xFFFFFFFF
      Does (.timerMakeup t dt) s fun u =>
        (u.timer i).makeup = true ∧ (u.timer i).sleptAt = none ∧ (u.timer i).makeupTicks = (x.residue + e * 240000000 / 32768) / 2 ^ x.presc % 2 ^ 32 ∧
        (u.timer i).makeupSat = (x.makeupSat || decide (e = 0xFFFFFFFF)) ∧ (∀ j, j ≠ i → u.timer j = r.timer j) ∧ Changes [.timers, .cores] r u) ∧
    (∀ dt, (s.elapse dt).stopped i = true → exec (.timerMakeup t dt) s = .next (s.elapse dt))

/-- The registers of a timer (05 R116, R120 to R127, R131, R149): START enables with the count standing, STOP disables, CLR_CAP empties the capture FIFO,
CAP_SOFT captures where CAP_SRC names it; a write of TIM_COUNT, TIM_RELOAD (from the next pk on) and TIM_CMP takes the value, the last re-arming the compare; reads give the
count and the oldest capture, which is removed. START with STOP is MULTIPLE; a timer that is not the writer's is rejected with STATE. -/
def Obligations.TimerRegisters : Prop :=
  ∀ (s : State) (ag : Agent) (t : TimerId) (v : Word), s.wf = true →
    let i := timerIdx t
    let x := s.timer i
    let answer (e : CmdErr) (f : Timer → Timer) : Host.Outcome State Fault Refusal := .next (s.modTimer i fun x => { f x with cmdErr := e })
    (s.allows ag (if i < 192 then 1 else 0) = true → s.timerWritable ag i = true →
      (v &&& 0xF#32 = 0#32 →
        exec (.start ag t v) s = answer .none (fun x => { x with en := true, residue := 0, presc := fld x.cfg 3 0, out := true, enAt := none }) ∧
        exec (.stop ag t v) s = answer .none (fun x => { x with en := false, out := false, enAt := none }) ∧
        exec (.clrCap ag t v) s = answer .none (fun x => { x with caps := [], capLost := 0 }) ∧
        (x.capSrc ≠ 9 → exec (.capSoft ag t v) s = answer .none id) ∧
        (x.capSrc = 9 → x.caps.length < 8 → bitOf x.cfg 9 = false →
          exec (.capSoft ag t v) s = answer .none fun x => { x with caps := x.caps ++ [(x.count, 9)] })) ∧
      (s.linkedLow i = false → s.linkedHigh i = false → exec (.timCountWrite ag t v) s = answer .none fun x =>
        ({ x with count := v.toNat, lostAt := some (s.now + s.toPk) } : Timer).level) ∧
      (∀ lo, s.linkedHigh i = true → (s.timer (i - 1)).loStage = some lo → Does (.timCountWrite ag t v) s fun u =>
        (u.timer i).count = v.toNat ∧ (u.timer i).cmdErr = .none ∧ (u.timer (i - 1)).count = lo ∧ (u.timer (i - 1)).loStage = none ∧ Changes [.timers] s u) ∧
      (s.linkedLow i = true → exec (.timCountWrite ag t v) s = answer .none fun x => { x with loStage := some v.toNat }) ∧
      exec (.timReloadWrite ag t v) s = answer .none (fun x => { x with reloadNext := some (v.toNat, s.now + s.toPk) }) ∧
      exec (.timCmpWrite ag t v) s = answer .none (fun x => ({ x with cmp := v.toNat, armed := true } : Timer).level)) ∧
    (s.allows ag (if i < 192 then 1 else 0) = true → exec (.start ag t (v ||| 2#32)) s = answer .multiple id ∧ exec (.stop ag t (v ||| 1#32)) s = answer .multiple id) ∧
    (s.allows ag (if i < 192 then 1 else 0) = true → s.timerWritable ag i = false → v &&& 0xF#32 = 0#32 →
      ∀ c ∈ [Instr.start ag t v, .stop ag t v, .clrCap ag t v, .capSoft ag t v, .timCountWrite ag t v, .timReloadWrite ag t v, .timCmpWrite ag t v],
        exec c s = answer .state id) ∧
    (∀ dt,
      let r := s.elapse dt
      (r.linkedLow i = false → r.linkedHigh i = false → exec (.timCountRead ag t dt) s = .next { r with lastRead := BitVec.ofNat 32 (r.timer i).count }) ∧
      (r.linkedLow i = true → Does (.timCountRead ag t dt) s fun u =>
        u.lastRead = BitVec.ofNat 32 (r.timer i).count ∧ u.latch ag (0x40000 + i + 1) = BitVec.ofNat 32 (r.timer (i + 1)).count ∧
        Changes [.latches, .lastRead] r u)) ∧
    (∀ a r, x.caps = a :: r → exec (.timCapValRead ag t) s = .next { s.modTimer i fun x => { x with caps := r } with lastRead := BitVec.ofNat 32 a.1 }) ∧
    (x.caps = [] → exec (.timCapValRead ag t) s = .next { s with lastRead := 0#32 })

/-- The local tide (05 R138 to R141, R146): a first TIDE_MARK edge sets an armed value and locks; an armed value behind a running tide is refused, and the edge still corrects; an edge
within 160 tt of the expected one is corrected by a slew where the error is within the step limit; without edges for 64,000 tt the tide enters HOLDOVER
at the mean of its rates; a pause ends with the tide where it stood. -/
def Obligations.TideDiscipline : Prop :=
  ∀ (s : State) (dt : Nat),
    let s1 := (s.elapse dt).captureAll 5
    let u := s1.tide
    (Config.ringMaster = false → exec (.tideMarkEdge dt) s = .next s1) ∧
    (Config.ringMaster = true →
      (∀ v, u.armed = some v → u.st = .free ∨ u.val ≤ v → Does (.tideMarkEdge dt) s fun t =>
        t.tide.val = v ∧ t.tide.phase = 0 ∧ t.tide.st = .locked ∧ t.tide.ref = v ∧ t.tide.armed = none ∧ t.tide.expect = some (v.toNat + 16000) ∧
        t.tide.lastAt = s.now + dt ∧ t.tide.slew = 0 ∧ t.tide.paused = false ∧ t.tide.alarms = u.alarms ∧
        Changes [.now, .tide, .timers, .cores] s t) ∧
      (∀ v, u.armed = some v → u.st ≠ .free → v < u.val → Does (.tideMarkEdge dt) s fun t =>
        t.tide.armed = none ∧ t.tide.setErr = 1 ∧ t.dev.irqStatus.getLsbD 8 = true ∧ Changes [.now, .timers, .tide, .dev, .flow, .cores, .counts, .out, .pba, .freeCount] s t ∧
        (∀ x, u.st = .locked ∨ u.st = .holdover → u.expect = some x → u.nearest u.pos = 0 → ((u.pos : Int) - (x * 30 : Nat)).natAbs ≤ 4800 →
          t.tide.ref = u.val ∧ t.tide.lastAt = s.now + dt)) ∧
      (u.armed = none → u.st = .free ∨ u.st = .acquiring → exec (.tideMarkEdge dt) s = .next (s1.modTide fun u => { u with ref := u.val, lastAt := s1.now })) ∧
      (∀ x, u.armed = none → u.st = .locked ∨ u.st = .holdover → u.expect = some x → u.nearest u.pos = 0 → u.paused = false →
        let e : Int := (u.pos : Int) - (x * 30 : Nat)
        (e.natAbs ≤ 4800 → e.natAbs ≤ u.limitCk.natAbs → Does (.tideMarkEdge dt) s fun t =>
          t.tide.st = .locked ∧ t.tide.ref = u.val ∧ t.tide.expect = some (x + 16000) ∧ t.tide.slew = e ∧ t.tide.err = sat32 e ∧ t.tide.val = u.val ∧
          t.tide.phase = u.phase ∧ -1000000 ≤ t.tide.rate ∧ t.tide.rate ≤ 1000000 ∧ Changes [.now, .tide, .timers, .cores, .freeCount] s t) ∧
        (4800 < e.natAbs → exec (.tideMarkEdge dt) s = .next s1))) ∧
    (s.tide.st = .locked ∨ s.tide.st = .acquiring → Does .tideHoldover s fun t =>
      t.now = max s.now (s.tide.lastAt + 1920000) ∧ t.tide.st = .holdover ∧ t.tide.slew = 0 ∧ (s.tide.rates = [] → t.tide.rate = 0) ∧
      Changes [.now, .tide, .timers, .cores] s t) ∧
    (s.tide.paused = true → s.tide.phase < 30 → 0 ≤ s.tide.acc → s.tide.acc < 1000000000 → s.tide.slewAcc < 1920 → Does .tidePauseEnd s fun t =>
      t.tide.paused = false ∧ t.tide.pauseLeft = 0 ∧ t.tide.val = s.tide.val ∧ t.tide.phase = s.tide.phase ∧ t.now = s.now + s.tide.pauseLeft ∧
      Changes [.now, .tide, .timers, .cores] s t) ∧
    (s.tide.paused = false → exec .tidePauseEnd s = .next s)

/-- The registers of the tide and its alarms (05 R137, R139, R144, R145, R150): a read of TIDE_NOW_LO latches the rest for its reader; TIDE_SET_HI arms on
the master and is refused on a member; CANCEL_SET disarms; TALARM_n_HI arms alarm n, CANCEL disarms; a due alarm fires once, in order of its number, and
raises its line. -/
def Obligations.TideRegisters : Prop :=
  ∀ (s : State) (ag : Agent) (v : Word) (n : Fin 8),
    (Does (.tideNowRead ag) s fun t =>
      t.lastRead = lo32 s.ltide ∧ t.latch ag 0x4804 = hi32 s.ltide ∧ t.latch ag 0x50000 = BitVec.ofNat 32 s.tide.phase ∧
      Changes [.latches, .lastRead] s t) ∧
    (s.allows ag 1 = true →
      (Config.ringMaster = true → exec (.tideSetHiWrite ag v) s = .next (s.modTide fun u =>
        { u with setReg := cat64 v (lo32 u.setReg), armed := some (cat64 v (lo32 u.setReg)), setErr := 0 })) ∧
      (Config.ringMaster = false → Does (.tideSetHiWrite ag v) s fun t =>
        t.tide = { s.tide with setErr := 2 } ∧ t.dev.irqStatus.getLsbD 8 = true ∧ Changes [.tide, .dev, .counts, .out, .pba] s t) ∧
      (fld v 15 0 ≠ 0 → exec (.cancelSet ag v) s = .next (s.modTide fun u => { u with stepLimit := fld v 15 0, armed := none })) ∧
      (fld v 15 0 = 0 → exec (.cancelSet ag v) s = .next s) ∧
      exec (.talarmHiWrite ag n v) s = .next (s.modTide fun u =>
        let a := cat64 v (lo32 (u.alarms.getD n 0#64))
        { u with alarms := u.alarms.set n a, alarmArmed := u.alarmArmed.set n (some a) }) ∧
      (Does (.cancel ag v) s fun t =>
        (∀ j < 8, t.tide.alarmArmed.getD j none = if bitOf v j then none else s.tide.alarmArmed.getD j none) ∧
        (∀ j < 8, (t.tide.fired / 2 ^ j % 2 = 1) ↔ (s.tide.fired / 2 ^ j % 2 = 1 ∧ bitOf v (16 + j) = false)) ∧
        t.tide.alarms = s.tide.alarms ∧ t.tide.val = s.tide.val ∧ Changes [.tide] s t)) ∧
    (∀ a, s.tide.alarmArmed.getD n none = some a → a ≤ s.ltide → s.alarmBy s.ltide n = false → Does (.talarmDue n) s fun t =>
      t.now = s.now ∧ t.tide.alarmArmed = s.tide.alarmArmed.set n none ∧ t.tide.fired / 2 ^ n.val % 2 = 1 ∧ t.tide.val = s.tide.val ∧
      Changes [.tide, .timers, .cores] s t) ∧
    (∀ a, s.tide.alarmArmed.getD n none = some a → s.alarmBy (s.dueAt a) n = true → exec (.talarmDue n) s = .next s)

/-- Negotiation by PPS (06 R161 to R164): an exact echo settles the parameters asked for, a response without PPS1 the default ones; anything else, or
silence for 9,600 ETU, counts as a PPS failure and takes the negotiation reset, or fails where it was used. -/
def Obligations.PpsNegotiation : Prop :=
  ∀ (s : State) (i : Fin 64), s.wf = true →
    let x := s.slot i
    let fails (t : State) : Prop :=
      t.count i 22 = min (s.count i 22 + 1) 0xFFFFFFFF ∧ OtherSlots i s t ∧
        (if x.seq.negResetUsed then (t.slot i).st = .present ∧ (t.slot i).regs.actResult = 5 ∧ (t.slot i).pr.negResult = 7
         else (t.slot i).st = .activating ∧ (t.slot i).seq.rst = false ∧ (t.slot i).seq.negResetUsed = true ∧ (t.slot i).seq.phase = .warm ((x.stageDiv t.now x.actDiv).nextFall t.now))
    (x.st = .negotiating → x.pr.mode = .pps → x.ch.txq = [] → x.ch.rxHold = none → x.seq.deactPend = false → x.seq.warmPend = false →
      (judgePps x.pr.ppsReq x.pr.ppsT x.ch.rxBuf = some 2 → x.pr.ppsReq.length = 4 → x.pr.ppsT = 0 → Does (.ppsResponse i) s fun t =>
        (t.slot i).pr.negResult = 2 ∧ (t.slot i).pr.proto = 0 ∧ (t.slot i).pr.settled = true ∧ fld (t.slot i).regs.charEtu 11 8 = x.pr.fi % 16 ∧
        fld (t.slot i).regs.charEtu 7 4 = x.pr.di % 16 ∧ (x.seq.clkRun = true → x.negDiv = x.divNow s.now ∨ (t.slot i).seq.divNext = some x.negDiv) ∧
        OtherSlots i s t ∧ Changes [.now, .slots, .timers, .tide, .dev, .flow, .mram, .cores, .telemetry, .counts, .lpos, .audit, .out, .pba] s t) ∧
      (judgePps x.pr.ppsReq x.pr.ppsT x.ch.rxBuf = some 3 → x.pr.ppsT = 0 → Does (.ppsResponse i) s fun t =>
        (t.slot i).pr.negResult = 3 ∧ (t.slot i).pr.proto = 0 ∧ fld (t.slot i).regs.charEtu 11 8 = 1 ∧ fld (t.slot i).regs.charEtu 7 4 = 1 ∧ OtherSlots i s t ∧ Changes [.now, .slots, .timers, .tide, .dev, .flow, .mram, .cores, .telemetry, .counts, .lpos, .audit, .out, .pba] s t) ∧
      (judgePps x.pr.ppsReq x.pr.ppsT x.ch.rxBuf = some 7 → Does (.ppsResponse i) s fails) ∧
      (judgePps x.pr.ppsReq x.pr.ppsT x.ch.rxBuf = none → exec (.ppsResponse i) s = .next s) ∧
      (x.ch.rxOn = none → judgePps x.pr.ppsReq x.pr.ppsT x.ch.rxBuf = none → Does (.ppsWaitExpired i) s fun t => t.now = max s.now (x.ch.lastStart + x.ch.etu.bound 9600) ∧ fails t))

/-- T=0 (06 R167 to R170): INS sends or awaits all data, its complement one byte, 60 waits on, 6X or 9X opens the status; SW2 ends the exchange with the
data and status as its response, unless 6C or 61 calls for the correction or the GET RESPONSE that PROT_CFG enables. WT expired ends the exchange
IN_DOUBT with LAST_END 5. -/
def Obligations.T0Exchange : Prop :=
  ∀ (s : State) (i : Fin 64) (b : RxChar), s.wf = true →
    let x := s.slot i
    let e := x.pr.t0
    let ins := e.header.getD 1 0#8
    let keeps (t : State) : Prop := (t.slot i).st = .busy ∧ (t.slot i).regs = x.regs ∧ (t.slot i).holder = x.holder ∧ (t.slot i).ch.rxBuf = [] ∧ OtherSlots i s t
    (x.inT0 = true → x.ch.rxBuf = [b] → x.ch.rxHold = none → e.phase = .proc →
      (b.data = ins → ins ≠ 0x60#8 → e.toSend ≠ [] → Does (.procedureByte i) s fun t =>
        keeps t ∧ (t.slot i).ch.txq = e.toSend ∧ (t.slot i).pr.t0 = { e with toSend := [] } ∧ Changes [.slots] s t) ∧
      (b.data = ins → ins ≠ 0x60#8 → e.toSend = [] → 0 < e.toRecv → Does (.procedureByte i) s fun t =>
        keeps t ∧ (t.slot i).pr.t0 = { e with phase := .recvAll } ∧ Changes [.slots] s t) ∧
      (b.data = ins ^^^ 0xFF#8 → b.data ≠ 0x60#8 → e.toSend ≠ [] → Does (.procedureByte i) s fun t =>
        keeps t ∧ (t.slot i).ch.txq = e.toSend.take 1 ∧ (t.slot i).pr.t0 = { e with toSend := e.toSend.drop 1 } ∧ Changes [.slots] s t) ∧
      (b.data = 0x60#8 → Does (.procedureByte i) s fun t =>
        keeps t ∧ (t.slot i).pr = x.pr ∧ t.count i 23 = min (s.count i 23 + 1) 0xFFFFFFFF ∧ Changes [.slots, .telemetry] s t) ∧
      (b.data.toNat / 16 = 9 → b.data ≠ ins → b.data ≠ ins ^^^ 0xFF#8 → Does (.procedureByte i) s fun t =>
        keeps t ∧ (t.slot i).pr.t0 = { e with phase := .sw2, sw1 := some b.data } ∧ Changes [.slots] s t)) ∧
    (x.inT0 = true → x.ch.rxBuf = [b] → x.ch.rxHold = none → e.phase = .sw2 →
      (∀ n y, x.holder = some n → s.txn n = some y → y.stage = .exch → y.sm = false → y.target = .slot i → e.sw1 = some 0x90#8 → Does (.t0TpduEnd i) s fun t =>
        (t.slot i).pr.lastEnd = 1 ∧ (t.slot i).pr.mode = .idle ∧
        (∃ z, t.txn n = some z ∧ z.stage = .outcome ∧ (∃ o, z.outDone = some o ∧ o.cls = .done ∧ o.resp = e.acc ++ e.data ++ [0x90#8, b.data] ∧
          o.sentLen = x.pr.sent ∧ o.tide = s.ltide)) ∧
        n ∈ t.flow.outq ∧ OtherSlots i s t ∧ Changes [.now, .slots, .timers, .tide, .dev, .flow, .mram, .cores, .telemetry, .counts, .lpos, .audit, .crypto, .out, .pba] s t) ∧
      (e.sw1 = some 0x6C#8 → bitOf x.regs.protCfg 26 = true → e.casee = 2 → e.isGr = false → e.corrected = false → Does (.t0TpduEnd i) s fun t =>
        keeps t ∧ (t.slot i).ch.txq = e.header.take 4 ++ [b.data] ∧ (t.slot i).pr.t0.phase = .proc ∧ (t.slot i).pr.t0.corrected = true ∧
        (t.slot i).pr.t0.toRecv = p3Count b.data ∧ t.count i 25 = min (s.count i 25 + 1) 0xFFFFFFFF ∧ Changes [.slots, .telemetry] s t) ∧
      (e.sw1 = some 0x61#8 → bitOf x.regs.protCfg 25 = true → e.casee = 2 → (e.acc ++ e.data).length + p3Count b.data ≤ 65536 → Does (.t0TpduEnd i) s fun t =>
        keeps t ∧ (t.slot i).ch.txq = [claClear (e.header.getD 0 0#8), 0xC0#8, 0#8, 0#8, b.data] ∧ (t.slot i).pr.t0.acc = e.acc ++ e.data ∧
        t.count i 24 = min (s.count i 24 + 1) 0xFFFFFFFF ∧ Changes [.slots, .telemetry] s t)) ∧
    (x.inT0 = true → x.pr.smWait = false → 0 < x.pr.sent → x.ch.txq = [] ∨ x.ch.txAgain.isSome = true → x.ch.rxOn = none → x.ch.rxHold = none →
      x.ch.rxBuf = [] → Does (.wtExpired i) s fun t =>
      t.now = max s.now (x.ch.lastStart + x.ch.etu.bound (x.pr.wi * 960 * diOf (fld x.regs.charEtu 7 4))) ∧ (t.slot i).pr.lastEnd = 5 ∧
      (t.slot i).pr.mode = .idle ∧ (x.seq.deactPend = false → t.count i 32 = min (s.count i 32 + 1) 0xFFFFFFFF) ∧ OtherSlots i s t ∧ Changes [.now, .slots, .timers, .tide, .dev, .flow, .mram, .cores, .telemetry, .counts, .lpos, .audit, .crypto, .out, .pba] s t)

/-- T=1 (06 R171 to R178) and the exchange limit (06 R157): a whole good last I-block ends the exchange with the information fields as its response; a
block with an error, a character waiting time passed inside a block or a block waiting time passed is answered by an R-block while BLK_RETRY allows;
S(WTX request) is answered with its own value; the limit ends the exchange IN_DOUBT with LAST_END 11. -/
def Obligations.T1Exchange : Prop :=
  ∀ (s : State) (i : Fin 64), s.wf = true →
    let x := s.slot i
    let e := x.pr.t1
    let bytes := x.ch.rxBuf.map (·.data)
    let errorR (code : Nat) (t : State) : Prop :=
      (t.slot i).ch.txq = blockOf x.pr.crc (BitVec.ofNat 8 (0x80 + b2n e.nr * 16 + code)) [] ∧ (t.slot i).pr.t1.attempts = e.attempts + 1 ∧
        (t.slot i).pr.t1.acc = e.acc ∧ (t.slot i).pr.t1.ns = e.ns ∧ (t.slot i).pr.t1.nr = e.nr ∧ (t.slot i).pr.mode = .t1 ∧ (t.slot i).st = x.st ∧
        t.count i 26 = min (s.count i 26 + 1) 0xFFFFFFFF ∧ OtherSlots i s t
    (x.inT1 = true → x.pr.mode = .t1 → x.pr.crc = false → x.ch.rxHold = none →
      (∀ pcb n inf n0 y, bytes = blockOf false pcb inf → n = inf.length → n ≤ 254 → x.ch.rxBuf.all (fun c => c.parity && c.framing) = true →
        pcb = BitVec.ofNat 8 (b2n e.nr * 64) → n ≤ x.ifsd → e.sPending = false → e.awaitAck = false → e.acc.length + n ≤ 65538 →
        x.holder = some n0 → s.txn n0 = some y → y.stage = .exch → y.sm = false → y.target = .slot i → Does (.t1BlockReceived i) s fun t =>
          (t.slot i).pr.lastEnd = 1 ∧ (t.slot i).pr.mode = .idle ∧
          (∃ z, t.txn n0 = some z ∧ z.stage = .outcome ∧ ∃ o, z.outDone = some o ∧ o.cls = .done ∧ o.resp = e.acc ++ inf ∧ o.sentLen = x.pr.sent) ∧
          OtherSlots i s t ∧ Changes [.now, .slots, .timers, .tide, .dev, .flow, .mram, .cores, .telemetry, .counts, .lpos, .audit, .crypto, .out, .pba] s t) ∧
      (∀ v, bytes = blockOf false 0xC3#8 [v] → v ≠ 0#8 → x.ch.rxBuf.all (fun c => c.parity && c.framing) = true → Does (.t1BlockReceived i) s fun t =>
        (t.slot i).ch.txq = blockOf false 0xE3#8 [v] ∧ (t.slot i).pr.t1.wtx = v.toNat ∧ (t.slot i).st = x.st ∧
        t.count i 29 = min (s.count i 29 + 1) 0xFFFFFFFF ∧ OtherSlots i s t ∧ Changes [.slots, .timers, .telemetry] s t) ∧
      (blockNeed false bytes = some x.ch.rxBuf.length → x.ch.rxBuf.any (fun c => !c.parity || !c.framing) = true → e.attempts < x.blkRetry →
        Does (.t1BlockReceived i) s fun t => errorR 1 t ∧ Changes [.slots, .timers, .telemetry] s t) ∧
      (x.ch.rxBuf ≠ [] → blockNeed false bytes = none → x.ch.rxBuf.all (fun c => c.parity && c.framing) = true → e.attempts < x.blkRetry → x.ch.rxOn = none →
        Does (.cwtExpired i) s fun t =>
          t.now = max s.now (x.ch.lastStart + x.ch.lastRxEtu.bound (11 + 2 ^ x.pr.cwi)) ∧ errorR 2 t ∧ Changes [.now, .tide, .slots, .timers, .cores, .telemetry] s t) ∧
      (x.ch.rxBuf = [] → x.ch.rxOn = none → e.bwtArmed = true → e.attempts < x.blkRetry → Does (.bwtExpired i) s fun t =>
        t.now = max s.now (x.ch.lastTx.getD 0 + x.ch.etu.bound 11 + e.wtx * 2 ^ x.pr.bwi * 357120 * x.seq.div) ∧ errorR 2 t ∧ (t.slot i).pr.t1.wtx = 1 ∧
        Changes [.now, .tide, .slots, .timers, .cores, .telemetry] s t) ∧
      (x.ch.rxBuf = [] → x.ch.rxOn = none → e.bwtArmed = true → x.blkRetry ≤ e.attempts → e.rsync < x.rsyncMax → Does (.bwtExpired i) s fun t =>
        (t.slot i).ch.txq = blockOf false 0xC0#8 [] ∧ (t.slot i).pr.mode = .resynch ∧ (t.slot i).pr.t1.rsync = e.rsync + 1 ∧
        t.count i 28 = min (s.count i 28 + 1) 0xFFFFFFFF ∧ OtherSlots i s t ∧ Changes [.now, .tide, .slots, .timers, .cores, .telemetry] s t)) ∧
    (∀ f, x.st = .busy → x.pr.mode ≠ .idle → x.pr.firstTx = some f → fld x.regs.protCfg 30 27 ≠ 0 →
      f + 2 ^ (fld x.regs.protCfg 30 27 - 1) * 1600000 ≤ s.ltide.toNat → s.rxRipe i = s → Does (.exchLimit i) s fun t =>
        (t.slot i).pr.lastEnd = 11 ∧ (t.slot i).pr.mode = .idle ∧ (x.seq.deactPend = false → t.count i 32 = min (s.count i 32 + 1) 0xFFFFFFFF) ∧
        OtherSlots i s t ∧ Changes [.now, .slots, .timers, .tide, .dev, .flow, .mram, .cores, .telemetry, .counts, .lpos, .audit, .crypto, .out, .pba] s t) ∧
    (x.pr.firstTx = none ∨ fld x.regs.protCfg 30 27 = 0 → exec (.exchLimit i) s = .next s)

/-- SLOT_DISPATCH (01 R20, 08 R241, 11 R310): a slot that can take a transaction takes the earliest fetched of its queue pair that may start, reserves itself
for it, and goes to RAW where a core is bound to it; a card-set transaction reserves the slots of all its serving positions, and one of a DIVERGED set ends
with SET_DIVERGED. -/
def Obligations.DispatchReservesSlots : Prop :=
  ∀ (s : State) (i : Fin 64), s.wf = true →
    let x := s.slot i
    (s.pick i = none → exec (.slotDispatch i) s = .next s) ∧
    (∀ n y, s.txn n = some y → s.canStart y i = true → (∀ e ∈ s.txnList, s.canStart e.2 i = true → e.2.target = .slot i.val) → Does (.slotDispatch i) s fun t =>
      ∃ m z, s.txn m = some z ∧ s.canStart z i = true ∧ (∀ e ∈ s.txnList, s.canStart e.2 i = true → e.2.qp = z.qp → z.fetchNo ≤ e.2.fetchNo) ∧
        t.txn m = some { z with stage := .intent, slots := [i.val], smSsc := (s.session z.sess).ssc } ∧
        t.slot i = { x with
          holder := some m, lastQp := z.qp, regs := if (s.boundCore i).isSome then { x.regs with charCfg := setFld x.regs.charCfg 31 30 1 } else x.regs } ∧
        OtherSlots i s t ∧ Changes [.slots, .flow] s t) ∧
    (∀ n z k, s.pick i = some n → s.txn n = some z → z.target = .set k →
      ((s.cset k).diverged = true → Does (.slotDispatch i) s fun t => t.ended n 0x23 ∧ Changes [.slots, .flow] s t) ∧
      ((s.cset k).diverged = false → Does (.slotDispatch i) s fun t =>
        t.txn n = some { z with
          stage := .intent, slots := (s.cset k).serving, smSsc := (s.session z.sess).ssc, rounds := { lead := (s.cset k).lead } } ∧
        (∀ j ∈ (s.cset k).serving, (t.slot j).holder = some n ∧ (t.slot j).lastQp = z.qp ∧ (t.slot j).st = (s.slot j).st) ∧
        (∀ j, j ∉ (s.cset k).serving → t.slot j = s.slot j) ∧ Changes [.slots, .flow] s t))

/-- INTENT_COMMIT (01 R14, R15, R22, 06 R186, 07 R208, R212): outcome records go first; a deadline passed ends the transaction with DEADLINE, an SSC at its
limit with SM_EXHAUSTED and a saturated journal with JOURNAL_FULL; else the intent record is committed with the next sequence number, and only then does stage 7 begin: a READY slot is BUSY and a T=0
engine holds the five header bytes, unless a wrap comes first. -/
def Obligations.IntentBeforeExchange : Prop :=
  ∀ (s : State) (n : Fin 1024) (x : Txn), s.wf = true → s.txn n = some x → x.stage = .intent →
    let committed (t : State) : Prop :=
      t.recorded s.flow.jNext (fun r => r.outcome = false ∧ r.tag = x.tag ∧ r.qp = x.qp ∧ r.opcode = x.opcode ∧ r.session = x.dw 2 ∧ r.tide = s.ltide ∧
        r.slots = slotMask x.slots ∧ r.target = x.recTarget ∧ r.cmdLen = x.cmdLen ∧ r.deadline = x.deadline ∧ r.cmd = x.cmd.take 64) ∧
        t.flow.jNext = s.flow.jNext + 1 ∧ ∃ z, t.txn n = some z ∧ z.stage = .exch ∧ z.intentSeq = some s.flow.jNext ∧ z.cmd = x.cmd ∧ z.slots = x.slots
    (s.flow.outq ≠ [] → exec (.intentCommit n) s = .next s) ∧
    (s.flow.outq = [] → x.deadline ≠ 0#64 → x.deadline < s.ltide → Does (.intentCommit n) s fun t => t.ended n 0x10 ∧ Changes [.slots, .timers, .dev, .flow, .mram, .cores, .counts, .ports, .lpos, .audit, .crypto, .out, .pba] s t) ∧
    (s.flow.outq = [] → ¬(x.deadline ≠ 0#64 ∧ x.deadline < s.ltide) → x.sm = true → 0xFFFFFFFFFFFFFFFE#64 ≤ x.smSsc →
      Does (.intentCommit n) s fun t => t.ended n 0x09 ∧ Changes [.slots, .timers, .dev, .flow, .mram, .cores, .counts, .ports, .lpos, .audit, .crypto, .out, .pba] s t) ∧
    (s.flow.outq = [] → ¬(x.deadline ≠ 0#64 ∧ x.deadline < s.ltide) → ¬(x.sm = true ∧ 0xFFFFFFFFFFFFFFFE#64 ≤ x.smSsc) →
      (s.saturated = true → Does (.intentCommit n) s fun t => t.ended n 0x11 ∧ Changes [.slots, .timers, .dev, .flow, .mram, .cores, .counts, .ports, .lpos, .audit, .crypto, .out, .pba] s t) ∧
      (s.saturated = false → ∀ i, x.target = .slot i → Does (.intentCommit n) s fun t =>
        let y := s.slot i
        committed t ∧ (t.slot i).st = (if y.st = .ready then .busy else y.st) ∧ (t.slot i).pr.gate = true ∧ (t.slot i).pr.sent = 0 ∧
        (x.sm = true → (t.slot i).pr.smWait = true ∧ (t.slot i).ch.txq = y.ch.txq ∧ n.val ∈ t.crypto.asked) ∧
        (x.sm = false → s.boundCore i = none → y.pr.proto = 0 →
          (t.slot i).pr.mode = .t0 ∧ (t.slot i).ch.txq = x.cmd.take 4 ++ [((apduCase x.cmd).getD (1, 0#8)).2]) ∧
        (s.boundCore i ≠ none → (t.slot i).pr.mode = .script) ∧ OtherSlots i s t ∧ Changes [.slots, .timers, .dev, .flow, .mram, .cores, .counts, .ports, .lpos, .audit, .crypto, .out, .pba] s t) ∧
      (s.saturated = false → ∀ k, x.target = .set k → Does (.intentCommit n) s fun t =>
        let l := if x.noCompare then [x.rounds.lead].filter (fun p => (s.cset k).at p = .member) else s.roundTargets x k
        committed t ∧ (∃ z, t.txn n = some z ∧ z.rounds.targets = l ∧ z.rounds.running = l) ∧
        (∀ p ∈ l, (s.slot ((s.cset k).slotOf p)).st = .ready → (t.slot ((s.cset k).slotOf p)).st = .busy) ∧ Changes [.slots, .timers, .dev, .flow, .mram, .cores, .counts, .ports, .lpos, .audit, .crypto, .out, .pba] s t))

/-- OUTCOME_COMMIT and COMPLETION_WRITE (01 R17, R22, 07 R204 to R207, R209, R218 to R221): outcome records are committed in the order requested; a completion
never overtakes one of a lower sequence number of its pair; it goes to its own ring while that has room, response first and the word with the phase last;
else into the spillway while the quota allows; else it is held and the pair stalls. -/
def Obligations.OutcomeAndCompletion : Prop :=
  ∀ (s : State) (n : Fin 1024) (x : Txn) (o : Outcome), s.wf = true → s.txn n = some x → x.outDone = some o →
    let y := s.qp x.qp
    let resp : List Out := if (o.resp.take x.respCap).isEmpty then [] else [.resp y.home x.respPtr x.respSegN x.respSegs (o.resp.take x.respCap)]
    let heldNow (t : State) : Prop := t.txn n = some { x with held := true } ∧ t.out = s.out ∧ t.flow.spill = s.flow.spill
    (∀ r, s.flow.outq = n.val :: r → Does (.outcomeCommit n) s fun t =>
      t.recorded s.flow.jNext (fun c => c.outcome = true ∧ c.tag = x.tag ∧ c.qp = x.qp ∧ c.intentSeq = x.intentSeq.getD 0 ∧ c.tide = o.tide ∧
        c.o = { o with resp := o.resp.take 24 }) ∧
      t.flow.outq = r ∧ t.flow.jNext = s.flow.jNext + 1 ∧ s.flow.jNext ∈ t.flow.unwritten ∧
      t.txn n = some { x with stage := .complete, jseq := s.flow.jNext } ∧ Changes [.dev, .flow, .mram, .counts, .lpos, .out, .pba] s t) ∧
    (∀ h r, s.flow.outq = h :: r → h ≠ n → exec (.outcomeCommit n) s = .next s) ∧
    (x.stage = .complete → s.linkUp y.home = false → s.joined x.qp = none → Does (.completionWrite n) s fun t => heldNow t ∧ Changes [.flow] s t) ∧
    (x.stage = .complete → s.linkUp y.home = true →
      ((∃ e ∈ s.txnList, (s.orderedWith x.qp).contains e.2.qp = true ∧ e.2.stage = .complete ∧ e.2.jseq ≠ 0 ∧ e.2.jseq < x.jseq) →
        Does (.completionWrite n) s fun t =>
          (∃ z, t.txn n = some z ∧ { z with held := x.held } = x) ∧ t.out = s.out ∧ t.flow.spill = s.flow.spill ∧ Changes [.flow] s t) ∧
      ((∀ e ∈ s.txnList, (s.orderedWith x.qp).contains e.2.qp = true → e.2.stage = .complete → e.2.jseq = 0 ∨ x.jseq ≤ e.2.jseq) → s.flow.spill = [] →
        (y.st ≠ .disabled → y.outstanding < y.cqSize - 1 → Does (.completionWrite n) s fun t =>
          (∃ l, l.length ≤ 1 ∧ t.out = s.out ++ resp ++
            [.write y.home (y.cqBase + BitVec.ofNat 64 (32 * y.cqTail)) (entryWords x.qp y.sqHead (decide (x.respCap < o.respLen)) false x.tag x.jseq o),
             .write y.home (y.cqBase + BitVec.ofNat 64 (32 * y.cqTail) + 28) [entryLast o y.cqPhase]] ++ l) ∧
          t.txn n = none ∧ (t.qp x.qp).cqTail = (y.cqTail + 1) % y.cqSize ∧ x.jseq ∉ t.flow.unwritten ∧ Changes [.dev, .flow, .counts, .out, .pba] s t) ∧
        (y.cqSize - 1 ≤ y.outstanding → 0 < y.quota → Does (.completionWrite n) s fun t =>
          t.flow.spill = [{ ring := x.qp, qp := x.qp, tag := x.tag, jseq := x.jseq, trunc := decide (x.respCap < o.respLen), o := { o with resp := [] } }] ∧
          t.txn n = none ∧ (t.qp x.qp).cqTail = y.cqTail ∧ (s.out ++ resp) <+: t.out ∧ Changes [.dev, .flow, .counts, .out, .pba] s t) ∧
        (y.cqSize - 1 ≤ y.outstanding → y.quota = 0 → Does (.completionWrite n) s fun t =>
          heldNow t ∧ (t.qp x.qp).stalled = true ∧ Changes [.flow] s t)))

/-- Secure messaging (06 R186, R188), once the symmetric lane serves the transaction (16 R431): the wrap counts SSC up by one and sends the head with its indication, the data encrypted, and eight bytes of MAC; a
response that verifies ends DONE with the plain response, one that does not ends IN_DOUBT with SM_MAC, closes the session and is counted. -/
def Obligations.SecureMessaging : Prop :=
  ∀ (s : State) (n : Fin 1024) (x : Txn) (i : Nat), s.wf = true → s.txn n = some x → x.target = .slot i → x.stage = .exch →
    let y := s.slot i
    let k := s.smKeys x.smKey
    (s.laneServes n = true → y.holder = some n.val → y.pr.smWait = true → y.pr.mode ≠ .idle →
      let w := smWrap k.1 k.2 (x.smSsc + 1) x.cmd
      Does (.smWrap n) s (fun t =>
        t.txn n = some { x with cmd := w, sscOld := some x.smSsc, smSsc := x.smSsc + 1 } ∧
        (∀ j, s.lookup (x.dw 2) = some j → t.session j = { s.session j with ssc := x.smSsc + 1 }) ∧
        (y.pr.mode ≠ .script → t.slot i = ({ y with pr := { y.pr with smWait := false } } : Slot).startProto w) ∧ OtherSlots i s t ∧ Changes [.slots, .flow, .cores] s t) ∧
      w.take 4 = [claSm (byteAt x.cmd 0), byteAt x.cmd 1, byteAt x.cmd 2, byteAt x.cmd 3] ∧ w.length = (apduData x.cmd).length + 14) ∧
    (s.laneServes n = true → x.wrapped ≠ [] →
      let r := smUnwrap k.1 k.2 (if x.wrapped.length = 2 then x.smSsc else x.smSsc + 1) x.wrapped
      (∀ l, r = some l → Does (.smUnwrap n) s fun t =>
        t.outcomeIs n (fun o => o.cls = .done ∧ o.status = 0 ∧ o.resp = l ∧ o.respLen = l.length ∧ o.tide = s.ltide) ∧
        (y.holder = some n.val → (t.slot i).holder = none ∧ (t.slot i).pr.lastEnd = 1) ∧ OtherSlots i s t ∧ Changes [.slots, .timers, .dev, .flow, .mram, .cores, .telemetry, .counts, .lpos, .audit, .out, .pba] s t) ∧
      (r = none → Does (.smUnwrap n) s fun t =>
        t.outcomeIs n (fun o => o.cls = .inDoubt ∧ o.status = 0x8C ∧ o.resp = x.wrapped ∧ o.tide = s.ltide) ∧
        (∀ j, s.lookup (x.dw 2) = some j → (t.session j).isOpen = false ∧ t.gen j = s.gen j + 1) ∧
        t.count i 33 = min (s.count i 33 + 1) 0xFFFFFFFF ∧ OtherSlots i s t ∧ Changes [.slots, .timers, .dev, .flow, .mram, .cores, .telemetry, .counts, .lpos, .audit, .out, .pba] s t))

/-- Fetch and the checks before dispatch (07 R198 to R203, 06 R181 to R184): an entry is copied into the transaction table in fetch order and one that cannot
be read or names no opcode ends at once; CARD_CMD that passes its checks goes to stage 4 for its session's target and CMD_GATHER brings it to stage 5, in
fetch order; OPEN_SESSION answers a handle that then names the session; CLOSE_SESSION closes it with every transaction of it before stage 6; NOP ends OK. -/
def Obligations.EntriesFetchedAndChecked : Prop :=
  ∀ (s : State) (n : Fin 1024) (q : Fin 512), s.wf = true →
    (s.nextFetch ≠ some q.val → ∀ r, exec (.sqFetch q r) s = .next s) ∧
    (s.nextFetch = some q.val → s.freeTxn = some n.val → ∀ l,
      let fetched (t : State) : Prop := (t.qp q).sqHead = ((s.qp q).sqHead + 1) % (s.qp q).sqSize ∧ t.flow.fetchNo = s.flow.fetchNo + 1 ∧ Changes [.slots, .flow, .counts] s t
      (opcodeKnown (fld (l.getD 0 0#32) 7 0) = true → Does (.sqFetch q (.entry l)) s fun t =>
        fetched t ∧ t.txn n = some { qp := q, dws := l, role := (s.qp q).role, fetchNo := s.flow.fetchNo }) ∧
      (opcodeKnown (fld (l.getD 0 0#32) 7 0) = false → Does (.sqFetch q (.entry l)) s fun t => fetched t ∧ t.ended n 0x01) ∧
      (∀ tag, Does (.sqFetch q (.error tag)) s fun t => fetched t ∧ t.ended n 0x0D ∧ ∃ z, t.txn n = some z ∧ z.tag = tag)) ∧
    (∀ x, s.txn n = some x → x.stage = .check →
      (x.opcode = 1 → s.cardCheck x ≠ 0 → Does (.cardCmd n) s fun t => t.ended n (s.cardCheck x) ∧ Changes [.slots, .flow] s t) ∧
      (x.opcode = 1 → s.cardCheck x = 0 → Does (.cardCmd n) s fun t =>
        ∃ i, s.lookup (x.dw 2) = some i ∧ t.txn n = some { x with
          stage := .gather, sess := i, target := if (s.session i).onSet then .set (s.session i).target else .slot (s.session i).target
          sm := decide ((s.session i).profile = 1), smKey := (s.session i).key } ∧ 1 ≤ x.role ∧ 4 ≤ x.cmdLen ∧ x.cmdLen ≤ 65544 ∧ Changes [.flow] s t) ∧
      (x.opcode = 2 → s.openCheck x ≠ 0 → Does (.openSession n) s fun t => t.ended n (s.openCheck x) ∧ Changes [.slots, .flow] s t) ∧
      (x.opcode = 2 → s.openCheck x = 0 → bitOf (x.dw 3) 8 = false → Does (.openSession n) s fun t =>
        t.ended n 0 ∧ ∃ i z o, s.freeSession = some i ∧ t.txn n = some z ∧ z.outDone = some o ∧ o.resp.length = 4 ∧ t.lookup (BitVec.ofNat 32 (ofLe o.resp)) = some i ∧
          t.session i = { isOpen := true, onSet := false, target := fld (x.dw 3) 5 0, channel := fld (x.dw 3) 20 16, profile := fld (x.dw 3) 27 24,
                          key := x.dw 13, ssc := cat64 (x.dw 15) (x.dw 14) } ∧ (s.slot (fld (x.dw 3) 5 0)).inService = true ∧ Changes [.slots, .flow] s t) ∧
      (x.opcode = 3 → s.plainCheck x true = 0 → Does (.closeSession n) s fun t =>
        t.ended n 0 ∧ ∃ i, s.lookup (x.dw 2) = some i ∧ (t.session i).isOpen = false ∧ t.gen i = s.gen i + 1 ∧
          (∀ m z, s.txn m = some z → z.sess = i → z.stage = .gather ∨ z.stage = .wait → t.ended m 0x0F) ∧
          (∀ m z, s.txn m = some z → z.stage = .intent ∨ z.stage = .exch → ∃ y, t.txn m = some y ∧ y.stage = z.stage) ∧ Changes [.slots, .timers, .dev, .flow, .mram, .cores, .counts, .lpos, .audit, .out, .pba] s t) ∧
      (x.opcode = 3 → s.plainCheck x true ≠ 0 → Does (.closeSession n) s fun t => t.ended n (s.plainCheck x true) ∧ Changes [.slots, .flow] s t) ∧
      (x.opcode = 4 → Does (.nop n) s fun t => t.ended n (s.plainCheck x false) ∧ Changes [.slots, .flow] s t)) ∧
    (∀ x r, s.txn n = some x → x.stage = .gather →
      let first : Bool := !s.txnList.any fun e => e.2.stage = .gather && e.2.fetchNo < x.fetchNo
      let cmd : List Byte := if x.cmdLen = 0 then [] else padTo x.cmdLen (r.cmd.getD [])
      (first = false ∨ 1024 < s.chunksUsed + s.chunksFor x → exec (.cmdGather n r) s = .next s) ∧
      (first = true → s.chunksUsed + s.chunksFor x ≤ 1024 → x.opcode = 1 →
        (x.gatherFail r = 0 → s.byteCheck x (some cmd) = 0 → Does (.cmdGather n r) s fun t =>
          t.txn n = some { x with stage := .wait, cmd := cmd, respSegs := r.respList.getD [], chunks := s.chunksFor x, arriveNo := s.flow.arriveNo } ∧
          t.flow.arriveNo = s.flow.arriveNo + 1 ∧ Changes [.flow] s t) ∧
        (x.gatherFail r = 0 → s.byteCheck x (some cmd) ≠ 0 → Does (.cmdGather n r) s fun t => t.ended n (s.byteCheck x (some cmd)) ∧ Changes [.slots, .flow] s t) ∧
        (x.gatherFail r ≠ 0 → s.byteCheck x none = 0 → Does (.cmdGather n r) s fun t => t.ended n (x.gatherFail r) ∧ Changes [.slots, .flow] s t)))

/-- The commands of a queue pair and its ACK (07 R193 to R195, R214, R215, Table 7-10): ENABLE takes the role of a live log-in; DISABLE drains and ends what
has not reached stage 6; RESUME and RESUME_AT bring a suspended pair back; ACK is persisted at most once
in 10 ms (its moment rests on log 4), and never while a journal write waits (01 R21). -/
def Obligations.QueuePairs : Prop :=
  ∀ (s : State) (ag : Agent) (q : Fin 512) (w : Word), s.wf = true →
    let x := s.qp q
    let answer (e : CmdErr) (f : QPair → QPair) : Host.Outcome State Fault Refusal := .next (s.modQp q fun x => { f x with cmdErr := e })
    (w &&& 0xF#32 = 0#32 →
      (x.st = .disabled → ∀ r, s.loginRole x.login = some r → exec (.qpEnable ag q w) s = answer .none fun x => { x with
        sqHead := 0, sqTail := 0, cqHead := 0, cqTail := 0, cqPhase := true, role := r, checkpoint := none, stalled := false, st := .enabled }) ∧
      (x.st = .disabled → s.loginRole x.login = none → exec (.qpEnable ag q w) s = answer .value id) ∧
      (x.st ≠ .disabled → exec (.qpEnable ag q w) s = answer .state id) ∧
      (x.live = true → Does (.qpDisable ag q w) s fun t =>
        (t.qp q).cmdErr = .none ∧ (∀ m z, s.txn m = some z → z.qp = q → z.early = true → t.ended m 0x13) ∧
        (t.qp q).st = (if (s.txnsOf q).isEmpty && !s.flow.spill.any (fun e => e.qp = q) then .disabled else .draining) ∧ Changes [.slots, .timers, .dev, .flow, .mram, .cores, .counts, .lpos, .audit, .out, .pba] s t) ∧
      (x.live = false → exec (.qpDisable ag q w) s = answer .state id) ∧
      (x.st = .suspended → s.linkUp x.home = true →
        exec (.resume ag q w) s = (answer .none fun x => { x with st := .enabled }) ∧
        (fld w 31 16 < x.sqSize → exec (.resumeAt ag q w) s = answer .none fun x => { x with st := .enabled, sqHead := fld w 31 16 }) ∧
        (x.sqSize ≤ fld w 31 16 → exec (.resumeAt ag q w) s = answer .value id)) ∧
      (x.st ≠ .suspended ∨ s.linkUp x.home = false → exec (.resume ag q w) s = answer .state id ∧ exec (.resumeAt ag q w) s = answer .state id) ∧
      ∀ c ∈ [Instr.qpEnable ag q (w ||| 2#32), .qpDisable ag q (w ||| 4#32), .resume ag q (w ||| 8#32), .resumeAt ag q (w ||| 1#32)],
        exec c s = answer .multiple id) ∧
    (s.ackOf q = tget 0 s.mram.acks q ∨ s.journalWaits = true → exec (.ackPersist q) s = .next s) ∧
    (s.ackOf q ≠ tget 0 s.mram.acks q → s.journalWaits = false → Does (.ackPersist q) s fun t =>
      tget 0 t.mram.acks q = s.ackOf q ∧ (t.qp q).ackAt = some t.now ∧ (∀ a, x.ackAt = some a → a + 4800000 ≤ t.now) ∧
      (x.ackAt = none → t.now = s.now) ∧ Changes [.now, .tide, .timers, .cores, .flow, .mram] s t)

/-- Doorbells (07 R196, R197; 15 R394): one with bits [31:16] not 0, an index of S or more, or to a DISABLED pair is ignored and sets DB_ERR, as is every doorbell
before the dictionary is loaded and SQ_TAIL before RECOVERY reads DONE; an accepted SQ_TAIL is the new tail. CQ_HEAD is accepted only up to CQ_TAIL; it passes
the entries up to it, the checkpoint among them, and the space freed goes first to the spillway entries of the ring. -/
def Obligations.Doorbells : Prop :=
  ∀ (s : State) (p : Path) (q : Fin 512) (w : Word), s.wf = true →
    let x := s.qp q
    (let good : Prop := fld w 31 16 = 0 ∧ fld w 15 0 < x.sqSize ∧ x.st ≠ .disabled ∧ s.dev.recovery = 3 ∧ s.boot.loaded = true
     (good → exec (.sqTailDoorbell p q w) s = .next (s.modQp q fun x => { x with sqTail := fld w 15 0 })) ∧
     (¬good → Does (.sqTailDoorbell p q w) s fun t => t.qp q = { x with dbErr := true } ∧ Changes [.flow, .counts] s t)) ∧
    (let n := x.cqSize
     let k := (fld w 15 0 + n - x.cqHead) % n
     let good : Prop := fld w 31 16 = 0 ∧ fld w 15 0 < n ∧ x.st ≠ .disabled ∧ s.boot.loaded = true ∧ k ≤ (x.cqTail + n - x.cqHead) % n
     (¬good → Does (.cqHeadDoorbell p q w) s fun t => t.qp q = { x with dbErr := true } ∧ Changes [.flow, .counts] s t) ∧
     (good → s.spillOf q = [] →
       (x.checkpoint = none → exec (.cqHeadDoorbell p q w) s = .next (s.modQp q fun x => { x with cqHead := fld w 15 0 })) ∧
       (∀ c j, x.checkpoint = some (c, j) → exec (.cqHeadDoorbell p q w) s = .next (s.modQp q fun x =>
         if (c + n - x.cqHead) % n < k then { x with cqHead := fld w 15 0, passed := some j, checkpoint := none } else { x with cqHead := fld w 15 0 }))) ∧
     (good → ∀ e, s.flow.spill = [e] → e.ring = q → s.linkUp x.home = true → (x.cqTail + n - fld w 15 0) % n < n - 1 → Does (.cqHeadDoorbell p q w) s fun t =>
       t.flow.spill = [] ∧ (t.qp q).cqHead = fld w 15 0 ∧ (t.qp q).cqTail = (x.cqTail + 1) % n ∧ e.jseq ∉ t.flow.unwritten ∧ s.out.length + 2 ≤ t.out.length ∧
       Changes [.dev, .flow, .counts, .out, .pba] s t))

/-- Links, the event ring and the device interrupts (07 R216 to R219, R222 to R225): a link that falls suspends the joined pairs at home on it and ends what they
have before stage 6; EVR_CFG and EVR_HEAD check their writes; the oldest event goes out as an entry of 16 words once recovery is done; unmasking a set
source sends its vector; reading SPILL_STATUS clears its peak. -/
def Obligations.LinksAndEvents : Prop :=
  ∀ (s : State) (ag : Agent) (p : Path) (v : Word), s.wf = true →
    let d := s.dev
    let n := d.evrSize
    (s.linkUp p = true → ∀ perst, Does (.linkDown p perst) s fun t =>
      t.linkUp p = false ∧ (∀ q ∈ s.joinedOn p, (t.qp q).st = .suspended) ∧ t.dev.irqStatus.getLsbD 3 = true ∧
      (∀ m z, s.txn m = some z → z.qp ∈ s.joinedOn p → z.early = true → t.ended m 0x12) ∧
      (s.joinedOn p = [] → Posts s t 0x40 (pathNum p) 0) ∧ Changes [.slots, .timers, .dev, .flow, .mram, .cores, .counts, .lpos, .audit, .out, .msix, .pba] s t) ∧
    (s.linkUp p = false → exec (.linkDown p false) s = .next s) ∧
    (s.linkUp p = false → 2 ≤ s.boot.step → (s.loop 14).running = false → Does (.linkUp p) s fun t =>
      t.linkUp p = true ∧ t.dev.irqStatus.getLsbD 3 = true ∧ Posts s t 0x41 (pathNum p) 0 ∧ Changes [.dev, .flow, .counts, .out, .pba] s t) ∧
    (fld v 11 0 < 15 → exec (.evrCfgWrite ag v) s = .next (s.devErr .value)) ∧
    (15 ≤ fld v 11 0 →
      (d.evrEn = true → bitOf v 28 ≠ bitOf d.evrCfg 28 ∨ fld v 11 0 ≠ fld d.evrCfg 11 0 → exec (.evrCfgWrite ag v) s = .next (s.devErr .locked)) ∧
      (d.evrEn = true → bitOf v 28 = bitOf d.evrCfg 28 → fld v 11 0 = fld d.evrCfg 11 0 →
        exec (.evrCfgWrite ag v) s = .next (s.modDev fun d => { d with cmdErr := .none, evrCfg := v &&& 0x90000FFF#32 })) ∧
      (d.evrEn = false → exec (.evrCfgWrite ag v) s = .next (s.modDev fun d =>
        if bitOf v 31 then { d with cmdErr := .none, evrCfg := v &&& 0x90000FFF#32, evrHead := 0, evrTail := 0, evrPhase := true, recovery := if d.recovery = 1 then 2 else d.recovery }
        else { d with cmdErr := .none, evrCfg := v &&& 0x90000FFF#32 }))) ∧
    (let good : Prop := fld v 31 16 = 0 ∧ fld v 15 0 < n ∧ (fld v 15 0 + n - d.evrHead) % n ≤ (d.evrTail + n - d.evrHead) % n
     (¬good → exec (.evrHead ag v) s = .next (s.devErr .value)) ∧ (good → d.evrEn = false → exec (.evrHead ag v) s = .next (s.devErr .state)) ∧
     (good → d.evrEn = true → exec (.evrHead ag v) s = .next (s.modDev fun d => { d with cmdErr := .none, evrHead := fld v 15 0 }))) ∧
    (∀ e r, d.evq = e :: r → s.evrReady = true → d.recovery = 3 → Does .eventWrite s fun t =>
      t.dev = { d with evq := r, evrTail := (d.evrTail + 1) % n, evrPhase := if (d.evrTail + 1) % n = 0 then !d.evrPhase else d.evrPhase } ∧
      (∃ l, l.length ≤ 1 ∧ t.out = s.out ++ [.write s.evrPath (d.evrBase + BitVec.ofNat 64 (64 * d.evrTail)) e.words,
        .write s.evrPath (d.evrBase + BitVec.ofNat 64 (64 * d.evrTail) + 60) [packed [(31, b2n d.evrPhase)]]] ++ l) ∧ e.words.length = 15 ∧
      Changes [.dev, .counts, .out, .pba] s t) ∧
    (d.evq = [] ∨ s.evrReady = false ∨ d.recovery ≠ 3 → exec .eventWrite s = .next s) ∧
    (Does (.irqMaskWrite ag v) s fun t =>
      t.dev = { d with cmdErr := .none, irqMask := v.setWidth 16 } ∧
      (∀ j < 16, d.irqMask.getLsbD j = true → bitOf v j = false → d.irqStatus.getLsbD j = true → s.linkUp s.evrPath = true →
        bitOf (s.msixWord s.evrPath (4 * (513 + j) + 3)) 0 = false → Out.msix s.evrPath (513 + j) ∈ t.out) ∧ Changes [.dev, .counts, .out, .pba] s t) ∧
    exec (.spillStatusRead ag) s = .next { s with
      dev := { d with spillPeak := 0 }, lastRead := packed [(16, d.spillPeak), (0, s.flow.spill.length)] }

/-- The commands of a card set (08 R228 to R233, R243, Table 8-6), for agents the write is granted to: ENABLE checks the map and forms the set of the slots
that are READY; DISABLE closes its sessions and waits for its transaction, and is taken again until then; CLEAR_DIVERGED; REJOIN takes an OUT position of a READY slot as RESERVE, or as
MEMBER where they are short and no RESERVE stands lower (PENDING members of a FORMING set are no shortfall, log 123); EJECT takes a serving position OUT. Marks go to MRAM. -/
def Obligations.CardSetCommands : Prop :=
  ∀ (s : State) (ag : Agent) (k : Fin 32) (w : Word), s.wf = true → s.allows ag 2 = true → w &&& 0x1F#32 = 0#32 →
    let c := s.cset k
    let p := fld w 10 8
    let answer (e : CmdErr) : Host.Outcome State Fault Refusal := .next (s.modSet k fun c => { c with cmdErr := e })
    (∀ x ∈ [Instr.setEnable ag k (w ||| 2#32), .setDisable ag k (w ||| 4#32), .clearDiverged ag k (w ||| 8#32), .setRejoin ag k (w ||| 16#32),
      .eject ag k (w ||| 1#32)], exec x s = answer .multiple) ∧
    (5 < p → ∀ x ∈ [Instr.setEnable ag k w, .setDisable ag k w, .clearDiverged ag k w, .setRejoin ag k w, .eject ag k w], exec x s = answer .value) ∧
    (p ≤ 5 →
      (c.mapOk = false → exec (.setEnable ag k w) s = answer .value) ∧
      (c.mapOk = true → c.enabled = true ∨ s.mapTaken k = true → exec (.setEnable ag k w) s = answer .state) ∧
      (c.mapOk = true → c.enabled = false → s.mapTaken k = false → Does (.setEnable ag k w) s fun t =>
        let d := t.cset k
        d.enabled = true ∧ d.forming = true ∧ d.diverged = false ∧ d.suspect = 0 ∧ d.cmdErr = .none ∧ d.mapLo = c.mapLo ∧ d.mapHi = c.mapHi ∧
        (∀ j < 6, d.at j = if c.used j then (if (s.slot (c.slotOf j)).st = .ready then (if j < 4 then .member else .reserve) else .pending) else .unused) ∧
        tget {} t.mram.sets k = {} ∧ Changes [.slots, .timers, .dev, .flow, .mram, .cores, .counts, .lpos, .audit, .out, .pba] s t) ∧
      (c.enabled = false → exec (.setDisable ag k w) s = answer .state) ∧
      (c.enabled = true →
        ((∀ m z, s.txn m = some z → z.target = .set k.val → z.stage ≠ .exch ∧ z.stage ≠ .intent) → Does (.setDisable ag k w) s fun t =>
          (t.cset k).enabled = false ∧ (t.cset k).cmdErr = .none ∧ (∀ j < 6, (t.cset k).at j = .unused) ∧
          (∀ j ∈ s.sessionsOn true k, (t.session j).isOpen = false) ∧ Changes [.slots, .timers, .dev, .flow, .mram, .cores, .counts, .lpos, .audit, .out, .pba] s t) ∧
        ((∃ m z, s.txn m = some z ∧ z.target = .set k.val ∧ z.stage = .exch) → Does (.setDisable ag k w) s fun t =>
          (t.cset k).enabled = true ∧ (t.cset k).draining = true ∧ (t.cset k).cmdErr = .none ∧ (∀ j ∈ s.sessionsOn true k, (t.session j).isOpen = false) ∧
          Changes [.slots, .timers, .dev, .flow, .mram, .cores, .counts, .lpos, .audit, .out, .pba] s t)) ∧
      (c.diverged = true → Does (.clearDiverged ag k w) s fun t =>
        t.cset k = { c with diverged := false, cmdErr := .none } ∧ (tget {} t.mram.sets k).diverged = false ∧ Changes [.flow, .mram] s t) ∧
      (c.diverged = false → exec (.clearDiverged ag k w) s = answer .state) ∧
      (let may : Prop := c.at p = .out ∧ (s.slot (c.slotOf p)).st = .ready ∧ s.sessionsOn false (c.slotOf p) = [] ∧ s.sessionsOn true k = [] ∧
         c.diverged = false ∧ c.draining = false
       (¬may → exec (.setRejoin ag k w) s = answer .state) ∧
       (may → c.c ≤ c.hopeful ∨ (∃ j ∈ c.which .reserve, j < p) → Does (.setRejoin ag k w) s fun t =>
         (t.cset k).at p = .reserve ∧ (t.cset k).cmdErr = .none ∧ Posts s t 0x54 k p ∧ Changes [.slots, .timers, .dev, .flow, .mram, .cores, .counts, .lpos, .audit, .out, .pba] s t) ∧
       (may → c.hopeful < c.c → (∀ j ∈ c.which .reserve, p < j) → Does (.setRejoin ag k w) s fun t =>
         (t.cset k).at p = .member ∧ (t.cset k).cmdErr = .none ∧ Posts s t 0x54 k p ∧ Changes [.slots, .timers, .dev, .flow, .mram, .cores, .counts, .lpos, .audit, .out, .pba] s t)) ∧
      (c.draining = false → c.at p = .member ∨ c.at p = .reserve → c.cause.length = 6 → Does (.eject ag k w) s fun t =>
        (t.cset k).at p = .out ∧ (t.cset k).cause.getD p 0 = 4 ∧ (tget {} t.mram.sets k).out.getD p 0 = 4 ∧ (t.cset k).cmdErr = .none ∧
        Posts s t 0x51 k p ∧ Changes [.slots, .timers, .dev, .flow, .mram, .cores, .counts, .lpos, .audit, .out, .pba] s t) ∧
      (c.draining = true ∨ ¬(c.at p = .member ∨ c.at p = .reserve) → exec (.eject ag k w) s = answer .state))

/-- ROUND_END (08 R235 to R239, Table 8-2): once every exchange of a round has ended, a round of an idempotent command is run again where the set's settings
ask for it; else the responses decide: identical ones of a quorum end DONE, an outvoted minority goes OUT and SUSPECT under MAJORITY, disagreement without
a majority leaves the set DIVERGED, fewer than a quorum end NO_QUORUM, and nothing sent ends NOT_SENT. The slots are free again. -/
def Obligations.CardSetDecision : Prop :=
  ∀ (s : State) (n : Fin 1024) (x : Txn) (k : Nat), s.wf = true → s.txn n = some x → x.target = .set k →
    let c := s.cset k
    let r := x.rounds
    let l := decided c r
    let g := largest x.respCap l
    let frees (t : State) : Prop := (∀ j ∈ x.slots, (t.slot j).holder ≠ some n.val) ∧ Changes [.slots, .timers, .dev, .flow, .mram, .cores, .counts, .lpos, .audit, .crypto, .out, .pba] s t
    (x.stage ≠ .exch ∨ r.running ≠ [] → exec (.roundEnd n) s = .next s) ∧
    (x.stage = .exch → r.running = [] → x.noCompare = false →
      (r.fresh.filter (fun i => c.at i = .member) = [] ∨ x.idem = false ∨ bitOf c.cfg 1 = false ∨ r.reissued = true) →
        (mismatch c x.respCap r = true → x.idem = true → bitOf c.cfg 0 = true → r.retried = false → Does (.roundEnd n) s fun t =>
          (∃ z, t.txn n = some z ∧ z.stage = .exch ∧ z.rounds.retried = true ∧ z.rounds.running = s.roundTargets x k ∧ z.rounds.targets = s.roundTargets x k) ∧
          Changes [.slots, .timers, .dev, .flow, .mram, .cores, .counts, .lpos, .audit, .crypto, .out, .pba] s t) ∧
        (mismatch c x.respCap r = false ∨ x.idem = false ∨ bitOf c.cfg 0 = false ∨ r.retried = true →
          (r.began = false → r.outs = [] → Does (.roundEnd n) s fun t => t.outcomeIs n (fun o => o.cls = .notSent ∧ o.status = 0x90 ∧ o.resp = [] ∧ o.sentLen = 0) ∧ frees t) ∧
          (r.began = true → disagree x.respCap l = false → c.quorum ≤ l.length → Does (.roundEnd n) s fun t =>
            t.outcomeIs n (fun o => o.cls = .done ∧ o.status = 0 ∧ o.resp = g.2 ∧ o.tide = s.ltide) ∧ frees t) ∧
          (r.began = true → disagree x.respCap l = false → l.length < c.quorum → Does (.roundEnd n) s fun t =>
            t.outcomeIs n (fun o => o.cls = .inDoubt ∧ o.status = 0x22) ∧ frees t) ∧
          (r.began = true → disagree x.respCap l = true → 3 ≤ c.c → c.quorum ≤ g.1.length → Does (.roundEnd n) s fun t =>
            t.outcomeIs n (fun o => o.cls = .done ∧ o.status = 0x21 ∧ o.resp = g.2) ∧
            (∀ e ∈ l, e.1 ∉ g.1 → (t.cset k).suspect / 2 ^ e.1 % 2 = 1 ∧ (c.draining = false → c.at e.1 = .member → (t.cset k).at e.1 = .out)) ∧ frees t) ∧
          (r.began = true → disagree x.respCap l = true → c.c < 3 ∨ g.1.length < c.quorum → Does (.roundEnd n) s fun t =>
            t.outcomeIs n (fun o => o.cls = .inDoubt ∧ o.status = 0x20) ∧ (t.cset k).diverged = true ∧ (tget {} t.mram.sets k).diverged = true ∧
            (∀ e ∈ l, (t.cset k).suspect / 2 ^ e.1 % 2 = 1) ∧ Posts s t 0x53 k 1 ∧ frees t))) ∧
    (x.stage = .exch → r.running = [] → x.noCompare = true → (x.idem = false ∨ bitOf c.cfg 1 = false ∨ r.reissued = true) → ∀ p m, r.targets = [p] →
      r.cur.getD p none = some m → m.done = true → Does (.roundEnd n) s fun t =>
        t.outcomeIs n (fun o => o.cls = m.cls ∧ o.status = m.status ∧ o.resp = m.resp) ∧ frees t)

/-- Tempering (09 R247 to R265): a full window of 16 characters, 64 periods or 64 samples of each channel reports what was measured and decides at most one
step of each setting within its range; a limit met in LIM_WINDOWS windows in a row acts once in that run: it quenches with TEMPER_LIMIT or posts an event,
as its action says; at an apply point the decisions take effect as the mode says, the duty trim at the next falling edge of CLK; GO starts a request of the
converter; a sample in progress ends 2 µs after it was taken up and goes to the user it was taken for. -/
def Obligations.Tempering : Prop :=
  ∀ (s : State) (i : Fin 64) (p : Fin 8) (ag : Agent) (w : Word), s.wf = true →
    let x := s.slot i
    let tp := x.temp
    let win := tp.win
    let n := x.seq.div
    let e := x.ch.etu
    let sum (l : List Nat) : Nat := (l.take 64).sum
    let limit (code : Nat) : Prop := tp.limWindows ≤ tp.runs.getD (code - 1) 0 + 1 ∧ tp.acted.getD (code - 1) false = false
    (win.chars < 16 → exec (.temperWindowEnd i .edge) s = .next s) ∧ (win.vccN < 64 ∨ win.curN < 64 → exec (.temperWindowEnd i .conv) s = .next s) ∧
    (x.measured = false ∨ x.seq.clkRun = false → ∀ l, exec (.temperWindowEnd i (.duty l)) s = .next s) ∧
    (tp.modeApplied < 2 → x.tempered = false → 16 ≤ win.chars → 0 < win.received → exec (.temperWindowEnd i .edge) s =
      .next (s.modSlot i fun x => { x with temp := { x.temp with
        m10 := packed [(16, satField 16 win.rise), (0, satField 16 win.fall)], m14 := packed [(16, satField 16 win.txFall), (0, satField 8 win.ring)]
        m18 := packed [(16, i16Field win.eMax), (0, i16Field win.eMin)], m1c := BitVec.ofInt 32 (eyeMargin e tp.app.ofs win.eMin win.eMax)
        pendPull := (pullDecision e tp.app.pull win.rise win.fall win.received).or tp.pendPull
        pendSlew := (slewDecision e tp.app.slew win.ring win.txFall win.transmitted).or tp.pendSlew
        pendOfs := (ofsDecision e tp.app.ofs win.eMin win.eMax win.received).or tp.pendOfs, win := win.noChars } })) ∧
    (x.tempered = true → 16 ≤ win.chars → 0 < win.received → eyeMargin e tp.app.ofs win.eMin win.eMax < 0 → win.rise ≤ e.part 4 → limit 1 → tp.quenches 1 = false →
      Does (.temperWindowEnd i .edge) s fun t =>
        (t.slot i).temp.eye = true ∧ (t.slot i).temp.lastLimit = 1 ∧ (t.slot i).temp.acted.getD 0 true = true ∧ (t.slot i).st = x.st ∧ Posts s t 0x61 i 1 ∧
        OtherSlots i s t ∧ Changes [.now, .slots, .timers, .tide, .dev, .flow, .mram, .cores, .telemetry, .counts, .lpos, .audit, .crypto, .loops, .out, .pba, .freeCount] s t) ∧
    (∀ l a, x.measured = true → x.seq.clkRun = true → x.seq.divNext = none → tp.dutyNext = none → win.dutyFrom = some a →
      let due := a + (64 - win.dutyN) * n
      (tp.modeApplied < 2 → 400 * 64 * n ≤ sum l * 1000 → sum l * 1000 ≤ 600 * 64 * n → Does (.temperWindowEnd i (.duty l)) s fun t =>
        t.now = max s.now due ∧ t.slot i = { x with temp := { tp with
          m20 := packed [(16, satField 16 (sum l / 4)), (0, satField 10 (sum l * 1000 / (64 * n)))], win := win.noPeriods n
          pendDuty := (dutyDecision n tp.app.duty (sum l)).or tp.pendDuty, runs := if x.tempered then tp.runs.set 2 0 else tp.runs
          acted := if x.tempered then tp.acted.set 2 false else tp.acted } } ∧ OtherSlots i s t ∧ Changes [.now, .tide, .timers, .cores, .slots] s t) ∧
      (x.tempered = true → s.boot.slotHeld = false → sum l * 1000 < 400 * 64 * n → tp.held = true ∨ tp.app.duty = 4 → limit 3 →
        (x.powered = true → bitOf tp.cfg 24 = true → Does (.temperWindowEnd i (.duty l)) s fun t =>
          (t.slot i).st = .quenching ∧ (t.slot i).regs.primary = 11 ∧ (t.slot i).seq.quenchT0 = some t.now ∧ Posts s t 0x60 i 3 ∧ OtherSlots i s t ∧
          Changes [.now, .slots, .timers, .tide, .dev, .flow, .mram, .cores, .telemetry, .counts, .lpos, .audit, .crypto, .loops, .out, .pba, .freeCount] s t) ∧
        (bitOf tp.cfg 24 = false → Does (.temperWindowEnd i (.duty l)) s fun t =>
          (t.slot i).st = x.st ∧ (t.slot i).temp.duty = true ∧ (t.slot i).temp.lastLimit = 3 ∧ Posts s t 0x61 i 3 ∧ OtherSlots i s t ∧ Changes [.now, .slots, .timers, .tide, .dev, .flow, .mram, .cores, .telemetry, .counts, .lpos, .audit, .crypto, .loops, .out, .pba, .freeCount] s t))) ∧
    (x.tempered = true → 64 ≤ win.vccN → 64 ≤ win.curN → tp.runs.length = 6 → win.vccMax - win.vccMin ≤ fld tp.cfg 11 0 →
      64 * (regulated (x.seq.cls.getD .c)).1 ≤ 2 * win.vccSum → 2 * win.vccSum ≤ 64 * (regulated (x.seq.cls.getD .c)).2 →
      win.curSum ≤ 64 * 20 * ratedMa (x.seq.cls.getD .c) → Does (.temperWindowEnd i .conv) s fun t =>
        (t.slot i).temp.m24 = packed [(16, satField 12 (win.vccSum / 64)), (0, satField 12 (win.vccMax - win.vccMin))] ∧
        (t.slot i).temp.m28 = packed [(16, satField 12 (win.curSum / 64)), (0, satField 12 win.curMax)] ∧ (t.slot i).temp.app = tp.app ∧
        (t.slot i).temp.win = win.noSamples ∧ (t.slot i).st = x.st ∧ (t.slot i).temp.runs = tp.runs.take 3 ++ [0, 0, 0] ∧ OtherSlots i s t ∧ Changes [.slots] s t) ∧
    (∀ d v, dutyDecision n tp.app.duty d = some v → -4 ≤ tp.app.duty → tp.app.duty ≤ 4 → (v - tp.app.duty).natAbs = 1 ∧ -4 ≤ v ∧ v ≤ 4) ∧
    (∀ u a b g q, pullDecision u tp.app.pull a b g = some q → tp.app.pull ≤ 2 → q ≤ 2 ∧ (q = tp.app.pull + 1 ∨ q + 1 = tp.app.pull)) ∧
    (∀ u a b g q, slewDecision u tp.app.slew a b g = some q → tp.app.slew ≤ 7 → q ≤ 7 ∧ (q = tp.app.slew + 1 ∨ q + 1 = tp.app.slew)) ∧
    (let goal : Setting :=
       if tp.mode = 0 then { ofs := tp.pendOfs.getD tp.app.ofs, pull := tp.pendPull.getD tp.app.pull, slew := tp.pendSlew.getD tp.app.slew,
                             duty := tp.pendDuty.getD tp.app.duty }
       else if tp.mode = 1 then tp.app else if tp.mode = 2 then tp.fixedSetting x.ofsMax else x.startSetting
     let applied (busy : Bool) (t : State) : Prop :=
       t.slot i = x.temperNow t.now busy ∧ OtherSlots i s t ∧ (t.slot i).temp.modeApplied = tp.mode ∧
       (tp.mode ≠ 3 ∨ tp.modeApplied ≠ 3 → 0 < n → x.seq.divNext = none → tp.dutyNext = none →
         (t.slot i).temp.app = { goal with duty := if x.seq.clkRun then tp.app.duty else goal.duty } ∧
         (x.seq.clkRun = true → goal.duty ≠ tp.app.duty → (t.slot i).temp.dutyNext = some goal.duty ∧ (t.slot i).temp.dutyAt = x.nextFall t.now))
     (x.tempered = true → win.chars < 16 → x.ch.applyAt = some s.now → x.ch.lastStart ≠ s.now → Does (.temperApply i .a) s fun t =>
       applied (s.inShifter x) t ∧ Changes [.slots] s t) ∧
     (win.chars < 16 → x.tempered = false ∨ x.ch.applyAt ≠ some s.now ∨ x.ch.lastStart = s.now → exec (.temperApply i .a) s = .next s) ∧
     (x.tempered = true → win.chars < 16 → x.betweenBlocks = true → x.ch.txChk = none → x.ch.rxOn = none → x.ch.rxHold = none → x.ch.rxBuf = [] →
       (x.startsBy x.pointB = false → Does (.temperApply i .b) s fun t =>
         t.now = max s.now x.pointB ∧ applied false t ∧ Changes [.now, .tide, .timers, .cores, .slots] s t) ∧
       (x.startsBy x.pointB = true → exec (.temperApply i .b) s = .next s)) ∧
     (x.tempered = false → Does (.temperApply i .atOnce) s fun t =>
       t.slot i = x.modeNow s.now (s.inShifter x) ∧ (t.slot i).temp.modeApplied = tp.mode ∧ (tp.mode < 2 ∨ tp.mode = tp.modeApplied → (t.slot i).temp.app = tp.app) ∧
       OtherSlots i s t ∧ Changes [.slots] s t) ∧
     (x.tempered = true → exec (.temperApply i .atOnce) s = .next s)) ∧
    (s.allows ag 2 = true →
      let q := s.polder p
      let y := s.slot (8 * p + fld w 2 0)
      let hold : Prop := y.st = .clockstop ∧ bitOf w 16 = true ∧ fld w 5 4 < 2
      let started (h : Bool) (t : State) : Prop :=
        (t.polder p).conv = { q.conv with cmdErr := .none, cfg := w &&& 0x0001FF37#32, busy := true, preempted := false, samples := [], holdClk := h } ∧
        (∀ u, q.convUser = some u → (t.polder p).convUser = some u ∧ (t.polder p).convAt = q.convAt)
      (q.conv.busy = true → exec (.go ag p w) s = .next (s.convErr p .state)) ∧
      (q.conv.busy = false → ¬hold → Does (.go ag p w) s fun t =>
        started false t ∧ (q.convUser = none → q.settle = [] → (t.polder p).convUser = some .request ∧ (t.polder p).convAt = s.now) ∧ Changes [.polders] s t) ∧
      (q.conv.busy = false → hold → Does (.go ag p w) s fun t =>
        started true t ∧ (y.seq.restartAt = none → t.slot (8 * p + fld w 2 0) = { y.startClk s.now with seq := { (y.startClk s.now).seq with restartAt := some s.now } }) ∧
        Changes [.slots, .polders] s t)) ∧
    (∀ (v : BitVec 12) u, (s.polder p).convUser = some u →
      let r := (s.polder p).conv
      let taken (t : State) : Prop := t.now = max s.now ((s.polder p).convAt + 960)
      (u = .request → r.busy = true → r.samples.length + 1 < r.total → Does (.convSample p v) s fun t =>
        taken t ∧ (t.polder p).conv = { r with samples := r.samples ++ [v.toNat] } ∧ Changes [.now, .tide, .timers, .cores, .polders] s t) ∧
      (u = .request → r.busy = true → r.samples.length + 1 = r.total → Does (.convSample p v) s fun t =>
        let m := (t.polder p).conv
        taken t ∧ m.busy = false ∧ m.done = true ∧ m.mean = (r.samples.sum + v.toNat) / r.total ∧ (∀ c ∈ r.samples ++ [v.toNat], m.minC ≤ c ∧ c ≤ m.maxC) ∧
        Posts s t 0x62 p (fld r.cfg 5 4) ∧ Changes [.now, .slots, .polders, .timers, .tide, .dev, .flow, .mram, .cores, .telemetry, .counts, .lpos, .audit, .crypto, .loops, .out, .pba] s t) ∧
      (∀ j, u = .settle j → Does (.convSample p v) s fun t =>
        taken t ∧ (t.polder p).conv = { r with preempted := r.preempted || r.busy } ∧ Changes [.now, .tide, .timers, .cores, .polders] s t) ∧
      (∀ j c, u = .temper j c → (s.sampled p).contains j = true → (s.slot j).temp.win.vccN < 64 → (s.slot j).temp.win.curN < 64 → Does (.convSample p v) s fun t =>
        let o := (s.slot j).temp.win
        taken t ∧ (t.polder p).conv = r ∧ (t.slot j).temp.win =
          (if c = 0 then { o with vccN := o.vccN + 1, vccSum := o.vccSum + v.toNat, vccMin := min o.vccMin v.toNat, vccMax := max o.vccMax v.toNat }
           else { o with curN := o.curN + 1, curSum := o.curSum + v.toNat, curMax := max o.curMax v.toNat }) ∧
        OtherSlots j s t ∧ Changes [.now, .tide, .timers, .cores, .slots, .polders] s t))

/-- Ledger cards (10 R267, R272 to R276, R283): a closed switch is debounced and a card then PRESENT, asking for identification where the port is enabled; an
open one leaves the position ABSENT after 1 us, ends a transaction on that card and asks for cleanup 10 ms later; cleanup deselects, asks every READY card
and fails those that do not answer, and counts the unplaced cards anew. Identification, after 80 clocks at 400 kHz, places the card whose CID is bound, or
the one unmatched card at the one free position, and brings it up; more than four answers stop the port. -/
def Obligations.LedgerCards : Prop :=
  ∀ (s : State) (p a : Fin 4), s.wf = true →
    let k := 4 * p.val + a.val
    let x := s.lp k
    let y := s.port p
    let goes (c : FoundCard) (rca : Nat) (t : State) : Prop :=
      (t.lp k).rca = rca ∧ (t.lp k).cid = c.cid ∧ (t.port p).ident = none ∧
        (t.lp k).st = (if c.bringUp = 0 then .failed else if c.specVers < 4 ∨ c.cSize ≠ 0xFFF then .unsupported else if c.bringUp < 3 then .failed else .ready) ∧
        ((t.lp k).st = .ready → (t.lp k).sectors = c.sectors ∧ (t.lp k).cardType = c.cardType)
    (x.st = .absent → exec (.ledgerPresPresentRead p a) s =
      .next (s.modLp k fun x => { x with debounce := some (s.now + fld y.live 24 17 * 480000) })) ∧
    (x.st ≠ .absent → exec (.ledgerPresPresentRead p a) s = .next s) ∧
    (∀ d, x.debounce = some d → Does (.ledgerPresDebounced p a) s fun t =>
      t.now = max s.now d ∧ (t.lp k).st = .present ∧ (t.lp k).debounce = none ∧ (∀ j, j ≠ k → (t.lp j).st = (s.lp j).st) ∧
      (t.port p).want = (if y.en then some (y.want.getD false) else y.want) ∧ Changes [.now, .timers, .tide, .dev, .flow, .mram, .cores, .counts, .ports, .lpos, .audit, .loops, .out, .pba] s t) ∧
    (x.st ≠ .absent → Does (.ledgerPresAbsent p a) s fun t =>
      t.now = s.now + 480 ∧ (t.lp k).st = .absent ∧ (t.lp k).rca = 0 ∧ (t.lp k).cid = 0#128 ∧ (t.lp k).sectors = 0#32 ∧ (t.lp k).img = .none ∧
      (t.lp k).debounce = none ∧ (∀ j, j ≠ k → (t.lp j).st = (s.lp j).st) ∧ (t.port p).checkUnplaced = true ∧
      (∀ j, y.job = some j → j.pos = a.val →
        (t.port p).job = none ∧ (t.port p).cleanup = some (t.now + 4800000) ∧ (t.port p).selected = none ∧
        ∀ m z, j.txn = some m → s.txn m = some z → t.outcomeIs m fun o =>
          o.cls = (if j.confirmed = j.count then .done else if j.sent then .inDoubt else .notSent) ∧ o.status = if j.confirmed = j.count then 0 else 0x34) ∧
      Changes [.now, .timers, .tide, .dev, .flow, .mram, .cores, .counts, .ports, .lpos, .audit, .loops, .out, .pba] s t) ∧
    (∀ (l : List CleanupAnswer) (n : List Bool),
      let kept : List Nat := (y.strays.zipIdx.filter fun e => n.getD e.2 false).map (·.1)
      let answers (b : Nat) : Prop := (l[b]?.bind (·.r1)).isSome = true
      (∀ d, y.cleanup = some d → Does (.removalCleanup p l n) s fun t =>
        max s.now d ≤ t.now ∧ (t.port p).cleanup = none ∧ (t.port p).checkUnplaced = false ∧ (t.port p).strays = kept ∧
        (s.out ++ [.ledgerCmd p 7 0#32]) <+: t.out ∧
        (∀ b ∈ s.ledgerReady p, (answers b → (t.lp (4 * p + b)).st = .ready) ∧ (¬answers b → (t.lp (4 * p + b)).st = .failed)) ∧
        (s.ledgerReady p ≠ [] → (∀ b ∈ s.ledgerReady p, ¬answers b) → t.dev.irqStatus.getLsbD 10 = true) ∧ Changes [.now, .timers, .tide, .dev, .cores, .counts, .ports, .lpos, .loops, .out, .pba] s t) ∧
      (y.cleanup = none → y.checkUnplaced = true → s.portBusy p = false → Does (.removalCleanup p l n) s fun t =>
        (t.port p).checkUnplaced = false ∧ (t.port p).strays = kept ∧ (∀ j, (t.lp j).st = (s.lp j).st) ∧ t.now = s.now ∧ Changes [.now, .timers, .tide, .dev, .cores, .counts, .ports, .lpos, .loops, .out, .pba] s t) ∧
      (y.cleanup = none → y.checkUnplaced = false ∨ s.portBusy p = true → exec (.removalCleanup p l n) s = .next s)) ∧
    (∀ whole found r, y.want = some whole → y.en = true → y.stuck = false → s.portBusy p = false →
      let l := four.filter fun b => if whole then (s.lp (4 * p + b)).st ≠ .absent else (s.lp (4 * p + b)).st = .present
      (r = false → found ≠ [] → Does (.identification p found r) s fun t =>
        t.now = s.now + 96000 ∧ (t.port p).want = none ∧ (t.port p).ident = some (t.now, l, found) ∧ (t.port p).div = 1200 ∧
        (∀ b ∈ l, (t.lp (4 * p + b)).st = .identifying) ∧
        (s.out ++ (if whole then [.ledgerCmd p 0 0#32] else []) ++ [.ledgerCmd p 1 0x40000080#32]) <+: t.out ∧ Changes [.now, .timers, .tide, .dev, .mram, .cores, .counts, .ports, .lpos, .loops, .out, .pba, .freeCount] s t) ∧
      (found = [] → Does (.identification p found r) s fun t =>
        (t.port p).want = none ∧ (t.port p).ident = none ∧ (∀ b ∈ l, (t.lp (4 * p + b)).st = .failed) ∧ Changes [.now, .timers, .tide, .dev, .mram, .cores, .counts, .ports, .lpos, .loops, .out, .pba, .freeCount] s t) ∧
      (∀ c, r = true → found = [c] → a.val ∈ l → s.binding k = c.cid → (∀ b ∈ l, b < a.val → s.binding (4 * p + b) ≠ c.cid) → Does (.identification p found r) s fun t =>
        goes c (a + 1) t ∧ (∀ b ∈ l, b ≠ a.val → (t.lp (4 * p + b)).st = .failed) ∧ (t.port p).want = none ∧ Changes [.now, .timers, .tide, .dev, .mram, .cores, .counts, .ports, .lpos, .loops, .out, .pba, .freeCount] s t) ∧
      (∀ c, r = true → found = [c] → l = [a.val] → s.binding k ≠ c.cid → Does (.identification p found r) s fun t =>
        goes c 0x11 t ∧ t.binding k = c.cid ∧ Changes [.now, .timers, .tide, .dev, .mram, .cores, .counts, .ports, .lpos, .loops, .out, .pba, .freeCount] s t) ∧
      (4 < found.length → r = true → Does (.identification p found r) s fun t =>
        (t.port p).busFault = true ∧ (t.port p).stuck = true ∧ (t.port p).ident = none ∧ t.dev.irqStatus.getLsbD 10 = true ∧ Changes [.now, .timers, .tide, .dev, .mram, .cores, .counts, .ports, .lpos, .loops, .out, .pba, .freeCount] s t)) ∧
    (∀ d l found, y.ident = some (d, l, found) →
      (s.now + 4800000 < d + 480000000 → exec (.cardReadyPoll p false) s = .next ((s.elapse 4800000).lcmd p 1 0x40000080#32)) ∧
      (d + 480000000 ≤ s.now + 4800000 → Does (.cardReadyPoll p false) s fun t =>
        (t.port p).ident = none ∧ (∀ b ∈ l, b < 4 → (t.lp (4 * p + b)).st = .failed) ∧ t.now = s.now + 4800000 ∧ Changes [.now, .timers, .tide, .dev, .mram, .cores, .counts, .ports, .lpos, .loops, .out, .pba, .freeCount] s t) ∧
      (∀ c, found = [c] → l = [a.val] → s.binding k ≠ c.cid → Does (.cardReadyPoll p true) s fun t => goes c 0x11 t ∧ t.now = s.now + 4800000 ∧ Changes [.now, .timers, .tide, .dev, .mram, .cores, .counts, .ports, .lpos, .loops, .out, .pba, .freeCount] s t))

/-- Host transactions on a ledger port (07 R199, 10 R276 to R282): stage 3 ends one with its first failed check; the port takes them in turn when it is free;
the card is selected, asked for its state, told the number of blocks and given the data command; data go block by block, and the outcome says how far it
came: nothing sent NOT_SENT, all confirmed DONE, else IN_DOUBT, with the failure as its status. -/
def Obligations.LedgerTransactions : Prop :=
  ∀ (s : State) (n : Fin 1024) (x : Txn) (p : Fin 4), s.wf = true → s.txn n = some x →
    let y := s.port p
    let stage3 (c : Instr) (write : Bool) : Prop :=
      (s.ledgerCheck x write ≠ 0 → Does c s fun t => t.ended n (s.ledgerCheck x write) ∧ Changes [.slots, .flow] s t) ∧
      (s.ledgerCheck x write = 0 → Does c s fun t =>
        t.txn n = some { x with stage := .gather, target := .ledger x.lport x.lposn } ∧ (s.port x.lport).en = true ∧
        (s.lp (4 * x.lport + x.lposn)).st = .ready ∧ 1 ≤ (x.dw 14).toNat ∧ (x.dw 14).toNat ≤ 128 ∧ (write = true → 2 ≤ x.role ∧ x.cmdLen = 512 * (x.dw 14).toNat) ∧
        Changes [.flow] s t)
    let step (st : LStep) (f : LJob → LJob) (cmds : List Out) (t : State) : Prop :=
      (∀ j, y.job = some j → (t.port p).job = some { f j with step := st, since := t.now }) ∧ t.out = s.out ++ cmds
    (x.stage = .check → x.opcode = 0x10 → stage3 (.ledgerRead n) false) ∧
    (x.stage = .check → x.opcode = 0x11 → stage3 (.ledgerWrite n) true) ∧
    (s.portBusy p = true ∨ y.stuck = true ∨ (y.en = true ∧ y.want.isSome = true) → exec (.ledgerJobStart p) s = .next s) ∧
    (s.portBusy p = false → y.stuck = false → y.en = false ∨ y.want = none → y.live = y.cfg → (∀ b < 4, (s.lp (4 * p + b)).live = (s.lp (4 * p + b)).cfg) →
      y.known = false ∨ (y.hs = s.ledgerHs p ∧ y.width = s.ledgerWidth p ∧ y.owed = []) → s.pickLedger p = some n.val → s.pickMirror p = none ∨ y.lastMirror = true →
      (y.en = true → (s.lp (4 * p + x.lposn)).st = .ready → Does (.ledgerJobStart p) s fun t =>
        t.txn n = some { x with stage := .intent } ∧ (t.port p).lastQp = x.qp ∧ (t.port p).lastMirror = false ∧ Changes [.flow, .ports] s t) ∧
      (y.en = false → Does (.ledgerJobStart p) s fun t => t.ended n 0x30 ∧ Changes [.slots, .flow, .ports] s t) ∧
      (y.en = true → (s.lp (4 * p + x.lposn)).st ≠ .ready → Does (.ledgerJobStart p) s fun t => t.ended n 0x31 ∧ Changes [.slots, .flow, .ports] s t)) ∧
    (∀ a, x.stage = .intent → x.target = .ledger p a → x.sm = false → s.flow.outq = [] → ¬(x.deadline ≠ 0#64 ∧ x.deadline < s.ltide) → s.saturated = false →
      ((s.lp (4 * p + a)).st = .ready → y.selected ≠ some a → Does (.intentCommit n) s fun t =>
        (t.port p).job = some { txn := some n.val, pos := a, write := decide (x.opcode = 0x11), first := (x.dw 13).toNat, count := (x.dw 14).toNat, since := s.now,
                                retries := y.retries } ∧
        t.out.getLast? = some (.ledgerCmd p 7 (s.rcaArg p a)) ∧ t.recorded s.flow.jNext (fun r => r.outcome = false ∧ r.tag = x.tag) ∧ Changes [.slots, .timers, .dev, .flow, .mram, .cores, .counts, .ports, .lpos, .audit, .crypto, .out, .pba] s t) ∧
      ((s.lp (4 * p + a)).st ≠ .ready → Does (.intentCommit n) s fun t =>
        t.outcomeIs n (fun o => o.cls = .notSent ∧ o.status = 0x34) ∧ (t.port p).job = none ∧ Changes [.slots, .timers, .dev, .flow, .mram, .cores, .counts, .ports, .lpos, .audit, .crypto, .out, .pba] s t)) ∧
    (∀ j, y.switch = none → y.job = some j → j.txn = some n.val →
      let more := decide (1 < j.count - j.confirmed)
      let data : Out := .ledgerCmd p (if j.write then (if more then 25 else 24) else if more then 18 else 17) (BitVec.ofNat 32 (j.first + j.confirmed))
      (∀ w, r1Bits w = 0 →
        (j.step = .select → Does (.ledgerResponse p (.r1 w)) s fun t => step .selectBusy id [] t ∧ Changes [.ports] s t) ∧
        (j.step = .status → fld w 12 9 = 4 → Does (.ledgerResponse p (.r1 w)) s fun t =>
          (if more then step .count (fun j => { j with sent := true }) [.ledgerCmd p 23 (BitVec.ofNat 32 (j.count - j.confirmed))] t
           else step .command (fun j => { j with sent := true, many := false }) [data] t) ∧ Changes [.ports, .out] s t) ∧
        (j.step = .count → Does (.ledgerResponse p (.r1 w)) s fun t =>
          step .command (fun j => { j with sent := true, many := more }) [data] t ∧ Changes [.ports, .out] s t) ∧
        (j.step = .command → j.write = false → Does (.ledgerResponse p (.r1 w)) s fun t => step .dataIn id [] t ∧ Changes [.ports] s t) ∧
        (j.step = .command → j.write = true → Does (.ledgerResponse p (.r1 w)) s fun t =>
          step .token (fun j => { j with begun := max j.begun (j.confirmed + 1) }) [.ledgerBlock p ((x.cmd.drop (512 * j.confirmed)).take 512)] t ∧
          Changes [.ports, .out] s t) ∧
        (j.step = .final → Does (.ledgerResponse p (.r1 w)) s fun t =>
          t.outcomeIs n (fun o => o.cls = .done ∧ o.status = 0 ∧ (x.opcode ≠ 1 → o.sw.toNat = j.confirmed * 256 % 65536)) ∧ (t.port p).job = none ∧ Changes [.dev, .flow, .cores, .counts, .ports, .lpos, .loops, .out, .pba] s t)) ∧
      (∀ w, r1Bits w ≠ 0 → j.step.awaits = true → Does (.ledgerResponse p (.r1 w)) s fun t =>
        t.outcomeIs n (fun o => if j.sent then o.cls = .inDoubt ∧ o.status = 0x3A else o.cls = .notSent ∧ o.status = 0x35) ∧ (t.port p).job = none ∧ Changes [.dev, .flow, .cores, .counts, .ports, .lpos, .loops, .out, .pba] s t) ∧
      (∀ d, j.step = .dataIn → j.sent = true →
        (j.confirmed + 1 = j.count → Does (.ledgerBlock p d true) s fun t =>
          t.outcomeIs n (fun o => o.cls = .done ∧ o.resp = j.data ++ padTo 512 d) ∧ (t.port p).job = none ∧ Changes [.dev, .flow, .mram, .cores, .counts, .ports, .lpos, .audit, .loops, .out, .pba] s t) ∧
        (j.confirmed + 1 ≠ j.count → Does (.ledgerBlock p d true) s fun t =>
          step .dataIn (fun j => { j with confirmed := j.confirmed + 1, data := j.data ++ padTo 512 d }) [] t ∧ Changes [.ports] s t) ∧
        (j.retries ≤ j.reissues → Does (.ledgerBlock p d false) s fun t => t.outcomeIs n (fun o => o.cls = .inDoubt ∧ o.status = 0x36) ∧ Changes [.dev, .flow, .mram, .cores, .counts, .ports, .lpos, .audit, .loops, .out, .pba] s t) ∧
        (j.reissues < j.retries → Does (.ledgerBlock p d false) s fun t =>
          (if j.many = true ∧ j.confirmed + 1 ≠ j.count then step .stop (fun j => { j with fail := 0x36 }) [.ledgerCmd p 12 0#32] t
           else step (.recover 0) (fun j => { j with fail := 0x36, many := false }) [.ledgerCmd p 13 (s.rcaArg p j.pos)] t) ∧ Changes [.ports, .out] s t)) ∧
      (j.step = .token → Does (.crcStatusToken p true) s fun t => t.now = max s.now (s.blockEnd p j) ∧ step .busy id [] t ∧ Changes [.now, .tide, .timers, .cores, .ports] s t) ∧
      (j.step = .selectBusy → Does (.busyEnd p) s fun t => step .status id [.ledgerCmd p 13 (s.rcaArg p j.pos)] t ∧ Changes [.ports, .out] s t) ∧
      (j.step = .busy → j.confirmed + 1 ≠ j.count → Does (.busyEnd p) s fun t =>
        step .token (fun j => { j with confirmed := j.confirmed + 1, begun := max j.begun (j.confirmed + 2) })
          [.ledgerBlock p ((x.cmd.drop (512 * (j.confirmed + 1))).take 512)] t ∧ Changes [.ports, .out] s t) ∧
      (j.step = .busy → j.confirmed + 1 = j.count → Does (.busyEnd p) s fun t =>
        step .final (fun j => { j with confirmed := j.confirmed + 1 }) [.ledgerCmd p 13 (s.rcaArg p j.pos)] t ∧ Changes [.ports, .out] s t) ∧
      (j.step = .busy → j.sent = true → Does (.ledgerTimeout p) s fun t =>
        t.now = max s.now (j.since + y.busyTo) ∧ t.outcomeIs n (fun o => o.cls = .inDoubt ∧ o.status = 0x39) ∧ (t.port p).job = none ∧ Changes [.now, .timers, .tide, .dev, .flow, .cores, .counts, .ports, .lpos, .loops, .out, .pba] s t))

/-- The registers and images of a ledger port (10 R274, R285 to R292, 15 R396): IDENTIFY, FORMAT and UNBIND with their refusals; LP_CFG checks its value, asks
for identification when EN rises and ends the waiters when it falls; a sweep gives a write for each changed block, each block under a BSEQ of its own, and a
confirmed block's copy is then current; a scan reads the labels, then every copy, and finds the image unformatted, foreign or valid. -/
def Obligations.LedgerImages : Prop :=
  ∀ (s : State) (ag : Agent) (p a : Fin 4) (w : Word), s.wf = true →
    let k := 4 * p.val + a.val
    let x := s.lp k
    let y := s.port p
    let answer (e : CmdErr) (f : Port → Port) : Host.Outcome State Fault Refusal := .next (s.modPort p fun x => { f x with cmdErr := e })
    (s.allows ag 2 = true → w &&& 7#32 = 0#32 → fld w 5 4 = a.val →
      (∀ c ∈ [Instr.identify ag p (w ||| 2#32), .format ag p (w ||| 4#32) a, .lpUnbind ag p (w ||| 1#32)], exec c s = answer .multiple id) ∧
      (y.en = true → exec (.identify ag p w) s = answer .none fun x => { x with want := some true, stuck := false }) ∧
      (y.en = false → exec (.identify ag p w) s = answer .state id) ∧
      (x.st ≠ .ready ∨ x.mode = 0 → exec (.format ag p w a) s = answer .state id) ∧
      (x.st = .ready → x.mode ≠ 0 →
        (x.sectors.toNat < x.imgBase.toNat + 2 * imageBlocks x.mode + 2 → exec (.format ag p w a) s = answer .value id) ∧
        (x.imgBase.toNat + 2 * imageBlocks x.mode + 2 ≤ x.sectors.toNat → Does (.format ag p w a) s fun t =>
          t.lp k = { x with img := .formatting, scan := false, task := some .formatRead, mq := formatReads x.imgBase.toNat x.mode, high := none, reads := [],
                            labels := [] } ∧
          t.port p = { y with cmdErr := .none } ∧ Changes [.ports, .lpos] s t)) ∧
      (Does (.lpUnbind ag p w) s fun t => t.binding k = 0#128 ∧ t.port p = { y with cmdErr := .none } ∧ t.lp k = x ∧ Changes [.mram, .ports] s t)) ∧
    (s.allows ag 2 = true →
      let bad : Prop := fld w 30 29 = 3 ∨ fld w 24 17 = 0 ∨ fld w 10 0 < 10 ∨ 1200 < fld w 10 0
      let v := w &&& 0xFFFE07FF#32
      (bad → exec (.lpCfgWrite ag p w) s = answer .value id) ∧
      (¬bad → y.en = true → bitOf w 25 ≠ bitOf y.cfg 25 → exec (.lpCfgWrite ag p w) s = answer .locked id) ∧
      (¬bad → y.en = false ∨ bitOf w 25 = bitOf y.cfg 25 → Does (.lpCfgWrite ag p w) s fun t =>
        t.port p = { y with cfg := v, live := if s.portBusy p then y.live else v
                            want := if y.en = bitOf w 31 then y.want else if bitOf w 31 then some true else none, cmdErr := .none } ∧
        (y.en = true → bitOf w 31 = false → ∀ n z b, s.txn n = some z → z.stage = .wait → z.target = .ledger p b → t.ended n 0x30) ∧ Changes [.slots, .dev, .flow, .counts, .ports, .lpos, .loops] s t)) ∧
    (let changed := (List.range (imageBlocks x.mode)).filter fun i => x.dirty.contains i
     (∀ c : Fin 4, s.mirrors p k = false ∨ s.coreRuns c = false ∨ (x.img ≠ .valid ∧ x.img ≠ .recovered) ∨ x.task.isSome = true ∨ x.scan = true →
       exec (.mirrorSweep p a c) s = .next s) ∧
     (∀ c : Fin 4, s.mirrors p k = true → s.coreRuns c = true → x.img = .valid ∨ x.img = .recovered → x.task = none → x.scan = false → Does (.mirrorSweep p a c) s fun t =>
       t.now = max s.now (x.sweepAt + fld x.live 9 0 * 480000) ∧
       (changed ≠ [] → t.lp k = { x with sweepAt := t.now, task := some (.sweep t.ltide), written := 0, mq := x.writes changed }) ∧
       (changed = [] → t.lp k = { x with sweepAt := t.now, task := none, written := 0, mq := [] } ∧ Posts s t 0x73 k 0) ∧ Changes [.now, .timers, .tide, .dev, .cores, .counts, .lpos, .out, .pba] s t) ∧
     (∀ (c : Fin 4) dt, s.mirrors p k = true → s.coreRuns c = true → x.scan = true → x.task = none → exec (.imageScan p a c dt) s = .next ((s.elapse dt).modLp k fun x =>
       { x with scan := false, img := .scanning, task := some .scanLabels, mq := [⟨.labelRead, x.imgBase.toNat, 2⟩], reads := [], labels := [], high := none
                written := 0, dirty := [], copy := [] })) ∧
     (∀ (c : Fin 4) dt, s.mirrors p k = false ∨ s.coreRuns c = false ∨ x.scan = false ∨ x.task.isSome = true → exec (.imageScan p a c dt) s = .next s)) ∧
    (s.portBusy p = false → y.stuck = false → y.en = false ∨ y.want = none → y.live = y.cfg → (∀ b < 4, (s.lp (4 * p + b)).live = (s.lp (4 * p + b)).cfg) →
      y.known = false ∨ (y.hs = s.ledgerHs p ∧ y.width = s.ledgerWidth p ∧ y.owed = []) → s.pickLedger p = none → y.selected ≠ some a →
      ∀ c r i, s.pickMirror p = some (a.val, c) → c.kind = .dataWrite r i → Does (.ledgerJobStart p) s fun t =>
        let b := max x.nseq.toNat s.bseqFloor
        (∃ j, (t.port p).job = some j ∧ j.cmd = some c ∧ j.txn = none ∧ j.write = true ∧ j.count = c.count ∧ j.first = c.first ∧ j.step = .select ∧
          j.blocks.length = c.count ∧ ∀ n < c.count, blockBseq (j.blocks.getD n []) = (b + n) % 2 ^ 64) ∧
        (t.lp k).mq = x.mq.tail ∧ (0 < c.count → (t.lp k).nseq = BitVec.ofNat 64 (b + c.count) ∧ t.flow.nextBseq = b + c.count) ∧
        (∀ e ∈ (t.lp k).dirty, e < i ∨ i + c.count ≤ e) ∧ (t.port p).lastMirror = true ∧ t.out = s.out ++ [.ledgerCmd p 7 (s.rcaArg p a)] ∧ Changes [.slots, .flow, .mram, .ports, .lpos, .out] s t) ∧
    (∀ j c, y.switch = none → y.job = some j → j.txn = none → j.cmd = some c → j.pos = a.val → x.live = x.cfg →
      (∀ r i, c.kind = .dataWrite r i → j.write = true → j.step = .busy → Does (.busyEnd p) s fun t =>
        tget 0 (t.lp k).copy (i + j.confirmed) = r + 1 ∧ (t.lp k).written = x.written + 1 ∧ Changes [.dev, .mram, .cores, .counts, .ports, .lpos, .audit, .loops, .out, .pba] s t) ∧
      (∀ d, j.write = false → j.step = .dataIn → j.confirmed + 1 = j.count → c.count = j.count → x.mq = [] →
        (c.kind = .labelRead → x.task = some .scanLabels → x.labels = [] →
          (s.readLabel x.mode j.confirmed d = none → d.length = 512 → Does (.ledgerBlock p d true) s fun t =>
            (t.lp k).img = .unformatted ∧ (t.lp k).task = none ∧ t.dev.irqStatus.getLsbD 10 = true ∧ Changes [.dev, .flow, .mram, .cores, .counts, .ports, .lpos, .audit, .loops, .out, .pba] s t) ∧
          (∀ l, s.readLabel x.mode j.confirmed d = some l → d.length = 512 → l.own = false → Does (.ledgerBlock p d true) s fun t =>
            (t.lp k).img = .foreign ∧ (t.lp k).task = none ∧ t.dev.irqStatus.getLsbD 10 = true ∧ Changes [.dev, .flow, .mram, .cores, .counts, .ports, .lpos, .audit, .loops, .out, .pba] s t) ∧
          (∀ l, s.readLabel x.mode j.confirmed d = some l → d.length = 512 → l.own = true → Does (.ledgerBlock p d true) s fun t =>
            (t.lp k).task = some .scanBlocks ∧ (t.lp k).mq = scanReads x.imgBase.toNat x.mode 0 ++ scanReads x.imgBase.toNat x.mode 1 ∧ Changes [.dev, .flow, .mram, .cores, .counts, .ports, .lpos, .audit, .loops, .out, .pba] s t)) ∧
        (∀ r i, c.kind = .scanRead r i → x.task = some .scanBlocks → x.dirty = [] → d.length = 512 →
          let z := { x with reads := tset {} x.reads (2 * (i + j.confirmed) + r) (s.readCopy x.mode r (i + j.confirmed) d) }
          (∀ b < imageBlocks x.mode, copySame (z.copies b) = true) → Does (.ledgerBlock p d true) s fun t =>
            (t.lp k).img = .valid ∧ (t.lp k).lost = 0 ∧ (t.lp k).task = none ∧ (t.lp k).dirty = [] ∧
            (t.lp k).nseq = s.nextNseq k (if blockSound d then some (max (x.high.getD 0) (blockBseq d)) else x.high) ∧ Changes [.dev, .flow, .mram, .cores, .counts, .ports, .lpos, .audit, .loops, .out, .pba] s t)))

/-- The register forms of the ALU (11 Table 11-12, 12 R328 to R330): value, N and Z of it, C as carry, no borrow or last bit out, V as signed overflow, for every
operand, shift count and destination, g0 included; DIV and REM by zero give RA with V, or trap with DZE. Each leaves every other register as it is. -/
def Obligations.AluRegisterForms : Prop :=
  ∀ (s : State) (k : Fin 4) (rd ra rb : Fin 32), s.runsAt k false →
    let c := s.core k
    let a := c.g ra
    let b := c.g rb
    let n := b.toNat % 64
    let cy : Nat := if bitOf c.psr 29 then 1 else 0
    let gives (i : Instr) (v : Word) (cf vf : Option Bool) : Prop := AluDoes i s k rd false v cf vf
    let last (i : Bool) : Option Bool := if n = 0 then none else some i
    gives (.add k rd ra rb) (a + b) (some (decide (2 ^ 32 ≤ a.toNat + b.toNat))) (some (decide (a.toInt + b.toInt ≠ (a + b).toInt))) ∧
    gives (.adc k rd ra rb) (a + b + BitVec.ofNat 32 cy) (some (decide (2 ^ 32 ≤ a.toNat + b.toNat + cy)))
      (some (decide (a.toInt + b.toInt + cy ≠ (a + b + BitVec.ofNat 32 cy).toInt))) ∧
    gives (.sub k rd ra rb) (a - b) (some (decide (b.toNat ≤ a.toNat))) (some (decide (a.toInt - b.toInt ≠ (a - b).toInt))) ∧
    gives (.sbc k rd ra rb) (a - b - BitVec.ofNat 32 (1 - cy)) (some (decide (b.toNat + (1 - cy) ≤ a.toNat)))
      (some (decide (a.toInt - b.toInt - (1 - cy : Nat) ≠ (a - b - BitVec.ofNat 32 (1 - cy)).toInt))) ∧
    gives (.neg k rd ra) (-a) (some (decide (a = 0#32))) (some (decide (a = 0x80000000#32))) ∧
    AluDoes (.cmp k ra rb) s k 0 false (a - b) (some (decide (b.toNat ≤ a.toNat))) (some (decide (a.toInt - b.toInt ≠ (a - b).toInt))) ∧
    gives (.and k rd ra rb) (a &&& b) none none ∧ gives (.or k rd ra rb) (a ||| b) none none ∧ gives (.xor k rd ra rb) (a ^^^ b) none none ∧
    gives (.andn k rd ra rb) (a &&& ~~~b) none none ∧ AluDoes (.tst k ra rb) s k 0 false (a &&& b) none none ∧
    gives (.shl k rd ra rb) (a <<< n) (last (decide (n ≤ 32) && bitOf a (32 - n))) none ∧ gives (.shr k rd ra rb) (a >>> n) (last (bitOf a (n - 1))) none ∧
    gives (.sar k rd ra rb) (a.sshiftRight n) (last (bitOf a (min (n - 1) 31))) none ∧
    gives (.rol k rd ra rb) (a.rotateLeft n) (last (bitOf (a.rotateLeft n) 0)) none ∧
    gives (.ror k rd ra rb) (a.rotateRight n) (last (bitOf (a.rotateRight n) 31)) none ∧
    gives (.mul k rd ra rb) (a * b) none none ∧
    gives (.mulh k rd ra rb) (BitVec.ofInt 32 (a.toInt * b.toInt / 2 ^ 32)) none none ∧
    gives (.mulhu k rd ra rb) (BitVec.ofNat 32 (a.toNat * b.toNat / 2 ^ 32)) none none ∧
    (let edge : Bool := a = 0x80000000#32 && b = 0xFFFFFFFF#32
     b ≠ 0#32 →
      gives (.div k rd ra rb) (if edge then 0x80000000#32 else BitVec.ofInt 32 (a.toInt.tdiv b.toInt)) none (some edge) ∧
      gives (.divu k rd ra rb) (BitVec.ofNat 32 (a.toNat / b.toNat)) none (some false) ∧
      gives (.rem k rd ra rb) (BitVec.ofInt 32 (a.toInt.tmod b.toInt)) none (some edge) ∧
      gives (.remu k rd ra rb) (BitVec.ofNat 32 (a.toNat % b.toNat)) none (some false)) ∧
    (b = 0#32 → ∀ i ∈ [Instr.div k rd ra rb, .divu k rd ra rb, .rem k rd ra rb, .remu k rd ra rb],
      (bitOf c.psr 8 = false → gives i a none (some true)) ∧ (bitOf c.psr 8 = true → Traps i s k 6 a 0#32)) ∧
    gives (.sextB k rd ra) ((a.setWidth 8).signExtend 32) none none ∧ gives (.sextH k rd ra) ((a.setWidth 16).signExtend 32) none none ∧
    (∃ z ≤ 32, gives (.clz k rd ra) (BitVec.ofNat 32 z) none none ∧ a.toNat < 2 ^ (32 - z) ∧ (z < 32 → 2 ^ (31 - z) ≤ a.toNat))

/-- The immediate forms (11 R321, R322, Table 11-12): ADDI, CMPI and MULI extend the sign, ANDI, ORI, XORI and TSTI do not; the long form takes the 32 bits of
word 1 and eight bytes; LUI and LI set no flag. -/
def Obligations.AluImmediateForms : Prop :=
  ∀ (s : State) (k : Fin 4) (rd ra : Fin 32) (imm : Imm) (cnt : BitVec 6) (long : Bool) (u : BitVec 16) (v : Word),
    let c := s.core k
    let a := c.g ra
    let n := cnt.toNat
    let last (i : Bool) : Option Bool := if n = 0 then none else some i
    let moves (i : Instr) (l : Bool) (x : Word) : Prop := CoreDoes i s k { c.setG rd x with pc := c.pc + insBytes l }
    (s.runsAt k (immLong imm) →
      let b : Word := match imm with | .short w => w.signExtend 32 | .long w => w
      let z : Word := match imm with | .short w => w.setWidth 32 | .long w => w
      let gives (i : Instr) (x : Word) (cf vf : Option Bool) : Prop := AluDoes i s k rd (immLong imm) x cf vf
      gives (.addi k rd ra imm) (a + b) (some (decide (2 ^ 32 ≤ a.toNat + b.toNat))) (some (decide (a.toInt + b.toInt ≠ (a + b).toInt))) ∧
      AluDoes (.cmpi k ra imm) s k 0 (immLong imm) (a - b) (some (decide (b.toNat ≤ a.toNat))) (some (decide (a.toInt - b.toInt ≠ (a - b).toInt))) ∧
      gives (.muli k rd ra imm) (a * b) none none ∧ gives (.andi k rd ra imm) (a &&& z) none none ∧ gives (.ori k rd ra imm) (a ||| z) none none ∧
      gives (.xori k rd ra imm) (a ^^^ z) none none ∧ AluDoes (.tsti k ra imm) s k 0 (immLong imm) (a &&& z) none none) ∧
    (s.runsAt k long →
      let gives (i : Instr) (x : Word) (cf : Option Bool) : Prop := AluDoes i s k rd long x cf none
      gives (.shli k rd ra cnt long) (a <<< n) (last (decide (n ≤ 32) && bitOf a (32 - n))) ∧ gives (.shri k rd ra cnt long) (a >>> n) (last (bitOf a (n - 1))) ∧
      gives (.sari k rd ra cnt long) (a.sshiftRight n) (last (bitOf a (min (n - 1) 31))) ∧
      gives (.roli k rd ra cnt long) (a.rotateLeft n) (last (bitOf (a.rotateLeft n) 0)) ∧
      gives (.rori k rd ra cnt long) (a.rotateRight n) (last (bitOf (a.rotateRight n) 31))) ∧
    (s.runsAt k false → moves (.lui k rd u) false (u.setWidth 32 <<< 16)) ∧ (s.runsAt k true → moves (.li k rd v) true v)

/-- Loads, stores, SWAP.W and MOVS (11 R304 to R308, R320, Table 11-12): an access that passes the segment, region and script checks reads or writes exactly its
bytes, least significant first, and steps its base under POST; one that does not traps with its cause and changes nothing, and a read that meets an
uncorrectable error takes a Bus trap and is reported. A store that finds its queue full while a journal write waits stalls. A store to SRAM changes no other
byte. -/
def Obligations.LoadsAndStores : Prop :=
  ∀ (s : State) (k : Fin 4) (rd : Fin 32) (m : MemArg) (w : MovsArg),
    let c := s.core k
    let l := dispLong m.disp
    let d : Word := match m.disp with | .short v => v.signExtend 32 | .long v => v
    let o := if m.post then c.g m.ra else c.g m.ra + d
    let x := c.phys m.seg o.toNat
    let base (c : Core) : Core := if m.post then c.setG m.ra (c.g m.ra + d) else c
    let after (u t : State) (f : Core → Core) (l : Bool) : Prop :=
      t.core k = { f (u.core k) with pc := c.pc + insBytes l } ∧ (∀ j, j ≠ k.val → t.core j = u.core j) ∧ Changes [.cores] u t
    (s.runsAt k l →
      (∀ e : Instr × Nat × (Nat → Word), e ∈ [(.ldB k rd m, 1, fun v => (BitVec.ofNat 8 v).signExtend 32), (.ldBu k rd m, 1, BitVec.ofNat 32),
          (.ldH k rd m, 2, fun v => (BitVec.ofNat 16 v).signExtend 32), (.ldHu k rd m, 2, BitVec.ofNat 32), (.ldW k rd m, 4, BitVec.ofNat 32)] →
        (c.accTrap m.seg .load o.toNat e.2.1 = none → s.badAt x e.2.1 = none → Does e.1 s fun t =>
          after (s.load k x e.2.1).2 t (fun c => (base c).setG rd (e.2.2 (s.load k x e.2.1).1)) l) ∧
        (∀ v, c.accTrap m.seg .load o.toNat e.2.1 = none → s.badAt x e.2.1 = some v → s.vectorOk k 2 → Does e.1 s fun t =>
          Trapped ((s.eccError v).core k) (t.core k) 2 (BitVec.ofNat 32 x) (0x02000000#32 ||| (if l then 0x40#32 else 0#32)) ∧
          t.dev.irqStatus.getLsbD 14 = true ∧ Posts s t 0xA8 0 2 ∧ Changes [.cores] (s.eccError v) t) ∧
        (∀ q, c.accTrap m.seg .load o.toNat e.2.1 = some q → Traps e.1 s k q.1 q.2.1 (q.2.2 ||| (if l then 0x40#32 else 0#32)))) ∧
      (∀ e : Instr × Nat, e ∈ [(.stB k rd m, 1), (.stH k rd m, 2), (.stW k rd m, 4)] → c.storePriv m.seg .store o.toNat e.2 = false →
        (c.accTrap m.seg .store o.toNat e.2 = none → s.storeStalls k x = false → Does e.1 s fun t => after (s.store k x e.2 (c.g rd).toNat) t base l) ∧
        (c.accTrap m.seg .store o.toNat e.2 = none → s.storeStalls k x = true → exec e.1 s = .next s) ∧
        (∀ q, c.accTrap m.seg .store o.toNat e.2 = some q → Traps e.1 s k q.1 q.2.1 (q.2.2 ||| (if l then 0x40#32 else 0#32)))) ∧
      (c.storePriv m.seg .store o.toNat 4 = true → Traps (.stW k rd m) s k 4 (insM 0x17 rd m).word (if l then 0x40#32 else 0#32)) ∧
      (c.storePriv m.seg .swap o.toNat 4 = false → c.accTrap m.seg .swap o.toNat 4 = none → Does (.swapW k rd m) s fun t =>
        after (s.store k x 4 (c.g rd).toNat) t (fun c => (base c).setG rd (BitVec.ofNat 32 (s.load k x 4).1)) l) ∧
      (c.accTrap m.seg .swap o.toNat 4 = none → regionOf x = some .shared ∧ x % 4 = 0)) ∧
    (s.runsAt k false →
      let src := c.g w.ra
      let dst := c.g w.rb
      ∀ e : Instr × Nat, e ∈ [(.movsB k w, 1), (.movsW k w, 4)] → c.storePriv w.sd .store dst.toNat e.2 = false →
        (c.accTrap w.ss .load src.toNat e.2 = none → c.accTrap w.sd .store dst.toNat e.2 = none → s.storeStalls k (c.phys w.sd dst.toNat) = false →
            s.badAt (c.phys w.ss src.toNat) e.2 = none →
          let r := s.load k (c.phys w.ss src.toNat) e.2
          Does e.1 s fun t => after (r.2.store k (c.phys w.sd dst.toNat) e.2 r.1) t (fun c =>
            let d := if w.sfix then c else c.setG w.ra (c.g w.ra + BitVec.ofNat 32 e.2)
            if w.dfix then d else d.setG w.rb (d.g w.rb + BitVec.ofNat 32 e.2)) false) ∧
        (∀ q, c.accTrap w.ss .load src.toNat e.2 = some q → Traps e.1 s k q.1 q.2.1 q.2.2) ∧
        (∀ q, c.accTrap w.ss .load src.toNat e.2 = none → c.accTrap w.sd .store dst.toNat e.2 = some q → Traps e.1 s k q.1 q.2.1 (q.2.2 ||| 0x04000000#32))) ∧
    (∀ a n v, 1 ≤ n → n ≤ 4 → regionOf a = some .shared → regionOf (a + n - 1) = some .shared →
      Changes [.sram] s (s.store k a n v) ∧ (∀ y, (s.store k a n v).sramByte y = if a ≤ y ∧ y < a + n then BitVec.ofNat 8 (v / 256 ^ (y - a)) else s.sramByte y) ∧
      (s.load k a n).2 = s ∧ (∀ j < n, (s.load k a n).1 / 256 ^ j % 256 = (s.sramByte (a + j)).toNat) ∧
      ((s.store k a n v).load k a n).1 = v % 256 ^ n)

/-- Branches and system instructions (11 R297, R299 to R301, R307, R308, R311, R318, Tables 11-3, 11-11, 11-12, 12 R341): targets and links; the conditions after a
comparison read as the relations they are named for; MFS and MTS of each register, with what a level may not reach; WAIT, FENCE, ERET, HALT. -/
def Obligations.BranchesAndSystem : Prop :=
  ∀ (s : State) (k : Fin 4) (rd ra : Fin 32) (cond : Fin 16) (d22 : BitVec 22) (d26 : BitVec 26) (sr : Byte), s.wf = true → s.runsAt k false →
    let c := s.core k
    let v := c.g ra
    let at_ (i : Instr) (d : Core) (pc : Word) : Prop := CoreDoes i s k { d with pc := pc }
    at_ (.b k cond d22) c (if c.holds cond then c.pc + d22.signExtend 32 <<< 2 else c.pc + 4#32) ∧
    at_ (.bl k d26) (c.setG 31 (c.pc + 4#32)) (c.pc + d26.signExtend 32 <<< 2) ∧ at_ (.jr k ra) c (v &&& 0xFFFFFFFC#32) ∧
    at_ (.jlr k rd ra) (c.setG rd (c.pc + 4#32)) (v &&& 0xFFFFFFFC#32) ∧
    (∀ (a b p : Word), bitOf p 31 = (a - b).getLsbD 31 → bitOf p 30 = decide (a - b = 0#32) → bitOf p 29 = decide (b.toNat ≤ a.toNat) →
      bitOf p 28 = decide (a.toInt - b.toInt ≠ (a - b).toInt) →
      let e : Core := { c with psr := p }
      (e.holds 0 = true ↔ a = b) ∧ (e.holds 1 = true ↔ a ≠ b) ∧ (e.holds 2 = true ↔ b ≤ a) ∧ (e.holds 3 = true ↔ a < b) ∧ (e.holds 8 = true ↔ b < a) ∧
      (e.holds 9 = true ↔ a ≤ b) ∧ (e.holds 10 = true ↔ b.toInt ≤ a.toInt) ∧ (e.holds 11 = true ↔ a.toInt < b.toInt) ∧
      (e.holds 12 = true ↔ b.toInt < a.toInt) ∧ (e.holds 13 = true ↔ a.toInt ≤ b.toInt) ∧ e.holds 14 = true ∧ e.holds 15 = false) ∧
    (srAccess sr.toNat ≠ none → srPermitted c.script sr.toNat = true → Does (.mfs k rd sr) s fun t =>
      let r := s.readSr k sr.toNat
      t.core k = { (r.2.core k).setG rd r.1 with pc := c.pc + 4#32 } ∧ (∀ j, j ≠ k.val → t.core j = r.2.core j) ∧ Changes [.cores] r.2 t) ∧
    (srPermitted c.script sr.toNat = false → Traps (.mfs k rd sr) s k 4 (encS rd 0 sr.toNat 0) 0#32 ∧ Traps (.mts k sr ra) s k 4 (encS 0 ra sr.toNat 1) 0#32) ∧
    (srAccess sr.toNat = none → Traps (.mfs k rd sr) s k 3 (encS rd 0 sr.toNat 0) 0#32 ∧ Traps (.mts k sr ra) s k 3 (encS 0 ra sr.toNat 1) 0#32) ∧
    (∀ e : Byte × Word, e ∈ [(0#8, c.psr), (1#8, c.cnt), (2#8, c.fpcsr), (3#8, BitVec.ofNat 32 k.val), (4#8, c.epc), (5#8, c.epsr), (6#8, c.ecause), (7#8, c.eaddr),
      (8#8, c.tvec), (0x10#8, lo32 c.irqEn), (0x11#8, hi32 c.irqEn), (0x12#8, lo32 c.irqPend), (0x13#8, hi32 c.irqPend), (0x14#8, c.wdogWord),
      (0x18#8, lo32 c.scrBind), (0x19#8, hi32 c.scrBind), (0x1A#8, c.scrBase.setWidth 32), (0x1B#8, c.scrLimit.setWidth 32)] → s.readSr k e.1.toNat = (e.2, s)) ∧
    (srPermitted c.script sr.toNat = true → srAccess sr.toNat ≠ none → srWritable c.script sr.toNat = false → at_ (.mts k sr ra) c (c.pc + 4#32)) ∧
    (let m : Word := if c.script then 0xF0000100#32 else 0xF0000102#32
     at_ (.mts k 0#8 ra) { c with psr := (c.psr &&& ~~~m) ||| (v &&& m) } (c.pc + 4#32) ∧ at_ (.mts k 1#8 ra) { c with cnt := v } (c.pc + 4#32) ∧
     at_ (.mts k 2#8 ra) { c with fpcsr := v &&& 0xFFF#32 } (c.pc + 4#32)) ∧
    (c.script = false →
      (∀ e : Byte × Core, e ∈ [(4#8, { c with epc := v &&& 0xFFFFFFFC#32 }), (5#8, { c with epsr := v &&& 0xF0000103#32 }), (6#8, { c with ecause := v &&& 0x071F3F7F#32 }),
        (7#8, { c with eaddr := v }), (8#8, { c with tvec := v &&& 0xFFFFFF00#32 }), (0x10#8, { c with irqEn := cat64 (hi32 c.irqEn) v }),
        (0x11#8, { c with irqEn := cat64 v (lo32 c.irqEn) }), (0x12#8, { c with irqPend := c.irqPend &&& ~~~(v.setWidth 64) }),
        (0x13#8, { c with irqPend := c.irqPend &&& ~~~(cat64 v 0#32) }), (0x1A#8, { c with scrBase := v.setWidth 16 }),
        (0x1B#8, { c with scrLimit := v.setWidth 16 })] → at_ (.mts k e.1 ra) e.2 (c.pc + 4#32)) ∧
      (∀ n : Fin 8,
        at_ (.mts k (BitVec.ofNat 8 (0x20 + 3 * n.val)) ra) (c.setSeg n { c.seg n with base := v }) (c.pc + 4#32) ∧
        at_ (.mts k (BitVec.ofNat 8 (0x21 + 3 * n.val)) ra) (c.setSeg n { c.seg n with limit := v }) (c.pc + 4#32) ∧
        at_ (.mts k (BitVec.ofNat 8 (0x22 + 3 * n.val)) ra) (c.setSeg n { c.seg n with rights := v.setWidth 4 }) (c.pc + 4#32)) ∧
      (c.ready ≠ 0#64 → at_ (.wait k) c (c.pc + 4#32)) ∧
      (c.ready = 0#64 → Does (.wait k) s fun t =>
        (t.core k).run = .sleep ∧ (t.core k).pc = c.pc + 4#32 ∧ (t.core k).regs = c.regs ∧ (t.core k).psr = c.psr ∧ (∀ j, j ≠ k.val → t.core j = s.core j) ∧ Changes [.dev, .cores, .coreCtl, .counts, .out, .pba] s t) ∧
      at_ (.eret k) (if bitOf c.epsr 0 then ({ c with psr := c.epsr &&& 0xF0000103#32 } : Core).exchange else { c with psr := c.epsr &&& 0xF0000103#32 }) c.epc ∧
      (Does (.halt k) s fun t => (t.core k).run = .halted ∧ (t.core k).pc = c.pc + 4#32 ∧ (t.core k).regs = c.regs ∧ (t.core k).rep = none ∧
        ((∀ j, j ≠ k.val → s.coreRuns j = false) → s.coreCtl.anyRun = true → t.dev.irqStatus.getLsbD 7 = true ∧ Posts s t 0x20 0 0) ∧
        (∀ j, j ≠ k.val → t.core j = s.core j) ∧ Changes [.dev, .cores, .coreCtl, .counts, .out, .pba] s t)) ∧
    (c.script = true → Traps (.wait k) s k 4 (encS 0 0 0 2) 0#32 ∧ Traps (.eret k) s k 4 (encS 0 0 0 4) 0#32 ∧ Traps (.halt k) s k 4 (encS 0 0 0 5) 0#32) ∧
    (s.journalWaits = true → (∃ e ∈ s.storeQ, e.1 = k.val) → exec (.fence k) s = .next s) ∧
    (s.journalWaits = false ∨ (∀ e ∈ s.storeQ, e.1 ≠ k.val) → Does (.fence k) s fun t =>
      (t.core k).pc = c.pc + 4#32 ∧ (t.core k).regs = c.regs ∧ (∀ e ∈ t.storeQ, e.1 ≠ k.val) ∧ t.storeQ <:+ s.storeQ ∧ t.dictView = s.dictView ∧
      ((∀ e ∈ s.storeQ, e.1 = k.val) → t.mram.dictMem = s.storeQ.foldl (fun m e => putBytes m e.2) s.mram.dictMem) ∧ Changes [.dev, .flow, .mram, .cores, .coreCtl, .counts, .storeQ, .out, .pba] s t)

/-- Floating point (11 Tables 11-12, 11-13, 12 R332 to R336): each instruction delivers its result and ORs its exceptions into the sticky flags where none of them
is enabled; else it traps with the first enabled one, the result in EADDR, and delivers nothing. NaN results are canonical, sums and products do not depend
on the order of their operands, FMIN and FMAX prefer numbers, FCMP sets the flags of the relation. -/
def Obligations.FloatingPoint : Prop :=
  ∀ (s : State) (k : Fin 4) (rd ra rb : Fin 32), s.runsAt k false →
    let c := s.core k
    let a := c.g ra
    let b := c.g rb
    let rm := c.rm
    let u := c.uft
    let first (e : Exc) : Nat := if e.testBit 4 then 7 else if e.testBit 3 then 8 else if e.testBit 2 then 9 else if e.testBit 1 then 10 else 11
    let result (i : Instr) (r : Word × Exc) (to_ : Core → Core) : Prop :=
      (r.2 &&& fld c.fpcsr 11 7 = 0 → CoreDoes i s k { to_ c with fpcsr := c.fpcsr ||| BitVec.ofNat 32 (r.2 * 4), pc := c.pc + 4#32 }) ∧
      (r.2 &&& fld c.fpcsr 11 7 ≠ 0 → Traps i s k (first (r.2 &&& fld c.fpcsr 11 7)) r.1 (BitVec.ofNat 32 (r.2 * 2 ^ 16)))
    let gives (i : Instr) (r : Word × Exc) : Prop := result i r fun c => c.setG rd r.1
    gives (.fadd k rd ra rb) (fAdd rm u a b) ∧ gives (.fsub k rd ra rb) (fAdd rm u a (b ^^^ 0x80000000#32)) ∧ gives (.fmul k rd ra rb) (fMul rm u a b) ∧
    gives (.fdiv k rd ra rb) (fDiv rm u a b) ∧ gives (.fsqrt k rd ra) (fSqrt rm u a) ∧ gives (.fmadd k rd ra rb) (fMadd rm u a b (c.g rd)) ∧
    gives (.fmin k rd ra rb) (fMinMax false a b) ∧ gives (.fmax k rd ra rb) (fMinMax true a b) ∧
    result (.fcmp k ra rb) (fCmp a b) (fun c => { c with psr := (c.psr &&& 0x0FFFFFFF#32) ||| (fCmp a b).1 }) ∧
    gives (.fcvtSw k rd ra) (fOfInt rm u a) ∧ gives (.fcvtWs k rd ra) (fToInt rm a) ∧ gives (.fcvtzWs k rd ra) (fToInt 1 a) ∧
    CoreDoes (.fabs k rd ra) s k { c.setG rd (a &&& 0x7FFFFFFF#32) with pc := c.pc + 4#32 } ∧
    CoreDoes (.fneg k rd ra) s k { c.setG rd (a ^^^ 0x80000000#32) with pc := c.pc + 4#32 } ∧
    (fNan a = true ∨ fNan b = true →
      let inv : Exc := if fSnan a = true ∨ fSnan b = true then 16 else 0
      fAdd rm u a b = (0x7FC00000#32, inv) ∧ fMul rm u a b = (0x7FC00000#32, inv) ∧ fDiv rm u a b = (0x7FC00000#32, inv) ∧
      fCmp a b = (0x30000000#32, inv) ∧ (fNan b = false → fMinMax false a b = (b, inv) ∧ fMinMax true a b = (b, inv)) ∧
      (fNan a = true → fNan b = true → fMinMax false a b = (0x7FC00000#32, inv))) ∧
    fAdd rm u a b = fAdd rm u b a ∧ fMul rm u a b = fMul rm u b a ∧
    (fNan a = false → fNan b = false → fInf a = false → fZero a = false → fZero b = true → fDiv rm u a b = (infW (fSign a != fSign b), 8)) ∧
    (fNan a = false → fSign a = true → fZero a = false → fSqrt rm u a = (0x7FC00000#32, 16)) ∧
    (fNan a = false → fNan b = false → ¬(fZero a = true ∧ fZero b = true) → a ≠ b →
      ((fCmp a b).1 = 0x80000000#32 ∧ (fCmp b a).1 = 0x20000000#32) ∨ ((fCmp a b).1 = 0x20000000#32 ∧ (fCmp b a).1 = 0x80000000#32))

/-- Repeat prefixes, traps between instructions, and what wakes or stops a core from outside (11 R296 to R298, R317, R318, R323 to R325, 12 R331, R338 to R343): a
prefix at PC repeats the next instruction CNT times; a prefix after a prefix, or REPL with CNT above 256, is an Illegal Repeat; an undefined word traps;
the lowest pending and enabled line interrupts; a sleeping core wakes; the watchdog traps and reports. -/
def Obligations.RepeatsAndTraps : Prop :=
  ∀ (s : State) (k : Fin 4) (rd ra rb : Fin 32) (w : Word), s.wf = true →
    let c := s.core k
    (s.runsAt k false →
      CoreDoes (.rep k) s k { c with rep := some { repl := false } } ∧ CoreDoes (.repl k) s k { c with rep := some { repl := true } }) ∧
    (∀ r : Rep, c.run = .run ∨ c.run = .wdog → c.stopReq = false → c.rep = some r → r.checked = false → c.wdogDue s.ltide = false → c.irqDue = false → c.fetchTrap (c.pc + 4#32) = none →
      Traps (.rep k) s k 5 0xF4000000#32 0x20#32 ∧ Traps (.repl k) s k 5 0xF4000001#32 0x20#32 ∧
      Traps (.jr k ra) s k 5 (encR 0x22 0 ra 0 0) 0x20#32 ∧ (r.repl = true → 256 < c.cnt.toNat → Traps (.add k rd ra rb) s k 5 c.cnt 0x20#32) ∧
      (c.cnt = 0#32 → CoreDoes (.add k rd ra rb) s k { c with pc := c.pc + 8#32, rep := none }) ∧
      ((r.repl = true → c.cnt.toNat ≤ 256) → c.cnt ≠ 0#32 → Does (.or k rd ra rb) s fun t =>
        let d := t.core k
        d.regs = (c.setG rd (c.g ra ||| c.g rb)).regs ∧ d.cnt = c.cnt - 1 ∧
        (c.cnt = 1#32 → d.pc = c.pc + 8#32 ∧ d.rep = none) ∧ (c.cnt ≠ 1#32 → d.pc = c.pc ∧ d.rep = some { r with checked := true }) ∧
        (∀ j, j ≠ k.val → t.core j = s.core j) ∧ Changes [.cores] s t)) ∧
    (anvilDefined w = true → exec (.undefinedOpcode k w) s = .next s) ∧
    (anvilDefined w = false → fld w 31 26 ≠ 0x3D → s.runsAt k (decide (fld w 31 26 = 0x3E)) →
      Traps (.undefinedOpcode k w) s k 3 w (if fld w 31 26 = 0x3E then 0x40#32 else 0#32)) ∧
    (anvilDefined w = false → fld w 31 26 = 0x3D → s.runsAt k false → Traps (.undefinedOpcode k w) s k 3 w 0x20#32) ∧
    (∀ q, c.run = .run ∨ c.run = .wdog → c.rep = none → c.wdogDue s.ltide = false → c.irqDue = false → c.fetchTrap c.pc = some q →
      Traps (.add k rd ra rb) s k q.1 q.2.1 q.2.2) ∧
    (∀ n < 64, c.run = .run ∨ c.run = .wdog → c.inRepl = false → c.wdogDue s.ltide = false → c.script = true ∨ bitOf c.psr 1 = true → c.ready.getLsbD n = true →
      (∀ j < n, c.ready.getLsbD j = false) → Traps (.interruptEntry k) s k 0x0D 0#32 (s.boundaryBits k ||| BitVec.ofNat 32 (n * 256))) ∧
    (c.irqDue = false → exec (.interruptEntry k) s = .next s) ∧
    (c.run = .halted ∨ c.run = .sleep → ∀ i ∈ [Instr.add k rd ra rb, .rep k, .interruptEntry k, .jr k ra, .fadd k rd ra rb], exec i s = .next s) ∧
    (c.run = .sleep → c.ready ≠ 0#64 → Does (.coreWake k) s fun t =>
      (t.core k).run = .run ∧ (t.core k).pc = c.pc ∧ (t.core k).regs = c.regs ∧ (c.wdogEn = true → (t.core k).wdogFrom = some s.ltide) ∧
      (∀ j, j ≠ k.val → t.core j = s.core j) ∧ Changes [.cores] s t) ∧
    (c.ready = 0#64 → exec (.coreWake k) s = .next s) ∧
    (∀ f, c.wdogFrom = some f → f + BitVec.ofNat 64 c.wdogLeft ≤ s.ltide → c.wdogDue s.ltide = true → c.inRepl = false → s.vectorOk k 0x0C → Does (.watchdogExpiry k) s fun t =>
      let d := t.core k
      d.run = .wdog ∧ d.wdogEn = false ∧ d.wdogFrom = none ∧ d.epc = c.pc &&& 0xFFFFFFFC#32 ∧ d.epsr = c.psr ∧ d.pc = c.tvec + 0xC0#32 ∧
      d.ecause = s.boundaryBits k ||| 0x0C#32 ∧ d.regs = c.regs ∧ Posts s t 0xB0 k 0 ∧ (∀ j, j ≠ k.val → t.core j = s.core j) ∧ Changes [.now, .timers, .tide, .dev, .cores, .coreCtl, .counts, .out, .pba] s t)

/-- The core control block, the exchange block and the store queue (11 R297, R308, R313 to R316, R326): CORE_RUN releases and stops cores; IPI sets their lines;
FW_EVENT posts; a script ends its exchange, reads its command and gives its response; LIMIT ends an exchange; the oldest store burst is committed while no journal write waits (01 R21). -/
def Obligations.CoreControl : Prop :=
  ∀ (s : State) (ag : Agent) (k : Fin 4) (i : Fin 64) (w : Word), s.wf = true →
    let c := s.core k
    let y := s.slot i
    let x := y.xchg
    ((∀ p, ag ≠ .path p) →
      (Does (.coreRunWrite ag w) s fun t =>
        (bitOf w k = true → c.run = .halted → (t.core k).run = .run ∧ (t.core k).pc = tget 0#32 s.coreCtl.entry k &&& 0xFFFFFFFC#32 ∧ (t.core k).psr = 0#32 ∧
          (t.core k).regs = c.regs ∧ (∀ n < 8, (t.core k).seg n = {})) ∧
        (bitOf w k = true → c.run ≠ .halted → t.core k = { c with stopReq := false }) ∧
        (bitOf w k = false → c.run ≠ .halted → c.inRepl = false → (t.core k).run = .halted ∧ (t.core k).pc = c.pc) ∧
        (bitOf w k = false → c.run ≠ .halted → c.inRepl = true → t.core k = { c with stopReq := true }) ∧
        (bitOf w k = false → c.run = .halted → t.core k = c) ∧ Changes [.dev, .cores, .coreCtl, .counts, .out, .pba] s t) ∧
      (Does (.ipi ag w) s fun t => (t.core k).irqPend = (if bitOf w k then c.irqPend ||| (1#64 <<< (48 + k.val)) else c.irqPend) ∧ Changes [.cores] s t) ∧
      (x.active = true → Does (.xchgCmdDataRead ag i) s fun t =>
        t.slot i = { y with xchg := { x with pos := min (x.pos + 4) 65544 } } ∧ t.lastRead = wordOfLe (padTo 4 (x.cmd.drop x.pos)) ∧ OtherSlots i s t ∧
        Changes [.slots, .lastRead] s t) ∧
      (x.active = true → x.resp.length + 4 ≤ 65540 → Does (.xchgRespData ag i w) s fun t =>
        t.slot i = { y with xchg := { x with resp := x.resp ++ leBytes w.toNat 4 }, regs := { y.regs with cmdErr := .none } } ∧ OtherSlots i s t ∧ Changes [.slots] s t) ∧
      (x.active = true → fld w 16 0 ≤ x.resp.length → Does (.xchgRespLenWrite ag i w) s fun t =>
        t.slot i = { y with xchg := { x with resp := x.resp.take (fld w 16 0) }, regs := { y.regs with cmdErr := .none } } ∧ OtherSlots i s t ∧ Changes [.slots] s t) ∧
      (x.active = true → x.resp.length < fld w 16 0 → exec (.xchgRespLenWrite ag i w) s = .next (s.slotErr i .value)) ∧
      (x.active = true → 65540 < x.resp.length + 4 → exec (.xchgRespData ag i w) s = .next (s.slotErr i .value)) ∧
      (x.active = false → ∀ c ∈ [Instr.xchgRespData ag i w, .xchgRespLenWrite ag i w, .xchgEnd ag i w], exec c s = .next (s.slotErr i .state)) ∧
      (let e := fld w 3 0
       (x.active = true → e = 0 ∨ (11 < e ∧ e ≠ 15) ∨ (e = 1 ∧ (x.resp.length < 2 ∨ 65538 < x.resp.length)) → exec (.xchgEnd ag i w) s = .next (s.slotErr i .value)) ∧
       (e = 1 → x.active = true → x.sent = true → 2 ≤ x.resp.length → x.resp.length ≤ 65538 → ∀ n z, y.holder = some n → s.txn n = some z → z.stage = .exch →
         z.sm = false → z.target = .slot i.val → Does (.xchgEnd ag i w) s fun t =>
           t.outcomeIs n (fun o => o.cls = .done ∧ o.resp = x.resp ∧ o.respLen = x.resp.length) ∧ (t.slot i).pr.lastEnd = 1 ∧ (t.slot i).xchg.active = false ∧
           OtherSlots i s t ∧ Changes [.slots, .timers, .dev, .flow, .mram, .cores, .telemetry, .counts, .lpos, .audit, .crypto, .out, .pba] s t) ∧
       (1 < e → e ≤ 11 → x.active = true → x.sent = true → Does (.xchgEnd ag i w) s fun t =>
         (t.slot i).pr.lastEnd = e ∧ (t.slot i).xchg.active = false ∧ OtherSlots i s t ∧ Changes [.slots, .timers, .dev, .flow, .mram, .cores, .telemetry, .counts, .lpos, .audit, .crypto, .out, .pba] s t) ∧
       (e = 15 → x.active = true → Does (.xchgEnd ag i w) s fun t =>
         (t.slot i).st = .present ∧ (t.slot i).xchg.active = false ∧ (t.slot i).pr.lastEnd = 15 ∧ Posts s t 0xB1 i 1 ∧ OtherSlots i s t ∧ Changes [.slots, .timers, .dev, .flow, .mram, .cores, .telemetry, .counts, .lpos, .audit, .crypto, .out, .pba] s t))) ∧
    (x.active = true → x.startedAt + BitVec.ofNat 64 (x.limit.toNat * 16000) ≤ s.ltide → Does (.xchgLimitExpiry i) s fun t =>
      (t.slot i).st = .present ∧ (t.slot i).xchg.active = false ∧ (t.slot i).xchg.hwEnd = true ∧ Posts s t 0xB1 i 2 ∧ OtherSlots i s t ∧ Changes [.now, .slots, .timers, .tide, .dev, .flow, .mram, .cores, .counts, .lpos, .audit, .out, .pba] s t) ∧
    (x.active = false → exec (.xchgLimitExpiry i) s = .next s) ∧
    (∀ p, Does (.coreRunWrite (.path p) w) s (fun t => t = s) ∧ Does (.ipi (.path p) w) s (fun t => t = s) ∧ Does (.xchgEnd (.path p) i w) s (fun t => t = s)) ∧
    (Does (.fwEvent k w) s fun t => Posts s t 0xB2 k (fld w 7 0) ∧ Changes [.dev, .counts, .out, .pba] s t) ∧
    (∀ b bs r, s.journalWaits = false → s.storeQ = (b, bs) :: r → b = k.val → Does (.mramStoreCommit k) s fun t =>
      t.storeQ = r ∧ t.mram.dictMem = putBytes s.mram.dictMem bs ∧ t.dictView = s.dictView ∧ Changes [.mram, .flow, .cores, .storeQ] s t) ∧
    (s.journalWaits = true ∨ (∀ e ∈ s.storeQ, e.1 ≠ k.val) → exec (.mramStoreCommit k) s = .next s)

/-- Locking, discards, enumeration and ring checks (13 R345, R346, R348 to R351, R358): what a bad frame counts as, how a member claims or takes its
address in the two passes and passes the frame on, what the master makes of the passes and of a foreign one, how the ring opens and closes, and the
commands ENUMERATE and UNBIND. A frame leaves at once where the transmitter is free and waits where it is not; a frame found bad by its end alone, when its
resending has begun, leaves with ABORT. The strap RINGMASTER is a constant of the device: the clauses of the master and of the member are those of its two values. -/
def Obligations.RingEnumeration : Prop :=
  ∀ (s : State) (f : Frame), s.wf = true →
    let r := s.ring
    let l := enumEntries f.payload
    let b := s.boundAddr
    let taken : List Instr := [.enum f, .measure f, .sched f, .schedAck f, .dictReq f, .dictRsp f]
    let free : Prop := r.waits = [] ∧ r.txUntil ≤ s.now
    let sent (t : State) (g : Frame) : Prop := t.out.getLast? = some (.ring g)
    let passSent (t : State) (n : Nat) : Prop := t.ring.enumPass = n ∧ (free → ∃ g, sent t g ∧ g.typ = 3#8 ∧ g.dst = 0xFF#8 ∧ byteAt g.payload 0 = BitVec.ofNat 8 n)
    let opened (t : State) (code : Nat) : Prop :=
      t.ring.closed = false ∧ t.ring.enumPass = 0 ∧ t.ring.measure = none ∧ t.ring.checkAt = none ∧ t.dev.irqStatus.getLsbD 9 = true ∧ Posts s t 0x80 0 code
    (r.rxLock = false →
      (∀ c ∈ taken ++ [.rxLockLost, .loss], exec c s = .next s) ∧ (∀ dt frac, exec (.tide f dt frac) s = .next s) ∧ (∀ h, exec (.ringCheck h) s = .next s) ∧
      (s.boot.step ≠ 0 → exec .rxLock s = .next (s.modRing fun r => { r with rxLock := true, quiet := false, releases := 0 }))) ∧
    (r.rxLock = true →
      exec .rxLock s = .next s ∧
      Does .rxLockLost s (fun t =>
        t.ring.rxLock = false ∧ t.ring.unlockedAt = s.now ∧ (r.quiet = true → t.ring.closed = r.closed ∧ t.counts = s.counts) ∧
        (r.quiet = false → t.tallyOf 0x1201 7 = min (s.tallyOf 0x1201 7 + 1) 0xFFFFFFFF ∧ (s.isMaster = true → t.ring.closed = false)) ∧ Changes [.dev, .counts, .ring, .loops, .out, .pba] s t) ∧
      (s.isMaster = true → r.closed = true → Does .loss s fun t => opened t 2 ∧ Changes [.dev, .counts, .ring, .loops, .out, .pba] s t) ∧
      (s.isMaster = false ∨ r.closed = false → exec .loss s = .next s) ∧
      (f.good = false ∨ 260 < f.payload.length ∨ f.dst = 0#8 → s.ringFate f = .discard 1) ∧ (frameBad f = false → 16 ≤ f.hops → s.ringFate f = .discard 2) ∧
      (∀ n, s.ringFate f = .discard n → ∀ c ∈ taken, Does c s fun t =>
        t.ring.discard = true ∧ t.tallyOf 0x1201 n = min (s.tallyOf 0x1201 n + 1) 0xFFFFFFFF ∧
        (f.good = true → Changes [.counts, .ring] s t) ∧
        (free → t.out = s.out ∨ ∃ g, t.out = s.out ++ [.ring g] ∧ g.good = false ∧ g.hops = f.hops + 1) ∧ Changes [.counts, .ring, .out, .freeCount] s t) ∧
      ((∀ n, s.ringFate f ≠ .discard n) →
        let me : Member := { serial := devSerial, hop := f.hops + 1 }
        let passes (P : State → Prop) (e : List Member) : Prop := Does (.enum f) s fun t =>
          P t ∧ t.ring.masterAddr = f.src.toNat ∧ t.ring.hop = f.hops + 1 ∧
          (free → sent t { f with hops := f.hops + 1, payload := enumPayload (byteAt f.payload 0).toNat e }) ∧ Changes [.now, .timers, .tide, .dev, .flow, .mram, .cores, .counts, .lpos, .audit, .ring, .loops, .out, .pba, .freeCount] s t
        (Config.ringMaster = false → byteAt f.payload 0 = 1#8 →
          (b = 0 → passes (fun t => t.ring.addr = r.addr ∧ t.ring.addrState = if r.addrState = 2 then 0 else r.addrState) l) ∧
          (b ≠ 0 → (∃ m ∈ l, m.addr = b) → passes (fun t => t.ring.addr = 0 ∧ t.ring.addrState = 2) (l ++ [{ me with conflict := true }])) ∧
          (b ≠ 0 → (∀ m ∈ l, m.addr ≠ b) → passes (fun t => t.ring.addr = b ∧ t.ring.addrState = 1) (l ++ [{ me with addr := b }]))) ∧
        (Config.ringMaster = false → byteAt f.payload 0 = 2#8 →
          (b ≠ 0 ∨ r.addrState = 2 → passes (fun t => t.ring.addr = r.addr) l) ∧
          (b = 0 → r.addrState ≠ 2 →
            (∀ a, 1 ≤ a → a ≤ 16 → l.length < 16 → (∀ m ∈ l, m.addr ≠ a) → (∀ c, 1 ≤ c → c < a → ∃ m ∈ l, m.addr = c) →
              passes (fun t => t.ring.addr = a ∧ t.ring.addrState = 1 ∧ t.boundAddr = a) (l ++ [{ me with addr := a, isNew := true }])) ∧
            (16 ≤ l.length ∨ (∀ a, 1 ≤ a → a ≤ 16 → ∃ m ∈ l, m.addr = a) → passes (fun t => t.ring.addr = 0 ∧ t.ring.addrState = 3 ∧ t.boundAddr = 0) l))) ∧
        (s.isMaster = true →
          let own : Bool := (memberOf ((f.payload.drop 4).take 16)).serial = devSerial
          (own = false → Does (.enum f) s fun t =>
            t.ring.conflict = true ∧ t.isMaster = false ∧ t.ring.closed = false ∧ t.ring.enumPass = 0 ∧ t.dev.irqStatus.getLsbD 9 = true ∧ Posts s t 0x86 0 0 ∧
            Changes [.now, .timers, .tide, .dev, .flow, .mram, .cores, .counts, .lpos, .audit, .ring, .loops, .out, .pba, .freeCount] s t) ∧
          (own = true → r.enumPass ≠ (byteAt f.payload 0).toNat → exec (.enum f) s = .next s) ∧
          (own = true → r.enumPass = 1 → byteAt f.payload 0 = 1#8 → Does (.enum f) s fun t => passSent t 2 ∧ Changes [.now, .timers, .tide, .dev, .flow, .mram, .cores, .counts, .lpos, .audit, .ring, .loops, .out, .pba, .freeCount] s t) ∧
          (own = true → r.enumPass = 2 → byteAt f.payload 0 = 2#8 → Does (.enum f) s fun t =>
            t.ring.enumPass = 0 ∧ t.ring.measure = some (0, 1) ∧ t.ring.members.map (·.serial) = (byHop l).map (·.serial) ∧
            (s.dev.evq.length + 2 * r.members.length + 2 * l.length < 250 →
              (∀ m ∈ r.members, (∀ e ∈ l, e.serial ≠ m.serial) → ∃ e ∈ t.dev.evq, e.typ = 0x83 ∧ e.source = m.addr) ∧
              (∀ m ∈ l, (∀ e ∈ r.members, e.serial ≠ m.serial) → ∃ e ∈ t.dev.evq, e.typ = 0x84 ∧ e.source = m.addr) ∧
              ∃ e ∈ t.dev.evq, e.typ = 0x82 ∧ e.code = l.length) ∧ Changes [.now, .timers, .tide, .dev, .flow, .mram, .cores, .counts, .lpos, .audit, .ring, .loops, .out, .pba, .freeCount] s t)))) ∧
    (r.rxLock = true → ∀ h,
      (s.isMaster = false → Does (.ringCheck h) s fun t =>
        let isCheck (g : Frame) : Prop := g.typ = 2#8 ∧ g.dst = 0xFF#8 ∧ g.src = BitVec.ofNat 8 r.masterAddr ∧ g.hops = h.val + 1
        (free → ∃ g, t.out = s.out ++ [.ring g] ∧ isCheck g ∧ t.ring.txUntil = s.now + (frameSymbols g).length * symCk) ∧
        (s.now < r.txUntil → r.waits.length < 2 → t.out = s.out ∧
          ∃ g, isCheck g ∧ t.ring = { r with waits := r.waits ++ [{ cls := 2, frame := g, at_ := s.now }] }) ∧ Changes [.ring, .out] s t) ∧
      (s.isMaster = true → ∀ a, r.checkAt = some a →
        (r.closed = false → Does (.ringCheck h) s fun t => t.ring.closed = true ∧ t.ring.checkAt = none ∧ passSent t 1 ∧ Posts s t 0x81 0 0 ∧ Changes [.now, .timers, .tide, .dev, .mram, .cores, .counts, .ring, .loops, .out, .pba, .freeCount] s t) ∧
        (r.closed = true → exec (.ringCheck h) s = .next (s.modRing fun r => { r with checkAt := none }))) ∧
      (s.isMaster = true → r.checkAt = none → exec (.ringCheck h) s = .next s)) ∧
    (s.isMaster = true → s.boot.step ≠ 0 →
      (r.closed = false → Does .ringCheckTimer s fun t =>
        t.ring.checkAt = some t.now ∧ (∀ a, r.checkAt = some a → t.now = max s.now (a + 24000)) ∧
        (free → ∃ g, sent t g ∧ g.typ = 2#8 ∧ g.dst = 0xFF#8 ∧ g.hops = 0) ∧ Changes [.now, .timers, .tide, .dev, .cores, .counts, .ring, .loops, .out, .pba, .freeCount] s t) ∧
      (r.closed = true → r.checkAt = none →
        (r.measure ≠ none ∨ r.enumPass ≠ 0 → exec .ringCheckTimer s = .next s) ∧
        (r.measure = none → r.enumPass = 0 → Does .ringCheckTimer s fun t =>
          t.ring.checkAt = some s.now ∧ (free → ∃ g, sent t g ∧ g.typ = 2#8 ∧ g.dst = 0xFF#8 ∧ g.hops = 0) ∧ Changes [.now, .timers, .tide, .dev, .cores, .counts, .ring, .loops, .out, .pba, .freeCount] s t)) ∧
      (∀ a, r.closed = true → r.checkAt = some a → Does .ringCheckTimer s fun t => t.now = max s.now (a + 48000) ∧ opened t 3 ∧ Changes [.now, .timers, .tide, .dev, .cores, .counts, .ring, .loops, .out, .pba, .freeCount] s t)) ∧
    (s.isMaster = false → exec .ringCheckTimer s = .next s) ∧
    (∀ (ag : Agent) (w : Word), w &&& 0x1F#32 = 0#32 →
      (s.allows ag 2 = true →
        (s.isMaster = false → exec (.enumerate ag w) s = .next (s.ringErr .state)) ∧
        (s.isMaster = true → r.closed = false → exec (.enumerate ag w) s = .next (s.ringErr .none)) ∧
        (s.isMaster = true → r.closed = true → Does (.enumerate ag w) s fun t => t.ring.cmdErr = .none ∧ passSent t 1 ∧ Changes [.now, .slots, .timers, .tide, .dev, .flow, .mram, .cores, .telemetry, .counts, .lpos, .audit, .crypto, .ring, .loops, .out, .pba, .freeCount] s t) ∧
        Does (.ringUnbind ag w) s (fun t => t.ring = { r with cmdErr := .none } ∧ t.boundAddr = 0 ∧ Changes [.mram, .ring] s t) ∧
        ∀ c ∈ [Instr.enumerate ag (w ||| 8#32), .ringUnbind ag (w ||| 2#32)], exec c s = .next (s.ringErr .multiple)) ∧
      (∀ p, ag = .path p → s.grant p < 2 → ∀ c ∈ [Instr.enumerate ag w, .ringUnbind ag w], exec c s = .next (s.wdeny p)))

/-- Link measurement, tide frames and the sluice (13 R352, R354, R355, R357, 05 R141): the measuring member opens its window, keeps its delay and reports it;
the master measures a failed link once more, then marks it and goes on; a TIDE frame carries the master's tide at a multiple of TIDE_PERIOD and its own
output delay; each forwarder adds its residence of 28 to 36 symbol times and its output delay; SLUICE_HOLD follows Table 13-5. -/
def Obligations.RingMeasurementTideSluice : Prop :=
  ∀ (s : State) (f : Frame), s.wf = true →
    let r := s.ring
    let none32 : Word := 0xFFFFFFFF#32
    let free : Prop := r.waits = [] ∧ r.txUntil ≤ s.now
    let onHop (h : Nat) (m m' : Member) (x : Option Word) : Prop :=
      m' = if m.hop = h then { m with failed := x.isNone, delay := x.getD m.delay } else m
    let marked (t : State) (h : Nat) (x : Option Word) : Prop := List.Forall₂ (fun m m' => onHop h m m' x) r.members t.ring.members
    let goesOn (t : State) (h : Nat) : Prop :=
      ((∃ m ∈ r.members, h < m.hop) → t.ring.measure = some (h + 1, 1)) ∧ ((∀ m ∈ r.members, m.hop ≤ h) → t.ring.measure = none)
    (r.rxLock = true → s.ringFate f = .pass → Does (.measure f) s fun t =>
      t.ring = { r with
        window := decide ((byteAt f.payload 0).toNat = r.hop ∧ r.hop ≠ 0), quiet := decide ((byteAt f.payload 0).toNat + 1 = r.hop)
        txUntil := t.ring.txUntil, waits := t.ring.waits } ∧
      (free → t.out = s.out ++ [.ring { f with hops := f.hops + 1 }]) ∧ Changes [.ring, .out] s t) ∧
    (s.ringFate f = .mine ∨ s.ringFate f = .back → exec (.measure f) s = .next s) ∧
    (∀ x : Option Word,
      (r.window = false → exec (.measureWindowEnd x) s = .next s) ∧
      (r.window = true → s.isMaster = false → Does (.measureWindowEnd x) s fun t =>
        t.ring.window = false ∧ t.ring.linkOut = x.getD r.linkOut ∧
        (free → ∃ g, t.out = s.out ++ [.ring g] ∧ g.typ = 5#8 ∧ g.dst = BitVec.ofNat 8 r.masterAddr ∧ g.payload = leBytes (x.getD none32).toNat 4) ∧
        Changes [.ring, .out] s t) ∧
      (r.window = true → s.isMaster = true → Does (.measureWindowEnd x) s fun t =>
        t.ring.linkOut = x.getD r.linkOut ∧
        (∀ n, r.measure = some (0, n) →
          (x = none → n < 2 → t.ring.measure = some (0, n + 1) ∧ t.ring.members = r.members) ∧
          (x ≠ none → marked t 0 x ∧ goesOn t 0) ∧
          (x = none → 2 ≤ n → marked t 0 none ∧ goesOn t 0 ∧ t.dev.irqStatus.getLsbD 9 = true ∧ Posts s t 0x89 0 0)) ∧ Changes [.slots, .timers, .tide, .dev, .flow, .mram, .cores, .telemetry, .counts, .lpos, .audit, .crypto, .ring, .loops, .out, .pba, .freeCount] s t) ∧
      (s.isMaster = false ∨ r.measure = none → exec (.measReport x) s = .next s) ∧
      (∀ h n, r.measure = some (h, n) → s.isMaster = true → h ≠ 0 →
        (∀ v, x = some v → v ≠ none32 → Does (.measReport x) s fun t => marked t h x ∧ goesOn t h ∧ t.now = s.now ∧ Changes [.now, .slots, .timers, .tide, .dev, .flow, .mram, .cores, .telemetry, .counts, .lpos, .audit, .crypto, .ring, .loops, .out, .pba, .freeCount] s t) ∧
        (x = none ∨ x = some none32 → n < 2 → Does (.measReport x) s fun t =>
          t.ring.measure = some (h, n + 1) ∧ t.ring.members = r.members ∧ t.ring.measureAt = t.now ∧
          (x = none → t.now = max s.now (r.measureAt + 96000)) ∧ Changes [.now, .slots, .timers, .tide, .dev, .flow, .mram, .cores, .telemetry, .counts, .lpos, .audit, .crypto, .ring, .loops, .out, .pba, .freeCount] s t) ∧
        (x = none ∨ x = some none32 → 2 ≤ n → Does (.measReport x) s fun t =>
          marked t h none ∧ goesOn t h ∧ t.dev.irqStatus.getLsbD 9 = true ∧ Posts s t 0x89 h 0 ∧ Changes [.now, .slots, .timers, .tide, .dev, .flow, .mram, .cores, .telemetry, .counts, .lpos, .audit, .crypto, .ring, .loops, .out, .pba, .freeCount] s t))) ∧
    (let st := s.tide.st
     let may : Prop := s.isMaster = true ∧ (st = .locked ∨ st = .holdover) ∧ r.closed = true ∧ r.enumPass = 0 ∧ r.measure = none
     (¬may → exec .tideLaunch s = .next s) ∧
     (may → Does .tideLaunch s fun t =>
       let bad : Bool := r.linkOut = none32
       (∃ g, t.out.getLast? = some (.ring g) ∧ (free → t.out = s.out ++ [.ring g]) ∧ g.typ = 1#8 ∧ g.flags = 2#8 ∧ g.dst = 0xFF#8 ∧ g.hops = 0 ∧
         g.payload = leBytes t.ltide.toNat 8 ++ [BitVec.ofNat 8 t.tide.phase, 0, BitVec.ofNat 8 (b2n bad + 2 * b2n (decide (st = .holdover))), 0] ++
           leBytes (if bad then 0 else r.linkOut.toNat) 4) ∧
       (r.tidePeriod ≠ 0 → s.ltide.toNat + r.tidePeriod < 2 ^ 64 → s.tide.paused = false → s.tide.rate = 0 → 0 ≤ s.tide.acc → s.tide.acc < 1000000000 →
         s.tide.slew = 0 → s.tide.phase < 30 →
         s.ltide.toNat < t.ring.launched.toNat ∧ t.ring.launched.toNat ≤ s.ltide.toNat + r.tidePeriod ∧ t.ring.launched.toNat % r.tidePeriod = 0 ∧ (free → t.ltide = t.ring.launched ∧ t.tide.phase = 0)) ∧ Changes [.now, .timers, .tide, .cores, .ring, .out] s t)) ∧
    (∀ dt frac, r.rxLock = true → (s.ringFate f = .mine ∨ s.ringFate f = .back → exec (.tide f dt frac) s = .next (s.elapse dt)) ∧
      (∀ n, s.ringFate f = .discard n → Does (.tide f dt frac) s fun t =>
        t.ring.discard = true ∧ t.tallyOf 0x1201 n = min (s.tallyOf 0x1201 n + 1) 0xFFFFFFFF ∧ t.tide = (s.elapse dt).tide ∧
        (f.good = true → t.out = s.out) ∧ Changes [.now, .timers, .tide, .dev, .cores, .counts, .ring, .out, .pba, .freeCount] s t) ∧
      (s.ringFate f = .pass → Does (.tide f dt frac) s fun t =>
        let p := f.payload
        let bad : Bool := (byteAt p 10).getLsbD 0 || r.linkOut = none32
        let valid : Bool := frameMaster f && f.src.toNat = r.masterAddr && !(byteAt p 10).getLsbD 0 && p.length = 16 && !Config.ringMaster
        let u := (s.elapse dt).tide
        (free → ∃ g acc, t.out.getLast? = some (.ring g) ∧ g = { f with hops := f.hops + 1, payload := g.payload } ∧
          g.payload = p.take 10 ++ [byteAt p 10 ||| BitVec.ofNat 8 (b2n bad)] ++ (p.drop 11).take 1 ++ leBytes acc 4 ∧
          ofLe ((p.drop 12).take 4) + 4480 + (if bad then 0 else r.linkOut.toNat) ≤ acc ∧
          acc ≤ ofLe ((p.drop 12).take 4) + 5760 + (if bad then 0 else r.linkOut.toNat)) ∧
        (valid = false → t.tide = u) ∧
        (valid = true →
          let sent : Int := ((ofLe (p.take 8)) * 30 + (byteAt p 8).toNat) * 16 + (byteAt p 9).toNat + ofLe ((p.drop 12).take 4)
          t.tide = ((s.elapse dt).memberTide ((u.pos * 16 + frac.val - sent) / 16)).tide ∧ t.tide.lastAt = s.now + dt) ∧ Changes [.now, .timers, .tide, .dev, .cores, .counts, .ring, .out, .pba, .freeCount] s t)) ∧
    (r.hold = true → r.rxLock = false → Does .sluiceRxFail s fun t =>
      t.now = max s.now (r.unlockedAt + r.rxFail) ∧ t.ring.hold = false ∧ t.ring.releases = r.releases + 1 ∧ t.ring.releasedAt = some t.now ∧
      t.ring.stopped = (r.stopped || decide (8 ≤ r.releases + 1)) ∧ Posts s t 0x87 0 0 ∧ Changes [.now, .timers, .tide, .dev, .cores, .counts, .ring, .loops, .out, .pba] s t) ∧
    (r.hold = false ∨ r.rxLock = true → exec .sluiceRxFail s = .next s) ∧
    (r.hold = true ∨ r.left = true ∨ r.stopped = true ∨ s.boot.step = 0 → exec .sluiceRehold s = .next s) ∧
    (r.hold = false → r.left = false → r.stopped = false → s.boot.step ≠ 0 → Does .sluiceRehold s fun t =>
      t.ring.hold = true ∧ t.now = (match r.releasedAt with | some a => max s.now (a + 480000000) | none => s.now + 48000) ∧ Posts s t 0x87 0 1 ∧ Changes [.now, .timers, .tide, .dev, .cores, .counts, .ring, .loops, .out, .pba] s t) ∧
    (∀ (ag : Agent) (w : Word), w &&& 0x1F#32 = 0#32 → s.allows ag 2 = true →
      Does (.leave ag w) s (fun t =>
        t.ring.left = true ∧ t.ring.hold = false ∧ t.ring.cmdErr = .none ∧ (r.hold = true → Posts s t 0x87 0 0) ∧ Changes [.now, .slots, .timers, .tide, .dev, .flow, .mram, .cores, .telemetry, .counts, .lpos, .audit, .crypto, .ring, .loops, .out, .pba, .freeCount] s t) ∧
      Does (.ringRejoin ag w) s (fun t =>
        t.ring.left = false ∧ t.ring.stopped = false ∧ t.ring.releases = 0 ∧ t.ring.releasedAt = none ∧ t.ring.hold = true ∧ t.ring.cmdErr = .none ∧
        (r.hold = false → Posts s t 0x87 0 1) ∧ Changes [.now, .slots, .timers, .tide, .dev, .flow, .mram, .cores, .telemetry, .counts, .lpos, .audit, .crypto, .ring, .loops, .out, .pba, .freeCount] s t) ∧
      ∀ c ∈ [Instr.leave ag (w ||| 4#32), .ringRejoin ag (w ||| 2#32)], exec c s = .next (s.ringErr .multiple))

/-- Dictionary frames, scheduled commands and the frame queues (13 R348, R359 to R363): a frame for this device that fails its MAC, its tide window or the
replay check is discarded and counted; a repeated request is answered again and not executed again; a request is carried out and answered, a response ends
the request that waits, a request that comes back ends with NO_DEST, and one without an answer is sent again after 10 ms, three times; a SCHED is acted on
once and acknowledged, and the master collects the acknowledgements and sends again to the others. That a response is matched by what it repeats of the
request is the model's reading (the assumption log names it). A frame leaves at once where the transmitter is free. -/
def Obligations.RingDictionaryAndSchedule : Prop :=
  ∀ (s : State) (f : Frame), s.wf = true →
    let r := s.ring
    let p := f.payload
    let x := s.peer f.src.toNat
    let skew : Int := ofLe (p.take 8) - (s.ltide.toNat : Int)
    let dropped (n : Nat) (c : Instr) : Prop := Does c s fun t =>
      t.ring.discard = true ∧ t.tallyOf 0x1201 n = min (s.tallyOf 0x1201 n + 1) 0xFFFFFFFF ∧ Changes [.counts, .ring] s t
    let free : Prop := r.waits = [] ∧ r.txUntil ≤ s.now
    let sent (t : State) (g : Frame) : Prop := t.out.getLast? = some (.ring g)
    let idle : Prop := r.rxQ = [] ∧ ∀ c < 2, (s.mb c).busy = false ∧ (s.mb c).taken = false
    let answered (t : State) (c st : Nat) (v : List Byte) : Prop :=
      (t.mb c).busy = false ∧ (t.mb c).done = true ∧ (t.mb c).status = st ∧ (t.mb c).rlen = v.length ∧ t.dev.irqStatus.getLsbD 4 = true
    let sameRequest (q : RingReq) : Prop :=
      q.dst = f.src.toNat ∧ (byteAt p 8).toNat = (if q.write then 2 else 1) ∧ ofLe ((p.drop 10).take 2) = q.index ∧ (byteAt p 12).toNat = q.sub ∧
        ofLe ((p.drop 14).take 4) = q.offset
    (r.rxLock = true →
      (s.ringFate f = .pass → ∀ c ∈ [Instr.dictReq f, .dictRsp f, .schedAck f], Does c s fun t =>
        (free → t.out = s.out ++ [.ring { f with hops := f.hops + 1 }]) ∧ Changes [.out, .ring] s t) ∧
      (s.ringFate f = .mine → s.ringAuthOk f = false → ∀ c ∈ [Instr.dictReq f, .dictRsp f, .schedAck f], dropped 3 c) ∧
      (s.ringFate f = .pass → s.ringAuthOk f = false → dropped 3 (.sched f)) ∧
      (s.ringFate f = .mine → s.ringAuthOk f = true → 22 ≤ p.length → 16000 < skew.natAbs → dropped 4 (.dictReq f) ∧ dropped 4 (.dictRsp f)) ∧
      (s.ringFate f = .back → ∀ q, r.reqs = [q] → q.seq = f.seq → q.dst = f.dst.toNat → r.rxQ = [] → Does (.dictReq f) s fun t =>
        answered t (pathNum q.chan) 0x0E [] ∧ t.ring.reqs = [] ∧ Changes [.now, .slots, .polders, .timers, .tide, .dev, .flow, .mram, .cores, .logins, .telemetry, .counts, .ports, .lpos, .mail, .audit, .life, .crypto, .ring, .tray, .loops, .latches, .out, .msix, .pba, .freeCount] s t) ∧
      (s.ringFate f = .mine → s.ringAuthOk f = true → 22 ≤ p.length → skew.natAbs ≤ 16000 →
        (x.seqs.head? ≠ some f.seq → x.seqs.contains f.seq = true → dropped 5 (.dictReq f)) ∧
        (x.seqs.head? ≠ some f.seq → x.seqs.contains f.seq = false → 16 ≤ r.rxQ.length → dropped 6 (.dictReq f)) ∧
        (16 ≤ r.rxQ.length → dropped 6 (.dictRsp f)) ∧
        (x.seqs.head? = some f.seq → ∀ g, x.response = some g → s.isMaster = false → r.txQ = [] → Does (.dictReq f) s fun t =>
          (free → ∃ h, t.out = s.out ++ [.ring h] ∧ h.seq = g.seq ∧ h.typ = g.typ ∧ h.dst = g.dst ∧ h.payload = leBytes s.ltide.toNat 8 ++ g.payload.drop 8) ∧
          t.mram = s.mram ∧ Changes [.now, .slots, .polders, .timers, .tide, .dev, .flow, .mram, .cores, .logins, .telemetry, .counts, .ports, .lpos, .mail, .audit, .life, .crypto, .ring, .tray, .loops, .latches, .out, .msix, .pba, .freeCount] s t) ∧
        (x.seqs.contains f.seq = false → f.typ = 0x10#8 → idle → s.isMaster = false → r.txQ = [] → s.dictRuns = true → byteAt p 8 = 1#8 → 1 ≤ (byteAt p 9).toNat →
          (byteAt p 9).toNat ≤ 3 → Does (.dictReq f) s fun t =>
            let v := s.dictRead (byteAt p 9).toNat (ofLe ((p.drop 10).take 2)) (byteAt p 12).toNat
            let ofs := ofLe ((p.drop 14).take 4)
            t.ring.rxQ = [] ∧ (free → ∃ g, sent t g ∧ g.typ = 0x11#8 ∧ g.dst = f.src ∧
              g.payload = dictPayload s.ltide 1 v.1 (ofLe ((p.drop 10).take 2)) (byteAt p 12).toNat ofs v.2.length ((v.2.drop ofs).take 200)) ∧
            (t.peer f.src.toNat).seqs = f.seq :: x.seqs ∧ Changes [.now, .slots, .polders, .timers, .tide, .dev, .flow, .mram, .cores, .logins, .telemetry, .counts, .ports, .lpos, .mail, .audit, .life, .crypto, .ring, .tray, .loops, .latches, .out, .msix, .pba, .freeCount] s t) ∧
        (x.seqs.contains f.seq = false → r.rxQ.length < 16 → s.dictRuns = false → Does (.dictReq f) s fun t =>
          (∃ o, t.ring.rxQ = r.rxQ ++ [(f, o)]) ∧ (t.peer f.src.toNat).seqs = f.seq :: x.seqs ∧ Changes [.now, .slots, .polders, .timers, .tide, .dev, .flow, .mram, .cores, .logins, .telemetry, .counts, .ports, .lpos, .mail, .audit, .life, .crypto, .ring, .tray, .loops, .latches, .out, .msix, .pba, .freeCount] s t) ∧
        (∀ q, f.typ = 0x11#8 → r.reqs = [q] → sameRequest q → r.rxQ = [] → s.dictRuns = true →
          (byteAt p 9 ≠ 0#8 → Does (.dictRsp f) s fun t => answered t (pathNum q.chan) (byteAt p 9).toNat [] ∧ t.ring.reqs = [] ∧ Changes [.now, .slots, .polders, .timers, .tide, .dev, .flow, .mram, .cores, .logins, .telemetry, .counts, .ports, .lpos, .mail, .audit, .life, .crypto, .ring, .tray, .loops, .latches, .out, .msix, .pba, .freeCount] s t) ∧
          (byteAt p 9 = 0#8 → q.write = true → q.total ≤ q.offset + 200 → Does (.dictRsp f) s fun t =>
            answered t (pathNum q.chan) 0 [] ∧ t.ring.reqs = [] ∧ Changes [.now, .slots, .polders, .timers, .tide, .dev, .flow, .mram, .cores, .logins, .telemetry, .counts, .ports, .lpos, .mail, .audit, .life, .crypto, .ring, .tray, .loops, .latches, .out, .msix, .pba, .freeCount] s t) ∧
          (byteAt p 9 = 0#8 → q.write = false → ofLe ((p.drop 18).take 4) ≤ (q.data ++ p.drop 22).length → Does (.dictRsp f) s fun t =>
            answered t (pathNum q.chan) 0 ((q.data ++ p.drop 22).take 1024) ∧ t.ring.reqs = [] ∧ Changes [.now, .slots, .polders, .timers, .tide, .dev, .flow, .mram, .cores, .logins, .telemetry, .counts, .ports, .lpos, .mail, .audit, .life, .crypto, .ring, .tray, .loops, .latches, .out, .msix, .pba, .freeCount] s t) ∧
          (byteAt p 9 = 0#8 → q.write = false → (q.data ++ p.drop 22).length < ofLe ((p.drop 18).take 4) → (q.data ++ p.drop 22).length < 1024 →
            Does (.dictRsp f) s fun t => ∃ z, t.ring.reqs = [z] ∧ z.data = q.data ++ p.drop 22 ∧ z.offset = z.data.length ∧ z.tries = 0 ∧ z.sentAt = s.now))) ∧
      (s.ringFate f = .pass → s.ringAuthOk f = true →
        let id := (byteAt p 20).toNat
        let named : Prop := r.addr ≠ 0 ∧ (schedDevs p).testBit (r.addr - 1) = true
        let at_ : Tide := BitVec.ofNat 64 (ofLe (p.take 8))
        let n := (byteAt p 9).toNat
        let acks (t : State) (late : Bool) : Prop := free →
          t.out.contains (.ring { f with hops := f.hops + 1 }) = true ∧ ∃ w, t.ring.waits = [w] ∧ w.cls = 3 ∧ w.frame.typ = 0x21#8 ∧
            w.frame.dst = BitVec.ofNat 8 r.masterAddr ∧ w.frame.payload = [BitVec.ofNat 8 id, BitVec.ofNat 8 (b2n late)]
        (¬named → Does (.sched f) s fun t => (free → t.out = s.out ++ [.ring { f with hops := f.hops + 1 }]) ∧ Changes [.out, .ring] s t) ∧
        (∀ e, named → r.acted.find? (fun e => e.1 = id) = some e → Does (.sched f) s fun t =>
          acks t e.2 ∧ t.slots = s.slots ∧ t.tide = s.tide ∧ t.ring.acted = r.acted) ∧
        (named → r.acted.find? (fun e => e.1 = id) = none → Does (.sched f) s fun t =>
          acks t (decide (at_ ≤ s.ltide)) ∧ t.ring.acted = ((id, decide (at_ ≤ s.ltide)) :: r.acted).take 16 ∧
          (byteAt p 8 = 1#8 → ∀ i < 64, (ofLe ((p.drop 12).take 8)).testBit i = true →
            (t.slot i).regs.actAt = at_ ∧ (t.slot i).regs.actAtArmed = some at_) ∧
          (byteAt p 8 = 2#8 → ∀ i < 64, (ofLe ((p.drop 12).take 8)).testBit i = true →
            (t.slot i).regs.deactAt = at_ ∧ (t.slot i).regs.deactAtArmed = some at_) ∧
          (byteAt p 8 = 5#8 → n < 8 → s.tide.alarms.length = 8 → s.tide.alarmArmed.length = 8 →
            t.tide.alarms = s.tide.alarms.set n at_ ∧ t.tide.alarmArmed = s.tide.alarmArmed.set n (some at_)) ∧
          (byteAt p 8 = 6#8 → n < 8 → t.tide = { s.tide with alarmArmed := s.tide.alarmArmed.set n none }) ∧
          (∀ i, (ofLe ((p.drop 12).take 8)).testBit i = false → t.slot i = s.slot i) ∧ Changes [.slots, .timers, .tide, .dev, .flow, .mram, .cores, .telemetry, .counts, .lpos, .audit, .crypto, .ring, .loops, .out, .pba, .freeCount] s t)) ∧
      (s.ringFate f = .mine → s.ringAuthOk f = true → s.isMaster = true → ∀ w, r.sched = some w → (byteAt p 0).toNat = r.schedId → 1 ≤ f.src.toNat →
        f.src.toNat ≤ 16 → r.schedSent = true →
          let ack := r.ack ||| (1 <<< (f.src.toNat - 1))
          let late := if (byteAt p 1).getLsbD 0 then r.late ||| (1 <<< (f.src.toNat - 1)) else r.late
          let all : Prop := ∀ a < 16, (schedDevs w).testBit a = true → ack.testBit a = true
          Does (.schedAck f) s fun t =>
            t.ring.ack = ack ∧ t.ring.late = late ∧
            (all → t.ring.sched = none ∧ t.ring.result = (if late = 0 then 2 else 3) ∧ Posts s t 0x88 0 t.ring.result ∧
              (late ≠ 0 → t.dev.irqStatus.getLsbD 9 = true)) ∧
            (¬all → t.ring.sched = r.sched ∧ t.ring.result = r.result ∧ t.dev = s.dev) ∧ Changes [.dev, .counts, .ring, .out, .pba, .freeCount] s t)) ∧
    (∀ c : Path,
      (s.reqOf c = none → exec (.dictRetry (.path c)) s = .next s) ∧
      (∀ q, r.reqs = [q] → q.chan = c → r.rxQ = [] →
        (q.tries < 3 → Does (.dictRetry (.path c)) s fun t =>
          t.now = max s.now (q.sentAt + 4800000) ∧ t.reqOf c = some { q with tries := q.tries + 1, sentAt := t.now } ∧
          (s.isMaster = false → r.txQ = [] → free → s.hasRingKey = true → ∃ g, t.out = s.out ++ [.ring g] ∧ g.typ = 0x10#8 ∧ g.seq = q.seq ∧
            g.payload.take 8 = leBytes t.ltide.toNat 8) ∧ Changes [.now, .slots, .polders, .timers, .tide, .dev, .flow, .mram, .cores, .logins, .telemetry, .counts, .ports, .lpos, .mail, .audit, .life, .crypto, .ring, .tray, .loops, .latches, .out, .msix, .pba, .freeCount] s t) ∧
        (3 ≤ q.tries → Does (.dictRetry (.path c)) s fun t => answered t (pathNum c) 0x0D [] ∧ t.reqOf c = none ∧ Changes [.now, .slots, .polders, .timers, .tide, .dev, .flow, .mram, .cores, .logins, .telemetry, .counts, .ports, .lpos, .mail, .audit, .life, .crypto, .ring, .tray, .loops, .latches, .out, .msix, .pba, .freeCount] s t))) ∧
    (∀ ag, (∀ c, ag ≠ .path c) → exec (.dictRetry ag) s = .next s) ∧
    (r.sched = none ∨ r.schedSent = false → exec .schedResend s = .next s) ∧
    (∀ w, r.sched = some w → r.schedSent = true →
      (3 ≤ r.resends → Does .schedResend s fun t =>
        t.ring.sched = none ∧ t.ring.result = 4 ∧ t.dev.irqStatus.getLsbD 9 = true ∧ Posts s t 0x88 0 4 ∧ Changes [.now, .timers, .tide, .dev, .cores, .counts, .ring, .out, .pba, .freeCount] s t) ∧
      (r.resends < 3 → Does .schedResend s fun t =>
        t.now = max s.now (r.schedAt + 960000) ∧ t.ring.resends = r.resends + 1 ∧ t.ring.schedAt = t.now ∧
        (s.isMaster = true → s.ringFree = true → s.hasRingKey = true → free → ∃ g, t.out = s.out ++ [.ring g] ∧ g.typ = 0x20#8 ∧ g.dst = 0xFF#8 ∧ g.flags = 3#8 ∧
          g.payload = w.take 10 ++ leBytes (schedDevs w &&& (0xFFFF ^^^ r.ack)) 2 ++ w.drop 12) ∧ Changes [.now, .timers, .tide, .dev, .cores, .counts, .ring, .out, .pba, .freeCount] s t)) ∧
    (∀ (ag : Agent) (w : Word), w &&& 0x1F#32 = 0#32 → s.allows ag 2 = true →
      let refused (res : Nat) (t : State) : Prop := t.ring.result = res ∧ t.ring.sched = r.sched ∧ t.ring.schedId = r.schedId ∧ t.out = s.out ∧ Changes [.ring] s t
      let a := fld r.schedCmd 3 0
      let soon : Prop := r.schedT.toNat < s.ltide.toNat + r.schedLead
      (s.isMaster = false → Does (.schedGo ag w) s fun t => refused 5 t ∧ t.ring.cmdErr = .state) ∧
      (s.isMaster = true → r.sched ≠ none → Does (.schedGo ag w) s (refused 6)) ∧
      (s.isMaster = true → r.sched = none →
        (s.hasRingKey = false → Does (.schedGo ag w) s fun t => refused 7 t ∧ t.ring.noKey = true) ∧
        (s.hasRingKey = true → s.tide.st ≠ .locked → Does (.schedGo ag w) s (refused 8)) ∧
        (s.hasRingKey = true → s.tide.st = .locked → soon → Does (.schedGo ag w) s (refused 9)) ∧
        (s.hasRingKey = true → s.tide.st = .locked → ¬soon → a = 0 ∨ 6 < a → Does (.schedGo ag w) s (refused 0xA)) ∧
        (s.hasRingKey = true → s.tide.st = .locked → ¬soon → 1 ≤ a → a ≤ 6 → Does (.schedGo ag w) s fun t =>
          t.ring.schedId = (r.schedId + 1) % 256 ∧ t.ring.cmdErr = .none ∧
          (s.ringFree = false ∨ r.enumPass ≠ 0 → t.ring.result = 1 ∧ t.out = s.out ∧ t.ring.sched = some (s.schedPayload t.ring.schedId) ∧ t.ring.schedSent = false) ∧
          (s.ringFree = true → r.enumPass = 0 → t.ring.schedSent = true ∧ (free →
            ∃ g, s.out ++ [.ring g] <+: t.out ∧ g.typ = 0x20#8 ∧ g.payload = s.schedPayload t.ring.schedId)) ∧ Changes [.now, .slots, .timers, .tide, .dev, .flow, .mram, .cores, .telemetry, .counts, .lpos, .audit, .crypto, .ring, .loops, .out, .pba, .freeCount] s t))) ∧
    (∀ k : Fin 4,
      let used := r.txQ.length + (r.waits.filter (·.firm)).length
      (16 ≤ used → exec (.ringTxCommit k) s = .next (s.ringErr .none)) ∧
      (used < 16 → s.ringFree = false → Does (.ringTxCommit k) s fun t =>
        t.ring = { r with cmdErr := .none, txQ := r.txQ ++ [s.txFrame] } ∧ Changes [.ring] s t) ∧
      (r.txQ = [] → s.ringFree = true → free → frameAuth s.txFrame = false ∨ s.hasRingKey = true → Does (.ringTxCommit k) s fun t =>
        let g : Frame := { s.txFrame with mac := if frameAuth s.txFrame then s.ringMac s.txFrame else [] }
        t.out = s.out ++ [.ring g] ∧ t.ring = { r with cmdErr := .none, txUntil := s.now + (frameSymbols g).length * symCk } ∧ Changes [.ring, .out] s t) ∧
      (r.txQ = [] → s.ringFree = true → used < 16 → frameAuth s.txFrame = true → s.hasRingKey = false → Does (.ringTxCommit k) s fun t =>
        t.ring = { r with cmdErr := .none, noKey := true } ∧ Changes [.ring] s t) ∧
      Does (.ringRxPop k) s fun t => t.ring = { r with cmdErr := .none, rxQ := r.rxQ.drop 1 } ∧ Changes [.ring] s t)

/-- The service UART and the tray bus (14 R366, R367, R373, R375, R377 to R385, R387): the commands of TRAY_CTRL and the registers TRAY_TX and TRAY_BAUD; when a
block closes on an idle line; the order and the times of characters and breaks sent; a frame of FRAME mode from its break to its result, with the parity of
its identifier, its checksum, its limit RESP_MAX and the 4 bit times before the next; and a cycle's TRAY_CMD and TRAY_STAT. -/
def Obligations.TrayBus : Prop :=
  ∀ (s : State), s.wf = true →
    let y := s.tray
    let write (e : CmdErr) (f : Tray → Tray) : Host.Outcome State Fault Refusal := .next (s.modTray fun t => { f t with cmdErr := e })
    let closed (t : State) (open_ : Nat) : Prop := t.tray.rxWr = (y.rxWr + 2 * open_) % y.rxSize ∧ t.tray.openWords = 0 ∧ t.tray.block = true
    (∀ (ag : Agent) (w : Word), w &&& 0xF#32 = 0#32 → s.allows ag 2 = true →
      (y.mode = 2 → exec (.txBreak ag w) s = write .state id) ∧
      (y.mode ≠ 2 → exec (.txBreak ag w) s = write .none fun t => { t with breaks := t.breaks ++ [t.txFifo.length] }) ∧
      (y.openWords = 0 ∨ y.mode = 2 → exec (.flushRx ag w) s = write .none id) ∧
      (y.openWords ≠ 0 → y.mode ≠ 2 → Does (.flushRx ag w) s fun t => closed t y.openWords ∧ t.tray.cmdErr = .none ∧ Changes [.cores, .tray] s t) ∧
      (y.mode ≠ 2 ∨ y.frame ≠ none → exec (.frameGo ag w) s = write .state id) ∧
      (y.mode = 2 → y.frame = none → Does (.frameGo ag w) s fun t =>
        let c := y.frameCmd
        ∃ f, t.tray.frame = some f ∧ f.cmd = c ∧ f.pid.toNat % 64 = fld c 5 0 ∧
          f.toSend = [0x55#8, f.pid] ++ (if bitOf c 8 then y.txBytes ++ [trayCheck c f.pid y.txBytes] else []) ∧ f.rx = [] ∧ f.echo = none ∧
          (max y.holdOff (y.txEnd.getD 0) ≤ s.now → f.brk = false ∧ t.out = s.out ++ [.trayBreak y.breakLen] ∧
            t.tray.txEnd = some (s.now + y.bits (y.breakLen + 1 + y.delim))) ∧
          (s.now < max y.holdOff (y.txEnd.getD 0) → f.brk = true ∧ t.out = s.out) ∧ t.tray.cmdErr = .none ∧ Changes [.tray, .out] s t) ∧
      exec (.abort ag w) s = (write .none fun t => { t with frame := t.frame.map fun f => { f with abort := true } }) ∧
      ∀ c ∈ [Instr.txBreak ag (w ||| 2#32), .flushRx ag (w ||| 4#32), .frameGo ag (w ||| 8#32), .abort ag (w ||| 1#32)], exec c s = write .multiple id) ∧
    (∀ id, id < 64 → let p := trayPid id
      p.getLsbD 6 = (p.getLsbD 0 ^^ p.getLsbD 1 ^^ p.getLsbD 2 ^^ p.getLsbD 4) ∧ p.getLsbD 7 = !(p.getLsbD 1 ^^ p.getLsbD 3 ^^ p.getLsbD 4 ^^ p.getLsbD 5)) ∧
    (∀ l : List Byte, ((l.map (·.toNat)).sum + (traySum l).toNat) % 255 = 0) ∧
    (∀ (ag : Agent) (v : Word), s.allows ag 2 = true →
      (y.mode = 2 ∨ 32 ≤ y.txFifo.length → exec (.trayTx ag v) s = write .state id) ∧
      (y.mode ≠ 2 → y.txFifo.length < 32 → exec (.trayTx ag v) s = write .none fun t => { t with txFifo := t.txFifo ++ [v.setWidth 9] }) ∧
      (let r := fld v 21 0
       (r < 1200 ∨ 3000000 < r → exec (.trayBaudWrite ag v) s = write .value id) ∧
       (1200 ≤ r → r ≤ 3000000 → Does (.trayBaudWrite ag v) s fun t =>
         let d := t.tray
         d.rate = r ∧ d.cmdErr = .none ∧
         (d.fract = false → d.divFrac = 0 ∧ 1000 * ((15000000 : Int) - (r * d.divInt : Nat)).natAbs ≤ r * d.divInt) ∧
         (d.fract = true → d.divFrac < 64 ∧ 2 * ((960000000 : Int) - (r * (64 * d.divInt + d.divFrac) : Nat)).natAbs ≤ r) ∧ Changes [.tray] s t))) ∧
    (∀ (p : Path) (v : Word), s.grant p < 2 → ∀ c ∈ [Instr.txBreak (.path p) v, .flushRx (.path p) v, .frameGo (.path p) v, .abort (.path p) v,
      .trayTx (.path p) v, .trayBaudWrite (.path p) v], exec c s = .next (s.wdeny p)) ∧
    (y.mode = 1 → y.openWords ≠ 0 → y.rxBusy = false → y.low = false → Does .rxIdleClose s fun t =>
      closed t y.openWords ∧ t.now = max s.now (y.lastStop + y.bits (fld y.cfg 13 6)) ∧ Changes [.now, .timers, .tide, .cores, .tray] s t) ∧
    (y.mode ≠ 1 ∨ y.openWords = 0 ∨ y.rxBusy = true ∨ y.low = true → exec .rxIdleClose s = .next s) ∧
    (y.mode = 0 → exec .trayCharTransmit s = .next s) ∧
    (let e := y.txEnd.getD 0
     let at_ := max s.now e
     let begins (b : TrayFrame) : TrayFrame := { b with brk := false }
     let breakEnd (t : State) : Option Nat := some (t.now + y.bits (y.breakLen + 1 + y.delim))
     (∀ l, y.mode = 1 → y.breaks = 0 :: l → Does .trayCharTransmit s fun t =>
       t.out = s.out ++ [.trayBreak y.breakLen] ∧ t.now = at_ ∧
       t.tray = { y with breaks := l, txFrom := at_, txEnd := breakEnd t, frame := y.frame.map begins } ∧ Changes [.now, .timers, .tide, .cores, .tray, .out] s t) ∧
     (∀ c q, y.mode = 1 → y.breaks.head? ≠ some 0 → y.txFifo = c :: q → Does .trayCharTransmit s fun t =>
       t.out = s.out ++ [.tray c] ∧ t.now = at_ ∧
       t.tray = { y with txFifo := q, breaks := y.breaks.map (· - 1), txFrom := at_, txEnd := some (at_ + y.halfBits y.charHalf) } ∧ Changes [.now, .timers, .tide, .cores, .tray, .out] s t) ∧
     (y.mode = 1 → y.breaks.head? ≠ some 0 → y.txFifo = [] → exec .trayCharTransmit s = .next s) ∧
     (y.mode = 2 → y.frame = none → exec .trayCharTransmit s = .next s) ∧
     (∀ f, y.mode = 2 → y.frame = some f →
       (f.brk = true → Does .trayCharTransmit s fun t =>
         t.out = s.out ++ [.trayBreak y.breakLen] ∧ t.now = max s.now (max y.holdOff e) ∧
         t.tray = { y with txFrom := t.now, txEnd := breakEnd t, frame := some (begins f) } ∧ Changes [.now, .timers, .tide, .cores, .tray, .out] s t) ∧
       (f.brk = false → f.toSend = [] → exec .trayCharTransmit s = .next s) ∧
       (∀ b q, f.brk = false → f.toSend = b :: q →
         (∀ x, f.echo = some x → Does .trayCharTransmit s fun t =>
           t.now = at_ ∧ t.tray = { y with frame := some { f with echo := none, bitErr := true } } ∧ Changes [.now, .timers, .tide, .cores, .tray, .out] s t) ∧
         (f.echo = none → f.bitErr = true ∨ f.abort = true → exec .trayCharTransmit s = .next s) ∧
         (f.echo = none → f.bitErr = false → f.abort = false → Does .trayCharTransmit s fun t =>
           let p := if q.length = f.dataLen then t.tray.txEnd.getD 0 else f.pidEnd
           t.out = s.out ++ [.tray (b.setWidth 9)] ∧ t.now = max s.now (if q.length + 1 = f.dataLen then e + y.bits 1 else e) ∧
           t.tray.txEnd = some (t.now + y.halfBits 20) ∧
           t.tray.frame = some { f with toSend := q, echo := some b, pidEnd := p, respEnd := p + y.bits (14 * (frameLen f.cmd + 1)) } ∧
           Changes [.now, .timers, .tide, .cores, .tray, .out] s t)))) ∧
    (y.frame = none → exec .frameEnd s = .next s) ∧
    (∀ f, y.frame = some f →
      let n := frameLen f.cmd
      let reads : Prop := f.toSend = [] ∧ bitOf f.cmd 8 = false
      let begun : Prop := f.begun = true ∨ ∃ r, y.rx = some r ∧ f.pidEnd ≤ r.start ∧ r.start ≤ f.respEnd
      let ends (res at_ : Nat) : Prop := Does .frameEnd s fun t =>
        t.tray.frame = none ∧ fld t.tray.result 3 0 = res ∧ (f.rx.length < 16 → fld t.tray.result 15 8 = f.pid.toNat) ∧
        (bitOf f.cmd 8 = true → t.tray.frameRx = y.frameRx) ∧ (bitOf f.cmd 8 = false → t.tray.frameRx = BitVec.ofNat 64 (ofLe (f.rx.take n))) ∧
        t.now = max s.now at_ ∧ t.tray.holdOff = (if bitOf f.cmd 8 = false ∧ res ≠ 1 then max t.now f.respEnd else t.now) + y.bits 4 ∧ Changes [.now, .timers, .tide, .cores, .tray] s t
      let now_ := s.byteEnd f
      let good : Prop := f.bitErr = false ∧ f.echo = none
      (f.bitErr = true ∨ f.echo ≠ none → ends 6 now_) ∧ (good → f.abort = true → ends 7 now_) ∧
      (good → f.abort = false →
        (f.toSend ≠ [] → exec .frameEnd s = .next s) ∧
        (f.toSend = [] → bitOf f.cmd 8 = true → ends 1 now_) ∧
        (reads → f.framing = true → ends 5 now_) ∧
        (reads → f.framing = false → f.rx.length = n + 1 →
          (trayCheck f.cmd f.pid (f.rx.take n) = f.rx.getLastD 0 → ends 1 now_) ∧ (trayCheck f.cmd f.pid (f.rx.take n) ≠ f.rx.getLastD 0 → ends 4 now_)) ∧
        (reads → f.framing = false → f.rx.length ≠ n + 1 → (begun → ends 3 f.respEnd) ∧ (¬begun → ends 2 f.respEnd)))) ∧
    (∀ l, y.mode ≠ 2 ∨ y.frame ≠ none ∨ y.rxBusy = true ∨ s.serving = false → exec (.trayCycle l) s = .next s) ∧
    (∀ n a, y.mode = 2 → y.frame = none → y.rxBusy = false → s.serving = true → (List.range 4).any s.coreRuns = true → s.controllers = [n] → Does (.trayCycle [a]) s fun t =>
      let o := tget {} y.ctls n
      let c := tget {} t.tray.ctls n
      let chars (l : List Byte) : List Out := Out.trayBreak y.breakLen :: l.map fun b => .tray (b.setWidth 9)
      (∃ at_, t.tray.cycleAt = some at_ ∧ at_ ≤ t.now ∧ ∀ m, y.cycleAt = some m → at_ = max s.now (m + s.dictNum 0x2600 2 50 * ms)) ∧
      t.tray.seq = y.seq + 1 ∧ t.tray.frameCmd = BitVec.ofNat 32 (0x2810 + n) ∧ t.now + y.bits 4 ≤ t.tray.holdOff ∧
      (∃ d, s.out ++ chars ([0x55#8, trayPid (8 + n)] ++ d ++ [traySum (trayPid (8 + n) :: d)]) ++ chars [0x55#8, trayPid (16 + n)] <+: t.out ∧
        d.length = 6 ∧ byteAt d 1 = y.seq ∧ c.lock = byteAt d 0 ∧
        ∀ k < 8, let i := 8 * n + k
          fld ((byteAt d (2 + k / 2)).setWidth 32) (4 * (k % 2) + 3) (4 * (k % 2)) = s.indicator i ∧
          (s.policy i = 0 → c.lock.getLsbD k = false) ∧ (s.policy i = 3 → c.lock.getLsbD k = true) ∧
          (s.policy i = 2 → c.lock.getLsbD k = ((s.slot i).inActivation || (s.slot i).inService || decide ((s.slot i).st = .quenching)))) ∧
      fld t.tray.result 3 0 = a.result.toNat ∧
      (a.result = 1#4 →
        c.fails = 0 ∧ c.lost = false ∧ c.locked = some (byteAt a.bytes 1) ∧ c.door = some ((byteAt a.bytes 2).getLsbD 0) ∧
        c.svc = some ((byteAt a.bytes 2).getLsbD 1) ∧ (o.lost = true → Posts s t 0x91 n 0) ∧
        (o.door = some (!(byteAt a.bytes 2).getLsbD 0) → Posts s t 0x92 n (b2n ((byteAt a.bytes 2).getLsbD 0))) ∧
        ∀ k < 8, (byteAt a.bytes 0).getLsbD k = false → (o.locked.getD 0).getLsbD k = true → c.lock.getLsbD k = true →
          s.dev.evq.length < 240 → ∃ e ∈ t.dev.evq, e.typ = 0x93 ∧ e.source = 8 * n + k) ∧
      (a.result ≠ 1#4 → c.fails = o.fails + 1 ∧
        (o.lost = false → s.dictNum 0x2600 3 3 ≤ o.fails + 1 → c.lost = true ∧ Posts s t 0x90 n a.result.toNat ∧ t.dev.irqStatus.getLsbD 11 = true)) ∧
      Changes [.now, .timers, .tide, .dev, .cores, .counts, .tray, .out, .pba] s t)

/-- Reception (14 R369, R371, R372, R374 to R376, R380): each bit is the majority of three samples, and what the readings of a character decide; the words and
flags it leaves, its block, the readback or the response byte it is in FRAME mode, and the echo that ECHO_DISCARD drops. A word that finds the ring full, so
that its write position would become RX_RD, is dropped, sets RX_OVF and raises RX_LOST by 1 up to 0xFFFF; one that does not is not dropped and loses nothing.
Firmware frees space by advancing RX_RD; a value that is odd, not below RX_SIZE or past RX_WR is rejected with VALUE and leaves RX_RD. A path needs the
installer's grant. -/
def Obligations.TrayReceiveRing : Prop :=
  ∀ (s : State) (dt : Nat) (w : List LineRun) (ag : Agent) (v : Word), s.wf = true →
    let y := s.tray
    let size := y.rxSize
    let pos := (y.rxWr + 2 * y.openWords) % size
    let bad : Prop := v.toNat % 2 = 1 ∨ size ≤ v.toNat ∨ (y.rxWr + size - y.rxRd) % size < (v.toNat + size - y.rxRd) % size
    (∀ (l : TrayLatch), l.data ≤ 9 →
      let stop := l.data + (if l.par = 0 then 1 else 2)
      let hi (k : Nat) : Bool := runHigh w (tickPk l.q k)
      let bit (k : Nat) : Bool := vote3 (hi (16 * k + 7)) (hi (16 * k + 8)) (hi (16 * k + 9))
      (runLen w ≤ tickPk l.q 9 → trayVerdict l w = .undecided) ∧
      (tickPk l.q 9 < runLen w → bit 0 = true → ∀ p, runRise w 0 (tickPk l.q 9) = some p → trayVerdict l w = .falseStart p) ∧
      (tickPk l.q 9 < runLen w → bit 0 = false → runLen w ≤ tickPk l.q (16 * stop + 9) → trayVerdict l w = .undecided) ∧
      (tickPk l.q (16 * stop + 9) < runLen w → tickPk l.q 9 < runLen w → bit 0 = false → (∃ k, 1 ≤ k ∧ k ≤ stop ∧ bit k = true) →
        ∃ c, trayVerdict l w = .char c (tickPk l.q (16 * stop + 9)) (some (tickPk l.q (16 * stop + 8))) ∧ c.brk = false ∧ c.framing = (!bit stop) ∧
          (∀ k < 9, c.data.getLsbD k = (decide (k < l.data) && bit (k + 1))) ∧
          c.parity = parityWrong l.par c.data.toNat (decide (l.par ≠ 0) && bit (stop - 1))) ∧
      (tickPk l.q (16 * stop + 9) < runLen w → tickPk l.q 176 ≤ runLen w → tickPk l.q 9 < runLen w → (∀ p < tickPk l.q 176, runHigh w p = false) →
        (∀ k ≤ stop, bit k = false) →
        ∃ at_ q, trayVerdict l w = .char { data := 0, parity := false, framing := true, brk := true } at_ q ∧ tickPk l.q 176 ≤ at_)) ∧
    (y.mode = 0 → exec (.trayCharReceived ⟨dt, w⟩) s = .next s) ∧
    (y.mode ≠ 0 → y.rx = none → y.low = false → runEdge true w 0 = none → Does (.trayCharReceived ⟨dt, w⟩) s fun t =>
      t.now = s.now + dt + 2 * runLen w ∧ t.tray.rx = none ∧ t.sram = s.sram ∧ t.tray.openWords = y.openWords ∧ Changes [.now, .timers, .tide, .dev, .cores, .counts, .sram, .tray, .out, .pba] s t) ∧
    (∀ n u, y.mode ≠ 0 → y.rx = none → y.low = false → runEdge true w 0 = some (n, u) →
      let a := s.now + dt + 2 * n
      let e := a + y.halfBits y.charHalf
      (trayVerdict y.latch u = .undecided → Does (.trayCharReceived ⟨dt, w⟩) s fun t =>
        t.now = max s.now (a + 2 * runLen u) ∧ t.tray.rx = some { start := a, lat := y.latch, wave := u } ∧ t.tray.rxBusy = true ∧
        (y.mode = 1 → y.openWords ≠ 0 → y.idleAt ≤ a → t.tray.rxWr = (y.rxWr + 2 * y.openWords) % size ∧ t.tray.openWords = 0 ∧ t.tray.block = true) ∧
        Changes [.now, .timers, .tide, .dev, .cores, .counts, .sram, .tray, .out, .pba] s t) ∧
      (∀ p, trayVerdict y.latch u = .falseStart p → Does (.trayCharReceived ⟨dt, w⟩) s fun t =>
        t.now = max s.now (a + 2 * p) ∧ t.tray.framing = y.framing ∧ t.tray.parity = y.parity ∧ t.tray.frame = y.frame ∧ t.sram = s.sram ∧
        Changes [.now, .timers, .tide, .dev, .cores, .counts, .sram, .tray, .out, .pba] s t) ∧
      (∀ c k q, trayVerdict y.latch u = .char c k q →
        let flags (t : State) : Prop := t.now = max s.now (a + 2 * k) ∧ t.tray.framing = (y.framing || c.framing) ∧ t.tray.parity = (y.parity || c.parity) ∧
          t.tray.lastStop = max t.now e
        (y.mode = 1 → y.openWords = 0 ∨ a < y.idleAt →
          (bitOf y.cfg 21 = true → y.sendingAt a = true → Does (.trayCharReceived ⟨dt, w⟩) s fun t =>
            flags t ∧ t.sram = s.sram ∧ t.tray.openWords = y.openWords ∧ t.tray.rxWr = y.rxWr ∧ Changes [.now, .timers, .tide, .dev, .cores, .counts, .sram, .tray, .out, .pba] s t) ∧
          (bitOf y.cfg 21 = false ∨ y.sendingAt a = false →
            ((pos + 2) % size ≠ y.rxRd → Does (.trayCharReceived ⟨dt, w⟩) s fun t =>
              let b := y.rxBase.toNat + pos
              flags t ∧ t.sramByte b = BitVec.ofNat 8 (trayWord c) ∧ t.sramByte (b + 1) = BitVec.ofNat 8 (trayWord c / 256) ∧
              (∀ x, x ≠ b → x ≠ b + 1 → t.sramByte x = s.sramByte x) ∧ t.tray.lossRun = false ∧ t.tray.rxOvf = y.rxOvf ∧ t.tray.rxLost = y.rxLost ∧
              t.tray.rxRd = y.rxRd ∧ (y.openWords + 1 < y.blk → t.tray.openWords = y.openWords + 1 ∧ t.tray.rxWr = y.rxWr) ∧
              (y.blk ≤ y.openWords + 1 → t.tray.rxWr = (y.rxWr + 2 * (y.openWords + 1)) % size ∧ t.tray.openWords = 0 ∧ t.tray.block = true) ∧
              Changes [.now, .timers, .tide, .dev, .cores, .counts, .sram, .tray, .out, .pba] s t) ∧
            ((pos + 2) % size = y.rxRd → Does (.trayCharReceived ⟨dt, w⟩) s fun t =>
              flags t ∧ t.tray.rxOvf = true ∧ t.tray.rxLost = min (y.rxLost + 1) 0xFFFF ∧ t.sram = s.sram ∧ t.tray.openWords = y.openWords ∧
              t.tray.rxWr = y.rxWr ∧ t.tray.rxRd = y.rxRd ∧ (y.lossRun = true → t.dev = s.dev) ∧
              (y.lossRun = false → Posts s t 0x95 0 0 ∧ t.dev.irqStatus.getLsbD 11 = true) ∧ Changes [.now, .timers, .tide, .dev, .cores, .counts, .sram, .tray, .out, .pba] s t))) ∧
        (y.mode = 2 → y.frame = none → Does (.trayCharReceived ⟨dt, w⟩) s fun t => flags t ∧ t.tray.frame = none ∧ t.sram = s.sram ∧ Changes [.now, .timers, .tide, .dev, .cores, .counts, .sram, .tray, .out, .pba] s t) ∧
        (∀ f, y.mode = 2 → y.frame = some f → Does (.trayCharReceived ⟨dt, w⟩) s fun t =>
          let late : Bool := decide (f.respEnd < e)
          flags t ∧ t.sram = s.sram ∧ Changes [.now, .timers, .tide, .dev, .cores, .counts, .sram, .tray, .out, .pba] s t ∧
          (∀ x, f.echo = some x → t.tray.frame = some { f with echo := none, bitErr := f.bitErr || decide (c.data.setWidth 8 ≠ x) || c.framing }) ∧
          (f.echo = none → f.toSend = [] → bitOf f.cmd 8 = false → f.rx.length ≤ frameLen f.cmd → f.framing = false → f.pidEnd ≤ a → a ≤ f.respEnd →
            t.tray.frame = some { f with
              begun := true, rx := if c.framing || late then f.rx else f.rx ++ [c.data.setWidth 8], framing := c.framing && !late
              rxEnd := if late then f.rxEnd else e }) ∧
          (f.echo = none → f.toSend ≠ [] ∨ bitOf f.cmd 8 = true ∨ frameLen f.cmd < f.rx.length ∨ f.framing = true ∨ a < f.pidEnd ∨ f.respEnd < a →
            t.tray.frame = some f)))) ∧
    (∀ r, y.mode ≠ 0 → y.rx = some r → y.openWords = 0 → trayVerdict r.lat (r.wave ++ w) = .undecided → Does (.trayCharReceived ⟨dt, w⟩) s fun t =>
      t.now = max s.now (r.start + 2 * runLen (r.wave ++ w)) ∧ t.tray.rx = some { r with wave := r.wave ++ w } ∧ Changes [.now, .timers, .tide, .dev, .cores, .counts, .sram, .tray, .out, .pba] s t) ∧
    (s.allows ag 2 = true →
      (bad → exec (.rxRdWrite ag v) s = .next (s.modTray fun t => { t with cmdErr := .value })) ∧
      (¬bad → exec (.rxRdWrite ag v) s = .next (s.modTray fun t => { t with cmdErr := .none, rxRd := v.toNat }))) ∧
    (∀ p, ag = .path p → s.grant p < 2 → exec (.rxRdWrite ag v) s = .next (s.wdeny p))

/-- The mailbox, log-ins and dictionary accesses (15 R390, R398 to R405, 16 R419 to R421, R426, R428 to R430, R438): the service carries out a request in its
turn and answers it with the first status that applies; READ, WRITE and DEFAULT of an entry; the writes that end a log-in, ask for a life-cycle transition
or an opening of the debug port, load, generate or erase a key, acknowledge the audit record or clear counts; CHALLENGE, RESPOND and LOGOUT; ABORT; the
lapse of a challenge and of a lockout. A request for another device goes over the ring. The bytes of a challenge and of a generated key are free values. -/
def Obligations.MailboxAndDictionary : Prop :=
  ∀ (s : State) (c : Path), s.wf = true → s.ring.rxQ = [] →
    let n := pathNum c
    let m := s.mb n
    let answered (t : State) (st : Nat) (v : List Byte) : Prop :=
      (t.mb n).busy = false ∧ (t.mb n).taken = false ∧ (t.mb n).done = true ∧ (t.mb n).status = st ∧ (t.mb n).rlen = v.length ∧
        (t.mb n).bytes 0 v.length = v ∧ t.dev.irqStatus.getLsbD 4 = true
    let ends (i : Instr) (st : Nat) : Prop := Does i s fun t => answered t st []
    let turn : Prop := s.dictRuns = true ∧ m.busy = true ∧ m.started = false ∧ (s.mb 2).taken = false ∧
      (s.mb (1 - n)).busy = false ∧ (s.mb (1 - n)).taken = false
    let carried : List Instr := [.read c, .write c, .default c, .challenge c, .respond c, .logout c, .endLogin c, .transitionRequest c, .debugOpen c, .keyLoad c,
      .keyGenerate c, .keyErase c, .exportedUpto c, .clear c]
    (s.dictRuns = false ∨ m.busy = false → ∀ i ∈ carried, exec i s = .next s) ∧
    (turn →
      (∀ st, s.mbRole n = none →
        (16 < m.target → st = 0x10) → (m.target ≤ 16 → st = 7) → (m.op = 1 → ends (.read c) st) ∧ (m.op = 2 → ends (.write c) st) ∧ (m.op = 3 → ends (.default c) st)) ∧
      (opDefined m.op = false → ends (.read c) 0x10) ∧ (m.op ≠ 1 → opDefined m.op = true → exec (.read c) s = .next s) ∧
      (m.op ≠ 2 → ∀ i ∈ [Instr.write c, .endLogin c, .transitionRequest c, .debugOpen c, .keyLoad c, .keyGenerate c, .keyErase c, .exportedUpto c, .clear c],
        exec i s = .next s) ∧
      (∀ role, s.mbRole n = some role →
        let own : Prop := m.target = 0 ∨ (m.target = s.ring.addr ∧ m.target ≤ 16)
        let ask : Asker := { origin := n, role := role, handle := m.handle }
        let passes (e : DEntry) (v : List Byte) : Prop :=
          e.mayWrite role = true ∧ e.fits v.length = true ∧ e.inRange v = true ∧ s.dictRange ask m.index m.sub v = 0 ∧ s.dictState ask m.index m.sub v = 0 ∧
            (m.index ≠ 0x1110) ∧ (e.privileged = true → s.auditHeld = false ∧ s.auditBacklog ≤ 256)
        let refused (i : Instr) (v : DEntry → List Byte) : Prop :=
          (s.dictEntry m.index m.sub = none → ends i 1) ∧
          (∀ e, s.dictEntry m.index m.sub = some e →
            (e.mayWrite role = false → ends i 2) ∧ (e.mayWrite role = true →
              (e.fits (v e).length = false → ends i 3) ∧ (e.fits (v e).length = true →
                (e.inRange (v e) = false → ends i 4) ∧ (e.inRange (v e) = true →
                  (s.dictRange ask m.index m.sub (v e) ≠ 0 → ends i (s.dictRange ask m.index m.sub (v e))) ∧
                  (s.dictRange ask m.index m.sub (v e) = 0 → m.index ≠ 0x1110 → s.dictState ask m.index m.sub (v e) ≠ 0 → ends i 6)))))
        let v := m.bytes 0 m.length
        let k := s.life.keySelect
        let one (t : State) : Prop := ∀ j, j ≠ k → t.secret j = s.secret j
        let done (i : Instr) (idx sub : Nat) (P : State → Prop) : Prop :=
          m.index = idx → m.sub = sub → ∀ e, s.dictEntry idx sub = some e → passes e v → Does i s fun t => answered t 0 [] ∧ P t
        (m.op = 1 → own → Does (.read c) s fun t =>
          let r := s.dictRead role m.index m.sub
          answered t r.1 r.2 ∧ Changes [.now, .slots, .polders, .timers, .tide, .dev, .flow, .mram, .cores, .logins, .telemetry, .counts, .ports, .lpos, .mail, .audit, .life, .crypto, .ring, .tray, .loops, .latches, .out, .msix, .pba, .freeCount] s t) ∧
        (m.op = 2 → own → refused (.write c) (fun _ => v) ∧
          (m.index = 0x1000 → m.sub = 8 ∨ m.sub = 9 → ∀ e, s.dictEntry m.index m.sub = some e → passes e v → Does (.write c) s fun t =>
            answered t 0 [] ∧ t.dictVal m.index m.sub = some v ∧ Changes [.now, .slots, .polders, .timers, .tide, .dev, .flow, .mram, .cores, .logins, .telemetry, .counts, .ports, .lpos, .mail, .audit, .life, .crypto, .ring, .tray, .loops, .latches, .out, .msix, .pba, .freeCount] s t) ∧
          done (.endLogin c) 0x1102 1 (fun t => (tget {} t.logins (ofLe v % 16)).live = false ∧ (∀ j, j ≠ ofLe v % 16 → tget {} t.logins j = tget {} s.logins j)) ∧
          done (.transitionRequest c) 0x1180 2 (fun t =>
            t.lifeRec.wiping = lifeOf (ofLe v) ∧ t.lifeRec.wiping ≠ none ∧ t.lifeState = s.lifeState ∧ t.life.resetDue = some 4) ∧
          done (.debugOpen c) 0x1180 4 (fun t => t.life.opening = some false ∧ ∀ j, (t.session j).isOpen = false) ∧
          done (.keyLoad c) 0x2A00 2 (fun t => t.secret k = { typ := (byteAt v 0).toNat, key := v.drop 1 } ∧ one t) ∧
          done (.keyGenerate c) 0x2A00 3 (fun t =>
            (t.secret k).typ = ofLe v ∧ (t.secret k).key.length = (if ofLe v = 1 then 32 else 64) ∧ one t) ∧
          (ofLe v = 1 → done (.keyErase c) 0x2A00 4 fun t => t.secret k = {} ∧ one t) ∧
          done (.exportedUpto c) 0x1181 6 (fun t => t.exportedUpto = ofLe v) ∧
          (∀ i < 64, ofLe v = 1 → done (.clear c) (0x2200 + i) 0x3F fun t =>
            (∀ j, 1 ≤ j → j ≤ 33 → t.count i j = 0) ∧ ∀ h j, h ≠ i → j < 64 → t.count h j = s.count h j)) ∧
        (m.op = 3 → own → refused (.default c) (·.dflt) ∧
          (m.index = 0x1000 → m.sub = 8 ∨ m.sub = 9 → ∀ e, s.dictEntry m.index m.sub = some e → passes e e.dflt → Does (.default c) s fun t =>
            answered t 0 [] ∧ t.dictVal m.index m.sub = some e.dflt ∧ Changes [.now, .slots, .polders, .timers, .tide, .dev, .flow, .mram, .cores, .logins, .telemetry, .counts, .ports, .lpos, .mail, .audit, .life, .crypto, .ring, .tray, .loops, .latches, .out, .msix, .pba, .freeCount] s t)) ∧
        (m.op = 1 → m.target ≠ 0 → m.target ≠ s.ring.addr → m.target ≤ 16 → s.reqOf c = none →
          (role = 0 → ends (.read c) 7) ∧ (role ≠ 0 → s.ring.addr = 0 → ends (.read c) 0x0E) ∧
          (role ≠ 0 → s.ring.addr ≠ 0 → Does (.read c) s fun t =>
            (t.mb n).busy = true ∧ (t.mb n).taken = true ∧
            ∃ q, t.reqOf c = some q ∧ q.dst = m.target ∧ q.write = false ∧ q.role = role ∧ q.index = m.index ∧ q.sub = m.sub ∧ q.offset = 0 ∧ q.tries = 0 ∧ q.sentAt = s.now))) ∧
      (m.op = 0x10 →
        let role := fld m.req 17 16
        (m.target ≠ 0 → ends (.challenge c) 0x10) ∧
        (m.target = 0 → ∀ u, m.lockedUntil = some u → s.ltide < u → ends (.challenge c) 0x0B) ∧
        (m.target = 0 → m.lockedUntil = none →
          (role = 0 → ends (.challenge c) 4) ∧ (role ≠ 0 → nonzero (s.credential role) = false → ends (.challenge c) 0x0A) ∧
          (role ≠ 0 → nonzero (s.credential role) = true → (lifeRoles s.lifeState).contains role = false ∨ s.life.rngFailed = true → ends (.challenge c) 6) ∧
          (role ≠ 0 → nonzero (s.credential role) = true → (lifeRoles s.lifeState).contains role = true → s.life.rngFailed = false → Does (.challenge c) s fun t =>
            ∃ ch, (t.mb n).challenge = some ch ∧ ch.bytes.length = 58 ∧ ch.bytes.drop 48 = serialBytes ++ [BitVec.ofNat 8 role, BitVec.ofNat 8 n] ∧ ch.role = role ∧
              ch.until_ = s.ltide + BitVec.ofNat 64 (s.dictNum 0x1100 5 10 * 16000000) ∧ answered t 0 (ch.bytes ++ List.replicate 6 0#8) ∧ Changes [.now, .slots, .polders, .timers, .tide, .dev, .flow, .mram, .cores, .logins, .telemetry, .counts, .ports, .lpos, .mail, .audit, .life, .crypto, .ring, .tray, .loops, .latches, .out, .msix, .pba, .freeCount] s t))) ∧
      (m.op = 0x11 → s.life.lane.contains (.respond n) = false →
        let lapsed (st : Nat) : Prop := Does (.respond c) s fun t => answered t st [] ∧ (t.mb n).challenge = none
        (m.target ≠ 0 → lapsed 0x10) ∧ (m.target = 0 → m.length ≠ 96 → lapsed 3) ∧ (m.target = 0 → m.length = 96 → m.challenge = none → ends (.respond c) 6) ∧
        (m.target = 0 → m.length = 96 → ∀ ch, m.challenge = some ch → (ch.until_ ≤ s.ltide → lapsed 6) ∧ (s.ltide < ch.until_ → Does (.respond c) s fun t =>
          t.life.lane = s.life.lane ++ [.respond n] ∧ t.mb n = { m with taken := true } ∧ Changes [.mail, .life] s t))) ∧
      (m.op = 0x12 → m.target = 0 → m.handle ≠ 0#32 → ∀ role, s.mbRole n = some role → Does (.logout c) s fun t =>
        answered t 0 [] ∧ (tget {} t.logins (m.handle.toNat % 16)).live = false ∧ t.loginRole m.handle = none ∧ Changes [.now, .slots, .polders, .timers, .tide, .dev, .flow, .mram, .cores, .logins, .telemetry, .counts, .ports, .lpos, .mail, .audit, .life, .crypto, .ring, .tray, .loops, .latches, .out, .msix, .pba, .freeCount] s t) ∧
      (m.op = 0x12 → m.target = 0 → m.handle = 0#32 ∨ s.mbRole n = none → ends (.logout c) 7)) ∧
    (s.life.lane = [] → exec .pubkeyVerifyDone s = .next s) ∧
    (∀ l, s.life.lane = .crypto :: l → exec .pubkeyVerifyDone s = .next (s.modLife fun x => { x with lane := l })) ∧
    (∀ l, s.life.lane = .cred n :: l → Config.pointOnCurve (m.bytes 0 97) = false → Does .pubkeyVerifyDone s fun t => answered t 4 [] ∧ t.life.lane = l) ∧
    (∀ l ch, s.life.lane = .respond n :: l → m.challenge = some ch →
      let room : Prop := s.auditHold = false ∨ s.auditFree ≠ 0
      let good : Bool := Config.ecdsaVerify (s.credential ch.role) (Config.sha384 ch.bytes) (m.bytes 0 96)
      (good = false → Does .pubkeyVerifyDone s fun t =>
        answered t 9 [] ∧ (t.mb n).challenge = none ∧ (t.mb n).fails = m.fails + 1 ∧ t.life.lane = l ∧ t.logins = s.logins ∧
        (s.dictNum 0x1100 3 8 ≤ m.fails + 1 → (t.mb n).lockedUntil = some (s.ltide + BitVec.ofNat 64 (s.dictNum 0x1100 4 60 * 16000000)))) ∧
      (good = true → room → (∀ i < 16, (tget {} s.logins i).live = true) → Does .pubkeyVerifyDone s fun t => answered t 8 [] ∧ t.logins = s.logins) ∧
      (good = true → room → (∃ i < 16, (tget {} s.logins i).live = false) → Does .pubkeyVerifyDone s fun t =>
        ∃ i < 16, (tget {} s.logins i).live = false ∧ (tget {} t.logins i).live = true ∧ (tget {} t.logins i).chan = c ∧ (tget {} t.logins i).at_ = s.ltide ∧
          t.loginRole (t.handleOf i) = some ch.role ∧ answered t 0 (leBytes (t.handleOf i).toNat 4) ∧ (t.mb n).fails = 0 ∧
          ∀ j, j ≠ i → tget {} t.logins j = tget {} s.logins j)) ∧
    (∀ (ag : Agent) (w : Word), (∀ p, ag = .path p → p = c) →
      (bitOf w 0 = true → exec (.mbAbort ag c w) s = .next (s.mbErr n .multiple)) ∧
      (bitOf w 0 = false → m.busy = false → exec (.mbAbort ag c w) s = .next (s.mbErr n .state)) ∧
      (bitOf w 0 = false → m.busy = true → m.taken = true → exec (.mbAbort ag c w) s = .next (s.mbErr n .none)) ∧
      (bitOf w 0 = false → m.busy = true → m.taken = false → Does (.mbAbort ag c w) s fun t =>
        answered t 0x0F [] ∧ (t.mb n).cmdErr = .none ∧ Changes [.dev, .cores, .counts, .mail, .out, .pba] s t)) ∧
    (∀ (p : Path) (w : Word), p ≠ c → exec (.mbAbort (.path p) c w) s = .next (s.wdeny p)) ∧
    (m.challenge = none → exec (.challengeExpiry c) s = .next s) ∧
    (∀ ch, m.challenge = some ch → s.life.lane.contains (.respond n) = false → Does (.challengeExpiry c) s fun t =>
      t.mb n = { m with challenge := none } ∧ (ch.until_ ≤ s.ltide → t.now = s.now) ∧ Changes [.now, .timers, .tide, .cores, .mail] s t) ∧
    (s.life.lane.contains (.respond n) = true → exec (.challengeExpiry c) s = .next s) ∧
    (m.lockedUntil = none → exec (.lockoutEnd c) s = .next s) ∧
    (∀ u, m.lockedUntil = some u → Does (.lockoutEnd c) s fun t =>
      t.mb n = { m with lockedUntil := none, fails := 0 } ∧ (u ≤ s.ltide → t.now = s.now) ∧ Changes [.now, .timers, .tide, .cores, .mail] s t)

/-- The crypto engine, the random source, the audit hash chain and scrub (16 R408, R430, R431, R433 to R436, Table 16-13, 01 R21): an operation waits for its
end with the result it will store, or with ERROR where its key or a range does not fit; CTR undoes itself; a result lands at DST and nowhere else; the lane
takes a hash only when no wrap or unwrap waits or the hash has waited 1 ms, and an operation when neither waits; the chain hashes the link and the first 48
bytes of an entry and stores 16 bytes of the hash in it; scrub acts only when it is granted a burst, and a word it finds bad stays bad. AES, SHA-384 and the verification are constants of the device. -/
def Obligations.CryptoAndAudit : Prop :=
  ∀ (s : State), s.wf = true →
    let c := s.crypto
    let src := s.sramBytes c.src.toNat c.len
    let fits (n : Nat) : Prop := inShared c.src.toNat c.len = true ∧ inShared c.dst.toNat n = true
    let sec := s.secret c.key
    let runs (i : Instr) (op : Nat) (r : Option (List Byte)) : Prop :=
      Does i s fun t => t.crypto = { c with cmdErr := .none, busy := true, op := op, result := r } ∧ Changes [.crypto, .life] s t
    (∀ k : Fin 4,
      (c.busy = true → ∀ i ∈ [Instr.aes256Ctr k, .aesCmac k, .sha384 k, .ecdsaVerify k, .kcv k], exec i s = .next { s with crypto := { c with cmdErr := .state } }) ∧
      (c.busy = false →
        (c.key ≠ 0 → sec.typ = 1 →
          (fits c.len → runs (.aes256Ctr k) 1 (some (aesCtr (keyOfBytes sec.key) (blockOfBytes (c.iv.flatMap fun w => leBytes w.toNat 4)) src))) ∧
          (fits 16 → runs (.aesCmac k) 2 (some (aesCmac (keyOfBytes sec.key) src))) ∧
          (inShared c.dst.toNat 8 = true → runs (.kcv k) 5 (some (kcvOf (keyOfBytes sec.key))))) ∧
        (c.key ≠ 0 → sec.typ = 2 → inShared c.dst.toNat 8 = true → runs (.kcv k) 5 (some (kcvOf (keyOfBytes (sec.key.take 32))))) ∧
        (c.key = 0 ∨ sec.typ ≠ 1 → runs (.aes256Ctr k) 1 none ∧ runs (.aesCmac k) 2 none) ∧ (c.key = 0 ∨ (sec.typ ≠ 1 ∧ sec.typ ≠ 2) → runs (.kcv k) 5 none) ∧
        (fits 48 → runs (.sha384 k) 3 (some (beBytes (Config.sha384 src).toNat 48))) ∧
        (¬fits c.len → runs (.aes256Ctr k) 1 none) ∧ (¬fits 16 → runs (.aesCmac k) 2 none) ∧ (¬fits 48 → runs (.sha384 k) 3 none) ∧
        (inShared c.dst.toNat 8 = false → runs (.kcv k) 5 none) ∧
        Does (.ecdsaVerify k) s fun t =>
          t.life.lane = s.life.lane ++ [.crypto] ∧ t.crypto.busy = true ∧ t.crypto.op = 4 ∧ Changes [.crypto, .life] s t ∧
          t.crypto.result = (if inShared c.src.toNat c.len && c.len = 241 &&
              Config.ecdsaVerify ((src.drop 48).take 97) (BitVec.ofNat 384 (ofBe (src.take 48))) (src.drop 145) then some [] else none)) ∧
      (s.life.rngFailed = true → exec (.rngRead k) s = .next { s with crypto := { c with error := true }, lastRead := 0#32 }) ∧
      (s.life.rngFailed = false → Does (.rngRead k) s fun t =>
        t.lastRead = Config.random s.freeCount ∧ t.freeCount = s.freeCount + 1 ∧ t.crypto = c ∧ Changes [.lastRead, .freeCount] s t)) ∧
    (∀ key ctr data, aesCtr key ctr (aesCtr key ctr data) = data) ∧ (∀ key m, (aesCmac key m).length = 16) ∧
    (c.busy = false ∨ s.life.lane.contains .crypto = true ∨ (c.op ≠ 4 ∧ (s.laneNext ≠ none ∨ s.auditBacklog ≠ 0)) → exec .cryptoDone s = .next s) ∧
    (c.busy = true → s.life.lane.contains .crypto = false → c.op = 4 ∨ (s.laneNext = none ∧ s.auditBacklog = 0) →
      (∀ l, c.result = some l → Does .cryptoDone s fun t =>
        t.sramBytes c.dst.toNat l.length = l ∧ (∀ a, a < c.dst.toNat ∨ c.dst.toNat + l.length ≤ a → t.sramByte a = s.sramByte a) ∧
        t.crypto = { c with busy := false, done := true, result := none } ∧ Changes [.sram, .cores, .crypto] s t) ∧
      (c.result = none → Does .cryptoDone s fun t =>
        t.crypto = { c with busy := false, done := true, error := true } ∧ Changes [.cores, .crypto] s t)) ∧
    (s.auditBacklog = 0 ∨ s.journalWaits = true ∨ s.storeQ ≠ [] ∨ (s.auditLate = false ∧ s.laneNext ≠ none) → exec .auditHash s = .next s) ∧
    (s.auditLink 0 = (beBytes (Config.sha384 ((List.range 8).map Config.serial)).toNat 48).take 16) ∧ (∀ n, n ≠ 0 → s.auditLink n = (s.auditAt (auditPos n)).drop 48) ∧
    ((s.dictEntry 0x2900 5).map (·.val) = some (leBytes s.mram.auditHashed 8) ∧ (s.dictEntry 0x2900 6).map (·.val) = some (padTo 48 s.mram.auditHash)) ∧
    (s.auditBacklog ≠ 0 → s.journalWaits = false → s.storeQ = [] → s.auditLate = true ∨ s.laneNext = none → Does .auditHash s fun t =>
      let n := s.mram.auditHashed + 1
      let h := beBytes (Config.sha384 (s.auditLink (n - 1) ++ (s.auditAt (auditPos n)).take 48)).toNat 48
      t.mram.auditHashed = n ∧ t.mram.auditHash = h ∧ t.auditAt (auditPos n) = padTo 48 (s.auditAt (auditPos n)) ++ h.take 16 ∧
      (∀ p, p ≠ auditPos n → t.auditAt p = s.auditAt p) ∧ Changes [.mram, .cores, .lpos, .audit] s t) ∧
    (∀ code : Fin 3,
      (s.life.rngFailed = true → exec (.rngFail code) s = .next s) ∧
      (s.life.rngFailed = false → Does (.rngFail code) s fun t =>
        t.life = { s.life with rngFailed := true } ∧ t.tallyOf 0x2A00 7 = min (s.tallyOf 0x2A00 7 + 1) 0xFFFFFFFF ∧ t.dev.irqStatus.getLsbD 13 = true ∧
        Posts s t 0xA7 0 (code.val + 1) ∧ Changes [.dev, .cores, .counts, .life, .out, .pba] s t)) ∧
    (let granted : Prop := (s.journalWaits = false ∧ s.storeQ = []) ∨ 62 ≤ s.flow.bursts
     (¬granted → ∀ b, exec (.scrubBurst b) s = .next s) ∧
     (granted → exec (.scrubBurst none) s = .next { s with flow := { s.flow with bursts := 0 } } ∧
       ∀ a : Word, Does (.scrubBurst (some a)) s fun t =>
         Posts s t 0xA8 0 2 ∧ t.dev.irqStatus.getLsbD 14 = true ∧ t.mram.bad.contains (a.toNat / 8) = true ∧ t.flow.bursts = 0 ∧
         (∀ b, s.mram.bad.contains b = true → t.mram.bad.contains b = true) ∧
         (a.toNat < 0x100000 → tget none t.mram.journal (a.toNat / 128) = none) ∧
         (0x100000 ≤ a.toNat → a.toNat < 0x180000 → t.auditAt ((a.toNat - 0x100000) / 64) = []) ∧
         (∀ p, a.toNat / 128 ≠ p → tget none t.mram.journal p = tget none s.mram.journal p) ∧ Changes [.dev, .flow, .mram, .cores, .counts, .lpos, .audit, .out, .pba] s t))

/-- Loop-backs, the test access port and register writes (17 R441 to R449, 07 R190, Tables 17-2 to 17-6): GO checks its fields, then its start condition; STOP
ends a loop-back; the last unit ends it with PASS or FAIL, and a check that FAR loses ends it at once; a public instruction of the port is loaded with the pins free, the test instructions park every
slot first, and the private ones act only while the debug port is open; a path's loop-back drops its link; a word written at a BAR0 offset goes to the
register that stands there. -/
def Obligations.LoopbacksTapAndBus : Prop :=
  ∀ (s : State), s.wf = true →
    (∀ (ag : Agent) (b : LoopBlock) (w : Word), bitOf w 31 = false → bitOf w 30 = false → s.allows ag 2 = true →
      let n := loopNum b
      let u := s.loop n
      let depth := fld w 10 8
      let i := fld w 2 0
      let err (e : CmdErr) : Host.Outcome State Fault Refusal := .next (s.modLoop n fun u => { u with cmdErr := e })
      let valid : Prop := depth ∈ loopDepths n ∧ fld w 23 16 ≠ 0 ∧ i ≤ loopIndexMax n ∧ fld w 25 24 ≠ 3 ∧ (8 ≤ n → fld w 25 24 = 0)
      let may : Prop := s.lifeState ≠ .retired ∧ s.loopCond n depth i true = true ∧ loopAgentOk n i ag = true
      (u.running = false →
        exec (.loopGo ag b (w ||| 0x40000000#32)) s = err .multiple ∧ exec (.loopStop ag b (w ||| 0x80000000#32)) s = err .multiple ∧
        exec (.loopStop ag b w) s = err .state ∧
        (¬valid → exec (.loopGo ag b w) s = err .value) ∧ (valid → ¬may → exec (.loopGo ag b w) s = err .state) ∧
        (valid → may → Does (.loopGo ag b w) s fun t =>
          t.loop n = { cmdErr := .none, result := 1, units := 0, errors := 0, ctrl := w ||| 0x80000000#32 } ∧ (t.loop n).running = true ∧
          (n < 8 → depth = 2 → (t.slot (8 * n + i)).seq.phase = .wait ∧ (t.slot (8 * n + i)).seq.tryCls = .c) ∧ Changes [.slots, .timers, .dev, .flow, .mram, .cores, .counts, .lpos, .audit, .ring, .loops, .out, .pba, .freeCount] s t)) ∧
      (u.running = true → s.loopCond n u.depth u.index false = true →
        (valid → exec (.loopGo ag b w) s = err .state) ∧
        Does (.loopStop ag b w) s fun t => (t.loop n).result = 4 ∧ (t.loop n).running = false ∧ (t.loop n).cmdErr = .none ∧ Changes [.slots, .timers, .dev, .flow, .mram, .cores, .counts, .lpos, .audit, .ring, .loops, .out, .pba, .freeCount] s t) ∧
      (∀ errors, u.running = true → s.loopCond n u.depth u.index false = true → (n < 8 → u.depth ≠ 2) → (n = 12 → u.depth ≠ 4) →
        Does (.loopUnitDone b errors) s fun t =>
          (t.loop n).units = u.units + 1 ∧ (t.loop n).errors = min (u.errors + errors) 0xFFFF ∧ t.now = s.now + u.unitCk n ∧
          (t.loop n).result = (if fld u.ctrl 23 16 ≤ u.units + 1 then (if min (u.errors + errors) 0xFFFF = 0 then 2 else 3) else 1) ∧ Changes [.now, .slots, .timers, .tide, .dev, .flow, .mram, .cores, .counts, .lpos, .audit, .ring, .loops, .out, .pba, .freeCount] s t) ∧
      (∀ errors, u.running = true → s.loopCond n u.depth u.index false = true → n < 8 → u.depth = 2 →
        let q := (s.slot (8 * n + u.index)).seq
        (q.clkRun = false → exec (.loopUnitDone b errors) s = .next s) ∧
        (q.clkRun = true → Does (.loopUnitDone b errors) s fun t =>
          (t.loop n).units = u.units + 1 ∧ (t.loop n).errors = min (u.errors + errors) 0xFFFF ∧
          t.now = s.now + (if u.units = 0 then 1000 * q.div else 0) + u.unitCk n ∧
          (t.loop n).result = (if fld u.ctrl 23 16 ≤ u.units + 1 then (if min (u.errors + errors) 0xFFFF = 0 then 2 else 3) else 1) ∧ Changes [.now, .slots, .timers, .tide, .dev, .flow, .mram, .cores, .counts, .lpos, .audit, .ring, .loops, .out, .pba, .freeCount] s t)) ∧
      (∀ errors, u.running = true → s.loopCond n u.depth u.index false = true → n = 12 → u.depth = 4 →
        (errors ≠ 0 → Does (.loopUnitDone b errors) s fun t => (t.loop n).result = 3 ∧ (t.loop n).units = u.units ∧ t.now = s.now) ∧
        (errors = 0 → Does (.loopUnitDone b errors) s fun t => (t.loop n).units = u.units + 1 ∧
          (u.units + 1 < fld u.ctrl 23 16 → s.ring.waits = [] → s.ring.txUntil ≤ s.now → (t.loop n).result = 1 ∧
            ∃ g, t.out = s.out ++ [.ring g] ∧ g.typ = 2#8 ∧ g.hops = 0))) ∧
      (∀ errors, u.running = true → s.loopCond n u.depth u.index false = false → Does (.loopUnitDone b errors) s fun t =>
        (t.loop n).result = 4 ∧ (t.loop n).units = u.units ∧ t.now = s.now)) ∧
    (∀ (p : Path) (b : LoopBlock) (w : Word), s.grant p < 2 →
      exec (.loopGo (.path p) b w) s = .next (s.wdeny p) ∧ exec (.loopStop (.path p) b w) s = .next (s.wdeny p)) ∧
    (let loads (i : Instr) (ir : Byte) (dr : Word) : Prop := exec i s = .next { s with tap := { s.tap with ir := ir, pins := false, dr := dr } }
     loads .tapReset 1 idcodeWord ∧ loads .idcode 1 idcodeWord ∧ loads .samplePreload 2 0 ∧ loads .bypass 0xFF 0 ∧
     (bitOf idcodeWord 0 = true ∧ fld idcodeWord 11 1 = 0x2B7 ∧ fld idcodeWord 27 12 = 0x6400 ∧ fld idcodeWord 31 28 = Config.stepping.toNat % 16) ∧
     (s.life.debugOpen = false →
       loads .extest 3 0 ∧ loads .clamp 4 0 ∧ loads .highz 5 0 ∧ (∀ w, loads (.coreCtrl w) 0x20 0) ∧ (∀ wr a d, loads (.memAccess wr a d) 0x21 0) ∧
       (s.lifeState ≠ .blank → loads .dbgOpen 0x10 0) ∧
       (s.lifeState = .blank → s.qpsLive = false → s.auditHeld = false → s.life.opening = none → s.dictRuns = true → Does .dbgOpen s fun t =>
         t.tap.ir = 0x10#8 ∧ t.life.opening = some true ∧ (∀ j, (t.session j).isOpen = false) ∧ Changes [.slots, .dev, .flow, .mram, .cores, .counts, .lpos, .audit, .life, .tap, .out, .pba] s t) ∧
       (s.lifeState = .blank → s.qpsLive = true ∨ s.auditHeld = true ∨ s.life.opening ≠ none ∨ s.dictRuns = false → Does .dbgOpen s fun t =>
         t.tap.ir = 0x10#8 ∧ Changes [.cores, .tap] s t)) ∧
     (s.life.debugOpen = true →
       loads .dbgOpen 0x10 0 ∧
       (∀ c ∈ [(Instr.extest, 3#8), (.clamp, 4#8), (.highz, 5#8)], Does c.1 s fun t =>
         t.tap.ir = c.2 ∧ t.tap.pins = true ∧ (∀ i < 64, (s.slot i).st ≠ .quenching → (t.slot i).st = .parked) ∧ Changes [.slots, .timers, .dev, .flow, .mram, .cores, .telemetry, .counts, .lpos, .audit, .crypto, .tap, .out, .pba] s t) ∧
       (∀ w : Byte, Does (.coreCtrl w) s fun t =>
         t.tap = { s.tap with ir := 0x20, pins := false, dr := BitVec.ofNat 32 s.coreStateBits } ∧
         (∀ k < 4, w.getLsbD k = false → (s.core k).inRepl = false ∨ (s.core k).run = .halted → (t.core k).run = .halted) ∧
         (∀ k < 4, w.getLsbD k = false → (s.core k).inRepl = true → (s.core k).run ≠ .halted →
           (t.core k).run = (s.core k).run ∧ (t.core k).stopReq = true) ∧
         (∀ k < 4, w.getLsbD k = true → (s.core k).run ≠ .halted → (t.core k).run = (s.core k).run ∧ (t.core k).stopReq = false) ∧ Changes [.dev, .cores, .coreCtl, .counts, .tap, .out, .pba] s t) ∧
       (∀ a d : Word, a.toNat % 4 ≠ 0 → ∀ wr, exec (.memAccess wr a d) s =
         .next { s with tap := { s.tap with ir := 0x21, pins := false, dr := 0, err := true } }) ∧
       (∀ a d : Word, a.toNat % 4 = 0 → 0x20000000 ≤ a.toNat → a.toNat < 0x20080000 →
         Does (.memAccess true a d) s (fun t =>
           t.sramBytes a.toNat 4 = leBytes d.toNat 4 ∧ (∀ x, x < a.toNat ∨ a.toNat + 4 ≤ x → t.sramByte x = s.sramByte x) ∧ t.tap.err = false ∧
           Changes [.sram, .tap] s t) ∧
         exec (.memAccess false a d) s = .next { s with tap := { ir := 0x21, pins := false, err := false, dr := BitVec.ofNat 32 (ofLe (s.sramBytes a.toNat 4)) } })) ∧
     (∀ p, (s.linkUp p = false → exec (.pcieLoopback p) s = .next s) ∧
       (s.linkUp p = true → Does (.pcieLoopback p) s fun t =>
         t.linkUp p = false ∧ t.dev.irqStatus.getLsbD 3 = true ∧ (∀ q ∈ s.joinedOn p, (t.qp q).st = .suspended) ∧ Changes [.slots, .timers, .dev, .flow, .mram, .cores, .counts, .lpos, .audit, .out, .pba] s t))) ∧
    (∀ (ag : Agent) (a v : Word),
      (a.toNat % 4 ≠ 0 → exec (.registerWrite ag a ⟨.word, v⟩) s = .next s) ∧ (∀ p, s.boot.step < 2 → exec (.registerWrite (.path p) a ⟨.word, v⟩) s = .next s) ∧
      (0x1E000 ≤ a.toNat → exec (.registerWrite ag a ⟨.word, v⟩) s = .next s) ∧
      exec (.registerWrite ag a ⟨.other, v⟩) s = .next s ∧ ∀ hi : Word,
        (a.toNat % 8 ≠ 0 → exec (.registerWrite ag a ⟨(.double hi), v⟩) s = .next s) ∧
        (a.toNat % 8 = 0 → ∀ t, exec (.registerWrite ag a ⟨.word, v⟩) s = .next t →
          exec (.registerWrite ag a ⟨(.double hi), v⟩) s = exec (.registerWrite ag (a + 4) ⟨.word, hi⟩) t)) ∧
    (∀ (p : Path) (v : Word), 2 ≤ s.boot.step →
      (∀ q : Fin 512, exec (.registerWrite (.path p) (BitVec.ofNat 32 (0x18000 + 8 * q.val)) ⟨.word, v⟩) s = exec (.sqTailDoorbell p q v) s ∧
        exec (.registerWrite (.path p) (BitVec.ofNat 32 (0x18004 + 8 * q.val)) ⟨.word, v⟩) s = exec (.cqHeadDoorbell p q v) s) ∧
      exec (.registerWrite (.path p) 0x28#32 ⟨.word, v⟩) s = exec (.evrCfgWrite (.path p) v) s ∧ exec (.registerWrite (.path p) 0x44#32 ⟨.word, v⟩) s = exec (.irqMaskWrite (.path p) v) s ∧
      exec (.registerWrite (.path p) 0x40#32 ⟨.word, v⟩) s = .next { s with dev := { s.dev with cmdErr := .none, irqStatus := s.dev.irqStatus &&& ~~~(v.setWidth 16) } } ∧
      (fld v 10 0 = 0 ∨ 1024 < fld v 10 0 → exec (.registerWrite (.path p) 0x64#32 ⟨.word, v⟩) s = .next (s.devErr .value)) ∧
      (fld v 10 0 ≠ 0 → fld v 10 0 ≤ 1024 →
        exec (.registerWrite (.path p) 0x64#32 ⟨.word, v⟩) s = .next { s with dev := { s.dev with cmdErr := .none, spillHigh := fld v 10 0 } }) ∧
      ∀ i : Fin 64, exec (.registerWrite (.path p) (BitVec.ofNat 32 (0x2000 + 128 * i.val)) ⟨.word, v⟩) s = .next (s.writeSlot (.path p) i 0 v))

/-- Slots are independent: a command of one slot leaves every other slot as it was, its registers, supply, sequencers, engines, tempering and exchange block
included; only the transaction that holds another slot may have left it (01 R3, R20). -/
def Obligations.SlotsAreIndependent : Prop :=
  ∀ (c : Instr) (i : Fin 64) (s t : State), slotOfCommand c = some i → exec c s = .next t → OtherSlots i s t
end

