-- ==== Sys2Proof/Laws/Tables.lean ====
section
/-! SUPPORT. Laws of the sparse tables: a read after a write, and that every write keeps the canonical form. -/

namespace Sys2Proof.Machine

/-- A read at the key written gives the value written. -/
@[simp] theorem tget_tset_same {α : Type} [DecidableEq α] (d : α) (t : Table α) (i : Nat) (v : α) :
    tget d (tset d t i v) i = v := by
  have del : ∀ t : Table α, tget d (tdel t i) i = d := by
    intro t
    induction t with
    | nil => rfl
    | cons e t ih => obtain ⟨k, w⟩ := e; simp only [tdel]; split <;> simp_all [tget]
  have ins : ∀ t : Table α, tget d (tins t i v) i = v := by
    intro t
    induction t with
    | nil => simp [tins, tget]
    | cons e t ih => obtain ⟨k, w⟩ := e; simp only [tins]; split <;> [skip; split] <;> simp_all [tget]
  unfold tset
  split
  · rw [del]; exact (‹v = d›).symm
  · exact ins t

/-- A write leaves every other key alone. -/
@[simp] theorem tget_tset_ne {α : Type} [DecidableEq α] (d : α) (t : Table α) (i j : Nat) (v : α) (h : j ≠ i) :
    tget d (tset d t i v) j = tget d t j := by
  have del : ∀ t : Table α, tget d (tdel t i) j = tget d t j := by
    intro t
    induction t with
    | nil => rfl
    | cons e t ih => obtain ⟨k, w⟩ := e; simp only [tdel]; split <;> simp_all [tget]
  have ins : ∀ t : Table α, tget d (tins t i v) j = tget d t j := by
    intro t
    induction t with
    | nil => simp [tins, tget, h]
    | cons e t ih => obtain ⟨k, w⟩ := e; simp only [tins]; split <;> [skip; split] <;> simp_all [tget]
  unfold tset
  split
  · exact del t
  · exact ins t

theorem trising_tdel {α : Type} (t : Table α) (m : Option Nat) (i : Nat) (h : trising m t = true) : trising m (tdel t i) = true := by
  induction t generalizing m with
  | nil => rfl
  | cons e t ih =>
    obtain ⟨k, v⟩ := e
    have hk : trising (some k) t = true := by cases m <;> simp_all [trising]
    have weak : ∀ (t : Table α), trising (some k) t = true → trising m t = true := by
      intro t ht
      cases m with
      | none => cases t with | nil => rfl | cons e t => simp_all [trising]
      | some a =>
        cases t with
        | nil => rfl
        | cons e t => simp_all [trising]; omega
    simp only [tdel]
    split
    · exact weak _ (ih _ hk)
    · cases m <;> simp_all [trising]

theorem trising_tins {α : Type} (t : Table α) (m : Option Nat) (i : Nat) (v : α) (h : trising m t = true) (hm : ∀ a, m = some a → a < i) :
    trising m (tins t i v) = true := by
  induction t generalizing m with
  | nil => cases m <;> simp_all [trising, tins]
  | cons e t ih =>
    obtain ⟨k, w⟩ := e
    have hk : trising (some k) t = true := by cases m <;> simp_all [trising]
    simp only [tins]
    split
    · cases m <;> simp_all [trising]
    · split
      · subst_vars; cases m <;> simp_all [trising]
      · have := ih (some k) hk (by intro a ha; cases ha; omega)
        cases m <;> simp_all [trising]

theorem mem_tdel {α : Type} (t : Table α) (i : Nat) (e : Nat × α) (h : e ∈ tdel t i) : e ∈ t := by
  induction t with
  | nil => simp [tdel] at h
  | cons a t ih => simp only [tdel] at h; split at h <;> simp_all <;> tauto

theorem mem_tins {α : Type} (t : Table α) (i : Nat) (v : α) (e : Nat × α) (h : e ∈ tins t i v) : e = (i, v) ∨ e ∈ t := by
  induction t with
  | nil => simp_all [tins]
  | cons a t ih => simp only [tins] at h; split at h <;> [skip; split at h] <;> simp_all <;> tauto

/-- A write keeps the canonical form. -/
theorem twf_tset {α : Type} [DecidableEq α] (d : α) (t : Table α) (i : Nat) (v : α) (h : twf d t = true) : twf d (tset d t i v) = true := by
  simp only [twf, Bool.and_eq_true, List.all_eq_true, decide_eq_true_eq] at h ⊢
  unfold tset
  split
  · exact ⟨trising_tdel _ _ _ h.1, fun p hp => h.2 p (mem_tdel _ _ _ hp)⟩
  · refine ⟨trising_tins _ _ _ _ h.1 (by simp), fun p hp => ?_⟩
    rcases mem_tins _ _ _ _ hp with rfl | hp
    · assumption
    · exact h.2 p hp

theorem trising_filter {α : Type} (t : Table α) (f : Nat × α → Bool) (m : Option Nat) (h : trising m t = true) :
    trising m (t.filter f) = true := by
  induction t generalizing m with
  | nil => rfl
  | cons e t ih =>
    obtain ⟨k, v⟩ := e
    have hk : trising (some k) t = true := by cases m <;> simp_all [trising]
    have weak : ∀ (t : Table α), trising (some k) t = true → trising m t = true := by
      intro t ht
      cases m with
      | none => cases t with | nil => rfl | cons e t => simp_all [trising]
      | some a =>
        cases t with
        | nil => rfl
        | cons e t => simp_all [trising]; omega
    simp only [List.filter_cons]
    split
    · cases m <;> simp_all [trising]
    · exact weak _ (ih _ hk)

theorem twf_filter {α : Type} [DecidableEq α] (d : α) (t : Table α) (f : Nat × α → Bool) (h : twf d t = true) : twf d (t.filter f) = true := by
  simp only [twf, Bool.and_eq_true, List.all_eq_true, decide_eq_true_eq] at h ⊢
  exact ⟨trising_filter _ _ _ h.1, fun p hp => h.2 p (List.mem_filter.mp hp).1⟩

/-- Entries set one after another, each under a condition, keep the canonical form. -/
theorem twf_setAll {α β : Type} [DecidableEq α] (d : α) (t : Table α) (l : List β) (c : β → Prop) [DecidablePred c] (i : β → Nat) (v : β → α)
    (h : twf d t = true) : twf d (l.foldl (fun t b => if c b then tset d t (i b) (v b) else t) t) = true := by
  induction l generalizing t with
  | nil => exact h
  | cons b l ih => exact ih _ (by dsimp only; split <;> simp only [twf_tset, h])

@[simp] theorem twf_nil {α : Type} [DecidableEq α] (d : α) : twf d ([] : Table α) = true := rfl

/-- A table whose keys lie above m holds nothing at m or below. -/
theorem tget_below {α : Type} (d : α) (t : Table α) (m i : Nat) (h : trising (some m) t = true) (hi : i ≤ m) : tget d t i = d := by
  induction t generalizing m with
  | nil => rfl
  | cons e t ih =>
    obtain ⟨k, v⟩ := e
    simp only [trising, Bool.and_eq_true, decide_eq_true_eq] at h
    simp only [tget]
    rw [if_neg (by omega)]
    exact ih k h.2 (by omega)

/-- Two canonical tables that read the same everywhere are the same. -/
theorem twf_ext {α : Type} [DecidableEq α] (d : α) (t u : Table α) (ht : twf d t = true) (hu : twf d u = true) (h : ∀ i, tget d t i = tget d u i) :
    t = u := by
  simp only [twf, Bool.and_eq_true, List.all_eq_true, decide_eq_true_eq] at ht hu
  obtain ⟨rt, nt⟩ := ht
  obtain ⟨ru, nu⟩ := hu
  generalize none (α := Nat) = m at rt ru
  induction t generalizing u m with
  | nil =>
    cases u with
    | nil => rfl
    | cons e u => exact absurd (h e.1) (by simpa [tget] using (nu e (by simp)).symm)
  | cons e t ih =>
    obtain ⟨a, v⟩ := e
    have hv : v ≠ d := nt (a, v) (by simp)
    have ra : trising (some a) t = true := by cases m <;> simp_all [trising]
    cases u with
    | nil => exact absurd (h a) (by simpa [tget] using hv)
    | cons f u =>
      obtain ⟨b, w⟩ := f
      have hw : w ≠ d := nu (b, w) (by simp)
      have rb : trising (some b) u = true := by cases m <;> simp_all [trising]
      have ha := h a
      have hb := h b
      rcases Nat.lt_trichotomy a b with lt | eq | gt
      · rw [show tget d ((b, w) :: u) a = tget d u a from by simp [tget, Nat.ne_of_lt lt], tget_below d u b a rb (by omega)] at ha
        exact absurd ha (by simpa [tget] using hv)
      · subst eq
        have e : v = w := by simpa [tget] using ha
        subst e
        congr 1
        refine ih u (fun i => ?_) (fun p hp => nt p (by simp [hp])) (fun p hp => nu p (by simp [hp])) (some a) ra rb
        by_cases hi : i = a
        · subst hi; rw [tget_below d t i i ra (Nat.le_refl _), tget_below d u i i rb (Nat.le_refl _)]
        · simpa [tget, hi] using h i
      · rw [show tget d ((a, v) :: t) b = tget d t b from by simp [tget, Nat.ne_of_lt gt], tget_below d t a b ra (by omega)] at hb
        exact absurd hb.symm (by simpa [tget] using hw)

/-- Of two writes at one key the second stands. -/
@[simp] theorem tset_tset {α : Type} [DecidableEq α] (d : α) (t : Table α) (i : Nat) (v w : α) (h : twf d t = true) :
    tset d (tset d t i v) i w = tset d t i w := by
  refine twf_ext d _ _ (twf_tset _ _ _ _ (twf_tset _ _ _ _ h)) (twf_tset _ _ _ _ h) fun j => ?_
  by_cases hj : j = i
  · subst hj; simp
  · simp [hj]

/-- Writing what stands there changes nothing. -/
@[simp] theorem tset_tget {α : Type} [DecidableEq α] (d : α) (t : Table α) (i : Nat) (h : twf d t = true) : tset d t i (tget d t i) = t := by
  refine twf_ext d _ _ (twf_tset _ _ _ _ h) h fun j => ?_
  by_cases hj : j = i
  · subst hj; simp
  · simp [hj]

end Sys2Proof.Machine
end

