-- ==== Sys2Proof/Laws/Evolves.lean ====
section
/-! SUPPORT. What every operation over the state does to the whole of it: which parts it may change, that the tables stay canonical and the queues
within their bounds, that time does not run back and nothing that left the device is taken back. -/

namespace Sys2Proof.Machine

theorem bounded_iff (s : State) : s.bounded = true ↔ s.dev.evq.length ≤ 256 ∧ s.ring.txQ.length ≤ 16 ∧ s.ring.rxQ.length ≤ 16 := by
  simp only [State.bounded, Bool.and_eq_true, decide_eq_true_eq, and_assoc]

/-- Whether every part of l is one of m. -/
def Part.sub (l m : List Part) : Bool := l.all fun p => m.contains p

theorem Part.sub_mem {l m : List Part} (h : Part.sub l m = true) {p : Part} (hp : p ∈ l) : p ∈ m := by
  have := List.all_eq_true.mp h p hp
  simpa using this

theorem Part.sub_trans {l m n : List Part} (h : Part.sub l m = true) (k : Part.sub m n = true) : Part.sub l n = true :=
  List.all_eq_true.mpr fun p hp => by simpa using Part.sub_mem k (Part.sub_mem h hp)

theorem Part.of {l m n : List Part} (k : Part.sub m n = true) (h : Part.sub l m = true) : Part.sub l n = true := Part.sub_trans h k

theorem State.same_trans {s t u : State} {p : Part} (h : s.same t p) (k : t.same u p) : s.same u p := by
  cases p <;> exact Eq.trans k h

theorem State.same_refl (s : State) (p : Part) : s.same s p := by cases p <;> rfl

/-- What an operation that changes the parts l at most may do to the state. -/
structure Evolves (l : List Part) (s t : State) : Prop where
  changes : Changes l s t
  wf : s.wf = true → t.wf = true
  bounded : s.bounded = true → t.bounded = true
  now : s.now ≤ t.now
  out : s.out <+: t.out

theorem Evolves.refl {l : List Part} (s : State) : Evolves l s s :=
  ⟨⟨rfl, fun p => .inr (s.same_refl p)⟩, id, id, Nat.le_refl _, List.prefix_refl _⟩

theorem Evolves.trans {l : List Part} {s t u : State} (h : Evolves l s t) (k : Evolves l t u) : Evolves l s u :=
  ⟨⟨k.changes.1.trans h.changes.1, fun p => match h.changes.2 p, k.changes.2 p with
    | .inl a, _ => .inl a
    | _, .inl a => .inl a
    | .inr a, .inr b => .inr (State.same_trans a b)⟩,
    fun w => k.wf (h.wf w), fun w => k.bounded (h.bounded w), Nat.le_trans h.now k.now, h.out.trans k.out⟩

theorem Evolves.mono {l m : List Part} {s t : State} (h : Evolves l s t) (k : Part.sub l m = true) : Evolves m s t :=
  ⟨⟨h.changes.1, fun p => (h.changes.2 p).imp (Part.sub_mem k) id⟩, h.wf, h.bounded, h.now, h.out⟩

theorem Evolves.ite {l : List Part} {s a b : State} {c : Prop} [Decidable c] (ha : c → Evolves l s a) (hb : ¬ c → Evolves l s b) :
    Evolves l s (if c then a else b) := by
  split
  · exact ha ‹_›
  · exact hb ‹_›

theorem Evolves.ite_snd {α : Type} {l : List Part} {s : State} {a b : α × State} {c : Prop} [Decidable c] (ha : c → Evolves l s a.2)
    (hb : ¬ c → Evolves l s b.2) : Evolves l s (if c then a else b).2 := by
  split
  · exact ha ‹_›
  · exact hb ‹_›

theorem foldl_evolves {β : Type} {l : List Part} {s t : State} (f : State → β → State) (bs : List β) (h : Evolves l s t)
    (hf : ∀ u a, Evolves l u (f u a)) : Evolves l s (bs.foldl f t) := by
  induction bs generalizing t with
  | nil => exact h
  | cons a bs ih => exact ih (h.trans (hf _ _))

/-- A change of the state's fields that leaves the event queue and the ring's frame queues alone. -/
theorem Evolves.raw {l : List Part} {s t : State}
    {slots : Table Slot} {polders : Table Polder} {timers : Table Timer} {tide : TideUnit} {dev : Dev} {flow : Flow} {mram : Mram} {cores :
    Table Core} {coreCtl : CoreCtl} {logins : Table Login} {boot : Boot} {telemetry : Table Nat} {counts : Table Nat} {ports : Table Port}
    {lpos : Table LPos} {mail : Table Mailbox} {audit : AuditRun} {life : LifeRun} {crypto : Crypto} {sram : Table Byte} {dictView : Table
    Byte} {storeQ : List (Nat × List (Nat × Byte))} {ring : Ring} {tray : Tray} {loops : Table LoopUnit} {tap : Tap} {latches : Table Word}
    {lastRead : Word} {msix : Table Word} {pba : Table Bool} {freeCount : Nat}
    (h : Evolves l s t) (he : dev.evq = t.dev.evq) (h1 : ring.txQ = t.ring.txQ) (h2 : ring.rxQ = t.ring.rxQ)
    (hc : Changes l t
      ⟨t.now, slots, polders, timers, tide, dev, flow, mram, cores, coreCtl, logins, boot, telemetry, counts, ports, lpos, mail, audit,
      life, crypto, sram, dictView, storeQ, ring, tray, loops, tap, latches, lastRead, t.out, msix, pba, freeCount, t.pending⟩)
    (hw : t.wf = true → State.wf
      ⟨t.now, slots, polders, timers, tide, dev, flow, mram, cores, coreCtl, logins, boot, telemetry, counts, ports, lpos, mail, audit,
      life, crypto, sram, dictView, storeQ, ring, tray, loops, tap, latches, lastRead, t.out, msix, pba, freeCount, t.pending⟩ = true) :
    Evolves l s
      ⟨t.now, slots, polders, timers, tide, dev, flow, mram, cores, coreCtl, logins, boot, telemetry, counts, ports, lpos, mail, audit,
      life, crypto, sram, dictView, storeQ, ring, tray, loops, tap, latches, lastRead, t.out, msix, pba, freeCount, t.pending⟩ :=
  h.trans ⟨hc, hw, fun b => by simp only [State.bounded, he, h1, h2] at b ⊢; exact b, Nat.le_refl _, List.prefix_refl _⟩

end Sys2Proof.Machine
end

