-- ==== Sys2Proof/Laws/EvolvesCard.lean ====
section
/-! SUPPORT. What each operation may do to the whole state: the operations over slots, cards, timers, the tide, transactions, queues and card sets (Ops.lean to Tempering.lean). -/

namespace Sys2Proof.Machine

theorem State.setSlot_evolves {ps : List Part} {s0 : State} (hl : Part.sub [.slots] ps = true) (s : State) (i : Nat) (x : Slot)
    (h : Evolves ps s0 s) : Evolves ps s0 (State.setSlot s i x) := by
  refine h.trans ?_; clear h
  unfold State.setSlot
  try dsimp only
  repeat' first
    | (with_reducible first | exact .refl _ | assumption | rfl)
    | split
    | refine Evolves.raw ?_ rfl rfl rfl ⟨rfl, fun p => by cases p <;> first | exact .inl (Part.sub_mem hl (by decide)) | exact .inr rfl⟩
        (fun w => by simp only [State.wf, Mram.wf, Flow.wf, Flow.burst, Bool.and_eq_true] at w ⊢; simp only [w, twf_tset, twf_filter, twf_nil, and_self])

theorem State.modSlot_evolves {ps : List Part} {s0 : State} (hl : Part.sub [.slots] ps = true) (s : State) (i : Nat) (f : Slot → Slot)
    (h : Evolves ps s0 s) : Evolves ps s0 (State.modSlot s i f) := by
  refine h.trans ?_; clear h
  unfold State.modSlot
  try dsimp only
  repeat' first
    | (with_reducible first | exact .refl _ | assumption | apply State.setSlot_evolves | rfl)
    | exact Part.of hl rfl
    | split

theorem State.modPolder_evolves {ps : List Part} {s0 : State} (hl : Part.sub [.polders] ps = true) (s : State) (p : Nat) (f : Polder → Polder)
    (h : Evolves ps s0 s) : Evolves ps s0 (State.modPolder s p f) := by
  refine h.trans ?_; clear h
  unfold State.modPolder
  try dsimp only
  repeat' first
    | (with_reducible first | exact .refl _ | assumption | rfl)
    | split
    | refine Evolves.raw ?_ rfl rfl rfl ⟨rfl, fun p => by cases p <;> first | exact .inl (Part.sub_mem hl (by decide)) | exact .inr rfl⟩
        (fun w => by simp only [State.wf, Mram.wf, Flow.wf, Flow.burst, Bool.and_eq_true] at w ⊢; simp only [w, twf_tset, twf_filter, twf_nil, and_self])

theorem State.modTimer_evolves {ps : List Part} {s0 : State} (hl : Part.sub [.timers] ps = true) (s : State) (i : Nat) (f : Timer → Timer)
    (h : Evolves ps s0 s) : Evolves ps s0 (State.modTimer s i f) := by
  refine h.trans ?_; clear h
  unfold State.modTimer
  try dsimp only
  repeat' first
    | (with_reducible first | exact .refl _ | assumption | rfl)
    | split
    | refine Evolves.raw ?_ rfl rfl rfl ⟨rfl, fun p => by cases p <;> first | exact .inl (Part.sub_mem hl (by decide)) | exact .inr rfl⟩
        (fun w => by simp only [State.wf, Mram.wf, Flow.wf, Flow.burst, Bool.and_eq_true] at w ⊢; simp only [w, twf_tset, twf_filter, twf_nil, and_self])

theorem State.modQp_evolves {ps : List Part} {s0 : State} (hl : Part.sub [.flow] ps = true) (s : State) (q : Nat) (f : QPair → QPair)
    (h : Evolves ps s0 s) : Evolves ps s0 (State.modQp s q f) := by
  refine h.trans ?_; clear h
  unfold State.modQp
  try dsimp only
  repeat' first
    | (with_reducible first | exact .refl _ | assumption | rfl)
    | split
    | refine Evolves.raw ?_ rfl rfl rfl ⟨rfl, fun p => by cases p <;> first | exact .inl (Part.sub_mem hl (by decide)) | exact .inr rfl⟩
        (fun w => by simp only [State.wf, Mram.wf, Flow.wf, Flow.burst, Bool.and_eq_true] at w ⊢; simp only [w, twf_tset, twf_filter, twf_nil, and_self])

theorem State.setTxn_evolves {ps : List Part} {s0 : State} (hl : Part.sub [.flow] ps = true) (s : State) (t : Nat) (x : Option Txn)
    (h : Evolves ps s0 s) : Evolves ps s0 (State.setTxn s t x) := by
  refine h.trans ?_; clear h
  unfold State.setTxn
  try dsimp only
  repeat' first
    | (with_reducible first | exact .refl _ | assumption | rfl)
    | split
    | refine Evolves.raw ?_ rfl rfl rfl ⟨rfl, fun p => by cases p <;> first | exact .inl (Part.sub_mem hl (by decide)) | exact .inr rfl⟩
        (fun w => by simp only [State.wf, Mram.wf, Flow.wf, Flow.burst, Bool.and_eq_true] at w ⊢; simp only [w, twf_tset, twf_filter, twf_nil, and_self])

theorem State.modTxn_evolves {ps : List Part} {s0 : State} (hl : Part.sub [.flow] ps = true) (s : State) (t : Nat) (f : Txn → Txn)
    (h : Evolves ps s0 s) : Evolves ps s0 (State.modTxn s t f) := by
  refine h.trans ?_; clear h
  unfold State.modTxn
  try dsimp only
  repeat' first
    | (with_reducible first | exact .refl _ | assumption | apply State.setTxn_evolves | rfl)
    | exact Part.of hl rfl
    | split

theorem State.setSession_evolves {ps : List Part} {s0 : State} (hl : Part.sub [.flow] ps = true) (s : State) (i : Nat) (x : Session)
    (h : Evolves ps s0 s) : Evolves ps s0 (State.setSession s i x) := by
  refine h.trans ?_; clear h
  unfold State.setSession
  try dsimp only
  repeat' first
    | (with_reducible first | exact .refl _ | assumption | rfl)
    | split
    | refine Evolves.raw ?_ rfl rfl rfl ⟨rfl, fun p => by cases p <;> first | exact .inl (Part.sub_mem hl (by decide)) | exact .inr rfl⟩
        (fun w => by simp only [State.wf, Mram.wf, Flow.wf, Flow.burst, Bool.and_eq_true] at w ⊢; simp only [w, twf_tset, twf_filter, twf_nil, and_self])

theorem State.setGen_evolves {ps : List Part} {s0 : State} (hl : Part.sub [.mram] ps = true) (s : State) (i : Nat) (g : Byte)
    (h : Evolves ps s0 s) : Evolves ps s0 (State.setGen s i g) := by
  refine h.trans ?_; clear h
  unfold State.setGen
  try dsimp only
  repeat' first
    | (with_reducible first | exact .refl _ | assumption | rfl)
    | split
    | refine Evolves.raw ?_ rfl rfl rfl ⟨rfl, fun p => by cases p <;> first | exact .inl (Part.sub_mem hl (by decide)) | exact .inr rfl⟩
        (fun w => by simp only [State.wf, Mram.wf, Flow.wf, Flow.burst, Bool.and_eq_true] at w ⊢; simp only [w, twf_tset, twf_filter, twf_nil, and_self])

theorem State.modSet_evolves {ps : List Part} {s0 : State} (hl : Part.sub [.flow] ps = true) (s : State) (k : Nat) (f : CardSet → CardSet)
    (h : Evolves ps s0 s) : Evolves ps s0 (State.modSet s k f) := by
  refine h.trans ?_; clear h
  unfold State.modSet
  try dsimp only
  repeat' first
    | (with_reducible first | exact .refl _ | assumption | rfl)
    | split
    | refine Evolves.raw ?_ rfl rfl rfl ⟨rfl, fun p => by cases p <;> first | exact .inl (Part.sub_mem hl (by decide)) | exact .inr rfl⟩
        (fun w => by simp only [State.wf, Mram.wf, Flow.wf, Flow.burst, Bool.and_eq_true] at w ⊢; simp only [w, twf_tset, twf_filter, twf_nil, and_self])

theorem State.modDev_evolves {ps : List Part} {s0 s : State} (hl : Part.sub [.dev] ps = true) {f : Dev → Dev} (h : Evolves ps s0 s) (hf : (f s.dev).evq.length = s.dev.evq.length) :
    Evolves ps s0 (s.modDev f) := by
  refine h.trans ⟨⟨rfl, fun p => by cases p <;> first | exact .inl (Part.sub_mem hl (by decide)) | exact .inr rfl⟩, id, ?_, Nat.le_refl _, List.prefix_refl _⟩
  intro b; simp only [State.bounded, State.modDev, hf] at b ⊢; exact b

theorem State.modTide_evolves {ps : List Part} {s0 : State} (hl : Part.sub [.tide] ps = true) (s : State) (f : TideUnit → TideUnit)
    (h : Evolves ps s0 s) : Evolves ps s0 (State.modTide s f) := by
  refine h.trans ?_; clear h
  unfold State.modTide
  try dsimp only
  repeat' first
    | (with_reducible first | exact .refl _ | assumption | rfl)
    | split
    | refine Evolves.raw ?_ rfl rfl rfl ⟨rfl, fun p => by cases p <;> first | exact .inl (Part.sub_mem hl (by decide)) | exact .inr rfl⟩
        (fun w => by simp only [State.wf, Mram.wf, Flow.wf, Flow.burst, Bool.and_eq_true] at w ⊢; simp only [w, twf_tset, twf_filter, twf_nil, and_self])

theorem State.emit_evolves {ps : List Part} {s0 s : State} (hl : Part.sub [.out] ps = true) {o : Out} (h : Evolves ps s0 s) : Evolves ps s0 (s.emit o) :=
  h.trans ⟨⟨rfl, fun p => by cases p <;> first | exact .inl (Part.sub_mem hl (by decide)) | exact .inr rfl⟩, id, id, Nat.le_refl _, List.prefix_append _ _⟩

theorem State.tally_evolves {ps : List Part} {s0 : State} (hl : Part.sub [.counts] ps = true) (s : State) (idx sub : Nat) (n : Nat) (wide : Bool)
    (h : Evolves ps s0 s) : Evolves ps s0 (State.tally s idx sub n wide) := by
  refine h.trans ?_; clear h
  unfold State.tally
  try dsimp only
  repeat' first
    | (with_reducible first | exact .refl _ | assumption | rfl)
    | split
    | refine Evolves.raw ?_ rfl rfl rfl ⟨rfl, fun p => by cases p <;> first | exact .inl (Part.sub_mem hl (by decide)) | exact .inr rfl⟩
        (fun w => by simp only [State.wf, Mram.wf, Flow.wf, Flow.burst, Bool.and_eq_true] at w ⊢; simp only [w, twf_tset, twf_filter, twf_nil, and_self])

theorem State.sendMsix_evolves {ps : List Part} {s0 : State} (hl : Part.sub [.counts, .out, .pba] ps = true) (s : State) (p : Path) (v : Nat)
    (h : Evolves ps s0 s) : Evolves ps s0 (State.sendMsix s p v) := by
  refine h.trans ?_; clear h
  unfold State.sendMsix
  try dsimp only
  repeat' first
    | (with_reducible first | exact .refl _ | assumption | apply State.emit_evolves | apply State.tally_evolves | rfl)
    | exact Part.of hl rfl
    | split
    | refine Evolves.raw ?_ rfl rfl rfl ⟨rfl, fun p => by cases p <;> first | exact .inl (Part.sub_mem hl (by decide)) | exact .inr rfl⟩
        (fun w => by simp only [State.wf, Mram.wf, Flow.wf, Flow.burst, Bool.and_eq_true] at w ⊢; simp only [w, twf_tset, twf_filter, twf_nil, and_self])

theorem State.releaseMsix_evolves {ps : List Part} {s0 : State} (hl : Part.sub [.counts, .out, .pba] ps = true) (s : State) (p : Path) (v : Nat)
    (h : Evolves ps s0 s) : Evolves ps s0 (State.releaseMsix s p v) := by
  refine h.trans ?_; clear h
  unfold State.releaseMsix
  try dsimp only
  repeat' first
    | (with_reducible first | exact .refl _ | assumption | apply State.sendMsix_evolves | rfl)
    | exact Part.of hl rfl
    | split
    | refine Evolves.raw ?_ rfl rfl rfl ⟨rfl, fun p => by cases p <;> first | exact .inl (Part.sub_mem hl (by decide)) | exact .inr rfl⟩
        (fun w => by simp only [State.wf, Mram.wf, Flow.wf, Flow.burst, Bool.and_eq_true] at w ⊢; simp only [w, twf_tset, twf_filter, twf_nil, and_self])

theorem State.setMsixWord_evolves {ps : List Part} {s0 : State} (hl : Part.sub [.counts, .out, .msix, .pba] ps = true) (s : State) (p : Path) (i : Nat) (w : Word)
    (h : Evolves ps s0 s) : Evolves ps s0 (State.setMsixWord s p i w) := by
  refine h.trans ?_; clear h
  unfold State.setMsixWord
  try dsimp only
  repeat' first
    | (with_reducible first | exact .refl _ | assumption | apply State.releaseMsix_evolves | rfl)
    | exact Part.of hl rfl
    | split
    | refine Evolves.raw ?_ rfl rfl rfl ⟨rfl, fun p => by cases p <;> first | exact .inl (Part.sub_mem hl (by decide)) | exact .inr rfl⟩
        (fun w => by simp only [State.wf, Mram.wf, Flow.wf, Flow.burst, Bool.and_eq_true] at w ⊢; simp only [w, twf_tset, twf_filter, twf_nil, and_self])

theorem State.setLatch_evolves {ps : List Part} {s0 : State} (hl : Part.sub [.latches] ps = true) (s : State) (ag : Agent) (key : Nat) (w : Word)
    (h : Evolves ps s0 s) : Evolves ps s0 (State.setLatch s ag key w) := by
  refine h.trans ?_; clear h
  unfold State.setLatch
  try dsimp only
  repeat' first
    | (with_reducible first | exact .refl _ | assumption | rfl)
    | split
    | refine Evolves.raw ?_ rfl rfl rfl ⟨rfl, fun p => by cases p <;> first | exact .inl (Part.sub_mem hl (by decide)) | exact .inr rfl⟩
        (fun w => by simp only [State.wf, Mram.wf, Flow.wf, Flow.burst, Bool.and_eq_true] at w ⊢; simp only [w, twf_tset, twf_filter, twf_nil, and_self])

theorem State.bump_evolves {ps : List Part} {s0 : State} (hl : Part.sub [.telemetry] ps = true) (s : State) (i c : Nat)
    (h : Evolves ps s0 s) : Evolves ps s0 (State.bump s i c) := by
  refine h.trans ?_; clear h
  unfold State.bump
  try dsimp only
  repeat' first
    | (with_reducible first | exact .refl _ | assumption | rfl)
    | split
    | refine Evolves.raw ?_ rfl rfl rfl ⟨rfl, fun p => by cases p <;> first | exact .inl (Part.sub_mem hl (by decide)) | exact .inr rfl⟩
        (fun w => by simp only [State.wf, Mram.wf, Flow.wf, Flow.burst, Bool.and_eq_true] at w ⊢; simp only [w, twf_tset, twf_filter, twf_nil, and_self])

theorem State.bumpN_evolves {ps : List Part} {s0 : State} (hl : Part.sub [.telemetry] ps = true) (s : State) (i c n : Nat)
    (h : Evolves ps s0 s) : Evolves ps s0 (State.bumpN s i c n) := by
  refine h.trans ?_; clear h
  unfold State.bumpN
  try dsimp only
  repeat' first
    | (with_reducible first | exact .refl _ | assumption | rfl)
    | split
    | refine Evolves.raw ?_ rfl rfl rfl ⟨rfl, fun p => by cases p <;> first | exact .inl (Part.sub_mem hl (by decide)) | exact .inr rfl⟩
        (fun w => by simp only [State.wf, Mram.wf, Flow.wf, Flow.burst, Bool.and_eq_true] at w ⊢; simp only [w, twf_tset, twf_filter, twf_nil, and_self])

theorem State.persist_evolves {ps : List Part} {s0 : State} (hl : Part.sub [.mram] ps = true) (s : State) (idx sub : Nat) (v : List Byte)
    (h : Evolves ps s0 s) : Evolves ps s0 (State.persist s idx sub v) := by
  refine h.trans ?_; clear h
  unfold State.persist
  try dsimp only
  repeat' first
    | (with_reducible first | exact .refl _ | assumption | rfl)
    | split
    | refine Evolves.raw ?_ rfl rfl rfl ⟨rfl, fun p => by cases p <;> first | exact .inl (Part.sub_mem hl (by decide)) | exact .inr rfl⟩
        (fun w => by simp only [State.wf, Mram.wf, Flow.wf, Flow.burst, Bool.and_eq_true] at w ⊢; simp only [w, twf_tset, twf_filter, twf_nil, and_self])

theorem State.modPort_evolves {ps : List Part} {s0 : State} (hl : Part.sub [.ports] ps = true) (s : State) (p : Nat) (f : Port → Port)
    (h : Evolves ps s0 s) : Evolves ps s0 (State.modPort s p f) := by
  refine h.trans ?_; clear h
  unfold State.modPort
  try dsimp only
  repeat' first
    | (with_reducible first | exact .refl _ | assumption | rfl)
    | split
    | refine Evolves.raw ?_ rfl rfl rfl ⟨rfl, fun p => by cases p <;> first | exact .inl (Part.sub_mem hl (by decide)) | exact .inr rfl⟩
        (fun w => by simp only [State.wf, Mram.wf, Flow.wf, Flow.burst, Bool.and_eq_true] at w ⊢; simp only [w, twf_tset, twf_filter, twf_nil, and_self])

theorem State.modLp_evolves {ps : List Part} {s0 : State} (hl : Part.sub [.lpos] ps = true) (s : State) (k : Nat) (f : LPos → LPos)
    (h : Evolves ps s0 s) : Evolves ps s0 (State.modLp s k f) := by
  refine h.trans ?_; clear h
  unfold State.modLp
  try dsimp only
  repeat' first
    | (with_reducible first | exact .refl _ | assumption | rfl)
    | split
    | refine Evolves.raw ?_ rfl rfl rfl ⟨rfl, fun p => by cases p <;> first | exact .inl (Part.sub_mem hl (by decide)) | exact .inr rfl⟩
        (fun w => by simp only [State.wf, Mram.wf, Flow.wf, Flow.burst, Bool.and_eq_true] at w ⊢; simp only [w, twf_tset, twf_filter, twf_nil, and_self])

theorem State.markChanged_evolves {ps : List Part} {s0 : State} (hl : Part.sub [.lpos] ps = true) (s : State) (mode b : Nat)
    (h : Evolves ps s0 s) : Evolves ps s0 (State.markChanged s mode b) := by
  refine h.trans ?_; clear h
  unfold State.markChanged
  try dsimp only
  repeat' first
    | (with_reducible first | exact .refl _ | assumption | apply State.modLp_evolves | apply foldl_evolves | rfl)
    | exact Part.of hl rfl
    | split | intro _

theorem State.modLoop_evolves {ps : List Part} {s0 : State} (hl : Part.sub [.loops] ps = true) (s : State) (b : Nat) (f : LoopUnit → LoopUnit)
    (h : Evolves ps s0 s) : Evolves ps s0 (State.modLoop s b f) := by
  refine h.trans ?_; clear h
  unfold State.modLoop
  try dsimp only
  repeat' first
    | (with_reducible first | exact .refl _ | assumption | rfl)
    | split
    | refine Evolves.raw ?_ rfl rfl rfl ⟨rfl, fun p => by cases p <;> first | exact .inl (Part.sub_mem hl (by decide)) | exact .inr rfl⟩
        (fun w => by simp only [State.wf, Mram.wf, Flow.wf, Flow.burst, Bool.and_eq_true] at w ⊢; simp only [w, twf_tset, twf_filter, twf_nil, and_self])

theorem State.endLoop_evolves {ps : List Part} {s0 : State} (hl : Part.sub [.loops] ps = true) (s : State) (b r : Nat)
    (h : Evolves ps s0 s) : Evolves ps s0 (State.endLoop s b r) := by
  refine h.trans ?_; clear h
  unfold State.endLoop
  try dsimp only
  repeat' first
    | (with_reducible first | exact .refl _ | assumption | apply State.modLoop_evolves | rfl)
    | exact Part.of hl rfl
    | split | intro _

theorem State.failLoop_evolves {ps : List Part} {s0 : State} (hl : Part.sub [.loops] ps = true) (s : State) (b : Nat) (far : Bool)
    (h : Evolves ps s0 s) : Evolves ps s0 (State.failLoop s b far) := by
  refine h.trans ?_; clear h
  unfold State.failLoop
  try dsimp only
  repeat' first
    | (with_reducible first | exact .refl _ | assumption | apply State.endLoop_evolves | rfl)
    | exact Part.of hl rfl
    | split

theorem State.askLane_evolves {ps : List Part} {s0 : State} (hl : Part.sub [.crypto] ps = true) (s : State) (t : Nat)
    (h : Evolves ps s0 s) : Evolves ps s0 (State.askLane s t) := by
  refine h.trans ?_; clear h
  unfold State.askLane
  try dsimp only
  repeat' first
    | (with_reducible first | exact .refl _ | assumption | rfl)
    | split
    | refine Evolves.raw ?_ rfl rfl rfl ⟨rfl, fun p => by cases p <;> first | exact .inl (Part.sub_mem hl (by decide)) | exact .inr rfl⟩
        (fun w => by simp only [State.wf, Mram.wf, Flow.wf, Flow.burst, Bool.and_eq_true] at w ⊢; simp only [w, twf_tset, twf_filter, twf_nil, and_self])

theorem State.irq_evolves {ps : List Part} {s0 : State} (hl : Part.sub [.dev, .counts, .out, .pba] ps = true) (s : State) (n : Nat)
    (h : Evolves ps s0 s) : Evolves ps s0 (State.irq s n) := by
  refine h.trans ?_; clear h
  unfold State.irq
  try dsimp only
  repeat' first
    | (with_reducible first | exact .refl _ | assumption | apply State.modDev_evolves | apply State.sendMsix_evolves | rfl)
    | exact Part.of hl rfl
    | split | intro _

theorem State.postEv_evolves {ps : List Part} {s0 : State} (hl : Part.sub [.dev, .counts, .out, .pba] ps = true) (s : State) (e : Event) (h : Evolves ps s0 s) : Evolves ps s0 (s.postEv e) := by
  unfold State.postEv
  split
  · refine h.trans ⟨⟨rfl, fun p => by cases p <;> first | exact .inl (Part.sub_mem hl (by decide)) | exact .inr rfl⟩, id, fun b => ?_, Nat.le_refl _, List.prefix_refl _⟩
    rw [bounded_iff] at b ⊢
    simp only [State.modDev, List.length_append, List.length_cons, List.length_nil]
    omega
  · exact State.irq_evolves (Part.of hl rfl) _ _ (State.modDev_evolves (Part.of hl rfl) h rfl)

theorem State.post_evolves {ps : List Part} {s0 : State} (hl : Part.sub [.dev, .counts, .out, .pba] ps = true) (s : State) (typ source code : Nat) (data : List Word)
    (h : Evolves ps s0 s) : Evolves ps s0 (State.post s typ source code data) := by
  refine h.trans ?_; clear h
  unfold State.post
  try dsimp only
  repeat' first
    | (with_reducible first | exact .refl _ | assumption | apply State.postEv_evolves | rfl)
    | exact Part.of hl rfl
    | split

theorem State.modCore_evolves {ps : List Part} {s0 : State} (hl : Part.sub [.cores] ps = true) (s : State) (k : Nat) (f : Core → Core)
    (h : Evolves ps s0 s) : Evolves ps s0 (State.modCore s k f) := by
  refine h.trans ?_; clear h
  unfold State.modCore
  try dsimp only
  repeat' first
    | (with_reducible first | exact .refl _ | assumption | rfl)
    | split
    | refine Evolves.raw ?_ rfl rfl rfl ⟨rfl, fun p => by cases p <;> first | exact .inl (Part.sub_mem hl (by decide)) | exact .inr rfl⟩
        (fun w => by simp only [State.wf, Mram.wf, Flow.wf, Flow.burst, Bool.and_eq_true] at w ⊢; simp only [w, twf_tset, twf_filter, twf_nil, and_self])

theorem State.pend_evolves {ps : List Part} {s0 : State} (hl : Part.sub [.cores] ps = true) (s : State) (k n : Nat)
    (h : Evolves ps s0 s) : Evolves ps s0 (State.pend s k n) := by
  refine h.trans ?_; clear h
  unfold State.pend
  try dsimp only
  repeat' first
    | (with_reducible first | exact .refl _ | assumption | apply State.modCore_evolves | rfl)
    | exact Part.of hl rfl
    | split | intro _

theorem State.line_evolves {ps : List Part} {s0 : State} (hl : Part.sub [.cores] ps = true) (s : State) (n : Nat)
    (h : Evolves ps s0 s) : Evolves ps s0 (State.line s n) := by
  refine h.trans ?_; clear h
  unfold State.line
  try dsimp only
  repeat' first
    | (with_reducible first | exact .refl _ | assumption | apply State.pend_evolves | rfl)
    | exact Part.of hl rfl
    | split

theorem State.writeLife_evolves {ps : List Part} {s0 : State} (hl : Part.sub [.mram] ps = true) (s : State) (r : LifeRec)
    (h : Evolves ps s0 s) : Evolves ps s0 (State.writeLife s r) := by
  refine h.trans ?_; clear h
  unfold State.writeLife
  try dsimp only
  repeat' first
    | (with_reducible first | exact .refl _ | assumption | rfl)
    | split
    | refine Evolves.raw ?_ rfl rfl rfl ⟨rfl, fun p => by cases p <;> first | exact .inl (Part.sub_mem hl (by decide)) | exact .inr rfl⟩
        (fun w => by simp only [State.wf, Mram.wf, Flow.wf, Flow.burst, Bool.and_eq_true] at w ⊢; simp only [w, twf_tset, twf_filter, twf_nil, and_self])

theorem State.wdeny_evolves {ps : List Part} {s0 : State} (hl : Part.sub [.dev, .counts] ps = true) (s : State) (p : Path)
    (h : Evolves ps s0 s) : Evolves ps s0 (State.wdeny s p) := by
  refine h.trans ?_; clear h
  unfold State.wdeny
  try dsimp only
  repeat' first
    | (with_reducible first | exact .refl _ | assumption | apply State.modDev_evolves | apply State.tally_evolves | rfl)
    | exact Part.of hl rfl
    | split | intro _

theorem State.granted_evolves {ps : List Part} {s0 : State} (hl : Part.sub [.dev, .counts] ps = true) (s : State) (ag : Agent) (g : Nat) (f : State → State) (h : Evolves ps s0 s) (hf : ∀ u, Evolves ps u (f u)) :
    Evolves ps s0 (s.granted ag g f) := by
  unfold State.granted
  split
  · split
    · exact h.trans (hf _)
    · exact State.wdeny_evolves (Part.of hl rfl) _ _ h
  · exact h.trans (hf _)

theorem State.rand_evolves {ps : List Part} {s0 : State} (hl : Part.sub [.freeCount] ps = true) (s : State)
    (h : Evolves ps s0 s) : Evolves ps s0 ((State.rand s)).2 := by
  refine h.trans ?_; clear h
  unfold State.rand
  try dsimp only
  repeat' first
    | (with_reducible first | exact .refl _ | assumption | rfl)
    | split
    | refine Evolves.raw ?_ rfl rfl rfl ⟨rfl, fun p => by cases p <;> first | exact .inl (Part.sub_mem hl (by decide)) | exact .inr rfl⟩
        (fun w => by simp only [State.wf, Mram.wf, Flow.wf, Flow.burst, Bool.and_eq_true] at w ⊢; simp only [w, twf_tset, twf_filter, twf_nil, and_self])

theorem State.free_evolves {ps : List Part} {s0 : State} (hl : Part.sub [.freeCount] ps = true) (s : State)
    (h : Evolves ps s0 s) : Evolves ps s0 ((State.free s)).2 := by
  refine h.trans ?_; clear h
  unfold State.free
  try dsimp only
  repeat' first
    | (with_reducible first | exact .refl _ | assumption | rfl)
    | split
    | refine Evolves.raw ?_ rfl rfl rfl ⟨rfl, fun p => by cases p <;> first | exact .inl (Part.sub_mem hl (by decide)) | exact .inr rfl⟩
        (fun w => by simp only [State.wf, Mram.wf, Flow.wf, Flow.burst, Bool.and_eq_true] at w ⊢; simp only [w, twf_tset, twf_filter, twf_nil, and_self])

theorem State.randBytes_evolves {ps : List Part} {s0 : State} (hl : Part.sub [.freeCount] ps = true) (s : State) (n : Nat) (h : Evolves ps s0 s) : Evolves ps s0 (s.randBytes n).2 := by
  induction n generalizing s with
  | zero => exact h
  | succ n ih => exact ih _ (State.rand_evolves (Part.of hl rfl) _ h)

theorem State.forEach_evolves {ps : List Part} {s0 : State} (hl : Part.sub [] ps = true) (s : State) (l : List Nat) (f : State → Nat → State)
    (h : Evolves ps s0 s) (h_f : ∀ u a, Evolves ps u (f u a)) : Evolves ps s0 (State.forEach s l f) := by
  refine h.trans ?_; clear h
  unfold State.forEach
  try dsimp only
  repeat' first
    | (with_reducible first | exact .refl _ | assumption | apply foldl_evolves | rfl)
    | split | intro _

theorem State.auditFill_evolves {ps : List Part} {s0 : State} (hl : Part.sub [.dev, .cores, .counts, .audit, .out, .pba] ps = true) (s : State)
    (h : Evolves ps s0 s) : Evolves ps s0 (State.auditFill s) := by
  refine h.trans ?_; clear h
  unfold State.auditFill
  try dsimp only
  repeat' first
    | (with_reducible first | exact .refl _ | assumption | apply State.irq_evolves | apply State.post_evolves | apply State.line_evolves | rfl)
    | exact Part.of hl rfl
    | split
    | refine Evolves.raw ?_ rfl rfl rfl ⟨rfl, fun p => by cases p <;> first | exact .inl (Part.sub_mem hl (by decide)) | exact .inr rfl⟩
        (fun w => by simp only [State.wf, Mram.wf, Flow.wf, Flow.burst, Bool.and_eq_true] at w ⊢; simp only [w, twf_tset, twf_filter, twf_nil, and_self])

theorem State.auditDeep_evolves {ps : List Part} {s0 : State} (hl : Part.sub [.cores, .audit] ps = true) (s : State)
    (h : Evolves ps s0 s) : Evolves ps s0 (State.auditDeep s) := by
  refine h.trans ?_; clear h
  unfold State.auditDeep
  try dsimp only
  repeat' first
    | (with_reducible first | exact .refl _ | assumption | apply State.line_evolves | rfl)
    | exact Part.of hl rfl
    | split
    | refine Evolves.raw ?_ rfl rfl rfl ⟨rfl, fun p => by cases p <;> first | exact .inl (Part.sub_mem hl (by decide)) | exact .inr rfl⟩
        (fun w => by simp only [State.wf, Mram.wf, Flow.wf, Flow.burst, Bool.and_eq_true] at w ⊢; simp only [w, twf_tset, twf_filter, twf_nil, and_self])

theorem State.auditAdd_evolves {ps : List Part} {s0 : State} (hl : Part.sub [.dev, .flow, .mram, .cores, .counts, .lpos, .audit, .out, .pba] ps = true) (s : State) (c : AuditClass) (e : AuditEntry)
    (h : Evolves ps s0 s) : Evolves ps s0 (State.auditAdd s c e) := by
  refine h.trans ?_; clear h
  unfold State.auditAdd
  try dsimp only
  repeat' first
    | (with_reducible first
        | exact .refl _ | assumption | apply State.tally_evolves | apply State.markChanged_evolves | apply State.irq_evolves
        | apply State.post_evolves | apply State.auditFill_evolves | apply State.auditDeep_evolves | apply State.burst_evolves | rfl)
    | exact Part.of hl rfl
    | split | intro _
    | refine Evolves.raw ?_ rfl rfl rfl ⟨rfl, fun p => by cases p <;> first | exact .inl (Part.sub_mem hl (by decide)) | exact .inr rfl⟩
        (fun w => by simp only [State.wf, Mram.wf, Flow.wf, Flow.burst, Bool.and_eq_true] at w ⊢; simp only [w, twf_tset, twf_filter, twf_nil, and_self])

theorem State.auditRoutine_evolves {ps : List Part} {s0 : State} (hl : Part.sub [.dev, .flow, .mram, .cores, .counts, .lpos, .audit, .out, .pba] ps = true) (s : State) (kind : Nat) (detail : List Nat)
    (h : Evolves ps s0 s) : Evolves ps s0 (State.auditRoutine s kind detail) := by
  refine h.trans ?_; clear h
  unfold State.auditRoutine
  try dsimp only
  repeat' first
    | (with_reducible first | exact .refl _ | assumption | apply State.auditAdd_evolves | rfl)
    | exact Part.of hl rfl
    | split

theorem State.auditHashNext_evolves {ps : List Part} {s0 : State} (hl : Part.sub [.mram, .cores, .lpos, .audit] ps = true) (s : State)
    (h : Evolves ps s0 s) : Evolves ps s0 (State.auditHashNext s) := by
  refine h.trans ?_; clear h
  unfold State.auditHashNext
  try dsimp only
  repeat' first
    | (with_reducible first | exact .refl _ | assumption | apply State.markChanged_evolves | apply State.auditDeep_evolves | rfl)
    | exact Part.of hl rfl
    | split
    | refine Evolves.raw ?_ rfl rfl rfl ⟨rfl, fun p => by cases p <;> first | exact .inl (Part.sub_mem hl (by decide)) | exact .inr rfl⟩
        (fun w => by simp only [State.wf, Mram.wf, Flow.wf, Flow.burst, Bool.and_eq_true] at w ⊢; simp only [w, twf_tset, twf_filter, twf_nil, and_self])

theorem State.freeSlots_evolves {ps : List Part} {s0 : State} (hl : Part.sub [.slots] ps = true) (s : State) (t : Nat) (l : List Nat)
    (h : Evolves ps s0 s) : Evolves ps s0 (State.freeSlots s t l) := by
  refine h.trans ?_; clear h
  unfold State.freeSlots
  try dsimp only
  repeat' first
    | (with_reducible first | exact .refl _ | assumption | apply State.modSlot_evolves | apply State.forEach_evolves | apply foldl_evolves | rfl)
    | exact Part.of hl rfl
    | split | intro _

theorem State.endEarly_evolves {ps : List Part} {s0 : State} (hl : Part.sub [.slots, .flow] ps = true) (s : State) (t status : Nat) (cause : Nat) (resp : List Byte)
    (h : Evolves ps s0 s) : Evolves ps s0 (State.endEarly s t status cause resp) := by
  refine h.trans ?_; clear h
  unfold State.endEarly
  try dsimp only
  repeat' first
    | (with_reducible first | exact .refl _ | assumption | apply State.setTxn_evolves | apply State.freeSlots_evolves | rfl)
    | exact Part.of hl rfl
    | split

theorem State.burst_evolves {ps : List Part} {s0 : State} (hl : Part.sub [.flow] ps = true) (s : State)
    (h : Evolves ps s0 s) : Evolves ps s0 (State.burst s) := by
  refine h.trans ?_; clear h
  unfold State.burst
  try dsimp only
  repeat' first
    | (with_reducible first | exact .refl _ | assumption | rfl)
    | split
    | refine Evolves.raw ?_ rfl rfl rfl ⟨rfl, fun p => by cases p <;> first | exact .inl (Part.sub_mem hl (by decide)) | exact .inr rfl⟩
        (fun w => by simp only [State.wf, Mram.wf, Flow.wf, Flow.burst, Bool.and_eq_true] at w ⊢; simp only [w, twf_tset, twf_filter, twf_nil, and_self])

theorem State.requestOutcome_evolves {ps : List Part} {s0 : State} (hl : Part.sub [.flow] ps = true) (s : State) (t : Nat) (o : Outcome)
    (h : Evolves ps s0 s) : Evolves ps s0 (State.requestOutcome s t o) := by
  refine h.trans ?_; clear h
  unfold State.requestOutcome
  try dsimp only
  repeat' first
    | (with_reducible first | exact .refl _ | assumption | apply State.modTxn_evolves | rfl)
    | exact Part.of hl rfl
    | split | intro _
    | refine Evolves.raw ?_ rfl rfl rfl ⟨rfl, fun p => by cases p <;> first | exact .inl (Part.sub_mem hl (by decide)) | exact .inr rfl⟩
        (fun w => by simp only [State.wf, Mram.wf, Flow.wf, Flow.burst, Bool.and_eq_true] at w ⊢; simp only [w, twf_tset, twf_filter, twf_nil, and_self])

theorem State.endWaiters_evolves {ps : List Part} {s0 : State} (hl : Part.sub [.slots, .flow] ps = true) (s : State) (i : Nat) (cause : Nat)
    (h : Evolves ps s0 s) : Evolves ps s0 (State.endWaiters s i cause) := by
  refine h.trans ?_; clear h
  unfold State.endWaiters
  try dsimp only
  repeat' first
    | (with_reducible first | exact .refl _ | assumption | apply State.forEach_evolves | apply State.endEarly_evolves | apply foldl_evolves | rfl)
    | exact Part.of hl rfl
    | split | intro _

theorem State.closeSession_evolves {ps : List Part} {s0 : State} (hl : Part.sub [.slots, .flow, .mram] ps = true) (s : State) (i : Nat)
    (h : Evolves ps s0 s) : Evolves ps s0 (State.closeSession s i) := by
  refine h.trans ?_; clear h
  unfold State.closeSession
  try dsimp only
  repeat' first
    | (with_reducible first
        | exact .refl _ | assumption | apply State.setSession_evolves | apply State.setGen_evolves | apply State.forEach_evolves
        | apply State.endEarly_evolves | apply foldl_evolves | rfl)
    | exact Part.of hl rfl
    | split | intro _

theorem State.closeAll_evolves {ps : List Part} {s0 : State} (hl : Part.sub [.slots, .flow, .mram] ps = true) (s : State) (onSet : Bool) (target : Nat)
    (h : Evolves ps s0 s) : Evolves ps s0 (State.closeAll s onSet target) := by
  refine h.trans ?_; clear h
  unfold State.closeAll
  try dsimp only
  repeat' first
    | (with_reducible first | exact .refl _ | assumption | apply State.forEach_evolves | apply State.closeSession_evolves | apply foldl_evolves | rfl)
    | exact Part.of hl rfl
    | split | intro _

theorem State.keepSet_evolves {ps : List Part} {s0 : State} (hl : Part.sub [.mram] ps = true) (s : State) (k : Nat)
    (h : Evolves ps s0 s) : Evolves ps s0 (State.keepSet s k) := by
  refine h.trans ?_; clear h
  unfold State.keepSet
  try dsimp only
  repeat' first
    | (with_reducible first | exact .refl _ | assumption | rfl)
    | split | intro _
    | refine Evolves.raw ?_ rfl rfl rfl ⟨rfl, fun p => by cases p <;> first | exact .inl (Part.sub_mem hl (by decide)) | exact .inr rfl⟩
        (fun w => by simp only [State.wf, Mram.wf, Flow.wf, Flow.burst, Bool.and_eq_true] at w ⊢; simp only [w, twf_tset, twf_filter, twf_nil, and_self])

theorem State.setStateShow_evolves {ps : List Part} {s0 : State} (hl : Part.sub [.slots, .dev, .flow, .mram, .counts, .out, .pba] ps = true) (s : State) (k : Nat)
    (h : Evolves ps s0 s) : Evolves ps s0 (State.setStateShow s k) := by
  refine h.trans ?_; clear h
  unfold State.setStateShow
  try dsimp only
  repeat' first
    | (with_reducible first
        | exact .refl _ | assumption | apply State.modSet_evolves | apply State.irq_evolves | apply State.post_evolves
        | apply State.closeAll_evolves | rfl)
    | exact Part.of hl rfl
    | split | intro _

theorem State.modRounds_evolves {ps : List Part} {s0 : State} (hl : Part.sub [.flow] ps = true) (s : State) (t : Nat) (f : Rounds → Rounds)
    (h : Evolves ps s0 s) : Evolves ps s0 (State.modRounds s t f) := by
  refine h.trans ?_; clear h
  unfold State.modRounds
  try dsimp only
  repeat' first
    | (with_reducible first | exact .refl _ | assumption | apply State.modTxn_evolves | rfl)
    | exact Part.of hl rfl
    | split | intro _

theorem State.auditSetPos_evolves {ps : List Part} {s0 : State} (hl : Part.sub [.dev, .flow, .mram, .cores, .counts, .lpos, .audit, .out, .pba] ps = true) (s : State) (k p : Nat)
    (h : Evolves ps s0 s) : Evolves ps s0 (State.auditSetPos s k p) := by
  refine h.trans ?_; clear h
  unfold State.auditSetPos
  try dsimp only
  repeat' first
    | (with_reducible first | exact .refl _ | assumption | apply State.auditRoutine_evolves | rfl)
    | exact Part.of hl rfl
    | split

theorem State.promote_evolves {ps : List Part} {s0 : State} (hl : Part.sub [.dev, .flow, .mram, .cores, .counts, .lpos, .audit, .out, .pba] ps = true) (s : State) (k old : Nat)
    (h : Evolves ps s0 s) : Evolves ps s0 (State.promote s k old) := by
  refine h.trans ?_; clear h
  unfold State.promote
  try dsimp only
  repeat' first
    | (with_reducible first
        | exact .refl _ | assumption | apply State.modSet_evolves | apply State.tally_evolves | apply State.post_evolves
        | apply State.modRounds_evolves | apply State.auditSetPos_evolves | rfl)
    | exact Part.of hl rfl
    | split | intro _

theorem State.posOut_evolves {ps : List Part} {s0 : State} (hl : Part.sub [.slots, .dev, .flow, .mram, .cores, .counts, .lpos, .audit, .out, .pba] ps = true) (s : State) (k p cause : Nat) (status : Nat) (qcause : Nat) (shown : Nat)
    (h : Evolves ps s0 s) : Evolves ps s0 (State.posOut s k p cause status qcause shown) := by
  refine h.trans ?_; clear h
  unfold State.posOut
  try dsimp only
  repeat' first
    | (with_reducible first
        | exact .refl _ | assumption | apply State.modSet_evolves | apply State.post_evolves | apply State.keepSet_evolves
        | apply State.setStateShow_evolves | apply State.modRounds_evolves | apply State.auditSetPos_evolves | apply State.promote_evolves
        | rfl)
    | exact Part.of hl rfl
    | split | intro _

theorem State.setsLeave_evolves {ps : List Part} {s0 : State} (hl : Part.sub [.slots, .dev, .flow, .mram, .cores, .counts, .lpos, .audit, .out, .pba] ps = true) (s : State) (i status qcause : Nat)
    (h : Evolves ps s0 s) : Evolves ps s0 (State.setsLeave s i status qcause) := by
  refine h.trans ?_; clear h
  unfold State.setsLeave
  try dsimp only
  repeat' first
    | (with_reducible first | exact .refl _ | assumption | apply State.posOut_evolves | apply foldl_evolves | rfl)
    | exact Part.of hl rfl
    | split | intro _

theorem State.setsReady_evolves {ps : List Part} {s0 : State} (hl : Part.sub [.slots, .dev, .flow, .mram, .cores, .counts, .lpos, .audit, .out, .pba] ps = true) (s : State) (i : Nat)
    (h : Evolves ps s0 s) : Evolves ps s0 (State.setsReady s i) := by
  refine h.trans ?_; clear h
  unfold State.setsReady
  try dsimp only
  repeat' first
    | (with_reducible first
        | exact .refl _ | assumption | apply State.modSet_evolves | apply State.setStateShow_evolves | apply State.auditSetPos_evolves
        | apply State.promote_evolves | apply foldl_evolves | rfl)
    | exact Part.of hl rfl
    | split | intro _

theorem State.lpost_evolves {ps : List Part} {s0 : State} (hl : Part.sub [.dev, .cores, .counts, .out, .pba] ps = true) (s : State) (typ source code : Nat) (data : List Word)
    (h : Evolves ps s0 s) : Evolves ps s0 (State.lpost s typ source code data) := by
  refine h.trans ?_; clear h
  unfold State.lpost
  try dsimp only
  repeat' first
    | (with_reducible first | exact .refl _ | assumption | apply State.post_evolves | apply State.line_evolves | rfl)
    | exact Part.of hl rfl
    | split

theorem State.takeBseq_evolves {ps : List Part} {s0 : State} (hl : Part.sub [.flow, .mram, .lpos] ps = true) (s : State) (k : Nat)
    (h : Evolves ps s0 s) : Evolves ps s0 ((State.takeBseq s k)).2 := by
  refine h.trans ?_; clear h
  unfold State.takeBseq
  try dsimp only
  repeat' first
    | (with_reducible first | exact .refl _ | assumption | apply State.persist_evolves | apply State.modLp_evolves | apply State.burst_evolves | rfl)
    | exact Part.of hl rfl
    | split | intro _
    | refine Evolves.raw ?_ rfl rfl rfl ⟨rfl, fun p => by cases p <;> first | exact .inl (Part.sub_mem hl (by decide)) | exact .inr rfl⟩
        (fun w => by simp only [State.wf, Mram.wf, Flow.wf, Flow.burst, Bool.and_eq_true] at w ⊢; simp only [w, twf_tset, twf_filter, twf_nil, and_self])

theorem State.postImage_evolves {ps : List Part} {s0 : State} (hl : Part.sub [.dev, .cores, .counts, .lpos, .out, .pba] ps = true) (s : State) (k : Nat) (st : ImgState) (lost written : Nat)
    (h : Evolves ps s0 s) : Evolves ps s0 (State.postImage s k st lost written) := by
  refine h.trans ?_; clear h
  unfold State.postImage
  try dsimp only
  repeat' first
    | (with_reducible first | exact .refl _ | assumption | apply State.modLp_evolves | apply State.irq_evolves | apply State.lpost_evolves | rfl)
    | exact Part.of hl rfl
    | split | intro _

theorem State.endLabels_evolves {ps : List Part} {s0 : State} (hl : Part.sub [.dev, .cores, .counts, .lpos, .out, .pba] ps = true) (s : State) (k : Nat) (st : ImgState)
    (h : Evolves ps s0 s) : Evolves ps s0 (State.endLabels s k st) := by
  refine h.trans ?_; clear h
  unfold State.endLabels
  try dsimp only
  repeat' first
    | (with_reducible first | exact .refl _ | assumption | apply State.modLp_evolves | apply State.postImage_evolves | rfl)
    | exact Part.of hl rfl
    | split | intro _

theorem State.endScan_evolves {ps : List Part} {s0 : State} (hl : Part.sub [.dev, .cores, .counts, .lpos, .out, .pba] ps = true) (s : State) (k lost : Nat)
    (h : Evolves ps s0 s) : Evolves ps s0 (State.endScan s k lost) := by
  refine h.trans ?_; clear h
  unfold State.endScan
  try dsimp only
  repeat' first
    | (with_reducible first | exact .refl _ | assumption | apply State.modLp_evolves | apply State.postImage_evolves | rfl)
    | exact Part.of hl rfl
    | split | intro _

theorem State.scanDone_evolves {ps : List Part} {s0 : State} (hl : Part.sub [.dev, .cores, .counts, .lpos, .out, .pba] ps = true) (s : State) (k : Nat)
    (h : Evolves ps s0 s) : Evolves ps s0 (State.scanDone s k) := by
  refine h.trans ?_; clear h
  unfold State.scanDone
  try dsimp only
  repeat' first
    | (with_reducible first | exact .refl _ | assumption | apply State.modLp_evolves | apply State.endScan_evolves | apply foldl_evolves | rfl)
    | exact Part.of hl rfl
    | split | intro _

theorem State.taskNext_evolves {ps : List Part} {s0 : State} (hl : Part.sub [.dev, .cores, .counts, .lpos, .out, .pba] ps = true) (s : State) (k : Nat)
    (h : Evolves ps s0 s) : Evolves ps s0 (State.taskNext s k) := by
  refine h.trans ?_; clear h
  unfold State.taskNext
  try dsimp only
  repeat' first
    | (with_reducible first
        | exact .refl _ | assumption | apply State.modLp_evolves | apply State.lpost_evolves | apply State.postImage_evolves
        | apply State.endLabels_evolves | apply State.endScan_evolves | apply State.scanDone_evolves | apply foldl_evolves | rfl)
    | exact Part.of hl rfl
    | split | intro _

theorem State.prepareFrom_evolves {ps : List Part} {s0 : State} (hl : Part.sub [.flow, .mram, .lpos] ps = true) (s : State) (k : Nat) (kind : MirrorKind) (n m : Nat) (h : Evolves ps s0 s) :
    Evolves ps s0 (State.prepareFrom s k kind n m).2.2 := by
  induction m generalizing s n with
  | zero => exact h
  | succ m ih => exact ih _ _ (State.takeBseq_evolves (Part.of hl rfl) _ _ h)

theorem State.mirrorRead_evolves {ps : List Part} {s0 : State} (hl : Part.sub [.lpos] ps = true) (s : State) (k : Nat) (c : MirrorCmd) (n : Nat) (b : List Byte)
    (h : Evolves ps s0 s) : Evolves ps s0 (State.mirrorRead s k c n b) := by
  refine h.trans ?_; clear h
  unfold State.mirrorRead
  try dsimp only
  repeat' first
    | (with_reducible first | exact .refl _ | assumption | apply State.modLp_evolves | rfl)
    | exact Part.of hl rfl
    | split | intro _

theorem State.exportBlock_evolves {ps : List Part} {s0 : State} (hl : Part.sub [.dev, .mram, .cores, .counts, .audit, .out, .pba] ps = true) (s : State) (i : Nat) (plain : List Byte) (h : Evolves ps s0 s) : Evolves ps s0 (State.exportBlock s i plain) := by
  refine h.trans (State.auditFill_evolves (Part.of hl rfl) _ ?_)
  refine Evolves.raw (Evolves.refl s) rfl rfl rfl ⟨rfl, fun p => by cases p <;> first | exact .inl (Part.sub_mem hl (by decide)) | exact .inr rfl⟩ (fun w => ?_)
  simp only [State.wf, Mram.wf, Flow.wf, Bool.and_eq_true] at w ⊢
  refine ⟨?_, w.2⟩
  simp only [w, true_and, and_true]
  exact twf_setAll false s.mram.exported _ _ _ _ (by simp only [w])

theorem State.mirrorWritten_evolves {ps : List Part} {s0 : State} (hl : Part.sub [.dev, .mram, .cores, .counts, .lpos, .audit, .out, .pba] ps = true) (s : State) (k : Nat) (c : MirrorCmd) (n : Nat) (plain : List Byte)
    (h : Evolves ps s0 s) : Evolves ps s0 (State.mirrorWritten s k c n plain) := by
  refine h.trans ?_; clear h
  unfold State.mirrorWritten
  try dsimp only
  repeat' first
    | (with_reducible first | exact .refl _ | assumption | apply State.modLp_evolves | apply State.exportBlock_evolves | rfl)
    | exact Part.of hl rfl
    | split | intro _

theorem State.mirrorEnd_evolves {ps : List Part} {s0 : State} (hl : Part.sub [.dev, .cores, .counts, .lpos, .out, .pba] ps = true) (s : State) (k : Nat) (c : MirrorCmd) (confirmed : Nat)
    (h : Evolves ps s0 s) : Evolves ps s0 (State.mirrorEnd s k c confirmed) := by
  refine h.trans ?_; clear h
  unfold State.mirrorEnd
  try dsimp only
  repeat' first
    | (with_reducible first | exact .refl _ | assumption | apply State.modLp_evolves | apply State.taskNext_evolves | rfl)
    | exact Part.of hl rfl
    | split | intro _

theorem State.setLp_evolves {ps : List Part} {s0 : State} (hl : Part.sub [.dev, .cores, .counts, .lpos, .loops, .out, .pba] ps = true) (s : State) (p a : Nat) (st : LPosState)
    (h : Evolves ps s0 s) : Evolves ps s0 (State.setLp s p a st) := by
  refine h.trans ?_; clear h
  unfold State.setLp
  try dsimp only
  repeat' first
    | (with_reducible first | exact .refl _ | assumption | apply State.modLp_evolves | apply State.failLoop_evolves | apply State.lpost_evolves | rfl)
    | exact Part.of hl rfl
    | split | intro _

theorem State.lcmd_evolves {ps : List Part} {s0 : State} (hl : Part.sub [.ports, .out] ps = true) (s : State) (p cmd : Nat) (arg : Word)
    (h : Evolves ps s0 s) : Evolves ps s0 (State.lcmd s p cmd arg) := by
  refine h.trans ?_; clear h
  unfold State.lcmd
  try dsimp only
  repeat' first
    | (with_reducible first | exact .refl _ | assumption | apply State.emit_evolves | apply State.modPort_evolves | rfl)
    | exact Part.of hl rfl
    | split | intro _

theorem State.lclk_evolves {ps : List Part} {s0 : State} (hl : Part.sub [.ports] ps = true) (s : State) (p n : Nat)
    (h : Evolves ps s0 s) : Evolves ps s0 (State.lclk s p n) := by
  refine h.trans ?_; clear h
  unfold State.lclk
  try dsimp only
  repeat' first
    | (with_reducible first | exact .refl _ | assumption | apply State.modPort_evolves | rfl)
    | exact Part.of hl rfl
    | split | intro _

theorem State.lcmd0_evolves {ps : List Part} {s0 : State} (hl : Part.sub [.ports, .out] ps = true) (s : State) (p cmd : Nat) (arg : Word)
    (h : Evolves ps s0 s) : Evolves ps s0 (State.lcmd0 s p cmd arg) := by
  refine h.trans ?_; clear h
  unfold State.lcmd0
  try dsimp only
  repeat' first
    | (with_reducible first | exact .refl _ | assumption | apply State.lcmd_evolves | apply State.lclk_evolves | rfl)
    | exact Part.of hl rfl
    | split

theorem State.switchCmd_evolves {ps : List Part} {s0 : State} (hl : Part.sub [.ports, .out] ps = true) (s : State) (p a n : Nat)
    (h : Evolves ps s0 s) : Evolves ps s0 (State.switchCmd s p a n) := by
  refine h.trans ?_; clear h
  unfold State.switchCmd
  try dsimp only
  repeat' first
    | (with_reducible first | exact .refl _ | assumption | apply State.lcmd_evolves | rfl)
    | exact Part.of hl rfl
    | split

theorem State.loadPos_evolves {ps : List Part} {s0 : State} (hl : Part.sub [.lpos] ps = true) (s : State) (k : Nat)
    (h : Evolves ps s0 s) : Evolves ps s0 (State.loadPos s k) := by
  refine h.trans ?_; clear h
  unfold State.loadPos
  try dsimp only
  repeat' first
    | (with_reducible first | exact .refl _ | assumption | apply State.modLp_evolves | rfl)
    | exact Part.of hl rfl
    | split | intro _

theorem State.atFree_evolves {ps : List Part} {s0 : State} (hl : Part.sub [.ports, .lpos] ps = true) (s : State) (p : Nat)
    (h : Evolves ps s0 s) : Evolves ps s0 (State.atFree s p) := by
  refine h.trans ?_; clear h
  unfold State.atFree
  try dsimp only
  repeat' first
    | (with_reducible first
        | exact .refl _ | assumption | apply State.modPort_evolves | apply State.forEach_evolves | apply State.loadPos_evolves
        | apply foldl_evolves | rfl)
    | exact Part.of hl rfl
    | split | intro _

theorem State.switchOn_evolves {ps : List Part} {s0 : State} (hl : Part.sub [.ports, .out] ps = true) (s : State) (p : Nat) (l : List Nat)
    (h : Evolves ps s0 s) : Evolves ps s0 (State.switchOn s p l) := by
  refine h.trans ?_; clear h
  unfold State.switchOn
  try dsimp only
  repeat' first
    | (with_reducible first | exact .refl _ | assumption | apply State.modPort_evolves | apply State.switchCmd_evolves | rfl)
    | exact Part.of hl rfl
    | split | intro _

theorem State.applyRate_evolves {ps : List Part} {s0 : State} (hl : Part.sub [.ports, .out] ps = true) (s : State) (p : Nat) (new : List Nat)
    (h : Evolves ps s0 s) : Evolves ps s0 (State.applyRate s p new) := by
  refine h.trans ?_; clear h
  unfold State.applyRate
  try dsimp only
  repeat' first
    | (with_reducible first | exact .refl _ | assumption | apply State.modPort_evolves | apply State.switchOn_evolves | rfl)
    | exact Part.of hl rfl
    | split | intro _

theorem State.switchEnd_evolves {ps : List Part} {s0 : State} (hl : Part.sub [.dev, .cores, .counts, .ports, .lpos, .loops, .out, .pba] ps = true) (s : State) (p : Nat) (ok : Bool)
    (h : Evolves ps s0 s) : Evolves ps s0 (State.switchEnd s p ok) := by
  refine h.trans ?_; clear h
  unfold State.switchEnd
  try dsimp only
  repeat' first
    | (with_reducible first
        | exact .refl _ | assumption | apply State.modPort_evolves | apply State.setLp_evolves | apply State.lcmd0_evolves
        | apply State.switchOn_evolves | rfl)
    | exact Part.of hl rfl
    | split | intro _

theorem State.switchNext_evolves {ps : List Part} {s0 : State} (hl : Part.sub [.dev, .cores, .counts, .ports, .lpos, .loops, .out, .pba] ps = true) (s : State) (p : Nat)
    (h : Evolves ps s0 s) : Evolves ps s0 (State.switchNext s p) := by
  refine h.trans ?_; clear h
  unfold State.switchNext
  try dsimp only
  repeat' first
    | (with_reducible first | exact .refl _ | assumption | apply State.modPort_evolves | apply State.switchCmd_evolves | apply State.switchEnd_evolves | rfl)
    | exact Part.of hl rfl
    | split | intro _

theorem State.switchAnswer_evolves {ps : List Part} {s0 : State} (hl : Part.sub [.dev, .cores, .counts, .ports, .lpos, .loops, .out, .pba] ps = true) (s : State) (p n : Nat) (r : LedgerResp)
    (h : Evolves ps s0 s) : Evolves ps s0 (State.switchAnswer s p n r) := by
  refine h.trans ?_; clear h
  unfold State.switchAnswer
  try dsimp only
  repeat' first
    | (with_reducible first
        | exact .refl _ | assumption | apply State.emit_evolves | apply State.modPort_evolves | apply State.switchEnd_evolves
        | apply State.switchNext_evolves | rfl)
    | exact Part.of hl rfl
    | split | intro _

theorem State.ledgerEnd_evolves {ps : List Part} {s0 : State} (hl : Part.sub [.dev, .flow, .cores, .counts, .ports, .lpos, .out, .pba] ps = true) (s : State) (p : Nat) (j : LJob) (status : Nat)
    (h : Evolves ps s0 s) : Evolves ps s0 (State.ledgerEnd s p j status) := by
  refine h.trans ?_; clear h
  unfold State.ledgerEnd
  try dsimp only
  repeat' first
    | (with_reducible first
        | exact .refl _ | assumption | apply State.tally_evolves | apply State.modPort_evolves | apply State.requestOutcome_evolves
        | apply State.mirrorEnd_evolves | apply State.lclk_evolves | apply State.atFree_evolves | rfl)
    | exact Part.of hl rfl
    | split | intro _

theorem State.ledgerStep_evolves {ps : List Part} {s0 : State} (hl : Part.sub [.ports] ps = true) (s : State) (p : Nat) (j : LJob) (st : LStep)
    (h : Evolves ps s0 s) : Evolves ps s0 (State.ledgerStep s p j st) := by
  refine h.trans ?_; clear h
  unfold State.ledgerStep
  try dsimp only
  repeat' first
    | (with_reducible first | exact .refl _ | assumption | apply State.modPort_evolves | rfl)
    | exact Part.of hl rfl
    | split | intro _

theorem State.ledgerData_evolves {ps : List Part} {s0 : State} (hl : Part.sub [.ports, .out] ps = true) (s : State) (p : Nat) (j : LJob)
    (h : Evolves ps s0 s) : Evolves ps s0 (State.ledgerData s p j) := by
  refine h.trans ?_; clear h
  unfold State.ledgerData
  try dsimp only
  repeat' first
    | (with_reducible first | exact .refl _ | assumption | apply State.lcmd_evolves | apply State.ledgerStep_evolves | rfl)
    | exact Part.of hl rfl
    | split

theorem State.ledgerSend_evolves {ps : List Part} {s0 : State} (hl : Part.sub [.ports, .out] ps = true) (s : State) (p : Nat) (j : LJob)
    (h : Evolves ps s0 s) : Evolves ps s0 (State.ledgerSend s p j) := by
  refine h.trans ?_; clear h
  unfold State.ledgerSend
  try dsimp only
  repeat' first
    | (with_reducible first | exact .refl _ | assumption | apply State.lcmd_evolves | apply State.ledgerStep_evolves | apply State.ledgerData_evolves | rfl)
    | exact Part.of hl rfl
    | split

theorem State.ledgerOut_evolves {ps : List Part} {s0 : State} (hl : Part.sub [.ports, .out] ps = true) (s : State) (p : Nat) (j : LJob)
    (h : Evolves ps s0 s) : Evolves ps s0 (State.ledgerOut s p j) := by
  refine h.trans ?_; clear h
  unfold State.ledgerOut
  try dsimp only
  repeat' first
    | (with_reducible first | exact .refl _ | assumption | apply State.emit_evolves | apply State.ledgerStep_evolves | rfl)
    | exact Part.of hl rfl
    | split

theorem State.beginJob_evolves {ps : List Part} {s0 : State} (hl : Part.sub [.ports, .out] ps = true) (s : State) (p : Nat) (j : LJob)
    (h : Evolves ps s0 s) : Evolves ps s0 (State.beginJob s p j) := by
  refine h.trans ?_; clear h
  unfold State.beginJob
  try dsimp only
  repeat' first
    | (with_reducible first | exact .refl _ | assumption | apply State.modPort_evolves | apply State.lcmd_evolves | apply State.ledgerStep_evolves | rfl)
    | exact Part.of hl rfl
    | split | intro _

theorem State.startLedger_evolves {ps : List Part} {s0 : State} (hl : Part.sub [.dev, .flow, .cores, .counts, .ports, .lpos, .out, .pba] ps = true) (s : State) (t p a : Nat)
    (h : Evolves ps s0 s) : Evolves ps s0 (State.startLedger s t p a) := by
  refine h.trans ?_; clear h
  unfold State.startLedger
  try dsimp only
  repeat' first
    | (with_reducible first | exact .refl _ | assumption | apply State.ledgerEnd_evolves | apply State.beginJob_evolves | rfl)
    | exact Part.of hl rfl
    | split

theorem State.startMirror_evolves {ps : List Part} {s0 : State} (hl : Part.sub [.flow, .mram, .ports, .lpos, .out] ps = true) (s : State) (p a : Nat) (c : MirrorCmd)
    (h : Evolves ps s0 s) : Evolves ps s0 (State.startMirror s p a c) := by
  refine h.trans ?_; clear h
  unfold State.startMirror
  try dsimp only
  repeat' first
    | (with_reducible first
        | exact .refl _ | assumption | apply State.modPort_evolves | apply State.modLp_evolves | apply State.prepareFrom_evolves
        | apply State.beginJob_evolves | rfl)
    | exact Part.of hl rfl
    | split | intro _

theorem State.ledgerConfirm_evolves {ps : List Part} {s0 : State} (hl : Part.sub [.dev, .mram, .cores, .counts, .lpos, .audit, .out, .pba] ps = true) (s : State) (p : Nat) (j : LJob) (data : List Byte)
    (h : Evolves ps s0 s) : Evolves ps s0 (State.ledgerConfirm s p j data) := by
  refine h.trans ?_; clear h
  unfold State.ledgerConfirm
  try dsimp only
  repeat' first
    | (with_reducible first | exact .refl _ | assumption | apply State.mirrorRead_evolves | apply State.mirrorWritten_evolves | rfl)
    | exact Part.of hl rfl
    | split

theorem State.ledgerFail_evolves {ps : List Part} {s0 : State} (hl : Part.sub [.dev, .flow, .cores, .counts, .ports, .lpos, .out, .pba] ps = true) (s : State) (p : Nat) (j : LJob) (status : Nat)
    (h : Evolves ps s0 s) : Evolves ps s0 (State.ledgerFail s p j status) := by
  refine h.trans ?_; clear h
  unfold State.ledgerFail
  try dsimp only
  repeat' first
    | (with_reducible first | exact .refl _ | assumption | apply State.lcmd_evolves | apply State.ledgerEnd_evolves | apply State.ledgerStep_evolves | rfl)
    | exact Part.of hl rfl
    | split

theorem State.recoverAgain_evolves {ps : List Part} {s0 : State} (hl : Part.sub [.dev, .flow, .cores, .counts, .ports, .lpos, .out, .pba] ps = true) (s : State) (p n : Nat) (j : LJob)
    (h : Evolves ps s0 s) : Evolves ps s0 (State.recoverAgain s p n j) := by
  refine h.trans ?_; clear h
  unfold State.recoverAgain
  try dsimp only
  repeat' first
    | (with_reducible first | exact .refl _ | assumption | apply State.lcmd_evolves | apply State.ledgerEnd_evolves | apply State.ledgerStep_evolves | rfl)
    | exact Part.of hl rfl
    | split

theorem State.ledgerNoResponse_evolves {ps : List Part} {s0 : State} (hl : Part.sub [.dev, .flow, .cores, .counts, .ports, .lpos, .out, .pba] ps = true) (s : State) (p : Nat) (j : LJob)
    (h : Evolves ps s0 s) : Evolves ps s0 (State.ledgerNoResponse s p j) := by
  refine h.trans ?_; clear h
  unfold State.ledgerNoResponse
  try dsimp only
  repeat' first
    | (with_reducible first
        | exact .refl _ | assumption | apply State.lcmd_evolves | apply State.ledgerEnd_evolves | apply State.ledgerStep_evolves
        | apply State.ledgerFail_evolves | apply State.recoverAgain_evolves | rfl)
    | exact Part.of hl rfl
    | split

theorem State.ledgerGood_evolves {ps : List Part} {s0 : State} (hl : Part.sub [.dev, .flow, .cores, .counts, .ports, .lpos, .out, .pba] ps = true) (s : State) (p : Nat) (j : LJob) (w : Word)
    (h : Evolves ps s0 s) : Evolves ps s0 (State.ledgerGood s p j w) := by
  refine h.trans ?_; clear h
  unfold State.ledgerGood
  try dsimp only
  repeat' first
    | (with_reducible first
        | exact .refl _ | assumption | apply State.tally_evolves | apply State.ledgerEnd_evolves | apply State.ledgerStep_evolves
        | apply State.ledgerData_evolves | apply State.ledgerSend_evolves | apply State.ledgerOut_evolves | apply State.recoverAgain_evolves
        | rfl)
    | exact Part.of hl rfl
    | split

theorem State.ledgerAnswer_evolves {ps : List Part} {s0 : State} (hl : Part.sub [.dev, .flow, .cores, .counts, .ports, .lpos, .out, .pba] ps = true) (s : State) (p : Nat) (j : LJob) (r : LedgerResp)
    (h : Evolves ps s0 s) : Evolves ps s0 (State.ledgerAnswer s p j r) := by
  refine h.trans ?_; clear h
  unfold State.ledgerAnswer
  try dsimp only
  repeat' first
    | (with_reducible first
        | exact .refl _ | assumption | apply State.ledgerEnd_evolves | apply State.ledgerNoResponse_evolves | apply State.ledgerGood_evolves
        | rfl)
    | exact Part.of hl rfl
    | split

theorem State.ledgerStop_evolves {ps : List Part} {s0 : State} (hl : Part.sub [.ports] ps = true) (s : State) (p : Nat)
    (h : Evolves ps s0 s) : Evolves ps s0 (State.ledgerStop s p) := by
  refine h.trans ?_; clear h
  unfold State.ledgerStop
  try dsimp only
  repeat' first
    | (with_reducible first | exact .refl _ | assumption | apply State.modPort_evolves | rfl)
    | exact Part.of hl rfl
    | split | intro _

theorem State.ledgerRemoved_evolves {ps : List Part} {s0 : State} (hl : Part.sub [.dev, .flow, .cores, .counts, .ports, .lpos, .out, .pba] ps = true) (s : State) (p : Nat) (j : LJob)
    (h : Evolves ps s0 s) : Evolves ps s0 (State.ledgerRemoved s p j) := by
  refine h.trans ?_; clear h
  unfold State.ledgerRemoved
  try dsimp only
  repeat' first
    | (with_reducible first
        | exact .refl _ | assumption | apply State.modPort_evolves | apply State.modLp_evolves | apply State.ledgerEnd_evolves
        | apply State.ledgerStop_evolves | rfl)
    | exact Part.of hl rfl
    | split | intro _

theorem State.timerIrq_evolves {ps : List Part} {s0 : State} (hl : Part.sub [.cores] ps = true) (s : State) (t bit : Nat)
    (h : Evolves ps s0 s) : Evolves ps s0 (State.timerIrq s t bit) := by
  refine h.trans ?_; clear h
  unfold State.timerIrq
  try dsimp only
  repeat' first
    | (with_reducible first | exact .refl _ | assumption | apply State.line_evolves | rfl)
    | exact Part.of hl rfl
    | split

theorem State.capture_evolves {ps : List Part} {s0 : State} (hl : Part.sub [.timers, .cores] ps = true) (s : State) (t src : Nat)
    (h : Evolves ps s0 s) : Evolves ps s0 (State.capture s t src) := by
  refine h.trans ?_; clear h
  unfold State.capture
  try dsimp only
  repeat' first
    | (with_reducible first | exact .refl _ | assumption | apply State.modTimer_evolves | apply State.timerIrq_evolves | rfl)
    | exact Part.of hl rfl
    | split | intro _

theorem State.captureSlot_evolves {ps : List Part} {s0 : State} (hl : Part.sub [.timers, .cores] ps = true) (s : State) (i src : Nat)
    (h : Evolves ps s0 s) : Evolves ps s0 (State.captureSlot s i src) := by
  refine h.trans ?_; clear h
  unfold State.captureSlot
  try dsimp only
  repeat' first
    | (with_reducible first | exact .refl _ | assumption | apply State.capture_evolves | rfl)
    | exact Part.of hl rfl
    | split

theorem State.captureAll_evolves {ps : List Part} {s0 : State} (hl : Part.sub [.timers, .cores] ps = true) (s : State) (src : Nat)
    (h : Evolves ps s0 s) : Evolves ps s0 (State.captureAll s src) := by
  refine h.trans ?_; clear h
  unfold State.captureAll
  try dsimp only
  repeat' first
    | (with_reducible first | exact .refl _ | assumption | apply State.forEach_evolves | apply State.capture_evolves | apply foldl_evolves | rfl)
    | exact Part.of hl rfl
    | split | intro _

theorem State.feed_timerEvents_evolves {ps : List Part} (hl : Part.sub [.timers, .cores] ps = true) (fuel : Nat) : (∀ (s : State) (t n : Nat), Evolves ps s (State.feed fuel s t n)) ∧
    ∀ (s : State) (t w : Nat) (c : Bool), Evolves ps s (State.timerEvents fuel s t w c) := by
  induction fuel with
  | zero => exact ⟨fun s _ _ => by unfold State.feed; exact Evolves.refl s, fun s _ _ _ => by unfold State.timerEvents; exact Evolves.refl s⟩
  | succ f ih =>
    refine ⟨fun s t n => ?_, fun s t w c => ?_⟩
    · unfold State.feed
      simp only
      generalize (!(_ && _) || _) = c
      cases c
      · exact (State.modTimer_evolves (Part.of hl rfl) _ _ _ (Evolves.refl s)).trans (ih.2 _ _ _ _)
      · exact Evolves.refl s
    · unfold State.timerEvents
      have hi := fun (u : State) (b : Nat) => State.timerIrq_evolves (Part.of hl rfl) u t b (Evolves.refl u)
      have h1 : Evolves ps s (if 0 < w then s.timerIrq t 7 else s) := Evolves.ite (fun _ => hi _ _) fun _ => Evolves.refl s
      have h2 : Evolves ps s (if c = true then State.timerIrq (if 0 < w then s.timerIrq t 7 else s) t 8 else if 0 < w then s.timerIrq t 7 else s) :=
        Evolves.ite (fun _ => h1.trans (hi _ _)) fun _ => h1
      refine State.forEach_evolves (Part.of hl rfl) _ _ _ h2 fun u i => ?_
      dsimp only
      repeat' first
        | with_reducible exact Evolves.refl _
        | with_reducible apply State.capture_evolves
        | with_reducible apply State.modTimer_evolves
        | exact ih.1 _ _ _
        | exact Part.of hl rfl
        | split

theorem State.feed_evolves {ps : List Part} {s0 : State} (hl : Part.sub [.timers, .cores] ps = true) (fuel : Nat) (s : State) (t n : Nat) (h : Evolves ps s0 s) : Evolves ps s0 (State.feed fuel s t n) :=
  h.trans ((State.feed_timerEvents_evolves (Part.of hl rfl) fuel).1 s t n)

theorem State.timerEvents_evolves {ps : List Part} {s0 : State} (hl : Part.sub [.timers, .cores] ps = true) (fuel : Nat) (s : State) (t w : Nat) (c : Bool) (h : Evolves ps s0 s) :
    Evolves ps s0 (State.timerEvents fuel s t w c) :=
  h.trans ((State.feed_timerEvents_evolves (Part.of hl rfl) fuel).2 s t w c)

theorem State.alarmTriggers_evolves {ps : List Part} {s0 : State} (hl : Part.sub [.timers, .cores] ps = true) (s : State) (n : Nat)
    (h : Evolves ps s0 s) : Evolves ps s0 (State.alarmTriggers s n) := by
  refine h.trans ?_; clear h
  unfold State.alarmTriggers
  try dsimp only
  repeat' first
    | (with_reducible first
        | exact .refl _ | assumption | apply State.modTimer_evolves | apply State.forEach_evolves | apply State.capture_evolves
        | apply foldl_evolves | rfl)
    | exact Part.of hl rfl
    | split | intro _

theorem State.tickTimer_evolves {ps : List Part} {s0 : State} (hl : Part.sub [.timers, .cores] ps = true) (s : State) (t n : Nat)
    (h : Evolves ps s0 s) : Evolves ps s0 (State.tickTimer s t n) := by
  refine h.trans ?_; clear h
  unfold State.tickTimer
  try dsimp only
  repeat' first
    | (with_reducible first | exact .refl _ | assumption | apply State.modTimer_evolves | apply State.timerEvents_evolves | rfl)
    | exact Part.of hl rfl
    | split | intro _

theorem State.timePass_evolves {ps : List Part} {s0 : State} (hl : Part.sub [.now, .timers, .tide, .cores] ps = true) (s : State) (k : Nat) (h : Evolves ps s0 s) : Evolves ps s0 (s.timePass k) := by
  refine h.trans ?_; clear h
  unfold State.timePass
  dsimp only
  refine foldl_evolves _ _ ?_ fun u a => State.tickTimer_evolves (Part.of hl rfl) _ _ _ (Evolves.refl u)
  exact ⟨⟨rfl, fun p => by cases p <;> first | exact .inl (Part.sub_mem hl (by decide)) | exact .inr rfl⟩, id, id, Nat.le_add_right _ _, List.prefix_refl _⟩

theorem State.wakeTimer_evolves {ps : List Part} {s0 : State} (hl : Part.sub [.timers, .cores] ps = true) (s : State) (t : Nat)
    (h : Evolves ps s0 s) : Evolves ps s0 (State.wakeTimer s t) := by
  refine h.trans ?_; clear h
  unfold State.wakeTimer
  try dsimp only
  repeat' first
    | (with_reducible first | exact .refl _ | assumption | apply State.modTimer_evolves | apply State.timerEvents_evolves | rfl)
    | exact Part.of hl rfl
    | split | intro _

theorem State.wakeTimers_evolves {ps : List Part} {s0 : State} (hl : Part.sub [.timers, .cores] ps = true) (s : State)
    (h : Evolves ps s0 s) : Evolves ps s0 (State.wakeTimers s) := by
  refine h.trans ?_; clear h
  unfold State.wakeTimers
  try dsimp only
  repeat' first
    | (with_reducible first | exact .refl _ | assumption | apply State.forEach_evolves | apply State.wakeTimer_evolves | apply foldl_evolves | rfl)
    | exact Part.of hl rfl
    | split | intro _

theorem State.pass_evolves {ps : List Part} {s0 : State} (hl : Part.sub [.now, .timers, .tide, .cores] ps = true) (f : Nat) (s : State) (d : Nat) (h : Evolves ps s0 s) : Evolves ps s0 (State.pass f s d) := by
  induction f generalizing s d with
  | zero => exact h
  | succ f ih =>
    unfold State.pass
    split
    · exact h
    · exact ih _ _ (State.timePass_evolves (Part.of hl rfl) _ _ (State.wakeTimers_evolves (Part.of hl rfl) _ h))

theorem State.elapse_evolves {ps : List Part} {s0 : State} (hl : Part.sub [.now, .timers, .tide, .cores] ps = true) (s : State) (d : Nat)
    (h : Evolves ps s0 s) : Evolves ps s0 (State.elapse s d) := by
  refine h.trans ?_; clear h
  unfold State.elapse
  try dsimp only
  repeat' first
    | (with_reducible first | exact .refl _ | assumption | apply State.pass_evolves | rfl)
    | exact Part.of hl rfl
    | split

theorem State.elapseTo_evolves {ps : List Part} {s0 : State} (hl : Part.sub [.now, .timers, .tide, .cores] ps = true) (s : State) (t : Nat)
    (h : Evolves ps s0 s) : Evolves ps s0 (State.elapseTo s t) := by
  refine h.trans ?_; clear h
  unfold State.elapseTo
  try dsimp only
  repeat' first
    | (with_reducible first | exact .refl _ | assumption | apply State.elapse_evolves | rfl)
    | exact Part.of hl rfl
    | split

theorem State.elapseSince_evolves {ps : List Part} {s0 : State} (hl : Part.sub [.now, .timers, .tide, .cores] ps = true) (s : State) (o : Option Nat) (d : Nat)
    (h : Evolves ps s0 s) : Evolves ps s0 (State.elapseSince s o d) := by
  refine h.trans ?_; clear h
  unfold State.elapseSince
  try dsimp only
  repeat' first
    | (with_reducible first | exact .refl _ | assumption | apply State.elapseTo_evolves | rfl)
    | exact Part.of hl rfl
    | split

theorem State.timErr_evolves {ps : List Part} {s0 : State} (hl : Part.sub [.timers] ps = true) (s : State) (t : Nat) (e : CmdErr)
    (h : Evolves ps s0 s) : Evolves ps s0 (State.timErr s t e) := by
  refine h.trans ?_; clear h
  unfold State.timErr
  try dsimp only
  repeat' first
    | (with_reducible first | exact .refl _ | assumption | apply State.modTimer_evolves | rfl)
    | exact Part.of hl rfl
    | split | intro _

theorem State.timerWrite_evolves {ps : List Part} {s0 : State} (hl : Part.sub [.timers, .dev, .counts] ps = true) (s : State) (ag : Agent) (t : Nat) (e : CmdErr) (f : State → State) (h : Evolves ps s0 s)
    (hf : ∀ u, Evolves ps u (f u)) : Evolves ps s0 (s.timerWrite ag t e f) := by
  unfold State.timerWrite
  refine State.granted_evolves (Part.of hl rfl) _ _ _ _ h fun u => ?_
  have he := fun c => State.timErr_evolves (Part.of hl rfl) u t c (Evolves.refl u)
  split
  · exact he _
  · split
    · exact (he _).trans (hf _)
    · exact he _

theorem State.timCtrl_evolves {ps : List Part} {s0 : State} (hl : Part.sub [.timers, .cores] ps = true) (s : State) (t : Nat) (w : Word)
    (h : Evolves ps s0 s) : Evolves ps s0 (State.timCtrl s t w) := by
  refine h.trans ?_; clear h
  unfold State.timCtrl
  try dsimp only
  repeat' first
    | (with_reducible first | exact .refl _ | assumption | apply State.modTimer_evolves | apply State.capture_evolves | rfl)
    | exact Part.of hl rfl
    | split | intro _

theorem State.writeTimCtrl_evolves {ps : List Part} {s0 : State} (hl : Part.sub [.timers, .dev, .cores, .counts] ps = true) (s : State) (ag : Agent) (t : Nat) (w : Word)
    (h : Evolves ps s0 s) : Evolves ps s0 (State.writeTimCtrl s ag t w) := by
  refine h.trans ?_; clear h
  unfold State.writeTimCtrl
  try dsimp only
  repeat' first
    | (with_reducible first | exact .refl _ | assumption | apply State.timerWrite_evolves | apply State.timCtrl_evolves | rfl)
    | exact Part.of hl rfl
    | split | intro _

theorem State.putCount_evolves {ps : List Part} {s0 : State} (hl : Part.sub [.timers] ps = true) (s : State) (t v : Nat)
    (h : Evolves ps s0 s) : Evolves ps s0 (State.putCount s t v) := by
  refine h.trans ?_; clear h
  unfold State.putCount
  try dsimp only
  repeat' first
    | (with_reducible first | exact .refl _ | assumption | apply State.modTimer_evolves | rfl)
    | exact Part.of hl rfl
    | split | intro _

theorem State.writeCount_evolves {ps : List Part} {s0 : State} (hl : Part.sub [.timers, .dev, .counts] ps = true) (s : State) (ag : Agent) (t : Nat) (v : Word)
    (h : Evolves ps s0 s) : Evolves ps s0 (State.writeCount s ag t v) := by
  refine h.trans ?_; clear h
  unfold State.writeCount
  try dsimp only
  repeat' first
    | (with_reducible first | exact .refl _ | assumption | apply State.modTimer_evolves | apply State.timerWrite_evolves | apply State.putCount_evolves | rfl)
    | exact Part.of hl rfl
    | split | intro _

theorem State.readCount_evolves {ps : List Part} {s0 : State} (hl : Part.sub [.latches] ps = true) (s : State) (ag : Agent) (t : Nat)
    (h : Evolves ps s0 s) : Evolves ps s0 ((State.readCount s ag t)).2 := by
  refine h.trans ?_; clear h
  unfold State.readCount
  try dsimp only
  repeat' first
    | (with_reducible first | exact .refl _ | assumption | apply State.setLatch_evolves | rfl)
    | exact Part.of hl rfl
    | split

theorem State.writeReload_evolves {ps : List Part} {s0 : State} (hl : Part.sub [.timers, .dev, .counts] ps = true) (s : State) (ag : Agent) (t : Nat) (v : Word)
    (h : Evolves ps s0 s) : Evolves ps s0 (State.writeReload s ag t v) := by
  refine h.trans ?_; clear h
  unfold State.writeReload
  try dsimp only
  repeat' first
    | (with_reducible first | exact .refl _ | assumption | apply State.modTimer_evolves | apply State.timerWrite_evolves | rfl)
    | exact Part.of hl rfl
    | split | intro _

theorem State.writeCmp_evolves {ps : List Part} {s0 : State} (hl : Part.sub [.timers, .dev, .counts] ps = true) (s : State) (ag : Agent) (t : Nat) (v : Word)
    (h : Evolves ps s0 s) : Evolves ps s0 (State.writeCmp s ag t v) := by
  refine h.trans ?_; clear h
  unfold State.writeCmp
  try dsimp only
  repeat' first
    | (with_reducible first | exact .refl _ | assumption | apply State.modTimer_evolves | apply State.timerWrite_evolves | rfl)
    | exact Part.of hl rfl
    | split | intro _

theorem State.readCapVal_evolves {ps : List Part} {s0 : State} (hl : Part.sub [.timers] ps = true) (s : State) (t : Nat)
    (h : Evolves ps s0 s) : Evolves ps s0 ((State.readCapVal s t)).2 := by
  refine h.trans ?_; clear h
  unfold State.readCapVal
  try dsimp only
  repeat' first
    | (with_reducible first | exact .refl _ | assumption | apply State.modTimer_evolves | rfl)
    | exact Part.of hl rfl
    | split | intro _

theorem State.writeTimCfg_evolves {ps : List Part} {s0 : State} (hl : Part.sub [.timers, .dev, .counts] ps = true) (s : State) (ag : Agent) (t : Nat) (w : Word)
    (h : Evolves ps s0 s) : Evolves ps s0 (State.writeTimCfg s ag t w) := by
  refine h.trans ?_; clear h
  unfold State.writeTimCfg
  try dsimp only
  repeat' first
    | (with_reducible first | exact .refl _ | assumption | apply State.modTimer_evolves | apply State.timerWrite_evolves | rfl)
    | exact Part.of hl rfl
    | split | intro _

theorem State.writeTimInterval_evolves {ps : List Part} {s0 : State} (hl : Part.sub [.timers, .dev, .counts] ps = true) (s : State) (ag : Agent) (t : Nat) (w : Word)
    (h : Evolves ps s0 s) : Evolves ps s0 (State.writeTimInterval s ag t w) := by
  refine h.trans ?_; clear h
  unfold State.writeTimInterval
  try dsimp only
  repeat' first
    | (with_reducible first | exact .refl _ | assumption | apply State.modTimer_evolves | apply State.timerWrite_evolves | rfl)
    | exact Part.of hl rfl
    | split | intro _

theorem State.writeTimStatus_evolves {ps : List Part} {s0 : State} (hl : Part.sub [.timers, .dev, .counts] ps = true) (s : State) (ag : Agent) (t : Nat) (w : Word)
    (h : Evolves ps s0 s) : Evolves ps s0 (State.writeTimStatus s ag t w) := by
  refine h.trans ?_; clear h
  unfold State.writeTimStatus
  try dsimp only
  repeat' first
    | (with_reducible first | exact .refl _ | assumption | apply State.modTimer_evolves | apply State.timerWrite_evolves | rfl)
    | exact Part.of hl rfl
    | split | intro _

theorem State.writeTimer_evolves {ps : List Part} {s0 : State} (hl : Part.sub [.timers, .dev, .cores, .counts] ps = true) (s : State) (ag : Agent) (t off : Nat) (w : Word)
    (h : Evolves ps s0 s) : Evolves ps s0 (State.writeTimer s ag t off w) := by
  refine h.trans ?_; clear h
  have hid : ∀ u, Evolves ps u (id u) := Evolves.refl
  unfold State.writeTimer
  repeat' first
    | with_reducible exact Evolves.refl _
    | exact State.timerWrite_evolves (Part.of hl rfl) _ _ _ _ _ (Evolves.refl _) hid
    | with_reducible apply State.writeTimCtrl_evolves
    | with_reducible apply State.writeTimCfg_evolves
    | with_reducible apply State.writeCount_evolves
    | with_reducible apply State.writeTimInterval_evolves
    | with_reducible apply State.writeTimStatus_evolves
    | with_reducible apply State.writeReload_evolves
    | with_reducible apply State.writeCmp_evolves
    | with_reducible apply State.timerWrite_evolves
    | with_reducible apply State.modTimer_evolves
    | exact Part.of hl rfl
    | split
    | intro _

theorem State.readTimer_evolves {ps : List Part} {s0 : State} (hl : Part.sub [.timers, .latches] ps = true) (s : State) (ag : Agent) (t off : Nat)
    (h : Evolves ps s0 s) : Evolves ps s0 ((State.readTimer s ag t off)).2 := by
  refine h.trans ?_; clear h
  unfold State.readTimer
  try dsimp only
  repeat' first
    | (with_reducible first | exact .refl _ | assumption | apply State.readCount_evolves | apply State.readCapVal_evolves | rfl)
    | exact Part.of hl rfl
    | split

theorem State.stopSlotTimers_evolves {ps : List Part} {s0 : State} (hl : Part.sub [.timers] ps = true) (s : State) (i : Nat)
    (h : Evolves ps s0 s) : Evolves ps s0 (State.stopSlotTimers s i) := by
  refine h.trans ?_; clear h
  unfold State.stopSlotTimers
  try dsimp only
  repeat' first
    | (with_reducible first | exact .refl _ | assumption | apply State.modTimer_evolves | apply State.forEach_evolves | apply foldl_evolves | rfl)
    | exact Part.of hl rfl
    | split | intro _

theorem State.armWait_evolves {ps : List Part} {s0 : State} (hl : Part.sub [.timers] ps = true) (s : State) (i n src presc limit : Nat) (count : Nat) (from_ : Option Nat)
    (h : Evolves ps s0 s) : Evolves ps s0 (State.armWait s i n src presc limit count from_) := by
  refine h.trans ?_; clear h
  unfold State.armWait
  try dsimp only
  repeat' first
    | (with_reducible first | exact .refl _ | assumption | apply State.modTimer_evolves | rfl)
    | exact Part.of hl rfl
    | split | intro _

theorem State.restartT0_evolves {ps : List Part} {s0 : State} (hl : Part.sub [.timers] ps = true) (s : State) (i : Nat)
    (h : Evolves ps s0 s) : Evolves ps s0 (State.restartT0 s i) := by
  refine h.trans ?_; clear h
  unfold State.restartT0
  try dsimp only
  repeat' first
    | (with_reducible first | exact .refl _ | assumption | apply State.modTimer_evolves | rfl)
    | exact Part.of hl rfl
    | split | intro _

theorem State.expireWait_evolves {ps : List Part} {s0 : State} (hl : Part.sub [.timers, .cores] ps = true) (s : State) (i n : Nat)
    (h : Evolves ps s0 s) : Evolves ps s0 (State.expireWait s i n) := by
  refine h.trans ?_; clear h
  unfold State.expireWait
  try dsimp only
  repeat' first
    | (with_reducible first | exact .refl _ | assumption | apply State.modTimer_evolves | apply State.timerEvents_evolves | rfl)
    | exact Part.of hl rfl
    | split | intro _

theorem State.endWait_evolves {ps : List Part} {s0 : State} (hl : Part.sub [.timers] ps = true) (s : State) (i n : Nat)
    (h : Evolves ps s0 s) : Evolves ps s0 (State.endWait s i n) := by
  refine h.trans ?_; clear h
  unfold State.endWait
  try dsimp only
  repeat' first
    | (with_reducible first | exact .refl _ | assumption | apply State.modTimer_evolves | rfl)
    | exact Part.of hl rfl
    | split | intro _

theorem State.tallyExch_evolves {ps : List Part} {s0 : State} (hl : Part.sub [.counts] ps = true) (s : State) (i : Nat) (y6 : OClass)
    (h : Evolves ps s0 s) : Evolves ps s0 (State.tallyExch s i y6) := by
  refine h.trans ?_; clear h
  unfold State.tallyExch
  try dsimp only
  repeat' first
    | (with_reducible first | exact .refl _ | assumption | apply State.tally_evolves | rfl)
    | exact Part.of hl rfl
    | split

theorem State.exchResult_evolves {ps : List Part} {s0 : State} (hl : Part.sub [.slots, .dev, .flow, .mram, .cores, .counts, .lpos, .audit, .out, .pba] ps = true) (s : State) (i : Nat) (m : MemberResp)
    (h : Evolves ps s0 s) : Evolves ps s0 (State.exchResult s i m) := by
  refine h.trans ?_; clear h
  unfold State.exchResult
  try dsimp only
  repeat' first
    | (with_reducible first
        | exact .refl _ | assumption | apply State.modSlot_evolves | apply State.endEarly_evolves | apply State.requestOutcome_evolves
        | apply State.modRounds_evolves | apply State.posOut_evolves | apply State.tallyExch_evolves | rfl)
    | exact Part.of hl rfl
    | split | intro _

theorem State.unwrapSsc_evolves {ps : List Part} {s0 : State} (hl : Part.sub [.flow] ps = true) (s : State) (t : Nat)
    (h : Evolves ps s0 s) : Evolves ps s0 (State.unwrapSsc s t) := by
  refine h.trans ?_; clear h
  unfold State.unwrapSsc
  try dsimp only
  repeat' first
    | (with_reducible first | exact .refl _ | assumption | apply State.setSession_evolves | rfl)
    | exact Part.of hl rfl
    | split

theorem State.xchgHwEnd_evolves {ps : List Part} {s0 : State} (hl : Part.sub [.slots, .cores] ps = true) (s : State) (i : Nat)
    (h : Evolves ps s0 s) : Evolves ps s0 (State.xchgHwEnd s i) := by
  refine h.trans ?_; clear h
  unfold State.xchgHwEnd
  try dsimp only
  repeat' first
    | (with_reducible first | exact .refl _ | assumption | apply State.modSlot_evolves | apply State.line_evolves | rfl)
    | exact Part.of hl rfl
    | split | intro _

theorem State.handOver_evolves {ps : List Part} {s0 : State} (hl : Part.sub [.slots, .cores] ps = true) (s : State) (i : Nat) (cmd : List Byte)
    (h : Evolves ps s0 s) : Evolves ps s0 (State.handOver s i cmd) := by
  refine h.trans ?_; clear h
  unfold State.handOver
  try dsimp only
  repeat' first
    | (with_reducible first | exact .refl _ | assumption | apply State.modSlot_evolves | apply State.line_evolves | rfl)
    | exact Part.of hl rfl
    | split | intro _

theorem State.forceEnd_evolves {ps : List Part} {s0 : State} (hl : Part.sub [.slots, .dev, .flow, .mram, .cores, .counts, .lpos, .audit, .out, .pba] ps = true) (s : State) (i status cause : Nat)
    (h : Evolves ps s0 s) : Evolves ps s0 (State.forceEnd s i status cause) := by
  refine h.trans ?_; clear h
  unfold State.forceEnd
  try dsimp only
  repeat' first
    | (with_reducible first
        | exact .refl _ | assumption | apply State.modSlot_evolves | apply State.exchResult_evolves | apply State.unwrapSsc_evolves
        | apply State.xchgHwEnd_evolves | rfl)
    | exact Part.of hl rfl
    | split | intro _

theorem State.leaveService_evolves {ps : List Part} {s0 : State} (hl : Part.sub [.slots, .dev, .flow, .mram, .cores, .counts, .lpos, .audit, .out, .pba] ps = true) (s : State) (i : Nat) (down : Bool) (status cause : Nat)
    (h : Evolves ps s0 s) : Evolves ps s0 (State.leaveService s i down status cause) := by
  refine h.trans ?_; clear h
  unfold State.leaveService
  try dsimp only
  repeat' first
    | (with_reducible first
        | exact .refl _ | assumption | apply State.modSlot_evolves | apply State.endWaiters_evolves | apply State.closeAll_evolves
        | apply State.setsLeave_evolves | rfl)
    | exact Part.of hl rfl
    | split | intro _

theorem State.warmReset_evolves {ps : List Part} {s0 : State} (hl : Part.sub [.slots, .timers, .dev, .flow, .mram, .cores, .counts, .lpos, .audit, .out, .pba] ps = true) (s : State) (i : Nat)
    (h : Evolves ps s0 s) : Evolves ps s0 (State.warmReset s i) := by
  refine h.trans ?_; clear h
  unfold State.warmReset
  try dsimp only
  repeat' first
    | (with_reducible first | exact .refl _ | assumption | apply State.modSlot_evolves | apply State.endWait_evolves | apply State.leaveService_evolves | rfl)
    | exact Part.of hl rfl
    | split | intro _

theorem State.warmStart_evolves {ps : List Part} {s0 : State} (hl : Part.sub [.slots, .timers, .dev, .flow, .mram, .cores, .counts, .lpos, .audit, .out, .pba] ps = true) (s : State) (i : Nat)
    (h : Evolves ps s0 s) : Evolves ps s0 (State.warmStart s i) := by
  refine h.trans ?_; clear h
  unfold State.warmStart
  try dsimp only
  repeat' first
    | (with_reducible first | exact .refl _ | assumption | apply State.modSlot_evolves | apply State.warmReset_evolves | rfl)
    | exact Part.of hl rfl
    | split | intro _

theorem State.beginDeact_evolves {ps : List Part} {s0 : State} (hl : Part.sub [.slots, .timers, .dev, .flow, .mram, .cores, .counts, .lpos, .audit, .out, .pba] ps = true) (s : State) (i : Nat) (park : Bool)
    (h : Evolves ps s0 s) : Evolves ps s0 (State.beginDeact s i park) := by
  refine h.trans ?_; clear h
  unfold State.beginDeact
  try dsimp only
  repeat' first
    | (with_reducible first
        | exact .refl _ | assumption | apply State.modSlot_evolves | apply State.endWaiters_evolves | apply State.endWait_evolves
        | apply State.forceEnd_evolves | apply State.leaveService_evolves | rfl)
    | exact Part.of hl rfl
    | split | intro _

theorem State.actPend_evolves {ps : List Part} {s0 : State} (hl : Part.sub [.slots, .timers, .dev, .flow, .mram, .cores, .counts, .lpos, .audit, .out, .pba] ps = true) (s : State) (i : Nat)
    (h : Evolves ps s0 s) : Evolves ps s0 (State.actPend s i) := by
  refine h.trans ?_; clear h
  unfold State.actPend
  try dsimp only
  repeat' first
    | (with_reducible first | exact .refl _ | assumption | apply State.warmStart_evolves | apply State.beginDeact_evolves | rfl)
    | exact Part.of hl rfl
    | split

theorem State.actPendAll_evolves {ps : List Part} {s0 : State} (hl : Part.sub [.slots, .timers, .dev, .flow, .mram, .cores, .counts, .lpos, .audit, .out, .pba] ps = true) (s : State)
    (h : Evolves ps s0 s) : Evolves ps s0 (State.actPendAll s) := by
  refine h.trans ?_; clear h
  unfold State.actPendAll
  try dsimp only
  repeat' first
    | (with_reducible first | exact .refl _ | assumption | apply State.forEach_evolves | apply State.actPend_evolves | apply foldl_evolves | rfl)
    | exact Part.of hl rfl
    | split | intro _

theorem State.endExchange_evolves {ps : List Part} {s0 : State} (hl : Part.sub [.slots, .timers, .dev, .flow, .mram, .cores, .telemetry, .counts, .lpos, .audit, .out, .pba] ps = true) (s : State) (i code : Nat) (m : MemberResp) (warm : Bool)
    (h : Evolves ps s0 s) : Evolves ps s0 (State.endExchange s i code m warm) := by
  refine h.trans ?_; clear h
  unfold State.endExchange
  try dsimp only
  repeat' first
    | (with_reducible first
        | exact .refl _ | assumption | apply State.modSlot_evolves | apply State.bump_evolves | apply State.setsReady_evolves
        | apply State.endWait_evolves | apply State.exchResult_evolves | apply State.xchgHwEnd_evolves | apply State.warmReset_evolves
        | apply State.beginDeact_evolves | apply State.actPend_evolves | rfl)
    | exact Part.of hl rfl
    | split | intro _

theorem State.endInDoubt_evolves {ps : List Part} {s0 : State} (hl : Part.sub [.slots, .timers, .dev, .flow, .mram, .cores, .telemetry, .counts, .lpos, .audit, .out, .pba] ps = true) (s : State) (i code : Nat) (warm : Bool)
    (h : Evolves ps s0 s) : Evolves ps s0 (State.endInDoubt s i code warm) := by
  refine h.trans ?_; clear h
  unfold State.endInDoubt
  try dsimp only
  repeat' first
    | (with_reducible first | exact .refl _ | assumption | apply State.endExchange_evolves | rfl)
    | exact Part.of hl rfl
    | split

theorem State.askActivation_evolves {ps : List Part} {s0 : State} (hl : Part.sub [.slots] ps = true) (s : State) (i : Nat)
    (h : Evolves ps s0 s) : Evolves ps s0 (State.askActivation s i) := by
  refine h.trans ?_; clear h
  unfold State.askActivation
  try dsimp only
  repeat' first
    | (with_reducible first | exact .refl _ | assumption | apply State.modSlot_evolves | rfl)
    | exact Part.of hl rfl
    | split | intro _

theorem State.failActivation_evolves {ps : List Part} {s0 : State} (hl : Part.sub [.slots, .timers, .dev, .flow, .mram, .cores, .counts, .lpos, .audit, .out, .pba] ps = true) (s : State) (i result : Nat)
    (h : Evolves ps s0 s) : Evolves ps s0 (State.failActivation s i result) := by
  refine h.trans ?_; clear h
  unfold State.failActivation
  try dsimp only
  repeat' first
    | (with_reducible first | exact .refl _ | assumption | apply State.modSlot_evolves | apply State.beginDeact_evolves | rfl)
    | exact Part.of hl rfl
    | split | intro _

theorem State.classChange_evolves {ps : List Part} {s0 : State} (hl : Part.sub [.slots, .timers] ps = true) (s : State) (i : Nat) (c : SClass)
    (h : Evolves ps s0 s) : Evolves ps s0 (State.classChange s i c) := by
  refine h.trans ?_; clear h
  unfold State.classChange
  try dsimp only
  repeat' first
    | (with_reducible first | exact .refl _ | assumption | apply State.modSlot_evolves | apply State.endWait_evolves | rfl)
    | exact Part.of hl rfl
    | split | intro _

theorem State.atrFail_evolves {ps : List Part} {s0 : State} (hl : Part.sub [.slots, .timers, .dev, .flow, .mram, .cores, .counts, .lpos, .audit, .out, .pba] ps = true) (s : State) (i : Nat) (noTs : Bool)
    (h : Evolves ps s0 s) : Evolves ps s0 (State.atrFail s i noTs) := by
  refine h.trans ?_; clear h
  unfold State.atrFail
  try dsimp only
  repeat' first
    | (with_reducible first
        | exact .refl _ | assumption | apply State.modSlot_evolves | apply State.warmReset_evolves | apply State.failActivation_evolves
        | apply State.classChange_evolves | rfl)
    | exact Part.of hl rfl
    | split | intro _

theorem State.atrError_evolves {ps : List Part} {s0 : State} (hl : Part.sub [.slots, .timers, .dev, .flow, .mram, .cores, .counts, .lpos, .audit, .out, .pba] ps = true) (s : State) (i code : Nat)
    (h : Evolves ps s0 s) : Evolves ps s0 (State.atrError s i code) := by
  refine h.trans ?_; clear h
  unfold State.atrError
  try dsimp only
  repeat' first
    | (with_reducible first | exact .refl _ | assumption | apply State.modSlot_evolves | apply State.atrFail_evolves | rfl)
    | exact Part.of hl rfl
    | split | intro _

theorem State.enterReady_evolves {ps : List Part} {s0 : State} (hl : Part.sub [.slots, .timers, .dev, .flow, .mram, .cores, .counts, .lpos, .audit, .out, .pba] ps = true) (s : State) (i : Nat)
    (h : Evolves ps s0 s) : Evolves ps s0 (State.enterReady s i) := by
  refine h.trans ?_; clear h
  unfold State.enterReady
  try dsimp only
  repeat' first
    | (with_reducible first
        | exact .refl _ | assumption | apply State.modSlot_evolves | apply State.setsReady_evolves | apply State.endWait_evolves
        | apply State.actPend_evolves | rfl)
    | exact Part.of hl rfl
    | split | intro _

theorem State.negFail_evolves {ps : List Part} {s0 : State} (hl : Part.sub [.slots, .timers, .dev, .flow, .mram, .cores, .counts, .lpos, .audit, .out, .pba] ps = true) (s : State) (i r : Nat)
    (h : Evolves ps s0 s) : Evolves ps s0 (State.negFail s i r) := by
  refine h.trans ?_; clear h
  unfold State.negFail
  try dsimp only
  repeat' first
    | (with_reducible first | exact .refl _ | assumption | apply State.modSlot_evolves | apply State.failActivation_evolves | rfl)
    | exact Part.of hl rfl
    | split | intro _

theorem State.negReset_evolves {ps : List Part} {s0 : State} (hl : Part.sub [.slots, .timers, .dev, .flow, .mram, .cores, .counts, .lpos, .audit, .out, .pba] ps = true) (s : State) (i r : Nat)
    (h : Evolves ps s0 s) : Evolves ps s0 (State.negReset s i r) := by
  refine h.trans ?_; clear h
  unfold State.negReset
  try dsimp only
  repeat' first
    | (with_reducible first | exact .refl _ | assumption | apply State.modSlot_evolves | apply State.warmReset_evolves | apply State.negFail_evolves | rfl)
    | exact Part.of hl rfl
    | split | intro _

theorem State.settle_evolves {ps : List Part} {s0 : State} (hl : Part.sub [.slots, .timers, .dev, .flow, .mram, .cores, .counts, .lpos, .audit, .out, .pba] ps = true) (s : State) (i fi di t r : Nat)
    (h : Evolves ps s0 s) : Evolves ps s0 (State.settle s i fi di t r) := by
  refine h.trans ?_; clear h
  unfold State.settle
  try dsimp only
  repeat' first
    | (with_reducible first | exact .refl _ | assumption | apply State.modSlot_evolves | apply State.pend_evolves | apply State.enterReady_evolves | rfl)
    | exact Part.of hl rfl
    | split | intro _

theorem State.negotiate_evolves {ps : List Part} {s0 : State} (hl : Part.sub [.slots, .timers, .dev, .flow, .mram, .cores, .counts, .lpos, .audit, .out, .pba] ps = true) (s : State) (i : Nat)
    (h : Evolves ps s0 s) : Evolves ps s0 (State.negotiate s i) := by
  refine h.trans ?_; clear h
  unfold State.negotiate
  try dsimp only
  repeat' first
    | (with_reducible first
        | exact .refl _ | assumption | apply State.modSlot_evolves | apply State.negFail_evolves | apply State.negReset_evolves
        | apply State.settle_evolves | rfl)
    | exact Part.of hl rfl
    | split | intro _

theorem State.acceptAtr_evolves {ps : List Part} {s0 : State} (hl : Part.sub [.slots, .timers, .dev, .flow, .mram, .cores, .counts, .lpos, .audit, .out, .pba] ps = true) (s : State) (i : Nat)
    (h : Evolves ps s0 s) : Evolves ps s0 (State.acceptAtr s i) := by
  refine h.trans ?_; clear h
  unfold State.acceptAtr
  try dsimp only
  repeat' first
    | (with_reducible first | exact .refl _ | assumption | apply State.modSlot_evolves | apply State.endWait_evolves | apply State.negotiate_evolves | rfl)
    | exact Part.of hl rfl
    | split | intro _

theorem State.judgeAtr_evolves {ps : List Part} {s0 : State} (hl : Part.sub [.slots, .timers, .dev, .flow, .mram, .cores, .counts, .lpos, .audit, .out, .pba] ps = true) (s : State) (i : Nat)
    (h : Evolves ps s0 s) : Evolves ps s0 (State.judgeAtr s i) := by
  refine h.trans ?_; clear h
  unfold State.judgeAtr
  try dsimp only
  repeat' first
    | (with_reducible first
        | exact .refl _ | assumption | apply State.failActivation_evolves | apply State.classChange_evolves | apply State.acceptAtr_evolves
        | rfl)
    | exact Part.of hl rfl
    | split | intro _

theorem State.atrChar_evolves {ps : List Part} {s0 : State} (hl : Part.sub [.slots, .timers, .dev, .flow, .mram, .cores, .counts, .lpos, .audit, .out, .pba] ps = true) (s : State) (i : Nat) (data : Byte) (bad : Nat)
    (h : Evolves ps s0 s) : Evolves ps s0 (State.atrChar s i data bad) := by
  refine h.trans ?_; clear h
  unfold State.atrChar
  try dsimp only
  repeat' first
    | (with_reducible first | exact .refl _ | assumption | apply State.modSlot_evolves | apply State.atrError_evolves | apply State.judgeAtr_evolves | rfl)
    | exact Part.of hl rfl
    | split | intro _

theorem State.responseDone_evolves {ps : List Part} {s0 : State} (hl : Part.sub [.slots, .timers, .dev, .flow, .mram, .cores, .telemetry, .counts, .lpos, .audit, .crypto, .out, .pba] ps = true) (s : State) (i : Nat) (r : List Byte)
    (h : Evolves ps s0 s) : Evolves ps s0 (State.responseDone s i r) := by
  refine h.trans ?_; clear h
  unfold State.responseDone
  try dsimp only
  repeat' first
    | (with_reducible first
        | exact .refl _ | assumption | apply State.modSlot_evolves | apply State.modTxn_evolves | apply State.askLane_evolves
        | apply State.endWait_evolves | apply State.endExchange_evolves | rfl)
    | exact Part.of hl rfl
    | split | intro _

theorem State.procByte_evolves {ps : List Part} {s0 : State} (hl : Part.sub [.slots, .timers, .dev, .flow, .mram, .cores, .telemetry, .counts, .lpos, .audit, .out, .pba] ps = true) (s : State) (i : Nat) (b : Byte)
    (h : Evolves ps s0 s) : Evolves ps s0 (State.procByte s i b) := by
  refine h.trans ?_; clear h
  unfold State.procByte
  try dsimp only
  repeat' first
    | (with_reducible first | exact .refl _ | assumption | apply State.modSlot_evolves | apply State.bump_evolves | apply State.endInDoubt_evolves | rfl)
    | exact Part.of hl rfl
    | split | intro _

theorem State.tpduEnd_evolves {ps : List Part} {s0 : State} (hl : Part.sub [.slots, .timers, .dev, .flow, .mram, .cores, .telemetry, .counts, .lpos, .audit, .crypto, .out, .pba] ps = true) (s : State) (i : Nat) (sw2 : Byte)
    (h : Evolves ps s0 s) : Evolves ps s0 (State.tpduEnd s i sw2) := by
  refine h.trans ?_; clear h
  unfold State.tpduEnd
  try dsimp only
  repeat' first
    | (with_reducible first | exact .refl _ | assumption | apply State.modSlot_evolves | apply State.bump_evolves | apply State.responseDone_evolves | rfl)
    | exact Part.of hl rfl
    | split | intro _

theorem State.t0Char_evolves {ps : List Part} {s0 : State} (hl : Part.sub [.slots, .timers, .dev, .flow, .mram, .cores, .telemetry, .counts, .lpos, .audit, .out, .pba] ps = true) (s : State) (i : Nat) (c : RxChar)
    (h : Evolves ps s0 s) : Evolves ps s0 (State.t0Char s i c) := by
  refine h.trans ?_; clear h
  unfold State.t0Char
  try dsimp only
  repeat' first
    | (with_reducible first | exact .refl _ | assumption | apply State.modSlot_evolves | apply State.endInDoubt_evolves | rfl)
    | exact Part.of hl rfl
    | split | intro _

theorem State.startResync_evolves {ps : List Part} {s0 : State} (hl : Part.sub [.slots, .timers, .dev, .flow, .mram, .cores, .telemetry, .counts, .lpos, .audit, .out, .pba] ps = true) (s : State) (i : Nat)
    (h : Evolves ps s0 s) : Evolves ps s0 (State.startResync s i) := by
  refine h.trans ?_; clear h
  unfold State.startResync
  try dsimp only
  repeat' first
    | (with_reducible first | exact .refl _ | assumption | apply State.modSlot_evolves | apply State.bump_evolves | apply State.endInDoubt_evolves | rfl)
    | exact Part.of hl rfl
    | split | intro _

theorem State.t1Attempt_evolves {ps : List Part} {s0 : State} (hl : Part.sub [.slots, .timers, .dev, .flow, .mram, .cores, .telemetry, .counts, .lpos, .audit, .out, .pba] ps = true) (s : State) (i : Nat) (f : State → State) (h : Evolves ps s0 s) (hf : ∀ u, Evolves ps u (f u)) :
    Evolves ps s0 (s.t1Attempt i f) := by
  unfold State.t1Attempt
  dsimp only
  split
  · exact State.startResync_evolves (Part.of hl rfl) _ _ h
  · exact (State.modSlot_evolves (Part.of hl rfl) _ _ _ h).trans (hf _)

theorem State.t1Fail_evolves {ps : List Part} {s0 : State} (hl : Part.sub [.slots, .timers, .dev, .flow, .mram, .cores, .telemetry, .counts, .lpos, .audit, .out, .pba] ps = true) (s : State) (i code : Nat)
    (h : Evolves ps s0 s) : Evolves ps s0 (State.t1Fail s i code) := by
  refine h.trans ?_; clear h
  unfold State.t1Fail
  try dsimp only
  repeat' first
    | (with_reducible first
        | exact .refl _ | assumption | apply State.modSlot_evolves | apply State.bump_evolves | apply State.negReset_evolves
        | apply State.startResync_evolves | apply State.t1Attempt_evolves | rfl)
    | exact Part.of hl rfl
    | split | intro _

theorem State.t1I_evolves {ps : List Part} {s0 : State} (hl : Part.sub [.slots, .timers, .dev, .flow, .mram, .cores, .telemetry, .counts, .lpos, .audit, .crypto, .out, .pba] ps = true) (s : State) (i : Nat) (pcb : Byte) (inf : List Byte)
    (h : Evolves ps s0 s) : Evolves ps s0 (State.t1I s i pcb inf) := by
  refine h.trans ?_; clear h
  unfold State.t1I
  try dsimp only
  repeat' first
    | (with_reducible first
        | exact .refl _ | assumption | apply State.modSlot_evolves | apply State.bump_evolves | apply State.endInDoubt_evolves
        | apply State.responseDone_evolves | apply State.t1Fail_evolves | rfl)
    | exact Part.of hl rfl
    | split | intro _

theorem State.t1R_evolves {ps : List Part} {s0 : State} (hl : Part.sub [.slots, .timers, .dev, .flow, .mram, .cores, .telemetry, .counts, .lpos, .audit, .out, .pba] ps = true) (s : State) (i : Nat) (pcb : Byte)
    (h : Evolves ps s0 s) : Evolves ps s0 (State.t1R s i pcb) := by
  refine h.trans ?_; clear h
  unfold State.t1R
  try dsimp only
  repeat' first
    | (with_reducible first
        | exact .refl _ | assumption | apply State.modSlot_evolves | apply State.bump_evolves | apply State.t1Attempt_evolves
        | apply State.t1Fail_evolves | rfl)
    | exact Part.of hl rfl
    | split | intro _

theorem State.t1SAccepted_evolves {ps : List Part} {s0 : State} (hl : Part.sub [.slots, .timers, .dev, .flow, .mram, .cores, .telemetry, .counts, .lpos, .audit, .out, .pba] ps = true) (s : State) (i : Nat)
    (h : Evolves ps s0 s) : Evolves ps s0 (State.t1SAccepted s i) := by
  refine h.trans ?_; clear h
  unfold State.t1SAccepted
  try dsimp only
  repeat' first
    | (with_reducible first | exact .refl _ | assumption | apply State.modSlot_evolves | apply State.endInDoubt_evolves | apply State.enterReady_evolves | rfl)
    | exact Part.of hl rfl
    | split | intro _

theorem State.t1S_evolves {ps : List Part} {s0 : State} (hl : Part.sub [.slots, .timers, .dev, .flow, .mram, .cores, .telemetry, .counts, .lpos, .audit, .out, .pba] ps = true) (s : State) (i : Nat) (pcb : Byte) (inf : List Byte)
    (h : Evolves ps s0 s) : Evolves ps s0 (State.t1S s i pcb inf) := by
  refine h.trans ?_; clear h
  unfold State.t1S
  try dsimp only
  repeat' first
    | (with_reducible first
        | exact .refl _ | assumption | apply State.modSlot_evolves | apply State.bump_evolves | apply State.t1Fail_evolves
        | apply State.t1SAccepted_evolves | rfl)
    | exact Part.of hl rfl
    | split | intro _

theorem State.t1Block_evolves {ps : List Part} {s0 : State} (hl : Part.sub [.slots, .timers, .dev, .flow, .mram, .cores, .telemetry, .counts, .lpos, .audit, .crypto, .out, .pba] ps = true) (s : State) (i : Nat) (atCwt : Bool)
    (h : Evolves ps s0 s) : Evolves ps s0 (State.t1Block s i atCwt) := by
  refine h.trans ?_; clear h
  unfold State.t1Block
  try dsimp only
  repeat' first
    | (with_reducible first
        | exact .refl _ | assumption | apply State.modSlot_evolves | apply State.t1Fail_evolves | apply State.t1I_evolves
        | apply State.t1R_evolves | apply State.t1S_evolves | rfl)
    | exact Part.of hl rfl
    | split | intro _

theorem State.afterSent_evolves {ps : List Part} {s0 : State} (hl : Part.sub [.now, .slots, .timers, .tide, .dev, .flow, .mram, .cores, .telemetry, .counts, .lpos, .audit, .out, .pba] ps = true) (s : State) (i : Nat)
    (h : Evolves ps s0 s) : Evolves ps s0 (State.afterSent s i) := by
  refine h.trans ?_; clear h
  unfold State.afterSent
  try dsimp only
  repeat' first
    | (with_reducible first
        | exact .refl _ | assumption | apply State.modSlot_evolves | apply State.elapseTo_evolves | apply State.armWait_evolves
        | apply State.endInDoubt_evolves | rfl)
    | exact Part.of hl rfl
    | split | intro _

theorem State.ppsFail_evolves {ps : List Part} {s0 : State} (hl : Part.sub [.slots, .timers, .dev, .flow, .mram, .cores, .telemetry, .counts, .lpos, .audit, .out, .pba] ps = true) (s : State) (i : Nat)
    (h : Evolves ps s0 s) : Evolves ps s0 (State.ppsFail s i) := by
  refine h.trans ?_; clear h
  unfold State.ppsFail
  try dsimp only
  repeat' first
    | (with_reducible first | exact .refl _ | assumption | apply State.bump_evolves | apply State.negReset_evolves | rfl)
    | exact Part.of hl rfl
    | split

theorem State.ppsJudge_evolves {ps : List Part} {s0 : State} (hl : Part.sub [.slots, .timers, .dev, .flow, .mram, .cores, .telemetry, .counts, .lpos, .audit, .out, .pba] ps = true) (s : State) (i : Nat)
    (h : Evolves ps s0 s) : Evolves ps s0 (State.ppsJudge s i) := by
  refine h.trans ?_; clear h
  unfold State.ppsJudge
  try dsimp only
  repeat' first
    | (with_reducible first | exact .refl _ | assumption | apply State.endWait_evolves | apply State.settle_evolves | apply State.ppsFail_evolves | rfl)
    | exact Part.of hl rfl
    | split

theorem State.t0Rest_evolves {ps : List Part} {s0 : State} (hl : Part.sub [.slots, .timers, .dev, .flow, .mram, .cores, .telemetry, .counts, .lpos, .audit, .out, .pba] ps = true) (s : State) (i : Nat) (l : List RxChar)
    (h : Evolves ps s0 s) : Evolves ps s0 (State.t0Rest s i l) := by
  refine h.trans ?_; clear h
  unfold State.t0Rest
  try dsimp only
  repeat' first
    | (with_reducible first | exact .refl _ | assumption | apply State.t0Char_evolves | apply foldl_evolves | rfl)
    | exact Part.of hl rfl
    | split | intro _

theorem State.t0Proc_evolves {ps : List Part} {s0 : State} (hl : Part.sub [.slots, .timers, .dev, .flow, .mram, .cores, .telemetry, .counts, .lpos, .audit, .out, .pba] ps = true) (s : State) (i : Nat)
    (h : Evolves ps s0 s) : Evolves ps s0 (State.t0Proc s i) := by
  refine h.trans ?_; clear h
  unfold State.t0Proc
  try dsimp only
  repeat' first
    | (with_reducible first | exact .refl _ | assumption | apply State.modSlot_evolves | apply State.procByte_evolves | apply State.t0Rest_evolves | rfl)
    | exact Part.of hl rfl
    | split | intro _

theorem State.t0Sw2_evolves {ps : List Part} {s0 : State} (hl : Part.sub [.slots, .timers, .dev, .flow, .mram, .cores, .telemetry, .counts, .lpos, .audit, .crypto, .out, .pba] ps = true) (s : State) (i : Nat)
    (h : Evolves ps s0 s) : Evolves ps s0 (State.t0Sw2 s i) := by
  refine h.trans ?_; clear h
  unfold State.t0Sw2
  try dsimp only
  repeat' first
    | (with_reducible first | exact .refl _ | assumption | apply State.modSlot_evolves | apply State.tpduEnd_evolves | apply State.t0Rest_evolves | rfl)
    | exact Part.of hl rfl
    | split | intro _

theorem State.t1Whole_evolves {ps : List Part} {s0 : State} (hl : Part.sub [.slots, .timers, .dev, .flow, .mram, .cores, .telemetry, .counts, .lpos, .audit, .crypto, .out, .pba] ps = true) (s : State) (i : Nat)
    (h : Evolves ps s0 s) : Evolves ps s0 (State.t1Whole s i) := by
  refine h.trans ?_; clear h
  unfold State.t1Whole
  try dsimp only
  repeat' first
    | (with_reducible first | exact .refl _ | assumption | apply State.modSlot_evolves | apply State.endWait_evolves | apply State.t1Block_evolves | rfl)
    | exact Part.of hl rfl
    | split | intro _

theorem State.t0Read_evolves {ps : List Part} {s0 : State} (hl : Part.sub [.slots, .timers, .dev, .flow, .mram, .cores, .telemetry, .counts, .lpos, .audit, .crypto, .out, .pba] ps = true) (n : Nat) (s : State) (i : Nat) (h : Evolves ps s0 s) : Evolves ps s0 (State.t0Read n s i) := by
  induction n generalizing s with
  | zero => exact h
  | succ n ih =>
    unfold State.t0Read
    split
    · exact ih _ (State.t0Sw2_evolves (Part.of hl rfl) _ _ h)
    · exact ih _ (State.t0Proc_evolves (Part.of hl rfl) _ _ h)

theorem State.digest_evolves {ps : List Part} {s0 : State} (hl : Part.sub [.slots, .timers, .dev, .flow, .mram, .cores, .telemetry, .counts, .lpos, .audit, .crypto, .out, .pba] ps = true) (s : State) (i : Nat)
    (h : Evolves ps s0 s) : Evolves ps s0 (State.digest s i) := by
  refine h.trans ?_; clear h
  unfold State.digest
  try dsimp only
  repeat' first
    | (with_reducible first | exact .refl _ | assumption | apply State.ppsJudge_evolves | apply State.t1Whole_evolves | apply State.t0Read_evolves | rfl)
    | exact Part.of hl rfl
    | split

theorem State.passChar_evolves {ps : List Part} {s0 : State} (hl : Part.sub [.slots, .timers, .dev, .flow, .mram, .cores, .telemetry, .counts, .lpos, .audit, .out, .pba] ps = true) (s : State) (i : Nat) (c : RxChar)
    (h : Evolves ps s0 s) : Evolves ps s0 (State.passChar s i c) := by
  refine h.trans ?_; clear h
  unfold State.passChar
  try dsimp only
  repeat' first
    | (with_reducible first
        | exact .refl _ | assumption | apply State.modSlot_evolves | apply State.bump_evolves | apply State.atrChar_evolves
        | apply State.t0Char_evolves | rfl)
    | exact Part.of hl rfl
    | split | intro _

theorem State.rxPass_evolves {ps : List Part} {s0 : State} (hl : Part.sub [.slots, .timers, .dev, .flow, .mram, .cores, .telemetry, .counts, .lpos, .audit, .out, .pba] ps = true) (s : State) (i : Nat) (l : BitVec 9) (good : Bool)
    (h : Evolves ps s0 s) : Evolves ps s0 (State.rxPass s i l good) := by
  refine h.trans ?_; clear h
  unfold State.rxPass
  try dsimp only
  repeat' first
    | (with_reducible first
        | exact .refl _ | assumption | apply State.modSlot_evolves | apply State.bump_evolves | apply State.armWait_evolves
        | apply State.atrChar_evolves | apply State.passChar_evolves | rfl)
    | exact Part.of hl rfl
    | split | intro _

theorem State.rxFlush_evolves {ps : List Part} {s0 : State} (hl : Part.sub [.now, .slots, .timers, .tide, .dev, .flow, .mram, .cores, .telemetry, .counts, .lpos, .audit, .out, .pba] ps = true) (s : State) (i : Nat)
    (h : Evolves ps s0 s) : Evolves ps s0 (State.rxFlush s i) := by
  refine h.trans ?_; clear h
  unfold State.rxFlush
  try dsimp only
  repeat' first
    | (with_reducible first | exact .refl _ | assumption | apply State.elapseTo_evolves | apply State.rxPass_evolves | rfl)
    | exact Part.of hl rfl
    | split

theorem State.rxRipe_evolves {ps : List Part} {s0 : State} (hl : Part.sub [.slots, .timers, .dev, .flow, .mram, .cores, .telemetry, .counts, .lpos, .audit, .crypto, .out, .pba] ps = true) (s : State) (i : Nat)
    (h : Evolves ps s0 s) : Evolves ps s0 (State.rxRipe s i) := by
  refine h.trans ?_; clear h
  unfold State.rxRipe
  try dsimp only
  repeat' first
    | (with_reducible first | exact .refl _ | assumption | apply State.digest_evolves | apply State.rxPass_evolves | rfl)
    | exact Part.of hl rfl
    | split

theorem State.expire_evolves {ps : List Part} {s0 : State} (hl : Part.sub [.now, .slots, .timers, .tide, .dev, .flow, .mram, .cores, .telemetry, .counts, .lpos, .audit, .crypto, .out, .pba] ps = true) (s : State) (i : Nat) (w : Wait)
    (h : Evolves ps s0 s) : Evolves ps s0 (State.expire s i w) := by
  refine h.trans ?_; clear h
  unfold State.expire
  try dsimp only
  repeat' first
    | (with_reducible first
        | exact .refl _ | assumption | apply State.modSlot_evolves | apply State.elapseTo_evolves | apply State.expireWait_evolves
        | apply State.endInDoubt_evolves | apply State.atrFail_evolves | apply State.atrError_evolves | apply State.t1Fail_evolves
        | apply State.t1Block_evolves | apply State.ppsFail_evolves | rfl)
    | exact Part.of hl rfl
    | split | intro _

theorem State.expired_evolves {ps : List Part} {s0 : State} (hl : Part.sub [.now, .slots, .timers, .tide, .dev, .flow, .mram, .cores, .telemetry, .counts, .lpos, .audit, .crypto, .out, .pba] ps = true) (s : State) (i : Nat) (w : Wait)
    (h : Evolves ps s0 s) : Evolves ps s0 (State.expired s i w) := by
  refine h.trans ?_; clear h
  unfold State.expired
  try dsimp only
  repeat' first
    | (with_reducible first | exact .refl _ | assumption | apply State.digest_evolves | apply State.rxFlush_evolves | apply State.expire_evolves | rfl)
    | exact Part.of hl rfl
    | split

theorem State.overdue_evolves {ps : List Part} {s0 : State} (hl : Part.sub [.now, .slots, .timers, .tide, .dev, .flow, .mram, .cores, .telemetry, .counts, .lpos, .audit, .crypto, .out, .pba] ps = true) (s : State) (i t : Nat)
    (h : Evolves ps s0 s) : Evolves ps s0 (State.overdue s i t) := by
  refine h.trans ?_; clear h
  unfold State.overdue
  try dsimp only
  repeat' first
    | (with_reducible first | exact .refl _ | assumption | apply State.expire_evolves | rfl)
    | exact Part.of hl rfl
    | split

theorem State.unstart_evolves {ps : List Part} {s0 : State} (hl : Part.sub [.slots, .out] ps = true) (s : State) (i : Nat)
    (h : Evolves ps s0 s) : Evolves ps s0 (State.unstart s i) := by
  refine h.trans ?_; clear h
  unfold State.unstart
  try dsimp only
  repeat' first
    | (with_reducible first | exact .refl _ | assumption | apply State.modSlot_evolves | apply State.emit_evolves | rfl)
    | exact Part.of hl rfl
    | split | intro _

theorem State.newPrimary_evolves {ps : List Part} {s0 : State} (hl : Part.sub [.slots, .dev, .flow] ps = true) (s : State) (i cause : Nat) (h : Evolves ps s0 s) : Evolves ps s0 (State.newPrimary s i cause) := by
  refine h.trans ?_; clear h
  unfold State.newPrimary
  dsimp only
  refine foldl_evolves _ _ ?_ fun u a => State.modTxn_evolves (Part.of hl rfl) _ _ _ (Evolves.refl u)
  exact State.modDev_evolves (Part.of hl rfl) (State.modSlot_evolves (Part.of hl rfl) _ _ _ (Evolves.refl s)) (List.length_map _)

theorem State.quench_evolves {ps : List Part} {s0 : State} (hl : Part.sub [.slots, .timers, .dev, .flow, .mram, .cores, .telemetry, .counts, .lpos, .audit, .crypto, .loops, .out, .pba] ps = true) (s : State) (i cause : Nat)
    (h : Evolves ps s0 s) : Evolves ps s0 (State.quench s i cause) := by
  refine h.trans ?_; clear h
  unfold State.quench
  try dsimp only
  repeat' first
    | (with_reducible first
        | exact .refl _ | assumption | apply State.modSlot_evolves | apply State.emit_evolves | apply State.bump_evolves
        | apply State.endLoop_evolves | apply State.post_evolves | apply State.endWaiters_evolves | apply State.stopSlotTimers_evolves
        | apply State.forceEnd_evolves | apply State.leaveService_evolves | apply State.rxRipe_evolves | apply State.unstart_evolves
        | apply State.newPrimary_evolves | rfl)
    | exact Part.of hl rfl
    | split | intro _

theorem State.limitEnd_evolves {ps : List Part} {s0 : State} (hl : Part.sub [.slots, .timers, .dev, .flow, .mram, .cores, .telemetry, .counts, .lpos, .audit, .crypto, .loops, .out, .pba] ps = true) (s : State) (i code : Nat) (c : Bool) (v : Int)
    (h : Evolves ps s0 s) : Evolves ps s0 (State.limitEnd s i code c v) := by
  refine h.trans ?_; clear h
  unfold State.limitEnd
  try dsimp only
  repeat' first
    | (with_reducible first | exact .refl _ | assumption | apply State.modSlot_evolves | apply State.post_evolves | apply State.quench_evolves | rfl)
    | exact Part.of hl rfl
    | split | intro _

theorem State.edgeEnd_evolves {ps : List Part} {s0 : State} (hl : Part.sub [.slots, .timers, .dev, .flow, .mram, .cores, .telemetry, .counts, .lpos, .audit, .crypto, .loops, .out, .pba, .freeCount] ps = true) (s : State) (i : Nat)
    (h : Evolves ps s0 s) : Evolves ps s0 (State.edgeEnd s i) := by
  refine h.trans ?_; clear h
  unfold State.edgeEnd
  try dsimp only
  repeat' first
    | (with_reducible first | exact .refl _ | assumption | apply State.modSlot_evolves | apply State.free_evolves | apply State.limitEnd_evolves | rfl)
    | exact Part.of hl rfl
    | split | intro _

theorem State.edgeFull_evolves {ps : List Part} {s0 : State} (hl : Part.sub [.slots, .timers, .dev, .flow, .mram, .cores, .telemetry, .counts, .lpos, .audit, .crypto, .loops, .out, .pba, .freeCount] ps = true) (s : State) (i : Nat)
    (h : Evolves ps s0 s) : Evolves ps s0 (State.edgeFull s i) := by
  refine h.trans ?_; clear h
  unfold State.edgeFull
  try dsimp only
  repeat' first
    | (with_reducible first | exact .refl _ | assumption | apply State.edgeEnd_evolves | rfl)
    | exact Part.of hl rfl
    | split

theorem State.dutyEnd_evolves {ps : List Part} {s0 : State} (hl : Part.sub [.slots, .timers, .dev, .flow, .mram, .cores, .telemetry, .counts, .lpos, .audit, .crypto, .loops, .out, .pba] ps = true) (s : State) (i : Nat) (highs : List Nat)
    (h : Evolves ps s0 s) : Evolves ps s0 (State.dutyEnd s i highs) := by
  refine h.trans ?_; clear h
  unfold State.dutyEnd
  try dsimp only
  repeat' first
    | (with_reducible first | exact .refl _ | assumption | apply State.modSlot_evolves | apply State.limitEnd_evolves | rfl)
    | exact Part.of hl rfl
    | split | intro _

theorem State.convEnd_evolves {ps : List Part} {s0 : State} (hl : Part.sub [.slots, .timers, .dev, .flow, .mram, .cores, .telemetry, .counts, .lpos, .audit, .crypto, .loops, .out, .pba] ps = true) (s : State) (i : Nat)
    (h : Evolves ps s0 s) : Evolves ps s0 (State.convEnd s i) := by
  refine h.trans ?_; clear h
  unfold State.convEnd
  try dsimp only
  repeat' first
    | (with_reducible first | exact .refl _ | assumption | apply State.modSlot_evolves | apply State.limitEnd_evolves | rfl)
    | exact Part.of hl rfl
    | split | intro _

theorem State.convFull_evolves {ps : List Part} {s0 : State} (hl : Part.sub [.slots, .timers, .dev, .flow, .mram, .cores, .telemetry, .counts, .lpos, .audit, .crypto, .loops, .out, .pba] ps = true) (s : State) (i : Nat)
    (h : Evolves ps s0 s) : Evolves ps s0 (State.convFull s i) := by
  refine h.trans ?_; clear h
  unfold State.convFull
  try dsimp only
  repeat' first
    | (with_reducible first | exact .refl _ | assumption | apply State.convEnd_evolves | rfl)
    | exact Part.of hl rfl
    | split

theorem State.convTake_evolves {ps : List Part} {s0 : State} (hl : Part.sub [.slots, .timers, .dev, .flow, .mram, .cores, .telemetry, .counts, .lpos, .audit, .crypto, .loops, .out, .pba] ps = true) (s : State) (i ch code : Nat)
    (h : Evolves ps s0 s) : Evolves ps s0 (State.convTake s i ch code) := by
  refine h.trans ?_; clear h
  unfold State.convTake
  try dsimp only
  repeat' first
    | (with_reducible first | exact .refl _ | assumption | apply State.modSlot_evolves | apply State.convFull_evolves | rfl)
    | exact Part.of hl rfl
    | split | intro _

theorem State.txStart_evolves {ps : List Part} {s0 : State} (hl : Part.sub [.slots, .timers, .cores, .out, .freeCount] ps = true) (s : State) (i : Nat) (l : BitVec 9) (w : List Reading)
    (h : Evolves ps s0 s) : Evolves ps s0 (State.txStart s i l w) := by
  refine h.trans ?_; clear h
  unfold State.txStart
  try dsimp only
  repeat' first
    | (with_reducible first
        | exact .refl _ | assumption | apply State.modSlot_evolves | apply State.emit_evolves | apply State.free_evolves
        | apply State.captureSlot_evolves | apply State.restartT0_evolves | rfl)
    | exact Part.of hl rfl
    | split | intro _

theorem State.txWaits_evolves {ps : List Part} {s0 : State} (hl : Part.sub [.now, .slots, .timers, .tide, .dev, .flow, .mram, .cores, .telemetry, .counts, .lpos, .audit, .out, .pba] ps = true) (s : State) (i : Nat)
    (h : Evolves ps s0 s) : Evolves ps s0 (State.txWaits s i) := by
  refine h.trans ?_; clear h
  unfold State.txWaits
  try dsimp only
  repeat' first
    | (with_reducible first | exact .refl _ | assumption | apply State.armWait_evolves | apply State.afterSent_evolves | rfl)
    | exact Part.of hl rfl
    | split

theorem State.rxStart_evolves {ps : List Part} {s0 : State} (hl : Part.sub [.slots, .timers, .cores] ps = true) (s : State) (i : Nat)
    (h : Evolves ps s0 s) : Evolves ps s0 (State.rxStart s i) := by
  refine h.trans ?_; clear h
  unfold State.rxStart
  try dsimp only
  repeat' first
    | (with_reducible first | exact .refl _ | assumption | apply State.modSlot_evolves | apply State.captureSlot_evolves | apply State.restartT0_evolves | rfl)
    | exact Part.of hl rfl
    | split | intro _

theorem State.rxEdge_evolves {ps : List Part} {s0 : State} (hl : Part.sub [.now, .slots, .timers, .tide, .dev, .flow, .mram, .cores, .telemetry, .counts, .lpos, .audit, .crypto, .loops, .out, .pba, .freeCount] ps = true) (s : State) (i t : Nat)
    (h : Evolves ps s0 s) : Evolves ps s0 (State.rxEdge s i t) := by
  refine h.trans ?_; clear h
  unfold State.rxEdge
  try dsimp only
  repeat' first
    | (with_reducible first
        | exact .refl _ | assumption | apply State.elapseTo_evolves | apply State.digest_evolves | apply State.rxPass_evolves
        | apply State.rxFlush_evolves | apply State.overdue_evolves | apply State.edgeFull_evolves | apply State.rxStart_evolves | rfl)
    | exact Part.of hl rfl
    | split

theorem State.rxFalse_evolves {ps : List Part} {s0 : State} (hl : Part.sub [.slots, .timers, .telemetry] ps = true) (s : State) (i : Nat) (o : RxOpen) (rearm : Nat)
    (h : Evolves ps s0 s) : Evolves ps s0 (State.rxFalse s i o rearm) := by
  refine h.trans ?_; clear h
  unfold State.rxFalse
  try dsimp only
  repeat' first
    | (with_reducible first | exact .refl _ | assumption | apply State.modSlot_evolves | apply State.modTimer_evolves | apply State.bump_evolves | rfl)
    | exact Part.of hl rfl
    | split | intro _

theorem State.rxBegin_evolves {ps : List Part} {s0 : State} (hl : Part.sub [.slots, .timers, .dev, .flow, .mram, .cores, .telemetry, .counts, .lpos, .audit, .out, .pba] ps = true) (s : State) (i : Nat) (o : RxOpen)
    (h : Evolves ps s0 s) : Evolves ps s0 (State.rxBegin s i o) := by
  refine h.trans ?_; clear h
  unfold State.rxBegin
  try dsimp only
  repeat' first
    | (with_reducible first
        | exact .refl _ | assumption | apply State.modSlot_evolves | apply State.armWait_evolves | apply State.endWait_evolves
        | apply State.endInDoubt_evolves | rfl)
    | exact Part.of hl rfl
    | split | intro _

theorem State.rxJudge_evolves {ps : List Part} {s0 : State} (hl : Part.sub [.now, .slots, .timers, .tide, .dev, .flow, .mram, .cores, .telemetry, .counts, .lpos, .audit, .out, .pba] ps = true) (s : State) (i : Nat) (o : RxOpen) (w : List Reading)
    (h : Evolves ps s0 s) : Evolves ps s0 (State.rxJudge s i o w) := by
  refine h.trans ?_; clear h
  unfold State.rxJudge
  try dsimp only
  repeat' first
    | (with_reducible first | exact .refl _ | assumption | apply State.elapseTo_evolves | apply State.rxFalse_evolves | apply State.rxBegin_evolves | rfl)
    | exact Part.of hl rfl
    | split

theorem State.rxTaken_evolves {ps : List Part} {s0 : State} (hl : Part.sub [.now, .slots, .timers, .tide, .cores] ps = true) (s : State) (i : Nat) (w : List Reading) (t rearm : Nat)
    (h : Evolves ps s0 s) : Evolves ps s0 (State.rxTaken s i w t rearm) := by
  refine h.trans ?_; clear h
  unfold State.rxTaken
  try dsimp only
  repeat' first
    | (with_reducible first | exact .refl _ | assumption | apply State.modSlot_evolves | apply State.elapseTo_evolves | rfl)
    | exact Part.of hl rfl
    | split | intro _

theorem State.parityBad_evolves {ps : List Part} {s0 : State} (hl : Part.sub [.slots, .telemetry] ps = true) (s : State) (i : Nat)
    (h : Evolves ps s0 s) : Evolves ps s0 (State.parityBad s i) := by
  refine h.trans ?_; clear h
  unfold State.parityBad
  try dsimp only
  repeat' first
    | (with_reducible first | exact .refl _ | assumption | apply State.modSlot_evolves | apply State.bump_evolves | rfl)
    | exact Part.of hl rfl
    | split | intro _

theorem State.rxStop_evolves {ps : List Part} {s0 : State} (hl : Part.sub [.now, .slots, .timers, .tide, .dev, .flow, .mram, .cores, .telemetry, .counts, .lpos, .audit, .out, .pba] ps = true) (s : State) (i : Nat) (w : List Reading)
    (h : Evolves ps s0 s) : Evolves ps s0 (State.rxStop s i w) := by
  refine h.trans ?_; clear h
  unfold State.rxStop
  try dsimp only
  repeat' first
    | (with_reducible first
        | exact .refl _ | assumption | apply State.modSlot_evolves | apply State.emit_evolves | apply State.bump_evolves
        | apply State.rxPass_evolves | apply State.rxTaken_evolves | apply State.parityBad_evolves | rfl)
    | exact Part.of hl rfl
    | split | intro _

theorem State.slotErr_evolves {ps : List Part} {s0 : State} (hl : Part.sub [.slots] ps = true) (s : State) (i : Nat) (e : CmdErr)
    (h : Evolves ps s0 s) : Evolves ps s0 (State.slotErr s i e) := by
  refine h.trans ?_; clear h
  unfold State.slotErr
  try dsimp only
  repeat' first
    | (with_reducible first | exact .refl _ | assumption | apply State.modSlot_evolves | rfl)
    | exact Part.of hl rfl
    | split | intro _

theorem State.writeRaw_evolves {ps : List Part} {s0 : State} (hl : Part.sub [.slots, .dev, .counts] ps = true) (s : State) (ag : Agent) (i : Nat) (v : Word)
    (h : Evolves ps s0 s) : Evolves ps s0 (State.writeRaw s ag i v) := by
  refine h.trans ?_; clear h
  unfold State.writeRaw
  try dsimp only
  repeat' first
    | (with_reducible first | exact .refl _ | assumption | apply State.modSlot_evolves | apply State.granted_evolves | apply State.slotErr_evolves | rfl)
    | exact Part.of hl rfl
    | split | intro _

theorem State.readRaw_evolves {ps : List Part} {s0 : State} (hl : Part.sub [.slots] ps = true) (s : State) (ag : Agent) (i : Nat)
    (h : Evolves ps s0 s) : Evolves ps s0 ((State.readRaw s ag i)).2 := by
  refine h.trans ?_; clear h
  unfold State.readRaw
  try dsimp only
  repeat' first
    | (with_reducible first | exact .refl _ | assumption | apply State.modSlot_evolves | rfl)
    | exact Part.of hl rfl
    | split | intro _

theorem State.cmdActivate_evolves {ps : List Part} {s0 : State} (hl : Part.sub [.slots] ps = true) (s : State) (i : Nat)
    (h : Evolves ps s0 s) : Evolves ps s0 ((State.cmdActivate s i)).2 := by
  refine h.trans ?_; clear h
  unfold State.cmdActivate
  try dsimp only
  repeat' first
    | (with_reducible first | exact .refl _ | assumption | apply State.modSlot_evolves | apply State.askActivation_evolves | rfl)
    | exact Part.of hl rfl
    | split | intro _

theorem State.cmdWarmReset_evolves {ps : List Part} {s0 : State} (hl : Part.sub [.slots, .timers, .dev, .flow, .mram, .cores, .counts, .lpos, .audit, .out, .pba] ps = true) (s : State) (i : Nat)
    (h : Evolves ps s0 s) : Evolves ps s0 ((State.cmdWarmReset s i)).2 := by
  refine h.trans ?_; clear h
  unfold State.cmdWarmReset
  try dsimp only
  repeat' first
    | (with_reducible first | exact .refl _ | assumption | apply State.modSlot_evolves | apply State.warmStart_evolves | rfl)
    | exact Part.of hl rfl
    | split | intro _

theorem State.forceDeact_evolves {ps : List Part} {s0 : State} (hl : Part.sub [.slots, .timers, .dev, .flow, .mram, .cores, .telemetry, .counts, .lpos, .audit, .crypto, .out, .pba] ps = true) (s : State) (i : Nat) (park : Bool)
    (h : Evolves ps s0 s) : Evolves ps s0 (State.forceDeact s i park) := by
  refine h.trans ?_; clear h
  unfold State.forceDeact
  try dsimp only
  repeat' first
    | (with_reducible first | exact .refl _ | assumption | apply State.modSlot_evolves | apply State.beginDeact_evolves | apply State.rxRipe_evolves | rfl)
    | exact Part.of hl rfl
    | split | intro _

theorem State.cmdDeactivate_evolves {ps : List Part} {s0 : State} (hl : Part.sub [.slots, .timers, .dev, .flow, .mram, .cores, .telemetry, .counts, .lpos, .audit, .crypto, .out, .pba] ps = true) (s : State) (i : Nat) (force : Bool)
    (h : Evolves ps s0 s) : Evolves ps s0 ((State.cmdDeactivate s i force)).2 := by
  refine h.trans ?_; clear h
  unfold State.cmdDeactivate
  try dsimp only
  repeat' first
    | (with_reducible first | exact .refl _ | assumption | apply State.modSlot_evolves | apply State.beginDeact_evolves | apply State.forceDeact_evolves | rfl)
    | exact Part.of hl rfl
    | split | intro _

theorem State.cmdPark_evolves {ps : List Part} {s0 : State} (hl : Part.sub [.slots, .timers, .dev, .flow, .mram, .cores, .telemetry, .counts, .lpos, .audit, .crypto, .out, .pba] ps = true) (s : State) (i : Nat) (force : Bool)
    (h : Evolves ps s0 s) : Evolves ps s0 ((State.cmdPark s i force)).2 := by
  refine h.trans ?_; clear h
  unfold State.cmdPark
  try dsimp only
  repeat' first
    | (with_reducible first | exact .refl _ | assumption | apply State.modSlot_evolves | apply State.beginDeact_evolves | apply State.forceDeact_evolves | rfl)
    | exact Part.of hl rfl
    | split | intro _

theorem State.abortSlotLoop_evolves {ps : List Part} {s0 : State} (hl : Part.sub [.slots, .timers, .dev, .flow, .mram, .cores, .counts, .lpos, .audit, .loops, .out, .pba] ps = true) (s : State) (i : Nat)
    (h : Evolves ps s0 s) : Evolves ps s0 (State.abortSlotLoop s i) := by
  refine h.trans ?_; clear h
  unfold State.abortSlotLoop
  try dsimp only
  repeat' first
    | (with_reducible first | exact .refl _ | assumption | apply State.modSlot_evolves | apply State.endLoop_evolves | apply State.beginDeact_evolves | rfl)
    | exact Part.of hl rfl
    | split | intro _

theorem State.cmdUnpark_evolves {ps : List Part} {s0 : State} (hl : Part.sub [.slots, .timers, .dev, .flow, .mram, .cores, .counts, .lpos, .audit, .loops, .out, .pba] ps = true) (s : State) (i : Nat)
    (h : Evolves ps s0 s) : Evolves ps s0 ((State.cmdUnpark s i)).2 := by
  refine h.trans ?_; clear h
  unfold State.cmdUnpark
  try dsimp only
  repeat' first
    | (with_reducible first | exact .refl _ | assumption | apply State.modSlot_evolves | apply State.abortSlotLoop_evolves | rfl)
    | exact Part.of hl rfl
    | split | intro _

theorem State.cmdFaultClear_evolves {ps : List Part} {s0 : State} (hl : Part.sub [.slots] ps = true) (s : State) (i : Nat)
    (h : Evolves ps s0 s) : Evolves ps s0 ((State.cmdFaultClear s i)).2 := by
  refine h.trans ?_; clear h
  unfold State.cmdFaultClear
  try dsimp only
  repeat' first
    | (with_reducible first | exact .refl _ | assumption | apply State.modSlot_evolves | rfl)
    | exact Part.of hl rfl
    | split | intro _

theorem State.slotCommand_evolves {ps : List Part} {s0 : State} (hl : Part.sub [.slots, .timers, .dev, .flow, .mram, .cores, .telemetry, .counts, .lpos, .audit, .crypto, .loops, .out, .pba] ps = true) (s : State) (i : Nat) (w : Word)
    (h : Evolves ps s0 s) : Evolves ps s0 ((State.slotCommand s i w)).2 := by
  refine h.trans ?_; clear h
  unfold State.slotCommand
  try dsimp only
  repeat' first
    | (with_reducible first
        | exact .refl _ | assumption | apply State.cmdActivate_evolves | apply State.cmdWarmReset_evolves
        | apply State.cmdDeactivate_evolves | apply State.cmdPark_evolves | apply State.cmdUnpark_evolves
        | apply State.cmdFaultClear_evolves | rfl)
    | exact Part.of hl rfl
    | split

theorem State.writeSlotCtrl_evolves {ps : List Part} {s0 : State} (hl : Part.sub [.slots, .timers, .dev, .flow, .mram, .cores, .telemetry, .counts, .lpos, .audit, .crypto, .loops, .out, .pba] ps = true) (s : State) (ag : Agent) (i : Nat) (w : Word)
    (h : Evolves ps s0 s) : Evolves ps s0 (State.writeSlotCtrl s ag i w) := by
  refine h.trans ?_; clear h
  unfold State.writeSlotCtrl
  try dsimp only
  repeat' first
    | (with_reducible first
        | exact .refl _ | assumption | apply State.modSlot_evolves | apply State.granted_evolves | apply State.slotErr_evolves
        | apply State.slotCommand_evolves | rfl)
    | exact Part.of hl rfl
    | split | intro _

theorem State.writeActAtHi_evolves {ps : List Part} {s0 : State} (hl : Part.sub [.slots, .dev, .counts] ps = true) (s : State) (ag : Agent) (i : Nat) (v : Word)
    (h : Evolves ps s0 s) : Evolves ps s0 (State.writeActAtHi s ag i v) := by
  refine h.trans ?_; clear h
  unfold State.writeActAtHi
  try dsimp only
  repeat' first
    | (with_reducible first | exact .refl _ | assumption | apply State.modSlot_evolves | apply State.granted_evolves | apply State.slotErr_evolves | rfl)
    | exact Part.of hl rfl
    | split | intro _

theorem State.writeDeactAtHi_evolves {ps : List Part} {s0 : State} (hl : Part.sub [.slots, .dev, .counts] ps = true) (s : State) (ag : Agent) (i : Nat) (v : Word)
    (h : Evolves ps s0 s) : Evolves ps s0 (State.writeDeactAtHi s ag i v) := by
  refine h.trans ?_; clear h
  unfold State.writeDeactAtHi
  try dsimp only
  repeat' first
    | (with_reducible first | exact .refl _ | assumption | apply State.modSlot_evolves | apply State.granted_evolves | apply State.slotErr_evolves | rfl)
    | exact Part.of hl rfl
    | split | intro _

theorem State.elapseTide_evolves {ps : List Part} {s0 : State} (hl : Part.sub [.now, .timers, .tide, .cores] ps = true) (s : State) (v : Tide)
    (h : Evolves ps s0 s) : Evolves ps s0 (State.elapseTide s v) := by
  refine h.trans ?_; clear h
  unfold State.elapseTide
  try dsimp only
  repeat' first
    | (with_reducible first | exact .refl _ | assumption | apply State.elapse_evolves | rfl)
    | exact Part.of hl rfl
    | split

theorem State.riseRst_evolves {ps : List Part} {s0 : State} (hl : Part.sub [.slots, .timers, .cores] ps = true) (s : State) (i : Nat)
    (h : Evolves ps s0 s) : Evolves ps s0 (State.riseRst s i) := by
  refine h.trans ?_; clear h
  unfold State.riseRst
  try dsimp only
  repeat' first
    | (with_reducible first | exact .refl _ | assumption | apply State.modSlot_evolves | apply State.captureSlot_evolves | apply State.armWait_evolves | rfl)
    | exact Part.of hl rfl
    | split | intro _

theorem State.restartClock_evolves {ps : List Part} {s0 : State} (hl : Part.sub [.slots] ps = true) (s : State) (i : Nat)
    (h : Evolves ps s0 s) : Evolves ps s0 (State.restartClock s i) := by
  refine h.trans ?_; clear h
  unfold State.restartClock
  try dsimp only
  repeat' first
    | (with_reducible first | exact .refl _ | assumption | apply State.modSlot_evolves | rfl)
    | exact Part.of hl rfl
    | split | intro _

theorem State.engageSinks_evolves {ps : List Part} {s0 : State} (hl : Part.sub [.slots, .boot] ps = true) (s : State) (p : Nat)
    (h : Evolves ps s0 s) : Evolves ps s0 (State.engageSinks s p) := by
  refine h.trans ?_; clear h
  unfold State.engageSinks
  try dsimp only
  repeat' first
    | (with_reducible first | exact .refl _ | assumption | apply State.modSlot_evolves | apply State.forEach_evolves | apply foldl_evolves | rfl)
    | exact Part.of hl rfl
    | split | intro _
    | refine Evolves.raw ?_ rfl rfl rfl ⟨rfl, fun p => by cases p <;> first | exact .inl (Part.sub_mem hl (by decide)) | exact .inr rfl⟩
        (fun w => by simp only [State.wf, Mram.wf, Flow.wf, Flow.burst, Bool.and_eq_true] at w ⊢; simp only [w, twf_tset, twf_filter, twf_nil, and_self])

theorem State.setWarn_evolves {ps : List Part} {s0 : State} (hl : Part.sub [.slots, .polders, .timers, .dev, .flow, .mram, .cores, .counts, .lpos, .audit, .loops, .out, .pba] ps = true) (s : State) (p : Nat) (on : Bool) (v : Int)
    (h : Evolves ps s0 s) : Evolves ps s0 (State.setWarn s p on v) := by
  refine h.trans ?_; clear h
  unfold State.setWarn
  try dsimp only
  repeat' first
    | (with_reducible first
        | exact .refl _ | assumption | apply State.modPolder_evolves | apply State.irq_evolves | apply State.post_evolves
        | apply State.abortSlotLoop_evolves | rfl)
    | exact Part.of hl rfl
    | split | intro _

theorem State.readTherm_evolves {ps : List Part} {s0 : State} (hl : Part.sub [.polders] ps = true) (s : State) (p : Nat)
    (h : Evolves ps s0 s) : Evolves ps s0 ((State.readTherm s p)).2 := by
  refine h.trans ?_; clear h
  unfold State.readTherm
  try dsimp only
  repeat' first
    | (with_reducible first | exact .refl _ | assumption | apply State.modPolder_evolves | rfl)
    | exact Part.of hl rfl
    | split | intro _

theorem State.elapseTideNat_evolves {ps : List Part} {s0 : State} (hl : Part.sub [.now, .timers, .tide, .cores] ps = true) (s : State) (v : Nat)
    (h : Evolves ps s0 s) : Evolves ps s0 (State.elapseTideNat s v) := by
  refine h.trans ?_; clear h
  unfold State.elapseTideNat
  try dsimp only
  repeat' first
    | (with_reducible first | exact .refl _ | assumption | apply State.elapse_evolves | rfl)
    | exact Part.of hl rfl
    | split

theorem State.tideEvent_evolves {ps : List Part} {s0 : State} (hl : Part.sub [.dev, .counts, .out, .pba] ps = true) (s : State) (typ code : Nat) (data : List Word)
    (h : Evolves ps s0 s) : Evolves ps s0 (State.tideEvent s typ code data) := by
  refine h.trans ?_; clear h
  unfold State.tideEvent
  try dsimp only
  repeat' first
    | (with_reducible first | exact .refl _ | assumption | apply State.irq_evolves | apply State.post_evolves | rfl)
    | exact Part.of hl rfl
    | split

theorem State.slewTide_evolves {ps : List Part} {s0 : State} (hl : Part.sub [.tide, .freeCount] ps = true) (s : State) (e : Int)
    (h : Evolves ps s0 s) : Evolves ps s0 (State.slewTide s e) := by
  refine h.trans ?_; clear h
  unfold State.slewTide
  try dsimp only
  repeat' first
    | (with_reducible first | exact .refl _ | assumption | rfl)
    | split
    | refine Evolves.raw ?_ rfl rfl rfl ⟨rfl, fun p => by cases p <;> first | exact .inl (Part.sub_mem hl (by decide)) | exact .inr rfl⟩
        (fun w => by simp only [State.wf, Mram.wf, Flow.wf, Flow.burst, Bool.and_eq_true] at w ⊢; simp only [w, twf_tset, twf_filter, twf_nil, and_self])

theorem State.stepTide_evolves {ps : List Part} {s0 : State} (hl : Part.sub [.tide, .dev, .counts, .out, .pba] ps = true) (s : State) (e : Int)
    (h : Evolves ps s0 s) : Evolves ps s0 (State.stepTide s e) := by
  refine h.trans ?_; clear h
  unfold State.stepTide
  try dsimp only
  repeat' first
    | (with_reducible first | exact .refl _ | assumption | apply State.modTide_evolves | apply State.tideEvent_evolves | rfl)
    | exact Part.of hl rfl
    | split | intro _

theorem State.pauseTide_evolves {ps : List Part} {s0 : State} (hl : Part.sub [.tide, .dev, .counts, .out, .pba] ps = true) (s : State) (e : Int)
    (h : Evolves ps s0 s) : Evolves ps s0 (State.pauseTide s e) := by
  refine h.trans ?_; clear h
  unfold State.pauseTide
  try dsimp only
  repeat' first
    | (with_reducible first | exact .refl _ | assumption | apply State.modTide_evolves | apply State.tideEvent_evolves | rfl)
    | exact Part.of hl rfl
    | split | intro _

theorem State.correctTide_evolves {ps : List Part} {s0 : State} (hl : Part.sub [.tide, .dev, .counts, .out, .pba, .freeCount] ps = true) (s : State) (e : Int)
    (h : Evolves ps s0 s) : Evolves ps s0 (State.correctTide s e) := by
  refine h.trans ?_; clear h
  unfold State.correctTide
  try dsimp only
  repeat' first
    | (with_reducible first
        | exact .refl _ | assumption | apply State.modTide_evolves | apply State.slewTide_evolves | apply State.stepTide_evolves
        | apply State.pauseTide_evolves | rfl)
    | exact Part.of hl rfl
    | split | intro _

theorem State.markTide_evolves {ps : List Part} {s0 : State} (hl : Part.sub [.tide, .dev, .counts, .out, .pba, .freeCount] ps = true) (s : State)
    (h : Evolves ps s0 s) : Evolves ps s0 (State.markTide s) := by
  refine h.trans ?_; clear h
  unfold State.markTide
  try dsimp only
  repeat' first
    | (with_reducible first | exact .refl _ | assumption | apply State.modTide_evolves | apply State.correctTide_evolves | rfl)
    | exact Part.of hl rfl
    | split | intro _

theorem State.keepWdogs_evolves {ps : List Part} {s0 : State} (hl : Part.sub [.cores] ps = true) (s : State) (v : Tide)
    (h : Evolves ps s0 s) : Evolves ps s0 (State.keepWdogs s v) := by
  refine h.trans ?_; clear h
  unfold State.keepWdogs
  try dsimp only
  repeat' first
    | (with_reducible first | exact .refl _ | assumption | apply State.modCore_evolves | apply State.forEach_evolves | apply foldl_evolves | rfl)
    | exact Part.of hl rfl
    | split | intro _

theorem State.applySet_evolves {ps : List Part} {s0 : State} (hl : Part.sub [.tide, .dev, .flow, .cores, .counts, .out, .pba, .freeCount] ps = true) (s : State) (v : Tide)
    (h : Evolves ps s0 s) : Evolves ps s0 (State.applySet s v) := by
  refine h.trans ?_; clear h
  unfold State.applySet
  try dsimp only
  repeat' first
    | (with_reducible first
        | exact .refl _ | assumption | apply State.modTide_evolves | apply State.tideEvent_evolves | apply State.markTide_evolves
        | apply State.keepWdogs_evolves | apply State.setErr_evolves | rfl)
    | exact Part.of hl rfl
    | split | intro _

theorem State.memberTide_evolves {ps : List Part} {s0 : State} (hl : Part.sub [.tide, .dev, .cores, .counts, .out, .pba, .freeCount] ps = true) (s : State) (e : Int)
    (h : Evolves ps s0 s) : Evolves ps s0 (State.memberTide s e) := by
  refine h.trans ?_; clear h
  unfold State.memberTide
  try dsimp only
  repeat' first
    | (with_reducible first
        | exact .refl _ | assumption | apply State.modTide_evolves | apply State.tideEvent_evolves | apply State.correctTide_evolves
        | apply State.keepWdogs_evolves | rfl)
    | exact Part.of hl rfl
    | split | intro _

theorem State.readTideNow_evolves {ps : List Part} {s0 : State} (hl : Part.sub [.latches] ps = true) (s : State) (ag : Agent)
    (h : Evolves ps s0 s) : Evolves ps s0 ((State.readTideNow s ag)).2 := by
  refine h.trans ?_; clear h
  unfold State.readTideNow
  try dsimp only
  repeat' first
    | (with_reducible first | exact .refl _ | assumption | apply State.setLatch_evolves | rfl)
    | exact Part.of hl rfl
    | split

theorem State.writeTideSetHi_evolves {ps : List Part} {s0 : State} (hl : Part.sub [.tide, .dev, .flow, .counts, .out, .pba] ps = true) (s : State) (ag : Agent) (v : Word)
    (h : Evolves ps s0 s) : Evolves ps s0 (State.writeTideSetHi s ag v) := by
  refine h.trans ?_; clear h
  unfold State.writeTideSetHi
  try dsimp only
  repeat' first
    | (with_reducible first
        | exact .refl _ | assumption | apply State.modTide_evolves | apply State.granted_evolves | apply State.tideEvent_evolves
        | apply State.setErr_evolves | rfl)
    | exact Part.of hl rfl
    | split | intro _

theorem State.writeTideCtrl_evolves {ps : List Part} {s0 : State} (hl : Part.sub [.tide, .dev, .counts] ps = true) (s : State) (ag : Agent) (w : Word)
    (h : Evolves ps s0 s) : Evolves ps s0 (State.writeTideCtrl s ag w) := by
  refine h.trans ?_; clear h
  unfold State.writeTideCtrl
  try dsimp only
  repeat' first
    | (with_reducible first | exact .refl _ | assumption | apply State.modTide_evolves | apply State.granted_evolves | rfl)
    | exact Part.of hl rfl
    | split | intro _

theorem State.writeAlarmHi_evolves {ps : List Part} {s0 : State} (hl : Part.sub [.tide, .dev, .counts] ps = true) (s : State) (ag : Agent) (n : Nat) (v : Word)
    (h : Evolves ps s0 s) : Evolves ps s0 (State.writeAlarmHi s ag n v) := by
  refine h.trans ?_; clear h
  unfold State.writeAlarmHi
  try dsimp only
  repeat' first
    | (with_reducible first | exact .refl _ | assumption | apply State.modTide_evolves | apply State.granted_evolves | rfl)
    | exact Part.of hl rfl
    | split | intro _

theorem State.writeAlarmCtrl_evolves {ps : List Part} {s0 : State} (hl : Part.sub [.tide, .dev, .counts] ps = true) (s : State) (ag : Agent) (w : Word)
    (h : Evolves ps s0 s) : Evolves ps s0 (State.writeAlarmCtrl s ag w) := by
  refine h.trans ?_; clear h
  unfold State.writeAlarmCtrl
  try dsimp only
  repeat' first
    | (with_reducible first | exact .refl _ | assumption | apply State.modTide_evolves | apply State.granted_evolves | rfl)
    | exact Part.of hl rfl
    | split | intro _

theorem State.readTide_evolves {ps : List Part} {s0 : State} (hl : Part.sub [.latches] ps = true) (s : State) (ag : Agent) (off : Nat)
    (h : Evolves ps s0 s) : Evolves ps s0 ((State.readTide s ag off)).2 := by
  refine h.trans ?_; clear h
  unfold State.readTide
  try dsimp only
  repeat' first
    | (with_reducible first | exact .refl _ | assumption | apply State.setLatch_evolves | apply State.readTideNow_evolves | rfl)
    | exact Part.of hl rfl
    | split | intro _

theorem State.writeTide_evolves {ps : List Part} {s0 : State} (hl : Part.sub [.tide, .dev, .flow, .counts, .out, .pba] ps = true) (s : State) (ag : Agent) (off : Nat) (w : Word)
    (h : Evolves ps s0 s) : Evolves ps s0 (State.writeTide s ag off w) := by
  refine h.trans ?_; clear h
  have hid : ∀ u, Evolves ps u (id u) := Evolves.refl
  unfold State.writeTide
  repeat' first
    | with_reducible exact Evolves.refl _
    | exact State.granted_evolves (Part.of hl rfl) _ _ _ _ (Evolves.refl _) hid
    | with_reducible apply State.writeTideSetHi_evolves
    | with_reducible apply State.writeTideCtrl_evolves
    | with_reducible apply State.writeAlarmCtrl_evolves
    | with_reducible apply State.writeAlarmHi_evolves
    | with_reducible apply State.granted_evolves
    | with_reducible apply State.modTide_evolves
    | exact Part.of hl rfl
    | split
    | intro _

theorem State.commitRec_evolves {ps : List Part} {s0 : State} (hl : Part.sub [.dev, .flow, .mram, .counts, .lpos, .out, .pba] ps = true) (s : State) (r : JRec)
    (h : Evolves ps s0 s) : Evolves ps s0 (State.commitRec s r) := by
  refine h.trans ?_; clear h
  unfold State.commitRec
  try dsimp only
  repeat' first
    | (with_reducible first
        | exact .refl _ | assumption | apply State.modDev_evolves | apply State.tally_evolves | apply State.markChanged_evolves
        | apply State.irq_evolves | apply State.post_evolves | apply State.burst_evolves | rfl)
    | exact Part.of hl rfl
    | split | intro _
    | refine Evolves.raw ?_ rfl rfl rfl ⟨rfl, fun p => by cases p <;> first | exact .inl (Part.sub_mem hl (by decide)) | exact .inr rfl⟩
        (fun w => by simp only [State.wf, Mram.wf, Flow.wf, Flow.burst, Bool.and_eq_true] at w ⊢; simp only [w, twf_tset, twf_filter, twf_nil, and_self])

theorem State.reserve_evolves {ps : List Part} {s0 : State} (hl : Part.sub [.slots] ps = true) (s : State) (t q i : Nat)
    (h : Evolves ps s0 s) : Evolves ps s0 (State.reserve s t q i) := by
  refine h.trans ?_; clear h
  unfold State.reserve
  try dsimp only
  repeat' first
    | (with_reducible first | exact .refl _ | assumption | apply State.modSlot_evolves | rfl)
    | exact Part.of hl rfl
    | split | intro _

theorem State.sendCommand_evolves {ps : List Part} {s0 : State} (hl : Part.sub [.slots, .cores] ps = true) (s : State) (i : Nat) (cmd : List Byte)
    (h : Evolves ps s0 s) : Evolves ps s0 (State.sendCommand s i cmd) := by
  refine h.trans ?_; clear h
  unfold State.sendCommand
  try dsimp only
  repeat' first
    | (with_reducible first | exact .refl _ | assumption | apply State.modSlot_evolves | apply State.handOver_evolves | rfl)
    | exact Part.of hl rfl
    | split | intro _

theorem State.startExchange_evolves {ps : List Part} {s0 : State} (hl : Part.sub [.slots, .cores, .counts, .crypto] ps = true) (s : State) (t i : Nat)
    (h : Evolves ps s0 s) : Evolves ps s0 (State.startExchange s t i) := by
  refine h.trans ?_; clear h
  unfold State.startExchange
  try dsimp only
  repeat' first
    | (with_reducible first
        | exact .refl _ | assumption | apply State.modSlot_evolves | apply State.tally_evolves | apply State.askLane_evolves
        | apply State.restartClock_evolves | apply State.sendCommand_evolves | rfl)
    | exact Part.of hl rfl
    | split | intro _

theorem State.runRound_evolves {ps : List Part} {s0 : State} (hl : Part.sub [.slots, .flow, .cores, .counts, .crypto] ps = true) (s : State) (t k : Nat) (tg : List Nat)
    (h : Evolves ps s0 s) : Evolves ps s0 (State.runRound s t k tg) := by
  refine h.trans ?_; clear h
  unfold State.runRound
  try dsimp only
  repeat' first
    | (with_reducible first
        | exact .refl _ | assumption | apply State.tally_evolves | apply State.forEach_evolves | apply State.modRounds_evolves
        | apply State.startExchange_evolves | apply foldl_evolves | rfl)
    | exact Part.of hl rfl
    | split | intro _

theorem State.orphanSet_evolves {ps : List Part} {s0 : State} (hl : Part.sub [.dev, .flow, .mram, .counts, .out, .pba] ps = true) (s : State) (r : JRec)
    (h : Evolves ps s0 s) : Evolves ps s0 (State.orphanSet s r) := by
  refine h.trans ?_; clear h
  unfold State.orphanSet
  try dsimp only
  repeat' first
    | (with_reducible first
        | exact .refl _ | assumption | apply State.modSet_evolves | apply State.irq_evolves | apply State.post_evolves
        | apply State.suspect_evolves | rfl)
    | exact Part.of hl rfl
    | split | intro _
    | refine Evolves.raw ?_ rfl rfl rfl ⟨rfl, fun p => by cases p <;> first | exact .inl (Part.sub_mem hl (by decide)) | exact .inr rfl⟩
        (fun w => by simp only [State.wf, Mram.wf, Flow.wf, Flow.burst, Bool.and_eq_true] at w ⊢; simp only [w, twf_tset, twf_filter, twf_nil, and_self])

theorem State.putSsc_evolves {ps : List Part} {s0 : State} (hl : Part.sub [.flow] ps = true) (s : State) (x : Txn) (ssc : BitVec 64)
    (h : Evolves ps s0 s) : Evolves ps s0 (State.putSsc s x ssc) := by
  refine h.trans ?_; clear h
  unfold State.putSsc
  try dsimp only
  repeat' first
    | (with_reducible first | exact .refl _ | assumption | apply State.setSession_evolves | rfl)
    | exact Part.of hl rfl
    | split

theorem State.smFail_evolves {ps : List Part} {s0 : State} (hl : Part.sub [.slots, .timers, .dev, .flow, .mram, .cores, .telemetry, .counts, .lpos, .audit, .out, .pba] ps = true) (s : State) (t i : Nat) (x : Txn) (held : Bool)
    (h : Evolves ps s0 s) : Evolves ps s0 (State.smFail s t i x held) := by
  refine h.trans ?_; clear h
  unfold State.smFail
  try dsimp only
  repeat' first
    | (with_reducible first
        | exact .refl _ | assumption | apply State.bump_evolves | apply State.requestOutcome_evolves | apply State.closeSession_evolves
        | apply State.endExchange_evolves | rfl)
    | exact Part.of hl rfl
    | split

theorem State.endEarlyOf_evolves {ps : List Part} {s0 : State} (hl : Part.sub [.slots, .timers, .dev, .flow, .mram, .cores, .counts, .lpos, .audit, .out, .pba] ps = true) (s : State) (q status : Nat)
    (h : Evolves ps s0 s) : Evolves ps s0 (State.endEarlyOf s q status) := by
  refine h.trans ?_; clear h
  unfold State.endEarlyOf
  try dsimp only
  repeat' first
    | (with_reducible first
        | exact .refl _ | assumption | apply State.forEach_evolves | apply State.endEarly_evolves | apply State.actPendAll_evolves
        | apply foldl_evolves | rfl)
    | exact Part.of hl rfl
    | split | intro _

theorem State.settleQp_evolves {ps : List Part} {s0 : State} (hl : Part.sub [.flow] ps = true) (s : State) (q : Nat)
    (h : Evolves ps s0 s) : Evolves ps s0 (State.settleQp s q) := by
  refine h.trans ?_; clear h
  unfold State.settleQp
  try dsimp only
  repeat' first
    | (with_reducible first | exact .refl _ | assumption | apply State.modQp_evolves | rfl)
    | exact Part.of hl rfl
    | split | intro _

theorem State.qpErr_evolves {ps : List Part} {s0 : State} (hl : Part.sub [.flow] ps = true) (s : State) (q : Nat) (e : CmdErr)
    (h : Evolves ps s0 s) : Evolves ps s0 (State.qpErr s q e) := by
  refine h.trans ?_; clear h
  unfold State.qpErr
  try dsimp only
  repeat' first
    | (with_reducible first | exact .refl _ | assumption | apply State.modQp_evolves | rfl)
    | exact Part.of hl rfl
    | split | intro _

theorem State.disableQp_evolves {ps : List Part} {s0 : State} (hl : Part.sub [.slots, .timers, .dev, .flow, .mram, .cores, .counts, .lpos, .audit, .out, .pba] ps = true) (s : State) (q : Nat)
    (h : Evolves ps s0 s) : Evolves ps s0 (State.disableQp s q) := by
  refine h.trans ?_; clear h
  unfold State.disableQp
  try dsimp only
  repeat' first
    | (with_reducible first | exact .refl _ | assumption | apply State.modQp_evolves | apply State.endEarlyOf_evolves | apply State.settleQp_evolves | rfl)
    | exact Part.of hl rfl
    | split | intro _

theorem State.qpCommand_evolves {ps : List Part} {s0 : State} (hl : Part.sub [.slots, .timers, .dev, .flow, .mram, .cores, .counts, .lpos, .audit, .out, .pba] ps = true) (s : State) (q : Nat) (w : Word)
    (h : Evolves ps s0 s) : Evolves ps s0 ((State.qpCommand s q w)).2 := by
  refine h.trans ?_; clear h
  unfold State.qpCommand
  try dsimp only
  repeat' first
    | (with_reducible first | exact .refl _ | assumption | apply State.modQp_evolves | apply State.disableQp_evolves | rfl)
    | exact Part.of hl rfl
    | split | intro _

theorem State.writeQpCtrl_evolves {ps : List Part} {s0 : State} (hl : Part.sub [.slots, .timers, .dev, .flow, .mram, .cores, .counts, .lpos, .audit, .out, .pba] ps = true) (s : State) (q : Nat) (w : Word)
    (h : Evolves ps s0 s) : Evolves ps s0 (State.writeQpCtrl s q w) := by
  refine h.trans ?_; clear h
  unfold State.writeQpCtrl
  try dsimp only
  repeat' first
    | (with_reducible first | exact .refl _ | assumption | apply State.qpErr_evolves | apply State.qpCommand_evolves | rfl)
    | exact Part.of hl rfl
    | split

theorem State.dbErr_evolves {ps : List Part} {s0 : State} (hl : Part.sub [.flow, .counts] ps = true) (s : State) (q : Nat)
    (h : Evolves ps s0 s) : Evolves ps s0 (State.dbErr s q) := by
  refine h.trans ?_; clear h
  unfold State.dbErr
  try dsimp only
  repeat' first
    | (with_reducible first | exact .refl _ | assumption | apply State.modQp_evolves | apply State.tally_evolves | rfl)
    | exact Part.of hl rfl
    | split | intro _

theorem State.sqDoorbell_evolves {ps : List Part} {s0 : State} (hl : Part.sub [.flow, .counts] ps = true) (s : State) (q : Nat) (v : Word)
    (h : Evolves ps s0 s) : Evolves ps s0 (State.sqDoorbell s q v) := by
  refine h.trans ?_; clear h
  unfold State.sqDoorbell
  try dsimp only
  repeat' first
    | (with_reducible first | exact .refl _ | assumption | apply State.modQp_evolves | apply State.dbErr_evolves | rfl)
    | exact Part.of hl rfl
    | split | intro _

theorem State.formed_evolves {ps : List Part} {s0 : State} (hl : Part.sub [.slots, .dev, .flow, .mram, .cores, .counts, .lpos, .audit, .out, .pba] ps = true) (s : State) (k : Nat)
    (h : Evolves ps s0 s) : Evolves ps s0 (State.formed s k) := by
  refine h.trans ?_; clear h
  unfold State.formed
  try dsimp only
  repeat' first
    | (with_reducible first
        | exact .refl _ | assumption | apply State.modSet_evolves | apply State.forEach_evolves | apply State.posOut_evolves
        | apply foldl_evolves | rfl)
    | exact Part.of hl rfl
    | split | intro _

theorem State.emitResp_evolves {ps : List Part} {s0 : State} (hl : Part.sub [.out] ps = true) (s : State) (p : Path) (x : Txn) (o : Outcome)
    (h : Evolves ps s0 s) : Evolves ps s0 (State.emitResp s p x o) := by
  refine h.trans ?_; clear h
  unfold State.emitResp
  try dsimp only
  repeat' first
    | (with_reducible first | exact .refl _ | assumption | apply State.emit_evolves | rfl)
    | exact Part.of hl rfl
    | split

theorem State.writeEntry_evolves {ps : List Part} {s0 : State} (hl : Part.sub [.flow, .counts, .out, .pba] ps = true) (s : State) (q r : Nat) (tag : Word) (jseq : Nat) (trunc : Bool) (o : Outcome)
    (h : Evolves ps s0 s) : Evolves ps s0 (s.writeEntry q r tag jseq trunc o) := by
  have h0 : ∀ f p a b c d, Evolves ps s0 ((((((s.tally (0x4000 + q) 2 1 true).tally (0x4000 + q) f 1 true).tally p 5 1 true).emit (.write a b c)).emit
      (.write a (b + 28) d))) := fun f p a b c d =>
    State.emit_evolves (Part.of hl rfl) (State.emit_evolves (Part.of hl rfl) (State.tally_evolves (Part.of hl rfl) _ _ _ _ _ (State.tally_evolves (Part.of hl rfl) _ _ _ _ _ (State.tally_evolves (Part.of hl rfl) _ _ _ _ _ h))))
  have h1 : ∀ u g, Evolves ps s0 u → Evolves ps s0 { u.modQp r g with
      flow := { (u.modQp r g).flow with unwritten := (u.modQp r g).flow.unwritten.filter (· ≠ jseq) } } :=
    fun u g hu => (State.modQp_evolves (Part.of hl rfl) u r g hu).trans ⟨⟨rfl, fun p => by cases p <;> first | exact .inl (Part.sub_mem hl (by decide)) | exact .inr rfl⟩, id, id, Nat.le_refl _, List.prefix_refl _⟩
  unfold State.writeEntry
  exact Evolves.ite (fun _ => State.sendMsix_evolves (Part.of hl rfl) _ _ _ (h1 _ _ (h0 _ _ _ _ _ _))) fun _ => h1 _ _ (h0 _ _ _ _ _ _)

theorem State.drain_succ (s : State) (r n : Nat) : s.drain r (n + 1) = match s.spillOf r with
    | [] => s
    | e :: _ =>
      if s.ringRoom r then
        let s1 := s.writeEntry e.qp r e.tag e.jseq e.trunc e.o
        let s2 : State := { s1 with flow := { s1.flow with spill := dropFirst r s1.flow.spill } }
        let s3 := if 2 * s2.flow.spill.length < s2.dev.spillHigh then s2.modDev fun d => { d with spillArmed := true } else s2
        (s3.settleQp e.qp).drain r n
      else s := by rfl

theorem State.drain_evolves {ps : List Part} {s0 : State} (hl : Part.sub [.dev, .flow, .counts, .out, .pba] ps = true) (s : State) (r n : Nat) (h : Evolves ps s0 s) : Evolves ps s0 (s.drain r n) := by
  induction n generalizing s with
  | zero => exact h
  | succ n ih =>
    have step : ∀ e : Spill, Evolves ps s0 (State.drain (State.settleQp (
        (fun (s2 : State) => if 2 * s2.flow.spill.length < s2.dev.spillHigh then s2.modDev fun d => { d with spillArmed := true } else s2)
        { s.writeEntry e.qp r e.tag e.jseq e.trunc e.o with
          flow := { (s.writeEntry e.qp r e.tag e.jseq e.trunc e.o).flow with
            spill := dropFirst r (s.writeEntry e.qp r e.tag e.jseq e.trunc e.o).flow.spill } }) e.qp) r n) := by
      intro e
      refine ih _ (State.settleQp_evolves (Part.of hl rfl) _ _ ?_)
      have h1 := State.writeEntry_evolves (Part.of hl rfl) s e.qp r e.tag e.jseq e.trunc e.o h
      generalize s.writeEntry e.qp r e.tag e.jseq e.trunc e.o = s1 at h1 ⊢
      have h2 : Evolves ps s0 { s1 with flow := { s1.flow with spill := dropFirst r s1.flow.spill } } :=
        h1.trans ⟨⟨rfl, fun p => by cases p <;> first | exact .inl (Part.sub_mem hl (by decide)) | exact .inr rfl⟩, id, id, Nat.le_refl _, List.prefix_refl _⟩
      exact Evolves.ite (fun _ => State.modDev_evolves (Part.of hl rfl) h2 rfl) fun _ => h2
    rw [State.drain_succ]
    split
    · exact h
    · exact Evolves.ite (fun _ => step _) fun _ => h

theorem State.spillIn_evolves {ps : List Part} {s0 : State} (hl : Part.sub [.dev, .flow, .counts, .out, .pba] ps = true) (s : State) (t r : Nat) (x : Txn) (o : Outcome)
    (h : Evolves ps s0 s) : Evolves ps s0 (State.spillIn s t r x o) := by
  refine h.trans ?_; clear h
  unfold State.spillIn
  try dsimp only
  repeat' first
    | (with_reducible first
        | exact .refl _ | assumption | apply State.setTxn_evolves | apply State.modDev_evolves | apply State.tally_evolves
        | apply State.irq_evolves | apply State.post_evolves | apply State.emitResp_evolves | rfl)
    | exact Part.of hl rfl
    | split | intro _
    | refine Evolves.raw ?_ rfl rfl rfl ⟨rfl, fun p => by cases p <;> first | exact .inl (Part.sub_mem hl (by decide)) | exact .inr rfl⟩
        (fun w => by simp only [State.wf, Mram.wf, Flow.wf, Flow.burst, Bool.and_eq_true] at w ⊢; simp only [w, twf_tset, twf_filter, twf_nil, and_self])

theorem State.cqDoorbell_evolves {ps : List Part} {s0 : State} (hl : Part.sub [.dev, .flow, .counts, .out, .pba] ps = true) (s : State) (q : Nat) (v : Word)
    (h : Evolves ps s0 s) : Evolves ps s0 (State.cqDoorbell s q v) := by
  refine h.trans ?_; clear h
  unfold State.cqDoorbell
  try dsimp only
  repeat' first
    | (with_reducible first | exact .refl _ | assumption | apply State.modQp_evolves | apply State.dbErr_evolves | apply State.drain_evolves | rfl)
    | exact Part.of hl rfl
    | split | intro _

theorem State.keepAck_evolves {ps : List Part} {s0 : State} (hl : Part.sub [.flow, .mram] ps = true) (s : State) (q a : Nat)
    (h : Evolves ps s0 s) : Evolves ps s0 (State.keepAck s q a) := by
  refine h.trans ?_; clear h
  unfold State.keepAck
  try dsimp only
  repeat' first
    | (with_reducible first | exact .refl _ | assumption | apply State.modQp_evolves | rfl)
    | exact Part.of hl rfl
    | split | intro _
    | refine Evolves.raw ?_ rfl rfl rfl ⟨rfl, fun p => by cases p <;> first | exact .inl (Part.sub_mem hl (by decide)) | exact .inr rfl⟩
        (fun w => by simp only [State.wf, Mram.wf, Flow.wf, Flow.burst, Bool.and_eq_true] at w ⊢; simp only [w, twf_tset, twf_filter, twf_nil, and_self])

theorem State.setLink_evolves {ps : List Part} {s0 : State} (hl : Part.sub [.dev] ps = true) (s : State) (p : Path) (up : Bool)
    (h : Evolves ps s0 s) : Evolves ps s0 (State.setLink s p up) := by
  refine h.trans ?_; clear h
  unfold State.setLink
  try dsimp only
  repeat' first
    | (with_reducible first | exact .refl _ | assumption | apply State.modDev_evolves | rfl)
    | exact Part.of hl rfl
    | split | intro _

theorem State.resetFunction_evolves {ps : List Part} {s0 : State} (hl : Part.sub [.msix, .pba] ps = true) (s : State) (p : Path)
    (h : Evolves ps s0 s) : Evolves ps s0 (State.resetFunction s p) := by
  refine h.trans ?_; clear h
  unfold State.resetFunction
  try dsimp only
  repeat' first
    | (with_reducible first | exact .refl _ | assumption | rfl)
    | split | intro _
    | refine Evolves.raw ?_ rfl rfl rfl ⟨rfl, fun p => by cases p <;> first | exact .inl (Part.sub_mem hl (by decide)) | exact .inr rfl⟩
        (fun w => by simp only [State.wf, Mram.wf, Flow.wf, Flow.burst, Bool.and_eq_true] at w ⊢; simp only [w, twf_tset, twf_filter, twf_nil, and_self])

theorem State.dropLink_evolves {ps : List Part} {s0 : State} (hl : Part.sub [.slots, .timers, .dev, .flow, .mram, .cores, .counts, .lpos, .audit, .out, .pba] ps = true) (s : State) (p : Path)
    (h : Evolves ps s0 s) : Evolves ps s0 (State.dropLink s p) := by
  refine h.trans ?_; clear h
  unfold State.dropLink
  try dsimp only
  repeat' first
    | (with_reducible first
        | exact .refl _ | assumption | apply State.modQp_evolves | apply State.tally_evolves | apply State.irq_evolves
        | apply State.post_evolves | apply State.forEach_evolves | apply State.endEarlyOf_evolves | apply State.setLink_evolves
        | apply foldl_evolves | rfl)
    | exact Part.of hl rfl
    | split | intro _

theorem State.writeEvent_evolves {ps : List Part} {s0 : State} (hl : Part.sub [.dev, .counts, .out, .pba] ps = true) (s : State) (dws : List Word)
    (h : Evolves ps s0 s) : Evolves ps s0 (State.writeEvent s dws) := by
  refine h.trans ?_; clear h
  unfold State.writeEvent
  try dsimp only
  repeat' first
    | (with_reducible first | exact .refl _ | assumption | apply State.modDev_evolves | apply State.emit_evolves | apply State.sendMsix_evolves | rfl)
    | exact Part.of hl rfl
    | split | intro _

theorem State.devErr_evolves {ps : List Part} {s0 : State} (hl : Part.sub [.dev] ps = true) (s : State) (e : CmdErr)
    (h : Evolves ps s0 s) : Evolves ps s0 (State.devErr s e) := by
  refine h.trans ?_; clear h
  unfold State.devErr
  try dsimp only
  repeat' first
    | (with_reducible first | exact .refl _ | assumption | apply State.modDev_evolves | rfl)
    | exact Part.of hl rfl
    | split | intro _

theorem State.writeEvrCfg_evolves {ps : List Part} {s0 : State} (hl : Part.sub [.dev] ps = true) (s : State) (v : Word)
    (h : Evolves ps s0 s) : Evolves ps s0 (State.writeEvrCfg s v) := by
  refine h.trans ?_; clear h
  unfold State.writeEvrCfg
  try dsimp only
  repeat' first
    | (with_reducible first | exact .refl _ | assumption | apply State.modDev_evolves | apply State.devErr_evolves | rfl)
    | exact Part.of hl rfl
    | split | intro _

theorem State.writeEvrHead_evolves {ps : List Part} {s0 : State} (hl : Part.sub [.dev] ps = true) (s : State) (v : Word)
    (h : Evolves ps s0 s) : Evolves ps s0 (State.writeEvrHead s v) := by
  refine h.trans ?_; clear h
  unfold State.writeEvrHead
  try dsimp only
  repeat' first
    | (with_reducible first | exact .refl _ | assumption | apply State.modDev_evolves | apply State.devErr_evolves | rfl)
    | exact Part.of hl rfl
    | split | intro _

theorem State.writeIrqMask_evolves {ps : List Part} {s0 : State} (hl : Part.sub [.dev, .counts, .out, .pba] ps = true) (s : State) (v : Word)
    (h : Evolves ps s0 s) : Evolves ps s0 (State.writeIrqMask s v) := by
  refine h.trans ?_; clear h
  unfold State.writeIrqMask
  try dsimp only
  repeat' first
    | (with_reducible first
        | exact .refl _ | assumption | apply State.modDev_evolves | apply State.sendMsix_evolves | apply State.forEach_evolves
        | apply State.devErr_evolves | apply foldl_evolves | rfl)
    | exact Part.of hl rfl
    | split | intro _

theorem State.readSpill_evolves {ps : List Part} {s0 : State} (hl : Part.sub [.dev] ps = true) (s : State)
    (h : Evolves ps s0 s) : Evolves ps s0 ((State.readSpill s)).2 := by
  refine h.trans ?_; clear h
  unfold State.readSpill
  try dsimp only
  repeat' first
    | (with_reducible first | exact .refl _ | assumption | apply State.modDev_evolves | rfl)
    | exact Part.of hl rfl
    | split | intro _

theorem State.setErr_evolves {ps : List Part} {s0 : State} (hl : Part.sub [.flow] ps = true) (s : State) (k : Nat) (e : CmdErr)
    (h : Evolves ps s0 s) : Evolves ps s0 (State.setErr s k e) := by
  refine h.trans ?_; clear h
  unfold State.setErr
  try dsimp only
  repeat' first
    | (with_reducible first | exact .refl _ | assumption | apply State.modSet_evolves | rfl)
    | exact Part.of hl rfl
    | split | intro _

theorem State.formReady_evolves {ps : List Part} {s0 : State} (hl : Part.sub [.dev, .flow, .mram, .cores, .counts, .lpos, .audit, .out, .pba] ps = true) (s : State) (k : Nat)
    (h : Evolves ps s0 s) : Evolves ps s0 (State.formReady s k) := by
  refine h.trans ?_; clear h
  unfold State.formReady
  try dsimp only
  repeat' first
    | (with_reducible first
        | exact .refl _ | assumption | apply State.modSet_evolves | apply State.forEach_evolves | apply State.auditSetPos_evolves
        | apply State.promote_evolves | apply foldl_evolves | rfl)
    | exact Part.of hl rfl
    | split | intro _

theorem State.enableSet_evolves {ps : List Part} {s0 : State} (hl : Part.sub [.slots, .dev, .flow, .mram, .cores, .counts, .lpos, .audit, .out, .pba] ps = true) (s : State) (k : Nat)
    (h : Evolves ps s0 s) : Evolves ps s0 ((State.enableSet s k)).2 := by
  refine h.trans ?_; clear h
  unfold State.enableSet
  try dsimp only
  repeat' first
    | (with_reducible first
        | exact .refl _ | assumption | apply State.modSet_evolves | apply State.keepSet_evolves | apply State.setStateShow_evolves
        | apply State.formReady_evolves | apply State.suspect_evolves | rfl)
    | exact Part.of hl rfl
    | split | intro _

theorem State.settleSet_evolves {ps : List Part} {s0 : State} (hl : Part.sub [.slots, .dev, .flow, .mram, .counts, .out, .pba] ps = true) (s : State) (k : Nat)
    (h : Evolves ps s0 s) : Evolves ps s0 (State.settleSet s k) := by
  refine h.trans ?_; clear h
  unfold State.settleSet
  try dsimp only
  repeat' first
    | (with_reducible first | exact .refl _ | assumption | apply State.modSet_evolves | apply State.setStateShow_evolves | rfl)
    | exact Part.of hl rfl
    | split | intro _

theorem State.disableSet_evolves {ps : List Part} {s0 : State} (hl : Part.sub [.slots, .timers, .dev, .flow, .mram, .cores, .counts, .lpos, .audit, .out, .pba] ps = true) (s : State) (k : Nat)
    (h : Evolves ps s0 s) : Evolves ps s0 ((State.disableSet s k)).2 := by
  refine h.trans ?_; clear h
  unfold State.disableSet
  try dsimp only
  repeat' first
    | (with_reducible first
        | exact .refl _ | assumption | apply State.modSet_evolves | apply State.closeAll_evolves | apply State.actPendAll_evolves
        | apply State.settleSet_evolves | rfl)
    | exact Part.of hl rfl
    | split | intro _

theorem State.clearDiverged_evolves {ps : List Part} {s0 : State} (hl : Part.sub [.flow, .mram] ps = true) (s : State) (k : Nat)
    (h : Evolves ps s0 s) : Evolves ps s0 ((State.clearDiverged s k)).2 := by
  refine h.trans ?_; clear h
  unfold State.clearDiverged
  try dsimp only
  repeat' first
    | (with_reducible first | exact .refl _ | assumption | apply State.modSet_evolves | rfl)
    | exact Part.of hl rfl
    | split | intro _
    | refine Evolves.raw ?_ rfl rfl rfl ⟨rfl, fun p => by cases p <;> first | exact .inl (Part.sub_mem hl (by decide)) | exact .inr rfl⟩
        (fun w => by simp only [State.wf, Mram.wf, Flow.wf, Flow.burst, Bool.and_eq_true] at w ⊢; simp only [w, twf_tset, twf_filter, twf_nil, and_self])

theorem State.ejectPos_evolves {ps : List Part} {s0 : State} (hl : Part.sub [.slots, .dev, .flow, .mram, .cores, .counts, .lpos, .audit, .out, .pba] ps = true) (s : State) (k p : Nat)
    (h : Evolves ps s0 s) : Evolves ps s0 ((State.ejectPos s k p)).2 := by
  refine h.trans ?_; clear h
  unfold State.ejectPos
  try dsimp only
  repeat' first
    | (with_reducible first | exact .refl _ | assumption | apply State.posOut_evolves | rfl)
    | exact Part.of hl rfl
    | split

theorem State.rejoinPos_evolves {ps : List Part} {s0 : State} (hl : Part.sub [.slots, .dev, .flow, .mram, .cores, .counts, .lpos, .audit, .out, .pba] ps = true) (s : State) (k p : Nat)
    (h : Evolves ps s0 s) : Evolves ps s0 ((State.rejoinPos s k p)).2 := by
  refine h.trans ?_; clear h
  unfold State.rejoinPos
  try dsimp only
  repeat' first
    | (with_reducible first
        | exact .refl _ | assumption | apply State.modSet_evolves | apply State.post_evolves | apply State.keepSet_evolves
        | apply State.setStateShow_evolves | apply State.auditSetPos_evolves | apply State.promote_evolves | rfl)
    | exact Part.of hl rfl
    | split | intro _

theorem State.writeSetCtrl_evolves {ps : List Part} {s0 : State} (hl : Part.sub [.slots, .timers, .dev, .flow, .mram, .cores, .counts, .lpos, .audit, .out, .pba] ps = true) (s : State) (ag : Agent) (k : Nat) (w : Word)
    (h : Evolves ps s0 s) : Evolves ps s0 (State.writeSetCtrl s ag k w) := by
  refine h.trans ?_; clear h
  unfold State.writeSetCtrl
  try dsimp only
  repeat' first
    | (with_reducible first
        | exact .refl _ | assumption | apply State.granted_evolves | apply State.setErr_evolves | apply State.enableSet_evolves
        | apply State.disableSet_evolves | apply State.clearDiverged_evolves | apply State.ejectPos_evolves | apply State.rejoinPos_evolves
        | rfl)
    | exact Part.of hl rfl
    | split | intro _

theorem State.writeSet_evolves {ps : List Part} {s0 : State} (hl : Part.sub [.slots, .timers, .dev, .flow, .mram, .cores, .counts, .lpos, .audit, .out, .pba] ps = true) (s : State) (ag : Agent) (k off : Nat) (w : Word)
    (h : Evolves ps s0 s) : Evolves ps s0 (State.writeSet s ag k off w) := by
  refine h.trans ?_; clear h
  unfold State.writeSet
  try dsimp only
  repeat' first
    | (with_reducible first
        | exact .refl _ | assumption | apply State.modSet_evolves | apply State.granted_evolves | apply State.setErr_evolves
        | apply State.writeSetCtrl_evolves | apply State.suspect_evolves | rfl)
    | exact Part.of hl rfl
    | split | intro _

theorem State.suspect_evolves {ps : List Part} {s0 : State} (hl : Part.sub [.flow] ps = true) (s : State) (k : Nat) (l : List Nat)
    (h : Evolves ps s0 s) : Evolves ps s0 (State.suspect s k l) := by
  refine h.trans ?_; clear h
  unfold State.suspect
  try dsimp only
  repeat' first
    | (with_reducible first | exact .refl _ | assumption | apply State.modSet_evolves | rfl)
    | exact Part.of hl rfl
    | split | intro _

theorem State.endSetTxn_evolves {ps : List Part} {s0 : State} (hl : Part.sub [.slots, .timers, .dev, .flow, .mram, .cores, .counts, .lpos, .audit, .out, .pba] ps = true) (s : State) (t k : Nat) (cls : OClass) (status : Nat) (resp : List Byte) (sus : List Nat)
    (h : Evolves ps s0 s) : Evolves ps s0 (State.endSetTxn s t k cls status resp sus) := by
  refine h.trans ?_; clear h
  unfold State.endSetTxn
  try dsimp only
  repeat' first
    | (with_reducible first
        | exact .refl _ | assumption | apply State.freeSlots_evolves | apply State.requestOutcome_evolves | apply State.actPendAll_evolves
        | apply State.settleSet_evolves | rfl)
    | exact Part.of hl rfl
    | split | intro _

theorem State.decideSet_evolves {ps : List Part} {s0 : State} (hl : Part.sub [.slots, .timers, .dev, .flow, .mram, .cores, .counts, .lpos, .audit, .out, .pba] ps = true) (s : State) (t k : Nat) (x : Txn)
    (h : Evolves ps s0 s) : Evolves ps s0 (State.decideSet s t k x) := by
  refine h.trans ?_; clear h
  unfold State.decideSet
  try dsimp only
  repeat' first
    | (with_reducible first
        | exact .refl _ | assumption | apply State.modSet_evolves | apply State.tally_evolves | apply State.irq_evolves
        | apply State.post_evolves | apply State.forEach_evolves | apply State.keepSet_evolves | apply State.posOut_evolves
        | apply State.suspect_evolves | apply State.endSetTxn_evolves | apply foldl_evolves | rfl)
    | exact Part.of hl rfl
    | split | intro _

theorem State.endNoCompare_evolves {ps : List Part} {s0 : State} (hl : Part.sub [.slots, .timers, .dev, .flow, .mram, .cores, .counts, .lpos, .audit, .crypto, .out, .pba] ps = true) (s : State) (t k : Nat) (x : Txn)
    (h : Evolves ps s0 s) : Evolves ps s0 (State.endNoCompare s t k x) := by
  refine h.trans ?_; clear h
  unfold State.endNoCompare
  try dsimp only
  repeat' first
    | (with_reducible first | exact .refl _ | assumption | apply State.modRounds_evolves | apply State.runRound_evolves | apply State.endSetTxn_evolves | rfl)
    | exact Part.of hl rfl
    | split | intro _

theorem State.writeTemper_evolves {ps : List Part} {s0 : State} (hl : Part.sub [.slots, .dev, .counts] ps = true) (s : State) (ag : Agent) (i off : Nat) (w : Word)
    (h : Evolves ps s0 s) : Evolves ps s0 (State.writeTemper s ag i off w) := by
  refine h.trans ?_; clear h
  unfold State.writeTemper
  try dsimp only
  repeat' first
    | (with_reducible first | exact .refl _ | assumption | apply State.modSlot_evolves | apply State.granted_evolves | apply State.slotErr_evolves | rfl)
    | exact Part.of hl rfl
    | split | intro _

theorem State.dutyFull_evolves {ps : List Part} {s0 : State} (hl : Part.sub [.now, .slots, .timers, .tide, .dev, .flow, .mram, .cores, .telemetry, .counts, .lpos, .audit, .crypto, .loops, .out, .pba] ps = true) (s : State) (i : Nat) (highs : List Nat)
    (h : Evolves ps s0 s) : Evolves ps s0 (State.dutyFull s i highs) := by
  refine h.trans ?_; clear h
  unfold State.dutyFull
  try dsimp only
  repeat' first
    | (with_reducible first | exact .refl _ | assumption | apply State.modSlot_evolves | apply State.elapseTo_evolves | apply State.dutyEnd_evolves | rfl)
    | exact Part.of hl rfl
    | split | intro _

theorem State.convErr_evolves {ps : List Part} {s0 : State} (hl : Part.sub [.polders] ps = true) (s : State) (p : Nat) (e : CmdErr)
    (h : Evolves ps s0 s) : Evolves ps s0 (State.convErr s p e) := by
  refine h.trans ?_; clear h
  unfold State.convErr
  try dsimp only
  repeat' first
    | (with_reducible first | exact .refl _ | assumption | apply State.modPolder_evolves | rfl)
    | exact Part.of hl rfl
    | split | intro _

theorem State.convTakeUp_evolves {ps : List Part} {s0 : State} (hl : Part.sub [.polders] ps = true) (s : State) (p : Nat)
    (h : Evolves ps s0 s) : Evolves ps s0 (State.convTakeUp s p) := by
  refine h.trans ?_; clear h
  unfold State.convTakeUp
  try dsimp only
  repeat' first
    | (with_reducible first | exact .refl _ | assumption | apply State.modPolder_evolves | rfl)
    | exact Part.of hl rfl
    | split | intro _

theorem State.writeConvReq_evolves {ps : List Part} {s0 : State} (hl : Part.sub [.slots, .polders, .dev, .counts] ps = true) (s : State) (ag : Agent) (p : Nat) (w : Word)
    (h : Evolves ps s0 s) : Evolves ps s0 (State.writeConvReq s ag p w) := by
  refine h.trans ?_; clear h
  unfold State.writeConvReq
  try dsimp only
  repeat' first
    | (with_reducible first
        | exact .refl _ | assumption | apply State.modPolder_evolves | apply State.granted_evolves | apply State.restartClock_evolves
        | apply State.convErr_evolves | apply State.convTakeUp_evolves | rfl)
    | exact Part.of hl rfl
    | split | intro _

theorem State.reqSample_evolves {ps : List Part} {s0 : State} (hl : Part.sub [.polders, .dev, .counts, .out, .pba] ps = true) (s : State) (p code : Nat)
    (h : Evolves ps s0 s) : Evolves ps s0 (State.reqSample s p code) := by
  refine h.trans ?_; clear h
  unfold State.reqSample
  try dsimp only
  repeat' first
    | (with_reducible first | exact .refl _ | assumption | apply State.modPolder_evolves | apply State.post_evolves | apply foldl_evolves | rfl)
    | exact Part.of hl rfl
    | split | intro _

theorem State.convGive_evolves {ps : List Part} {s0 : State} (hl : Part.sub [.slots, .polders, .timers, .dev, .flow, .mram, .cores, .telemetry, .counts, .lpos, .audit, .crypto, .loops, .out, .pba] ps = true) (s : State) (p : Nat) (u : ConvUser) (code : Nat)
    (h : Evolves ps s0 s) : Evolves ps s0 (State.convGive s p u code) := by
  refine h.trans ?_; clear h
  unfold State.convGive
  try dsimp only
  repeat' first
    | (with_reducible first
        | exact .refl _ | assumption | apply State.modPolder_evolves | apply State.settle_evolves | apply State.convTake_evolves
        | apply State.reqSample_evolves | rfl)
    | exact Part.of hl rfl
    | split | intro _

theorem State.writePolder_evolves {ps : List Part} {s0 : State} (hl : Part.sub [.slots, .polders, .dev, .counts] ps = true) (s : State) (ag : Agent) (p off : Nat) (w : Word)
    (h : Evolves ps s0 s) : Evolves ps s0 (State.writePolder s ag p off w) := by
  refine h.trans ?_; clear h
  unfold State.writePolder
  try dsimp only
  repeat' first
    | (with_reducible first
        | exact .refl _ | assumption | apply State.modPolder_evolves | apply State.granted_evolves | apply State.convErr_evolves
        | apply State.writeConvReq_evolves | rfl)
    | exact Part.of hl rfl
    | split | intro _

theorem State.readPolder_evolves {ps : List Part} {s0 : State} (hl : Part.sub [.polders] ps = true) (s : State) (p off : Nat)
    (h : Evolves ps s0 s) : Evolves ps s0 ((State.readPolder s p off)).2 := by
  refine h.trans ?_; clear h
  unfold State.readPolder
  try dsimp only
  repeat' first
    | (with_reducible first | exact .refl _ | assumption | apply State.readTherm_evolves | rfl)
    | exact Part.of hl rfl
    | split

end Sys2Proof.Machine
end

