-- ==== Sys2Proof/Laws/EvolvesDevice.lean ====
section
/-! SUPPORT. What each operation may do to the whole state: the operations over the ledger ports, the ring, the tray bus, the registers, the cores, the dictionary, the life cycle and the test port (Ledger.lean to Tap.lean). -/

namespace Sys2Proof.Machine

theorem State.switchRemoved_evolves {ps : List Part} {s0 : State} (hl : Part.sub [.ports] ps = true) (s : State) (p a : Nat)
    (h : Evolves ps s0 s) : Evolves ps s0 (State.switchRemoved s p a) := by
  refine h.trans ?_; clear h
  unfold State.switchRemoved
  try dsimp only
  repeat' first
    | (with_reducible first | exact .refl _ | assumption | apply State.modPort_evolves | apply State.ledgerStop_evolves | rfl)
    | exact Part.of hl rfl
    | split | intro _

theorem State.cleanupCard_evolves {ps : List Part} {s0 : State} (hl : Part.sub [.now, .timers, .tide, .dev, .cores, .counts, .ports, .lpos, .loops, .out, .pba] ps = true) (s : State) (p a : Nat) (x : Option CleanupAnswer)
    (h : Evolves ps s0 s) : Evolves ps s0 (State.cleanupCard s p a x) := by
  refine h.trans ?_; clear h
  unfold State.cleanupCard
  try dsimp only
  repeat' first
    | (with_reducible first | exact .refl _ | assumption | apply State.setLp_evolves | apply State.lcmd_evolves | apply State.elapse_evolves | rfl)
    | exact Part.of hl rfl
    | split

theorem State.checkStrays_evolves {ps : List Part} {s0 : State} (hl : Part.sub [.ports, .out] ps = true) (s : State) (p : Nat) (l : List Bool)
    (h : Evolves ps s0 s) : Evolves ps s0 (State.checkStrays s p l) := by
  refine h.trans ?_; clear h
  unfold State.checkStrays
  try dsimp only
  repeat' first
    | (with_reducible first
        | exact .refl _ | assumption | apply State.modPort_evolves | apply State.lcmd_evolves | apply State.lclk_evolves
        | apply foldl_evolves | rfl)
    | exact Part.of hl rfl
    | split | intro _

theorem State.setBinding_evolves {ps : List Part} {s0 : State} (hl : Part.sub [.mram] ps = true) (s : State) (k : Nat) (c : BitVec 128)
    (h : Evolves ps s0 s) : Evolves ps s0 (State.setBinding s k c) := by
  refine h.trans ?_; clear h
  unfold State.setBinding
  try dsimp only
  repeat' first
    | (with_reducible first | exact .refl _ | assumption | apply State.persist_evolves | rfl)
    | exact Part.of hl rfl
    | split

theorem State.placeCard_evolves {ps : List Part} {s0 : State} (hl : Part.sub [.mram, .lpos] ps = true) (s : State) (p a rca : Nat) (c : FoundCard)
    (h : Evolves ps s0 s) : Evolves ps s0 (State.placeCard s p a rca c) := by
  refine h.trans ?_; clear h
  unfold State.placeCard
  try dsimp only
  repeat' first
    | (with_reducible first
        | exact .refl _ | assumption | apply State.modLp_evolves | apply State.forEach_evolves | apply State.setBinding_evolves
        | apply foldl_evolves | rfl)
    | exact Part.of hl rfl
    | split | intro _

theorem State.bringReady_evolves {ps : List Part} {s0 : State} (hl : Part.sub [.dev, .cores, .counts, .lpos, .loops, .out, .pba] ps = true) (s : State) (p a : Nat) (c : FoundCard)
    (h : Evolves ps s0 s) : Evolves ps s0 (State.bringReady s p a c) := by
  refine h.trans ?_; clear h
  unfold State.bringReady
  try dsimp only
  repeat' first
    | (with_reducible first | exact .refl _ | assumption | apply State.modLp_evolves | apply State.setLp_evolves | rfl)
    | exact Part.of hl rfl
    | split | intro _

theorem State.bringUp_evolves {ps : List Part} {s0 : State} (hl : Part.sub [.dev, .cores, .counts, .ports, .lpos, .loops, .out, .pba] ps = true) (s : State) (p a : Nat) (c : FoundCard)
    (h : Evolves ps s0 s) : Evolves ps s0 (State.bringUp s p a c) := by
  refine h.trans ?_; clear h
  unfold State.bringUp
  try dsimp only
  repeat' first
    | (with_reducible first
        | exact .refl _ | assumption | apply State.setLp_evolves | apply State.lcmd_evolves | apply State.lcmd0_evolves
        | apply State.bringReady_evolves | rfl)
    | exact Part.of hl rfl
    | split

theorem State.giveRcas_evolves {ps : List Part} {s0 : State} (hl : Part.sub [.ports, .out] ps = true) (s : State) (p : Nat) (m : List (Nat × Nat × FoundCard) × List (Nat × FoundCard)) (found : List FoundCard)
    (h : Evolves ps s0 s) : Evolves ps s0 (State.giveRcas s p m found) := by
  refine h.trans ?_; clear h
  unfold State.giveRcas
  try dsimp only
  repeat' first
    | (with_reducible first | exact .refl _ | assumption | apply State.lcmd_evolves | apply foldl_evolves | rfl)
    | exact Part.of hl rfl
    | split | intro _

theorem State.identify_evolves {ps : List Part} {s0 : State} (hl : Part.sub [.dev, .mram, .cores, .counts, .ports, .lpos, .loops, .out, .pba, .freeCount] ps = true) (s : State) (p : Nat) (l : List Nat) (found : List FoundCard)
    (h : Evolves ps s0 s) : Evolves ps s0 (State.identify s p l found) := by
  refine h.trans ?_; clear h
  unfold State.identify
  try dsimp only
  repeat' first
    | (with_reducible first
        | exact .refl _ | assumption | apply State.modPort_evolves | apply State.irq_evolves | apply State.free_evolves
        | apply State.forEach_evolves | apply State.lpost_evolves | apply State.setLp_evolves | apply State.lclk_evolves
        | apply State.atFree_evolves | apply State.applyRate_evolves | apply State.placeCard_evolves | apply State.bringUp_evolves
        | apply State.giveRcas_evolves | apply foldl_evolves | rfl)
    | exact Part.of hl rfl
    | split | intro _

theorem State.ledgerStage3_evolves {ps : List Part} {s0 : State} (hl : Part.sub [.slots, .flow] ps = true) (s : State) (t o : Nat)
    (h : Evolves ps s0 s) : Evolves ps s0 (State.ledgerStage3 s t o) := by
  refine h.trans ?_; clear h
  unfold State.ledgerStage3
  try dsimp only
  repeat' first
    | (with_reducible first | exact .refl _ | assumption | apply State.modTxn_evolves | apply State.endEarly_evolves | rfl)
    | exact Part.of hl rfl
    | split | intro _

theorem State.takeLedger_evolves {ps : List Part} {s0 : State} (hl : Part.sub [.slots, .flow, .ports] ps = true) (s : State) (p t : Nat)
    (h : Evolves ps s0 s) : Evolves ps s0 (State.takeLedger s p t) := by
  refine h.trans ?_; clear h
  unfold State.takeLedger
  try dsimp only
  repeat' first
    | (with_reducible first | exact .refl _ | assumption | apply State.modTxn_evolves | apply State.modPort_evolves | apply State.endEarly_evolves | rfl)
    | exact Part.of hl rfl
    | split | intro _

theorem State.nextJob_evolves {ps : List Part} {s0 : State} (hl : Part.sub [.slots, .flow, .mram, .ports, .lpos, .out] ps = true) (s : State) (p : Nat)
    (h : Evolves ps s0 s) : Evolves ps s0 (State.nextJob s p) := by
  refine h.trans ?_; clear h
  unfold State.nextJob
  try dsimp only
  repeat' first
    | (with_reducible first | exact .refl _ | assumption | apply State.startMirror_evolves | apply State.takeLedger_evolves | rfl)
    | exact Part.of hl rfl
    | split

theorem State.lpErr_evolves {ps : List Part} {s0 : State} (hl : Part.sub [.ports] ps = true) (s : State) (p : Nat) (e : CmdErr)
    (h : Evolves ps s0 s) : Evolves ps s0 (State.lpErr s p e) := by
  refine h.trans ?_; clear h
  unfold State.lpErr
  try dsimp only
  repeat' first
    | (with_reducible first | exact .refl _ | assumption | apply State.modPort_evolves | rfl)
    | exact Part.of hl rfl
    | split | intro _

theorem State.askFormat_evolves {ps : List Part} {s0 : State} (hl : Part.sub [.lpos] ps = true) (s : State) (k : Nat)
    (h : Evolves ps s0 s) : Evolves ps s0 ((State.askFormat s k)).2 := by
  refine h.trans ?_; clear h
  unfold State.askFormat
  try dsimp only
  repeat' first
    | (with_reducible first | exact .refl _ | assumption | apply State.modLp_evolves | rfl)
    | exact Part.of hl rfl
    | split | intro _

theorem State.writeLpCtrl_evolves {ps : List Part} {s0 : State} (hl : Part.sub [.dev, .mram, .counts, .ports, .lpos] ps = true) (s : State) (ag : Agent) (p : Nat) (w : Word)
    (h : Evolves ps s0 s) : Evolves ps s0 (State.writeLpCtrl s ag p w) := by
  refine h.trans ?_; clear h
  unfold State.writeLpCtrl
  try dsimp only
  repeat' first
    | (with_reducible first
        | exact .refl _ | assumption | apply State.modPort_evolves | apply State.granted_evolves | apply State.setBinding_evolves
        | apply State.lpErr_evolves | apply State.askFormat_evolves | rfl)
    | exact Part.of hl rfl
    | split | intro _

theorem State.endLedgerWaiters_evolves {ps : List Part} {s0 : State} (hl : Part.sub [.slots, .flow] ps = true) (s : State) (p : Nat)
    (h : Evolves ps s0 s) : Evolves ps s0 (State.endLedgerWaiters s p) := by
  refine h.trans ?_; clear h
  unfold State.endLedgerWaiters
  try dsimp only
  repeat' first
    | (with_reducible first | exact .refl _ | assumption | apply State.forEach_evolves | apply State.endEarly_evolves | apply foldl_evolves | rfl)
    | exact Part.of hl rfl
    | split | intro _

theorem State.loadLpCfg_evolves {ps : List Part} {s0 : State} (hl : Part.sub [.slots, .flow, .ports, .lpos, .loops] ps = true) (s : State) (p : Nat) (v : Word)
    (h : Evolves ps s0 s) : Evolves ps s0 (State.loadLpCfg s p v) := by
  refine h.trans ?_; clear h
  unfold State.loadLpCfg
  try dsimp only
  repeat' first
    | (with_reducible first
        | exact .refl _ | assumption | apply State.modPort_evolves | apply State.failLoop_evolves | apply State.atFree_evolves
        | apply State.endLedgerWaiters_evolves | rfl)
    | exact Part.of hl rfl
    | split | intro _

theorem State.writeLpCfg_evolves {ps : List Part} {s0 : State} (hl : Part.sub [.slots, .flow, .ports, .lpos, .loops] ps = true) (s : State) (p : Nat) (v : Word)
    (h : Evolves ps s0 s) : Evolves ps s0 (State.writeLpCfg s p v) := by
  refine h.trans ?_; clear h
  unfold State.writeLpCfg
  try dsimp only
  repeat' first
    | (with_reducible first | exact .refl _ | assumption | apply State.lpErr_evolves | apply State.loadLpCfg_evolves | rfl)
    | exact Part.of hl rfl
    | split

theorem State.loadPosCfg_evolves {ps : List Part} {s0 : State} (hl : Part.sub [.ports, .lpos] ps = true) (s : State) (k : Nat) (v : Word)
    (h : Evolves ps s0 s) : Evolves ps s0 (State.loadPosCfg s k v) := by
  refine h.trans ?_; clear h
  unfold State.loadPosCfg
  try dsimp only
  repeat' first
    | (with_reducible first | exact .refl _ | assumption | apply State.modLp_evolves | apply State.atFree_evolves | rfl)
    | exact Part.of hl rfl
    | split | intro _

theorem State.writePort_evolves {ps : List Part} {s0 : State} (hl : Part.sub [.slots, .dev, .flow, .mram, .counts, .ports, .lpos, .loops] ps = true) (s : State) (ag : Agent) (p off : Nat) (w : Word)
    (h : Evolves ps s0 s) : Evolves ps s0 (State.writePort s ag p off w) := by
  refine h.trans ?_; clear h
  unfold State.writePort
  try dsimp only
  repeat' first
    | (with_reducible first
        | exact .refl _ | assumption | apply State.modPort_evolves | apply State.modLp_evolves | apply State.granted_evolves
        | apply State.lpErr_evolves | apply State.writeLpCtrl_evolves | apply State.writeLpCfg_evolves | apply State.loadPosCfg_evolves
        | rfl)
    | exact Part.of hl rfl
    | split | intro _

theorem State.modRing_evolves {ps : List Part} {s0 s : State} (hl : Part.sub [.ring] ps = true) {f : Ring → Ring} (h : Evolves ps s0 s) (h1 : (f s.ring).txQ = s.ring.txQ)
    (h2 : (f s.ring).rxQ = s.ring.rxQ) : Evolves ps s0 (s.modRing f) := by
  refine h.trans ⟨⟨rfl, fun p => by cases p <;> first | exact .inl (Part.sub_mem hl (by decide)) | exact .inr rfl⟩, id, ?_, Nat.le_refl _, List.prefix_refl _⟩
  intro b; simp only [State.bounded, State.modRing, h1, h2] at b ⊢; exact b

theorem State.ringDiscard_evolves {ps : List Part} {s0 : State} (hl : Part.sub [.counts, .ring] ps = true) (s : State) (n : Nat)
    (h : Evolves ps s0 s) : Evolves ps s0 (State.ringDiscard s n) := by
  refine h.trans ?_; clear h
  unfold State.ringDiscard
  try dsimp only
  repeat' first
    | (with_reducible first | exact .refl _ | assumption | apply State.tally_evolves | apply State.modRing_evolves | rfl)
    | exact Part.of hl rfl
    | split | intro _

theorem State.residence_evolves {ps : List Part} {s0 : State} (hl : Part.sub [.freeCount] ps = true) (s : State)
    (h : Evolves ps s0 s) : Evolves ps s0 ((State.residence s)).2 := by
  refine h.trans ?_; clear h
  unfold State.residence
  try dsimp only
  repeat' first
    | (with_reducible first | exact .refl _ | assumption | apply State.free_evolves | rfl)
    | exact Part.of hl rfl
    | split

theorem State.ringLeave_evolves {ps : List Part} {s0 : State} (hl : Part.sub [.ring, .out] ps = true) (s : State) (w : RingWait) (t : Nat)
    (h : Evolves ps s0 s) : Evolves ps s0 (State.ringLeave s w t) := by
  refine h.trans ?_; clear h
  unfold State.ringLeave
  try dsimp only
  repeat' first
    | (with_reducible first | exact .refl _ | assumption | apply State.emit_evolves | apply State.modRing_evolves | rfl)
    | exact Part.of hl rfl
    | split | intro _

theorem State.ringDrain_evolves {ps : List Part} {s0 : State} (hl : Part.sub [.ring, .out] ps = true) (s : State) (n : Nat) (h : Evolves ps s0 s) : Evolves ps s0 (s.ringDrain n) := by
  induction n generalizing s with
  | zero => exact h
  | succ n ih =>
    unfold State.ringDrain
    split
    · exact h
    · split
      · exact h
      · exact ih _ (State.ringLeave_evolves (Part.of hl rfl) _ _ _ (State.modRing_evolves (Part.of hl rfl) h rfl rfl))

theorem State.ringOffer_evolves {ps : List Part} {s0 : State} (hl : Part.sub [.ring, .out, .freeCount] ps = true) (s : State) (w : RingWait)
    (h : Evolves ps s0 s) : Evolves ps s0 (State.ringOffer s w) := by
  refine h.trans ?_; clear h
  unfold State.ringOffer
  try dsimp only
  repeat' first
    | (with_reducible first
        | exact .refl _ | assumption | apply State.modRing_evolves | apply State.residence_evolves | apply State.ringLeave_evolves
        | apply State.ringDrain_evolves | rfl)
    | exact Part.of hl rfl
    | split | intro _

theorem State.ringSend_evolves {ps : List Part} {s0 : State} (hl : Part.sub [.ring, .out, .freeCount] ps = true) (s : State) (f : Frame) (firm : Bool)
    (h : Evolves ps s0 s) : Evolves ps s0 (State.ringSend s f firm) := by
  refine h.trans ?_; clear h
  unfold State.ringSend
  try dsimp only
  repeat' first
    | (with_reducible first | exact .refl _ | assumption | apply State.modRing_evolves | apply State.ringOffer_evolves | rfl)
    | exact Part.of hl rfl
    | split | intro _

theorem State.ringNew_evolves {ps : List Part} {s0 : State} (hl : Part.sub [.ring] ps = true) (s : State) (typ flags dst : Nat) (payload : List Byte)
    (h : Evolves ps s0 s) : Evolves ps s0 ((State.ringNew s typ flags dst payload)).2 := by
  refine h.trans ?_; clear h
  unfold State.ringNew
  try dsimp only
  repeat' first
    | (with_reducible first | exact .refl _ | assumption | apply State.modRing_evolves | rfl)
    | exact Part.of hl rfl
    | split | intro _

theorem State.ringPut_evolves {ps : List Part} {s0 : State} (hl : Part.sub [.ring, .out, .freeCount] ps = true) (s : State) (typ flags dst : Nat) (payload : List Byte)
    (h : Evolves ps s0 s) : Evolves ps s0 (State.ringPut s typ flags dst payload) := by
  refine h.trans ?_; clear h
  unfold State.ringPut
  try dsimp only
  repeat' first
    | (with_reducible first | exact .refl _ | assumption | apply State.ringSend_evolves | apply State.ringNew_evolves | rfl)
    | exact Part.of hl rfl
    | split

theorem State.ringForward_evolves {ps : List Part} {s0 : State} (hl : Part.sub [.ring, .out, .freeCount] ps = true) (s : State) (f : Frame)
    (h : Evolves ps s0 s) : Evolves ps s0 (State.ringForward s f) := by
  refine h.trans ?_; clear h
  unfold State.ringForward
  try dsimp only
  repeat' first
    | (with_reducible first | exact .refl _ | assumption | apply State.ringOffer_evolves | rfl)
    | exact Part.of hl rfl
    | split

theorem State.ringDrop_evolves {ps : List Part} {s0 : State} (hl : Part.sub [.counts, .ring, .out, .freeCount] ps = true) (s : State) (f : Frame) (n : Nat)
    (h : Evolves ps s0 s) : Evolves ps s0 (State.ringDrop s f n) := by
  refine h.trans ?_; clear h
  unfold State.ringDrop
  try dsimp only
  repeat' first
    | (with_reducible first | exact .refl _ | assumption | apply State.ringDiscard_evolves | apply State.residence_evolves | apply State.ringOffer_evolves | rfl)
    | exact Part.of hl rfl
    | split

theorem State.ringOpen_evolves {ps : List Part} {s0 : State} (hl : Part.sub [.dev, .counts, .ring, .loops, .out, .pba] ps = true) (s : State) (code : Nat)
    (h : Evolves ps s0 s) : Evolves ps s0 (State.ringOpen s code) := by
  refine h.trans ?_; clear h
  unfold State.ringOpen
  try dsimp only
  repeat' first
    | (with_reducible first
        | exact .refl _ | assumption | apply State.failLoop_evolves | apply State.irq_evolves | apply State.post_evolves
        | apply State.modRing_evolves | rfl)
    | exact Part.of hl rfl
    | split | intro _

theorem State.setAddrState_evolves {ps : List Part} {s0 : State} (hl : Part.sub [.dev, .counts, .ring, .out, .pba] ps = true) (s : State) (n : Nat)
    (h : Evolves ps s0 s) : Evolves ps s0 (State.setAddrState s n) := by
  refine h.trans ?_; clear h
  unfold State.setAddrState
  try dsimp only
  repeat' first
    | (with_reducible first | exact .refl _ | assumption | apply State.irq_evolves | apply State.post_evolves | apply State.modRing_evolves | rfl)
    | exact Part.of hl rfl
    | split | intro _

theorem State.enumTake_evolves {ps : List Part} {s0 : State} (hl : Part.sub [.now, .timers, .tide, .dev, .mram, .cores, .counts, .ring, .out, .pba] ps = true) (s : State) (pass : Nat) (hop : Nat) (l : List Member)
    (h : Evolves ps s0 s) : Evolves ps s0 ((State.enumTake s pass hop l)).2 := by
  refine h.trans ?_; clear h
  unfold State.enumTake
  try dsimp only
  repeat' first
    | (with_reducible first
        | exact .refl _ | assumption | apply State.persist_evolves | apply State.pass_evolves | apply State.modRing_evolves
        | apply State.setAddrState_evolves | rfl)
    | exact Part.of hl rfl
    | split | intro _

theorem State.enumPassStart_evolves {ps : List Part} {s0 : State} (hl : Part.sub [.now, .timers, .tide, .dev, .mram, .cores, .counts, .ring, .loops, .out, .pba, .freeCount] ps = true) (s : State) (pass : Nat) (l : List Member)
    (h : Evolves ps s0 s) : Evolves ps s0 (State.enumPassStart s pass l) := by
  refine h.trans ?_; clear h
  unfold State.enumPassStart
  try dsimp only
  repeat' first
    | (with_reducible first
        | exact .refl _ | assumption | apply State.failLoop_evolves | apply State.pass_evolves | apply State.modRing_evolves
        | apply State.ringPut_evolves | apply State.enumTake_evolves | rfl)
    | exact Part.of hl rfl
    | split | intro _

theorem State.measureHop_evolves {ps : List Part} {s0 : State} (hl : Part.sub [.ring, .loops, .out, .freeCount] ps = true) (s : State) (h n : Nat) (hs : Evolves ps s0 s) : Evolves ps s0 (s.measureHop h n) :=
  State.ringPut_evolves (Part.of hl rfl) _ _ _ _ _ (State.modRing_evolves (Part.of hl rfl) (State.failLoop_evolves (Part.of hl rfl) _ _ _ hs) rfl rfl)

theorem State.auditMember_evolves {ps : List Part} {s0 : State} (hl : Part.sub [.dev, .flow, .mram, .cores, .counts, .lpos, .audit, .out, .pba] ps = true) (s : State) (m : Member) (joined : Bool)
    (h : Evolves ps s0 s) : Evolves ps s0 (State.auditMember s m joined) := by
  refine h.trans ?_; clear h
  unfold State.auditMember
  try dsimp only
  repeat' first
    | (with_reducible first | exact .refl _ | assumption | apply State.auditRoutine_evolves | rfl)
    | exact Part.of hl rfl
    | split

theorem State.enumDone_evolves {ps : List Part} {s0 : State} (hl : Part.sub [.dev, .flow, .mram, .cores, .counts, .lpos, .audit, .ring, .loops, .out, .pba, .freeCount] ps = true) (s : State) (l : List Member) (h : Evolves ps s0 s) : Evolves ps s0 (s.enumDone l) := by
  unfold State.enumDone
  refine State.measureHop_evolves (Part.of hl rfl) _ _ _ (State.post_evolves (Part.of hl rfl) _ _ _ _ _ (foldl_evolves _ _ (foldl_evolves _ _ (State.modRing_evolves (Part.of hl rfl) h rfl rfl) ?_) ?_)) <;> intro u m
  · exact State.auditMember_evolves (Part.of hl rfl) _ _ _ (State.irq_evolves (Part.of hl rfl) _ _ (State.post_evolves (Part.of hl rfl) _ _ _ _ _ (Evolves.refl u)))
  · exact State.auditMember_evolves (Part.of hl rfl) _ _ _ (State.post_evolves (Part.of hl rfl) _ _ _ _ _ (Evolves.refl u))

theorem State.schedFrame_evolves {ps : List Part} {s0 : State} (hl : Part.sub [.ring, .out, .freeCount] ps = true) (s : State) (p : List Byte)
    (h : Evolves ps s0 s) : Evolves ps s0 (State.schedFrame s p) := by
  refine h.trans ?_; clear h
  unfold State.schedFrame
  try dsimp only
  repeat' first
    | (with_reducible first | exact .refl _ | assumption | apply State.modRing_evolves | apply State.ringPut_evolves | rfl)
    | exact Part.of hl rfl
    | split | intro _

theorem State.ringFlush_evolves {ps : List Part} {s0 : State} (hl : Part.sub [.ring, .out, .freeCount] ps = true) (s : State) (h : Evolves ps s0 s) : Evolves ps s0 s.ringFlush := by
  unfold State.ringFlush
  split
  · refine (foldl_evolves (fun s f => s.ringSend f true) s.ring.txQ h fun u f => State.ringSend_evolves (Part.of hl rfl) _ _ _ (Evolves.refl u)).trans
      ⟨⟨rfl, fun p => by cases p <;> first | exact .inl (Part.sub_mem hl (by decide)) | exact .inr rfl⟩, id, fun b => ?_, Nat.le_refl _, List.prefix_refl _⟩
    rw [bounded_iff] at b ⊢
    exact ⟨b.1, Nat.zero_le _, b.2.2⟩
  · exact h

theorem State.schedEnd_evolves {ps : List Part} {s0 : State} (hl : Part.sub [.dev, .counts, .ring, .out, .pba] ps = true) (s : State) (res : Nat)
    (h : Evolves ps s0 s) : Evolves ps s0 (State.schedEnd s res) := by
  refine h.trans ?_; clear h
  unfold State.schedEnd
  try dsimp only
  repeat' first
    | (with_reducible first | exact .refl _ | assumption | apply State.irq_evolves | apply State.post_evolves | apply State.modRing_evolves | rfl)
    | exact Part.of hl rfl
    | split | intro _

theorem State.schedSettle_evolves {ps : List Part} {s0 : State} (hl : Part.sub [.dev, .counts, .ring, .out, .pba] ps = true) (s : State)
    (h : Evolves ps s0 s) : Evolves ps s0 (State.schedSettle s) := by
  refine h.trans ?_; clear h
  unfold State.schedSettle
  try dsimp only
  repeat' first
    | (with_reducible first | exact .refl _ | assumption | apply State.schedEnd_evolves | rfl)
    | exact Part.of hl rfl
    | split | intro _

theorem State.schedAck_evolves {ps : List Part} {s0 : State} (hl : Part.sub [.ring] ps = true) (s : State) (a : Nat) (late : Bool)
    (h : Evolves ps s0 s) : Evolves ps s0 (State.schedAck s a late) := by
  refine h.trans ?_; clear h
  unfold State.schedAck
  try dsimp only
  repeat' first
    | (with_reducible first | exact .refl _ | assumption | apply State.modRing_evolves | rfl)
    | exact Part.of hl rfl
    | split | intro _

theorem State.schedAct_evolves {ps : List Part} {s0 : State} (hl : Part.sub [.slots, .timers, .tide, .dev, .flow, .mram, .cores, .telemetry, .counts, .lpos, .audit, .crypto, .loops, .out, .pba] ps = true) (s : State) (p : List Byte)
    (h : Evolves ps s0 s) : Evolves ps s0 ((State.schedAct s p)).1 := by
  refine h.trans ?_; clear h
  unfold State.schedAct
  try dsimp only
  repeat' first
    | (with_reducible first
        | exact .refl _ | assumption | apply State.modSlot_evolves | apply State.modTide_evolves | apply State.forEach_evolves
        | apply State.writeSlotCtrl_evolves | apply State.writeActAtHi_evolves | apply State.writeDeactAtHi_evolves
        | apply State.writeAlarmHi_evolves | apply foldl_evolves | rfl)
    | exact Part.of hl rfl
    | split | intro _

theorem State.schedRemember_evolves {ps : List Part} {s0 : State} (hl : Part.sub [.ring] ps = true) (s : State) (id : Nat) (late : Bool)
    (h : Evolves ps s0 s) : Evolves ps s0 (State.schedRemember s id late) := by
  refine h.trans ?_; clear h
  unfold State.schedRemember
  try dsimp only
  repeat' first
    | (with_reducible first | exact .refl _ | assumption | apply State.modRing_evolves | rfl)
    | exact Part.of hl rfl
    | split | intro _

theorem State.schedLaunch_evolves {ps : List Part} {s0 : State} (hl : Part.sub [.slots, .timers, .tide, .dev, .flow, .mram, .cores, .telemetry, .counts, .lpos, .audit, .crypto, .ring, .loops, .out, .pba, .freeCount] ps = true) (s : State) (p : List Byte)
    (h : Evolves ps s0 s) : Evolves ps s0 (State.schedLaunch s p) := by
  refine h.trans ?_; clear h
  unfold State.schedLaunch
  try dsimp only
  repeat' first
    | (with_reducible first
        | exact .refl _ | assumption | apply State.schedFrame_evolves | apply State.schedSettle_evolves | apply State.schedAck_evolves
        | apply State.schedAct_evolves | apply State.schedRemember_evolves | rfl)
    | exact Part.of hl rfl
    | split

theorem State.nextHop_evolves {ps : List Part} {s0 : State} (hl : Part.sub [.slots, .timers, .tide, .dev, .flow, .mram, .cores, .telemetry, .counts, .lpos, .audit, .crypto, .ring, .loops, .out, .pba, .freeCount] ps = true) (s : State) (h : Nat) (hs : Evolves ps s0 s) : Evolves ps s0 (s.nextHop h) := by
  unfold State.nextHop
  dsimp only
  split
  · exact State.measureHop_evolves (Part.of hl rfl) _ _ _ hs
  · have h1 := State.ringFlush_evolves (Part.of hl rfl) _ (State.modRing_evolves (Part.of hl rfl) (f := fun r => { r with measure := none, window := false }) hs rfl rfl)
    split
    · split
      · exact h1
      · exact State.schedLaunch_evolves (Part.of hl rfl) _ _ h1
    · exact h1

theorem State.measureResult_evolves {ps : List Part} {s0 : State} (hl : Part.sub [.slots, .timers, .tide, .dev, .flow, .mram, .cores, .telemetry, .counts, .lpos, .audit, .crypto, .ring, .loops, .out, .pba, .freeCount] ps = true) (s : State) (h n : Nat) (delay : Option Word) (hs : Evolves ps s0 s) :
    Evolves ps s0 (s.measureResult h n delay) := by
  unfold State.measureResult
  split
  · split
    · exact State.measureHop_evolves (Part.of hl rfl) _ _ _ hs
    · exact State.nextHop_evolves (Part.of hl rfl) _ _ (State.irq_evolves (Part.of hl rfl) _ _ (State.post_evolves (Part.of hl rfl) _ _ _ _ _ (State.modRing_evolves (Part.of hl rfl) hs rfl rfl)))
  · exact State.nextHop_evolves (Part.of hl rfl) _ _ (State.modRing_evolves (Part.of hl rfl) hs rfl rfl)

theorem State.forwardTide_evolves {ps : List Part} {s0 : State} (hl : Part.sub [.ring, .out, .freeCount] ps = true) (s : State) (f : Frame)
    (h : Evolves ps s0 s) : Evolves ps s0 (State.forwardTide s f) := by
  refine h.trans ?_; clear h
  unfold State.forwardTide
  try dsimp only
  repeat' first
    | (with_reducible first | exact .refl _ | assumption | apply State.ringOffer_evolves | rfl)
    | exact Part.of hl rfl
    | split

theorem State.sluice_evolves {ps : List Part} {s0 : State} (hl : Part.sub [.dev, .counts, .ring, .loops, .out, .pba] ps = true) (s : State) (high : Bool) (row : Nat)
    (h : Evolves ps s0 s) : Evolves ps s0 (State.sluice s high row) := by
  refine h.trans ?_; clear h
  unfold State.sluice
  try dsimp only
  repeat' first
    | (with_reducible first | exact .refl _ | assumption | apply State.failLoop_evolves | apply State.post_evolves | apply State.modRing_evolves | rfl)
    | exact Part.of hl rfl
    | split | intro _

theorem State.schedGo_evolves {ps : List Part} {s0 : State} (hl : Part.sub [.slots, .timers, .tide, .dev, .flow, .mram, .cores, .telemetry, .counts, .lpos, .audit, .crypto, .ring, .loops, .out, .pba, .freeCount] ps = true) (s : State)
    (h : Evolves ps s0 s) : Evolves ps s0 ((State.schedGo s)).2 := by
  refine h.trans ?_; clear h
  unfold State.schedGo
  try dsimp only
  repeat' first
    | (with_reducible first | exact .refl _ | assumption | apply State.modRing_evolves | apply State.schedLaunch_evolves | rfl)
    | exact Part.of hl rfl
    | split | intro _

theorem State.ringErr_evolves {ps : List Part} {s0 : State} (hl : Part.sub [.ring] ps = true) (s : State) (e : CmdErr)
    (h : Evolves ps s0 s) : Evolves ps s0 (State.ringErr s e) := by
  refine h.trans ?_; clear h
  unfold State.ringErr
  try dsimp only
  repeat' first
    | (with_reducible first | exact .refl _ | assumption | apply State.modRing_evolves | rfl)
    | exact Part.of hl rfl
    | split | intro _

theorem State.ringCommand_evolves {ps : List Part} {s0 : State} (hl : Part.sub [.now, .slots, .timers, .tide, .dev, .flow, .mram, .cores, .telemetry, .counts, .lpos, .audit, .crypto, .ring, .loops, .out, .pba, .freeCount] ps = true) (s : State) (w : Word)
    (h : Evolves ps s0 s) : Evolves ps s0 ((State.ringCommand s w)).2 := by
  refine h.trans ?_; clear h
  unfold State.ringCommand
  try dsimp only
  repeat' first
    | (with_reducible first
        | exact .refl _ | assumption | apply State.persist_evolves | apply State.failLoop_evolves | apply State.modRing_evolves
        | apply State.enumPassStart_evolves | apply State.sluice_evolves | apply State.schedGo_evolves | rfl)
    | exact Part.of hl rfl
    | split | intro _

theorem State.writeRingCtrl_evolves {ps : List Part} {s0 : State} (hl : Part.sub [.now, .slots, .timers, .tide, .dev, .flow, .mram, .cores, .telemetry, .counts, .lpos, .audit, .crypto, .ring, .loops, .out, .pba, .freeCount] ps = true) (s : State) (ag : Agent) (w : Word)
    (h : Evolves ps s0 s) : Evolves ps s0 (State.writeRingCtrl s ag w) := by
  refine h.trans ?_; clear h
  unfold State.writeRingCtrl
  try dsimp only
  repeat' first
    | (with_reducible first | exact .refl _ | assumption | apply State.granted_evolves | apply State.ringErr_evolves | apply State.ringCommand_evolves | rfl)
    | exact Part.of hl rfl
    | split | intro _

theorem State.writeRing_evolves {ps : List Part} {s0 : State} (hl : Part.sub [.now, .slots, .timers, .tide, .dev, .flow, .mram, .cores, .telemetry, .counts, .lpos, .audit, .crypto, .ring, .loops, .out, .pba, .freeCount] ps = true) (s : State) (ag : Agent) (off : Nat) (w : Word)
    (h : Evolves ps s0 s) : Evolves ps s0 (State.writeRing s ag off w) := by
  refine h.trans ?_; clear h
  unfold State.writeRing
  try dsimp only
  repeat' first
    | (with_reducible first
        | exact .refl _ | assumption | apply State.granted_evolves | apply State.modRing_evolves | apply State.ringErr_evolves
        | apply State.writeRingCtrl_evolves | rfl)
    | exact Part.of hl rfl
    | split | intro _

theorem State.ringQueue_evolves {ps : List Part} {s0 : State} (hl : Part.sub [.ring, .out, .freeCount] ps = true) (s : State) (f : Frame) (h : Evolves ps s0 s) : Evolves ps s0 (s.ringQueue f) := by
  unfold State.ringQueue
  split
  · refine State.ringFlush_evolves (Part.of hl rfl) _ (h.trans ⟨⟨rfl, fun p => by cases p <;> first | exact .inl (Part.sub_mem hl (by decide)) | exact .inr rfl⟩, id, fun b => ?_, Nat.le_refl _, List.prefix_refl _⟩)
    rw [bounded_iff] at b ⊢
    simp only [State.modRing, List.length_append, List.length_cons, List.length_nil]
    omega
  · exact h

theorem State.rxPop_evolves {ps : List Part} {s0 : State} (hl : Part.sub [.ring] ps = true) (s : State) (h : Evolves ps s0 s) : Evolves ps s0 s.rxPop := by
  refine h.trans ⟨⟨rfl, fun p => by cases p <;> first | exact .inl (Part.sub_mem hl (by decide)) | exact .inr rfl⟩, id, fun b => ?_, Nat.le_refl _, List.prefix_refl _⟩
  rw [bounded_iff] at b ⊢
  simp only [State.rxPop, State.modRing, List.length_drop]
  omega

theorem State.writeRingQueue_evolves {ps : List Part} {s0 : State} (hl : Part.sub [.dev, .counts, .ring, .out, .freeCount] ps = true) (s : State) (ag : Agent) (off : Nat) (w : Word)
    (h : Evolves ps s0 s) : Evolves ps s0 (State.writeRingQueue s ag off w) := by
  refine h.trans ?_; clear h
  unfold State.writeRingQueue
  try dsimp only
  repeat' first
    | (with_reducible first
        | exact .refl _ | assumption | apply State.granted_evolves | apply State.modRing_evolves | apply State.ringErr_evolves
        | apply State.ringQueue_evolves | apply State.rxPop_evolves | apply foldl_evolves | rfl)
    | exact Part.of hl rfl
    | split | intro _

theorem State.modTray_evolves {ps : List Part} {s0 : State} (hl : Part.sub [.tray] ps = true) (s : State) (f : Tray → Tray)
    (h : Evolves ps s0 s) : Evolves ps s0 (State.modTray s f) := by
  refine h.trans ?_; clear h
  unfold State.modTray
  try dsimp only
  repeat' first
    | (with_reducible first | exact .refl _ | assumption | rfl)
    | split
    | refine Evolves.raw ?_ rfl rfl rfl ⟨rfl, fun p => by cases p <;> first | exact .inl (Part.sub_mem hl (by decide)) | exact .inr rfl⟩
        (fun w => by simp only [State.wf, Mram.wf, Flow.wf, Flow.burst, Bool.and_eq_true] at w ⊢; simp only [w, twf_tset, twf_filter, twf_nil, and_self])

theorem State.trayPost_evolves {ps : List Part} {s0 : State} (hl : Part.sub [.dev, .counts, .out, .pba] ps = true) (s : State) (typ source code : Nat) (data : List Word)
    (h : Evolves ps s0 s) : Evolves ps s0 (State.trayPost s typ source code data) := by
  refine h.trans ?_; clear h
  unfold State.trayPost
  try dsimp only
  repeat' first
    | (with_reducible first | exact .refl _ | assumption | apply State.post_evolves | rfl)
    | exact Part.of hl rfl
    | split

theorem State.setSram_evolves {ps : List Part} {s0 : State} (hl : Part.sub [.sram] ps = true) (s : State) (a : Nat) (v : Byte)
    (h : Evolves ps s0 s) : Evolves ps s0 (State.setSram s a v) := by
  refine h.trans ?_; clear h
  unfold State.setSram
  try dsimp only
  repeat' first
    | (with_reducible first | exact .refl _ | assumption | rfl)
    | split
    | refine Evolves.raw ?_ rfl rfl rfl ⟨rfl, fun p => by cases p <;> first | exact .inl (Part.sub_mem hl (by decide)) | exact .inr rfl⟩
        (fun w => by simp only [State.wf, Mram.wf, Flow.wf, Flow.burst, Bool.and_eq_true] at w ⊢; simp only [w, twf_tset, twf_filter, twf_nil, and_self])

theorem State.setSramBytes_evolves {ps : List Part} {s0 : State} (hl : Part.sub [.sram] ps = true) (s : State) (a : Nat) (l : List Byte) (h : Evolves ps s0 s) : Evolves ps s0 (s.setSramBytes a l) := by
  induction l generalizing s a with
  | nil => exact h
  | cons b t ih => exact ih _ _ (State.setSram_evolves (Part.of hl rfl) _ _ _ h)

theorem State.closeBlock_evolves {ps : List Part} {s0 : State} (hl : Part.sub [.cores, .tray] ps = true) (s : State)
    (h : Evolves ps s0 s) : Evolves ps s0 (State.closeBlock s) := by
  refine h.trans ?_; clear h
  unfold State.closeBlock
  try dsimp only
  repeat' first
    | (with_reducible first | exact .refl _ | assumption | apply State.line_evolves | apply State.modTray_evolves | rfl)
    | exact Part.of hl rfl
    | split | intro _

theorem State.rxWord_evolves {ps : List Part} {s0 : State} (hl : Part.sub [.dev, .cores, .counts, .sram, .tray, .out, .pba] ps = true) (s : State) (w : Nat)
    (h : Evolves ps s0 s) : Evolves ps s0 (State.rxWord s w) := by
  refine h.trans ?_; clear h
  unfold State.rxWord
  try dsimp only
  repeat' first
    | (with_reducible first
        | exact .refl _ | assumption | apply State.irq_evolves | apply State.modTray_evolves | apply State.trayPost_evolves
        | apply State.setSramBytes_evolves | apply State.closeBlock_evolves | rfl)
    | exact Part.of hl rfl
    | split | intro _

theorem State.frameChar_evolves {ps : List Part} {s0 : State} (hl : Part.sub [.tray] ps = true) (s : State) (f : TrayFrame) (c : TrayChar) (a e : Nat)
    (h : Evolves ps s0 s) : Evolves ps s0 (State.frameChar s f c a e) := by
  refine h.trans ?_; clear h
  unfold State.frameChar
  try dsimp only
  repeat' first
    | (with_reducible first | exact .refl _ | assumption | apply State.modTray_evolves | rfl)
    | exact Part.of hl rfl
    | split | intro _

theorem State.trayChar_evolves {ps : List Part} {s0 : State} (hl : Part.sub [.dev, .cores, .counts, .sram, .tray, .out, .pba] ps = true) (s : State) (a : Nat) (c : TrayChar)
    (h : Evolves ps s0 s) : Evolves ps s0 (State.trayChar s a c) := by
  refine h.trans ?_; clear h
  unfold State.trayChar
  try dsimp only
  repeat' first
    | (with_reducible first | exact .refl _ | assumption | apply State.modTray_evolves | apply State.rxWord_evolves | apply State.frameChar_evolves | rfl)
    | exact Part.of hl rfl
    | split | intro _

theorem State.rearmTray_evolves {ps : List Part} {s0 : State} (hl : Part.sub [.tray] ps = true) (s : State) (r : TrayIn) (p : Nat)
    (h : Evolves ps s0 s) : Evolves ps s0 (State.rearmTray s r p) := by
  refine h.trans ?_; clear h
  unfold State.rearmTray
  try dsimp only
  repeat' first
    | (with_reducible first | exact .refl _ | assumption | apply State.modTray_evolves | rfl)
    | exact Part.of hl rfl
    | split | intro _

theorem State.judgeTray_evolves {ps : List Part} {s0 : State} (hl : Part.sub [.now, .timers, .tide, .dev, .cores, .counts, .sram, .tray, .out, .pba] ps = true) (s : State) (r : TrayIn)
    (h : Evolves ps s0 s) : Evolves ps s0 (State.judgeTray s r) := by
  refine h.trans ?_; clear h
  unfold State.judgeTray
  try dsimp only
  repeat' first
    | (with_reducible first
        | exact .refl _ | assumption | apply State.elapseTo_evolves | apply State.modTray_evolves | apply State.closeBlock_evolves
        | apply State.trayChar_evolves | apply State.rearmTray_evolves | rfl)
    | exact Part.of hl rfl
    | split | intro _

theorem State.sendBreak_evolves {ps : List Part} {s0 : State} (hl : Part.sub [.tray, .out] ps = true) (s : State) (a : Nat)
    (h : Evolves ps s0 s) : Evolves ps s0 (State.sendBreak s a) := by
  refine h.trans ?_; clear h
  unfold State.sendBreak
  try dsimp only
  repeat' first
    | (with_reducible first | exact .refl _ | assumption | apply State.emit_evolves | apply State.modTray_evolves | rfl)
    | exact Part.of hl rfl
    | split | intro _

theorem State.sendChar_evolves {ps : List Part} {s0 : State} (hl : Part.sub [.tray, .out] ps = true) (s : State) (a : Nat) (c : BitVec 9)
    (h : Evolves ps s0 s) : Evolves ps s0 (State.sendChar s a c) := by
  refine h.trans ?_; clear h
  unfold State.sendChar
  try dsimp only
  repeat' first
    | (with_reducible first | exact .refl _ | assumption | apply State.emit_evolves | apply State.modTray_evolves | rfl)
    | exact Part.of hl rfl
    | split | intro _

theorem State.sendFrameByte_evolves {ps : List Part} {s0 : State} (hl : Part.sub [.now, .timers, .tide, .cores, .tray, .out] ps = true) (s : State) (f : TrayFrame) (b : Byte) (q : List Byte)
    (h : Evolves ps s0 s) : Evolves ps s0 (State.sendFrameByte s f b q) := by
  refine h.trans ?_; clear h
  unfold State.sendFrameByte
  try dsimp only
  repeat' first
    | (with_reducible first | exact .refl _ | assumption | apply State.elapseTo_evolves | apply State.modTray_evolves | apply State.sendChar_evolves | rfl)
    | exact Part.of hl rfl
    | split | intro _

theorem State.trayErr_evolves {ps : List Part} {s0 : State} (hl : Part.sub [.tray] ps = true) (s : State) (e : CmdErr)
    (h : Evolves ps s0 s) : Evolves ps s0 (State.trayErr s e) := by
  refine h.trans ?_; clear h
  unfold State.trayErr
  try dsimp only
  repeat' first
    | (with_reducible first | exact .refl _ | assumption | apply State.modTray_evolves | rfl)
    | exact Part.of hl rfl
    | split | intro _

theorem State.trayCommand_evolves {ps : List Part} {s0 : State} (hl : Part.sub [.cores, .tray, .out] ps = true) (s : State) (w : Word)
    (h : Evolves ps s0 s) : Evolves ps s0 ((State.trayCommand s w)).2 := by
  refine h.trans ?_; clear h
  unfold State.trayCommand
  try dsimp only
  repeat' first
    | (with_reducible first | exact .refl _ | assumption | apply State.modTray_evolves | apply State.closeBlock_evolves | apply State.sendBreak_evolves | rfl)
    | exact Part.of hl rfl
    | split | intro _

theorem State.writeTrayCtrl_evolves {ps : List Part} {s0 : State} (hl : Part.sub [.dev, .cores, .counts, .tray, .out] ps = true) (s : State) (ag : Agent) (w : Word)
    (h : Evolves ps s0 s) : Evolves ps s0 (State.writeTrayCtrl s ag w) := by
  refine h.trans ?_; clear h
  unfold State.writeTrayCtrl
  try dsimp only
  repeat' first
    | (with_reducible first | exact .refl _ | assumption | apply State.granted_evolves | apply State.trayErr_evolves | apply State.trayCommand_evolves | rfl)
    | exact Part.of hl rfl
    | split | intro _

theorem State.frameResult_evolves {ps : List Part} {s0 : State} (hl : Part.sub [.cores, .tray] ps = true) (s : State) (cmd : Word) (pid : Byte) (rx : List Byte) (res : Nat)
    (h : Evolves ps s0 s) : Evolves ps s0 (State.frameResult s cmd pid rx res) := by
  refine h.trans ?_; clear h
  unfold State.frameResult
  try dsimp only
  repeat' first
    | (with_reducible first | exact .refl _ | assumption | apply State.line_evolves | apply State.modTray_evolves | rfl)
    | exact Part.of hl rfl
    | split | intro _

theorem State.writeTrayTx_evolves {ps : List Part} {s0 : State} (hl : Part.sub [.tray] ps = true) (s : State) (v : Word)
    (h : Evolves ps s0 s) : Evolves ps s0 (State.writeTrayTx s v) := by
  refine h.trans ?_; clear h
  unfold State.writeTrayTx
  try dsimp only
  repeat' first
    | (with_reducible first | exact .refl _ | assumption | apply State.modTray_evolves | apply State.trayErr_evolves | rfl)
    | exact Part.of hl rfl
    | split | intro _

theorem State.writeTrayBaud_evolves {ps : List Part} {s0 : State} (hl : Part.sub [.tray] ps = true) (s : State) (v : Word)
    (h : Evolves ps s0 s) : Evolves ps s0 (State.writeTrayBaud s v) := by
  refine h.trans ?_; clear h
  unfold State.writeTrayBaud
  try dsimp only
  repeat' first
    | (with_reducible first | exact .refl _ | assumption | apply State.modTray_evolves | apply State.trayErr_evolves | rfl)
    | exact Part.of hl rfl
    | split | intro _

theorem State.writeRxRd_evolves {ps : List Part} {s0 : State} (hl : Part.sub [.tray] ps = true) (s : State) (v : Word)
    (h : Evolves ps s0 s) : Evolves ps s0 (State.writeRxRd s v) := by
  refine h.trans ?_; clear h
  unfold State.writeRxRd
  try dsimp only
  repeat' first
    | (with_reducible first | exact .refl _ | assumption | apply State.modTray_evolves | apply State.trayErr_evolves | rfl)
    | exact Part.of hl rfl
    | split | intro _

theorem State.writeTrayCfg_evolves {ps : List Part} {s0 : State} (hl : Part.sub [.tray, .loops] ps = true) (s : State) (w : Word)
    (h : Evolves ps s0 s) : Evolves ps s0 (State.writeTrayCfg s w) := by
  refine h.trans ?_; clear h
  unfold State.writeTrayCfg
  try dsimp only
  repeat' first
    | (with_reducible first | exact .refl _ | assumption | apply State.failLoop_evolves | apply State.modTray_evolves | apply State.trayErr_evolves | rfl)
    | exact Part.of hl rfl
    | split | intro _

theorem State.writeTray_evolves {ps : List Part} {s0 : State} (hl : Part.sub [.dev, .cores, .counts, .tray, .loops, .out] ps = true) (s : State) (ag : Agent) (off : Nat) (w : Word)
    (h : Evolves ps s0 s) : Evolves ps s0 (State.writeTray s ag off w) := by
  refine h.trans ?_; clear h
  unfold State.writeTray
  try dsimp only
  repeat' first
    | (with_reducible first
        | exact .refl _ | assumption | apply State.granted_evolves | apply State.modTray_evolves | apply State.trayErr_evolves
        | apply State.writeTrayCtrl_evolves | apply State.writeTrayTx_evolves | apply State.writeTrayBaud_evolves
        | apply State.writeRxRd_evolves | apply State.writeTrayCfg_evolves | rfl)
    | exact Part.of hl rfl
    | split | intro _

theorem State.modCtl_evolves {ps : List Part} {s0 : State} (hl : Part.sub [.tray] ps = true) (s : State) (n : Nat) (f : TrayCtl → TrayCtl)
    (h : Evolves ps s0 s) : Evolves ps s0 (State.modCtl s n f) := by
  refine h.trans ?_; clear h
  unfold State.modCtl
  try dsimp only
  repeat' first
    | (with_reducible first | exact .refl _ | assumption | apply State.modTray_evolves | rfl)
    | exact Part.of hl rfl
    | split | intro _

theorem State.trayBit_evolves {ps : List Part} {s0 : State} (hl : Part.sub [.dev, .counts, .out, .pba] ps = true) (s : State) (typ n : Nat) (old : Option Bool) (new : Bool)
    (h : Evolves ps s0 s) : Evolves ps s0 (State.trayBit s typ n old new) := by
  refine h.trans ?_; clear h
  unfold State.trayBit
  try dsimp only
  repeat' first
    | (with_reducible first | exact .refl _ | assumption | apply State.trayPost_evolves | rfl)
    | exact Part.of hl rfl
    | split

theorem State.trayStat_evolves {ps : List Part} {s0 : State} (hl : Part.sub [.dev, .counts, .tray, .out, .pba] ps = true) (s : State) (n : Nat) (a : TrayAnswer)
    (h : Evolves ps s0 s) : Evolves ps s0 (State.trayStat s n a) := by
  refine h.trans ?_; clear h
  unfold State.trayStat
  try dsimp only
  repeat' first
    | (with_reducible first
        | exact .refl _ | assumption | apply State.irq_evolves | apply State.forEach_evolves | apply State.trayPost_evolves
        | apply State.modCtl_evolves | apply State.trayBit_evolves | apply foldl_evolves | rfl)
    | exact Part.of hl rfl
    | split | intro _

theorem State.trayFrame_evolves {ps : List Part} {s0 : State} (hl : Part.sub [.now, .timers, .tide, .cores, .tray, .out] ps = true) (s : State) (cmd : Word) (data l : List Byte)
    (h : Evolves ps s0 s) : Evolves ps s0 (State.trayFrame s cmd data l) := by
  refine h.trans ?_; clear h
  unfold State.trayFrame
  try dsimp only
  repeat' first
    | (with_reducible first
        | exact .refl _ | assumption | apply State.emit_evolves | apply State.elapseTo_evolves | apply State.modTray_evolves
        | apply State.sendBreak_evolves | apply foldl_evolves | rfl)
    | exact Part.of hl rfl
    | split | intro _

theorem State.trayPair_evolves {ps : List Part} {s0 : State} (hl : Part.sub [.now, .timers, .tide, .dev, .cores, .counts, .tray, .out, .pba] ps = true) (s : State) (n : Nat) (a : TrayAnswer)
    (h : Evolves ps s0 s) : Evolves ps s0 (State.trayPair s n a) := by
  refine h.trans ?_; clear h
  unfold State.trayPair
  try dsimp only
  repeat' first
    | (with_reducible first
        | exact .refl _ | assumption | apply State.elapse_evolves | apply State.modTray_evolves | apply State.frameResult_evolves
        | apply State.modCtl_evolves | apply State.trayStat_evolves | apply State.trayFrame_evolves | rfl)
    | exact Part.of hl rfl
    | split | intro _

theorem State.loopErr_evolves {ps : List Part} {s0 : State} (hl : Part.sub [.loops] ps = true) (s : State) (b : Nat) (e : CmdErr)
    (h : Evolves ps s0 s) : Evolves ps s0 (State.loopErr s b e) := by
  refine h.trans ?_; clear h
  unfold State.loopErr
  try dsimp only
  repeat' first
    | (with_reducible first | exact .refl _ | assumption | apply State.modLoop_evolves | rfl)
    | exact Part.of hl rfl
    | split | intro _

theorem State.stopLoop_evolves {ps : List Part} {s0 : State} (hl : Part.sub [.slots, .timers, .dev, .flow, .mram, .cores, .counts, .lpos, .audit, .loops, .out, .pba] ps = true) (s : State) (b r : Nat)
    (h : Evolves ps s0 s) : Evolves ps s0 (State.stopLoop s b r) := by
  refine h.trans ?_; clear h
  unfold State.stopLoop
  try dsimp only
  repeat' first
    | (with_reducible first | exact .refl _ | assumption | apply State.modSlot_evolves | apply State.endLoop_evolves | apply State.beginDeact_evolves | rfl)
    | exact Part.of hl rfl
    | split | intro _

theorem State.keepLoop_evolves {ps : List Part} {s0 : State} (hl : Part.sub [.slots, .timers, .dev, .flow, .mram, .cores, .counts, .lpos, .audit, .loops, .out, .pba] ps = true) (s : State) (b : Nat)
    (h : Evolves ps s0 s) : Evolves ps s0 (State.keepLoop s b) := by
  refine h.trans ?_; clear h
  unfold State.keepLoop
  try dsimp only
  repeat' first
    | (with_reducible first | exact .refl _ | assumption | apply State.stopLoop_evolves | rfl)
    | exact Part.of hl rfl
    | split

theorem State.startLoop_evolves {ps : List Part} {s0 : State} (hl : Part.sub [.slots, .loops] ps = true) (s : State) (b : Nat) (w : Word)
    (h : Evolves ps s0 s) : Evolves ps s0 (State.startLoop s b w) := by
  refine h.trans ?_; clear h
  unfold State.startLoop
  try dsimp only
  repeat' first
    | (with_reducible first | exact .refl _ | assumption | apply State.modSlot_evolves | apply State.modLoop_evolves | rfl)
    | exact Part.of hl rfl
    | split | intro _

theorem State.writeLoopCtrl_evolves {ps : List Part} {s0 : State} (hl : Part.sub [.slots, .timers, .dev, .flow, .mram, .cores, .counts, .lpos, .audit, .ring, .loops, .out, .pba, .freeCount] ps = true) (s : State) (ag : Agent) (b : Nat) (w : Word)
    (h : Evolves ps s0 s) : Evolves ps s0 (State.writeLoopCtrl s ag b w) := by
  refine h.trans ?_; clear h
  unfold State.writeLoopCtrl
  try dsimp only
  repeat' first
    | (with_reducible first
        | exact .refl _ | assumption | apply State.granted_evolves | apply State.ringPut_evolves | apply State.loopErr_evolves
        | apply State.stopLoop_evolves | apply State.keepLoop_evolves | apply State.startLoop_evolves | rfl)
    | exact Part.of hl rfl
    | split | intro _

theorem State.modMb_evolves {ps : List Part} {s0 : State} (hl : Part.sub [.mail] ps = true) (s : State) (c : Nat) (f : Mailbox → Mailbox)
    (h : Evolves ps s0 s) : Evolves ps s0 (State.modMb s c f) := by
  refine h.trans ?_; clear h
  unfold State.modMb
  try dsimp only
  repeat' first
    | (with_reducible first | exact .refl _ | assumption | rfl)
    | split
    | refine Evolves.raw ?_ rfl rfl rfl ⟨rfl, fun p => by cases p <;> first | exact .inl (Part.sub_mem hl (by decide)) | exact .inr rfl⟩
        (fun w => by simp only [State.wf, Mram.wf, Flow.wf, Flow.burst, Bool.and_eq_true] at w ⊢; simp only [w, twf_tset, twf_filter, twf_nil, and_self])

theorem State.mbErr_evolves {ps : List Part} {s0 : State} (hl : Part.sub [.mail] ps = true) (s : State) (c : Nat) (e : CmdErr)
    (h : Evolves ps s0 s) : Evolves ps s0 (State.mbErr s c e) := by
  refine h.trans ?_; clear h
  unfold State.mbErr
  try dsimp only
  repeat' first
    | (with_reducible first | exact .refl _ | assumption | apply State.modMb_evolves | rfl)
    | exact Part.of hl rfl
    | split | intro _

theorem State.mbDone_evolves {ps : List Part} {s0 : State} (hl : Part.sub [.dev, .counts, .mail, .out, .pba] ps = true) (s : State) (c status : Nat) (resp : List Byte)
    (h : Evolves ps s0 s) : Evolves ps s0 (State.mbDone s c status resp) := by
  refine h.trans ?_; clear h
  unfold State.mbDone
  try dsimp only
  repeat' first
    | (with_reducible first | exact .refl _ | assumption | apply State.irq_evolves | apply State.modMb_evolves | apply foldl_evolves | rfl)
    | exact Part.of hl rfl
    | split | intro _

theorem State.writeMbCtrl_evolves {ps : List Part} {s0 : State} (hl : Part.sub [.dev, .cores, .counts, .mail, .out, .pba] ps = true) (s : State) (c : Nat) (w : Word)
    (h : Evolves ps s0 s) : Evolves ps s0 (State.writeMbCtrl s c w) := by
  refine h.trans ?_; clear h
  unfold State.writeMbCtrl
  try dsimp only
  repeat' first
    | (with_reducible first
        | exact .refl _ | assumption | apply State.line_evolves | apply State.modMb_evolves | apply State.mbErr_evolves
        | apply State.mbDone_evolves | rfl)
    | exact Part.of hl rfl
    | split | intro _

theorem State.writeMb_evolves {ps : List Part} {s0 : State} (hl : Part.sub [.dev, .cores, .counts, .mail, .out, .pba] ps = true) (s : State) (ag : Agent) (c off : Nat) (w : Word)
    (h : Evolves ps s0 s) : Evolves ps s0 (State.writeMb s ag c off w) := by
  refine h.trans ?_; clear h
  unfold State.writeMb
  try dsimp only
  repeat' first
    | (with_reducible first
        | exact .refl _ | assumption | apply State.wdeny_evolves | apply State.modMb_evolves | apply State.mbErr_evolves
        | apply State.writeMbCtrl_evolves | apply foldl_evolves | rfl)
    | exact Part.of hl rfl
    | split | intro _

theorem State.modCry_evolves {ps : List Part} {s0 : State} (hl : Part.sub [.crypto] ps = true) (s : State) (f : Crypto → Crypto)
    (h : Evolves ps s0 s) : Evolves ps s0 (State.modCry s f) := by
  refine h.trans ?_; clear h
  unfold State.modCry
  try dsimp only
  repeat' first
    | (with_reducible first | exact .refl _ | assumption | rfl)
    | split
    | refine Evolves.raw ?_ rfl rfl rfl ⟨rfl, fun p => by cases p <;> first | exact .inl (Part.sub_mem hl (by decide)) | exact .inr rfl⟩
        (fun w => by simp only [State.wf, Mram.wf, Flow.wf, Flow.burst, Bool.and_eq_true] at w ⊢; simp only [w, twf_tset, twf_filter, twf_nil, and_self])

theorem State.cryGo_evolves {ps : List Part} {s0 : State} (hl : Part.sub [.life, .crypto] ps = true) (s : State) (op : Nat)
    (h : Evolves ps s0 s) : Evolves ps s0 (State.cryGo s op) := by
  refine h.trans ?_; clear h
  unfold State.cryGo
  try dsimp only
  repeat' first
    | (with_reducible first | exact .refl _ | assumption | apply State.modCry_evolves | rfl)
    | exact Part.of hl rfl
    | split | intro _
    | refine Evolves.raw ?_ rfl rfl rfl ⟨rfl, fun p => by cases p <;> first | exact .inl (Part.sub_mem hl (by decide)) | exact .inr rfl⟩
        (fun w => by simp only [State.wf, Mram.wf, Flow.wf, Flow.burst, Bool.and_eq_true] at w ⊢; simp only [w, twf_tset, twf_filter, twf_nil, and_self])

theorem State.writeCry_evolves {ps : List Part} {s0 : State} (hl : Part.sub [.life, .crypto] ps = true) (s : State) (off : Nat) (w : Word)
    (h : Evolves ps s0 s) : Evolves ps s0 (State.writeCry s off w) := by
  refine h.trans ?_; clear h
  unfold State.writeCry
  try dsimp only
  repeat' first
    | (with_reducible first | exact .refl _ | assumption | apply State.modCry_evolves | apply State.cryGo_evolves | rfl)
    | exact Part.of hl rfl
    | split | intro _

theorem State.readCry_evolves {ps : List Part} {s0 : State} (hl : Part.sub [.crypto, .freeCount] ps = true) (s : State) (off : Nat)
    (h : Evolves ps s0 s) : Evolves ps s0 ((State.readCry s off)).2 := by
  refine h.trans ?_; clear h
  unfold State.readCry
  try dsimp only
  repeat' first
    | (with_reducible first | exact .refl _ | assumption | apply State.rand_evolves | apply State.modCry_evolves | rfl)
    | exact Part.of hl rfl
    | split | intro _

theorem State.modXchg_evolves {ps : List Part} {s0 : State} (hl : Part.sub [.slots] ps = true) (s : State) (i : Nat) (f : Xchg → Xchg)
    (h : Evolves ps s0 s) : Evolves ps s0 (State.modXchg s i f) := by
  refine h.trans ?_; clear h
  unfold State.modXchg
  try dsimp only
  repeat' first
    | (with_reducible first | exact .refl _ | assumption | apply State.modSlot_evolves | rfl)
    | exact Part.of hl rfl
    | split | intro _

theorem State.abandon_evolves {ps : List Part} {s0 : State} (hl : Part.sub [.slots, .timers, .dev, .flow, .mram, .cores, .counts, .lpos, .audit, .out, .pba] ps = true) (s : State) (i k code : Nat) (hw : Bool)
    (h : Evolves ps s0 s) : Evolves ps s0 (State.abandon s i k code hw) := by
  refine h.trans ?_; clear h
  unfold State.abandon
  try dsimp only
  repeat' first
    | (with_reducible first
        | exact .refl _ | assumption | apply State.modSlot_evolves | apply State.post_evolves | apply State.xchgHwEnd_evolves
        | apply State.beginDeact_evolves | apply State.modXchg_evolves | rfl)
    | exact Part.of hl rfl
    | split | intro _

theorem State.endScript_evolves {ps : List Part} {s0 : State} (hl : Part.sub [.slots, .timers, .dev, .flow, .mram, .cores, .telemetry, .counts, .lpos, .audit, .crypto, .out, .pba] ps = true) (s : State) (i k code : Nat)
    (h : Evolves ps s0 s) : Evolves ps s0 (State.endScript s i k code) := by
  refine h.trans ?_; clear h
  unfold State.endScript
  try dsimp only
  repeat' first
    | (with_reducible first
        | exact .refl _ | assumption | apply State.modSlot_evolves | apply State.beginDeact_evolves | apply State.endInDoubt_evolves
        | apply State.responseDone_evolves | apply State.modXchg_evolves | apply State.abandon_evolves | rfl)
    | exact Part.of hl rfl
    | split | intro _

theorem State.writeXchg_evolves {ps : List Part} {s0 : State} (hl : Part.sub [.slots, .timers, .dev, .flow, .mram, .cores, .telemetry, .counts, .lpos, .audit, .crypto, .out, .pba] ps = true) (s : State) (i off : Nat) (w : Word)
    (h : Evolves ps s0 s) : Evolves ps s0 (State.writeXchg s i off w) := by
  refine h.trans ?_; clear h
  unfold State.writeXchg
  try dsimp only
  repeat' first
    | (with_reducible first | exact .refl _ | assumption | apply State.slotErr_evolves | apply State.modXchg_evolves | apply State.endScript_evolves | rfl)
    | exact Part.of hl rfl
    | split | intro _

theorem State.readXchg_evolves {ps : List Part} {s0 : State} (hl : Part.sub [.slots] ps = true) (s : State) (i off : Nat)
    (h : Evolves ps s0 s) : Evolves ps s0 ((State.readXchg s i off)).2 := by
  refine h.trans ?_; clear h
  unfold State.readXchg
  try dsimp only
  repeat' first
    | (with_reducible first | exact .refl _ | assumption | apply State.modXchg_evolves | rfl)
    | exact Part.of hl rfl
    | split | intro _

theorem State.loadSlotCfg_evolves {ps : List Part} {s0 : State} (hl : Part.sub [.slots] ps = true) (s : State) (i : Nat) (w : Word)
    (h : Evolves ps s0 s) : Evolves ps s0 (State.loadSlotCfg s i w) := by
  refine h.trans ?_; clear h
  unfold State.loadSlotCfg
  try dsimp only
  repeat' first
    | (with_reducible first | exact .refl _ | assumption | apply State.modSlot_evolves | rfl)
    | exact Part.of hl rfl
    | split | intro _

theorem State.slotField_evolves {ps : List Part} {s0 : State} (hl : Part.sub [.slots] ps = true) (s : State) (i : Nat) (ok locked state : Bool) (f : State → State) (h : Evolves ps s0 s)
    (hf : ∀ u, Evolves ps u (f u)) : Evolves ps s0 (s.slotField i ok locked state f) := by
  unfold State.slotField
  have he := fun c => State.slotErr_evolves (Part.of hl rfl) s i c h
  split
  · exact he _
  · split
    · exact he _
    · split
      · exact he _
      · exact State.slotErr_evolves (Part.of hl rfl) _ _ _ (h.trans (hf _))

theorem State.expert_evolves {ps : List Part} {s0 : State} (hl : Part.sub [.dev, .counts] ps = true) (s : State) (ag : Agent) (changed : Bool) (f : State → State) (h : Evolves ps s0 s)
    (hf : ∀ u, Evolves ps u (f u)) : Evolves ps s0 (s.expert ag changed f) := by
  unfold State.expert
  split
  · exact State.granted_evolves (Part.of hl rfl) _ _ _ _ h hf
  · exact h.trans (hf _)

theorem State.writeSlot_evolves {ps : List Part} {s0 : State} (hl : Part.sub [.slots, .timers, .dev, .flow, .mram, .cores, .telemetry, .counts, .lpos, .audit, .crypto, .loops, .out, .pba] ps = true) (s : State) (ag : Agent) (i off : Nat) (w : Word)
    (h : Evolves ps s0 s) : Evolves ps s0 (State.writeSlot s ag i off w) := by
  refine h.trans ?_; clear h
  unfold State.writeSlot
  try dsimp only
  repeat' first
    | (with_reducible first
        | exact .refl _ | assumption | apply State.modSlot_evolves | apply State.pend_evolves | apply State.granted_evolves
        | apply State.slotErr_evolves | apply State.writeRaw_evolves | apply State.writeSlotCtrl_evolves | apply State.writeActAtHi_evolves
        | apply State.writeDeactAtHi_evolves | apply State.loadSlotCfg_evolves | apply State.slotField_evolves | apply State.expert_evolves
        | rfl)
    | exact Part.of hl rfl
    | split | intro _

theorem State.readTidePair_evolves {ps : List Part} {s0 : State} (hl : Part.sub [.latches] ps = true) (s : State) (ag : Agent) (key : Nat) (v : Tide) (hi : Bool)
    (h : Evolves ps s0 s) : Evolves ps s0 ((State.readTidePair s ag key v hi)).2 := by
  refine h.trans ?_; clear h
  unfold State.readTidePair
  try dsimp only
  repeat' first
    | (with_reducible first | exact .refl _ | assumption | apply State.setLatch_evolves | rfl)
    | exact Part.of hl rfl
    | split

theorem State.readSlot_evolves {ps : List Part} {s0 : State} (hl : Part.sub [.slots, .latches] ps = true) (s : State) (ag : Agent) (i off : Nat)
    (h : Evolves ps s0 s) : Evolves ps s0 ((State.readSlot s ag i off)).2 := by
  refine h.trans ?_; clear h
  unfold State.readSlot
  try dsimp only
  repeat' first
    | (with_reducible first | exact .refl _ | assumption | apply State.readRaw_evolves | apply State.readTidePair_evolves | rfl)
    | exact Part.of hl rfl
    | split

theorem State.writeDev_evolves {ps : List Part} {s0 : State} (hl : Part.sub [.slots, .polders, .timers, .dev, .flow, .mram, .cores, .counts, .lpos, .audit, .ring, .loops, .out, .pba, .freeCount] ps = true) (s : State) (ag : Agent) (off : Nat) (w : Word)
    (h : Evolves ps s0 s) : Evolves ps s0 (State.writeDev s ag off w) := by
  refine h.trans ?_; clear h
  unfold State.writeDev
  try dsimp only
  repeat' first
    | (with_reducible first
        | exact .refl _ | assumption | apply State.modPolder_evolves | apply State.modDev_evolves | apply State.granted_evolves
        | apply State.forEach_evolves | apply State.devErr_evolves | apply State.writeEvrCfg_evolves | apply State.writeEvrHead_evolves
        | apply State.writeIrqMask_evolves | apply State.writeLoopCtrl_evolves | apply foldl_evolves | rfl)
    | exact Part.of hl rfl
    | split | intro _

theorem State.readDev_evolves {ps : List Part} {s0 : State} (hl : Part.sub [.dev, .latches] ps = true) (s : State) (ag : Agent) (off : Nat)
    (h : Evolves ps s0 s) : Evolves ps s0 ((State.readDev s ag off)).2 := by
  refine h.trans ?_; clear h
  unfold State.readDev
  try dsimp only
  repeat' first
    | (with_reducible first | exact .refl _ | assumption | apply State.readSpill_evolves | apply State.readTidePair_evolves | rfl)
    | exact Part.of hl rfl
    | split

theorem State.writeQp_evolves {ps : List Part} {s0 : State} (hl : Part.sub [.slots, .timers, .dev, .flow, .mram, .cores, .counts, .lpos, .audit, .out, .pba] ps = true) (s : State) (q off : Nat) (w : Word)
    (h : Evolves ps s0 s) : Evolves ps s0 (State.writeQp s q off w) := by
  refine h.trans ?_; clear h
  unfold State.writeQp
  try dsimp only
  repeat' first
    | (with_reducible first
        | exact .refl _ | assumption | apply State.modQp_evolves | apply State.qpErr_evolves | apply State.writeQpCtrl_evolves
        | apply State.dbErr_evolves | rfl)
    | exact Part.of hl rfl
    | split | intro _

theorem State.readQp_evolves {ps : List Part} {s0 : State} (hl : Part.sub [.latches] ps = true) (s : State) (ag : Agent) (q off : Nat)
    (h : Evolves ps s0 s) : Evolves ps s0 ((State.readQp s ag q off)).2 := by
  refine h.trans ?_; clear h
  unfold State.readQp
  try dsimp only
  repeat' first
    | (with_reducible first | exact .refl _ | assumption | apply State.readTidePair_evolves | rfl)
    | exact Part.of hl rfl
    | split

theorem State.writeReg_evolves {ps : List Part} {s0 : State} (hl : Part.sub [.now, .slots, .polders, .timers, .tide, .dev, .flow, .mram, .cores, .telemetry, .counts, .ports, .lpos, .mail, .audit, .crypto, .ring, .tray, .loops, .out, .msix, .pba, .freeCount] ps = true) (s : State) (ag : Agent) (r : Reg) (w : Word)
    (h : Evolves ps s0 s) : Evolves ps s0 (State.writeReg s ag r w) := by
  refine h.trans ?_; clear h
  unfold State.writeReg
  try dsimp only
  repeat' first
    | (with_reducible first
        | exact .refl _ | assumption | apply State.setMsixWord_evolves | apply State.writeTimer_evolves | apply State.writeTide_evolves
        | apply State.sqDoorbell_evolves | apply State.cqDoorbell_evolves | apply State.writeSet_evolves | apply State.writeTemper_evolves
        | apply State.writePolder_evolves | apply State.writePort_evolves | apply State.writeRing_evolves
        | apply State.writeRingQueue_evolves | apply State.writeTray_evolves | apply State.writeLoopCtrl_evolves
        | apply State.writeMb_evolves | apply State.writeSlot_evolves | apply State.writeDev_evolves | apply State.writeQp_evolves | rfl)
    | exact Part.of hl rfl
    | split

theorem State.readReg_evolves {ps : List Part} {s0 : State} (hl : Part.sub [.slots, .polders, .timers, .dev, .flow, .mram, .cores, .counts, .lpos, .audit, .loops, .latches, .out, .pba] ps = true) (s : State) (ag : Agent) (r : Reg)
    (h : Evolves ps s0 s) : Evolves ps s0 ((State.readReg s ag r)).2 := by
  refine h.trans ?_; clear h
  unfold State.readReg
  try dsimp only
  repeat' first
    | (with_reducible first
        | exact .refl _ | assumption | apply State.readTimer_evolves | apply State.readTide_evolves | apply State.readPolder_evolves
        | apply State.keepLoop_evolves | apply State.readSlot_evolves | apply State.readDev_evolves | apply State.readQp_evolves | rfl)
    | exact Part.of hl rfl
    | split

theorem State.busWrite_evolves {ps : List Part} {s0 : State} (hl : Part.sub [.now, .slots, .polders, .timers, .tide, .dev, .flow, .mram, .cores, .telemetry, .counts, .ports, .lpos, .mail, .audit, .crypto, .ring, .tray, .loops, .out, .msix, .pba, .freeCount] ps = true) (s : State) (ag : Agent) (a : Nat) (w : Word)
    (h : Evolves ps s0 s) : Evolves ps s0 (State.busWrite s ag a w) := by
  refine h.trans ?_; clear h
  unfold State.busWrite
  try dsimp only
  repeat' first
    | (with_reducible first | exact .refl _ | assumption | apply State.writeReg_evolves | rfl)
    | exact Part.of hl rfl
    | split

theorem State.busRead_evolves {ps : List Part} {s0 : State} (hl : Part.sub [.slots, .polders, .timers, .dev, .flow, .mram, .cores, .counts, .lpos, .audit, .loops, .latches, .out, .pba] ps = true) (s : State) (ag : Agent) (a : Nat)
    (h : Evolves ps s0 s) : Evolves ps s0 ((State.busRead s ag a)).2 := by
  refine h.trans ?_; clear h
  unfold State.busRead
  try dsimp only
  repeat' first
    | (with_reducible first | exact .refl _ | assumption | apply State.readReg_evolves | rfl)
    | exact Part.of hl rfl
    | split

theorem State.busWriteSized_evolves {ps : List Part} {s0 : State} (hl : Part.sub [.now, .slots, .polders, .timers, .tide, .dev, .flow, .mram, .cores, .telemetry, .counts, .ports, .lpos, .mail, .audit, .crypto, .ring, .tray, .loops, .out, .msix, .pba, .freeCount] ps = true) (s : State) (ag : Agent) (a : Nat) (z : BusSize) (v : Word)
    (h : Evolves ps s0 s) : Evolves ps s0 (State.busWriteSized s ag a z v) := by
  refine h.trans ?_; clear h
  unfold State.busWriteSized
  try dsimp only
  repeat' first
    | (with_reducible first | exact .refl _ | assumption | apply State.busWrite_evolves | rfl)
    | exact Part.of hl rfl
    | split

theorem State.busReadWide_evolves {ps : List Part} {s0 : State} (hl : Part.sub [.slots, .polders, .timers, .dev, .flow, .mram, .cores, .counts, .lpos, .audit, .loops, .latches, .out, .pba] ps = true) (s : State) (ag : Agent) (a : Nat)
    (h : Evolves ps s0 s) : Evolves ps s0 ((State.busReadWide s ag a)).2 := by
  refine h.trans ?_; clear h
  unfold State.busReadWide
  try dsimp only
  repeat' first
    | (with_reducible first | exact .refl _ | assumption | apply State.busRead_evolves | rfl)
    | exact Part.of hl rfl
    | split

theorem State.noteCores_evolves {ps : List Part} {s0 : State} (hl : Part.sub [.dev, .coreCtl, .counts, .out, .pba] ps = true) (s : State)
    (h : Evolves ps s0 s) : Evolves ps s0 (State.noteCores s) := by
  refine h.trans ?_; clear h
  unfold State.noteCores
  try dsimp only
  repeat' first
    | (with_reducible first | exact .refl _ | assumption | apply State.irq_evolves | apply State.post_evolves | rfl)
    | exact Part.of hl rfl
    | split
    | refine Evolves.raw ?_ rfl rfl rfl ⟨rfl, fun p => by cases p <;> first | exact .inl (Part.sub_mem hl (by decide)) | exact .inr rfl⟩
        (fun w => by simp only [State.wf, Mram.wf, Flow.wf, Flow.burst, Bool.and_eq_true] at w ⊢; simp only [w, twf_tset, twf_filter, twf_nil, and_self])

theorem State.haltCore_evolves {ps : List Part} {s0 : State} (hl : Part.sub [.dev, .cores, .coreCtl, .counts, .out, .pba] ps = true) (s : State) (k : Nat)
    (h : Evolves ps s0 s) : Evolves ps s0 (State.haltCore s k) := by
  refine h.trans ?_; clear h
  unfold State.haltCore
  try dsimp only
  repeat' first
    | (with_reducible first | exact .refl _ | assumption | apply State.modCore_evolves | apply State.noteCores_evolves | apply State.run_evolves | rfl)
    | exact Part.of hl rfl
    | split | intro _

theorem State.stopCore_evolves {ps : List Part} {s0 : State} (hl : Part.sub [.dev, .cores, .coreCtl, .counts, .out, .pba] ps = true) (s : State) (k : Nat)
    (h : Evolves ps s0 s) : Evolves ps s0 (State.stopCore s k) := by
  refine h.trans ?_; clear h
  unfold State.stopCore
  try dsimp only
  repeat' first
    | (with_reducible first | exact .refl _ | assumption | apply State.modCore_evolves | apply State.haltCore_evolves | rfl)
    | exact Part.of hl rfl
    | split | intro _

theorem State.stopDue_evolves {ps : List Part} {s0 : State} (hl : Part.sub [.dev, .cores, .coreCtl, .counts, .out, .pba] ps = true) (s : State) (k : Nat)
    (h : Evolves ps s0 s) : Evolves ps s0 (State.stopDue s k) := by
  refine h.trans ?_; clear h
  unfold State.stopDue
  try dsimp only
  repeat' first
    | (with_reducible first | exact .refl _ | assumption | apply State.haltCore_evolves | rfl)
    | exact Part.of hl rfl
    | split

theorem State.releaseCore_evolves {ps : List Part} {s0 : State} (hl : Part.sub [.dev, .cores, .coreCtl, .counts, .out, .pba] ps = true) (s : State) (k : Nat)
    (h : Evolves ps s0 s) : Evolves ps s0 (State.releaseCore s k) := by
  refine h.trans ?_; clear h
  unfold State.releaseCore
  try dsimp only
  repeat' first
    | (with_reducible first | exact .refl _ | assumption | apply State.modCore_evolves | apply State.noteCores_evolves | apply State.run_evolves | rfl)
    | exact Part.of hl rfl
    | split | intro _

theorem State.loadWdog_evolves {ps : List Part} {s0 : State} (hl : Part.sub [.cores] ps = true) (s : State) (k : Nat)
    (h : Evolves ps s0 s) : Evolves ps s0 (State.loadWdog s k) := by
  refine h.trans ?_; clear h
  unfold State.loadWdog
  try dsimp only
  repeat' first
    | (with_reducible first | exact .refl _ | assumption | apply State.modCore_evolves | rfl)
    | exact Part.of hl rfl
    | split | intro _

theorem State.writeCoreRun_evolves {ps : List Part} {s0 : State} (hl : Part.sub [.dev, .cores, .coreCtl, .counts, .out, .pba] ps = true) (s : State) (v : Word)
    (h : Evolves ps s0 s) : Evolves ps s0 (State.writeCoreRun s v) := by
  refine h.trans ?_; clear h
  unfold State.writeCoreRun
  try dsimp only
  repeat' first
    | (with_reducible first
        | exact .refl _ | assumption | apply State.modCore_evolves | apply State.forEach_evolves | apply State.stopCore_evolves
        | apply State.releaseCore_evolves | apply State.loadWdog_evolves | apply State.run_evolves | apply foldl_evolves | rfl)
    | exact Part.of hl rfl
    | split | intro _

theorem State.writeIpi_evolves {ps : List Part} {s0 : State} (hl : Part.sub [.cores] ps = true) (s : State) (v : Word)
    (h : Evolves ps s0 s) : Evolves ps s0 (State.writeIpi s v) := by
  refine h.trans ?_; clear h
  unfold State.writeIpi
  try dsimp only
  repeat' first
    | (with_reducible first | exact .refl _ | assumption | apply State.line_evolves | apply State.forEach_evolves | apply foldl_evolves | rfl)
    | exact Part.of hl rfl
    | split | intro _

theorem State.writeFwEvent_evolves {ps : List Part} {s0 : State} (hl : Part.sub [.dev, .counts, .out, .pba] ps = true) (s : State) (k : Nat) (v : Word)
    (h : Evolves ps s0 s) : Evolves ps s0 (State.writeFwEvent s k v) := by
  refine h.trans ?_; clear h
  unfold State.writeFwEvent
  try dsimp only
  repeat' first
    | (with_reducible first | exact .refl _ | assumption | apply State.post_evolves | rfl)
    | exact Part.of hl rfl
    | split

theorem State.writeCtl_evolves {ps : List Part} {s0 : State} (hl : Part.sub [.dev, .cores, .coreCtl, .counts, .out, .pba] ps = true) (s : State) (k o : Nat) (l : List Byte)
    (h : Evolves ps s0 s) : Evolves ps s0 (State.writeCtl s k o l) := by
  refine h.trans ?_; clear h
  unfold State.writeCtl
  try dsimp only
  repeat' first
    | (with_reducible first
        | exact .refl _ | assumption | apply State.writeCoreRun_evolves | apply State.writeIpi_evolves | apply State.writeFwEvent_evolves
        | apply foldl_evolves | rfl)
    | exact Part.of hl rfl
    | split | intro _
    | refine Evolves.raw ?_ rfl rfl rfl ⟨rfl, fun p => by cases p <;> first | exact .inl (Part.sub_mem hl (by decide)) | exact .inr rfl⟩
        (fun w => by simp only [State.wf, Mram.wf, Flow.wf, Flow.burst, Bool.and_eq_true] at w ⊢; simp only [w, twf_tset, twf_filter, twf_nil, and_self])

theorem State.readWindow_evolves {ps : List Part} {s0 : State} (hl : Part.sub [.slots, .timers, .latches] ps = true) (s : State) (ag : Agent) (i o : Nat)
    (h : Evolves ps s0 s) : Evolves ps s0 ((State.readWindow s ag i o)).2 := by
  refine h.trans ?_; clear h
  unfold State.readWindow
  try dsimp only
  repeat' first
    | (with_reducible first | exact .refl _ | assumption | apply State.readTimer_evolves | apply State.readXchg_evolves | apply State.readSlot_evolves | rfl)
    | exact Part.of hl rfl
    | split

theorem State.writeWindow_evolves {ps : List Part} {s0 : State} (hl : Part.sub [.slots, .timers, .dev, .flow, .mram, .cores, .telemetry, .counts, .lpos, .audit, .crypto, .loops, .out, .pba] ps = true) (s : State) (ag : Agent) (i o : Nat) (w : Word)
    (h : Evolves ps s0 s) : Evolves ps s0 (State.writeWindow s ag i o w) := by
  refine h.trans ?_; clear h
  unfold State.writeWindow
  try dsimp only
  repeat' first
    | (with_reducible first
        | exact .refl _ | assumption | apply State.writeTimer_evolves | apply State.writeTemper_evolves | apply State.writeXchg_evolves
        | apply State.writeSlot_evolves | rfl)
    | exact Part.of hl rfl
    | split

theorem State.load_evolves {ps : List Part} {s0 : State} (hl : Part.sub [.slots, .polders, .timers, .dev, .flow, .mram, .cores, .counts, .lpos, .audit, .crypto, .loops, .latches, .out, .pba, .freeCount] ps = true) (s : State) (k x z : Nat) (h : Evolves ps s0 s) : Evolves ps s0 (s.load k x z).2 := by
  have h1 : ∀ a y, Evolves ps s0 (s.busRead a y).2 := fun a y => State.busRead_evolves (Part.of hl rfl) s a y h
  have h2 : ∀ a i y, Evolves ps s0 (s.readWindow a i y).2 := fun a i y => State.readWindow_evolves (Part.of hl rfl) s a i y h
  unfold State.load
  dsimp only
  cases regionOf x with
  | none => exact h
  | some r =>
    cases r <;> dsimp only <;> first
      | exact h
      | exact Evolves.ite_snd (fun _ => h1 _ _) fun _ => h
      | exact Evolves.ite_snd (fun _ => h2 _ _ _) fun _ => h
      | exact Evolves.ite_snd (fun _ => State.readCry_evolves (Part.of hl rfl) _ _ h) fun _ => h

theorem State.eccError_evolves {ps : List Part} {s0 : State} (hl : Part.sub [.dev, .cores, .counts, .out, .pba] ps = true) (s : State) (a : Nat)
    (h : Evolves ps s0 s) : Evolves ps s0 (State.eccError s a) := by
  refine h.trans ?_; clear h
  unfold State.eccError
  try dsimp only
  repeat' first
    | (with_reducible first | exact .refl _ | assumption | apply State.irq_evolves | apply State.post_evolves | apply State.line_evolves | rfl)
    | exact Part.of hl rfl
    | split

theorem twf_putBytes (t : Table Byte) (l : List (Nat × Byte)) (h : twf 0#8 t = true) : twf 0#8 (putBytes t l) = true := by
  unfold putBytes
  induction l generalizing t with
  | nil => exact h
  | cons e l ih => exact ih _ (twf_tset _ _ _ _ h)

theorem State.commitStore_go_evolves {ps : List Part} {s0 : State} (hl : Part.sub [.flow, .mram, .cores, .storeQ] ps = true) (k : Nat) (l : List (Nat × List (Nat × Byte))) (s : State) (h : Evolves ps s0 s) :
    Evolves ps s0 (State.commitStore.go k s l) := by
  induction l generalizing s with
  | nil => exact h
  | cons e r ih =>
    unfold State.commitStore.go
    dsimp only
    have h0 := State.burst_evolves (Part.of hl rfl) _ h
    have h1 : ∀ bad, Evolves ps s0 { s.burst with storeQ := r, mram := { s.burst.mram with dictMem := putBytes s.burst.mram.dictMem e.2, bad := bad } } := fun bad => by
      refine Evolves.raw h0 rfl rfl rfl ⟨rfl, fun p => by cases p <;> first | exact .inl (Part.sub_mem hl (by decide)) | exact .inr rfl⟩ (fun w => ?_)
      simp only [State.wf, Mram.wf, Flow.wf, Bool.and_eq_true] at w ⊢; simp only [w, twf_putBytes, and_self]
    have h2 : ∀ t, Evolves ps s0 t → Evolves ps s0 (if r.any (fun f => decide (f.1 = e.1)) = true then t else t.line 45) := fun t ht =>
      Evolves.ite (fun _ => ht) fun _ => State.line_evolves (Part.of hl rfl) _ 45 ht
    split
    · exact h2 _ (h1 _)
    · exact ih _ (h2 _ (h1 _))

theorem State.commitStore_evolves {ps : List Part} {s0 : State} (hl : Part.sub [.flow, .mram, .cores, .storeQ] ps = true) (s : State) (k : Nat) (h : Evolves ps s0 s) : Evolves ps s0 (s.commitStore k) := by
  unfold State.commitStore
  split
  · exact State.commitStore_go_evolves (Part.of hl rfl) _ _ _ h
  · exact h

theorem State.drainStores_evolves {ps : List Part} {s0 : State} (hl : Part.sub [.flow, .mram, .cores, .storeQ] ps = true) (s : State) (k n : Nat) (h : Evolves ps s0 s) : Evolves ps s0 (s.drainStores k n) := by
  induction n generalizing s with
  | zero => exact h
  | succ n ih =>
    unfold State.drainStores
    split
    · exact ih _ (State.commitStore_evolves (Part.of hl rfl) _ _ h)
    · exact h

theorem State.storeDict_evolves {ps : List Part} {s0 : State} (hl : Part.sub [.flow, .mram, .cores, .dictView, .storeQ] ps = true) (s : State) (k : Nat) (l : List (Nat × Byte)) (h : Evolves ps s0 s) : Evolves ps s0 (s.storeDict k l) := by
  unfold State.storeDict
  dsimp only
  refine Evolves.raw (t := if 64 ≤ (s.storeQ.filter fun e => e.1 = k).length then s.commitStore k else s) ?_ rfl rfl rfl ⟨rfl, fun p => by cases p <;> first | exact .inl (Part.sub_mem hl (by decide)) | exact .inr rfl⟩ (fun w => by
    simp only [State.wf, Mram.wf, Flow.wf, Bool.and_eq_true] at w ⊢; simp only [w, twf_putBytes, and_self])
  split
  · exact State.commitStore_evolves (Part.of hl rfl) _ _ h
  · exact h

theorem State.store_evolves {ps : List Part} {s0 : State} (hl : Part.sub [.now, .slots, .polders, .timers, .tide, .dev, .flow, .mram, .cores, .coreCtl, .telemetry, .counts, .ports, .lpos, .mail, .audit, .life, .crypto, .sram, .dictView, .storeQ, .ring, .tray, .loops, .out, .msix, .pba, .freeCount] ps = true) (s : State) (k x z v : Nat)
    (h : Evolves ps s0 s) : Evolves ps s0 (State.store s k x z v) := by
  refine h.trans ?_; clear h
  unfold State.store
  try dsimp only
  repeat' first
    | (with_reducible first
        | exact .refl _ | assumption | apply State.setSram_evolves | apply State.writeCry_evolves | apply State.busWrite_evolves
        | apply State.writeCtl_evolves | apply State.writeWindow_evolves | apply State.storeDict_evolves | apply foldl_evolves | rfl)
    | exact Part.of hl rfl
    | split | intro _

theorem State.trap_evolves {ps : List Part} {s0 : State} (hl : Part.sub [.dev, .cores, .coreCtl, .counts, .out, .pba] ps = true) (s : State) (k code : Nat) (epc eaddr ex : Word)
    (h : Evolves ps s0 s) : Evolves ps s0 (State.trap s k code epc eaddr ex) := by
  refine h.trans ?_; clear h
  unfold State.trap
  try dsimp only
  repeat' first
    | (with_reducible first | exact .refl _ | assumption | apply State.modCore_evolves | apply State.haltCore_evolves | rfl)
    | exact Part.of hl rfl
    | split | intro _

/-- What an operation answers: a state that evolved from s, or a trap or a wait. -/
def Res.Evolved (ps : List Part) (s : State) : Res → Prop
  | .done t => Evolves ps s t
  | .jump t _ => Evolves ps s t
  | .ecc t _ _ => Evolves ps s t
  | .trap _ _ _ => True
  | .stall => True

theorem State.iterate_evolves {ps : List Part} {s0 : State} (hl : Part.sub [.dev, .cores, .coreCtl, .counts, .out, .pba] ps = true) (s : State) (k : Nat) (i : Ins) (body : State → Res) (h : Evolves ps s0 s)
    (hb : (body s).Evolved ps s) : Evolves ps s0 (s.iterate k i body) := by
  unfold State.iterate
  dsimp only
  split
  · exact State.modCore_evolves (Part.of hl rfl) _ _ _ h
  · split <;> rename_i e <;> rw [e] at hb
    · exact State.trap_evolves (Part.of hl rfl) _ _ _ _ _ _ h
    · exact State.trap_evolves (Part.of hl rfl) _ _ _ _ _ _ (h.trans hb)
    · exact h
    · exact State.modCore_evolves (Part.of hl rfl) _ _ _ (h.trans hb)
    · exact State.modCore_evolves (Part.of hl rfl) _ _ _ (h.trans hb)

theorem State.single_evolves {ps : List Part} {s0 : State} (hl : Part.sub [.dev, .cores, .coreCtl, .counts, .out, .pba] ps = true) (s : State) (k : Nat) (i : Ins) (body : State → Res) (h : Evolves ps s0 s)
    (hb : (body s).Evolved ps s) : Evolves ps s0 (s.single k i body) := by
  unfold State.single
  dsimp only
  split
  · exact State.trap_evolves (Part.of hl rfl) _ _ _ _ _ _ h
  · split
    · exact State.trap_evolves (Part.of hl rfl) _ _ _ _ _ _ h
    · split
      · exact State.trap_evolves (Part.of hl rfl) _ _ _ _ _ _ h
      · split <;> rename_i e <;> rw [e] at hb
        · exact State.trap_evolves (Part.of hl rfl) _ _ _ _ _ _ h
        · exact State.trap_evolves (Part.of hl rfl) _ _ _ _ _ _ (h.trans hb)
        · exact h
        · exact State.modCore_evolves (Part.of hl rfl) _ _ _ (h.trans hb)
        · exact State.modCore_evolves (Part.of hl rfl) _ _ _ (h.trans hb)

theorem State.run_evolves {ps : List Part} {s0 : State} (hl : Part.sub [.dev, .cores, .coreCtl, .counts, .out, .pba] ps = true) (s : State) (k : Nat) (i : Ins) (body : State → Res) (h : Evolves ps s0 s)
    (hb : ∀ u, (body u).Evolved ps u) : Evolves ps s0 (s.run k i body) := by
  unfold State.run
  dsimp only
  split
  · exact h
  · split
    · exact h
    · split
      · exact State.single_evolves (Part.of hl rfl) _ _ _ _ h (hb _)
      · split
        · exact State.stopDue_evolves (Part.of hl rfl) _ _ (State.iterate_evolves (Part.of hl rfl) _ _ _ _ h (hb _))
        · split
          · exact State.trap_evolves (Part.of hl rfl) _ _ _ _ _ _ h
          · exact State.stopDue_evolves (Part.of hl rfl) _ _ (State.iterate_evolves (Part.of hl rfl) _ _ _ _ (State.modCore_evolves (Part.of hl rfl) _ _ _ h) (hb _))

theorem State.readSr_evolves {ps : List Part} {s0 : State} (hl : Part.sub [.timers, .latches] ps = true) (s : State) (k n : Nat)
    (h : Evolves ps s0 s) : Evolves ps s0 ((State.readSr s k n)).2 := by
  refine h.trans ?_; clear h
  unfold State.readSr
  try dsimp only
  repeat' first
    | (with_reducible first | exact .refl _ | assumption | apply State.readTimer_evolves | apply State.readTideNow_evolves | rfl)
    | exact Part.of hl rfl
    | split

theorem State.writeBind_evolves {ps : List Part} {s0 : State} (hl : Part.sub [.slots, .timers, .dev, .flow, .mram, .cores, .counts, .lpos, .audit, .out, .pba] ps = true) (s : State) (k : Nat) (v : BitVec 64)
    (h : Evolves ps s0 s) : Evolves ps s0 (State.writeBind s k v) := by
  refine h.trans ?_; clear h
  unfold State.writeBind
  try dsimp only
  repeat' first
    | (with_reducible first
        | exact .refl _ | assumption | apply State.modCore_evolves | apply State.forEach_evolves | apply State.abandon_evolves
        | apply foldl_evolves | rfl)
    | exact Part.of hl rfl
    | split | intro _

theorem State.writeWdog_evolves {ps : List Part} {s0 : State} (hl : Part.sub [.dev, .cores, .coreCtl, .counts, .out, .pba] ps = true) (s : State) (k : Nat) (w : Word)
    (h : Evolves ps s0 s) : Evolves ps s0 (State.writeWdog s k w) := by
  refine h.trans ?_; clear h
  unfold State.writeWdog
  try dsimp only
  repeat' first
    | (with_reducible first | exact .refl _ | assumption | apply State.modCore_evolves | apply State.noteCores_evolves | apply State.run_evolves | rfl)
    | exact Part.of hl rfl
    | split | intro _

theorem State.writeSr_evolves {ps : List Part} {s0 : State} (hl : Part.sub [.slots, .timers, .dev, .flow, .mram, .cores, .coreCtl, .counts, .lpos, .audit, .out, .pba] ps = true) (s : State) (k n : Nat) (w : Word)
    (h : Evolves ps s0 s) : Evolves ps s0 (State.writeSr s k n w) := by
  refine h.trans ?_; clear h
  unfold State.writeSr
  try dsimp only
  repeat' first
    | (with_reducible first
        | exact .refl _ | assumption | apply State.modCore_evolves | apply State.writeTimer_evolves | apply State.writeBind_evolves
        | apply State.writeWdog_evolves | rfl)
    | exact Part.of hl rfl
    | split | intro _

theorem State.prefix_evolves {ps : List Part} {s0 : State} (hl : Part.sub [.dev, .cores, .coreCtl, .counts, .out, .pba] ps = true) (s : State) (k : Nat) (repl : Bool)
    (h : Evolves ps s0 s) : Evolves ps s0 (State.prefix s k repl) := by
  refine h.trans ?_; clear h
  unfold State.prefix
  dsimp only
  split
  · exact State.run_evolves (Part.of hl rfl) _ _ _ _ (Evolves.refl s) fun u => Evolves.refl u
  · repeat' first
      | with_reducible exact Evolves.refl _
      | with_reducible apply State.trap_evolves
      | with_reducible apply State.modCore_evolves
      | exact Part.of hl rfl
      | split

theorem State.spoil_evolves {ps : List Part} {s0 : State} (hl : Part.sub [.mram, .lpos, .audit] ps = true) (s : State) (a : Nat)
    (h : Evolves ps s0 s) : Evolves ps s0 (State.spoil s a) := by
  refine h.trans ?_; clear h
  unfold State.spoil
  try dsimp only
  repeat' first
    | (with_reducible first | exact .refl _ | assumption | apply State.markChanged_evolves | rfl)
    | exact Part.of hl rfl
    | split
    | refine Evolves.raw ?_ rfl rfl rfl ⟨rfl, fun p => by cases p <;> first | exact .inl (Part.sub_mem hl (by decide)) | exact .inr rfl⟩
        (fun w => by simp only [State.wf, Mram.wf, Flow.wf, Flow.burst, Bool.and_eq_true] at w ⊢; simp only [w, twf_tset, twf_filter, twf_nil, and_self])

theorem State.mirrorWrite_evolves {ps : List Part} {s0 : State} (hl : Part.sub [.now, .slots, .polders, .timers, .tide, .dev, .flow, .mram, .cores, .telemetry, .counts, .ports, .lpos, .mail, .audit, .crypto, .ring, .tray, .loops, .latches, .out, .msix, .pba, .freeCount] ps = true) (s : State) (l : List RegField) (v : Nat) (h : Evolves ps s0 s) : Evolves ps s0 (s.mirrorWrite l v).2 := by
  induction l generalizing s v with
  | nil => exact h
  | cons f t ih =>
    unfold State.mirrorWrite
    dsimp only
    have hw := State.busWrite_evolves (Part.of hl rfl) s .fw f.addr (setFld (s.busRead .fw f.addr).1 f.hi f.lo (v % 2 ^ (f.hi + 1 - f.lo))) h
    split
    · exact ih _ _ hw
    · exact hw

theorem State.fwEvent_evolves {ps : List Part} {s0 : State} (hl : Part.sub [.dev, .counts, .out, .pba] ps = true) (s : State) (code data : Nat)
    (h : Evolves ps s0 s) : Evolves ps s0 (State.fwEvent s code data) := by
  refine h.trans ?_; clear h
  unfold State.fwEvent
  try dsimp only
  repeat' first
    | (with_reducible first | exact .refl _ | assumption | apply State.post_evolves | rfl)
    | exact Part.of hl rfl
    | split

theorem State.endLogin_evolves {ps : List Part} {s0 : State} (hl : Part.sub [.slots, .timers, .dev, .flow, .mram, .cores, .logins, .counts, .lpos, .audit, .out, .pba] ps = true) (s : State) (i reason origin : Nat)
    (h : Evolves ps s0 s) : Evolves ps s0 (State.endLogin s i reason origin) := by
  refine h.trans ?_; clear h
  unfold State.endLogin
  try dsimp only
  repeat' first
    | (with_reducible first
        | exact .refl _ | assumption | apply State.forEach_evolves | apply State.auditAdd_evolves | apply State.disableQp_evolves
        | apply foldl_evolves | rfl)
    | exact Part.of hl rfl
    | split | intro _
    | refine Evolves.raw ?_ rfl rfl rfl ⟨rfl, fun p => by cases p <;> first | exact .inl (Part.sub_mem hl (by decide)) | exact .inr rfl⟩
        (fun w => by simp only [State.wf, Mram.wf, Flow.wf, Flow.burst, Bool.and_eq_true] at w ⊢; simp only [w, twf_tset, twf_filter, twf_nil, and_self])

theorem State.lifePhase1_evolves {ps : List Part} {s0 : State} (hl : Part.sub [.mram, .life] ps = true) (s : State) (t : LifeState)
    (h : Evolves ps s0 s) : Evolves ps s0 (State.lifePhase1 s t) := by
  refine h.trans ?_; clear h
  unfold State.lifePhase1
  try dsimp only
  repeat' first
    | (with_reducible first | exact .refl _ | assumption | apply State.writeLife_evolves | rfl)
    | exact Part.of hl rfl
    | split
    | refine Evolves.raw ?_ rfl rfl rfl ⟨rfl, fun p => by cases p <;> first | exact .inl (Part.sub_mem hl (by decide)) | exact .inr rfl⟩
        (fun w => by simp only [State.wf, Mram.wf, Flow.wf, Flow.burst, Bool.and_eq_true] at w ⊢; simp only [w, twf_tset, twf_filter, twf_nil, and_self])

theorem State.setSecret_evolves {ps : List Part} {s0 : State} (hl : Part.sub [.mram] ps = true) (s : State) (r : Nat) (k : Secret)
    (h : Evolves ps s0 s) : Evolves ps s0 (State.setSecret s r k) := by
  refine h.trans ?_; clear h
  unfold State.setSecret
  try dsimp only
  repeat' first
    | (with_reducible first | exact .refl _ | assumption | rfl)
    | split
    | refine Evolves.raw ?_ rfl rfl rfl ⟨rfl, fun p => by cases p <;> first | exact .inl (Part.sub_mem hl (by decide)) | exact .inr rfl⟩
        (fun w => by simp only [State.wf, Mram.wf, Flow.wf, Flow.burst, Bool.and_eq_true] at w ⊢; simp only [w, twf_tset, twf_filter, twf_nil, and_self])

theorem State.keyGenerate_evolves {ps : List Part} {s0 : State} (hl : Part.sub [.mram, .freeCount] ps = true) (s : State) (typ : Nat)
    (h : Evolves ps s0 s) : Evolves ps s0 (State.keyGenerate s typ) := by
  refine h.trans ?_; clear h
  unfold State.keyGenerate
  try dsimp only
  repeat' first
    | (with_reducible first | exact .refl _ | assumption | apply State.randBytes_evolves | apply State.setSecret_evolves | rfl)
    | exact Part.of hl rfl
    | split

theorem State.modLife_evolves {ps : List Part} {s0 : State} (hl : Part.sub [.life] ps = true) (s : State) (f : LifeRun → LifeRun)
    (h : Evolves ps s0 s) : Evolves ps s0 (State.modLife s f) := by
  refine h.trans ?_; clear h
  unfold State.modLife
  try dsimp only
  repeat' first
    | (with_reducible first | exact .refl _ | assumption | rfl)
    | split
    | refine Evolves.raw ?_ rfl rfl rfl ⟨rfl, fun p => by cases p <;> first | exact .inl (Part.sub_mem hl (by decide)) | exact .inr rfl⟩
        (fun w => by simp only [State.wf, Mram.wf, Flow.wf, Flow.burst, Bool.and_eq_true] at w ⊢; simp only [w, twf_tset, twf_filter, twf_nil, and_self])

theorem twf_foldl_tset {α β : Type} [DecidableEq α] (d : α) (k : β → Nat) (v : β → α) (l : List β) (t : Table α) (h : twf d t = true) :
    twf d (l.foldl (fun t e => tset d t (k e) (v e)) t) = true := by
  induction l generalizing t with
  | nil => exact h
  | cons e l ih => exact ih _ (twf_tset _ _ _ _ h)

theorem State.clearCounts_evolves {ps : List Part} {s0 : State} (hl : Part.sub [.telemetry] ps = true) (s : State) (i : Nat) (h : Evolves ps s0 s) : Evolves ps s0 (s.clearCounts i) :=
  Evolves.raw h rfl rfl rfl ⟨rfl, fun p => by cases p <;> first | exact .inl (Part.sub_mem hl (by decide)) | exact .inr rfl⟩ fun w => by
    simp only [State.wf, Bool.and_eq_true] at w ⊢
    simp only [w, and_self, true_and, and_true]
    exact twf_foldl_tset _ _ _ _ _ (by simp only [w])

theorem State.beginOpening_evolves {ps : List Part} {s0 : State} (hl : Part.sub [.slots, .flow, .mram, .life] ps = true) (s : State) (jtag : Bool)
    (h : Evolves ps s0 s) : Evolves ps s0 (State.beginOpening s jtag) := by
  refine h.trans ?_; clear h
  unfold State.beginOpening
  try dsimp only
  repeat' first
    | (with_reducible first
        | exact .refl _ | assumption | apply State.forEach_evolves | apply State.closeSession_evolves | apply State.modLife_evolves
        | apply foldl_evolves | rfl)
    | exact Part.of hl rfl
    | split | intro _

theorem State.dictPut_evolves {ps : List Part} {s0 : State} (hl : Part.sub [.slots, .polders, .timers, .dev, .flow, .mram, .cores, .logins, .telemetry, .counts, .ports, .lpos, .audit, .life, .out, .pba, .freeCount] ps = true) (s : State) (a : Asker) (idx sub pers : Nat) (v : List Byte)
    (h : Evolves ps s0 s) : Evolves ps s0 (State.dictPut s a idx sub pers v) := by
  refine h.trans ?_; clear h
  unfold State.dictPut
  dsimp only
  with_reducible refine Evolves.ite (fun _ => ?_) (fun _ => ?_)
  · exact State.endLogin_evolves (Part.of hl rfl) _ _ _ _ (Evolves.refl s)
  · with_reducible refine Evolves.ite (fun _ => ?_) (fun _ => ?_)
    · exact State.persist_evolves (Part.of hl rfl) _ _ _ _ (State.forEach_evolves (Part.of hl rfl) _ _ _ (Evolves.refl s) fun u i => State.endLogin_evolves (Part.of hl rfl) _ _ _ _ (Evolves.refl u))
    · repeat' first
        | with_reducible exact Evolves.refl _
        | with_reducible apply State.persist_evolves
        | with_reducible apply State.modLife_evolves
        | with_reducible apply State.lifePhase1_evolves
        | with_reducible apply State.beginOpening_evolves
        | with_reducible apply State.writeLife_evolves
        | with_reducible apply State.auditFill_evolves
        | with_reducible apply State.clearCounts_evolves
        | with_reducible apply State.writeConvReq_evolves
        | with_reducible apply State.writeSetCtrl_evolves
        | with_reducible apply State.writeLpCtrl_evolves
        | with_reducible apply State.setSecret_evolves
        | with_reducible apply State.keyGenerate_evolves
        | exact Part.of hl rfl
        | with_reducible refine Evolves.ite (fun _ => ?_) (fun _ => ?_)
        | split

theorem State.dictEffect_evolves {ps : List Part} {s0 : State} (hl : Part.sub [.now, .slots, .polders, .timers, .tide, .dev, .flow, .mram, .cores, .logins, .telemetry, .counts, .ports, .lpos, .mail, .audit, .life, .crypto, .ring, .tray, .loops, .latches, .out, .msix, .pba, .freeCount] ps = true) (s : State) (a : Asker) (idx sub pers : Nat) (v : List Byte)
    (h : Evolves ps s0 s) : Evolves ps s0 ((State.dictEffect s a idx sub pers v)).2 := by
  refine h.trans ?_; clear h
  unfold State.dictEffect
  try dsimp only
  repeat' first
    | (with_reducible first | exact .refl _ | assumption | apply State.persist_evolves | apply State.mirrorWrite_evolves | apply State.dictPut_evolves | rfl)
    | exact Part.of hl rfl
    | split

theorem State.mbStarted_evolves {ps : List Part} {s0 : State} (hl : Part.sub [.mail] ps = true) (s : State) (c : Nat)
    (h : Evolves ps s0 s) : Evolves ps s0 (State.mbStarted s c) := by
  refine h.trans ?_; clear h
  unfold State.mbStarted
  try dsimp only
  repeat' first
    | (with_reducible first | exact .refl _ | assumption | apply State.modMb_evolves | rfl)
    | exact Part.of hl rfl
    | split | intro _

theorem State.dictWrite_evolves {ps : List Part} {s0 : State} (hl : Part.sub [.now, .slots, .polders, .timers, .tide, .dev, .flow, .mram, .cores, .logins, .telemetry, .counts, .ports, .lpos, .mail, .audit, .life, .crypto, .ring, .tray, .loops, .latches, .out, .msix, .pba, .freeCount] ps = true) (s : State) (c : Nat) (a : Asker) (idx sub : Nat) (v? : Option (List Byte))
    (h : Evolves ps s0 s) : Evolves ps s0 ((State.dictWrite s c a idx sub v?)).2 := by
  refine h.trans ?_; clear h
  unfold State.dictWrite
  dsimp only
  repeat' first
    | with_reducible exact Evolves.refl _
    | with_reducible apply State.modLife_evolves
    | with_reducible apply State.mbStarted_evolves
    | with_reducible apply State.tally_evolves
    | with_reducible apply State.auditAdd_evolves
    | with_reducible apply State.dictEffect_evolves
    | with_reducible refine Evolves.ite_snd (fun _ => ?_) (fun _ => ?_)
    | exact Part.of hl rfl
    | split

theorem State.setReq_evolves {ps : List Part} {s0 : State} (hl : Part.sub [.ring] ps = true) (s : State) (p : Path) (r : Option RingReq)
    (h : Evolves ps s0 s) : Evolves ps s0 (State.setReq s p r) := by
  refine h.trans ?_; clear h
  unfold State.setReq
  try dsimp only
  repeat' first
    | (with_reducible first | exact .refl _ | assumption | apply State.modRing_evolves | rfl)
    | exact Part.of hl rfl
    | split | intro _

theorem State.sendSegment_evolves {ps : List Part} {s0 : State} (hl : Part.sub [.ring, .out, .freeCount] ps = true) (s : State) (r : RingReq)
    (h : Evolves ps s0 s) : Evolves ps s0 (State.sendSegment s r) := by
  refine h.trans ?_; clear h
  unfold State.sendSegment
  try dsimp only
  repeat' first
    | (with_reducible first | exact .refl _ | assumption | apply State.ringNew_evolves | apply State.ringQueue_evolves | apply State.setReq_evolves | rfl)
    | exact Part.of hl rfl
    | split

theorem State.resendSegment_evolves {ps : List Part} {s0 : State} (hl : Part.sub [.ring, .out, .freeCount] ps = true) (s : State) (r : RingReq)
    (h : Evolves ps s0 s) : Evolves ps s0 (State.resendSegment s r) := by
  refine h.trans ?_; clear h
  unfold State.resendSegment
  try dsimp only
  repeat' first
    | (with_reducible first | exact .refl _ | assumption | apply State.ringNew_evolves | apply State.ringQueue_evolves | apply State.setReq_evolves | rfl)
    | exact Part.of hl rfl
    | split

theorem State.endReq_evolves {ps : List Part} {s0 : State} (hl : Part.sub [.dev, .counts, .mail, .ring, .out, .pba] ps = true) (s : State) (p : Path) (status : Nat) (resp : List Byte)
    (h : Evolves ps s0 s) : Evolves ps s0 (State.endReq s p status resp) := by
  refine h.trans ?_; clear h
  unfold State.endReq
  try dsimp only
  repeat' first
    | (with_reducible first | exact .refl _ | assumption | apply State.mbDone_evolves | apply State.setReq_evolves | rfl)
    | exact Part.of hl rfl
    | split

theorem State.takeResponse_evolves {ps : List Part} {s0 : State} (hl : Part.sub [.dev, .counts, .mail, .ring, .out, .pba, .freeCount] ps = true) (s : State) (f : Frame)
    (h : Evolves ps s0 s) : Evolves ps s0 (State.takeResponse s f) := by
  refine h.trans ?_; clear h
  unfold State.takeResponse
  try dsimp only
  repeat' first
    | (with_reducible first | exact .refl _ | assumption | apply State.sendSegment_evolves | apply State.endReq_evolves | rfl)
    | exact Part.of hl rfl
    | split | intro _

theorem State.modPeer_evolves {ps : List Part} {s0 : State} (hl : Part.sub [.ring] ps = true) (s : State) (a : Nat) (f : RingPeer → RingPeer)
    (h : Evolves ps s0 s) : Evolves ps s0 (State.modPeer s a f) := by
  refine h.trans ?_; clear h
  unfold State.modPeer
  try dsimp only
  repeat' first
    | (with_reducible first | exact .refl _ | assumption | apply State.modRing_evolves | rfl)
    | exact Part.of hl rfl
    | split | intro _

theorem State.respond_evolves {ps : List Part} {s0 : State} (hl : Part.sub [.ring, .out, .freeCount] ps = true) (s : State) (f : Frame) (st total : Nat) (data : List Byte)
    (h : Evolves ps s0 s) : Evolves ps s0 (State.respond s f st total data) := by
  refine h.trans ?_; clear h
  unfold State.respond
  try dsimp only
  repeat' first
    | (with_reducible first | exact .refl _ | assumption | apply State.ringNew_evolves | apply State.ringQueue_evolves | apply State.modPeer_evolves | rfl)
    | exact Part.of hl rfl
    | split | intro _

theorem State.respondAgain_evolves {ps : List Part} {s0 : State} (hl : Part.sub [.ring, .out, .freeCount] ps = true) (s : State) (a : Nat)
    (h : Evolves ps s0 s) : Evolves ps s0 (State.respondAgain s a) := by
  refine h.trans ?_; clear h
  unfold State.respondAgain
  try dsimp only
  repeat' first
    | (with_reducible first | exact .refl _ | assumption | apply State.ringQueue_evolves | rfl)
    | exact Part.of hl rfl
    | split

theorem State.ringCarry_evolves {ps : List Part} {s0 : State} (hl : Part.sub [.now, .slots, .polders, .timers, .tide, .dev, .flow, .mram, .cores, .logins, .telemetry, .counts, .ports, .lpos, .mail, .audit, .life, .crypto, .ring, .tray, .loops, .latches, .out, .msix, .pba, .freeCount] ps = true) (s : State) (f : Frame) (h : Evolves ps s0 s) : Evolves ps s0 (s.ringCarry f).2 := by
  unfold State.ringCarry
  dsimp only
  repeat' first
    | exact h
    | with_reducible apply State.modPeer_evolves
    | with_reducible apply State.dictWrite_evolves
    | exact Part.of hl rfl
    | split

theorem State.dropRx_evolves {ps : List Part} {s0 : State} (hl : Part.sub [.ring] ps = true) (s : State) (o : Nat) (h : Evolves ps s0 s) : Evolves ps s0 (s.dropRx o) := by
  refine h.trans ⟨⟨rfl, fun p => by cases p <;> first | exact .inl (Part.sub_mem hl (by decide)) | exact .inr rfl⟩, id, fun b => ?_, Nat.le_refl _, List.prefix_refl _⟩
  rw [bounded_iff] at b ⊢
  exact ⟨b.1, b.2.1, Nat.le_trans (List.length_filter_le _ _) b.2.2⟩

theorem State.serveRing_evolves {ps : List Part} {s0 : State} (hl : Part.sub [.now, .slots, .polders, .timers, .tide, .dev, .flow, .mram, .cores, .logins, .telemetry, .counts, .ports, .lpos, .mail, .audit, .life, .crypto, .ring, .tray, .loops, .latches, .out, .msix, .pba, .freeCount] ps = true) (s : State) (n : Nat) (h : Evolves ps s0 s) : Evolves ps s0 (s.serveRing n) := by
  induction n generalizing s with
  | zero => exact h
  | succ n ih =>
    rw [State.serveRing]
    dsimp only
    repeat' first
      | exact h
      | apply ih
      | with_reducible apply State.takeResponse_evolves
      | with_reducible apply State.dropRx_evolves
      | with_reducible apply State.respond_evolves
      | with_reducible apply State.modMb_evolves
      | with_reducible apply State.ringCarry_evolves
      | exact Part.of hl rfl
      | split

theorem State.service_evolves {ps : List Part} {s0 : State} (hl : Part.sub [.now, .slots, .polders, .timers, .tide, .dev, .flow, .mram, .cores, .logins, .telemetry, .counts, .ports, .lpos, .mail, .audit, .life, .crypto, .ring, .tray, .loops, .latches, .out, .msix, .pba, .freeCount] ps = true) (s : State)
    (h : Evolves ps s0 s) : Evolves ps s0 (State.service s) := by
  refine h.trans ?_; clear h
  unfold State.service
  try dsimp only
  repeat' first
    | (with_reducible first | exact .refl _ | assumption | apply State.serveRing_evolves | rfl)
    | exact Part.of hl rfl
    | split

theorem State.rxPush_evolves {ps : List Part} {s0 : State} (hl : Part.sub [.cores, .mail, .ring] ps = true) (s : State) (f : Frame) (h : Evolves ps s0 s) (hr : s.ring.rxQ.length < 16) : Evolves ps s0 (s.rxPush f) := by
  unfold State.rxPush
  refine State.line_evolves (Part.of hl rfl) _ _ ((State.modMb_evolves (Part.of hl rfl) s 2 (fun m => { m with order := s.nextOrder }) h).trans ⟨⟨rfl, fun p => by cases p <;> first | exact .inl (Part.sub_mem hl (by decide)) | exact .inr rfl⟩, id, fun b => ?_, Nat.le_refl _, List.prefix_refl _⟩)
  rw [bounded_iff] at b ⊢
  refine ⟨b.1, b.2.1, ?_⟩
  show (s.ring.rxQ ++ [_]).length ≤ 16
  rw [List.length_append]
  exact hr

theorem State.forwardReq_evolves {ps : List Part} {s0 : State} (hl : Part.sub [.dev, .counts, .mail, .ring, .out, .pba, .freeCount] ps = true) (s : State) (c role : Nat)
    (h : Evolves ps s0 s) : Evolves ps s0 (State.forwardReq s c role) := by
  refine h.trans ?_; clear h
  unfold State.forwardReq
  try dsimp only
  repeat' first
    | (with_reducible first | exact .refl _ | assumption | apply State.mbDone_evolves | apply State.sendSegment_evolves | rfl)
    | exact Part.of hl rfl
    | split

theorem State.carryAccess_evolves {ps : List Part} {s0 : State} (hl : Part.sub [.now, .slots, .polders, .timers, .tide, .dev, .flow, .mram, .cores, .logins, .telemetry, .counts, .ports, .lpos, .mail, .audit, .life, .crypto, .ring, .tray, .loops, .latches, .out, .msix, .pba, .freeCount] ps = true) (s : State) (c : Nat)
    (h : Evolves ps s0 s) : Evolves ps s0 (State.carryAccess s c) := by
  refine h.trans ?_; clear h
  unfold State.carryAccess
  try dsimp only
  repeat' first
    | (with_reducible first | exact .refl _ | assumption | apply State.mbDone_evolves | apply State.dictWrite_evolves | apply State.forwardReq_evolves | rfl)
    | exact Part.of hl rfl
    | split

theorem State.lockoutCheck_evolves {ps : List Part} {s0 : State} (hl : Part.sub [.mail] ps = true) (s : State) (c : Nat)
    (h : Evolves ps s0 s) : Evolves ps s0 (State.lockoutCheck s c) := by
  refine h.trans ?_; clear h
  unfold State.lockoutCheck
  try dsimp only
  repeat' first
    | (with_reducible first | exact .refl _ | assumption | apply State.modMb_evolves | rfl)
    | exact Part.of hl rfl
    | split | intro _

theorem State.carryChallenge_evolves {ps : List Part} {s0 : State} (hl : Part.sub [.dev, .counts, .mail, .out, .pba, .freeCount] ps = true) (s0 : State) (c : Nat)
    (h : Evolves ps s0 s0) : Evolves ps s0 (State.carryChallenge s0 c) := by
  refine h.trans ?_; clear h
  unfold State.carryChallenge
  try dsimp only
  repeat' first
    | (with_reducible first
        | exact .refl _ | assumption | apply State.randBytes_evolves | apply State.modMb_evolves | apply State.mbDone_evolves
        | apply State.lockoutCheck_evolves | rfl)
    | exact Part.of hl rfl
    | split | intro _

theorem State.carryRespond_evolves {ps : List Part} {s0 : State} (hl : Part.sub [.dev, .counts, .mail, .life, .out, .pba] ps = true) (s : State) (c : Nat)
    (h : Evolves ps s0 s) : Evolves ps s0 (State.carryRespond s c) := by
  refine h.trans ?_; clear h
  unfold State.carryRespond
  try dsimp only
  repeat' first
    | (with_reducible first | exact .refl _ | assumption | apply State.modMb_evolves | apply State.mbDone_evolves | apply State.modLife_evolves | rfl)
    | exact Part.of hl rfl
    | split | intro _

theorem State.carryLogout_evolves {ps : List Part} {s0 : State} (hl : Part.sub [.slots, .timers, .dev, .flow, .mram, .cores, .logins, .counts, .lpos, .mail, .audit, .out, .pba] ps = true) (s : State) (c : Nat)
    (h : Evolves ps s0 s) : Evolves ps s0 (State.carryLogout s c) := by
  refine h.trans ?_; clear h
  unfold State.carryLogout
  try dsimp only
  repeat' first
    | (with_reducible first | exact .refl _ | assumption | apply State.mbDone_evolves | apply State.endLogin_evolves | rfl)
    | exact Part.of hl rfl
    | split

theorem State.carry_evolves {ps : List Part} {s0 : State} (hl : Part.sub [.now, .slots, .polders, .timers, .tide, .dev, .flow, .mram, .cores, .logins, .telemetry, .counts, .ports, .lpos, .mail, .audit, .life, .crypto, .ring, .tray, .loops, .latches, .out, .msix, .pba, .freeCount] ps = true) (s : State) (c : Nat)
    (h : Evolves ps s0 s) : Evolves ps s0 (State.carry s c) := by
  refine h.trans ?_; clear h
  unfold State.carry
  try dsimp only
  repeat' first
    | (with_reducible first
        | exact .refl _ | assumption | apply State.mbDone_evolves | apply State.carryAccess_evolves | apply State.carryChallenge_evolves
        | apply State.carryRespond_evolves | apply State.carryLogout_evolves | rfl)
    | exact Part.of hl rfl
    | split

theorem State.serveIf_evolves {ps : List Part} {s0 : State} (hl : Part.sub [.now, .slots, .polders, .timers, .tide, .dev, .flow, .mram, .cores, .logins, .telemetry, .counts, .ports, .lpos, .mail, .audit, .life, .crypto, .ring, .tray, .loops, .latches, .out, .msix, .pba, .freeCount] ps = true) (s : State) (c : Path) (ok : Mailbox → Bool)
    (h : Evolves ps s0 s) : Evolves ps s0 (State.serveIf s c ok) := by
  refine h.trans ?_; clear h
  unfold State.serveIf
  try dsimp only
  repeat' first
    | (with_reducible first | exact .refl _ | assumption | apply State.modMb_evolves | apply State.service_evolves | apply State.carry_evolves | rfl)
    | exact Part.of hl rfl
    | split | intro _

theorem State.makeLogin_evolves {ps : List Part} {s0 : State} (hl : Part.sub [.dev, .flow, .mram, .cores, .logins, .counts, .lpos, .mail, .audit, .out, .pba] ps = true) (s : State) (c role : Nat)
    (h : Evolves ps s0 s) : Evolves ps s0 (State.makeLogin s c role) := by
  refine h.trans ?_; clear h
  unfold State.makeLogin
  try dsimp only
  repeat' first
    | (with_reducible first | exact .refl _ | assumption | apply State.auditAdd_evolves | apply State.modMb_evolves | apply State.mbDone_evolves | rfl)
    | exact Part.of hl rfl
    | split | intro _
    | refine Evolves.raw ?_ rfl rfl rfl ⟨rfl, fun p => by cases p <;> first | exact .inl (Part.sub_mem hl (by decide)) | exact .inr rfl⟩
        (fun w => by simp only [State.wf, Mram.wf, Flow.wf, Flow.burst, Bool.and_eq_true] at w ⊢; simp only [w, twf_tset, twf_filter, twf_nil, and_self])

theorem State.failLogin_evolves {ps : List Part} {s0 : State} (hl : Part.sub [.dev, .flow, .mram, .cores, .counts, .lpos, .mail, .audit, .out, .pba] ps = true) (s : State) (c role : Nat)
    (h : Evolves ps s0 s) : Evolves ps s0 (State.failLogin s c role) := by
  refine h.trans ?_; clear h
  unfold State.failLogin
  try dsimp only
  repeat' first
    | (with_reducible first
        | exact .refl _ | assumption | apply State.tally_evolves | apply State.auditAdd_evolves | apply State.modMb_evolves
        | apply State.mbDone_evolves | apply State.fwEvent_evolves | rfl)
    | exact Part.of hl rfl
    | split | intro _

theorem State.endRespond_evolves {ps : List Part} {s0 : State} (hl : Part.sub [.dev, .flow, .mram, .cores, .logins, .counts, .lpos, .mail, .audit, .out, .pba] ps = true) (s : State) (c : Nat)
    (h : Evolves ps s0 s) : Evolves ps s0 (State.endRespond s c) := by
  refine h.trans ?_; clear h
  unfold State.endRespond
  try dsimp only
  repeat' first
    | (with_reducible first
        | exact .refl _ | assumption | apply State.tally_evolves | apply State.modMb_evolves | apply State.mbDone_evolves
        | apply State.makeLogin_evolves | apply State.failLogin_evolves | rfl)
    | exact Part.of hl rfl
    | split | intro _

theorem State.goOn_evolves {ps : List Part} {s0 : State} (hl : Part.sub [.now, .slots, .polders, .timers, .tide, .dev, .flow, .mram, .cores, .logins, .telemetry, .counts, .ports, .lpos, .mail, .audit, .life, .crypto, .ring, .tray, .loops, .latches, .out, .msix, .pba, .freeCount] ps = true) (s : State) (c : Nat)
    (h : Evolves ps s0 s) : Evolves ps s0 (State.goOn s c) := by
  refine h.trans ?_; clear h
  unfold State.goOn
  try dsimp only
  repeat' first
    | (with_reducible first | exact .refl _ | assumption | apply State.service_evolves | apply State.carry_evolves | rfl)
    | exact Part.of hl rfl
    | split

theorem State.endPoint_evolves {ps : List Part} {s0 : State} (hl : Part.sub [.now, .slots, .polders, .timers, .tide, .dev, .flow, .mram, .cores, .logins, .telemetry, .counts, .ports, .lpos, .mail, .audit, .life, .crypto, .ring, .tray, .loops, .latches, .out, .msix, .pba, .freeCount] ps = true) (s : State) (c : Nat)
    (h : Evolves ps s0 s) : Evolves ps s0 (State.endPoint s c) := by
  refine h.trans ?_; clear h
  unfold State.endPoint
  try dsimp only
  repeat' first
    | (with_reducible first
        | exact .refl _ | assumption | apply State.modMb_evolves | apply State.mbDone_evolves | apply State.respond_evolves
        | apply State.dropRx_evolves | apply State.service_evolves | apply State.goOn_evolves | rfl)
    | exact Part.of hl rfl
    | split | intro _

theorem State.deviceReset_evolves {ps : List Part} {s0 : State} (hl : Part.sub [.now, .slots, .polders, .timers, .tide, .dev, .flow, .mram, .cores, .coreCtl, .logins, .boot, .telemetry, .counts, .ports, .lpos, .mail, .audit, .life, .crypto, .sram, .dictView, .storeQ, .ring, .tray, .loops, .tap, .latches, .lastRead, .out, .msix, .pba, .freeCount] ps = true) (s : State) (code : Nat) (srcs : List ResetSource) (vddaFirst lost : Bool) (h : Evolves ps s0 s) :
    Evolves ps s0 (s.deviceReset code srcs vddaFirst lost) := by
  refine h.trans ⟨⟨rfl, fun p => by cases p <;> first | exact .inl (Part.sub_mem hl (by decide)) | exact .inr rfl⟩, fun w => ?_, fun _ => rfl, Nat.le_refl _, List.prefix_refl _⟩
  have hs : twf {} (s.slots.foldl (fun t e => tset {} t e.1 (e.2.reset s.now vddaFirst)) []) = true := twf_foldl_tset _ _ _ _ _ rfl
  simp only [State.wf, Bool.and_eq_true] at w
  have hm := w
  simp only [Mram.wf, Flow.wf, Bool.and_eq_true] at hm
  cases lost <;> simp [State.wf, Flow.wf, State.deviceReset, State.reset, w, hm, hs]

theorem State.haltStart_evolves {ps : List Part} {s0 : State} (hl : Part.sub [.dev, .boot, .counts, .out, .pba] ps = true) (s : State) (code : Nat)
    (h : Evolves ps s0 s) : Evolves ps s0 (State.haltStart s code) := by
  refine h.trans ?_; clear h
  unfold State.haltStart
  try dsimp only
  repeat' first
    | (with_reducible first | exact .refl _ | assumption | apply State.irq_evolves | apply State.post_evolves | rfl)
    | exact Part.of hl rfl
    | split
    | refine Evolves.raw ?_ rfl rfl rfl ⟨rfl, fun p => by cases p <;> first | exact .inl (Part.sub_mem hl (by decide)) | exact .inr rfl⟩
        (fun w => by simp only [State.wf, Mram.wf, Flow.wf, Flow.burst, Bool.and_eq_true] at w ⊢; simp only [w, twf_tset, twf_filter, twf_nil, and_self])

theorem State.wipeFailed_evolves {ps : List Part} {s0 : State} (hl : Part.sub [.dev, .boot, .counts, .life, .out, .pba] ps = true) (s : State) (code : Nat)
    (h : Evolves ps s0 s) : Evolves ps s0 (State.wipeFailed s code) := by
  refine h.trans ?_; clear h
  unfold State.wipeFailed
  try dsimp only
  repeat' first
    | (with_reducible first | exact .refl _ | assumption | apply State.modLife_evolves | apply State.haltStart_evolves | rfl)
    | exact Part.of hl rfl
    | split | intro _

theorem State.wipeFifos_evolves {ps : List Part} {s0 : State} (hl : Part.sub [.slots] ps = true) (s : State)
    (h : Evolves ps s0 s) : Evolves ps s0 (State.wipeFifos s) := by
  refine h.trans ?_; clear h
  unfold State.wipeFifos
  try dsimp only
  repeat' first
    | (with_reducible first | exact .refl _ | assumption | apply State.modSlot_evolves | apply State.forEach_evolves | apply foldl_evolves | rfl)
    | exact Part.of hl rfl
    | split | intro _

theorem State.wipeMemories_evolves {ps : List Part} {s0 : State} (hl : Part.sub [.slots, .dev, .flow, .sram, .ring, .tray] ps = true) (s : State) (h : Evolves ps s0 s) : Evolves ps s0 s.wipeMemories := by
  refine (State.wipeFifos_evolves (Part.of hl rfl) _ h).trans ?_; clear h
  unfold State.wipeMemories
  generalize s.wipeFifos = u
  refine ⟨⟨rfl, fun p => by cases p <;> first | exact .inl (Part.sub_mem hl (by decide)) | exact .inr rfl⟩, fun w => ?_, fun _ => rfl, Nat.le_refl _, List.prefix_refl _⟩
  simp only [State.wf, Mram.wf, Flow.wf, Bool.and_eq_true] at w ⊢
  simp only [w, twf_nil, and_self]

theorem State.loadDiverged_evolves {ps : List Part} {s0 : State} (hl : Part.sub [.flow] ps = true) (s : State)
    (h : Evolves ps s0 s) : Evolves ps s0 (State.loadDiverged s) := by
  refine h.trans ?_; clear h
  unfold State.loadDiverged
  try dsimp only
  repeat' first
    | (with_reducible first | exact .refl _ | assumption | apply State.modSet_evolves | apply State.forEach_evolves | apply foldl_evolves | rfl)
    | exact Part.of hl rfl
    | split | intro _

theorem State.drawGens_evolves {ps : List Part} {s0 : State} (hl : Part.sub [.freeCount] ps = true) (s : State) (n : Nat)
    (h : Evolves ps s0 s) : Evolves ps s0 ((State.drawGens s n)).2 := by
  refine h.trans ?_; clear h
  unfold State.drawGens
  try dsimp only
  repeat' first
    | (with_reducible first | exact .refl _ | assumption | apply State.randBytes_evolves | rfl)
    | exact Part.of hl rfl
    | split

theorem State.advanceGens_evolves {ps : List Part} {s0 : State} (hl : Part.sub [.mram, .freeCount] ps = true) (s : State) (h : Evolves ps s0 s) : Evolves ps s0 s.advanceGens := by
  unfold State.advanceGens
  split
  · refine Evolves.raw h rfl rfl rfl ⟨rfl, fun p => by cases p <;> first | exact .inl (Part.sub_mem hl (by decide)) | exact .inr rfl⟩ fun w => ?_
    simp only [State.wf, Mram.wf, Flow.wf, Bool.and_eq_true] at w ⊢
    simp only [w, and_self, true_and, and_true]
    exact twf_foldl_tset _ _ _ _ _ rfl
  · refine Evolves.raw (State.drawGens_evolves (Part.of hl rfl) _ 2048 h) rfl rfl rfl ⟨rfl, fun p => by cases p <;> first | exact .inl (Part.sub_mem hl (by decide)) | exact .inr rfl⟩ fun w => ?_
    simp only [State.wf, Mram.wf, Flow.wf, Bool.and_eq_true] at w ⊢
    simp only [w, and_self, true_and, and_true]
    exact twf_foldl_tset _ _ _ _ _ rfl

theorem State.drawLogins_evolves {ps : List Part} {s0 : State} (hl : Part.sub [.logins, .freeCount] ps = true) (s : State) (h : Evolves ps s0 s) : Evolves ps s0 s.drawLogins :=
  Evolves.raw (State.drawGens_evolves (Part.of hl rfl) _ 16 h) rfl rfl rfl ⟨rfl, fun p => by cases p <;> first | exact .inl (Part.sub_mem hl (by decide)) | exact .inr rfl⟩ fun w => by
    simp only [State.wf, Bool.and_eq_true] at w ⊢
    simp only [w, and_self, true_and, and_true]
    exact twf_foldl_tset _ _ _ _ _ rfl

theorem State.beginStep4_evolves {ps : List Part} {s0 : State} (hl : Part.sub [.dev, .mram, .logins, .boot, .counts, .out, .pba, .freeCount] ps = true) (s : State)
    (h : Evolves ps s0 s) : Evolves ps s0 (State.beginStep4 s) := by
  refine h.trans ?_; clear h
  unfold State.beginStep4
  try dsimp only
  repeat' first
    | (with_reducible first | exact .refl _ | assumption | apply State.post_evolves | apply State.advanceGens_evolves | apply State.drawLogins_evolves | rfl)
    | exact Part.of hl rfl
    | split
    | refine Evolves.raw ?_ rfl rfl rfl ⟨rfl, fun p => by cases p <;> first | exact .inl (Part.sub_mem hl (by decide)) | exact .inr rfl⟩
        (fun w => by simp only [State.wf, Mram.wf, Flow.wf, Flow.burst, Bool.and_eq_true] at w ⊢; simp only [w, twf_tset, twf_filter, twf_nil, and_self])

theorem State.wipeMram_evolves {ps : List Part} {s0 : State} (hl : Part.sub [.mram] ps = true) (s : State)
    (h : Evolves ps s0 s) : Evolves ps s0 (State.wipeMram s) := by
  refine h.trans ?_; clear h
  unfold State.wipeMram
  try dsimp only
  repeat' first
    | (with_reducible first | exact .refl _ | assumption | rfl)
    | split
    | refine Evolves.raw ?_ rfl rfl rfl ⟨rfl, fun p => by cases p <;> first | exact .inl (Part.sub_mem hl (by decide)) | exact .inr rfl⟩
        (fun w => by simp only [State.wf, Mram.wf, Flow.wf, Flow.burst, Bool.and_eq_true] at w ⊢; simp only [w, twf_tset, twf_filter, twf_nil, and_self])

theorem State.lifePhase2_evolves {ps : List Part} {s0 : State} (hl : Part.sub [.mram, .life] ps = true) (s : State) (t : LifeState) (us : Word)
    (h : Evolves ps s0 s) : Evolves ps s0 (State.lifePhase2 s t us) := by
  refine h.trans ?_; clear h
  unfold State.lifePhase2
  try dsimp only
  repeat' first
    | (with_reducible first | exact .refl _ | assumption | apply State.persist_evolves | apply State.writeLife_evolves | apply State.modLife_evolves | rfl)
    | exact Part.of hl rfl
    | split | intro _

theorem State.bootImage_evolves {ps : List Part} {s0 : State} (hl : Part.sub [.slots, .timers, .dev, .flow, .mram, .cores, .coreCtl, .boot, .telemetry, .counts, .lpos, .audit, .life, .crypto, .sram, .out, .pba] ps = true) (s : State) (hd p : List Byte) (place : Nat) (h : Evolves ps s0 s) : Evolves ps s0 (s.bootImage hd p place) := by
  have step : ∀ (u : State) (n : Nat), Evolves ps s0 u → Evolves ps s0 { u with boot := { u.boot with step := max u.boot.step n } } :=
    fun u n hu => hu.trans ⟨⟨rfl, fun p => by cases p <;> first | exact .inl (Part.sub_mem hl (by decide)) | exact .inr rfl⟩, id, id, Nat.le_refl _, List.prefix_refl _⟩
  have entry : ∀ (u : State) (v : Word), Evolves ps s0 u → Evolves ps s0 { u with coreCtl := { u.coreCtl with entry := tset 0#32 u.coreCtl.entry 0 v } } :=
    fun u v hu => hu.trans ⟨⟨rfl, fun p => by cases p <;> first | exact .inl (Part.sub_mem hl (by decide)) | exact .inr rfl⟩, fun w => by simp only [State.wf, Bool.and_eq_true] at w ⊢; simp only [w, twf_tset, and_self], id, Nat.le_refl _, List.prefix_refl _⟩
  unfold State.bootImage
  exact step _ 6 (State.post_evolves (Part.of hl rfl) _ _ _ _ _ (State.writeCoreRun_evolves (Part.of hl rfl) _ _ (State.modLife_evolves (Part.of hl rfl) _ _ (entry _ _ (State.setSramBytes_evolves (Part.of hl rfl) _ _ _ h)))))

theorem State.hashAll_evolves {ps : List Part} {s0 : State} (hl : Part.sub [.mram, .cores, .lpos, .audit] ps = true) (s : State) (n : Nat) (h : Evolves ps s0 s) : Evolves ps s0 (s.hashAll n) := by
  induction n generalizing s with
  | zero => exact h
  | succ n ih => exact ih _ (State.auditHashNext_evolves (Part.of hl rfl) _ h)

theorem State.restoreSet_evolves {ps : List Part} {s0 : State} (hl : Part.sub [.slots, .dev, .flow, .mram, .cores, .counts, .lpos, .audit, .out, .pba] ps = true) (s : State) (k : Nat)
    (h : Evolves ps s0 s) : Evolves ps s0 (State.restoreSet s k) := by
  refine h.trans ?_; clear h
  unfold State.restoreSet
  try dsimp only
  repeat' first
    | (with_reducible first | exact .refl _ | assumption | apply State.modSet_evolves | apply State.setStateShow_evolves | apply State.formReady_evolves | rfl)
    | exact Part.of hl rfl
    | split | intro _

theorem State.loadEntry_evolves {ps : List Part} {s0 : State} (hl : Part.sub [.now, .slots, .polders, .timers, .tide, .dev, .flow, .mram, .cores, .telemetry, .counts, .ports, .lpos, .mail, .audit, .crypto, .ring, .tray, .loops, .latches, .out, .msix, .pba, .freeCount] ps = true) (s : State) (idx sub : Nat)
    (h : Evolves ps s0 s) : Evolves ps s0 (State.loadEntry s idx sub) := by
  refine h.trans ?_; clear h
  unfold State.loadEntry
  try dsimp only
  repeat' first
    | (with_reducible first | exact .refl _ | assumption | apply State.mirrorWrite_evolves | apply State.fwEvent_evolves | apply State.restoreSet_evolves | rfl)
    | exact Part.of hl rfl
    | split

theorem State.keepCounts_evolves {ps : List Part} {s0 : State} (hl : Part.sub [.mram, .telemetry, .counts, .life] ps = true) (s : State)
    (h : Evolves ps s0 s) : Evolves ps s0 (State.keepCounts s) := by
  refine h.trans ?_; clear h
  unfold State.keepCounts
  try dsimp only
  repeat' first
    | (with_reducible first | exact .refl _ | assumption | apply State.modLife_evolves | rfl)
    | exact Part.of hl rfl
    | split | intro _
    | refine Evolves.raw ?_ rfl rfl rfl ⟨rfl, fun p => by cases p <;> first | exact .inl (Part.sub_mem hl (by decide)) | exact .inr rfl⟩
        (fun w => by simp only [State.wf, Mram.wf, Flow.wf, Flow.burst, Bool.and_eq_true] at w ⊢; simp only [w, twf_tset, twf_filter, twf_nil, and_self])

theorem State.startCrypto_evolves {ps : List Part} {s0 : State} (hl : Part.sub [.life, .crypto] ps = true) (s : State) (op : Nat)
    (h : Evolves ps s0 s) : Evolves ps s0 (State.startCrypto s op) := by
  refine h.trans ?_; clear h
  unfold State.startCrypto
  try dsimp only
  repeat' first
    | (with_reducible first | exact .refl _ | assumption | apply State.writeCry_evolves | rfl)
    | exact Part.of hl rfl
    | split

theorem State.idle_evolves {ps : List Part} {s0 : State} (hl : Part.sub [.now, .slots, .polders, .timers, .tide, .dev, .flow, .mram, .cores, .logins, .telemetry, .counts, .ports, .lpos, .mail, .audit, .life, .crypto, .ring, .tray, .loops, .latches, .out, .msix, .pba, .freeCount] ps = true) (s : State)
    (h : Evolves ps s0 s) : Evolves ps s0 (State.idle s) := by
  refine h.trans ?_; clear h
  unfold State.idle
  try dsimp only
  repeat' first
    | (with_reducible first | exact .refl _ | assumption | apply State.elapse_evolves | apply State.service_evolves | rfl)
    | exact Part.of hl rfl
    | split

theorem State.modTap_evolves {ps : List Part} {s0 : State} (hl : Part.sub [.tap] ps = true) (s : State) (f : Tap → Tap)
    (h : Evolves ps s0 s) : Evolves ps s0 (State.modTap s f) := by
  refine h.trans ?_; clear h
  unfold State.modTap
  try dsimp only
  repeat' first
    | (with_reducible first | exact .refl _ | assumption | rfl)
    | split
    | refine Evolves.raw ?_ rfl rfl rfl ⟨rfl, fun p => by cases p <;> first | exact .inl (Part.sub_mem hl (by decide)) | exact .inr rfl⟩
        (fun w => by simp only [State.wf, Mram.wf, Flow.wf, Flow.burst, Bool.and_eq_true] at w ⊢; simp only [w, twf_tset, twf_filter, twf_nil, and_self])

theorem State.loadIr_evolves {ps : List Part} {s0 : State} (hl : Part.sub [.tap] ps = true) (s : State) (ir : Byte) (dr : Word)
    (h : Evolves ps s0 s) : Evolves ps s0 (State.loadIr s ir dr) := by
  refine h.trans ?_; clear h
  unfold State.loadIr
  try dsimp only
  repeat' first
    | (with_reducible first | exact .refl _ | assumption | apply State.modTap_evolves | rfl)
    | exact Part.of hl rfl
    | split | intro _

theorem State.takePins_evolves {ps : List Part} {s0 : State} (hl : Part.sub [.slots, .timers, .dev, .flow, .mram, .cores, .telemetry, .counts, .lpos, .audit, .crypto, .tap, .out, .pba] ps = true) (s : State) (ir : Byte)
    (h : Evolves ps s0 s) : Evolves ps s0 (State.takePins s ir) := by
  refine h.trans ?_; clear h
  unfold State.takePins
  try dsimp only
  repeat' first
    | (with_reducible first
        | exact .refl _ | assumption | apply State.forEach_evolves | apply State.cmdPark_evolves | apply State.modTap_evolves
        | apply State.loadIr_evolves | apply foldl_evolves | rfl)
    | exact Part.of hl rfl
    | split | intro _

end Sys2Proof.Machine
end

