-- ==== Sys2Proof/Laws/EvolvesCore.lean ====
section
/-! SUPPORT. What the operation of an Anvil instruction may do to the whole state. -/

namespace Sys2Proof.Machine

/-- An instruction evolves the state as its operation does. -/
theorem State.run_of_body {ps : List Part} (hl : Part.sub [.dev, .cores, .coreCtl, .counts, .out, .pba] ps = true) (s : State) (k : Nat) (i : Ins)
    (body : State → Res) (hb : ∀ u, (body u).Evolved ps u) : Evolves ps s (s.run k i body) :=
  State.run_evolves (Part.of hl rfl) s k i body (.refl s) hb

theorem State.eccTrap_evolved {ps : List Part} (hl : Part.sub [.dev, .cores, .counts, .out, .pba] ps = true) (s : State) (x z : Nat) (r : Res)
    (h : r.Evolved ps s) : ((s.eccTrap x z).getD r).Evolved ps s := by
  unfold State.eccTrap
  cases s.badAt x z with
  | some a => exact State.eccError_evolves (Part.of hl rfl) _ _ (.refl s)
  | none => exact h

theorem aluOp_evolved {ps : List Part} (hl : Part.sub [.cores] ps = true) (k : Nat) (rd : Option (Fin 32)) (f : Core → Alu) (s : State) :
    (aluOp k rd f s).Evolved ps s := State.modCore_evolves (Part.of hl rfl) _ _ _ (.refl s)

theorem movOp_evolved {ps : List Part} (hl : Part.sub [.cores] ps = true) (k : Nat) (rd : Fin 32) (v : Word) (s : State) :
    (movOp k rd v s).Evolved ps s := State.modCore_evolves (Part.of hl rfl) _ _ _ (.refl s)

theorem divOp_evolved {ps : List Part} (hl : Part.sub [.cores] ps = true) (k : Nat) (rd ra rb : Fin 32) (f : Word → Word → Alu) (s : State) :
    (divOp k rd ra rb f s).Evolved ps s := by
  unfold divOp
  dsimp only
  split
  · split
    · trivial
    · exact aluOp_evolved hl _ _ _ _
  · exact aluOp_evolved hl _ _ _ _

theorem fpOp_evolved {ps : List Part} (hl : Part.sub [.cores] ps = true) (k : Nat) (deliver : Core → Word → Core) (f : Core → Word × Exc) (s : State) :
    (fpOp k deliver f s).Evolved ps s := by
  unfold fpOp
  dsimp only
  split
  · trivial
  · exact State.modCore_evolves (Part.of hl rfl) _ _ _ (.refl s)

theorem loadOp_evolved {ps : List Part}
    (hl : Part.sub [.slots, .polders, .timers, .dev, .flow, .mram, .cores, .counts, .lpos, .audit,
      .crypto, .loops, .latches, .out, .pba, .freeCount] ps = true)
    (k : Nat) (word : Word) (rd : Fin 32) (m : MemArg) (z : Nat) (f : Nat → Word) (s : State) : (loadOp k word rd m z f s).Evolved ps s := by
  unfold loadOp
  dsimp only
  split
  · trivial
  · exact State.eccTrap_evolved (Part.of hl rfl) _ _ _ _
      (State.modCore_evolves (Part.of hl rfl) _ _ _ (State.load_evolves (Part.of hl rfl) _ _ _ _ (.refl s)))

theorem storeOp_evolved {ps : List Part}
    (hl : Part.sub [.now, .slots, .polders, .timers, .tide, .dev, .flow, .mram, .cores, .coreCtl,
      .telemetry, .counts, .ports, .lpos, .mail, .audit, .life, .crypto, .sram, .dictView, .storeQ, .ring, .tray, .loops, .out, .msix,
      .pba, .freeCount] ps = true)
    (k : Nat) (word : Word) (rd : Fin 32) (m : MemArg) (z : Nat) (s : State) : (storeOp k word rd m z s).Evolved ps s := by
  unfold storeOp
  dsimp only
  split
  · trivial
  · split
    · trivial
    · exact State.modCore_evolves (Part.of hl rfl) _ _ _ (State.store_evolves (Part.of hl rfl) _ _ _ _ _ (.refl s))

theorem swapOp_evolved {ps : List Part}
    (hl : Part.sub [.now, .slots, .polders, .timers, .tide, .dev, .flow, .mram, .cores, .coreCtl,
      .telemetry, .counts, .ports, .lpos, .mail, .audit, .life, .crypto, .sram, .dictView, .storeQ, .ring, .tray, .loops, .latches, .out,
      .msix, .pba, .freeCount] ps = true)
    (k : Nat) (word : Word) (rd : Fin 32) (m : MemArg) (s : State) : (swapOp k word rd m s).Evolved ps s := by
  unfold swapOp
  dsimp only
  split
  · trivial
  · exact State.modCore_evolves (Part.of hl rfl) _ _ _ (State.store_evolves (Part.of hl rfl) _ _ _ _ _
      (State.load_evolves (Part.of hl rfl) _ _ _ _ (.refl s)))

theorem movsOp_evolved {ps : List Part}
    (hl : Part.sub [.now, .slots, .polders, .timers, .tide, .dev, .flow, .mram, .cores, .coreCtl,
      .telemetry, .counts, .ports, .lpos, .mail, .audit, .life, .crypto, .sram, .dictView, .storeQ, .ring, .tray, .loops, .latches, .out,
      .msix, .pba, .freeCount] ps = true)
    (k : Nat) (word : Word) (m : MovsArg) (z : Nat) (s : State) : (movsOp k word m z s).Evolved ps s := by
  unfold movsOp
  dsimp only
  split
  · trivial
  · split
    · trivial
    · split
      · trivial
      · split
        · trivial
        · exact State.eccTrap_evolved (Part.of hl rfl) _ _ _ _
            (State.modCore_evolves (Part.of hl rfl) _ _ _ (State.store_evolves (Part.of hl rfl) _ _ _ _ _
              (State.load_evolves (Part.of hl rfl) _ _ _ _ (.refl s))))

end Sys2Proof.Machine
end

