-- ==== Sys2Proof/Laws/EvolvesSlots.lean ====
section
/-! SUPPORT. The operations on a slot leave every other slot alone, but for the transaction that holds it. -/

namespace Sys2Proof.Machine

/-- Every part but the slots. -/
def notSlots : List Part := [.now, .polders, .timers, .tide, .dev, .flow, .mram, .cores, .coreCtl, .logins, .boot, .telemetry, .counts, .ports, .lpos, .mail,
  .audit, .life, .crypto, .sram, .dictView, .storeQ, .ring, .tray, .loops, .tap, .latches, .lastRead, .out, .msix, .pba, .freeCount]

theorem OtherSlots.refl (k : Nat) (s : State) : OtherSlots k s s := fun _ _ => rfl

theorem OtherSlots.raw {k : Nat} {s t u : State} (h : OtherSlots k s t) (e : u.slots = t.slots) : OtherSlots k s u := by
  intro j hj
  have : u.slot j = t.slot j := by simp only [State.slot, e]
  rw [this]; exact h j hj

theorem OtherSlots.of {k : Nat} {s t u : State} (h : OtherSlots k s t) (e : Evolves notSlots t u) : OtherSlots k s u :=
  h.raw ((e.changes.2 .slots).resolve_left (by decide))

theorem foldl_keeps {β : Type} {k : Nat} {s t : State} (f : State → β → State) (bs : List β) (h : OtherSlots k s t)
    (hf : ∀ u a, OtherSlots k s u → OtherSlots k s (f u a)) : OtherSlots k s (bs.foldl f t) := by
  induction bs generalizing t with
  | nil => exact h
  | cons a bs ih => exact ih (hf _ _ h)

theorem State.forEach_keeps {k : Nat} {s0 : State} (s : State) (l : List Nat) (f : State → Nat → State) (h : OtherSlots k s0 s)
    (hf : ∀ u a, OtherSlots k s0 u → OtherSlots k s0 (f u a)) : OtherSlots k s0 (s.forEach l f) := foldl_keeps f l h hf

theorem State.granted_keeps {k : Nat} {s0 : State} (s : State) (ag : Agent) (g : Nat) (f : State → State) (h : OtherSlots k s0 s)
    (hf : ∀ u, OtherSlots k s0 u → OtherSlots k s0 (f u)) : OtherSlots k s0 (s.granted ag g f) := by
  unfold State.granted
  split
  · split
    · exact hf _ h
    · exact h.of (State.wdeny_evolves (ps := notSlots) rfl _ _ (Evolves.refl _))
  · exact hf _ h

theorem State.setSlot_keeps {k : Nat} {s0 : State} (s : State) (i : Nat) (x : Slot) (hi : i = k) (h : OtherSlots k s0 s) : OtherSlots k s0 (s.setSlot i x) := by
  intro j hj
  have : (s.setSlot i x).slot j = s.slot j := tget_tset_ne _ _ _ _ _ (by omega)
  rw [this]; exact h j hj

theorem State.modSlot_keeps {k : Nat} {s0 : State} (s : State) (i : Nat) (f : Slot → Slot) (hi : i = k) (h : OtherSlots k s0 s) :
    OtherSlots k s0 (State.modSlot s i f) := by
  unfold State.modSlot
  try dsimp only
  repeat' first
    | (with_reducible first | assumption | apply State.setSlot_keeps | rfl)
    | split
    | (refine OtherSlots.raw ?_ rfl)

theorem State.freeSlots_keeps {k : Nat} {s0 : State} (s : State) (t : Nat) (l : List Nat) (h : OtherSlots k s0 s) : OtherSlots k s0 (s.freeSlots t l) := by
  refine foldl_keeps _ _ h fun u a hu => ?_
  split
  · intro j hj
    by_cases e : j = a
    · subst e; rw [← hu j hj]; simp [State.modSlot, State.setSlot, State.slot]
    · have : (u.modSlot a fun x => { x with holder := none, lastBusy := some u.now }).slot j = u.slot j := tget_tset_ne _ _ _ _ _ e
      rw [this]; exact hu j hj
  · exact hu

theorem State.endEarly_keeps {k : Nat} {s0 : State} (s : State) (t status : Nat) (cause : Nat) (resp : List Byte) (h : OtherSlots k s0 s) :
    OtherSlots k s0 (State.endEarly s t status cause resp) := by
  unfold State.endEarly
  try dsimp only
  repeat' first
    | (with_reducible first | assumption | apply State.freeSlots_keeps | rfl)
    | (refine OtherSlots.of ?_ (t := ?_) ?_; rotate_left 2; (with_reducible first | apply State.setTxn_evolves (ps := notSlots)); rfl; exact Evolves.refl _)
    | split
    | (refine OtherSlots.raw ?_ rfl)

theorem State.endWaiters_keeps {k : Nat} {s0 : State} (s : State) (i : Nat) (cause : Nat) (hi : i = k) (h : OtherSlots k s0 s) :
    OtherSlots k s0 (State.endWaiters s i cause) := by
  unfold State.endWaiters
  try dsimp only
  repeat' first
    | (with_reducible first | assumption | apply State.endEarly_keeps | apply foldl_keeps | apply State.forEach_keeps | rfl)
    | split | intro _
    | (refine OtherSlots.raw ?_ rfl)

theorem State.closeSession_keeps {k : Nat} {s0 : State} (s : State) (i : Nat) (h : OtherSlots k s0 s) :
    OtherSlots k s0 (State.closeSession s i) := by
  unfold State.closeSession
  try dsimp only
  repeat' first
    | (with_reducible first | assumption | apply State.endEarly_keeps | apply foldl_keeps | apply State.forEach_keeps | rfl)
    | (refine OtherSlots.of ?_ (t := ?_) ?_; rotate_left 2; (with_reducible first | apply State.setSession_evolves (ps := notSlots) | apply State.setGen_evolves (ps := notSlots)); rfl; exact Evolves.refl _)
    | split | intro _
    | (refine OtherSlots.raw ?_ rfl)

theorem State.closeAll_keeps {k : Nat} {s0 : State} (s : State) (onSet : Bool) (target : Nat) (h : OtherSlots k s0 s) :
    OtherSlots k s0 (State.closeAll s onSet target) := by
  unfold State.closeAll
  try dsimp only
  repeat' first
    | (with_reducible first | assumption | apply State.closeSession_keeps | apply foldl_keeps | apply State.forEach_keeps | rfl)
    | split | intro _
    | (refine OtherSlots.raw ?_ rfl)

theorem State.setStateShow_keeps {k0 : Nat} {s0 : State} (s : State) (k : Nat) (h : OtherSlots k0 s0 s) :
    OtherSlots k0 s0 (State.setStateShow s k) := by
  unfold State.setStateShow
  try dsimp only
  repeat' first
    | (with_reducible first | assumption | apply State.closeAll_keeps | rfl)
    | (refine OtherSlots.of ?_ (t := ?_) ?_; rotate_left 2; (with_reducible first | apply State.modSet_evolves (ps := notSlots) | apply State.irq_evolves (ps := notSlots) | apply State.post_evolves (ps := notSlots)); rfl; exact Evolves.refl _)
    | split | intro _
    | (refine OtherSlots.raw ?_ rfl)

theorem State.posOut_keeps {k0 : Nat} {s0 : State} (s : State) (k p cause : Nat) (status : Nat) (qcause : Nat) (shown : Nat) (h : OtherSlots k0 s0 s) :
    OtherSlots k0 s0 (State.posOut s k p cause status qcause shown) := by
  unfold State.posOut
  try dsimp only
  repeat' first
    | (with_reducible first | assumption | apply State.setStateShow_keeps | rfl)
    | (refine OtherSlots.of ?_ (t := ?_) ?_; rotate_left 2; (with_reducible first | apply State.modSet_evolves (ps := notSlots) | apply State.post_evolves (ps := notSlots) | apply State.keepSet_evolves (ps := notSlots) | apply State.modRounds_evolves (ps := notSlots) | apply State.auditSetPos_evolves (ps := notSlots) | apply State.promote_evolves (ps := notSlots)); rfl; exact Evolves.refl _)
    | split | intro _
    | (refine OtherSlots.raw ?_ rfl)

theorem State.setsLeave_keeps {k : Nat} {s0 : State} (s : State) (i status qcause : Nat) (hi : i = k) (h : OtherSlots k s0 s) :
    OtherSlots k s0 (State.setsLeave s i status qcause) := by
  unfold State.setsLeave
  try dsimp only
  repeat' first
    | (with_reducible first | assumption | apply State.posOut_keeps | apply foldl_keeps | apply State.forEach_keeps | rfl)
    | split | intro _
    | (refine OtherSlots.raw ?_ rfl)

theorem State.setsReady_keeps {k : Nat} {s0 : State} (s : State) (i : Nat) (hi : i = k) (h : OtherSlots k s0 s) :
    OtherSlots k s0 (State.setsReady s i) := by
  unfold State.setsReady
  try dsimp only
  repeat' first
    | (with_reducible first | assumption | apply State.setStateShow_keeps | apply foldl_keeps | apply State.forEach_keeps | rfl)
    | (refine OtherSlots.of ?_ (t := ?_) ?_; rotate_left 2; (with_reducible first | apply State.modSet_evolves (ps := notSlots) | apply State.auditSetPos_evolves (ps := notSlots) | apply State.promote_evolves (ps := notSlots)); rfl; exact Evolves.refl _)
    | split | intro _
    | (refine OtherSlots.raw ?_ rfl)

theorem State.exchResult_keeps {k : Nat} {s0 : State} (s : State) (i : Nat) (m : MemberResp) (hi : i = k) (h : OtherSlots k s0 s) :
    OtherSlots k s0 (State.exchResult s i m) := by
  unfold State.exchResult
  try dsimp only
  repeat' first
    | (with_reducible first | assumption | apply State.modSlot_keeps | apply State.endEarly_keeps | apply State.posOut_keeps | rfl)
    | (refine OtherSlots.of ?_ (t := ?_) ?_; rotate_left 2; (with_reducible first | apply State.requestOutcome_evolves (ps := notSlots) | apply State.modRounds_evolves (ps := notSlots) | apply State.tallyExch_evolves (ps := notSlots)); rfl; exact Evolves.refl _)
    | split | intro _
    | (refine OtherSlots.raw ?_ rfl)

theorem State.xchgHwEnd_keeps {k : Nat} {s0 : State} (s : State) (i : Nat) (hi : i = k) (h : OtherSlots k s0 s) :
    OtherSlots k s0 (State.xchgHwEnd s i) := by
  unfold State.xchgHwEnd
  try dsimp only
  repeat' first
    | (with_reducible first | assumption | apply State.modSlot_keeps | rfl)
    | (refine OtherSlots.of ?_ (t := ?_) ?_; rotate_left 2; (with_reducible first | apply State.line_evolves (ps := notSlots)); rfl; exact Evolves.refl _)
    | split | intro _
    | (refine OtherSlots.raw ?_ rfl)

theorem State.handOver_keeps {k : Nat} {s0 : State} (s : State) (i : Nat) (cmd : List Byte) (hi : i = k) (h : OtherSlots k s0 s) :
    OtherSlots k s0 (State.handOver s i cmd) := by
  unfold State.handOver
  try dsimp only
  repeat' first
    | (with_reducible first | assumption | apply State.modSlot_keeps | rfl)
    | (refine OtherSlots.of ?_ (t := ?_) ?_; rotate_left 2; (with_reducible first | apply State.line_evolves (ps := notSlots)); rfl; exact Evolves.refl _)
    | split | intro _
    | (refine OtherSlots.raw ?_ rfl)

theorem State.forceEnd_keeps {k : Nat} {s0 : State} (s : State) (i status cause : Nat) (hi : i = k) (h : OtherSlots k s0 s) :
    OtherSlots k s0 (State.forceEnd s i status cause) := by
  unfold State.forceEnd
  try dsimp only
  repeat' first
    | (with_reducible first | assumption | apply State.modSlot_keeps | apply State.exchResult_keeps | apply State.xchgHwEnd_keeps | rfl)
    | (refine OtherSlots.of ?_ (t := ?_) ?_; rotate_left 2; (with_reducible first | apply State.unwrapSsc_evolves (ps := notSlots)); rfl; exact Evolves.refl _)
    | split | intro _
    | (refine OtherSlots.raw ?_ rfl)

theorem State.leaveService_keeps {k : Nat} {s0 : State} (s : State) (i : Nat) (down : Bool) (status cause : Nat) (hi : i = k) (h : OtherSlots k s0 s) :
    OtherSlots k s0 (State.leaveService s i down status cause) := by
  unfold State.leaveService
  try dsimp only
  repeat' first
    | (with_reducible first | assumption | apply State.modSlot_keeps | apply State.endWaiters_keeps | apply State.closeAll_keeps | apply State.setsLeave_keeps | rfl)
    | split | intro _
    | (refine OtherSlots.raw ?_ rfl)

theorem State.warmReset_keeps {k : Nat} {s0 : State} (s : State) (i : Nat) (hi : i = k) (h : OtherSlots k s0 s) :
    OtherSlots k s0 (State.warmReset s i) := by
  unfold State.warmReset
  try dsimp only
  repeat' first
    | (with_reducible first | assumption | apply State.modSlot_keeps | apply State.leaveService_keeps | rfl)
    | (refine OtherSlots.of ?_ (t := ?_) ?_; rotate_left 2; (with_reducible first | apply State.endWait_evolves (ps := notSlots)); rfl; exact Evolves.refl _)
    | split | intro _
    | (refine OtherSlots.raw ?_ rfl)

theorem State.warmStart_keeps {k : Nat} {s0 : State} (s : State) (i : Nat) (hi : i = k) (h : OtherSlots k s0 s) :
    OtherSlots k s0 (State.warmStart s i) := by
  unfold State.warmStart
  try dsimp only
  repeat' first
    | (with_reducible first | assumption | apply State.modSlot_keeps | apply State.warmReset_keeps | rfl)
    | split | intro _
    | (refine OtherSlots.raw ?_ rfl)

theorem State.beginDeact_keeps {k : Nat} {s0 : State} (s : State) (i : Nat) (park : Bool) (hi : i = k) (h : OtherSlots k s0 s) :
    OtherSlots k s0 (State.beginDeact s i park) := by
  unfold State.beginDeact
  try dsimp only
  repeat' first
    | (with_reducible first | assumption | apply State.modSlot_keeps | apply State.endWaiters_keeps | apply State.forceEnd_keeps | apply State.leaveService_keeps | rfl)
    | (refine OtherSlots.of ?_ (t := ?_) ?_; rotate_left 2; (with_reducible first | apply State.endWait_evolves (ps := notSlots)); rfl; exact Evolves.refl _)
    | split | intro _
    | (refine OtherSlots.raw ?_ rfl)

theorem State.actPend_keeps {k : Nat} {s0 : State} (s : State) (i : Nat) (hi : i = k) (h : OtherSlots k s0 s) :
    OtherSlots k s0 (State.actPend s i) := by
  unfold State.actPend
  try dsimp only
  repeat' first
    | (with_reducible first | assumption | apply State.warmStart_keeps | apply State.beginDeact_keeps | rfl)
    | split
    | (refine OtherSlots.raw ?_ rfl)

theorem State.endExchange_keeps {k : Nat} {s0 : State} (s : State) (i code : Nat) (m : MemberResp) (warm : Bool) (hi : i = k) (h : OtherSlots k s0 s) :
    OtherSlots k s0 (State.endExchange s i code m warm) := by
  unfold State.endExchange
  try dsimp only
  repeat' first
    | (with_reducible first | assumption | apply State.modSlot_keeps | apply State.setsReady_keeps | apply State.exchResult_keeps | apply State.xchgHwEnd_keeps | apply State.warmReset_keeps | apply State.beginDeact_keeps | apply State.actPend_keeps | rfl)
    | (refine OtherSlots.of ?_ (t := ?_) ?_; rotate_left 2; (with_reducible first | apply State.bump_evolves (ps := notSlots) | apply State.endWait_evolves (ps := notSlots)); rfl; exact Evolves.refl _)
    | split | intro _
    | (refine OtherSlots.raw ?_ rfl)

theorem State.endInDoubt_keeps {k : Nat} {s0 : State} (s : State) (i code : Nat) (warm : Bool) (hi : i = k) (h : OtherSlots k s0 s) :
    OtherSlots k s0 (State.endInDoubt s i code warm) := by
  unfold State.endInDoubt
  try dsimp only
  repeat' first
    | (with_reducible first | assumption | apply State.endExchange_keeps | rfl)
    | split
    | (refine OtherSlots.raw ?_ rfl)

theorem State.askActivation_keeps {k : Nat} {s0 : State} (s : State) (i : Nat) (hi : i = k) (h : OtherSlots k s0 s) :
    OtherSlots k s0 (State.askActivation s i) := by
  unfold State.askActivation
  try dsimp only
  repeat' first
    | (with_reducible first | assumption | apply State.modSlot_keeps | rfl)
    | split | intro _
    | (refine OtherSlots.raw ?_ rfl)

theorem State.failActivation_keeps {k : Nat} {s0 : State} (s : State) (i result : Nat) (hi : i = k) (h : OtherSlots k s0 s) :
    OtherSlots k s0 (State.failActivation s i result) := by
  unfold State.failActivation
  try dsimp only
  repeat' first
    | (with_reducible first | assumption | apply State.modSlot_keeps | apply State.beginDeact_keeps | rfl)
    | split | intro _
    | (refine OtherSlots.raw ?_ rfl)

theorem State.classChange_keeps {k : Nat} {s0 : State} (s : State) (i : Nat) (c : SClass) (hi : i = k) (h : OtherSlots k s0 s) :
    OtherSlots k s0 (State.classChange s i c) := by
  unfold State.classChange
  try dsimp only
  repeat' first
    | (with_reducible first | assumption | apply State.modSlot_keeps | rfl)
    | (refine OtherSlots.of ?_ (t := ?_) ?_; rotate_left 2; (with_reducible first | apply State.endWait_evolves (ps := notSlots)); rfl; exact Evolves.refl _)
    | split | intro _
    | (refine OtherSlots.raw ?_ rfl)

theorem State.atrFail_keeps {k : Nat} {s0 : State} (s : State) (i : Nat) (noTs : Bool) (hi : i = k) (h : OtherSlots k s0 s) :
    OtherSlots k s0 (State.atrFail s i noTs) := by
  unfold State.atrFail
  try dsimp only
  repeat' first
    | (with_reducible first | assumption | apply State.modSlot_keeps | apply State.warmReset_keeps | apply State.failActivation_keeps | apply State.classChange_keeps | rfl)
    | split | intro _
    | (refine OtherSlots.raw ?_ rfl)

theorem State.atrError_keeps {k : Nat} {s0 : State} (s : State) (i code : Nat) (hi : i = k) (h : OtherSlots k s0 s) :
    OtherSlots k s0 (State.atrError s i code) := by
  unfold State.atrError
  try dsimp only
  repeat' first
    | (with_reducible first | assumption | apply State.modSlot_keeps | apply State.atrFail_keeps | rfl)
    | split | intro _
    | (refine OtherSlots.raw ?_ rfl)

theorem State.enterReady_keeps {k : Nat} {s0 : State} (s : State) (i : Nat) (hi : i = k) (h : OtherSlots k s0 s) :
    OtherSlots k s0 (State.enterReady s i) := by
  unfold State.enterReady
  try dsimp only
  repeat' first
    | (with_reducible first | assumption | apply State.modSlot_keeps | apply State.setsReady_keeps | apply State.actPend_keeps | rfl)
    | (refine OtherSlots.of ?_ (t := ?_) ?_; rotate_left 2; (with_reducible first | apply State.endWait_evolves (ps := notSlots)); rfl; exact Evolves.refl _)
    | split | intro _
    | (refine OtherSlots.raw ?_ rfl)

theorem State.negFail_keeps {k : Nat} {s0 : State} (s : State) (i r : Nat) (hi : i = k) (h : OtherSlots k s0 s) :
    OtherSlots k s0 (State.negFail s i r) := by
  unfold State.negFail
  try dsimp only
  repeat' first
    | (with_reducible first | assumption | apply State.modSlot_keeps | apply State.failActivation_keeps | rfl)
    | split | intro _
    | (refine OtherSlots.raw ?_ rfl)

theorem State.negReset_keeps {k : Nat} {s0 : State} (s : State) (i r : Nat) (hi : i = k) (h : OtherSlots k s0 s) :
    OtherSlots k s0 (State.negReset s i r) := by
  unfold State.negReset
  try dsimp only
  repeat' first
    | (with_reducible first | assumption | apply State.modSlot_keeps | apply State.warmReset_keeps | apply State.negFail_keeps | rfl)
    | split | intro _
    | (refine OtherSlots.raw ?_ rfl)

theorem State.settle_keeps {k : Nat} {s0 : State} (s : State) (i fi di t r : Nat) (hi : i = k) (h : OtherSlots k s0 s) :
    OtherSlots k s0 (State.settle s i fi di t r) := by
  unfold State.settle
  try dsimp only
  repeat' first
    | (with_reducible first | assumption | apply State.modSlot_keeps | apply State.enterReady_keeps | rfl)
    | (refine OtherSlots.of ?_ (t := ?_) ?_; rotate_left 2; (with_reducible first | apply State.pend_evolves (ps := notSlots)); rfl; exact Evolves.refl _)
    | split | intro _
    | (refine OtherSlots.raw ?_ rfl)

theorem State.negotiate_keeps {k : Nat} {s0 : State} (s : State) (i : Nat) (hi : i = k) (h : OtherSlots k s0 s) :
    OtherSlots k s0 (State.negotiate s i) := by
  unfold State.negotiate
  try dsimp only
  repeat' first
    | (with_reducible first | assumption | apply State.modSlot_keeps | apply State.negFail_keeps | apply State.negReset_keeps | apply State.settle_keeps | rfl)
    | split | intro _
    | (refine OtherSlots.raw ?_ rfl)

theorem State.acceptAtr_keeps {k : Nat} {s0 : State} (s : State) (i : Nat) (hi : i = k) (h : OtherSlots k s0 s) :
    OtherSlots k s0 (State.acceptAtr s i) := by
  unfold State.acceptAtr
  try dsimp only
  repeat' first
    | (with_reducible first | assumption | apply State.modSlot_keeps | apply State.negotiate_keeps | rfl)
    | (refine OtherSlots.of ?_ (t := ?_) ?_; rotate_left 2; (with_reducible first | apply State.endWait_evolves (ps := notSlots)); rfl; exact Evolves.refl _)
    | split | intro _
    | (refine OtherSlots.raw ?_ rfl)

theorem State.judgeAtr_keeps {k : Nat} {s0 : State} (s : State) (i : Nat) (hi : i = k) (h : OtherSlots k s0 s) :
    OtherSlots k s0 (State.judgeAtr s i) := by
  unfold State.judgeAtr
  try dsimp only
  repeat' first
    | (with_reducible first | assumption | apply State.failActivation_keeps | apply State.classChange_keeps | apply State.acceptAtr_keeps | rfl)
    | split | intro _
    | (refine OtherSlots.raw ?_ rfl)

theorem State.atrChar_keeps {k : Nat} {s0 : State} (s : State) (i : Nat) (data : Byte) (bad : Nat) (hi : i = k) (h : OtherSlots k s0 s) :
    OtherSlots k s0 (State.atrChar s i data bad) := by
  unfold State.atrChar
  try dsimp only
  repeat' first
    | (with_reducible first | assumption | apply State.modSlot_keeps | apply State.atrError_keeps | apply State.judgeAtr_keeps | rfl)
    | split | intro _
    | (refine OtherSlots.raw ?_ rfl)

theorem State.responseDone_keeps {k : Nat} {s0 : State} (s : State) (i : Nat) (r : List Byte) (hi : i = k) (h : OtherSlots k s0 s) :
    OtherSlots k s0 (State.responseDone s i r) := by
  unfold State.responseDone
  try dsimp only
  repeat' first
    | (with_reducible first | assumption | apply State.modSlot_keeps | apply State.endExchange_keeps | rfl)
    | (refine OtherSlots.of ?_ (t := ?_) ?_; rotate_left 2; (with_reducible first | apply State.modTxn_evolves (ps := notSlots) | apply State.askLane_evolves (ps := notSlots) | apply State.endWait_evolves (ps := notSlots)); rfl; exact Evolves.refl _)
    | split | intro _
    | (refine OtherSlots.raw ?_ rfl)

theorem State.procByte_keeps {k : Nat} {s0 : State} (s : State) (i : Nat) (b : Byte) (hi : i = k) (h : OtherSlots k s0 s) :
    OtherSlots k s0 (State.procByte s i b) := by
  unfold State.procByte
  try dsimp only
  repeat' first
    | (with_reducible first | assumption | apply State.modSlot_keeps | apply State.endInDoubt_keeps | rfl)
    | (refine OtherSlots.of ?_ (t := ?_) ?_; rotate_left 2; (with_reducible first | apply State.bump_evolves (ps := notSlots)); rfl; exact Evolves.refl _)
    | split | intro _
    | (refine OtherSlots.raw ?_ rfl)

theorem State.tpduEnd_keeps {k : Nat} {s0 : State} (s : State) (i : Nat) (sw2 : Byte) (hi : i = k) (h : OtherSlots k s0 s) :
    OtherSlots k s0 (State.tpduEnd s i sw2) := by
  unfold State.tpduEnd
  try dsimp only
  repeat' first
    | (with_reducible first | assumption | apply State.modSlot_keeps | apply State.responseDone_keeps | rfl)
    | (refine OtherSlots.of ?_ (t := ?_) ?_; rotate_left 2; (with_reducible first | apply State.bump_evolves (ps := notSlots)); rfl; exact Evolves.refl _)
    | split | intro _
    | (refine OtherSlots.raw ?_ rfl)

theorem State.t0Char_keeps {k : Nat} {s0 : State} (s : State) (i : Nat) (c : RxChar) (hi : i = k) (h : OtherSlots k s0 s) :
    OtherSlots k s0 (State.t0Char s i c) := by
  unfold State.t0Char
  try dsimp only
  repeat' first
    | (with_reducible first | assumption | apply State.modSlot_keeps | apply State.endInDoubt_keeps | rfl)
    | split | intro _
    | (refine OtherSlots.raw ?_ rfl)

theorem State.startResync_keeps {k : Nat} {s0 : State} (s : State) (i : Nat) (hi : i = k) (h : OtherSlots k s0 s) :
    OtherSlots k s0 (State.startResync s i) := by
  unfold State.startResync
  try dsimp only
  repeat' first
    | (with_reducible first | assumption | apply State.modSlot_keeps | apply State.endInDoubt_keeps | rfl)
    | (refine OtherSlots.of ?_ (t := ?_) ?_; rotate_left 2; (with_reducible first | apply State.bump_evolves (ps := notSlots)); rfl; exact Evolves.refl _)
    | split | intro _
    | (refine OtherSlots.raw ?_ rfl)

theorem State.t1Attempt_keeps {k : Nat} {s0 : State} (s : State) (i : Nat) (f : State → State) (hi : i = k) (hf : ∀ u, OtherSlots k s0 u → OtherSlots k s0 (f u)) (h : OtherSlots k s0 s) :
    OtherSlots k s0 (State.t1Attempt s i f) := by
  unfold State.t1Attempt
  try dsimp only
  repeat' first
    | (with_reducible first | assumption | apply State.modSlot_keeps | apply State.startResync_keeps | apply hf | rfl)
    | split | intro _
    | (refine OtherSlots.raw ?_ rfl)

theorem State.t1Fail_keeps {k : Nat} {s0 : State} (s : State) (i code : Nat) (hi : i = k) (h : OtherSlots k s0 s) :
    OtherSlots k s0 (State.t1Fail s i code) := by
  unfold State.t1Fail
  try dsimp only
  repeat' first
    | (with_reducible first | assumption | apply State.modSlot_keeps | apply State.negReset_keeps | apply State.startResync_keeps | apply State.t1Attempt_keeps | rfl)
    | (refine OtherSlots.of ?_ (t := ?_) ?_; rotate_left 2; (with_reducible first | apply State.bump_evolves (ps := notSlots)); rfl; exact Evolves.refl _)
    | split | intro _
    | (refine OtherSlots.raw ?_ rfl)

theorem State.t1I_keeps {k : Nat} {s0 : State} (s : State) (i : Nat) (pcb : Byte) (inf : List Byte) (hi : i = k) (h : OtherSlots k s0 s) :
    OtherSlots k s0 (State.t1I s i pcb inf) := by
  unfold State.t1I
  try dsimp only
  repeat' first
    | (with_reducible first | assumption | apply State.modSlot_keeps | apply State.endInDoubt_keeps | apply State.responseDone_keeps | apply State.t1Fail_keeps | rfl)
    | (refine OtherSlots.of ?_ (t := ?_) ?_; rotate_left 2; (with_reducible first | apply State.bump_evolves (ps := notSlots)); rfl; exact Evolves.refl _)
    | split | intro _
    | (refine OtherSlots.raw ?_ rfl)

theorem State.t1R_keeps {k : Nat} {s0 : State} (s : State) (i : Nat) (pcb : Byte) (hi : i = k) (h : OtherSlots k s0 s) :
    OtherSlots k s0 (State.t1R s i pcb) := by
  unfold State.t1R
  try dsimp only
  repeat' first
    | (with_reducible first | assumption | apply State.modSlot_keeps | apply State.t1Attempt_keeps | apply State.t1Fail_keeps | rfl)
    | (refine OtherSlots.of ?_ (t := ?_) ?_; rotate_left 2; (with_reducible first | apply State.bump_evolves (ps := notSlots)); rfl; exact Evolves.refl _)
    | split | intro _
    | (refine OtherSlots.raw ?_ rfl)

theorem State.t1SAccepted_keeps {k : Nat} {s0 : State} (s : State) (i : Nat) (hi : i = k) (h : OtherSlots k s0 s) :
    OtherSlots k s0 (State.t1SAccepted s i) := by
  unfold State.t1SAccepted
  try dsimp only
  repeat' first
    | (with_reducible first | assumption | apply State.modSlot_keeps | apply State.endInDoubt_keeps | apply State.enterReady_keeps | rfl)
    | split | intro _
    | (refine OtherSlots.raw ?_ rfl)

theorem State.t1S_keeps {k : Nat} {s0 : State} (s : State) (i : Nat) (pcb : Byte) (inf : List Byte) (hi : i = k) (h : OtherSlots k s0 s) :
    OtherSlots k s0 (State.t1S s i pcb inf) := by
  unfold State.t1S
  try dsimp only
  repeat' first
    | (with_reducible first | assumption | apply State.modSlot_keeps | apply State.t1Fail_keeps | apply State.t1SAccepted_keeps | rfl)
    | (refine OtherSlots.of ?_ (t := ?_) ?_; rotate_left 2; (with_reducible first | apply State.bump_evolves (ps := notSlots)); rfl; exact Evolves.refl _)
    | split | intro _
    | (refine OtherSlots.raw ?_ rfl)

theorem State.t1Block_keeps {k : Nat} {s0 : State} (s : State) (i : Nat) (atCwt : Bool) (hi : i = k) (h : OtherSlots k s0 s) :
    OtherSlots k s0 (State.t1Block s i atCwt) := by
  unfold State.t1Block
  try dsimp only
  repeat' first
    | (with_reducible first | assumption | apply State.modSlot_keeps | apply State.t1Fail_keeps | apply State.t1I_keeps | apply State.t1R_keeps | apply State.t1S_keeps | rfl)
    | split | intro _
    | (refine OtherSlots.raw ?_ rfl)

theorem State.afterSent_keeps {k : Nat} {s0 : State} (s : State) (i : Nat) (hi : i = k) (h : OtherSlots k s0 s) :
    OtherSlots k s0 (State.afterSent s i) := by
  unfold State.afterSent
  try dsimp only
  repeat' first
    | (with_reducible first | assumption | apply State.modSlot_keeps | apply State.endInDoubt_keeps | rfl)
    | (refine OtherSlots.of ?_ (t := ?_) ?_; rotate_left 2; (with_reducible first | apply State.elapseTo_evolves (ps := notSlots) | apply State.armWait_evolves (ps := notSlots)); rfl; exact Evolves.refl _)
    | split | intro _
    | (refine OtherSlots.raw ?_ rfl)

theorem State.ppsFail_keeps {k : Nat} {s0 : State} (s : State) (i : Nat) (hi : i = k) (h : OtherSlots k s0 s) :
    OtherSlots k s0 (State.ppsFail s i) := by
  unfold State.ppsFail
  try dsimp only
  repeat' first
    | (with_reducible first | assumption | apply State.negReset_keeps | rfl)
    | (refine OtherSlots.of ?_ (t := ?_) ?_; rotate_left 2; (with_reducible first | apply State.bump_evolves (ps := notSlots)); rfl; exact Evolves.refl _)
    | split
    | (refine OtherSlots.raw ?_ rfl)

theorem State.ppsJudge_keeps {k : Nat} {s0 : State} (s : State) (i : Nat) (hi : i = k) (h : OtherSlots k s0 s) :
    OtherSlots k s0 (State.ppsJudge s i) := by
  unfold State.ppsJudge
  try dsimp only
  repeat' first
    | (with_reducible first | assumption | apply State.settle_keeps | apply State.ppsFail_keeps | rfl)
    | (refine OtherSlots.of ?_ (t := ?_) ?_; rotate_left 2; (with_reducible first | apply State.endWait_evolves (ps := notSlots)); rfl; exact Evolves.refl _)
    | split
    | (refine OtherSlots.raw ?_ rfl)

theorem State.t0Rest_keeps {k : Nat} {s0 : State} (s : State) (i : Nat) (l : List RxChar) (hi : i = k) (h : OtherSlots k s0 s) :
    OtherSlots k s0 (State.t0Rest s i l) := by
  unfold State.t0Rest
  try dsimp only
  repeat' first
    | (with_reducible first | assumption | apply State.t0Char_keeps | apply foldl_keeps | apply State.forEach_keeps | rfl)
    | split | intro _
    | (refine OtherSlots.raw ?_ rfl)

theorem State.t0Proc_keeps {k : Nat} {s0 : State} (s : State) (i : Nat) (hi : i = k) (h : OtherSlots k s0 s) :
    OtherSlots k s0 (State.t0Proc s i) := by
  unfold State.t0Proc
  try dsimp only
  repeat' first
    | (with_reducible first | assumption | apply State.modSlot_keeps | apply State.procByte_keeps | apply State.t0Rest_keeps | rfl)
    | split | intro _
    | (refine OtherSlots.raw ?_ rfl)

theorem State.t0Sw2_keeps {k : Nat} {s0 : State} (s : State) (i : Nat) (hi : i = k) (h : OtherSlots k s0 s) :
    OtherSlots k s0 (State.t0Sw2 s i) := by
  unfold State.t0Sw2
  try dsimp only
  repeat' first
    | (with_reducible first | assumption | apply State.modSlot_keeps | apply State.tpduEnd_keeps | apply State.t0Rest_keeps | rfl)
    | split | intro _
    | (refine OtherSlots.raw ?_ rfl)

theorem State.t1Whole_keeps {k : Nat} {s0 : State} (s : State) (i : Nat) (hi : i = k) (h : OtherSlots k s0 s) :
    OtherSlots k s0 (State.t1Whole s i) := by
  unfold State.t1Whole
  try dsimp only
  repeat' first
    | (with_reducible first | assumption | apply State.modSlot_keeps | apply State.t1Block_keeps | rfl)
    | (refine OtherSlots.of ?_ (t := ?_) ?_; rotate_left 2; (with_reducible first | apply State.endWait_evolves (ps := notSlots)); rfl; exact Evolves.refl _)
    | split | intro _
    | (refine OtherSlots.raw ?_ rfl)

theorem State.t0Read_keeps {k : Nat} {s0 : State} (n : Nat) (s : State) (i : Nat) (hi : i = k) (h : OtherSlots k s0 s) :
    OtherSlots k s0 (State.t0Read n s i) := by
  induction n generalizing s with
  | zero => exact h
  | succ n ih =>
    unfold State.t0Read
    split
    · exact ih _ (State.t0Sw2_keeps _ _ hi h)
    · exact ih _ (State.t0Proc_keeps _ _ hi h)

theorem State.digest_keeps {k : Nat} {s0 : State} (s : State) (i : Nat) (hi : i = k) (h : OtherSlots k s0 s) :
    OtherSlots k s0 (State.digest s i) := by
  unfold State.digest
  try dsimp only
  repeat' first
    | (with_reducible first | assumption | apply State.ppsJudge_keeps | apply State.t1Whole_keeps | apply State.t0Read_keeps | rfl)
    | split
    | (refine OtherSlots.raw ?_ rfl)

theorem State.passChar_keeps {k : Nat} {s0 : State} (s : State) (i : Nat) (c : RxChar) (hi : i = k) (h : OtherSlots k s0 s) :
    OtherSlots k s0 (State.passChar s i c) := by
  unfold State.passChar
  try dsimp only
  repeat' first
    | (with_reducible first | assumption | apply State.modSlot_keeps | apply State.atrChar_keeps | apply State.t0Char_keeps | rfl)
    | (refine OtherSlots.of ?_ (t := ?_) ?_; rotate_left 2; (with_reducible first | apply State.bump_evolves (ps := notSlots)); rfl; exact Evolves.refl _)
    | split | intro _
    | (refine OtherSlots.raw ?_ rfl)

theorem State.rxPass_keeps {k : Nat} {s0 : State} (s : State) (i : Nat) (l : BitVec 9) (good : Bool) (hi : i = k) (h : OtherSlots k s0 s) :
    OtherSlots k s0 (State.rxPass s i l good) := by
  unfold State.rxPass
  try dsimp only
  repeat' first
    | (with_reducible first | assumption | apply State.modSlot_keeps | apply State.atrChar_keeps | apply State.passChar_keeps | rfl)
    | (refine OtherSlots.of ?_ (t := ?_) ?_; rotate_left 2; (with_reducible first | apply State.bump_evolves (ps := notSlots) | apply State.armWait_evolves (ps := notSlots)); rfl; exact Evolves.refl _)
    | split | intro _
    | (refine OtherSlots.raw ?_ rfl)

theorem State.rxFlush_keeps {k : Nat} {s0 : State} (s : State) (i : Nat) (hi : i = k) (h : OtherSlots k s0 s) :
    OtherSlots k s0 (State.rxFlush s i) := by
  unfold State.rxFlush
  try dsimp only
  repeat' first
    | (with_reducible first | assumption | apply State.rxPass_keeps | rfl)
    | (refine OtherSlots.of ?_ (t := ?_) ?_; rotate_left 2; (with_reducible first | apply State.elapseTo_evolves (ps := notSlots)); rfl; exact Evolves.refl _)
    | split
    | (refine OtherSlots.raw ?_ rfl)

theorem State.rxRipe_keeps {k : Nat} {s0 : State} (s : State) (i : Nat) (hi : i = k) (h : OtherSlots k s0 s) :
    OtherSlots k s0 (State.rxRipe s i) := by
  unfold State.rxRipe
  try dsimp only
  repeat' first
    | (with_reducible first | assumption | apply State.digest_keeps | apply State.rxPass_keeps | rfl)
    | split
    | (refine OtherSlots.raw ?_ rfl)

theorem State.expire_keeps {k : Nat} {s0 : State} (s : State) (i : Nat) (w : Wait) (hi : i = k) (h : OtherSlots k s0 s) :
    OtherSlots k s0 (State.expire s i w) := by
  unfold State.expire
  try dsimp only
  repeat' first
    | (with_reducible first | assumption | apply State.modSlot_keeps | apply State.endInDoubt_keeps | apply State.atrFail_keeps | apply State.atrError_keeps | apply State.t1Fail_keeps | apply State.t1Block_keeps | apply State.ppsFail_keeps | rfl)
    | (refine OtherSlots.of ?_ (t := ?_) ?_; rotate_left 2; (with_reducible first | apply State.elapseTo_evolves (ps := notSlots) | apply State.expireWait_evolves (ps := notSlots)); rfl; exact Evolves.refl _)
    | split | intro _
    | (refine OtherSlots.raw ?_ rfl)

theorem State.expired_keeps {k : Nat} {s0 : State} (s : State) (i : Nat) (w : Wait) (hi : i = k) (h : OtherSlots k s0 s) :
    OtherSlots k s0 (State.expired s i w) := by
  unfold State.expired
  try dsimp only
  repeat' first
    | (with_reducible first | assumption | apply State.digest_keeps | apply State.rxFlush_keeps | apply State.expire_keeps | rfl)
    | split
    | (refine OtherSlots.raw ?_ rfl)

theorem State.overdue_keeps {k : Nat} {s0 : State} (s : State) (i t : Nat) (hi : i = k) (h : OtherSlots k s0 s) :
    OtherSlots k s0 (State.overdue s i t) := by
  unfold State.overdue
  try dsimp only
  repeat' first
    | (with_reducible first | assumption | apply State.expire_keeps | rfl)
    | split
    | (refine OtherSlots.raw ?_ rfl)

theorem State.unstart_keeps {k : Nat} {s0 : State} (s : State) (i : Nat) (hi : i = k) (h : OtherSlots k s0 s) :
    OtherSlots k s0 (State.unstart s i) := by
  unfold State.unstart
  try dsimp only
  repeat' first
    | (with_reducible first | assumption | apply State.modSlot_keeps | rfl)
    | (refine OtherSlots.of ?_ (t := ?_) ?_; rotate_left 2; (with_reducible first | apply State.emit_evolves (ps := notSlots)); rfl; exact Evolves.refl _)
    | split | intro _
    | (refine OtherSlots.raw ?_ rfl)

theorem State.newPrimary_keeps {k : Nat} {s0 : State} (s : State) (i cause : Nat) (hi : i = k) (h : OtherSlots k s0 s) :
    OtherSlots k s0 (s.newPrimary i cause) := by
  unfold State.newPrimary
  dsimp only
  refine foldl_keeps _ _ ?_ fun u a hu => hu.of (State.modTxn_evolves (ps := notSlots) rfl _ _ _ (Evolves.refl u))
  exact OtherSlots.of (State.modSlot_keeps s i (fun x => { x with regs := { x.regs with primary := cause } }) hi h)
    (State.modDev_evolves (ps := notSlots) rfl (Evolves.refl _) (List.length_map _))

theorem State.quench_keeps {k : Nat} {s0 : State} (s : State) (i cause : Nat) (hi : i = k) (h : OtherSlots k s0 s) :
    OtherSlots k s0 (State.quench s i cause) := by
  unfold State.quench
  try dsimp only
  repeat' first
    | (with_reducible first | assumption | apply State.modSlot_keeps | apply State.endWaiters_keeps | apply State.forceEnd_keeps | apply State.leaveService_keeps | apply State.rxRipe_keeps | apply State.unstart_keeps | apply State.newPrimary_keeps | rfl)
    | (refine OtherSlots.of ?_ (t := ?_) ?_; rotate_left 2; (with_reducible first | apply State.emit_evolves (ps := notSlots) | apply State.bump_evolves (ps := notSlots) | apply State.endLoop_evolves (ps := notSlots) | apply State.post_evolves (ps := notSlots) | apply State.stopSlotTimers_evolves (ps := notSlots)); rfl; exact Evolves.refl _)
    | split | intro _
    | (refine OtherSlots.raw ?_ rfl)

theorem State.limitEnd_keeps {k : Nat} {s0 : State} (s : State) (i code : Nat) (c : Bool) (v : Int) (hi : i = k) (h : OtherSlots k s0 s) :
    OtherSlots k s0 (State.limitEnd s i code c v) := by
  unfold State.limitEnd
  try dsimp only
  repeat' first
    | (with_reducible first | assumption | apply State.modSlot_keeps | apply State.quench_keeps | rfl)
    | (refine OtherSlots.of ?_ (t := ?_) ?_; rotate_left 2; (with_reducible first | apply State.post_evolves (ps := notSlots)); rfl; exact Evolves.refl _)
    | split | intro _
    | (refine OtherSlots.raw ?_ rfl)

theorem State.edgeEnd_keeps {k : Nat} {s0 : State} (s : State) (i : Nat) (hi : i = k) (h : OtherSlots k s0 s) :
    OtherSlots k s0 (State.edgeEnd s i) := by
  unfold State.edgeEnd
  try dsimp only
  repeat' first
    | (with_reducible first | assumption | apply State.modSlot_keeps | apply State.limitEnd_keeps | rfl)
    | (refine OtherSlots.of ?_ (t := ?_) ?_; rotate_left 2; (with_reducible first | apply State.free_evolves (ps := notSlots)); rfl; exact Evolves.refl _)
    | split | intro _
    | (refine OtherSlots.raw ?_ rfl)

theorem State.edgeFull_keeps {k : Nat} {s0 : State} (s : State) (i : Nat) (hi : i = k) (h : OtherSlots k s0 s) :
    OtherSlots k s0 (State.edgeFull s i) := by
  unfold State.edgeFull
  try dsimp only
  repeat' first
    | (with_reducible first | assumption | apply State.edgeEnd_keeps | rfl)
    | split
    | (refine OtherSlots.raw ?_ rfl)

theorem State.dutyEnd_keeps {k : Nat} {s0 : State} (s : State) (i : Nat) (highs : List Nat) (hi : i = k) (h : OtherSlots k s0 s) :
    OtherSlots k s0 (State.dutyEnd s i highs) := by
  unfold State.dutyEnd
  try dsimp only
  repeat' first
    | (with_reducible first | assumption | apply State.modSlot_keeps | apply State.limitEnd_keeps | rfl)
    | split | intro _
    | (refine OtherSlots.raw ?_ rfl)

theorem State.convEnd_keeps {k : Nat} {s0 : State} (s : State) (i : Nat) (hi : i = k) (h : OtherSlots k s0 s) :
    OtherSlots k s0 (State.convEnd s i) := by
  unfold State.convEnd
  try dsimp only
  repeat' first
    | (with_reducible first | assumption | apply State.modSlot_keeps | apply State.limitEnd_keeps | rfl)
    | split | intro _
    | (refine OtherSlots.raw ?_ rfl)

theorem State.convFull_keeps {k : Nat} {s0 : State} (s : State) (i : Nat) (hi : i = k) (h : OtherSlots k s0 s) :
    OtherSlots k s0 (State.convFull s i) := by
  unfold State.convFull
  try dsimp only
  repeat' first
    | (with_reducible first | assumption | apply State.convEnd_keeps | rfl)
    | split
    | (refine OtherSlots.raw ?_ rfl)

theorem State.convTake_keeps {k : Nat} {s0 : State} (s : State) (i ch code : Nat) (hi : i = k) (h : OtherSlots k s0 s) :
    OtherSlots k s0 (State.convTake s i ch code) := by
  unfold State.convTake
  try dsimp only
  repeat' first
    | (with_reducible first | assumption | apply State.modSlot_keeps | apply State.convFull_keeps | rfl)
    | split | intro _
    | (refine OtherSlots.raw ?_ rfl)

theorem State.txStart_keeps {k : Nat} {s0 : State} (s : State) (i : Nat) (l : BitVec 9) (w : List Reading) (hi : i = k) (h : OtherSlots k s0 s) :
    OtherSlots k s0 (State.txStart s i l w) := by
  unfold State.txStart
  try dsimp only
  repeat' first
    | (with_reducible first | assumption | apply State.modSlot_keeps | rfl)
    | (refine OtherSlots.of ?_ (t := ?_) ?_; rotate_left 2; (with_reducible first | apply State.emit_evolves (ps := notSlots) | apply State.free_evolves (ps := notSlots) | apply State.captureSlot_evolves (ps := notSlots) | apply State.restartT0_evolves (ps := notSlots)); rfl; exact Evolves.refl _)
    | split | intro _
    | (refine OtherSlots.raw ?_ rfl)

theorem State.txWaits_keeps {k : Nat} {s0 : State} (s : State) (i : Nat) (hi : i = k) (h : OtherSlots k s0 s) :
    OtherSlots k s0 (State.txWaits s i) := by
  unfold State.txWaits
  try dsimp only
  repeat' first
    | (with_reducible first | assumption | apply State.afterSent_keeps | rfl)
    | (refine OtherSlots.of ?_ (t := ?_) ?_; rotate_left 2; (with_reducible first | apply State.armWait_evolves (ps := notSlots)); rfl; exact Evolves.refl _)
    | split
    | (refine OtherSlots.raw ?_ rfl)

theorem State.rxStart_keeps {k : Nat} {s0 : State} (s : State) (i : Nat) (hi : i = k) (h : OtherSlots k s0 s) :
    OtherSlots k s0 (State.rxStart s i) := by
  unfold State.rxStart
  try dsimp only
  repeat' first
    | (with_reducible first | assumption | apply State.modSlot_keeps | rfl)
    | (refine OtherSlots.of ?_ (t := ?_) ?_; rotate_left 2; (with_reducible first | apply State.captureSlot_evolves (ps := notSlots) | apply State.restartT0_evolves (ps := notSlots)); rfl; exact Evolves.refl _)
    | split | intro _
    | (refine OtherSlots.raw ?_ rfl)

theorem State.rxEdge_keeps {k : Nat} {s0 : State} (s : State) (i t : Nat) (hi : i = k) (h : OtherSlots k s0 s) :
    OtherSlots k s0 (State.rxEdge s i t) := by
  unfold State.rxEdge
  try dsimp only
  repeat' first
    | (with_reducible first | assumption | apply State.digest_keeps | apply State.rxPass_keeps | apply State.rxFlush_keeps | apply State.overdue_keeps | apply State.edgeFull_keeps | apply State.rxStart_keeps | rfl)
    | (refine OtherSlots.of ?_ (t := ?_) ?_; rotate_left 2; (with_reducible first | apply State.elapseTo_evolves (ps := notSlots)); rfl; exact Evolves.refl _)
    | split
    | (refine OtherSlots.raw ?_ rfl)

theorem State.rxFalse_keeps {k : Nat} {s0 : State} (s : State) (i : Nat) (o : RxOpen) (rearm : Nat) (hi : i = k) (h : OtherSlots k s0 s) :
    OtherSlots k s0 (State.rxFalse s i o rearm) := by
  unfold State.rxFalse
  try dsimp only
  repeat' first
    | (with_reducible first | assumption | apply State.modSlot_keeps | rfl)
    | (refine OtherSlots.of ?_ (t := ?_) ?_; rotate_left 2; (with_reducible first | apply State.modTimer_evolves (ps := notSlots) | apply State.bump_evolves (ps := notSlots)); rfl; exact Evolves.refl _)
    | split | intro _
    | (refine OtherSlots.raw ?_ rfl)

theorem State.rxBegin_keeps {k : Nat} {s0 : State} (s : State) (i : Nat) (o : RxOpen) (hi : i = k) (h : OtherSlots k s0 s) :
    OtherSlots k s0 (State.rxBegin s i o) := by
  unfold State.rxBegin
  try dsimp only
  repeat' first
    | (with_reducible first | assumption | apply State.modSlot_keeps | apply State.endInDoubt_keeps | rfl)
    | (refine OtherSlots.of ?_ (t := ?_) ?_; rotate_left 2; (with_reducible first | apply State.armWait_evolves (ps := notSlots) | apply State.endWait_evolves (ps := notSlots)); rfl; exact Evolves.refl _)
    | split | intro _
    | (refine OtherSlots.raw ?_ rfl)

theorem State.rxJudge_keeps {k : Nat} {s0 : State} (s : State) (i : Nat) (o : RxOpen) (w : List Reading) (hi : i = k) (h : OtherSlots k s0 s) :
    OtherSlots k s0 (State.rxJudge s i o w) := by
  unfold State.rxJudge
  try dsimp only
  repeat' first
    | (with_reducible first | assumption | apply State.rxFalse_keeps | apply State.rxBegin_keeps | rfl)
    | (refine OtherSlots.of ?_ (t := ?_) ?_; rotate_left 2; (with_reducible first | apply State.elapseTo_evolves (ps := notSlots)); rfl; exact Evolves.refl _)
    | split
    | (refine OtherSlots.raw ?_ rfl)

theorem State.rxTaken_keeps {k : Nat} {s0 : State} (s : State) (i : Nat) (w : List Reading) (t rearm : Nat) (hi : i = k) (h : OtherSlots k s0 s) :
    OtherSlots k s0 (State.rxTaken s i w t rearm) := by
  unfold State.rxTaken
  try dsimp only
  repeat' first
    | (with_reducible first | assumption | apply State.modSlot_keeps | rfl)
    | (refine OtherSlots.of ?_ (t := ?_) ?_; rotate_left 2; (with_reducible first | apply State.elapseTo_evolves (ps := notSlots)); rfl; exact Evolves.refl _)
    | split | intro _
    | (refine OtherSlots.raw ?_ rfl)

theorem State.parityBad_keeps {k : Nat} {s0 : State} (s : State) (i : Nat) (hi : i = k) (h : OtherSlots k s0 s) :
    OtherSlots k s0 (State.parityBad s i) := by
  unfold State.parityBad
  try dsimp only
  repeat' first
    | (with_reducible first | assumption | apply State.modSlot_keeps | rfl)
    | (refine OtherSlots.of ?_ (t := ?_) ?_; rotate_left 2; (with_reducible first | apply State.bump_evolves (ps := notSlots)); rfl; exact Evolves.refl _)
    | split | intro _
    | (refine OtherSlots.raw ?_ rfl)

theorem State.rxStop_keeps {k : Nat} {s0 : State} (s : State) (i : Nat) (w : List Reading) (hi : i = k) (h : OtherSlots k s0 s) :
    OtherSlots k s0 (State.rxStop s i w) := by
  unfold State.rxStop
  try dsimp only
  repeat' first
    | (with_reducible first | assumption | apply State.modSlot_keeps | apply State.rxPass_keeps | apply State.rxTaken_keeps | apply State.parityBad_keeps | rfl)
    | (refine OtherSlots.of ?_ (t := ?_) ?_; rotate_left 2; (with_reducible first | apply State.emit_evolves (ps := notSlots) | apply State.bump_evolves (ps := notSlots)); rfl; exact Evolves.refl _)
    | split | intro _
    | (refine OtherSlots.raw ?_ rfl)

theorem State.slotErr_keeps {k : Nat} {s0 : State} (s : State) (i : Nat) (e : CmdErr) (hi : i = k) (h : OtherSlots k s0 s) :
    OtherSlots k s0 (State.slotErr s i e) := by
  unfold State.slotErr
  try dsimp only
  repeat' first
    | (with_reducible first | assumption | apply State.modSlot_keeps | rfl)
    | split | intro _
    | (refine OtherSlots.raw ?_ rfl)

theorem State.writeRaw_keeps {k : Nat} {s0 : State} (s : State) (ag : Agent) (i : Nat) (v : Word) (hi : i = k) (h : OtherSlots k s0 s) :
    OtherSlots k s0 (State.writeRaw s ag i v) := by
  unfold State.writeRaw
  try dsimp only
  repeat' first
    | (with_reducible first | assumption | apply State.modSlot_keeps | apply State.slotErr_keeps | apply State.granted_keeps | rfl)
    | split | intro _
    | (refine OtherSlots.raw ?_ rfl)

theorem State.readRaw_keeps {k : Nat} {s0 : State} (s : State) (ag : Agent) (i : Nat) (hi : i = k) (h : OtherSlots k s0 s) :
    OtherSlots k s0 ((State.readRaw s ag i)).2 := by
  unfold State.readRaw
  try dsimp only
  repeat' first
    | (with_reducible first | assumption | apply State.modSlot_keeps | rfl)
    | split | intro _
    | (refine OtherSlots.raw ?_ rfl)

theorem State.cmdActivate_keeps {k : Nat} {s0 : State} (s : State) (i : Nat) (hi : i = k) (h : OtherSlots k s0 s) :
    OtherSlots k s0 ((State.cmdActivate s i)).2 := by
  unfold State.cmdActivate
  try dsimp only
  repeat' first
    | (with_reducible first | assumption | apply State.modSlot_keeps | apply State.askActivation_keeps | rfl)
    | split | intro _
    | (refine OtherSlots.raw ?_ rfl)

theorem State.cmdWarmReset_keeps {k : Nat} {s0 : State} (s : State) (i : Nat) (hi : i = k) (h : OtherSlots k s0 s) :
    OtherSlots k s0 ((State.cmdWarmReset s i)).2 := by
  unfold State.cmdWarmReset
  try dsimp only
  repeat' first
    | (with_reducible first | assumption | apply State.modSlot_keeps | apply State.warmStart_keeps | rfl)
    | split | intro _
    | (refine OtherSlots.raw ?_ rfl)

theorem State.forceDeact_keeps {k : Nat} {s0 : State} (s : State) (i : Nat) (park : Bool) (hi : i = k) (h : OtherSlots k s0 s) :
    OtherSlots k s0 (State.forceDeact s i park) := by
  unfold State.forceDeact
  try dsimp only
  repeat' first
    | (with_reducible first | assumption | apply State.modSlot_keeps | apply State.beginDeact_keeps | apply State.rxRipe_keeps | rfl)
    | split | intro _
    | (refine OtherSlots.raw ?_ rfl)

theorem State.cmdDeactivate_keeps {k : Nat} {s0 : State} (s : State) (i : Nat) (force : Bool) (hi : i = k) (h : OtherSlots k s0 s) :
    OtherSlots k s0 ((State.cmdDeactivate s i force)).2 := by
  unfold State.cmdDeactivate
  try dsimp only
  repeat' first
    | (with_reducible first | assumption | apply State.modSlot_keeps | apply State.beginDeact_keeps | apply State.forceDeact_keeps | rfl)
    | split | intro _
    | (refine OtherSlots.raw ?_ rfl)

theorem State.cmdPark_keeps {k : Nat} {s0 : State} (s : State) (i : Nat) (force : Bool) (hi : i = k) (h : OtherSlots k s0 s) :
    OtherSlots k s0 ((State.cmdPark s i force)).2 := by
  unfold State.cmdPark
  try dsimp only
  repeat' first
    | (with_reducible first | assumption | apply State.modSlot_keeps | apply State.beginDeact_keeps | apply State.forceDeact_keeps | rfl)
    | split | intro _
    | (refine OtherSlots.raw ?_ rfl)

theorem State.abortSlotLoop_keeps {k : Nat} {s0 : State} (s : State) (i : Nat) (hi : i = k) (h : OtherSlots k s0 s) :
    OtherSlots k s0 (State.abortSlotLoop s i) := by
  unfold State.abortSlotLoop
  try dsimp only
  repeat' first
    | (with_reducible first | assumption | apply State.modSlot_keeps | apply State.beginDeact_keeps | rfl)
    | (refine OtherSlots.of ?_ (t := ?_) ?_; rotate_left 2; (with_reducible first | apply State.endLoop_evolves (ps := notSlots)); rfl; exact Evolves.refl _)
    | split | intro _
    | (refine OtherSlots.raw ?_ rfl)

theorem State.cmdUnpark_keeps {k : Nat} {s0 : State} (s : State) (i : Nat) (hi : i = k) (h : OtherSlots k s0 s) :
    OtherSlots k s0 ((State.cmdUnpark s i)).2 := by
  unfold State.cmdUnpark
  try dsimp only
  repeat' first
    | (with_reducible first | assumption | apply State.modSlot_keeps | apply State.abortSlotLoop_keeps | rfl)
    | split | intro _
    | (refine OtherSlots.raw ?_ rfl)

theorem State.cmdFaultClear_keeps {k : Nat} {s0 : State} (s : State) (i : Nat) (hi : i = k) (h : OtherSlots k s0 s) :
    OtherSlots k s0 ((State.cmdFaultClear s i)).2 := by
  unfold State.cmdFaultClear
  try dsimp only
  repeat' first
    | (with_reducible first | assumption | apply State.modSlot_keeps | rfl)
    | split | intro _
    | (refine OtherSlots.raw ?_ rfl)

theorem State.slotCommand_keeps {k : Nat} {s0 : State} (s : State) (i : Nat) (w : Word) (hi : i = k) (h : OtherSlots k s0 s) :
    OtherSlots k s0 ((State.slotCommand s i w)).2 := by
  unfold State.slotCommand
  try dsimp only
  repeat' first
    | (with_reducible first | assumption | apply State.cmdActivate_keeps | apply State.cmdWarmReset_keeps | apply State.cmdDeactivate_keeps | apply State.cmdPark_keeps | apply State.cmdUnpark_keeps | apply State.cmdFaultClear_keeps | rfl)
    | split
    | (refine OtherSlots.raw ?_ rfl)

theorem State.writeSlotCtrl_keeps {k : Nat} {s0 : State} (s : State) (ag : Agent) (i : Nat) (w : Word) (hi : i = k) (h : OtherSlots k s0 s) :
    OtherSlots k s0 (State.writeSlotCtrl s ag i w) := by
  unfold State.writeSlotCtrl
  try dsimp only
  repeat' first
    | (with_reducible first | assumption | apply State.modSlot_keeps | apply State.slotErr_keeps | apply State.slotCommand_keeps | apply State.granted_keeps | rfl)
    | split | intro _
    | (refine OtherSlots.raw ?_ rfl)

theorem State.writeActAtHi_keeps {k : Nat} {s0 : State} (s : State) (ag : Agent) (i : Nat) (v : Word) (hi : i = k) (h : OtherSlots k s0 s) :
    OtherSlots k s0 (State.writeActAtHi s ag i v) := by
  unfold State.writeActAtHi
  try dsimp only
  repeat' first
    | (with_reducible first | assumption | apply State.modSlot_keeps | apply State.slotErr_keeps | apply State.granted_keeps | rfl)
    | split | intro _
    | (refine OtherSlots.raw ?_ rfl)

theorem State.writeDeactAtHi_keeps {k : Nat} {s0 : State} (s : State) (ag : Agent) (i : Nat) (v : Word) (hi : i = k) (h : OtherSlots k s0 s) :
    OtherSlots k s0 (State.writeDeactAtHi s ag i v) := by
  unfold State.writeDeactAtHi
  try dsimp only
  repeat' first
    | (with_reducible first | assumption | apply State.modSlot_keeps | apply State.slotErr_keeps | apply State.granted_keeps | rfl)
    | split | intro _
    | (refine OtherSlots.raw ?_ rfl)

theorem State.riseRst_keeps {k : Nat} {s0 : State} (s : State) (i : Nat) (hi : i = k) (h : OtherSlots k s0 s) :
    OtherSlots k s0 (State.riseRst s i) := by
  unfold State.riseRst
  try dsimp only
  repeat' first
    | (with_reducible first | assumption | apply State.modSlot_keeps | rfl)
    | (refine OtherSlots.of ?_ (t := ?_) ?_; rotate_left 2; (with_reducible first | apply State.captureSlot_evolves (ps := notSlots) | apply State.armWait_evolves (ps := notSlots)); rfl; exact Evolves.refl _)
    | split | intro _
    | (refine OtherSlots.raw ?_ rfl)

theorem State.restartClock_keeps {k : Nat} {s0 : State} (s : State) (i : Nat) (hi : i = k) (h : OtherSlots k s0 s) :
    OtherSlots k s0 (State.restartClock s i) := by
  unfold State.restartClock
  try dsimp only
  repeat' first
    | (with_reducible first | assumption | apply State.modSlot_keeps | rfl)
    | split | intro _
    | (refine OtherSlots.raw ?_ rfl)

theorem State.reserve_keeps {k : Nat} {s0 : State} (s : State) (t q i : Nat) (hi : i = k) (h : OtherSlots k s0 s) :
    OtherSlots k s0 (State.reserve s t q i) := by
  unfold State.reserve
  try dsimp only
  repeat' first
    | (with_reducible first | assumption | apply State.modSlot_keeps | rfl)
    | split | intro _
    | (refine OtherSlots.raw ?_ rfl)

theorem State.sendCommand_keeps {k : Nat} {s0 : State} (s : State) (i : Nat) (cmd : List Byte) (hi : i = k) (h : OtherSlots k s0 s) :
    OtherSlots k s0 (State.sendCommand s i cmd) := by
  unfold State.sendCommand
  try dsimp only
  repeat' first
    | (with_reducible first | assumption | apply State.modSlot_keeps | apply State.handOver_keeps | rfl)
    | split | intro _
    | (refine OtherSlots.raw ?_ rfl)

theorem State.startExchange_keeps {k : Nat} {s0 : State} (s : State) (t i : Nat) (hi : i = k) (h : OtherSlots k s0 s) :
    OtherSlots k s0 (State.startExchange s t i) := by
  unfold State.startExchange
  try dsimp only
  repeat' first
    | (with_reducible first | assumption | apply State.modSlot_keeps | apply State.restartClock_keeps | apply State.sendCommand_keeps | rfl)
    | (refine OtherSlots.of ?_ (t := ?_) ?_; rotate_left 2; (with_reducible first | apply State.tally_evolves (ps := notSlots) | apply State.askLane_evolves (ps := notSlots)); rfl; exact Evolves.refl _)
    | split | intro _
    | (refine OtherSlots.raw ?_ rfl)

theorem State.smFail_keeps {k : Nat} {s0 : State} (s : State) (t i : Nat) (x : Txn) (held : Bool) (hi : i = k) (h : OtherSlots k s0 s) :
    OtherSlots k s0 (State.smFail s t i x held) := by
  unfold State.smFail
  try dsimp only
  repeat' first
    | (with_reducible first | assumption | apply State.closeSession_keeps | apply State.endExchange_keeps | rfl)
    | (refine OtherSlots.of ?_ (t := ?_) ?_; rotate_left 2; (with_reducible first | apply State.bump_evolves (ps := notSlots) | apply State.requestOutcome_evolves (ps := notSlots)); rfl; exact Evolves.refl _)
    | split
    | (refine OtherSlots.raw ?_ rfl)

theorem State.writeTemper_keeps {k : Nat} {s0 : State} (s : State) (ag : Agent) (i off : Nat) (w : Word) (hi : i = k) (h : OtherSlots k s0 s) :
    OtherSlots k s0 (State.writeTemper s ag i off w) := by
  unfold State.writeTemper
  try dsimp only
  repeat' first
    | (with_reducible first | assumption | apply State.modSlot_keeps | apply State.slotErr_keeps | apply State.granted_keeps | rfl)
    | split | intro _
    | (refine OtherSlots.raw ?_ rfl)

theorem State.dutyFull_keeps {k : Nat} {s0 : State} (s : State) (i : Nat) (highs : List Nat) (hi : i = k) (h : OtherSlots k s0 s) :
    OtherSlots k s0 (State.dutyFull s i highs) := by
  unfold State.dutyFull
  try dsimp only
  repeat' first
    | (with_reducible first | assumption | apply State.modSlot_keeps | apply State.dutyEnd_keeps | rfl)
    | (refine OtherSlots.of ?_ (t := ?_) ?_; rotate_left 2; (with_reducible first | apply State.elapseTo_evolves (ps := notSlots)); rfl; exact Evolves.refl _)
    | split | intro _
    | (refine OtherSlots.raw ?_ rfl)

theorem State.modXchg_keeps {k : Nat} {s0 : State} (s : State) (i : Nat) (f : Xchg → Xchg) (hi : i = k) (h : OtherSlots k s0 s) :
    OtherSlots k s0 (State.modXchg s i f) := by
  unfold State.modXchg
  try dsimp only
  repeat' first
    | (with_reducible first | assumption | apply State.modSlot_keeps | rfl)
    | split | intro _
    | (refine OtherSlots.raw ?_ rfl)

theorem State.abandon_keeps {k0 : Nat} {s0 : State} (s : State) (i k code : Nat) (hw : Bool) (hi : i = k0) (h : OtherSlots k0 s0 s) :
    OtherSlots k0 s0 (State.abandon s i k code hw) := by
  unfold State.abandon
  try dsimp only
  repeat' first
    | (with_reducible first | assumption | apply State.modSlot_keeps | apply State.xchgHwEnd_keeps | apply State.beginDeact_keeps | apply State.modXchg_keeps | rfl)
    | (refine OtherSlots.of ?_ (t := ?_) ?_; rotate_left 2; (with_reducible first | apply State.post_evolves (ps := notSlots)); rfl; exact Evolves.refl _)
    | split | intro _
    | (refine OtherSlots.raw ?_ rfl)

theorem State.endScript_keeps {k0 : Nat} {s0 : State} (s : State) (i k code : Nat) (hi : i = k0) (h : OtherSlots k0 s0 s) :
    OtherSlots k0 s0 (State.endScript s i k code) := by
  unfold State.endScript
  try dsimp only
  repeat' first
    | (with_reducible first | assumption | apply State.modSlot_keeps | apply State.beginDeact_keeps | apply State.endInDoubt_keeps | apply State.responseDone_keeps | apply State.modXchg_keeps | apply State.abandon_keeps | rfl)
    | split | intro _
    | (refine OtherSlots.raw ?_ rfl)

theorem State.writeXchg_keeps {k : Nat} {s0 : State} (s : State) (i off : Nat) (w : Word) (hi : i = k) (h : OtherSlots k s0 s) :
    OtherSlots k s0 (State.writeXchg s i off w) := by
  unfold State.writeXchg
  try dsimp only
  repeat' first
    | (with_reducible first | assumption | apply State.slotErr_keeps | apply State.modXchg_keeps | apply State.endScript_keeps | rfl)
    | split | intro _
    | (refine OtherSlots.raw ?_ rfl)

theorem State.readXchg_keeps {k : Nat} {s0 : State} (s : State) (i off : Nat) (hi : i = k) (h : OtherSlots k s0 s) :
    OtherSlots k s0 ((State.readXchg s i off)).2 := by
  unfold State.readXchg
  try dsimp only
  repeat' first
    | (with_reducible first | assumption | apply State.modXchg_keeps | rfl)
    | split | intro _
    | (refine OtherSlots.raw ?_ rfl)

end Sys2Proof.Machine
end

