-- ==== Sys2Proof/Laws/State.lean ====
section
/-! SUPPORT. Laws of State: what each update of it leaves and writes, and the canonical form of its tables. -/

namespace Sys2Proof.Machine

/-- Every table of a canonical state is canonical. -/
theorem State.wf_iff (s : State) : s.wf = true ↔
    s.mram.wf = true ∧ s.flow.wf = true ∧ twf 0#32 s.coreCtl.entry = true ∧ twf 0#3 s.coreCtl.route = true ∧ twf {} s.slots = true ∧
      twf {} s.polders = true ∧ twf {} s.timers = true ∧ twf {} s.cores = true ∧ twf {} s.logins = true ∧ twf 0 s.telemetry = true ∧
      twf 0 s.counts = true ∧ twf {} s.ports = true ∧ twf {} s.lpos = true ∧ twf {} s.mail = true ∧ twf 0#8 s.sram = true ∧
      twf 0#8 s.dictView = true ∧ twf {} s.loops = true ∧ twf 0#32 s.latches = true ∧ twf 0#32 s.msix = true ∧ twf false s.pba = true := by
  simp only [State.wf, Bool.and_eq_true, and_assoc]

theorem State.wf_slots {s : State} (h : s.wf = true) : twf {} s.slots = true := by simp only [State.wf_iff] at h; simp only [h]

theorem State.wf_polders {s : State} (h : s.wf = true) : twf {} s.polders = true := by simp only [State.wf_iff] at h; simp only [h]

theorem State.wf_timers {s : State} (h : s.wf = true) : twf {} s.timers = true := by simp only [State.wf_iff] at h; simp only [h]

theorem State.wf_cores {s : State} (h : s.wf = true) : twf {} s.cores = true := by simp only [State.wf_iff] at h; simp only [h]

theorem State.wf_logins {s : State} (h : s.wf = true) : twf {} s.logins = true := by simp only [State.wf_iff] at h; simp only [h]

theorem State.wf_ports {s : State} (h : s.wf = true) : twf {} s.ports = true := by simp only [State.wf_iff] at h; simp only [h]

theorem State.wf_lpos {s : State} (h : s.wf = true) : twf {} s.lpos = true := by simp only [State.wf_iff] at h; simp only [h]

theorem State.wf_mail {s : State} (h : s.wf = true) : twf {} s.mail = true := by simp only [State.wf_iff] at h; simp only [h]

theorem State.wf_loops {s : State} (h : s.wf = true) : twf {} s.loops = true := by simp only [State.wf_iff] at h; simp only [h]

theorem State.wf_flow {s : State} (h : s.wf = true) :
    twf {} s.flow.qps = true ∧ twf none s.flow.txns = true ∧ twf {} s.flow.sessions = true ∧ twf {} s.flow.sets = true := by
  have := (s.wf_iff.mp h).2.1
  simpa only [Flow.wf, Bool.and_eq_true, and_assoc] using this

/-! `slot` and `modSlot`. -/

@[simp] theorem State.modSlot_slot (s : State) (i : Nat) (f : Slot → Slot) : (s.modSlot i f).slot i = f (s.slot i) := tget_tset_same _ _ _ _

theorem State.modSlot_slot_ne (s : State) (i j : Nat) (f : Slot → Slot) (h : j ≠ i) : (s.modSlot i f).slot j = s.slot j := tget_tset_ne _ _ _ _ _ h

@[simp] theorem State.modSlot_modSlot (s : State) (i : Nat) (f g : Slot → Slot) (h : twf {} s.slots = true) :
    (s.modSlot i f).modSlot i g = s.modSlot i fun x => g (f x) := by
  simp only [State.modSlot, State.setSlot, State.slot, tget_tset_same, tset_tset _ _ _ _ _ h]

/-- An update is told by what it makes of the entry that stands there. -/
theorem State.modSlot_congr {s : State} {i : Nat} {f g : Slot → Slot} (h : f (s.slot i) = g (s.slot i)) : s.modSlot i f = s.modSlot i g := by
  simp only [State.modSlot, h]

@[simp] theorem State.modSlot_at_now (s : State) (i : Nat) (f : Slot → Slot) : (s.modSlot i f).now = s.now := rfl
@[simp] theorem State.modSlot_at_polders (s : State) (i : Nat) (f : Slot → Slot) : (s.modSlot i f).polders = s.polders := rfl
@[simp] theorem State.modSlot_at_timers (s : State) (i : Nat) (f : Slot → Slot) : (s.modSlot i f).timers = s.timers := rfl
@[simp] theorem State.modSlot_at_tide (s : State) (i : Nat) (f : Slot → Slot) : (s.modSlot i f).tide = s.tide := rfl
@[simp] theorem State.modSlot_at_dev (s : State) (i : Nat) (f : Slot → Slot) : (s.modSlot i f).dev = s.dev := rfl
@[simp] theorem State.modSlot_at_flow (s : State) (i : Nat) (f : Slot → Slot) : (s.modSlot i f).flow = s.flow := rfl
@[simp] theorem State.modSlot_at_mram (s : State) (i : Nat) (f : Slot → Slot) : (s.modSlot i f).mram = s.mram := rfl
@[simp] theorem State.modSlot_at_cores (s : State) (i : Nat) (f : Slot → Slot) : (s.modSlot i f).cores = s.cores := rfl
@[simp] theorem State.modSlot_at_coreCtl (s : State) (i : Nat) (f : Slot → Slot) : (s.modSlot i f).coreCtl = s.coreCtl := rfl
@[simp] theorem State.modSlot_at_logins (s : State) (i : Nat) (f : Slot → Slot) : (s.modSlot i f).logins = s.logins := rfl
@[simp] theorem State.modSlot_at_boot (s : State) (i : Nat) (f : Slot → Slot) : (s.modSlot i f).boot = s.boot := rfl
@[simp] theorem State.modSlot_at_telemetry (s : State) (i : Nat) (f : Slot → Slot) : (s.modSlot i f).telemetry = s.telemetry := rfl
@[simp] theorem State.modSlot_at_counts (s : State) (i : Nat) (f : Slot → Slot) : (s.modSlot i f).counts = s.counts := rfl
@[simp] theorem State.modSlot_at_ports (s : State) (i : Nat) (f : Slot → Slot) : (s.modSlot i f).ports = s.ports := rfl
@[simp] theorem State.modSlot_at_lpos (s : State) (i : Nat) (f : Slot → Slot) : (s.modSlot i f).lpos = s.lpos := rfl
@[simp] theorem State.modSlot_at_mail (s : State) (i : Nat) (f : Slot → Slot) : (s.modSlot i f).mail = s.mail := rfl
@[simp] theorem State.modSlot_at_audit (s : State) (i : Nat) (f : Slot → Slot) : (s.modSlot i f).audit = s.audit := rfl
@[simp] theorem State.modSlot_at_life (s : State) (i : Nat) (f : Slot → Slot) : (s.modSlot i f).life = s.life := rfl
@[simp] theorem State.modSlot_at_crypto (s : State) (i : Nat) (f : Slot → Slot) : (s.modSlot i f).crypto = s.crypto := rfl
@[simp] theorem State.modSlot_at_sram (s : State) (i : Nat) (f : Slot → Slot) : (s.modSlot i f).sram = s.sram := rfl
@[simp] theorem State.modSlot_at_dictView (s : State) (i : Nat) (f : Slot → Slot) : (s.modSlot i f).dictView = s.dictView := rfl
@[simp] theorem State.modSlot_at_storeQ (s : State) (i : Nat) (f : Slot → Slot) : (s.modSlot i f).storeQ = s.storeQ := rfl
@[simp] theorem State.modSlot_at_ring (s : State) (i : Nat) (f : Slot → Slot) : (s.modSlot i f).ring = s.ring := rfl
@[simp] theorem State.modSlot_at_tray (s : State) (i : Nat) (f : Slot → Slot) : (s.modSlot i f).tray = s.tray := rfl
@[simp] theorem State.modSlot_at_loops (s : State) (i : Nat) (f : Slot → Slot) : (s.modSlot i f).loops = s.loops := rfl
@[simp] theorem State.modSlot_at_tap (s : State) (i : Nat) (f : Slot → Slot) : (s.modSlot i f).tap = s.tap := rfl
@[simp] theorem State.modSlot_at_latches (s : State) (i : Nat) (f : Slot → Slot) : (s.modSlot i f).latches = s.latches := rfl
@[simp] theorem State.modSlot_at_lastRead (s : State) (i : Nat) (f : Slot → Slot) : (s.modSlot i f).lastRead = s.lastRead := rfl
@[simp] theorem State.modSlot_at_out (s : State) (i : Nat) (f : Slot → Slot) : (s.modSlot i f).out = s.out := rfl
@[simp] theorem State.modSlot_at_msix (s : State) (i : Nat) (f : Slot → Slot) : (s.modSlot i f).msix = s.msix := rfl
@[simp] theorem State.modSlot_at_pba (s : State) (i : Nat) (f : Slot → Slot) : (s.modSlot i f).pba = s.pba := rfl
@[simp] theorem State.modSlot_at_freeCount (s : State) (i : Nat) (f : Slot → Slot) : (s.modSlot i f).freeCount = s.freeCount := rfl
@[simp] theorem State.modSlot_at_pending (s : State) (i : Nat) (f : Slot → Slot) : (s.modSlot i f).pending = s.pending := rfl

/-! `polder` and `modPolder`. -/

@[simp] theorem State.modPolder_polder (s : State) (i : Nat) (f : Polder → Polder) : (s.modPolder i f).polder i = f (s.polder i) := tget_tset_same _ _ _ _

theorem State.modPolder_polder_ne (s : State) (i j : Nat) (f : Polder → Polder) (h : j ≠ i) : (s.modPolder i f).polder j = s.polder j := tget_tset_ne _ _ _ _ _ h

@[simp] theorem State.modPolder_modPolder (s : State) (i : Nat) (f g : Polder → Polder) (h : twf {} s.polders = true) :
    (s.modPolder i f).modPolder i g = s.modPolder i fun x => g (f x) := by
  simp only [State.modPolder, State.polder, tget_tset_same, tset_tset _ _ _ _ _ h]

/-- An update is told by what it makes of the entry that stands there. -/
theorem State.modPolder_congr {s : State} {i : Nat} {f g : Polder → Polder} (h : f (s.polder i) = g (s.polder i)) : s.modPolder i f = s.modPolder i g := by
  simp only [State.modPolder, h]

@[simp] theorem State.modPolder_at_now (s : State) (i : Nat) (f : Polder → Polder) : (s.modPolder i f).now = s.now := rfl
@[simp] theorem State.modPolder_at_slots (s : State) (i : Nat) (f : Polder → Polder) : (s.modPolder i f).slots = s.slots := rfl
@[simp] theorem State.modPolder_at_timers (s : State) (i : Nat) (f : Polder → Polder) : (s.modPolder i f).timers = s.timers := rfl
@[simp] theorem State.modPolder_at_tide (s : State) (i : Nat) (f : Polder → Polder) : (s.modPolder i f).tide = s.tide := rfl
@[simp] theorem State.modPolder_at_dev (s : State) (i : Nat) (f : Polder → Polder) : (s.modPolder i f).dev = s.dev := rfl
@[simp] theorem State.modPolder_at_flow (s : State) (i : Nat) (f : Polder → Polder) : (s.modPolder i f).flow = s.flow := rfl
@[simp] theorem State.modPolder_at_mram (s : State) (i : Nat) (f : Polder → Polder) : (s.modPolder i f).mram = s.mram := rfl
@[simp] theorem State.modPolder_at_cores (s : State) (i : Nat) (f : Polder → Polder) : (s.modPolder i f).cores = s.cores := rfl
@[simp] theorem State.modPolder_at_coreCtl (s : State) (i : Nat) (f : Polder → Polder) : (s.modPolder i f).coreCtl = s.coreCtl := rfl
@[simp] theorem State.modPolder_at_logins (s : State) (i : Nat) (f : Polder → Polder) : (s.modPolder i f).logins = s.logins := rfl
@[simp] theorem State.modPolder_at_boot (s : State) (i : Nat) (f : Polder → Polder) : (s.modPolder i f).boot = s.boot := rfl
@[simp] theorem State.modPolder_at_telemetry (s : State) (i : Nat) (f : Polder → Polder) : (s.modPolder i f).telemetry = s.telemetry := rfl
@[simp] theorem State.modPolder_at_counts (s : State) (i : Nat) (f : Polder → Polder) : (s.modPolder i f).counts = s.counts := rfl
@[simp] theorem State.modPolder_at_ports (s : State) (i : Nat) (f : Polder → Polder) : (s.modPolder i f).ports = s.ports := rfl
@[simp] theorem State.modPolder_at_lpos (s : State) (i : Nat) (f : Polder → Polder) : (s.modPolder i f).lpos = s.lpos := rfl
@[simp] theorem State.modPolder_at_mail (s : State) (i : Nat) (f : Polder → Polder) : (s.modPolder i f).mail = s.mail := rfl
@[simp] theorem State.modPolder_at_audit (s : State) (i : Nat) (f : Polder → Polder) : (s.modPolder i f).audit = s.audit := rfl
@[simp] theorem State.modPolder_at_life (s : State) (i : Nat) (f : Polder → Polder) : (s.modPolder i f).life = s.life := rfl
@[simp] theorem State.modPolder_at_crypto (s : State) (i : Nat) (f : Polder → Polder) : (s.modPolder i f).crypto = s.crypto := rfl
@[simp] theorem State.modPolder_at_sram (s : State) (i : Nat) (f : Polder → Polder) : (s.modPolder i f).sram = s.sram := rfl
@[simp] theorem State.modPolder_at_dictView (s : State) (i : Nat) (f : Polder → Polder) : (s.modPolder i f).dictView = s.dictView := rfl
@[simp] theorem State.modPolder_at_storeQ (s : State) (i : Nat) (f : Polder → Polder) : (s.modPolder i f).storeQ = s.storeQ := rfl
@[simp] theorem State.modPolder_at_ring (s : State) (i : Nat) (f : Polder → Polder) : (s.modPolder i f).ring = s.ring := rfl
@[simp] theorem State.modPolder_at_tray (s : State) (i : Nat) (f : Polder → Polder) : (s.modPolder i f).tray = s.tray := rfl
@[simp] theorem State.modPolder_at_loops (s : State) (i : Nat) (f : Polder → Polder) : (s.modPolder i f).loops = s.loops := rfl
@[simp] theorem State.modPolder_at_tap (s : State) (i : Nat) (f : Polder → Polder) : (s.modPolder i f).tap = s.tap := rfl
@[simp] theorem State.modPolder_at_latches (s : State) (i : Nat) (f : Polder → Polder) : (s.modPolder i f).latches = s.latches := rfl
@[simp] theorem State.modPolder_at_lastRead (s : State) (i : Nat) (f : Polder → Polder) : (s.modPolder i f).lastRead = s.lastRead := rfl
@[simp] theorem State.modPolder_at_out (s : State) (i : Nat) (f : Polder → Polder) : (s.modPolder i f).out = s.out := rfl
@[simp] theorem State.modPolder_at_msix (s : State) (i : Nat) (f : Polder → Polder) : (s.modPolder i f).msix = s.msix := rfl
@[simp] theorem State.modPolder_at_pba (s : State) (i : Nat) (f : Polder → Polder) : (s.modPolder i f).pba = s.pba := rfl
@[simp] theorem State.modPolder_at_freeCount (s : State) (i : Nat) (f : Polder → Polder) : (s.modPolder i f).freeCount = s.freeCount := rfl
@[simp] theorem State.modPolder_at_pending (s : State) (i : Nat) (f : Polder → Polder) : (s.modPolder i f).pending = s.pending := rfl

/-! `timer` and `modTimer`. -/

@[simp] theorem State.modTimer_timer (s : State) (i : Nat) (f : Timer → Timer) : (s.modTimer i f).timer i = f (s.timer i) := tget_tset_same _ _ _ _

theorem State.modTimer_timer_ne (s : State) (i j : Nat) (f : Timer → Timer) (h : j ≠ i) : (s.modTimer i f).timer j = s.timer j := tget_tset_ne _ _ _ _ _ h

@[simp] theorem State.modTimer_modTimer (s : State) (i : Nat) (f g : Timer → Timer) (h : twf {} s.timers = true) :
    (s.modTimer i f).modTimer i g = s.modTimer i fun x => g (f x) := by
  simp only [State.modTimer, State.timer, tget_tset_same, tset_tset _ _ _ _ _ h]

/-- An update is told by what it makes of the entry that stands there. -/
theorem State.modTimer_congr {s : State} {i : Nat} {f g : Timer → Timer} (h : f (s.timer i) = g (s.timer i)) : s.modTimer i f = s.modTimer i g := by
  simp only [State.modTimer, h]

@[simp] theorem State.modTimer_at_now (s : State) (i : Nat) (f : Timer → Timer) : (s.modTimer i f).now = s.now := rfl
@[simp] theorem State.modTimer_at_slots (s : State) (i : Nat) (f : Timer → Timer) : (s.modTimer i f).slots = s.slots := rfl
@[simp] theorem State.modTimer_at_polders (s : State) (i : Nat) (f : Timer → Timer) : (s.modTimer i f).polders = s.polders := rfl
@[simp] theorem State.modTimer_at_tide (s : State) (i : Nat) (f : Timer → Timer) : (s.modTimer i f).tide = s.tide := rfl
@[simp] theorem State.modTimer_at_dev (s : State) (i : Nat) (f : Timer → Timer) : (s.modTimer i f).dev = s.dev := rfl
@[simp] theorem State.modTimer_at_flow (s : State) (i : Nat) (f : Timer → Timer) : (s.modTimer i f).flow = s.flow := rfl
@[simp] theorem State.modTimer_at_mram (s : State) (i : Nat) (f : Timer → Timer) : (s.modTimer i f).mram = s.mram := rfl
@[simp] theorem State.modTimer_at_cores (s : State) (i : Nat) (f : Timer → Timer) : (s.modTimer i f).cores = s.cores := rfl
@[simp] theorem State.modTimer_at_coreCtl (s : State) (i : Nat) (f : Timer → Timer) : (s.modTimer i f).coreCtl = s.coreCtl := rfl
@[simp] theorem State.modTimer_at_logins (s : State) (i : Nat) (f : Timer → Timer) : (s.modTimer i f).logins = s.logins := rfl
@[simp] theorem State.modTimer_at_boot (s : State) (i : Nat) (f : Timer → Timer) : (s.modTimer i f).boot = s.boot := rfl
@[simp] theorem State.modTimer_at_telemetry (s : State) (i : Nat) (f : Timer → Timer) : (s.modTimer i f).telemetry = s.telemetry := rfl
@[simp] theorem State.modTimer_at_counts (s : State) (i : Nat) (f : Timer → Timer) : (s.modTimer i f).counts = s.counts := rfl
@[simp] theorem State.modTimer_at_ports (s : State) (i : Nat) (f : Timer → Timer) : (s.modTimer i f).ports = s.ports := rfl
@[simp] theorem State.modTimer_at_lpos (s : State) (i : Nat) (f : Timer → Timer) : (s.modTimer i f).lpos = s.lpos := rfl
@[simp] theorem State.modTimer_at_mail (s : State) (i : Nat) (f : Timer → Timer) : (s.modTimer i f).mail = s.mail := rfl
@[simp] theorem State.modTimer_at_audit (s : State) (i : Nat) (f : Timer → Timer) : (s.modTimer i f).audit = s.audit := rfl
@[simp] theorem State.modTimer_at_life (s : State) (i : Nat) (f : Timer → Timer) : (s.modTimer i f).life = s.life := rfl
@[simp] theorem State.modTimer_at_crypto (s : State) (i : Nat) (f : Timer → Timer) : (s.modTimer i f).crypto = s.crypto := rfl
@[simp] theorem State.modTimer_at_sram (s : State) (i : Nat) (f : Timer → Timer) : (s.modTimer i f).sram = s.sram := rfl
@[simp] theorem State.modTimer_at_dictView (s : State) (i : Nat) (f : Timer → Timer) : (s.modTimer i f).dictView = s.dictView := rfl
@[simp] theorem State.modTimer_at_storeQ (s : State) (i : Nat) (f : Timer → Timer) : (s.modTimer i f).storeQ = s.storeQ := rfl
@[simp] theorem State.modTimer_at_ring (s : State) (i : Nat) (f : Timer → Timer) : (s.modTimer i f).ring = s.ring := rfl
@[simp] theorem State.modTimer_at_tray (s : State) (i : Nat) (f : Timer → Timer) : (s.modTimer i f).tray = s.tray := rfl
@[simp] theorem State.modTimer_at_loops (s : State) (i : Nat) (f : Timer → Timer) : (s.modTimer i f).loops = s.loops := rfl
@[simp] theorem State.modTimer_at_tap (s : State) (i : Nat) (f : Timer → Timer) : (s.modTimer i f).tap = s.tap := rfl
@[simp] theorem State.modTimer_at_latches (s : State) (i : Nat) (f : Timer → Timer) : (s.modTimer i f).latches = s.latches := rfl
@[simp] theorem State.modTimer_at_lastRead (s : State) (i : Nat) (f : Timer → Timer) : (s.modTimer i f).lastRead = s.lastRead := rfl
@[simp] theorem State.modTimer_at_out (s : State) (i : Nat) (f : Timer → Timer) : (s.modTimer i f).out = s.out := rfl
@[simp] theorem State.modTimer_at_msix (s : State) (i : Nat) (f : Timer → Timer) : (s.modTimer i f).msix = s.msix := rfl
@[simp] theorem State.modTimer_at_pba (s : State) (i : Nat) (f : Timer → Timer) : (s.modTimer i f).pba = s.pba := rfl
@[simp] theorem State.modTimer_at_freeCount (s : State) (i : Nat) (f : Timer → Timer) : (s.modTimer i f).freeCount = s.freeCount := rfl
@[simp] theorem State.modTimer_at_pending (s : State) (i : Nat) (f : Timer → Timer) : (s.modTimer i f).pending = s.pending := rfl

/-! `core` and `modCore`. -/

@[simp] theorem State.modCore_core (s : State) (i : Nat) (f : Core → Core) : (s.modCore i f).core i = f (s.core i) := tget_tset_same _ _ _ _

theorem State.modCore_core_ne (s : State) (i j : Nat) (f : Core → Core) (h : j ≠ i) : (s.modCore i f).core j = s.core j := tget_tset_ne _ _ _ _ _ h

@[simp] theorem State.modCore_modCore (s : State) (i : Nat) (f g : Core → Core) (h : twf {} s.cores = true) :
    (s.modCore i f).modCore i g = s.modCore i fun x => g (f x) := by
  simp only [State.modCore, State.core, tget_tset_same, tset_tset _ _ _ _ _ h]

/-- An update is told by what it makes of the entry that stands there. -/
theorem State.modCore_congr {s : State} {i : Nat} {f g : Core → Core} (h : f (s.core i) = g (s.core i)) : s.modCore i f = s.modCore i g := by
  simp only [State.modCore, h]

@[simp] theorem State.modCore_at_now (s : State) (i : Nat) (f : Core → Core) : (s.modCore i f).now = s.now := rfl
@[simp] theorem State.modCore_at_slots (s : State) (i : Nat) (f : Core → Core) : (s.modCore i f).slots = s.slots := rfl
@[simp] theorem State.modCore_at_polders (s : State) (i : Nat) (f : Core → Core) : (s.modCore i f).polders = s.polders := rfl
@[simp] theorem State.modCore_at_timers (s : State) (i : Nat) (f : Core → Core) : (s.modCore i f).timers = s.timers := rfl
@[simp] theorem State.modCore_at_tide (s : State) (i : Nat) (f : Core → Core) : (s.modCore i f).tide = s.tide := rfl
@[simp] theorem State.modCore_at_dev (s : State) (i : Nat) (f : Core → Core) : (s.modCore i f).dev = s.dev := rfl
@[simp] theorem State.modCore_at_flow (s : State) (i : Nat) (f : Core → Core) : (s.modCore i f).flow = s.flow := rfl
@[simp] theorem State.modCore_at_mram (s : State) (i : Nat) (f : Core → Core) : (s.modCore i f).mram = s.mram := rfl
@[simp] theorem State.modCore_at_coreCtl (s : State) (i : Nat) (f : Core → Core) : (s.modCore i f).coreCtl = s.coreCtl := rfl
@[simp] theorem State.modCore_at_logins (s : State) (i : Nat) (f : Core → Core) : (s.modCore i f).logins = s.logins := rfl
@[simp] theorem State.modCore_at_boot (s : State) (i : Nat) (f : Core → Core) : (s.modCore i f).boot = s.boot := rfl
@[simp] theorem State.modCore_at_telemetry (s : State) (i : Nat) (f : Core → Core) : (s.modCore i f).telemetry = s.telemetry := rfl
@[simp] theorem State.modCore_at_counts (s : State) (i : Nat) (f : Core → Core) : (s.modCore i f).counts = s.counts := rfl
@[simp] theorem State.modCore_at_ports (s : State) (i : Nat) (f : Core → Core) : (s.modCore i f).ports = s.ports := rfl
@[simp] theorem State.modCore_at_lpos (s : State) (i : Nat) (f : Core → Core) : (s.modCore i f).lpos = s.lpos := rfl
@[simp] theorem State.modCore_at_mail (s : State) (i : Nat) (f : Core → Core) : (s.modCore i f).mail = s.mail := rfl
@[simp] theorem State.modCore_at_audit (s : State) (i : Nat) (f : Core → Core) : (s.modCore i f).audit = s.audit := rfl
@[simp] theorem State.modCore_at_life (s : State) (i : Nat) (f : Core → Core) : (s.modCore i f).life = s.life := rfl
@[simp] theorem State.modCore_at_crypto (s : State) (i : Nat) (f : Core → Core) : (s.modCore i f).crypto = s.crypto := rfl
@[simp] theorem State.modCore_at_sram (s : State) (i : Nat) (f : Core → Core) : (s.modCore i f).sram = s.sram := rfl
@[simp] theorem State.modCore_at_dictView (s : State) (i : Nat) (f : Core → Core) : (s.modCore i f).dictView = s.dictView := rfl
@[simp] theorem State.modCore_at_storeQ (s : State) (i : Nat) (f : Core → Core) : (s.modCore i f).storeQ = s.storeQ := rfl
@[simp] theorem State.modCore_at_ring (s : State) (i : Nat) (f : Core → Core) : (s.modCore i f).ring = s.ring := rfl
@[simp] theorem State.modCore_at_tray (s : State) (i : Nat) (f : Core → Core) : (s.modCore i f).tray = s.tray := rfl
@[simp] theorem State.modCore_at_loops (s : State) (i : Nat) (f : Core → Core) : (s.modCore i f).loops = s.loops := rfl
@[simp] theorem State.modCore_at_tap (s : State) (i : Nat) (f : Core → Core) : (s.modCore i f).tap = s.tap := rfl
@[simp] theorem State.modCore_at_latches (s : State) (i : Nat) (f : Core → Core) : (s.modCore i f).latches = s.latches := rfl
@[simp] theorem State.modCore_at_lastRead (s : State) (i : Nat) (f : Core → Core) : (s.modCore i f).lastRead = s.lastRead := rfl
@[simp] theorem State.modCore_at_out (s : State) (i : Nat) (f : Core → Core) : (s.modCore i f).out = s.out := rfl
@[simp] theorem State.modCore_at_msix (s : State) (i : Nat) (f : Core → Core) : (s.modCore i f).msix = s.msix := rfl
@[simp] theorem State.modCore_at_pba (s : State) (i : Nat) (f : Core → Core) : (s.modCore i f).pba = s.pba := rfl
@[simp] theorem State.modCore_at_freeCount (s : State) (i : Nat) (f : Core → Core) : (s.modCore i f).freeCount = s.freeCount := rfl
@[simp] theorem State.modCore_at_pending (s : State) (i : Nat) (f : Core → Core) : (s.modCore i f).pending = s.pending := rfl

/-! `port` and `modPort`. -/

@[simp] theorem State.modPort_port (s : State) (i : Nat) (f : Port → Port) : (s.modPort i f).port i = f (s.port i) := tget_tset_same _ _ _ _

theorem State.modPort_port_ne (s : State) (i j : Nat) (f : Port → Port) (h : j ≠ i) : (s.modPort i f).port j = s.port j := tget_tset_ne _ _ _ _ _ h

@[simp] theorem State.modPort_modPort (s : State) (i : Nat) (f g : Port → Port) (h : twf {} s.ports = true) :
    (s.modPort i f).modPort i g = s.modPort i fun x => g (f x) := by
  simp only [State.modPort, State.port, tget_tset_same, tset_tset _ _ _ _ _ h]

/-- An update is told by what it makes of the entry that stands there. -/
theorem State.modPort_congr {s : State} {i : Nat} {f g : Port → Port} (h : f (s.port i) = g (s.port i)) : s.modPort i f = s.modPort i g := by
  simp only [State.modPort, h]

@[simp] theorem State.modPort_at_now (s : State) (i : Nat) (f : Port → Port) : (s.modPort i f).now = s.now := rfl
@[simp] theorem State.modPort_at_slots (s : State) (i : Nat) (f : Port → Port) : (s.modPort i f).slots = s.slots := rfl
@[simp] theorem State.modPort_at_polders (s : State) (i : Nat) (f : Port → Port) : (s.modPort i f).polders = s.polders := rfl
@[simp] theorem State.modPort_at_timers (s : State) (i : Nat) (f : Port → Port) : (s.modPort i f).timers = s.timers := rfl
@[simp] theorem State.modPort_at_tide (s : State) (i : Nat) (f : Port → Port) : (s.modPort i f).tide = s.tide := rfl
@[simp] theorem State.modPort_at_dev (s : State) (i : Nat) (f : Port → Port) : (s.modPort i f).dev = s.dev := rfl
@[simp] theorem State.modPort_at_flow (s : State) (i : Nat) (f : Port → Port) : (s.modPort i f).flow = s.flow := rfl
@[simp] theorem State.modPort_at_mram (s : State) (i : Nat) (f : Port → Port) : (s.modPort i f).mram = s.mram := rfl
@[simp] theorem State.modPort_at_cores (s : State) (i : Nat) (f : Port → Port) : (s.modPort i f).cores = s.cores := rfl
@[simp] theorem State.modPort_at_coreCtl (s : State) (i : Nat) (f : Port → Port) : (s.modPort i f).coreCtl = s.coreCtl := rfl
@[simp] theorem State.modPort_at_logins (s : State) (i : Nat) (f : Port → Port) : (s.modPort i f).logins = s.logins := rfl
@[simp] theorem State.modPort_at_boot (s : State) (i : Nat) (f : Port → Port) : (s.modPort i f).boot = s.boot := rfl
@[simp] theorem State.modPort_at_telemetry (s : State) (i : Nat) (f : Port → Port) : (s.modPort i f).telemetry = s.telemetry := rfl
@[simp] theorem State.modPort_at_counts (s : State) (i : Nat) (f : Port → Port) : (s.modPort i f).counts = s.counts := rfl
@[simp] theorem State.modPort_at_lpos (s : State) (i : Nat) (f : Port → Port) : (s.modPort i f).lpos = s.lpos := rfl
@[simp] theorem State.modPort_at_mail (s : State) (i : Nat) (f : Port → Port) : (s.modPort i f).mail = s.mail := rfl
@[simp] theorem State.modPort_at_audit (s : State) (i : Nat) (f : Port → Port) : (s.modPort i f).audit = s.audit := rfl
@[simp] theorem State.modPort_at_life (s : State) (i : Nat) (f : Port → Port) : (s.modPort i f).life = s.life := rfl
@[simp] theorem State.modPort_at_crypto (s : State) (i : Nat) (f : Port → Port) : (s.modPort i f).crypto = s.crypto := rfl
@[simp] theorem State.modPort_at_sram (s : State) (i : Nat) (f : Port → Port) : (s.modPort i f).sram = s.sram := rfl
@[simp] theorem State.modPort_at_dictView (s : State) (i : Nat) (f : Port → Port) : (s.modPort i f).dictView = s.dictView := rfl
@[simp] theorem State.modPort_at_storeQ (s : State) (i : Nat) (f : Port → Port) : (s.modPort i f).storeQ = s.storeQ := rfl
@[simp] theorem State.modPort_at_ring (s : State) (i : Nat) (f : Port → Port) : (s.modPort i f).ring = s.ring := rfl
@[simp] theorem State.modPort_at_tray (s : State) (i : Nat) (f : Port → Port) : (s.modPort i f).tray = s.tray := rfl
@[simp] theorem State.modPort_at_loops (s : State) (i : Nat) (f : Port → Port) : (s.modPort i f).loops = s.loops := rfl
@[simp] theorem State.modPort_at_tap (s : State) (i : Nat) (f : Port → Port) : (s.modPort i f).tap = s.tap := rfl
@[simp] theorem State.modPort_at_latches (s : State) (i : Nat) (f : Port → Port) : (s.modPort i f).latches = s.latches := rfl
@[simp] theorem State.modPort_at_lastRead (s : State) (i : Nat) (f : Port → Port) : (s.modPort i f).lastRead = s.lastRead := rfl
@[simp] theorem State.modPort_at_out (s : State) (i : Nat) (f : Port → Port) : (s.modPort i f).out = s.out := rfl
@[simp] theorem State.modPort_at_msix (s : State) (i : Nat) (f : Port → Port) : (s.modPort i f).msix = s.msix := rfl
@[simp] theorem State.modPort_at_pba (s : State) (i : Nat) (f : Port → Port) : (s.modPort i f).pba = s.pba := rfl
@[simp] theorem State.modPort_at_freeCount (s : State) (i : Nat) (f : Port → Port) : (s.modPort i f).freeCount = s.freeCount := rfl
@[simp] theorem State.modPort_at_pending (s : State) (i : Nat) (f : Port → Port) : (s.modPort i f).pending = s.pending := rfl

/-! `lp` and `modLp`. -/

@[simp] theorem State.modLp_lp (s : State) (i : Nat) (f : LPos → LPos) : (s.modLp i f).lp i = f (s.lp i) := tget_tset_same _ _ _ _

theorem State.modLp_lp_ne (s : State) (i j : Nat) (f : LPos → LPos) (h : j ≠ i) : (s.modLp i f).lp j = s.lp j := tget_tset_ne _ _ _ _ _ h

@[simp] theorem State.modLp_modLp (s : State) (i : Nat) (f g : LPos → LPos) (h : twf {} s.lpos = true) :
    (s.modLp i f).modLp i g = s.modLp i fun x => g (f x) := by
  simp only [State.modLp, State.lp, tget_tset_same, tset_tset _ _ _ _ _ h]

/-- An update is told by what it makes of the entry that stands there. -/
theorem State.modLp_congr {s : State} {i : Nat} {f g : LPos → LPos} (h : f (s.lp i) = g (s.lp i)) : s.modLp i f = s.modLp i g := by
  simp only [State.modLp, h]

@[simp] theorem State.modLp_at_now (s : State) (i : Nat) (f : LPos → LPos) : (s.modLp i f).now = s.now := rfl
@[simp] theorem State.modLp_at_slots (s : State) (i : Nat) (f : LPos → LPos) : (s.modLp i f).slots = s.slots := rfl
@[simp] theorem State.modLp_at_polders (s : State) (i : Nat) (f : LPos → LPos) : (s.modLp i f).polders = s.polders := rfl
@[simp] theorem State.modLp_at_timers (s : State) (i : Nat) (f : LPos → LPos) : (s.modLp i f).timers = s.timers := rfl
@[simp] theorem State.modLp_at_tide (s : State) (i : Nat) (f : LPos → LPos) : (s.modLp i f).tide = s.tide := rfl
@[simp] theorem State.modLp_at_dev (s : State) (i : Nat) (f : LPos → LPos) : (s.modLp i f).dev = s.dev := rfl
@[simp] theorem State.modLp_at_flow (s : State) (i : Nat) (f : LPos → LPos) : (s.modLp i f).flow = s.flow := rfl
@[simp] theorem State.modLp_at_mram (s : State) (i : Nat) (f : LPos → LPos) : (s.modLp i f).mram = s.mram := rfl
@[simp] theorem State.modLp_at_cores (s : State) (i : Nat) (f : LPos → LPos) : (s.modLp i f).cores = s.cores := rfl
@[simp] theorem State.modLp_at_coreCtl (s : State) (i : Nat) (f : LPos → LPos) : (s.modLp i f).coreCtl = s.coreCtl := rfl
@[simp] theorem State.modLp_at_logins (s : State) (i : Nat) (f : LPos → LPos) : (s.modLp i f).logins = s.logins := rfl
@[simp] theorem State.modLp_at_boot (s : State) (i : Nat) (f : LPos → LPos) : (s.modLp i f).boot = s.boot := rfl
@[simp] theorem State.modLp_at_telemetry (s : State) (i : Nat) (f : LPos → LPos) : (s.modLp i f).telemetry = s.telemetry := rfl
@[simp] theorem State.modLp_at_counts (s : State) (i : Nat) (f : LPos → LPos) : (s.modLp i f).counts = s.counts := rfl
@[simp] theorem State.modLp_at_ports (s : State) (i : Nat) (f : LPos → LPos) : (s.modLp i f).ports = s.ports := rfl
@[simp] theorem State.modLp_at_mail (s : State) (i : Nat) (f : LPos → LPos) : (s.modLp i f).mail = s.mail := rfl
@[simp] theorem State.modLp_at_audit (s : State) (i : Nat) (f : LPos → LPos) : (s.modLp i f).audit = s.audit := rfl
@[simp] theorem State.modLp_at_life (s : State) (i : Nat) (f : LPos → LPos) : (s.modLp i f).life = s.life := rfl
@[simp] theorem State.modLp_at_crypto (s : State) (i : Nat) (f : LPos → LPos) : (s.modLp i f).crypto = s.crypto := rfl
@[simp] theorem State.modLp_at_sram (s : State) (i : Nat) (f : LPos → LPos) : (s.modLp i f).sram = s.sram := rfl
@[simp] theorem State.modLp_at_dictView (s : State) (i : Nat) (f : LPos → LPos) : (s.modLp i f).dictView = s.dictView := rfl
@[simp] theorem State.modLp_at_storeQ (s : State) (i : Nat) (f : LPos → LPos) : (s.modLp i f).storeQ = s.storeQ := rfl
@[simp] theorem State.modLp_at_ring (s : State) (i : Nat) (f : LPos → LPos) : (s.modLp i f).ring = s.ring := rfl
@[simp] theorem State.modLp_at_tray (s : State) (i : Nat) (f : LPos → LPos) : (s.modLp i f).tray = s.tray := rfl
@[simp] theorem State.modLp_at_loops (s : State) (i : Nat) (f : LPos → LPos) : (s.modLp i f).loops = s.loops := rfl
@[simp] theorem State.modLp_at_tap (s : State) (i : Nat) (f : LPos → LPos) : (s.modLp i f).tap = s.tap := rfl
@[simp] theorem State.modLp_at_latches (s : State) (i : Nat) (f : LPos → LPos) : (s.modLp i f).latches = s.latches := rfl
@[simp] theorem State.modLp_at_lastRead (s : State) (i : Nat) (f : LPos → LPos) : (s.modLp i f).lastRead = s.lastRead := rfl
@[simp] theorem State.modLp_at_out (s : State) (i : Nat) (f : LPos → LPos) : (s.modLp i f).out = s.out := rfl
@[simp] theorem State.modLp_at_msix (s : State) (i : Nat) (f : LPos → LPos) : (s.modLp i f).msix = s.msix := rfl
@[simp] theorem State.modLp_at_pba (s : State) (i : Nat) (f : LPos → LPos) : (s.modLp i f).pba = s.pba := rfl
@[simp] theorem State.modLp_at_freeCount (s : State) (i : Nat) (f : LPos → LPos) : (s.modLp i f).freeCount = s.freeCount := rfl
@[simp] theorem State.modLp_at_pending (s : State) (i : Nat) (f : LPos → LPos) : (s.modLp i f).pending = s.pending := rfl

/-! `loop` and `modLoop`. -/

@[simp] theorem State.modLoop_loop (s : State) (i : Nat) (f : LoopUnit → LoopUnit) : (s.modLoop i f).loop i = f (s.loop i) := tget_tset_same _ _ _ _

theorem State.modLoop_loop_ne (s : State) (i j : Nat) (f : LoopUnit → LoopUnit) (h : j ≠ i) : (s.modLoop i f).loop j = s.loop j := tget_tset_ne _ _ _ _ _ h

@[simp] theorem State.modLoop_modLoop (s : State) (i : Nat) (f g : LoopUnit → LoopUnit) (h : twf {} s.loops = true) :
    (s.modLoop i f).modLoop i g = s.modLoop i fun x => g (f x) := by
  simp only [State.modLoop, State.loop, tget_tset_same, tset_tset _ _ _ _ _ h]

/-- An update is told by what it makes of the entry that stands there. -/
theorem State.modLoop_congr {s : State} {i : Nat} {f g : LoopUnit → LoopUnit} (h : f (s.loop i) = g (s.loop i)) : s.modLoop i f = s.modLoop i g := by
  simp only [State.modLoop, h]

@[simp] theorem State.modLoop_at_now (s : State) (i : Nat) (f : LoopUnit → LoopUnit) : (s.modLoop i f).now = s.now := rfl
@[simp] theorem State.modLoop_at_slots (s : State) (i : Nat) (f : LoopUnit → LoopUnit) : (s.modLoop i f).slots = s.slots := rfl
@[simp] theorem State.modLoop_at_polders (s : State) (i : Nat) (f : LoopUnit → LoopUnit) : (s.modLoop i f).polders = s.polders := rfl
@[simp] theorem State.modLoop_at_timers (s : State) (i : Nat) (f : LoopUnit → LoopUnit) : (s.modLoop i f).timers = s.timers := rfl
@[simp] theorem State.modLoop_at_tide (s : State) (i : Nat) (f : LoopUnit → LoopUnit) : (s.modLoop i f).tide = s.tide := rfl
@[simp] theorem State.modLoop_at_dev (s : State) (i : Nat) (f : LoopUnit → LoopUnit) : (s.modLoop i f).dev = s.dev := rfl
@[simp] theorem State.modLoop_at_flow (s : State) (i : Nat) (f : LoopUnit → LoopUnit) : (s.modLoop i f).flow = s.flow := rfl
@[simp] theorem State.modLoop_at_mram (s : State) (i : Nat) (f : LoopUnit → LoopUnit) : (s.modLoop i f).mram = s.mram := rfl
@[simp] theorem State.modLoop_at_cores (s : State) (i : Nat) (f : LoopUnit → LoopUnit) : (s.modLoop i f).cores = s.cores := rfl
@[simp] theorem State.modLoop_at_coreCtl (s : State) (i : Nat) (f : LoopUnit → LoopUnit) : (s.modLoop i f).coreCtl = s.coreCtl := rfl
@[simp] theorem State.modLoop_at_logins (s : State) (i : Nat) (f : LoopUnit → LoopUnit) : (s.modLoop i f).logins = s.logins := rfl
@[simp] theorem State.modLoop_at_boot (s : State) (i : Nat) (f : LoopUnit → LoopUnit) : (s.modLoop i f).boot = s.boot := rfl
@[simp] theorem State.modLoop_at_telemetry (s : State) (i : Nat) (f : LoopUnit → LoopUnit) : (s.modLoop i f).telemetry = s.telemetry := rfl
@[simp] theorem State.modLoop_at_counts (s : State) (i : Nat) (f : LoopUnit → LoopUnit) : (s.modLoop i f).counts = s.counts := rfl
@[simp] theorem State.modLoop_at_ports (s : State) (i : Nat) (f : LoopUnit → LoopUnit) : (s.modLoop i f).ports = s.ports := rfl
@[simp] theorem State.modLoop_at_lpos (s : State) (i : Nat) (f : LoopUnit → LoopUnit) : (s.modLoop i f).lpos = s.lpos := rfl
@[simp] theorem State.modLoop_at_mail (s : State) (i : Nat) (f : LoopUnit → LoopUnit) : (s.modLoop i f).mail = s.mail := rfl
@[simp] theorem State.modLoop_at_audit (s : State) (i : Nat) (f : LoopUnit → LoopUnit) : (s.modLoop i f).audit = s.audit := rfl
@[simp] theorem State.modLoop_at_life (s : State) (i : Nat) (f : LoopUnit → LoopUnit) : (s.modLoop i f).life = s.life := rfl
@[simp] theorem State.modLoop_at_crypto (s : State) (i : Nat) (f : LoopUnit → LoopUnit) : (s.modLoop i f).crypto = s.crypto := rfl
@[simp] theorem State.modLoop_at_sram (s : State) (i : Nat) (f : LoopUnit → LoopUnit) : (s.modLoop i f).sram = s.sram := rfl
@[simp] theorem State.modLoop_at_dictView (s : State) (i : Nat) (f : LoopUnit → LoopUnit) : (s.modLoop i f).dictView = s.dictView := rfl
@[simp] theorem State.modLoop_at_storeQ (s : State) (i : Nat) (f : LoopUnit → LoopUnit) : (s.modLoop i f).storeQ = s.storeQ := rfl
@[simp] theorem State.modLoop_at_ring (s : State) (i : Nat) (f : LoopUnit → LoopUnit) : (s.modLoop i f).ring = s.ring := rfl
@[simp] theorem State.modLoop_at_tray (s : State) (i : Nat) (f : LoopUnit → LoopUnit) : (s.modLoop i f).tray = s.tray := rfl
@[simp] theorem State.modLoop_at_tap (s : State) (i : Nat) (f : LoopUnit → LoopUnit) : (s.modLoop i f).tap = s.tap := rfl
@[simp] theorem State.modLoop_at_latches (s : State) (i : Nat) (f : LoopUnit → LoopUnit) : (s.modLoop i f).latches = s.latches := rfl
@[simp] theorem State.modLoop_at_lastRead (s : State) (i : Nat) (f : LoopUnit → LoopUnit) : (s.modLoop i f).lastRead = s.lastRead := rfl
@[simp] theorem State.modLoop_at_out (s : State) (i : Nat) (f : LoopUnit → LoopUnit) : (s.modLoop i f).out = s.out := rfl
@[simp] theorem State.modLoop_at_msix (s : State) (i : Nat) (f : LoopUnit → LoopUnit) : (s.modLoop i f).msix = s.msix := rfl
@[simp] theorem State.modLoop_at_pba (s : State) (i : Nat) (f : LoopUnit → LoopUnit) : (s.modLoop i f).pba = s.pba := rfl
@[simp] theorem State.modLoop_at_freeCount (s : State) (i : Nat) (f : LoopUnit → LoopUnit) : (s.modLoop i f).freeCount = s.freeCount := rfl
@[simp] theorem State.modLoop_at_pending (s : State) (i : Nat) (f : LoopUnit → LoopUnit) : (s.modLoop i f).pending = s.pending := rfl

/-! `qp` and `modQp`. -/

@[simp] theorem State.modQp_qp (s : State) (i : Nat) (f : QPair → QPair) : (s.modQp i f).qp i = f (s.qp i) := tget_tset_same _ _ _ _

theorem State.modQp_qp_ne (s : State) (i j : Nat) (f : QPair → QPair) (h : j ≠ i) : (s.modQp i f).qp j = s.qp j := tget_tset_ne _ _ _ _ _ h

@[simp] theorem State.modQp_modQp (s : State) (i : Nat) (f g : QPair → QPair) (h : twf {} s.flow.qps = true) :
    (s.modQp i f).modQp i g = s.modQp i fun x => g (f x) := by
  simp only [State.modQp, State.qp, tget_tset_same, tset_tset _ _ _ _ _ h]

/-- An update is told by what it makes of the entry that stands there. -/
theorem State.modQp_congr {s : State} {i : Nat} {f g : QPair → QPair} (h : f (s.qp i) = g (s.qp i)) : s.modQp i f = s.modQp i g := by
  simp only [State.modQp, h]

@[simp] theorem State.modQp_at_now (s : State) (i : Nat) (f : QPair → QPair) : (s.modQp i f).now = s.now := rfl
@[simp] theorem State.modQp_at_slots (s : State) (i : Nat) (f : QPair → QPair) : (s.modQp i f).slots = s.slots := rfl
@[simp] theorem State.modQp_at_polders (s : State) (i : Nat) (f : QPair → QPair) : (s.modQp i f).polders = s.polders := rfl
@[simp] theorem State.modQp_at_timers (s : State) (i : Nat) (f : QPair → QPair) : (s.modQp i f).timers = s.timers := rfl
@[simp] theorem State.modQp_at_tide (s : State) (i : Nat) (f : QPair → QPair) : (s.modQp i f).tide = s.tide := rfl
@[simp] theorem State.modQp_at_dev (s : State) (i : Nat) (f : QPair → QPair) : (s.modQp i f).dev = s.dev := rfl
@[simp] theorem State.modQp_at_mram (s : State) (i : Nat) (f : QPair → QPair) : (s.modQp i f).mram = s.mram := rfl
@[simp] theorem State.modQp_at_cores (s : State) (i : Nat) (f : QPair → QPair) : (s.modQp i f).cores = s.cores := rfl
@[simp] theorem State.modQp_at_coreCtl (s : State) (i : Nat) (f : QPair → QPair) : (s.modQp i f).coreCtl = s.coreCtl := rfl
@[simp] theorem State.modQp_at_logins (s : State) (i : Nat) (f : QPair → QPair) : (s.modQp i f).logins = s.logins := rfl
@[simp] theorem State.modQp_at_boot (s : State) (i : Nat) (f : QPair → QPair) : (s.modQp i f).boot = s.boot := rfl
@[simp] theorem State.modQp_at_telemetry (s : State) (i : Nat) (f : QPair → QPair) : (s.modQp i f).telemetry = s.telemetry := rfl
@[simp] theorem State.modQp_at_counts (s : State) (i : Nat) (f : QPair → QPair) : (s.modQp i f).counts = s.counts := rfl
@[simp] theorem State.modQp_at_ports (s : State) (i : Nat) (f : QPair → QPair) : (s.modQp i f).ports = s.ports := rfl
@[simp] theorem State.modQp_at_lpos (s : State) (i : Nat) (f : QPair → QPair) : (s.modQp i f).lpos = s.lpos := rfl
@[simp] theorem State.modQp_at_mail (s : State) (i : Nat) (f : QPair → QPair) : (s.modQp i f).mail = s.mail := rfl
@[simp] theorem State.modQp_at_audit (s : State) (i : Nat) (f : QPair → QPair) : (s.modQp i f).audit = s.audit := rfl
@[simp] theorem State.modQp_at_life (s : State) (i : Nat) (f : QPair → QPair) : (s.modQp i f).life = s.life := rfl
@[simp] theorem State.modQp_at_crypto (s : State) (i : Nat) (f : QPair → QPair) : (s.modQp i f).crypto = s.crypto := rfl
@[simp] theorem State.modQp_at_sram (s : State) (i : Nat) (f : QPair → QPair) : (s.modQp i f).sram = s.sram := rfl
@[simp] theorem State.modQp_at_dictView (s : State) (i : Nat) (f : QPair → QPair) : (s.modQp i f).dictView = s.dictView := rfl
@[simp] theorem State.modQp_at_storeQ (s : State) (i : Nat) (f : QPair → QPair) : (s.modQp i f).storeQ = s.storeQ := rfl
@[simp] theorem State.modQp_at_ring (s : State) (i : Nat) (f : QPair → QPair) : (s.modQp i f).ring = s.ring := rfl
@[simp] theorem State.modQp_at_tray (s : State) (i : Nat) (f : QPair → QPair) : (s.modQp i f).tray = s.tray := rfl
@[simp] theorem State.modQp_at_loops (s : State) (i : Nat) (f : QPair → QPair) : (s.modQp i f).loops = s.loops := rfl
@[simp] theorem State.modQp_at_tap (s : State) (i : Nat) (f : QPair → QPair) : (s.modQp i f).tap = s.tap := rfl
@[simp] theorem State.modQp_at_latches (s : State) (i : Nat) (f : QPair → QPair) : (s.modQp i f).latches = s.latches := rfl
@[simp] theorem State.modQp_at_lastRead (s : State) (i : Nat) (f : QPair → QPair) : (s.modQp i f).lastRead = s.lastRead := rfl
@[simp] theorem State.modQp_at_out (s : State) (i : Nat) (f : QPair → QPair) : (s.modQp i f).out = s.out := rfl
@[simp] theorem State.modQp_at_msix (s : State) (i : Nat) (f : QPair → QPair) : (s.modQp i f).msix = s.msix := rfl
@[simp] theorem State.modQp_at_pba (s : State) (i : Nat) (f : QPair → QPair) : (s.modQp i f).pba = s.pba := rfl
@[simp] theorem State.modQp_at_freeCount (s : State) (i : Nat) (f : QPair → QPair) : (s.modQp i f).freeCount = s.freeCount := rfl
@[simp] theorem State.modQp_at_pending (s : State) (i : Nat) (f : QPair → QPair) : (s.modQp i f).pending = s.pending := rfl

/-! `cset` and `modSet`. -/

@[simp] theorem State.modSet_cset (s : State) (i : Nat) (f : CardSet → CardSet) : (s.modSet i f).cset i = f (s.cset i) := tget_tset_same _ _ _ _

theorem State.modSet_cset_ne (s : State) (i j : Nat) (f : CardSet → CardSet) (h : j ≠ i) : (s.modSet i f).cset j = s.cset j := tget_tset_ne _ _ _ _ _ h

@[simp] theorem State.modSet_modSet (s : State) (i : Nat) (f g : CardSet → CardSet) (h : twf {} s.flow.sets = true) :
    (s.modSet i f).modSet i g = s.modSet i fun x => g (f x) := by
  simp only [State.modSet, State.cset, tget_tset_same, tset_tset _ _ _ _ _ h]

/-- An update is told by what it makes of the entry that stands there. -/
theorem State.modSet_congr {s : State} {i : Nat} {f g : CardSet → CardSet} (h : f (s.cset i) = g (s.cset i)) : s.modSet i f = s.modSet i g := by
  simp only [State.modSet, h]

@[simp] theorem State.modSet_at_now (s : State) (i : Nat) (f : CardSet → CardSet) : (s.modSet i f).now = s.now := rfl
@[simp] theorem State.modSet_at_slots (s : State) (i : Nat) (f : CardSet → CardSet) : (s.modSet i f).slots = s.slots := rfl
@[simp] theorem State.modSet_at_polders (s : State) (i : Nat) (f : CardSet → CardSet) : (s.modSet i f).polders = s.polders := rfl
@[simp] theorem State.modSet_at_timers (s : State) (i : Nat) (f : CardSet → CardSet) : (s.modSet i f).timers = s.timers := rfl
@[simp] theorem State.modSet_at_tide (s : State) (i : Nat) (f : CardSet → CardSet) : (s.modSet i f).tide = s.tide := rfl
@[simp] theorem State.modSet_at_dev (s : State) (i : Nat) (f : CardSet → CardSet) : (s.modSet i f).dev = s.dev := rfl
@[simp] theorem State.modSet_at_mram (s : State) (i : Nat) (f : CardSet → CardSet) : (s.modSet i f).mram = s.mram := rfl
@[simp] theorem State.modSet_at_cores (s : State) (i : Nat) (f : CardSet → CardSet) : (s.modSet i f).cores = s.cores := rfl
@[simp] theorem State.modSet_at_coreCtl (s : State) (i : Nat) (f : CardSet → CardSet) : (s.modSet i f).coreCtl = s.coreCtl := rfl
@[simp] theorem State.modSet_at_logins (s : State) (i : Nat) (f : CardSet → CardSet) : (s.modSet i f).logins = s.logins := rfl
@[simp] theorem State.modSet_at_boot (s : State) (i : Nat) (f : CardSet → CardSet) : (s.modSet i f).boot = s.boot := rfl
@[simp] theorem State.modSet_at_telemetry (s : State) (i : Nat) (f : CardSet → CardSet) : (s.modSet i f).telemetry = s.telemetry := rfl
@[simp] theorem State.modSet_at_counts (s : State) (i : Nat) (f : CardSet → CardSet) : (s.modSet i f).counts = s.counts := rfl
@[simp] theorem State.modSet_at_ports (s : State) (i : Nat) (f : CardSet → CardSet) : (s.modSet i f).ports = s.ports := rfl
@[simp] theorem State.modSet_at_lpos (s : State) (i : Nat) (f : CardSet → CardSet) : (s.modSet i f).lpos = s.lpos := rfl
@[simp] theorem State.modSet_at_mail (s : State) (i : Nat) (f : CardSet → CardSet) : (s.modSet i f).mail = s.mail := rfl
@[simp] theorem State.modSet_at_audit (s : State) (i : Nat) (f : CardSet → CardSet) : (s.modSet i f).audit = s.audit := rfl
@[simp] theorem State.modSet_at_life (s : State) (i : Nat) (f : CardSet → CardSet) : (s.modSet i f).life = s.life := rfl
@[simp] theorem State.modSet_at_crypto (s : State) (i : Nat) (f : CardSet → CardSet) : (s.modSet i f).crypto = s.crypto := rfl
@[simp] theorem State.modSet_at_sram (s : State) (i : Nat) (f : CardSet → CardSet) : (s.modSet i f).sram = s.sram := rfl
@[simp] theorem State.modSet_at_dictView (s : State) (i : Nat) (f : CardSet → CardSet) : (s.modSet i f).dictView = s.dictView := rfl
@[simp] theorem State.modSet_at_storeQ (s : State) (i : Nat) (f : CardSet → CardSet) : (s.modSet i f).storeQ = s.storeQ := rfl
@[simp] theorem State.modSet_at_ring (s : State) (i : Nat) (f : CardSet → CardSet) : (s.modSet i f).ring = s.ring := rfl
@[simp] theorem State.modSet_at_tray (s : State) (i : Nat) (f : CardSet → CardSet) : (s.modSet i f).tray = s.tray := rfl
@[simp] theorem State.modSet_at_loops (s : State) (i : Nat) (f : CardSet → CardSet) : (s.modSet i f).loops = s.loops := rfl
@[simp] theorem State.modSet_at_tap (s : State) (i : Nat) (f : CardSet → CardSet) : (s.modSet i f).tap = s.tap := rfl
@[simp] theorem State.modSet_at_latches (s : State) (i : Nat) (f : CardSet → CardSet) : (s.modSet i f).latches = s.latches := rfl
@[simp] theorem State.modSet_at_lastRead (s : State) (i : Nat) (f : CardSet → CardSet) : (s.modSet i f).lastRead = s.lastRead := rfl
@[simp] theorem State.modSet_at_out (s : State) (i : Nat) (f : CardSet → CardSet) : (s.modSet i f).out = s.out := rfl
@[simp] theorem State.modSet_at_msix (s : State) (i : Nat) (f : CardSet → CardSet) : (s.modSet i f).msix = s.msix := rfl
@[simp] theorem State.modSet_at_pba (s : State) (i : Nat) (f : CardSet → CardSet) : (s.modSet i f).pba = s.pba := rfl
@[simp] theorem State.modSet_at_freeCount (s : State) (i : Nat) (f : CardSet → CardSet) : (s.modSet i f).freeCount = s.freeCount := rfl
@[simp] theorem State.modSet_at_pending (s : State) (i : Nat) (f : CardSet → CardSet) : (s.modSet i f).pending = s.pending := rfl

end Sys2Proof.Machine
end

