-- ==== Sys2Proof/Laws/Time.lean ====
section
/-! SUPPORT. What the passing of time does: the clock stands where it was asked to, and nothing but the clock, the tide, the timers and the cores may have
changed. -/

namespace Sys2Proof.Machine

/-- Time that passes changes the clock, the tide, the timers and the cores, and nothing else. -/
theorem State.elapse_changes (s : State) (d : Nat) : Changes [.now, .timers, .tide, .cores] s (s.elapse d) :=
  (State.elapse_evolves rfl s d (Evolves.refl s)).changes

/-- A part that a change leaves alone is as it was. -/
theorem Changes.at {l : List Part} {s t : State} (h : Changes l s t) {p : Part} (hp : p ∉ l) : s.same t p := (h.2 p).resolve_left hp

theorem State.wakeTimers_now (s : State) : s.wakeTimers.now = s.now :=
  (State.wakeTimers_evolves (ps := [.timers, .cores]) rfl s (Evolves.refl s)).changes.at (p := .now) (by decide)

theorem State.timePass_now (s : State) (k : Nat) : (s.timePass k).now = s.now + k := by
  have h : ∀ (l : List (Nat × Nat)) (u : State), (l.foldl (fun s e => s.tickTimer e.1 e.2) u).now = u.now := fun l u =>
    (foldl_evolves (l := [.timers, .cores]) (fun (s : State) (e : Nat × Nat) => s.tickTimer e.1 e.2) l (Evolves.refl u)
      fun v a => State.tickTimer_evolves rfl v a.1 a.2 (Evolves.refl v)).changes.at (p := .now) (by decide)
  unfold State.timePass
  exact h _ _

theorem State.pass_now (f : Nat) (s : State) (d : Nat) (h : d ≤ f) : (State.pass f s d).now = s.now + d := by
  induction f generalizing s d with
  | zero => simp [State.pass, Nat.le_zero.mp h]
  | succ f ih =>
    unfold State.pass
    split
    · simp_all
    · next hd =>
      have : min d (max 1 (s.wakeTimers.nextStop d)) ≤ d := Nat.min_le_left _ _
      have : 1 ≤ min d (max 1 (s.wakeTimers.nextStop d)) := by omega
      dsimp only
      rw [ih _ _ (by omega), State.timePass_now, State.wakeTimers_now]
      omega

@[simp] theorem State.elapse_now (s : State) (d : Nat) : (s.elapse d).now = s.now + d := State.pass_now d s d (Nat.le_refl d)
@[simp] theorem State.elapseTo_now (s : State) (t : Nat) : (s.elapseTo t).now = max s.now t := by
  simp only [State.elapseTo, State.elapse_now]; omega
@[simp] theorem State.elapseSince_some_now (s : State) (t d : Nat) : (s.elapseSince (some t) d).now = max s.now (t + d) := State.elapseTo_now s (t + d)

theorem State.elapse_zero (s : State) : s.elapse 0 = s := rfl

theorem State.elapse_wf (s : State) (d : Nat) (h : s.wf = true) : (s.elapse d).wf = true :=
  (State.elapse_evolves (ps := [.now, .timers, .tide, .cores]) rfl s d (Evolves.refl s)).wf h

@[simp] theorem State.elapse_slots (s : State) (d : Nat) : (s.elapse d).slots = s.slots := (s.elapse_changes d).at (p := .slots) (by decide)
@[simp] theorem State.elapse_polders (s : State) (d : Nat) : (s.elapse d).polders = s.polders := (s.elapse_changes d).at (p := .polders) (by decide)
@[simp] theorem State.elapse_dev (s : State) (d : Nat) : (s.elapse d).dev = s.dev := (s.elapse_changes d).at (p := .dev) (by decide)
@[simp] theorem State.elapse_flow (s : State) (d : Nat) : (s.elapse d).flow = s.flow := (s.elapse_changes d).at (p := .flow) (by decide)
@[simp] theorem State.elapse_mram (s : State) (d : Nat) : (s.elapse d).mram = s.mram := (s.elapse_changes d).at (p := .mram) (by decide)
@[simp] theorem State.elapse_coreCtl (s : State) (d : Nat) : (s.elapse d).coreCtl = s.coreCtl := (s.elapse_changes d).at (p := .coreCtl) (by decide)
@[simp] theorem State.elapse_logins (s : State) (d : Nat) : (s.elapse d).logins = s.logins := (s.elapse_changes d).at (p := .logins) (by decide)
@[simp] theorem State.elapse_boot (s : State) (d : Nat) : (s.elapse d).boot = s.boot := (s.elapse_changes d).at (p := .boot) (by decide)
@[simp] theorem State.elapse_telemetry (s : State) (d : Nat) : (s.elapse d).telemetry = s.telemetry := (s.elapse_changes d).at (p := .telemetry) (by decide)
@[simp] theorem State.elapse_counts (s : State) (d : Nat) : (s.elapse d).counts = s.counts := (s.elapse_changes d).at (p := .counts) (by decide)
@[simp] theorem State.elapse_ports (s : State) (d : Nat) : (s.elapse d).ports = s.ports := (s.elapse_changes d).at (p := .ports) (by decide)
@[simp] theorem State.elapse_lpos (s : State) (d : Nat) : (s.elapse d).lpos = s.lpos := (s.elapse_changes d).at (p := .lpos) (by decide)
@[simp] theorem State.elapse_mail (s : State) (d : Nat) : (s.elapse d).mail = s.mail := (s.elapse_changes d).at (p := .mail) (by decide)
@[simp] theorem State.elapse_audit (s : State) (d : Nat) : (s.elapse d).audit = s.audit := (s.elapse_changes d).at (p := .audit) (by decide)
@[simp] theorem State.elapse_life (s : State) (d : Nat) : (s.elapse d).life = s.life := (s.elapse_changes d).at (p := .life) (by decide)
@[simp] theorem State.elapse_crypto (s : State) (d : Nat) : (s.elapse d).crypto = s.crypto := (s.elapse_changes d).at (p := .crypto) (by decide)
@[simp] theorem State.elapse_sram (s : State) (d : Nat) : (s.elapse d).sram = s.sram := (s.elapse_changes d).at (p := .sram) (by decide)
@[simp] theorem State.elapse_dictView (s : State) (d : Nat) : (s.elapse d).dictView = s.dictView := (s.elapse_changes d).at (p := .dictView) (by decide)
@[simp] theorem State.elapse_storeQ (s : State) (d : Nat) : (s.elapse d).storeQ = s.storeQ := (s.elapse_changes d).at (p := .storeQ) (by decide)
@[simp] theorem State.elapse_ring (s : State) (d : Nat) : (s.elapse d).ring = s.ring := (s.elapse_changes d).at (p := .ring) (by decide)
@[simp] theorem State.elapse_tray (s : State) (d : Nat) : (s.elapse d).tray = s.tray := (s.elapse_changes d).at (p := .tray) (by decide)
@[simp] theorem State.elapse_loops (s : State) (d : Nat) : (s.elapse d).loops = s.loops := (s.elapse_changes d).at (p := .loops) (by decide)
@[simp] theorem State.elapse_tap (s : State) (d : Nat) : (s.elapse d).tap = s.tap := (s.elapse_changes d).at (p := .tap) (by decide)
@[simp] theorem State.elapse_latches (s : State) (d : Nat) : (s.elapse d).latches = s.latches := (s.elapse_changes d).at (p := .latches) (by decide)
@[simp] theorem State.elapse_lastRead (s : State) (d : Nat) : (s.elapse d).lastRead = s.lastRead := (s.elapse_changes d).at (p := .lastRead) (by decide)
@[simp] theorem State.elapse_out (s : State) (d : Nat) : (s.elapse d).out = s.out := (s.elapse_changes d).at (p := .out) (by decide)
@[simp] theorem State.elapse_msix (s : State) (d : Nat) : (s.elapse d).msix = s.msix := (s.elapse_changes d).at (p := .msix) (by decide)
@[simp] theorem State.elapse_pba (s : State) (d : Nat) : (s.elapse d).pba = s.pba := (s.elapse_changes d).at (p := .pba) (by decide)
@[simp] theorem State.elapse_freeCount (s : State) (d : Nat) : (s.elapse d).freeCount = s.freeCount := (s.elapse_changes d).at (p := .freeCount) (by decide)
@[simp] theorem State.elapse_pending (s : State) (d : Nat) : (s.elapse d).pending = s.pending := (s.elapse_changes d).1

/-! The same of the forms that name a moment. -/

@[simp] theorem State.elapseTo_slots (s : State) (t : Nat) : (s.elapseTo t).slots = s.slots := s.elapse_slots _
@[simp] theorem State.elapseTo_polders (s : State) (t : Nat) : (s.elapseTo t).polders = s.polders := s.elapse_polders _
@[simp] theorem State.elapseTo_dev (s : State) (t : Nat) : (s.elapseTo t).dev = s.dev := s.elapse_dev _
@[simp] theorem State.elapseTo_flow (s : State) (t : Nat) : (s.elapseTo t).flow = s.flow := s.elapse_flow _
@[simp] theorem State.elapseTo_mram (s : State) (t : Nat) : (s.elapseTo t).mram = s.mram := s.elapse_mram _
@[simp] theorem State.elapseTo_coreCtl (s : State) (t : Nat) : (s.elapseTo t).coreCtl = s.coreCtl := s.elapse_coreCtl _
@[simp] theorem State.elapseTo_logins (s : State) (t : Nat) : (s.elapseTo t).logins = s.logins := s.elapse_logins _
@[simp] theorem State.elapseTo_boot (s : State) (t : Nat) : (s.elapseTo t).boot = s.boot := s.elapse_boot _
@[simp] theorem State.elapseTo_telemetry (s : State) (t : Nat) : (s.elapseTo t).telemetry = s.telemetry := s.elapse_telemetry _
@[simp] theorem State.elapseTo_counts (s : State) (t : Nat) : (s.elapseTo t).counts = s.counts := s.elapse_counts _
@[simp] theorem State.elapseTo_ports (s : State) (t : Nat) : (s.elapseTo t).ports = s.ports := s.elapse_ports _
@[simp] theorem State.elapseTo_lpos (s : State) (t : Nat) : (s.elapseTo t).lpos = s.lpos := s.elapse_lpos _
@[simp] theorem State.elapseTo_mail (s : State) (t : Nat) : (s.elapseTo t).mail = s.mail := s.elapse_mail _
@[simp] theorem State.elapseTo_audit (s : State) (t : Nat) : (s.elapseTo t).audit = s.audit := s.elapse_audit _
@[simp] theorem State.elapseTo_life (s : State) (t : Nat) : (s.elapseTo t).life = s.life := s.elapse_life _
@[simp] theorem State.elapseTo_crypto (s : State) (t : Nat) : (s.elapseTo t).crypto = s.crypto := s.elapse_crypto _
@[simp] theorem State.elapseTo_sram (s : State) (t : Nat) : (s.elapseTo t).sram = s.sram := s.elapse_sram _
@[simp] theorem State.elapseTo_dictView (s : State) (t : Nat) : (s.elapseTo t).dictView = s.dictView := s.elapse_dictView _
@[simp] theorem State.elapseTo_storeQ (s : State) (t : Nat) : (s.elapseTo t).storeQ = s.storeQ := s.elapse_storeQ _
@[simp] theorem State.elapseTo_ring (s : State) (t : Nat) : (s.elapseTo t).ring = s.ring := s.elapse_ring _
@[simp] theorem State.elapseTo_tray (s : State) (t : Nat) : (s.elapseTo t).tray = s.tray := s.elapse_tray _
@[simp] theorem State.elapseTo_loops (s : State) (t : Nat) : (s.elapseTo t).loops = s.loops := s.elapse_loops _
@[simp] theorem State.elapseTo_tap (s : State) (t : Nat) : (s.elapseTo t).tap = s.tap := s.elapse_tap _
@[simp] theorem State.elapseTo_latches (s : State) (t : Nat) : (s.elapseTo t).latches = s.latches := s.elapse_latches _
@[simp] theorem State.elapseTo_lastRead (s : State) (t : Nat) : (s.elapseTo t).lastRead = s.lastRead := s.elapse_lastRead _
@[simp] theorem State.elapseTo_out (s : State) (t : Nat) : (s.elapseTo t).out = s.out := s.elapse_out _
@[simp] theorem State.elapseTo_msix (s : State) (t : Nat) : (s.elapseTo t).msix = s.msix := s.elapse_msix _
@[simp] theorem State.elapseTo_pba (s : State) (t : Nat) : (s.elapseTo t).pba = s.pba := s.elapse_pba _
@[simp] theorem State.elapseTo_freeCount (s : State) (t : Nat) : (s.elapseTo t).freeCount = s.freeCount := s.elapse_freeCount _
@[simp] theorem State.elapseTo_pending (s : State) (t : Nat) : (s.elapseTo t).pending = s.pending := s.elapse_pending _
@[simp] theorem State.elapseSince_slots (s : State) (o : Option Nat) (d : Nat) : (s.elapseSince o d).slots = s.slots := by
  cases o <;> simp [State.elapseSince]
@[simp] theorem State.elapseSince_polders (s : State) (o : Option Nat) (d : Nat) : (s.elapseSince o d).polders = s.polders := by
  cases o <;> simp [State.elapseSince]
@[simp] theorem State.elapseSince_dev (s : State) (o : Option Nat) (d : Nat) : (s.elapseSince o d).dev = s.dev := by
  cases o <;> simp [State.elapseSince]
@[simp] theorem State.elapseSince_flow (s : State) (o : Option Nat) (d : Nat) : (s.elapseSince o d).flow = s.flow := by
  cases o <;> simp [State.elapseSince]
@[simp] theorem State.elapseSince_mram (s : State) (o : Option Nat) (d : Nat) : (s.elapseSince o d).mram = s.mram := by
  cases o <;> simp [State.elapseSince]
@[simp] theorem State.elapseSince_coreCtl (s : State) (o : Option Nat) (d : Nat) : (s.elapseSince o d).coreCtl = s.coreCtl := by
  cases o <;> simp [State.elapseSince]
@[simp] theorem State.elapseSince_logins (s : State) (o : Option Nat) (d : Nat) : (s.elapseSince o d).logins = s.logins := by
  cases o <;> simp [State.elapseSince]
@[simp] theorem State.elapseSince_boot (s : State) (o : Option Nat) (d : Nat) : (s.elapseSince o d).boot = s.boot := by
  cases o <;> simp [State.elapseSince]
@[simp] theorem State.elapseSince_telemetry (s : State) (o : Option Nat) (d : Nat) : (s.elapseSince o d).telemetry = s.telemetry := by
  cases o <;> simp [State.elapseSince]
@[simp] theorem State.elapseSince_counts (s : State) (o : Option Nat) (d : Nat) : (s.elapseSince o d).counts = s.counts := by
  cases o <;> simp [State.elapseSince]
@[simp] theorem State.elapseSince_ports (s : State) (o : Option Nat) (d : Nat) : (s.elapseSince o d).ports = s.ports := by
  cases o <;> simp [State.elapseSince]
@[simp] theorem State.elapseSince_lpos (s : State) (o : Option Nat) (d : Nat) : (s.elapseSince o d).lpos = s.lpos := by
  cases o <;> simp [State.elapseSince]
@[simp] theorem State.elapseSince_mail (s : State) (o : Option Nat) (d : Nat) : (s.elapseSince o d).mail = s.mail := by
  cases o <;> simp [State.elapseSince]
@[simp] theorem State.elapseSince_audit (s : State) (o : Option Nat) (d : Nat) : (s.elapseSince o d).audit = s.audit := by
  cases o <;> simp [State.elapseSince]
@[simp] theorem State.elapseSince_life (s : State) (o : Option Nat) (d : Nat) : (s.elapseSince o d).life = s.life := by
  cases o <;> simp [State.elapseSince]
@[simp] theorem State.elapseSince_crypto (s : State) (o : Option Nat) (d : Nat) : (s.elapseSince o d).crypto = s.crypto := by
  cases o <;> simp [State.elapseSince]
@[simp] theorem State.elapseSince_sram (s : State) (o : Option Nat) (d : Nat) : (s.elapseSince o d).sram = s.sram := by
  cases o <;> simp [State.elapseSince]
@[simp] theorem State.elapseSince_dictView (s : State) (o : Option Nat) (d : Nat) : (s.elapseSince o d).dictView = s.dictView := by
  cases o <;> simp [State.elapseSince]
@[simp] theorem State.elapseSince_storeQ (s : State) (o : Option Nat) (d : Nat) : (s.elapseSince o d).storeQ = s.storeQ := by
  cases o <;> simp [State.elapseSince]
@[simp] theorem State.elapseSince_ring (s : State) (o : Option Nat) (d : Nat) : (s.elapseSince o d).ring = s.ring := by
  cases o <;> simp [State.elapseSince]
@[simp] theorem State.elapseSince_tray (s : State) (o : Option Nat) (d : Nat) : (s.elapseSince o d).tray = s.tray := by
  cases o <;> simp [State.elapseSince]
@[simp] theorem State.elapseSince_loops (s : State) (o : Option Nat) (d : Nat) : (s.elapseSince o d).loops = s.loops := by
  cases o <;> simp [State.elapseSince]
@[simp] theorem State.elapseSince_tap (s : State) (o : Option Nat) (d : Nat) : (s.elapseSince o d).tap = s.tap := by
  cases o <;> simp [State.elapseSince]
@[simp] theorem State.elapseSince_latches (s : State) (o : Option Nat) (d : Nat) : (s.elapseSince o d).latches = s.latches := by
  cases o <;> simp [State.elapseSince]
@[simp] theorem State.elapseSince_lastRead (s : State) (o : Option Nat) (d : Nat) : (s.elapseSince o d).lastRead = s.lastRead := by
  cases o <;> simp [State.elapseSince]
@[simp] theorem State.elapseSince_out (s : State) (o : Option Nat) (d : Nat) : (s.elapseSince o d).out = s.out := by
  cases o <;> simp [State.elapseSince]
@[simp] theorem State.elapseSince_msix (s : State) (o : Option Nat) (d : Nat) : (s.elapseSince o d).msix = s.msix := by
  cases o <;> simp [State.elapseSince]
@[simp] theorem State.elapseSince_pba (s : State) (o : Option Nat) (d : Nat) : (s.elapseSince o d).pba = s.pba := by
  cases o <;> simp [State.elapseSince]
@[simp] theorem State.elapseSince_freeCount (s : State) (o : Option Nat) (d : Nat) : (s.elapseSince o d).freeCount = s.freeCount := by
  cases o <;> simp [State.elapseSince]
@[simp] theorem State.elapseSince_pending (s : State) (o : Option Nat) (d : Nat) : (s.elapseSince o d).pending = s.pending := by
  cases o <;> simp [State.elapseSince]

@[simp] theorem State.elapse_at_slot (s : State) (d i : Nat) : (s.elapse d).slot i = s.slot i := by simp only [State.slot, State.elapse_slots]
@[simp] theorem State.elapseTo_at_slot (s : State) (t i : Nat) : (s.elapseTo t).slot i = s.slot i := by simp only [State.slot, State.elapseTo_slots]
@[simp] theorem State.elapse_at_polder (s : State) (d i : Nat) : (s.elapse d).polder i = s.polder i := by simp only [State.polder, State.elapse_polders]
@[simp] theorem State.elapseTo_at_polder (s : State) (t i : Nat) : (s.elapseTo t).polder i = s.polder i := by simp only [State.polder, State.elapseTo_polders]
@[simp] theorem State.elapse_at_qp (s : State) (d i : Nat) : (s.elapse d).qp i = s.qp i := by simp only [State.qp, State.elapse_flow]
@[simp] theorem State.elapseTo_at_qp (s : State) (t i : Nat) : (s.elapseTo t).qp i = s.qp i := by simp only [State.qp, State.elapseTo_flow]
@[simp] theorem State.elapse_at_txn (s : State) (d i : Nat) : (s.elapse d).txn i = s.txn i := by simp only [State.txn, State.elapse_flow]
@[simp] theorem State.elapseTo_at_txn (s : State) (t i : Nat) : (s.elapseTo t).txn i = s.txn i := by simp only [State.txn, State.elapseTo_flow]
@[simp] theorem State.elapse_at_session (s : State) (d i : Nat) : (s.elapse d).session i = s.session i := by simp only [State.session, State.elapse_flow]
@[simp] theorem State.elapseTo_at_session (s : State) (t i : Nat) : (s.elapseTo t).session i = s.session i := by simp only [State.session, State.elapseTo_flow]
@[simp] theorem State.elapse_at_cset (s : State) (d i : Nat) : (s.elapse d).cset i = s.cset i := by simp only [State.cset, State.elapse_flow]
@[simp] theorem State.elapseTo_at_cset (s : State) (t i : Nat) : (s.elapseTo t).cset i = s.cset i := by simp only [State.cset, State.elapseTo_flow]
@[simp] theorem State.elapse_at_port (s : State) (d i : Nat) : (s.elapse d).port i = s.port i := by simp only [State.port, State.elapse_ports]
@[simp] theorem State.elapseTo_at_port (s : State) (t i : Nat) : (s.elapseTo t).port i = s.port i := by simp only [State.port, State.elapseTo_ports]
@[simp] theorem State.elapse_at_lp (s : State) (d i : Nat) : (s.elapse d).lp i = s.lp i := by simp only [State.lp, State.elapse_lpos]
@[simp] theorem State.elapseTo_at_lp (s : State) (t i : Nat) : (s.elapseTo t).lp i = s.lp i := by simp only [State.lp, State.elapseTo_lpos]

end Sys2Proof.Machine
end

