-- ==== Sys2Proof/Machine/Pins.lean ====
section
/-! DEFINITION. The ball map of the package (18 R450 to R452). It is fixed: no command changes it and no field of State depends on it. -/

namespace Sys2Proof.Machine

/-- A ball by its row and column, both from 1 (18 R450). -/
structure Ball where
  row : Nat
  col : Nat
  deriving DecidableEq, Repr

/-- The names of rows 1 to 34 (18 R450). -/
def rowNames : List String :=
  ["A", "B", "C", "D", "E", "F", "G", "H", "J", "K", "L", "M", "N", "P", "T", "U", "V", "W", "Y"] ++
  ["AA", "AB", "AC", "AD", "AE", "AF", "AG", "AH", "AJ", "AK", "AL", "AM", "AN", "AP", "AT"]

/-- The ball of a row's name and a column. -/
def ballAt (row : String) (col : Nat) : Ball := { row := rowNames.idxOf row + 1, col := col }

/-- The contacts of a slot, in the order of their positions (18 R451). -/
inductive Contact where
  | vcc | rst | clk | io | pres
  deriving DecidableEq, Repr

/-- The contacts in that order. -/
def contacts : List Contact := [.vcc, .rst, .clk, .io, .pres]

/-- The ball of slice i of polder p at a depth (18 Table 18-2). -/
def sliceBall (p i depth : Nat) : Ball :=
  match p with
  | 0 => { row := 1 + depth, col := 1 + i }
  | 1 => { row := 1 + depth, col := 16 + i }
  | 2 => { row := 1 + i, col := 34 - depth }
  | 3 => { row := 16 + i, col := 34 - depth }
  | 4 => { row := 34 - depth, col := 34 - i }
  | 5 => { row := 34 - depth, col := 19 - i }
  | 6 => { row := 34 - i, col := 1 + depth }
  | _ => { row := 19 - i, col := 1 + depth }

/-- The ball of a contact of slot s (18 R451). -/
def contactBall (s : Nat) (c : Contact) : Ball :=
  let k := 5 * (s % 8) + 1 + contacts.idxOf c
  sliceBall (s / 8) (k / 3) (k % 3)

/-- What a ball carries. A signal of a group is named by its place in the group's list. -/
inductive BallUse where
  | contact (s : Nat) (c : Contact)
  | vcardh (p : Nat)
  | vcardl (p : Nat)
  | ledger (p n : Nat)
  | host (path n : Nat)
  | ring (n : Nat)
  | system (n : Nat)
  | vcore | vio | vdda | reserved | vss
  deriving DecidableEq, Repr

/-- The signals of a ledger port in the order of 18 Table 18-3. -/
def ledgerPins : List String :=
  ["CLK", "CMD", "DAT0", "DAT1", "DAT2", "DAT3", "DAT4", "DAT5", "DAT6", "DAT7", "PRES0", "PRES1", "PRES2", "PRES3"]

/-- The signals of a host path. -/
def hostPins : List String := ["TXP", "TXN", "RXP", "RXN", "REFP", "REFN", "PERST_N", "PHY_CAL"]

/-- The signals of the ring. -/
def ringPins : List String := ["RING_IN_P", "RING_IN_N", "RING_OUT_P", "RING_OUT_N", "SLUICE_HOLD", "TIDE_MARK", "RINGMASTER"]

/-- The system, flash and test signals. -/
def systemPins : List String :=
  ["REFCLK", "SLOW_XI", "SLOW_XO", "SLOW_SEL", "SYSRST_N", "TEST_EN", "VREF_CAP", "TRAY_TXD", "TRAY_RXD", "QSPI_CLK", "QSPI_CS_N"] ++
  ["QSPI_IO0", "QSPI_IO1", "QSPI_IO2", "QSPI_IO3", "TCK", "TMS", "TDI", "TDO", "TRST_N"]

/-- The use of slice i of polder p at a depth (18 R451). -/
def bandUse (p i depth : Nat) : BallUse :=
  let k := 3 * i + depth
  if depth = 3 then (if 12 ≤ i then .vss else if i % 3 = 1 then .vcardh p else if i % 3 = 2 then .vcardl p else .vss)
  else if k = 0 || 41 ≤ k then .vss
  else .contact (8 * p + (k - 1) / 5) (contacts.getD ((k - 1) % 5) .pres)

/-- The polder, slice and depth of a ball of the band, polders clockwise from A1 (18 Table 18-2). -/
def bandPlace (b : Ball) : Option (Nat × Nat × Nat) :=
  if b.row ≤ 4 && b.col ≤ 30 then some (if b.col ≤ 15 then (0, b.col - 1, b.row - 1) else (1, b.col - 16, b.row - 1))
  else if 31 ≤ b.col && b.row ≤ 30 then some (if b.row ≤ 15 then (2, b.row - 1, 34 - b.col) else (3, b.row - 16, 34 - b.col))
  else if 31 ≤ b.row && 5 ≤ b.col then some (if 20 ≤ b.col then (4, 34 - b.col, 34 - b.row) else (5, 19 - b.col, 34 - b.row))
  else if b.col ≤ 4 && 5 ≤ b.row then some (if 20 ≤ b.row then (6, 34 - b.row, b.col - 1) else (7, 19 - b.row, b.col - 1))
  else none

/-- The two columns of rows r, r + 2 and r + 4 carry three pairs: the number of the signal (18 Table 18-3). -/
def pairPin (r c : Nat) (b : Ball) : Option Nat :=
  if (b.row = r || b.row = r + 2 || b.row = r + 4) && (b.col = c || b.col = c + 1) then some (b.row - r + (b.col - c)) else none

/-- The use of a ball of the inner field (18 R452, Table 18-3). -/
def innerUse (b : Ball) : BallUse :=
  let p := (b.col - 5) / 6
  let n := (b.col - 5) % 6
  if b.row = 5 && b.col ≤ 28 then .ledger p n
  else if b.row = 6 && b.col ≤ 28 then .ledger p (6 + n)
  else if b.row = 7 && b.col ≤ 28 && n < 2 then .ledger p (12 + n)
  else if b.row = 8 && b.col ≤ 28 then .vio
  else if (pairPin 9 29 b).isSome then .host 0 ((pairPin 9 29 b).getD 0)
  else if b.row = 14 && 29 ≤ b.col then .host 0 (b.col - 23)
  else if (pairPin 16 29 b).isSome then .host 1 ((pairPin 16 29 b).getD 0)
  else if b.row = 21 && 29 ≤ b.col then .host 1 (b.col - 23)
  else if (b.row = 9 || b.row = 11) && b.col ≤ 6 then .ring (b.row - 9 + (b.col - 5))
  else if b.row = 13 && b.col ≤ 6 then .ring (b.col - 1)
  else if b.row = 14 && b.col = 5 then .ring 6
  else if 12 ≤ b.row && b.row ≤ 16 && 12 ≤ b.col && b.col ≤ 23 then .vcore
  else if b.row = 28 && b.col ≤ 28 then .reserved
  else if b.row = 29 && b.col ≤ 24 then .vdda
  else if b.row = 30 && b.col ≤ 24 then .system (b.col - 5)
  else .vss

/-- The use of a ball (18 R450 to R452). -/
def ballUse (b : Ball) : BallUse := match bandPlace b with | some (p, i, d) => bandUse p i d | none => innerUse b

end Sys2Proof.Machine
end

