-- ==== Sys2Proof/WellFormed.lean ====
section
/-! DEFINITION. Which commands are well formed: operands of the lengths and sizes that the spec gives what they stand for. -/

namespace Sys2Proof

/-- A submission entry has 16 words (07 R198). -/
def FetchRead.wellFormed : FetchRead → Bool
  | .entry dws => dws.length = 16
  | .error _ => true

/-- The lists and the command that stage 4 reads are within the limits of a transfer (07 R198, R203). -/
def GatherRead.wellFormed (g : GatherRead) : Bool :=
  (match g.cmdList with | some l => l.length ≤ 255 | none => true) &&
  (match g.respList with | some l => l.length ≤ 255 | none => true)

/-- A ring frame (13 Table 13-2): at most 260 payload bytes, and a MAC of 8 bytes with AUTH. -/
def Frame.wellFormed (f : Frame) : Bool :=
  f.payload.length ≤ 260 && f.hops < 256 && (if f.flags.getLsbD 0 then f.mac.length = 8 else f.mac.length = 0)

/-- The answer of a tray controller brings four bytes (14 R381). -/
def TrayAnswer.wellFormed (a : TrayAnswer) : Bool := a.bytes.length ≤ 4

/-- Whether a command is well formed. The commands not named have operands that every value of their types serves. -/
def Instr.wellFormed : Instr → Bool
  | .sqFetch _ r => r.wellFormed
  | .cmdGather _ r => r.wellFormed
  | .imageCheck h _ _ => h.length = 512
  | .identification _ found _ => found.length ≤ 5
  | .removalCleanup _ answers strays => answers.length ≤ 4 && strays.length ≤ 16
  | .temperWindowEnd _ (.duty highs) => highs.length = 64
  | .ledgerBlock _ d _ => d.length = 512
  | .tide f _ _ => f.wellFormed
  | .enum f => f.wellFormed
  | .measure f => f.wellFormed
  | .dictReq f => f.wellFormed
  | .dictRsp f => f.wellFormed
  | .sched f => f.wellFormed
  | .schedAck f => f.wellFormed
  | .trayCycle answers => answers.length ≤ 8 && answers.all (·.wellFormed)
  | _ => true

end Sys2Proof
end

