-- ==== Sys2Proof/Tests/Slice0.lean ====
section
/-! SUPPORT. The model's own tests: ill-formed commands are refused, and each statement has states and operands that meet its hypotheses, on which the
command does what the spec says. -/

namespace Sys2Proof.Tests
open Sys2Proof.Machine
set_option Elab.async false

/-- The hypotheses hold, and the command completes in a state of which p holds. -/
def meets (hyps : List Bool) (c : Instr) (s : State) (p : State → Bool) : Bool :=
  hyps.all id && match exec c s with | .next t => p t | _ => false

/-- The device with its slot logic released. -/
def live : State := { State.reset with boot := {} }

/-- The device with slot i as given. -/
def at_ (i : Nat) (x : Slot) : State := live.setSlot i x

/-- Slot 63 as x meets h, and command c of it leaves it so that p holds; the state is canonical and every other slot as it was. -/
def slotDoes (x : Slot) (h : Slot → Bool) (c : Fin 64 → Instr) (p : Slot → Bool) : Bool :=
  meets [(at_ 63 x).wf, h ((at_ 63 x).slot 63)] (c 63) (at_ 63 x) fun t => p (t.slot 63) && t.slot 62 = live.slot 62 && t.wf

/-- A slot in service, powered with CLK running. -/
def inUse (st : SlotState) : Slot := { st := st, seq := { vcc := .on, rst := true, clkRun := true, ioUp := true, cls := some .b, settled := true } }

/-- A device at start-sequence step n. -/
def starting (n : Nat) : State := { State.reset with boot := { zero := true, step := n } }

/-- A device with its event ring enabled on path A, link up. -/
def ringOn (s : State) : State := { s with dev := { s.dev with evrCfg := 0x8000000F#32, linkA := true } }

/-- A submission entry with the words named, the others 0. -/
def entryOf (l : List (Nat × Word)) : List Word := (List.range 16).map fun i => (l.lookup i).getD 0#32

/-- A CARD_CMD of role operator, with tag 7, session 64, a command of 5 bytes and room for 258 of response. -/
def cardTxn : Txn := { qp := 1, dws := entryOf [(0, 1#32), (1, 7#32), (2, 64#32), (8, 5#32), (12, 258#32)], role := 1 }

/-- The device with transaction 5 as x. -/
def withTxn (s : State) (x : Txn) : State := s.setTxn 5 (some x)

/-- A device with a READY slot 63 and card set 0 of slots 0, 8 and 16, all MEMBER. -/
def setOf (pos : List Pos) (c : CardSet) : State :=
  ((((live.setSlot 63 (inUse .ready)).setSlot 0 (inUse .ready)).setSlot 8 (inUse .ready)).setSlot 16 (inUse .ready)).modSet 0 fun _ =>
    { c with mapLo := 0x00908880#32, enabled := true, pos := pos, shown := 1 }

/-- All three positions are MEMBER. -/
def three : List Pos := [.member, .member, .member, .unused, .unused, .unused]

/-- A transaction at stage 6 for slot 63 with command 00 A4 04 00 00. -/
def intentTxn : Txn := { cardTxn with stage := .intent, target := .slot 63, slots := [63], cmd := [0#8, 0xA4#8, 4#8, 0#8, 0#8] }

/-- A device whose polder 7 is q, with a powered class-B slot in it. -/
def withPolder (q : Polder) : State := (at_ 56 (inUse .ready)).modPolder 7 fun _ => q

/-- The outcome of transaction 5 has a status. -/
def statusIs (n : Nat) (t : State) : Bool := ((t.txn 5).bind (·.outDone)).any fun o => o.status = n

/-- A device whose transaction 5 is in exchange with slot 63 as x. -/
def exchanging (x : Slot) : State := (at_ 63 x).setTxn 5 (some { qp := 1, dws := List.replicate 16 0#32, stage := .exch, target := .slot 63, slots := [63] })

/-- A device as s with a ring key, and firmware that runs. -/
def keyed (s : State) : State :=
  (({ s with boot := { step := 7, loaded := true } } : State).setSecret 0xFE { typ := 1, key := List.replicate 32 0#8 }).modCore 0 fun c => { c with run := .run }

/-- Obligations.DeviceResets and ResetReleases. -/
theorem test_device_resets :
    meets [(at_ 63 { st := .ready, seq := { vcc := .on, rst := true, clkRun := true } }).wf] (.powerFail .vcore true)
      (at_ 63 { st := .ready, seq := { vcc := .on, rst := true, clkRun := true } })
      (fun t => (t.slot 63).st = .quenching && !(t.slot 63).seq.rst && t.boot.sources = [.power] && t.boot.cause = 1) = true ∧
    meets [State.reset.wf] .pinReset State.reset (fun t => t.boot.sources = [.pin, .power] && t.boot.cause = 1) = true ∧
    meets [] .softwareReset (live.modLife fun l => { l with resetDue := some 3 }) (fun t => t.boot.cause = 3 && t.boot.sources = []) = true ∧
    meets [] .lifecycleReset (live.modLife fun l => { l with resetDue := some 4 }) (fun t => t.boot.cause = 4) = true ∧
    meets [] .devReset (live.modLife fun l => { l with debugOpen := true }) (fun t => t.boot.cause = 5 && t.tap.ir = 0x11#8) = true := by
  decide +kernel

/-- Obligations.StepRunsTheFrontCommand, StepsKeepInvariants, StepsCompleteAndKeepHistory and SlotsAreIndependent: a step from reset with POWER_RELEASE in
front, one with nothing in front, and a command of slot 5. -/
theorem test_step :
    (match step { State.reset with pending := [.powerRelease, .startZero] } with | .next t => t.pending = [.startZero] && t.now = 480000 && t.wf && t.bounded | _ => false) = true ∧
    (match step State.reset with | .next t => t.now = 30 && t.ltide = 1#64 && t.pending = [] && t.wf && t.bounded | _ => false) = true ∧
    (State.reset.withFetchWord 0 0).pending = [] ∧ slotOfCommand (.park .fw 63 0x10#32) = some 63 ∧
    meets [live.wf] (.park .fw 63 0x10#32) live (fun t => (t.slot 63).st = .parked && t.slot 62 = live.slot 62) = true := by
  decide +kernel

/-- Obligations.ResetReleases: each release where its condition holds. -/
theorem test_reset_releases :
    meets [State.reset.boot.sources.contains .power] .powerRelease State.reset (fun t => t.boot.sources = [] && t.now = 480000) = true ∧
    meets [] .sysrstRelease { State.reset with boot := { sources := [.pin, .power] } } (fun t => t.boot.sources = [.power]) = true ∧
    meets [] .slotLogicRelease { State.reset with boot := { slotHeld := true } } (fun t => !t.boot.slotHeld) = true ∧
    meets [] .startZero live (fun t => t.boot.zero) = true ∧
    meets [] .corePllLock { live with boot := { zero := true }, tide := { val := 9#64 } } (fun t => t.boot.step = 1 && t.ltide = 0#64) = true := by
  decide +kernel

/-- An outcome record of queue pair 3. -/
def aRecord (seq : Nat) : JRec := { seq := seq, outcome := true, tag := 7#32, qp := 3, opcode := 1, flags := 0, session := 0#32, tide := 0#64, slots := 1#64, target := 0#32 }

/-- Obligations.StartReadsMemory. -/
theorem test_start_reads_memory :
    meets [!(starting 1).boot.halted] (.memoryWipe true) { starting 1 with sram := [(4, 1#8)] } (fun t => t.boot.step = 2 && t.sram = []) = true ∧
    meets [(starting 2).lifeRec.wiping = none] .lifecycleRecordRead (starting 2) (fun t => t.boot.step = 4 && t.lifeState = .blank) = true ∧
    meets [((starting 3).writeLife { wiping := some .retired, state := .service }).lifeRec.wiping = some .retired] (.mramWipeDone true 5#32)
      ((starting 3).writeLife { wiping := some .retired, state := .service })
      (fun t => t.boot.step = 4 && t.lifeState = .retired && t.life.from_ = some .service && t.life.wipeUs = 5#32) = true ∧
    meets [(starting 4).dev.recovery = 0] .journalScan (starting 4) (fun t => t.dev.recovery = 1 && t.boot.step = 5 && t.flow.jNext = 1) = true ∧
    meets [(ringOn (starting 5)).evrReady] .recoveryPosting ((ringOn (starting 5)).modDev fun d => { d with recovery := 1 })
      (fun t => t.dev.recovery = 3 && t.dev.evrTail = 1) = true ∧
    (let s : State := { (ringOn (starting 5)).modDev (fun d => { d with recovery := 1, recList := [9] }) with mram := { journal := [(0, some (aRecord 9))] } }
     meets [s.evrReady, s.toPost = [aRecord 9]] .recoveryPosting s (fun t => t.dev.recovery = 2 && t.dev.recList = [] && t.dev.recPosted = 1)) = true := by
  decide +kernel

set_option maxRecDepth 20000 in
/-- Obligations.StartRunsFirmware, but for IMAGE_CHECK. -/
theorem test_start_runs_firmware :
    (let s := ({ starting 6 with life := { booted := true } } : State).modCore 0 fun c => { c with run := .run }
     meets [s.life.booted, !s.serving, s.coreRuns 0] .startEntry s (fun t => t.boot.step = 7 && t.life.from_ = none)) = true ∧
    (let s := (starting 7).modCore 0 fun c => { c with run := .run }
     s.serving && !s.boot.loaded && s.coreRuns 0) = true ∧
    meets [] .countPersist { live with now := 5, telemetry := [(1, 4)], life := { countsAt := some 0 } }
      (fun t => t.mram.telemetry = [(1, 4)] && t.now = 48000000 && t.life.countsAt = some 48000000) = true ∧
    meets [] (.debugOpened true 8#32) { live with life := { opening := some true } }
      (fun t => t.life.debugOpen && t.life.opening = none && t.life.wipeUs = 8#32) = true := by
  decide +kernel

/-- An image of one word, with its header: magic, version 1, length 4, entry 0, and the digest of the payload. -/
def imageHeader : List Byte :=
  leBytes 0x4C455256 4 ++ [1#8, 0#8, 0#8, 0#8] ++ leBytes 3 4 ++ leBytes 4 4 ++ List.replicate 120 0#8 ++
    beBytes (Config.sha384 [0#8, 0#8, 0#8, 0#8]).toNat 48 ++ List.replicate 328 0#8

set_option maxRecDepth 20000 in
/-- Obligations.StartRunsFirmware: an image whose signature verifies passes every check of 16 Table 16-6. -/
theorem test_image_check (hv : ∀ k d g, Config.ecdsaVerify k d g = true) :
    (starting 4).imageReason imageHeader [0#8, 0#8, 0#8, 0#8] false = none ∧ (Instr.imageCheck imageHeader [0#8, 0#8, 0#8, 0#8] false).wellFormed = true := by
  refine ⟨?_, by decide⟩
  have h : slice imageHeader 136 48 = beBytes (Config.sha384 (slice [0#8, 0#8, 0#8, 0#8] 0 (numAt imageHeader 12 4))).toNat 48 := by rfl
  unfold State.imageReason
  rw [if_neg (by decide), if_neg (by decide), if_neg (by decide), if_neg (by decide), if_neg (by simp [hv]), if_neg (by simp [h]), if_neg (by decide),
    if_neg (by decide)]
/-- Obligations.SlotCommandsAtRest: each row of 02 Table 2-3 at rest. -/
theorem test_slot_commands_at_rest :
    (Agent.fw ≠ .path .a ∧ live.allows .fw 1 = true ∧ slotCmds 0#32 = 0) ∧
    slotDoes { st := .present } (fun x => trialOrder x.regs.cfg = [.c, .b, .a]) (.activate .fw · 0#32)
      (fun y => y.seq.phase = .wait && y.seq.tryCls = .c && y.regs.cmdErr = .none) = true ∧
    slotDoes { st := .present, seq := { phase := .wait } } (fun x => trialOrder x.regs.cfg ≠ []) (.activate .fw · 0#32) (fun y => y.seq.phase = .wait) = true ∧
    slotDoes { st := .present, regs := { cfg := 0x9480#32 } } (fun x => trialOrder x.regs.cfg = []) (.activate .fw · 0#32) (fun y => y.regs.cmdErr = .value) = true ∧
    slotDoes { st := .parked } (fun _ => true) (.activate .fw · 0#32) (fun y => y.regs.cmdErr = .state) = true ∧
    slotDoes { st := .clockstop } (fun _ => true) (.activate .fw · 0#32) (fun y => y.regs.cmdErr = .none && y.st = .clockstop) = true ∧
    slotDoes { st := .negotiating } (fun _ => true) (.warmReset .fw · 0#32) (fun y => y.regs.cmdErr = .state) = true ∧
    slotDoes { st := .present, seq := { phase := .wait } } (fun _ => true) (.deactivate .fw · 0#32) (fun y => y.seq.phase = .none) = true ∧
    slotDoes { st := .quenching } (fun _ => true) (.deactivate .fw · 0#32) (fun y => y.regs.cmdErr = .state) = true ∧
    slotDoes { st := .fault } (fun _ => true) (.deactivate .fw · 0#32) (fun y => y.regs.cmdErr = .none && y.st = .fault) = true ∧
    slotDoes { st := .fault } (fun _ => true) (.park .fw · 0#32) (fun y => y.st = .parked) = true ∧
    slotDoes { st := .quenching } (fun _ => true) (.park .fw · 0#32) (fun y => y.seq.parkPend && y.seq.deactPend) = true ∧
    slotDoes { st := .parked } (fun _ => true) (.park .fw · 0#32) (fun y => y.st = .parked) = true ∧
    slotDoes { st := .parked, seq := { pres := true } } (fun _ => !(at_ 63 { st := .parked }).slotLoop 63) (.unpark .fw · 0#32) (fun y => y.st = .present) = true ∧
    slotDoes { st := .ready } (fun _ => true) (.unpark .fw · 0#32) (fun y => y.st = .ready) = true ∧
    slotDoes { st := .fault } (fun _ => true) (.faultClear .fw · 0#32) (fun y => y.st = .empty) = true ∧
    slotDoes { st := .parked } (fun _ => true) (.faultClear .fw · 0#32) (fun y => y.st = .parked) = true := by
  decide +kernel

/-- Obligations.SlotCommandsInService. -/
theorem test_slot_commands_in_service :
    slotDoes (inUse .busy) (fun _ => true) (.warmReset .fw · 0#32) (fun y => y.seq.warmPend && y.st = .busy) = true ∧
    slotDoes { inUse .ready with holder := some 3 } (fun x => x.holder.isSome) (.warmReset .fw · 0#32) (fun y => y.seq.warmPend) = true ∧
    slotDoes (inUse .busy) (fun _ => !bitOf 0#32 3) (.deactivate .fw · 0#32) (fun y => y.seq.deactPend && !y.seq.parkPend) = true ∧
    slotDoes (inUse .busy) (fun _ => true) (.park .fw · 0#32) (fun y => y.seq.deactPend && y.seq.parkPend) = true ∧
    slotDoes (inUse .busy) (fun _ => bitOf 8#32 3 && slotCmds 8#32 = 0) (.deactivate .fw · 8#32)
      (fun y => y.st = .present && !y.seq.rst && y.seq.steps = 1 && y.seq.deactT0 = some 0) = true ∧
    slotDoes (inUse .atr) (fun _ => true) (.park .fw · 0#32) (fun y => y.st = .parked && y.regs.actResult = 6) = true ∧
    slotDoes (inUse .ready) (fun x => x.holder = none) (.warmReset .fw · 0#32) (fun y => y.st = .activating && !y.seq.rst && y.seq.phase = .warm 60) = true ∧
    slotDoes (inUse .clockstop) (fun x => x.holder = none) (.warmReset .fw · 0#32) (fun y => y.seq.restartAt = some 0 && y.seq.warmAfterRestart) = true := by
  decide +kernel

/-- Obligations.SlotControlWord. -/
theorem test_slot_control_word :
    (1 < slotCmds (4#32 ||| 1#32) ∧ 1 < slotCmds (16#32 ||| 256#32 ||| 4#32) ∧ slotCmds 0x180#32 = 0) ∧
    slotDoes { st := .present } (fun _ => true) (.activate .fw · 4#32) (fun y => y.regs.cmdErr = .multiple && y.st = .present) = true ∧
    slotDoes { regs := { actAtArmed := some 5#64, deactAtArmed := some 6#64 } } (fun _ => true) (.cancelActAt .fw · 0#32)
      (fun y => y.regs.actAtArmed = none && y.regs.deactAtArmed = some 6#64) = true ∧
    slotDoes { regs := { actAtArmed := some 5#64, deactAtArmed := some 6#64 } } (fun _ => true) (.cancelDeactAt .fw · 0x80#32)
      (fun y => y.regs.actAtArmed = none && y.regs.deactAtArmed = none) = true ∧
    slotDoes { st := .present, regs := { actAtArmed := some 5#64 } } (fun _ => bitOf 0x180#32 7 && bitOf 0x180#32 8) (.park .fw · 0x180#32)
      (fun y => y.regs.actAtArmed = none && y.st = .parked) = true ∧
    meets [live.grant .b = 0] (.park (.path .b) 0 0#32) live (fun t => t.dev.wdenyB && t.slots = []) = true := by
  decide +kernel

/-- Obligations.SlotSchedules: ACT_AT and DEACT_AT that fall due at the present tide. -/
theorem test_slot_schedules :
    slotDoes { regs := { actAt := 7#64 } } (fun _ => true) (.actAtHiWrite .fw · 1#32) (fun y => y.regs.actAtArmed = some 0x100000007#64) = true ∧
    slotDoes { regs := { deactAt := 7#64 } } (fun _ => true) (.deactAtHiWrite .fw · 1#32) (fun y => y.regs.deactAtArmed = some 0x100000007#64) = true ∧
    (let s := at_ 63 { st := .present, regs := { actAtArmed := some 0#64 } }
     !s.alarmBy s.ltide 8 && !s.deactBy s.ltide 64 && !s.actBy s.ltide 63) = true ∧
    slotDoes { st := .present, regs := { actAtArmed := some 0#64 } } (fun _ => true) .actAtDue (fun y => y.regs.actAtArmed = none && y.seq.phase = .wait) = true ∧
    slotDoes { st := .fault, regs := { actAtArmed := some 0#64 } } (fun _ => true) .actAtDue (fun y => y.regs.cmdErr = .state && y.regs.actAtArmed = none) = true ∧
    (let s := at_ 63 { inUse .ready with regs := { deactAtArmed := some 0#64 } }
     !s.alarmBy s.ltide 8 && !s.deactBy s.ltide 63) = true ∧
    slotDoes { inUse .ready with regs := { deactAtArmed := some 0#64 } } (fun _ => true) .deactAtDue
      (fun y => y.st = .present && y.regs.deactAtArmed = none && y.seq.deactT0 = some 0) = true ∧
    slotDoes { inUse .busy with regs := { deactAtArmed := some 0#64 } } (fun x => !bitOf x.regs.cfg 17) .deactAtDue (fun y => y.st = .busy && y.seq.deactPend) = true := by
  decide +kernel

/-- Obligations.Presence: the debounce of SUPERVISE is 50 ms at reset (02 Table 2-13). -/
theorem test_presence :
    slotDoes { st := .present, seq := { pres := true } } (fun x => !x.powered) .presAbsent (fun y => y.st = .empty && !y.seq.pres) = true ∧
    slotDoes (inUse .ready) (fun x => x.powered) .presAbsent (fun y => y.st = .quenching && y.regs.primary = 1 && y.seq.quenchT0 = some 0) = true ∧
    slotDoes {} (fun x => !x.seq.pres && x.seq.debounce = none) .presPresentRead (fun y => y.seq.debounce = some (50 * 480000)) = true ∧
    slotDoes { seq := { debounce := some 24000000 } } (fun x => !bitOf x.regs.cfg 9) .presDebounceDone (fun y => y.st = .present && y.seq.pres) = true ∧
    slotDoes { seq := { debounce := some 24000000 }, regs := { cfg := 0x9687#32 } } (fun x => bitOf x.regs.cfg 9 && trialOrder x.regs.cfg ≠ []) .presDebounceDone
      (fun y => y.st = .present && y.seq.phase = .wait) = true ∧
    slotDoes { seq := { gapFrom := some 100 } } (fun x => !x.seq.leaking) .reactGapEnd (fun y => y.seq.gapFrom = none) = true := by
  decide +kernel

/-- Obligations.ActivationSteps. -/
theorem test_activation_steps :
    (let s := { at_ 63 { st := .present, seq := { phase := .wait, pres := true, tryCls := .a } } with boot := { loaded := true } }
     meets [(s.slot 63).freeToRamp (s.polder 7), s.nextRamp 63, (s.polder 7).lastRamp = none] (.vccRampStart 63) s
       (fun t => (t.slot 63).st = .activating && (t.slot 63).seq.vcc = .ramp && (t.slot 63).seq.cls = some .a)) = true ∧
    slotDoes { seq := { vcc := .ramp, phase := .ramp 0 } } (fun _ => true) .settleRequest (fun y => y.seq.vcc = .on && y.seq.phase = .settle) = true ∧
    (let s := (at_ 63 { inUse .activating with seq := { vcc := .on, phase := .settle, tryCls := .b } }).modPolder 7 fun q => { q with settle := [(63, [1500, 1500, 1500, 1500])] }
     meets [(s.polder 7).settle.find? (fun e => e.1 = 63) = some (63, [1500, 1500, 1500, 1500])] (.settleCheckDone 63) s
       (fun t => (t.slot 63).seq.clkRun && (t.slot 63).seq.settled && (t.slot 63).seq.phase = .clk 0 && (t.slot 63).seq.div = 120)) = true ∧
    (let s := (at_ 63 { inUse .activating with seq := { vcc := .on, phase := .settle, tryCls := .b } }).modPolder 7 fun q => { q with settle := [(63, [900, 900, 900, 900])] }
     meets [(s.slot 63).powered] (.settleCheckDone 63) s (fun t => (t.slot 63).st = .quenching && (t.slot 63).regs.primary = 10)) = true ∧
    slotDoes { seq := { phase := .clk 5 } } (fun _ => true) .ioRelease (fun y => y.seq.ioUp && y.seq.phase = .io 5) = true ∧
    slotDoes { inUse .activating with seq := { phase := .io 0 } } (fun _ => true) .rstRise (fun y => y.st = .atr && y.seq.rst && y.seq.tb = 60000) = true ∧
    slotDoes { inUse .activating with seq := { phase := .warm 0 } } (fun _ => true) .rstRise (fun y => y.st = .atr && y.seq.phase = .none) = true := by
  decide +kernel

/-- Obligations.AtrFailures: with no permitted class left, with a warm reset left, and with none. -/
theorem test_atr_failures :
    slotDoes { inUse .atr with seq := { tryCls := .c, vcc := .on } } (fun x => !x.ch.atrOn && classesAfter x.regs.cfg .c = [.b, .a]) .atrAbsent
      (fun y => y.st = .activating && y.seq.phase = .classChange && y.seq.tryCls = .b) = true ∧
    slotDoes { inUse .atr with seq := { tryCls := .a, vcc := .on } } (fun x => !x.ch.atrOn && classesAfter x.regs.cfg .a = []) .atrAbsent
      (fun y => y.st = .present && y.regs.actResult = 2) = true ∧
    slotDoes { inUse .atr with seq := { warmed := true, vcc := .on } } (fun x => x.atrRetries = 1 && classesAfter x.regs.cfg .c = [.b, .a]) .atrAbsent
      (fun y => y.st = .activating && y.seq.phase = .classChange && y.seq.tryCls = .b) = true ∧
    slotDoes { inUse .atr with ch := { atrOn := true } } (fun x => x.ch.atrOn) .atrCharTimeout (fun y => y.st = .activating && y.regs.atrErr = 4) = true ∧
    slotDoes { inUse .atr with ch := { atrOn := true }, seq := { tryCls := .a, retries := 3 } } (fun x => x.ch.atrOn) .atrCharTimeout
      (fun y => y.st = .present && y.regs.actResult = 3) = true := by
  decide +kernel

/-- Obligations.ClockStops. -/
theorem test_clock_stops :
    slotDoes { inUse .ready with pr := { x := 1 } } (fun x => bitOf x.regs.cfg 12 && x.holder = none && !(at_ 63 (inUse .ready)).convHolds 63) .clockStop
      (fun y => y.st = .clockstop && !y.seq.clkRun && !y.seq.stopLevel) = true ∧
    slotDoes { inUse .ready with pr := { x := 2 } } (fun x => bitOf x.regs.cfg 12) .clockStop (fun y => y.st = .clockstop && y.seq.stopLevel) = true ∧
    slotDoes { inUse .ready with pr := { x := 3 } } (fun x => bitOf x.regs.cfg 12) .clockStop (fun y => y.st = .clockstop && y.seq.stopLevel = bitOf 0x9487#32 13) = true ∧
    slotDoes { st := .clockstop, seq := { restartAt := some 0, clkRun := true } } (fun x => x.holder = none) .clockRestartDone (fun y => y.st = .ready && y.seq.restartAt = none) = true ∧
    (let s := (at_ 63 { st := .clockstop, seq := { restartAt := some 0, clkRun := true }, pr := { mode := .t0 }, holder := some 0 }).setTxn 0 (some { qp := 1, dws := [], stage := .exch })
     meets [] (.clockRestartDone 63) s (fun t => (t.slot 63).st = .busy && t.now = 84000)) = true ∧
    slotDoes { st := .clockstop, seq := { restartAt := some 0, warmAfterRestart := true } } (fun x => x.holder = none) .clockRestartDone
      (fun y => y.st = .activating && y.seq.phase = .warm 84060) = true := by
  decide +kernel

/-- Obligations.ShutdownSteps: the first step of a deactivation, and the last of a quench, 1.9 us after its detection (03 Table 3-3). -/
theorem test_shutdown_steps :
    slotDoes { inUse .present with seq := { rst := true, deactT0 := some 0 } } (fun x => x.seq.quenchT0 = none) .deactStep (fun y => !y.seq.rst && y.seq.steps = 1) = true ∧
    meets [] (.quenchStep 0) (at_ 0 { st := .quenching, seq := { vcc := .on, steps := 3, quenchT0 := some 0 } })
      (fun t => t.now = 912 && (t.slot 0).seq.vcc = .disch && (t.slot 0).seq.sinkReq = some 912) = true ∧
    meets [] (.quenchStep 0) (at_ 0 { st := .quenching, seq := { steps := 1, clkRun := true, quenchT0 := some 100000, deactT0 := some 0 } })
      (fun t => t.now = 4800 && !(t.slot 0).seq.clkRun) = true := by
  decide +kernel

/-- Obligations.Discharge. -/
theorem test_discharge :
    slotDoes { st := .quenching, seq := { vcc := .disch, sinkOn := some 0, pres := true }, regs := { also := 2#11 } } (fun _ => true) .vccBelow04
      (fun y => y.st = .fault && y.seq.vcc = .off && y.seq.gapFrom = some 0) = true ∧
    slotDoes { st := .activating, seq := { vcc := .disch, sinkOn := some 0, phase := .classChange } } (fun _ => true) .vccBelow04 (fun y => y.seq.phase = .wait) = true ∧
    slotDoes { seq := { leaking := true } } (fun x => x.seq.vcc = .off) .vccBelow04 (fun y => !y.seq.leaking && y.seq.gapFrom = some 0) = true ∧
    (let s := (at_ 63 { seq := { vcc := .disch, sinkReq := some 5 } }).setSlot 8 { seq := { vcc := .disch, sinkReq := some 9 } }
     meets [s.oldestSink = some (5, 63)] .dischargeGrant s (fun t => (t.slot 63).seq.sinkOn = some 0 && (t.slot 8).seq.sinkOn = none)) = true ∧
    slotDoes { seq := { vcc := .disch, sinkOn := some 0 } } (fun x => !x.seq.timedOut) .dischTimeout (fun y => y.regs.dischTimeout && y.seq.timedOut) = true ∧
    slotDoes {} (fun x => x.seq.vcc = .off && !x.seq.leakSeen) (.seepLeak ⟨·, true⟩) (fun y => y.regs.seepLeak && y.seq.leaking && y.seq.leakSeen) = true ∧
    slotDoes {} (fun x => x.seq.vcc = .off) (.seepLeak ⟨·, false⟩) (fun y => !y.regs.seepLeak && y.seq.leaking && !y.seq.leakSeen) = true ∧
    (let s := { (at_ 63 { seq := { vcc := .disch, sinkReq := some 5 } }).setSlot 8 { seq := { vcc := .disch, sinkOn := some 9 } } with boot := { sinkGrant := some 0 } }
     meets [s.sinks = 1, s.sinkCurrent 8 = 4000, s.sinkCurrent 63 = 0] .dischargeGrant s
       (fun t => t.now = 120 && t.sinks = 2 && t.boot.sinkGrant = some 120)) = true ∧
    ((List.range 33).foldl (fun s i => s.setSlot i { seq := { vcc := .disch, sinkOn := some 0 } }) live).sinkCurrent 0 = 3878 := by
  decide +kernel

/-- Obligations.QuenchCauses. -/
theorem test_quench_causes :
    slotDoes (inUse .ready) (fun x => x.regOn) .ocTrip (fun y => y.st = .quenching && y.regs.primary = 2 && y.regs.also = 2#11 && y.seq.vcc = .on) = true ∧
    slotDoes (inUse .ready) (fun x => x.regOn) .ocFoldback (fun y => y.regs.primary = 3) = true ∧
    slotDoes { inUse .quenching with regs := { also := 1#11 } } (fun x => x.regOn && !x.regs.also.getLsbD 1) .ocTrip (fun y => y.regs.also = 3#11) = true ∧
    slotDoes { inUse .quenching with regs := { also := 1#11 } } (fun x => !x.regs.also.getLsbD 2) .ocFoldback (fun y => y.regs.also = 5#11) = true ∧
    slotDoes (inUse .ready) (fun x => x.seq.settled) (.undervoltage ⟨·, false⟩) (fun y => y.regs.primary = 4) = true ∧
    slotDoes (inUse .ready) (fun x => x.seq.settled) (.undervoltage ⟨·, true⟩) (fun y => y = inUse .ready) = true ∧
    slotDoes { inUse .quenching with seq := { (inUse .ready).seq with quenchT0 := some 0 }, regs := { also := 8#11, primary := 4 } } (fun x => x.regOn) .ocTrip
      (fun y => y.regs.primary = 2 && y.regs.also = 10#11) = true ∧
    meets [] (.ocTrip 63) { at_ 63 (inUse .ready) with boot := { slotHeld := true } } (fun t => (t.slot 63).st = .ready) = true ∧
    slotDoes (inUse .ready) (fun x => x.seq.steps < 1) .clkReadback (fun y => y.regs.primary = 5) = true ∧
    slotDoes (inUse .ready) (fun x => x.seq.steps < 1) .rstReadback (fun y => y.regs.primary = 6) = true ∧
    slotDoes {} (fun x => !x.regOn) .ocTrip (fun y => y = {}) = true := by
  decide +kernel

/-- Obligations.PolderMonitors: at and next to 110, 115 and 130 degrees. -/
theorem test_polder_monitors :
    meets [(live.polder 7).prevTemp = none] (.tempSample 7 200) live (fun t => (t.polder 7).prevTemp = some 200) = true ∧
    meets [] (.tempSample 7 115) (withPolder { prevTemp := some 114 }) (fun t => !(t.polder 7).warn) = true ∧
    meets [] (.tempSample 7 115) (withPolder { prevTemp := some 115 }) (fun t => (t.polder 7).warn && t.dev.irqStatus.getLsbD 6 && (t.slot 56).st = .ready) = true ∧
    meets [] (.tempSample 7 110) (withPolder { prevTemp := some 110, warn := true }) (fun t => !(t.polder 7).warn) = true ∧
    meets [] (.tempSample 7 130) (withPolder { prevTemp := some 130 }) (fun t => (t.slot 56).st = .quenching) = true ∧
    meets [] (.railH 7) (withPolder {}) (fun t => (t.polder 7).highLow && (t.slot 56).st = .ready) = true ∧
    meets [] (.railL 7) (withPolder {}) (fun t => (t.polder 7).lowLow && (t.slot 56).st = .quenching) = true ∧
    meets [] (.railClear .high 7) (withPolder { highLow := true }) (fun t => !(t.polder 7).highLow) = true ∧
    meets [] (.railClear .low 7) (withPolder { lowLow := true }) (fun t => !(t.polder 7).lowLow) = true ∧
    meets [] (.polderThermRead .fw 7) (withPolder { peak := some 40 }) (fun t => (t.polder 7).peak = none) = true := by
  decide +kernel
/-- C7 at one level for so many ck. -/
def level (high : Bool) (ck : Nat) : Reading := { ck := ck, high := high, over30 := high, over70 := high }

/-- C7 over a character of nine levels and its stop position at 44,640 ck to the ETU. -/
def waveOf (l : BitVec 9) (stop : Bool) : List Reading :=
  level false 44640 :: ((List.range 9).map fun k => level (l.getLsbD k) 44640) ++ [level stop 44640]

/-- Obligations.CharactersOut; byte A5 in the direct convention, from 04 Table 4-2. -/
theorem test_characters_out :
    (let s := at_ 63 { inUse .busy with pr := { gate := true, mode := .t0 }, ch := { txq := [0xA5#8, 1#8] } }
     meets [(s.slot 63).mayTransmit, !(s.slot 63).raw] (.charTransmit 63 ⟨false, []⟩) s
       (fun t => t.out = [.chr 63 0x0A5#9] && (t.slot 63).ch.txq = [1#8] && (t.slot 63).pr.sent = 1)) = true ∧
    (let s := at_ 63 { inUse .busy with pr := { gate := true, mode := .t0 }, ch := { txq := [0x07#8] } }
     meets [(s.slot 63).mayTransmit] (.charTransmit 63 ⟨false, []⟩) s
       (fun t => t.out = [.chr 63 0x107#9] && (t.slot 63).ch.txq = [] && (t.timer 189).en && (t.timer 189).cmp = 9600)) = true ∧
    (let s := at_ 63 { inUse .busy with regs := { charCfg := 0x40000000#32 }, pr := { gate := true, mode := .script }, ch := { rawTx := [5#9] } }
     meets [(s.slot 63).mayTransmit, (s.slot 63).raw] (.charTransmit 63 ⟨true, []⟩) s (fun t => t.out = [.chr 63 5#9] && (t.slot 63).xchg.sent && t.count 63 20 = 1)) = true ∧
    slotDoes { inUse .busy with ch := { txChk := some { levels := 5#9, start := 0, raw := false } } } (fun x => x.ch.txAgain = none) (.txErrsigCheck · [] [])
      (fun y => y.ch.txChk = none && y.ch.rearm = 11 * 44640 + 5580) = true ∧
    slotDoes { inUse .busy with ch := { txChk := some { levels := 5#9, start := 0, raw := false }, txReps := 2 } } (fun x => x.ch.txReps < fld x.regs.charCfg 26 24)
      (.txErrsigCheck · [level false (11 * 44640 + 1)] []) (fun y => y.ch.txAgain = some (13 * 44640)) = true ∧
    slotDoes { inUse .busy with pr := { mode := .t0 }, ch := { txChk := some { levels := 5#9, start := 0, raw := false }, txReps := 3 } }
      (fun x => fld x.regs.charCfg 26 24 ≤ x.ch.txReps) (.txErrsigCheck · [level false (11 * 44640 + 1)] []) (fun y => y.ch.txRptLim && y.pr.lastEnd = 3) = true ∧
    slotDoes { inUse .busy with ch := { txChk := some { levels := 5#9, start := 0, raw := false }, txAgain := some 600000 } } (fun x => x.wait = none) (.txRepeat ⟨·, []⟩)
      (fun y => y.ch.txAgain = none && y.ch.txReps = 1) = true := by
  decide +kernel

/-- Slot x with a character in reception since ck 0, its timing latched and its start bit judged or not. -/
def receiving (x : Slot) (begun : Bool := true) : Slot :=
  { x with ch := { x.ch with rxOn := some { start := 0, lastStart := 0, lastRx := none, lastRxEtu := {}, t0 := none, begun := begun } } }

/-- Slot x with nine levels received whose late stop sample is due. -/
def held (x : Slot) (l : BitVec 9) (vote : Bool := true) : Slot := { x with ch := { x.ch with rxHold := some { levels := l, mid := vote, vote := vote, lateAt := 474300 } } }

/-- Obligations.CharactersIn: an edge the slot does not take, one it takes, the first TS edge, an edge after WT, a false start, and start bits in each place
(04 R100: the last sample of the start bit lies 22,320 + 5,580 ck after the edge at E 44,640). -/
theorem test_start_bits :
    slotDoes { st := .ready } (fun x => !x.listening 0) (.charReceive · (.edge 0)) (fun y => y.ch.rxOn = none) = true ∧
    slotDoes (inUse .ready) (fun x => x.listening 9 && x.ch.rxOn = none && x.ch.rxHold = none && x.wait = none) (.charReceive · (.edge 9))
      (fun y => y.ch.lastRx = some 9 && y.ch.rxOn.isSome && !y.mayTransmit && y.ch.etu = { num := 44640, den := 1 }) = true ∧
    slotDoes (inUse .atr) (fun x => x.listening 48000 && !x.listening 47999 && !x.ch.atrOn) (.charReceive · (.edge 48000)) (fun y => y.ch.lastStart = 48000) = true ∧
    (let x : Slot := { inUse .busy with pr := { mode := .t0, gate := true, sent := 5 }, ch := { lastStart := 0 } }
     slotDoes x (fun x => x.wait = some .wt && x.listening 500000000) (.charReceive · (.edge 500000000)) (fun y => y.pr.lastEnd = 5 && y.pr.mode = .idle)) = true ∧
    slotDoes (inUse .busy) (fun x => x.ch.rxOn = none) (.charReceive · (.stop (waveOf 0x0A5#9 true))) (fun y => y.ch.rxBuf = [] && y.ch.rearm = 0) = true ∧
    slotDoes (receiving (inUse .ready) false) (fun x => x.sampleAt 1 = 22320 && x.bitVote [level false 100] 0) (.charReceive · (.start [level false 100]))
      (fun y => y.ch.rearm = 27900 && y.ch.rxOn = none && y.ch.lastRx = none) = true ∧
    slotDoes (receiving { inUse .busy with pr := { mode := .t0 }, ch := { txq := [1#8] } } false) (fun x => !x.bitVote (waveOf 0#9 true) 0)
      (.charReceive · (.start (waveOf 0#9 true))) (fun y => y.pr.lastEnd = 2) = true ∧
    slotDoes (receiving { inUse .busy with pr := { mode := .t0 } } false) (fun x => x.ch.txq.isEmpty) (.charReceive · (.start (waveOf 0#9 true)))
      (fun y => y.pr.lastEnd = 0 && y.ch.rxOn.any (·.begun)) = true ∧
    slotDoes (receiving (inUse .atr) false) (fun x => !x.ch.convSet) (.charReceive · (.start (waveOf 0#9 true))) (fun y => y.ch.rxOn.any (·.begun)) = true ∧
    (let x : Slot := receiving { inUse .busy with pr := { mode := .t1, proto := 1, t1 := { bwtArmed := true } } } false
     meets [x.inT1] (.charReceive 63 (.start (waveOf 0#9 true))) (at_ 63 x)
       (fun t => (t.timer 189).en && (t.timer 189).cmp = 11 + 2 ^ x.pr.cwi && !(t.slot 63).pr.t1.bwtArmed)) = true ∧
    Slot.sampleAt { ch := { latOfs := -6000 } } 1 = 16740 ∧ Slot.sampleAt { ch := { latOfs := 100 } } 21 = 468820 := by
  decide +kernel

/-- Obligations.CharactersIn: characters up to the middle stop sample, the error signal of 2 ETU, and what the late sample passes on: RAW, the first
character of an answer to reset in both conventions, and a T=0 data character. -/
theorem test_characters_in :
    slotDoes (receiving { inUse .busy with regs := { charCfg := 0x40000000#32 } }) (fun x => x.raw) (.charReceive · (.stop (waveOf 5#9 false)))
      (fun y => y.ch.rxHold = some { levels := 5#9, mid := false, vote := false, lateAt := 474300 } && y.ch.rxOn = none && y.ch.rearm = 468720) = true ∧
    slotDoes (receiving (inUse .busy)) (fun x => parityGood x.ch.inverse (x.voted (waveOf 0x0A5#9 true))) (.charReceive · (.stop (waveOf 0x0A5#9 true)))
      (fun y => y.ch.rxHold.any (fun h => h.levels = 0x0A5#9 && h.vote)) = true ∧
    slotDoes (receiving (inUse .atr)) (fun x => !x.ch.convSet) (.charReceive · (.stop (waveOf 0x000#9 true))) (fun y => y.regs.atrErr = 1 && y.st = .activating) = true ∧
    slotDoes (receiving { inUse .busy with regs := { charCfg := 0x2B601800#32 } }) (fun x => x.errsig && !parityGood x.ch.inverse 0x100#9 && x.ch.rxReps < fld x.regs.charCfg 23 21)
      (.charReceive · (.stop (waveOf 0x100#9 true))) (fun y => y.ch.rxReps = 1 && y.ch.parity && y.ch.esig.any (fun e => e.1 = 468720)) = true ∧
    slotDoes (receiving (inUse .busy)) (fun x => !x.errsig) (.charReceive · (.stop (waveOf 0x100#9 true))) (fun y => y.ch.parity && y.ch.rxHold.isSome) = true ∧
    slotDoes (receiving { inUse .atr with ch := { convSet := true, atrOn := true, atr := [0x3B#8] } }) (fun x => x.endsAtr 0#8) (.charReceive · (.stop (waveOf 0#9 true)))
      (fun y => y.st ≠ .atr && y.ch.atr = [0x3B#8, 0#8]) = true ∧
    slotDoes (held { inUse .busy with regs := { charCfg := 0x40000000#32 } } 5#9 false) (fun x => x.raw) (.charReceive · .late) (fun y => y.ch.rawRx = [(true, 5#9)]) = true ∧
    slotDoes (held { inUse .busy with regs := { charCfg := 0x40000000#32 }, ch := { rawRx := List.replicate 16 (false, 1#9) } } 5#9) (fun x => x.raw)
      (.charReceive · .late) (fun y => y.ch.rawOvf && y.ch.rawRx.length = 16) = true ∧
    slotDoes (held (inUse .atr) 0x13B#9) (fun x => !x.ch.atrOn && !x.ch.convSet) (.charReceive · .late) (fun y => y.ch.atr = [0x3B#8] && !y.ch.inverse && y.ch.convSet) = true ∧
    slotDoes (held (inUse .atr) 0x103#9) (fun x => !x.ch.convSet) (.charReceive · .late) (fun y => y.ch.atr = [0x3F#8] && y.ch.inverse) = true ∧
    slotDoes (held { inUse .busy with ch := { lastTx := some 0 }, pr := { mode := .t0, t0 := { phase := .recvAll, toRecv := 3 } } } 0x0A5#9)
      (fun x => x.raw = false && parityGood x.ch.inverse 0x0A5#9) (.charReceive · .late) (fun y => y.pr.t0.data = [0xA5#8] && y.pr.t0.toRecv = 2) = true := by
  decide +kernel

/-- Obligations.RawCharacters. -/
theorem test_raw_characters :
    slotDoes { regs := { charCfg := 0x40000000#32 } } (fun x => x.raw) (.charRawWrite (.window 3) · 0x3FF#32) (fun y => y.ch.rawTx = [0x1FF#9]) = true ∧
    slotDoes {} (fun x => !x.raw) (.charRawWrite (.window 0) · 1#32) (fun y => y.regs.cmdErr = .state && y.ch.rawTx = []) = true ∧
    meets [1 ≤ ({ live with logins := [(0, { live := true, role := 1 })] } : State).grant .a] (.charRawWrite (.path .a) 0 1#32)
      { live with logins := [(0, { live := true, role := 1 })] } (fun t => (t.slot 0).regs.cmdErr = .state) = true ∧
    meets [] (.charRawRead (.window 0) 63) (at_ 63 { regs := { charCfg := 0x40000000#32 }, ch := { rawRx := [(true, 5#9), (false, 6#9)] } })
      (fun t => t.lastRead = 0xC0010005#32 && (t.slot 63).ch.rawRx = [(false, 6#9)]) = true ∧
    meets [] (.charRawRead (.path .b) 63) { live with lastRead := 9#32 } (fun t => t.lastRead = 0#32) = true := by
  decide +kernel

/-- The device with timer t as x. -/
def timed (t : Nat) (x : Timer) : State := live.modTimer t fun _ => x

/-- Obligations.TimerCounting: G15 with a period of 10 and the compare at 4. -/
theorem test_timer_counting :
    (let s := timed 207 { en := true, reload := 9, count := 2 }
     meets [s.wf, s.counting 207, !(s.timer 207).cmpOn, s.slaves 207 = []] (.timerWrap (.gen 15)) s (fun t => (t.timer 207).count = 0 && (t.timer 207).wrapEvt && (t.timer 207).en)) = true ∧
    (let s := timed 207 { en := true, reload := 9, count := 9, cfg := 0x10000#32 }
     meets [s.counting 207] (.timerWrap (.gen 15)) s (fun t => (t.timer 207).count = 0 && !(t.timer 207).en)) = true ∧
    (let s := timed 207 { en := true, out := true, reload := 9, count := 2, cmp := 4, interval := 8, cfg := 0xC000#32 }
     meets [s.counting 207, (s.timer 207).toCompare = some 2, 2 < (s.timer 207).toWrap] (.timerCompare (.gen 15)) s
       (fun t => (t.timer 207).count = 4 && (t.timer 207).cmpEvt && !(t.timer 207).out && (t.timer 207).cmp = 2)) = true ∧
    (let s := (timed 2 { cfg := 0x10000000#32, count := 77 }).modLoop 0 fun _ => { result := 1, ctrl := 0x80010100#32 }
     meets [s.slotLoop 0, (s.timer 2).capSrc = 1] (.timerCapture (.slot 0 2) 1#4 6) s (fun t => (t.timer 2).caps = [(77, 1)] && t.now = 6)) = true ∧
    (let s := (timed 2 { cfg := 0x10000000#32, caps := List.replicate 8 (1, 1) }).modLoop 0 fun _ => { result := 1, ctrl := 0x80010100#32 }
     meets [s.slotLoop 0, 8 ≤ (s.timer 2).caps.length] (.timerCapture (.slot 0 2) 1#4 0) s (fun t => (t.timer 2).capOvf && (t.timer 2).capLost = 1 && (t.timer 2).caps.length = 8)) = true ∧
    meets [!live.slotLoop 0] (.timerCapture (.slot 0 2) 1#4 9) live (fun t => t.now = 0) = true ∧
    (let s := { timed 207 { en := true, sleptAt := some 0, sleptRate := (240000000, 1), cfg := 0x3000#32, reload := 0xFFFFFFFF } with now := 480000000 }
     meets [!s.stopped 207, bitOf (s.timer 207).cfg 13, (s.timer 207).src = 0, s.slaves 207 = []] (.timerMakeup (.gen 15) 0) s
       (fun t => (t.timer 207).makeup && (t.timer 207).makeupTicks = 240000000 && (t.timer 207).sleptAt = none)) = true := by
  decide +kernel

/-- Obligations.TimerRegisters: slot timer T2 of slot 63, and a T0 of a slot in service, which no agent may write. -/
theorem test_timer_registers :
    meets [live.timerWritable .fw 191] (.start .fw (.slot 63 2) 0#32) live (fun t => (t.timer 191).en && (t.timer 191).out) = true ∧
    meets [] (.stop .fw (.slot 63 2) 0x20000000#32) (timed 191 { en := true }) (fun t => !(t.timer 191).en) = true ∧
    meets [] (.clrCap .fw (.slot 63 2) 0#32) (timed 191 { caps := [(1, 1)], capLost := 3 }) (fun t => (t.timer 191).caps = [] && (t.timer 191).capLost = 0) = true ∧
    meets [] (.capSoft .fw (.slot 63 2) 0#32) (timed 191 { cfg := 0x90000000#32, count := 6 }) (fun t => (t.timer 191).caps = [(6, 9)]) = true ∧
    meets [!live.linkedLow 191, !live.linkedHigh 191] (.timCountWrite .fw (.slot 63 2) 8#32) live (fun t => (t.timer 191).count = 8) = true ∧
    (let s := timed 193 { cfg := 0x50#32 }
     meets [s.linkedLow 192] (.timCountWrite (.core 0) (.gen 0) 8#32) s (fun t => (t.timer 192).loStage = some 8 && (t.timer 192).count = 0)) = true ∧
    meets [] (.timReloadWrite .fw (.slot 63 2) 8#32) live (fun t => (t.timer 191).reloadNext.any fun e => e.1 = 8 && live.now < e.2) = true ∧
    meets [] (.timCmpWrite .fw (.slot 63 2) 8#32) live (fun t => (t.timer 191).cmp = 8 && (t.timer 191).armed) = true ∧
    meets [] (.start .fw (.slot 63 2) 2#32) live (fun t => (t.timer 191).cmdErr = .multiple && !(t.timer 191).en) = true ∧
    (let s := at_ 63 (inUse .ready)
     meets [!s.timerWritable .fw 189] (.timCmpWrite .fw (.slot 63 0) 8#32) s (fun t => (t.timer 189).cmdErr = .state && (t.timer 189).cmp = 0)) = true ∧
    meets [] (.timCountRead .fw (.slot 63 2) 0) (timed 191 { count := 5 }) (fun t => t.lastRead = 5#32) = true ∧
    meets [] (.timCapValRead .fw (.slot 63 2)) (timed 191 { caps := [(5, 1), (6, 2)] }) (fun t => t.lastRead = 5#32 && (t.timer 191).caps = [(6, 2)]) = true ∧
    meets [] (.timCapValRead .fw (.slot 63 2)) live (fun t => t.lastRead = 0#32) = true := by
  decide +kernel

/-- The device with tide unit u. -/
def tided (u : TideUnit) : State := { live with tide := u }

/-- Obligations.TideDiscipline, on a member: TIDE_MARK is ignored. -/
theorem test_tide_member (h : Config.ringMaster = false) :
    meets [] (.tideMarkEdge 0) (tided { armed := some 5#64 }) (fun t => t = tided { armed := some 5#64 }) = true := by
  unfold meets exec
  dsimp only
  unfold execTideMarkEdge
  rw [h]
  decide +kernel

/-- Obligations.TideDiscipline, on the master: a set at an edge, a set behind a running tide, and an edge 3 tt late and one 161 tt late. -/
theorem test_tide_master (h : Config.ringMaster = true) :
    meets [] (.tideMarkEdge 0) (tided { armed := some 5#64 }) (fun t => t.ltide = 5#64 && t.tide.st = .locked && t.tide.expect = some 16005) = true ∧
    meets [] (.tideMarkEdge 0) (tided { st := .locked, armed := some 5#64, val := 6#64 }) (fun t => t.ltide = 6#64 && t.tide.setErr = 1 && t.tide.armed = none) = true ∧
    meets [] (.tideMarkEdge 30) (tided { st := .acquiring }) (fun t => t.tide.ref = 1#64) = true ∧
    (let u : TideUnit := { st := .locked, val := 16003#64, expect := some 16000 }
     meets [u.nearest u.pos = 0, (90 : Int) ≤ u.limitCk] (.tideMarkEdge 0) (tided u) (fun t => t.tide.slew = 90 && t.tide.err = 90 && t.tide.expect = some 32000)) = true ∧
    meets [] (.tideMarkEdge 0) (tided { st := .locked, val := 16161#64, expect := some 16000 }) (fun t => t.tide.slew = 0 && t.tide.expect = some 16000) = true := by
  unfold meets exec
  dsimp only
  unfold execTideMarkEdge
  rw [h]
  decide +kernel

/-- Obligations.TideDiscipline: HOLDOVER and the end of a pause. -/
theorem test_tide_holdover :
    meets [] .tideHoldover (tided { st := .locked, lastAt := 5, rate := 7 }) (fun t => t.tide.st = .holdover && t.now = 1920005 && t.tide.rate = 0) = true ∧
    meets [] .tidePauseEnd (tided { paused := true, pauseLeft := 60, val := 4#64 }) (fun t => !t.tide.paused && t.now = 60 && t.ltide = 4#64) = true := by
  decide +kernel

/-- Obligations.TideRegisters. -/
theorem test_tide_registers :
    meets [] (.tideNowRead .fw) (tided { val := 0x500000006#64 }) (fun t => t.lastRead = 6#32 && t.latch .fw 0x4804 = 5#32) = true ∧
    meets [] (.cancelSet .fw 0x10001#32) (tided { armed := some 3#64 }) (fun t => t.tide.armed = none && t.tide.stepLimit = 1) = true ∧
    meets [] (.cancelSet .fw 0x10000#32) (tided { armed := some 3#64 }) (fun t => t.tide.armed = some 3#64) = true ∧
    meets [] (.talarmHiWrite .fw 7 1#32) live (fun t => t.tide.alarmArmed.getD 7 none = some 0x100000000#64) = true ∧
    meets [] (.cancel .fw 0x00800080#32) (tided { alarmArmed := List.replicate 8 (some 5#64), fired := 0xFF })
      (fun t => t.tide.alarmArmed.getD 7 none = none && t.tide.alarmArmed.getD 6 none = some 5#64 && t.tide.fired = 0x7F) = true ∧
    (let s := tided { alarmArmed := List.replicate 7 none ++ [some 0#64] }
     meets [!s.alarmBy s.ltide 7] (.talarmDue 7) s (fun t => t.tide.fired = 0x80 && t.tide.alarmArmed.getD 7 none = none)) = true ∧
    (let s := tided { alarmArmed := List.replicate 8 (some 0#64) }
     meets [s.alarmBy (s.dueAt 0#64) 7] (.talarmDue 7) s (fun t => t.tide.fired = 0)) = true := by
  decide +kernel

/-- Obligations.TideRegisters: a tide set on the master, and on a member. -/
theorem test_tide_set (b : Bool) (h : Config.ringMaster = b) :
    meets [] (.tideSetHiWrite .fw 1#32) live (fun t => if b then t.tide.armed = some 0x100000000#64 else t.tide.armed = none && t.tide.setErr = 2) = true := by
  unfold meets exec
  dsimp only
  unfold execTideSetHiWrite State.writeTideSetHi
  rw [h]
  cases b <;> decide +kernel

/-- A received character without error. -/
def good (b : Byte) : RxChar := { data := b, parity := true, framing := true }

/-- Obligations.PpsNegotiation: request FF 10 95 7A, echoed; answered FF 00 FF; answered wrongly; incomplete; unanswered (06 R161 to R164). -/
theorem test_pps :
    slotDoes { inUse .negotiating with pr := { mode := .pps, ppsReq := [0xFF#8, 0x10#8, 0x95#8, 0x7A#8], fi := 9, di := 5 }, ch := { rxBuf := [0xFF#8, 0x10#8, 0x95#8, 0x7A#8].map good } }
      (fun x => judgePps x.pr.ppsReq x.pr.ppsT x.ch.rxBuf = some 2) .ppsResponse
      (fun y => y.pr.negResult = 2 && y.pr.settled && fld y.regs.charEtu 11 4 = 0x95) = true ∧
    slotDoes { inUse .negotiating with pr := { mode := .pps, ppsReq := [0xFF#8, 0x10#8, 0x95#8, 0x7A#8], fi := 9, di := 5 }, ch := { rxBuf := [0xFF#8, 0x00#8, 0xFF#8].map good } }
      (fun x => judgePps x.pr.ppsReq x.pr.ppsT x.ch.rxBuf = some 3) .ppsResponse (fun y => y.pr.negResult = 3 && fld y.regs.charEtu 11 4 = 0x11) = true ∧
    slotDoes { inUse .negotiating with pr := { mode := .pps, ppsReq := [0xFF#8, 0x00#8, 0xFF#8] }, ch := { rxBuf := [0xFF#8, 0x01#8, 0xFE#8].map good } }
      (fun x => judgePps x.pr.ppsReq x.pr.ppsT x.ch.rxBuf = some 7) .ppsResponse (fun y => y.st = .activating && y.seq.negResetUsed) = true ∧
    slotDoes { inUse .negotiating with pr := { mode := .pps, ppsReq := [0xFF#8, 0x00#8, 0xFF#8] }, ch := { rxBuf := [0xFF#8, 0x00#8].map good } }
      (fun x => judgePps x.pr.ppsReq x.pr.ppsT x.ch.rxBuf = none) .ppsResponse (fun y => y.st = .negotiating) = true ∧
    slotDoes { inUse .negotiating with seq := { negResetUsed := true, vcc := .on }, pr := { mode := .pps } } (fun x => x.seq.negResetUsed) .ppsWaitExpired
      (fun y => y.st = .present && y.regs.actResult = 5 && y.pr.negResult = 7) = true := by
  decide +kernel

/-- A slot in a T=0 exchange of command 00 B0 00 00 02 that has received byte b. -/
def t0Slot (e : T0Eng) (b : Byte) : Slot :=
  { inUse .busy with holder := some 5, pr := { mode := .t0, sent := 5, t0 := { e with header := [0x00#8, 0xB0#8, 0#8, 0#8, 2#8] } }, ch := { rxBuf := [good b] } }

/-- Obligations.T0Exchange: each class of procedure byte, and each end. -/
theorem test_t0 :
    slotDoes (t0Slot { toSend := [1#8, 2#8] } 0xB0#8) (fun x => x.inT0) .procedureByte (fun y => y.ch.txq = [1#8, 2#8] && y.pr.t0.toSend = []) = true ∧
    slotDoes (t0Slot { toRecv := 2 } 0xB0#8) (fun x => x.inT0) .procedureByte (fun y => y.pr.t0.phase = .recvAll) = true ∧
    slotDoes (t0Slot { toSend := [1#8, 2#8] } 0x4F#8) (fun x => x.inT0) .procedureByte (fun y => y.ch.txq = [1#8] && y.pr.t0.toSend = [2#8]) = true ∧
    slotDoes (t0Slot {} 0x60#8) (fun x => x.inT0) .procedureByte (fun y => y.pr.t0.phase = .proc && y.ch.rxBuf = []) = true ∧
    slotDoes (t0Slot {} 0x90#8) (fun x => x.inT0) .procedureByte (fun y => y.pr.t0.phase = .sw2 && y.pr.t0.sw1 = some 0x90#8) = true ∧
    meets [(exchanging (t0Slot { phase := .sw2, sw1 := some 0x90#8, data := [7#8] } 0#8)).wf] (.t0TpduEnd 63) (exchanging (t0Slot { phase := .sw2, sw1 := some 0x90#8, data := [7#8] } 0#8))
      (fun t => (t.slot 63).pr.lastEnd = 1 && t.flow.outq = [5] && ((t.txn 5).bind (·.outDone)).any fun o => o.resp = [7#8, 0x90#8, 0#8] && o.sentLen = 5) = true ∧
    slotDoes { t0Slot { phase := .sw2, sw1 := some 0x6C#8, casee := 2 } 8#8 with regs := { protCfg := 0x04000000#32 } } (fun x => bitOf x.regs.protCfg 26) .t0TpduEnd
      (fun y => y.ch.txq = [0x00#8, 0xB0#8, 0#8, 0#8, 8#8] && y.pr.t0.corrected && y.pr.t0.toRecv = 8) = true ∧
    slotDoes { t0Slot { phase := .sw2, sw1 := some 0x61#8, casee := 2, data := [9#8] } 8#8 with regs := { protCfg := 0x02000000#32 } } (fun x => bitOf x.regs.protCfg 25) .t0TpduEnd
      (fun y => y.ch.txq = [0x00#8, 0xC0#8, 0#8, 0#8, 8#8] && y.pr.t0.acc = [9#8]) = true ∧
    slotDoes { t0Slot {} 0#8 with ch := {} } (fun x => x.inT0 && 0 < x.pr.sent) .wtExpired (fun y => y.pr.lastEnd = 5 && y.pr.mode = .idle) = true := by
  decide +kernel

/-- A slot in a T=1 exchange that has received the characters l. -/
def t1Slot (e : T1Eng) (l : List RxChar) : Slot :=
  { inUse .busy with holder := some 5, pr := { mode := .t1, proto := 1, sent := 5, t1 := e }, ch := { rxBuf := l, lastTx := some 0 } }

/-- Obligations.T1Exchange: the last I-block 00 00 02 90 00 92, S(WTX request) C3 with 2, a block with a parity error, an unfinished one, and silence. -/
theorem test_t1 :
    (blockOf false 0#8 [0x90#8, 0#8] = [0#8, 0#8, 2#8, 0x90#8, 0#8, 0x92#8]) ∧
    (let s := exchanging (t1Slot {} ([0#8, 0#8, 2#8, 0x90#8, 0#8, 0x92#8].map good))
     meets [s.wf, (s.slot 63).inT1, 2 ≤ (s.slot 63).ifsd] (.t1BlockReceived 63) s
       (fun t => (t.slot 63).pr.lastEnd = 1 && ((t.txn 5).bind (·.outDone)).any fun o => o.resp = [0x90#8, 0#8])) = true ∧
    slotDoes (t1Slot {} ((blockOf false 0xC3#8 [2#8]).map good)) (fun x => x.inT1) .t1BlockReceived (fun y => y.ch.txq = [0#8, 0xE3#8, 1#8, 2#8, 0xE0#8] && y.pr.t1.wtx = 2) = true ∧
    slotDoes (t1Slot {} [good 0#8, good 0#8, good 0#8, { data := 0#8, parity := false, framing := true }])
      (fun x => x.pr.t1.attempts < x.blkRetry && blockNeed false (x.ch.rxBuf.map (·.data)) = some 4) .t1BlockReceived (fun y => y.ch.txq = [0#8, 0x81#8, 0#8, 0x81#8]) = true ∧
    slotDoes (t1Slot {} [good 0#8]) (fun x => x.inT1 && blockNeed false (x.ch.rxBuf.map (·.data)) = none) .cwtExpired (fun y => y.ch.txq = [0#8, 0x82#8, 0#8, 0x82#8]) = true ∧
    slotDoes (t1Slot { bwtArmed := true } []) (fun x => x.inT1) .bwtExpired (fun y => y.ch.txq = [0#8, 0x82#8, 0#8, 0x82#8] && y.pr.t1.attempts = 1) = true ∧
    slotDoes (t1Slot { bwtArmed := true, attempts := 3 } []) (fun x => x.blkRetry ≤ x.pr.t1.attempts && x.pr.t1.rsync < x.rsyncMax) .bwtExpired
      (fun y => y.ch.txq = [0#8, 0xC0#8, 0#8, 0xC0#8] && y.pr.mode = .resynch) = true ∧
    (let s := { at_ 63 { t1Slot {} [] with pr := { mode := .t1, firstTx := some 0 }, regs := { protCfg := 0x08000000#32 } } with tide := { val := 1600000#64 } }
     meets [0 + 2 ^ (fld (s.slot 63).regs.protCfg 30 27 - 1) * 1600000 ≤ s.ltide.toNat] (.exchLimit 63) s (fun t => (t.slot 63).pr.lastEnd = 11 && (t.slot 63).pr.mode = .idle)) = true := by
  decide +kernel
/-- Obligations.DispatchReservesSlots. -/
theorem test_dispatch :
    meets [live.wf, live.pick 63 = none] (.slotDispatch 63) live (fun t => t = live) = true ∧
    (let s := withTxn (at_ 63 (inUse .ready)) { cardTxn with stage := .wait, target := .slot 63 }
     meets [s.wf, s.canStart { cardTxn with stage := .wait, target := .slot 63 } 63] (.slotDispatch 63) s
       (fun t => (t.slot 63).holder = some 5 && ((t.txn 5).map (·.stage)) = some .intent)) = true ∧
    (let s := withTxn (setOf three { diverged := true }) { cardTxn with stage := .wait, target := .set 0 }
     meets [s.wf, s.pick 8 = some 5] (.slotDispatch 8) s (fun t => ((t.txn 5).bind (·.outDone)).any fun o => o.status = 0x23)) = true ∧
    (let s := withTxn (setOf three {}) { cardTxn with stage := .wait, target := .set 0 }
     meets [s.pick 8 = some 5, (s.cset 0).serving = [0, 8, 16]] (.slotDispatch 8) s
       (fun t => (t.slot 0).holder = some 5 && (t.slot 16).holder = some 5 && (t.slot 63).holder = none)) = true := by
  decide +kernel

/-- Obligations.IntentBeforeExchange. -/
theorem test_intent :
    (let s := withTxn (at_ 63 { inUse .ready with holder := some 5 }) intentTxn
     meets [s.wf, !s.saturated, s.flow.outq = [], s.boundCore 63 = none] (.intentCommit 5) s
       (fun t => (t.slot 63).st = .busy && (t.slot 63).pr.mode = .t0 && (t.slot 63).ch.txq = [0#8, 0xA4#8, 4#8, 0#8, 0#8] && t.flow.jNext = 2 &&
         (t.records.map fun e => e.2.seq) = [1])) = true ∧
    (let s := withTxn { live with flow := { outq := [9] } } intentTxn
     meets [s.flow.outq ≠ []] (.intentCommit 5) s (fun t => t = s)) = true ∧
    (let s := withTxn { live with tide := { val := 2#64 } } { intentTxn with dws := entryOf [(0, 1#32), (4, 1#32)] }
     meets [] (.intentCommit 5) s (fun t => ((t.txn 5).bind (·.outDone)).any fun o => o.status = 0x10)) = true ∧
    (let s := withTxn { live with flow := { jNext := 2 ^ 64 } } intentTxn
     meets [s.saturated] (.intentCommit 5) s (fun t => ((t.txn 5).bind (·.outDone)).any fun o => o.status = 0x11)) = true ∧
    (let s := withTxn (at_ 63 { inUse .ready with holder := some 5 }) { intentTxn with sm := true }
     meets [] (.intentCommit 5) s (fun t => (t.slot 63).pr.smWait && (t.slot 63).ch.txq = [])) = true ∧
    (let s := withTxn ((at_ 63 { inUse .ready with holder := some 5 }).modCore 3 fun c => { c with scrBind := 0x8000000000000000#64 }) intentTxn
     meets [s.boundCore 63 = some 3] (.intentCommit 5) s (fun t => (t.slot 63).pr.mode = .script)) = true ∧
    (let s := withTxn (setOf three {}) { intentTxn with target := .set 0, slots := [0, 8, 16] }
     meets [s.roundTargets { intentTxn with target := .set 0, slots := [0, 8, 16] } 0 = [0, 1, 2]] (.intentCommit 5) s
       (fun t => (t.slot 16).st = .busy && ((t.txn 5).map fun z => z.rounds.running) = some [0, 1, 2])) = true := by
  decide +kernel

/-- A completion of transaction 5 of pair 1 with response 90 00, on a pair with rings of 16 and quota q. -/
def completing (q : QPair) (f : Flow) : State :=
  withTxn (({ ringOn live with flow := f } : State).modQp 1 fun _ => q)
    { cardTxn with stage := .complete, jseq := 3, outDone := some { cls := .done, resp := [0x90#8, 0#8], respLen := 2 } }

/-- Obligations.OutcomeAndCompletion. -/
theorem test_outcome_completion :
    (let s := withTxn { live with flow := { outq := [5], jNext := 3 } } { cardTxn with stage := .outcome, outDone := some {} }
     meets [s.wf] (.outcomeCommit 5) s (fun t => t.flow.outq = [] && t.flow.unwritten = [3] && ((t.txn 5).map (·.jseq)) = some 3)) = true ∧
    (let s := withTxn { live with flow := { outq := [6, 5] } } { cardTxn with stage := .outcome, outDone := some {} }
     meets [s.flow.outq = [6, 5]] (.outcomeCommit 5) s (fun t => t = s)) = true ∧
    (let s := { completing { st := .enabled } {} with dev := {} }
     meets [!s.linkUp .a, s.joined 1 = none] (.completionWrite 5) s (fun t => ((t.txn 5).map (·.held)) = some true && t.out = [])) = true ∧
    (let s := (completing { st := .enabled } {}).setTxn 6 (some { cardTxn with stage := .complete, jseq := 2, outDone := some {} })
     meets [(s.orderedWith 1).contains 1] (.completionWrite 5) s (fun t => (t.txn 5).isSome && t.out = [])) = true ∧
    (let s := completing { st := .enabled } {}
     meets [(s.qp 1).outstanding < (s.qp 1).cqSize - 1] (.completionWrite 5) s (fun t => t.txn 5 = none && (t.qp 1).cqTail = 1 && 3 ≤ t.out.length)) = true ∧
    (let s := completing { st := .enabled, cqTail := 15, cfg := 0x01042000#32 } {}
     meets [(s.qp 1).cqSize - 1 ≤ (s.qp 1).outstanding, 0 < (s.qp 1).quota] (.completionWrite 5) s (fun t => t.flow.spill.length = 1 && t.txn 5 = none)) = true ∧
    (let s := completing { st := .enabled, cqTail := 15, cfg := 0x00002000#32 } {}
     meets [(s.qp 1).cqSize - 1 ≤ (s.qp 1).outstanding, (s.qp 1).quota = 0] (.completionWrite 5) s (fun t => (t.qp 1).stalled)) = true := by
  decide +kernel

/-- The device with transaction 5 as x, which has asked the symmetric lane. -/
def asks (s : State) (x : Txn) : State := { withTxn s x with crypto := { s.crypto with asked := [5] } }

/-- Obligations.SecureMessaging: a wrap, a response of SW1 SW2 alone, and one too short to hold a MAC. -/
theorem test_secure_messaging :
    (let s := asks (at_ 63 { inUse .busy with holder := some 5, pr := { mode := .t0, smWait := true } }) { intentTxn with stage := .exch, sm := true }
     meets [s.wf, s.laneServes 5] (.smWrap 5) s (fun t => !(t.slot 63).pr.smWait && ((t.txn 5).map (·.smSsc)) = some 1#64 && ((t.txn 5).map (·.cmd.length)) = some 14)) = true ∧
    (let s := asks (at_ 63 { inUse .busy with holder := some 5, pr := { mode := .t0 } }) { intentTxn with stage := .exch, sm := true, wrapped := [0x90#8, 0#8] }
     meets [smUnwrap 0 0 0 [0x90#8, 0#8] = some [0x90#8, 0#8]] (.smUnwrap 5) s
       (fun t => (t.slot 63).holder = none && ((t.txn 5).bind (·.outDone)).any fun o => o.cls = .done)) = true ∧
    (let s := asks (at_ 63 { inUse .busy with holder := some 5, pr := { mode := .t0 } }) { intentTxn with stage := .exch, sm := true, wrapped := [1#8, 2#8, 3#8] }
     meets [smUnwrap 0 0 1 [1#8, 2#8, 3#8] = none] (.smUnwrap 5) s (fun t => t.count 63 33 = 1 && ((t.txn 5).bind (·.outDone)).any fun o => o.status = 0x8C)) = true ∧
    (let s := (asks (at_ 63 { inUse .busy with holder := some 5, pr := { mode := .t0, smWait := true } }) { intentTxn with stage := .exch, sm := true })
     meets [!({ s with crypto := {} } : State).laneServes 5] (.smWrap 5) { s with crypto := {} } (fun t => t = { s with crypto := {} })) = true := by
  decide +kernel

/-- The device with session 64 open on slot 63, READY. -/
def withSession : State := (at_ 63 (inUse .ready)).setSession 64 { isOpen := true, target := 63 }

/-- Obligations.EntriesFetchedAndChecked. -/
theorem test_entries :
    (let s := (ringOn live).modQp 511 fun x => { x with st := .enabled, sqTail := 1 }
     meets [s.wf, s.nextFetch = some 511, s.freeTxn = some 0] (.sqFetch 511 (.entry (entryOf [(0, 4#32)]))) s
       (fun t => (t.txn 0).isSome && (t.qp 511).sqHead = 1) &&
     meets [!opcodeKnown 0] (.sqFetch 511 (.entry (entryOf []))) s (fun t => ((t.txn 0).bind (·.outDone)).any fun o => o.status = 0x01) &&
     meets [] (.sqFetch 511 (.error 9#32)) s (fun t => ((t.txn 0).bind (·.outDone)).any fun o => o.status = 0x0D)) = true ∧
    meets [live.nextFetch ≠ some 0] (.sqFetch 0 (.error 9#32)) live (fun t => t = live) = true ∧
    (let s := withTxn withSession cardTxn
     meets [s.wf, s.cardCheck cardTxn = 0] (.cardCmd 5) s (fun t => ((t.txn 5).map (·.target)) = some (.slot 63))) = true ∧
    (let s := withTxn live cardTxn
     meets [s.cardCheck cardTxn = 5] (.cardCmd 5) s (fun t => ((t.txn 5).bind (·.outDone)).any fun o => o.status = 5)) = true ∧
    (let x : Txn := { qp := 1, dws := entryOf [(0, 2#32), (3, 63#32), (12, 4#32)], role := 1 }
     let s := withTxn (at_ 63 (inUse .ready)) x
     meets [s.openCheck x = 0] (.openSession 5) s (fun t => t.lookup 64#32 = some 64 && (t.session 64).target = 63)) = true ∧
    (let x : Txn := { qp := 1, dws := entryOf [(0, 2#32), (3, 62#32), (12, 4#32)], role := 1 }
     let s := withTxn live x
     meets [s.openCheck x = 0x0C] (.openSession 5) s (fun t => ((t.txn 5).bind (·.outDone)).any fun o => o.status = 0x0C)) = true ∧
    (let x : Txn := { qp := 1, dws := entryOf [(0, 3#32), (2, 64#32)], role := 1 }
     let s := withTxn withSession x
     meets [s.plainCheck x true = 0] (.closeSession 5) s (fun t => !(t.session 64).isOpen && t.gen 64 = 1#8)) = true ∧
    (let x : Txn := { qp := 1, dws := entryOf [(0, 3#32), (2, 64#32)], role := 1 }
     let s := withTxn live x
     meets [s.plainCheck x true = 5] (.closeSession 5) s (fun t => ((t.txn 5).bind (·.outDone)).any fun o => o.status = 5)) = true ∧
    (let x : Txn := { qp := 1, dws := entryOf [(0, 4#32)], role := 1 }
     meets [] (.nop 5) (withTxn live x) (fun t => ((t.txn 5).bind (·.outDone)).any fun o => o.status = 0)) = true ∧
    (let x : Txn := { cardTxn with stage := .gather, sess := 64, target := .slot 63 }
     let s := withTxn withSession x
     let r : GatherRead := { cmdList := some [], respList := some [], cmd := some [0#8, 0xA4#8, 4#8, 0#8, 0#8] }
     meets [x.gatherFail r = 0, s.byteCheck x r.cmd = 0, r.wellFormed] (.cmdGather 5 r) s (fun t => ((t.txn 5).map (·.stage)) = some .wait) &&
     meets [x.gatherFail { r with cmd := none } = 0x0D, s.byteCheck x none = 0] (.cmdGather 5 { r with cmd := none }) s
       (fun t => ((t.txn 5).bind (·.outDone)).any fun o => o.status = 0x0D) &&
     meets [s.byteCheck x (some [0xFF#8, 0xA4#8, 4#8, 0#8, 0#8]) = 6] (.cmdGather 5 { r with cmd := some [0xFF#8, 0xA4#8, 4#8, 0#8, 0#8] }) s
       (fun t => ((t.txn 5).bind (·.outDone)).any fun o => o.status = 6) &&
     meets [1024 < (s.setTxn 6 (some { x with stage := .wait, chunks := 1024 })).chunksUsed + s.chunksFor x] (.cmdGather 5 r)
       (s.setTxn 6 (some { x with stage := .wait, chunks := 1024 })) (fun t => ((t.txn 5).map (·.stage)) = some .gather)) = true := by
  decide +kernel

/-- The device with pair 511 as q and log-in 0x10 of an operator, path A up. -/
def paired (q : QPair) : State := ({ ringOn live with logins := [(0, { live := true, gen := 1, role := 1 })] } : State).modQp 511 fun _ => q

/-- Obligations.QueuePairs. -/
theorem test_queue_pairs :
    meets [(paired { login := 16#32 }).wf, (paired {}).loginRole 16#32 = some 1] (.qpEnable .fw 511 0#32) (paired { login := 16#32 })
      (fun t => (t.qp 511).st = .enabled && (t.qp 511).role = 1) = true ∧
    meets [(paired {}).loginRole 0#32 = none] (.qpEnable .fw 511 0#32) (paired {}) (fun t => (t.qp 511).cmdErr = .value) = true ∧
    meets [] (.qpEnable .fw 511 0#32) (paired { st := .enabled }) (fun t => (t.qp 511).cmdErr = .state) = true ∧
    meets [] (.qpDisable .fw 511 0#32) (withTxn (paired { st := .enabled }) { cardTxn with qp := 511 })
      (fun t => (t.qp 511).st = .draining && ((t.txn 5).bind (·.outDone)).any fun o => o.status = 0x13) = true ∧
    meets [] (.qpDisable .fw 511 0#32) (paired { st := .draining }) (fun t => (t.qp 511).cmdErr = .state) = true ∧
    meets [(paired {}).linkUp .a] (.resume .fw 511 0#32) (paired { st := .suspended }) (fun t => (t.qp 511).st = .enabled) = true ∧
    meets [fld 0xF0000#32 31 16 < (paired {} |>.qp 511).sqSize] (.resumeAt .fw 511 0xF0000#32) (paired { st := .suspended }) (fun t => (t.qp 511).sqHead = 15) = true ∧
    meets [] (.resumeAt .fw 511 0x100000#32) (paired { st := .suspended }) (fun t => (t.qp 511).cmdErr = .value && (t.qp 511).st = .suspended) = true ∧
    meets [] (.resume .fw 511 0#32) (paired {}) (fun t => (t.qp 511).cmdErr = .state) = true ∧
    meets [] (.qpEnable .fw 511 2#32) (paired {}) (fun t => (t.qp 511).cmdErr = .multiple) = true ∧
    meets [(paired {}).ackOf 511 = 0] (.ackPersist 511) (paired {}) (fun t => t = paired {}) = true ∧
    meets [(paired { passed := some 4, checkpoint := some (0, 4) }).ackOf 511 = 4] (.ackPersist 511) (paired { passed := some 4, checkpoint := some (0, 4), ackAt := some 0 })
      (fun t => tget 0 t.mram.acks 511 = 4 && t.now = 4800000) = true := by
  decide +kernel

/-- The device in service, its dictionary loaded, with pair 511 as q. -/
def served (q : QPair) : State := { (paired q) with dev := { (paired q).dev with recovery := 3 }, boot := { loaded := true } }

/-- Obligations.Doorbells: the highest index of a ring of 16, and one past it; a checkpoint passed and not passed. -/
theorem test_doorbells :
    meets [(served { st := .enabled }).wf] (.sqTailDoorbell .a 511 15#32) (served { st := .enabled }) (fun t => (t.qp 511).sqTail = 15 && !(t.qp 511).dbErr) = true ∧
    meets [] (.sqTailDoorbell .a 511 16#32) (served { st := .enabled }) (fun t => (t.qp 511).sqTail = 0 && (t.qp 511).dbErr) = true ∧
    meets [] (.cqHeadDoorbell .b 511 3#32) (served { st := .enabled, cqTail := 4 }) (fun t => (t.qp 511).cqHead = 3) = true ∧
    meets [] (.cqHeadDoorbell .b 511 5#32) (served { st := .enabled, cqTail := 4 }) (fun t => (t.qp 511).cqHead = 0 && (t.qp 511).dbErr) = true ∧
    meets [] (.cqHeadDoorbell .b 511 3#32) (served { st := .enabled, cqTail := 4, checkpoint := some (2, 9) })
      (fun t => (t.qp 511).passed = some 9 && (t.qp 511).checkpoint = none) = true ∧
    meets [] (.cqHeadDoorbell .b 511 2#32) (served { st := .enabled, cqTail := 4, checkpoint := some (2, 9) }) (fun t => (t.qp 511).checkpoint = some (2, 9)) = true ∧
    (let s := served { st := .enabled, cqTail := 15 }
     let e : Spill := { ring := 511, qp := 511, tag := 1#32, jseq := 8, trunc := false, o := {} }
     meets [s.linkUp .a] (.cqHeadDoorbell .a 511 1#32) { s with flow := { s.flow with spill := [e], unwritten := [8] } }
       (fun t => t.flow.spill = [] && (t.qp 511).cqTail = 0 && t.flow.unwritten = [])) = true := by
  decide +kernel

/-- Obligations.LinksAndEvents. -/
theorem test_links_and_events :
    (let s := ((ringOn live).modQp 1 fun q => { q with st := .enabled, cfg := 0x41002002#32 }).modQp 2 fun q => { q with st := .enabled, cfg := 0x61002001#32 }
     meets [s.wf, s.linkUp .a, s.joinedOn .a = [1]] (.linkDown .a true) s (fun t => !t.dev.linkA && (t.qp 1).st = .suspended && (t.qp 2).st = .enabled)) = true ∧
    meets [(ringOn live).joinedOn .a = []] (.linkDown .a false) (ringOn live) (fun t => t.dev.evq.any fun e => e.typ = 0x40) = true ∧
    meets [!live.linkUp .b] (.linkDown .b false) live (fun t => t = live) = true ∧
    meets [!(starting 2).linkUp .b, !((starting 2).loop 14).running] (.linkUp .b) (starting 2) (fun t => t.dev.linkB && t.dev.evq.any fun e => e.typ = 0x41) = true ∧
    meets [fld 14#32 11 0 < 15] (.evrCfgWrite .fw 14#32) live (fun t => t.dev.cmdErr = .value) = true ∧
    meets [(ringOn live).dev.evrEn] (.evrCfgWrite .fw 0x90000010#32) (ringOn live) (fun t => t.dev.cmdErr = .locked) = true ∧
    meets [] (.evrCfgWrite .fw 0xF#32) (ringOn live) (fun t => !t.dev.evrEn && t.dev.cmdErr = .none) = true ∧
    meets [!live.dev.evrEn] (.evrCfgWrite .fw 0x8000000F#32) live (fun t => t.dev.evrEn && t.dev.evrPhase) = true ∧
    meets [] (.evrHead .fw 1#32) (ringOn live) (fun t => t.dev.cmdErr = .value) = true ∧
    meets [] (.evrHead .fw 0#32) live (fun t => t.dev.cmdErr = .state) = true ∧
    meets [] (.evrHead .fw 1#32) ((ringOn live).modDev fun d => { d with evrTail := 1 }) (fun t => t.dev.evrHead = 1) = true ∧
    (let s := (ringOn live).modDev fun d => { d with recovery := 3, evq := [{ typ := 1 }, { typ := 2 }], evrTail := 15, evrHead := 5 }
     meets [s.evrReady] .eventWrite s (fun t => t.dev.evrTail = 0 && !t.dev.evrPhase && (t.dev.evq.map (·.typ)) = [2])) = true ∧
    meets [] .eventWrite live (fun t => t = live) = true ∧
    (let s : State := { (ringOn live).modDev (fun d => { d with irqStatus := 0x8000#16 }) with msix := [(4 * 528 + 3, 1#32)] }
     meets [!bitOf (s.msixWord .a (4 * 528 + 3)) 0] (.irqMaskWrite .fw 0x7FFF#32) s (fun t => t.out = [.msix .a 528])) = true ∧
    meets [] (.spillStatusRead .fw) (live.modDev fun d => { d with spillPeak := 9 }) (fun t => t.lastRead = 0x90000#32 && t.dev.spillPeak = 0) = true := by
  decide +kernel
/-- Set 0 before it is enabled: slots 0, 8 and 16, all READY. -/
def idleSet : State := (setOf three {}).modSet 0 fun c => { c with enabled := false, pos := [.unused, .unused, .unused, .unused, .unused, .unused], shown := 0 }

/-- Obligations.CardSetCommands. -/
theorem test_card_set_commands :
    (idleSet.wf = true ∧ idleSet.allows .fw 2 = true ∧ 0x700#32 &&& 0x1F#32 = 0#32) ∧
    meets [] (.setEnable .fw 0 2#32) idleSet (fun t => (t.cset 0).cmdErr = .multiple) = true ∧
    meets [5 < fld 0x600#32 10 8] (.eject .fw 0 0x600#32) idleSet (fun t => (t.cset 0).cmdErr = .value) = true ∧
    meets [!(idleSet.cset 31).mapOk] (.setEnable .fw 31 0#32) idleSet (fun t => (t.cset 31).cmdErr = .value) = true ∧
    meets [((setOf three {}).cset 0).mapOk] (.setEnable .fw 0 0#32) (setOf three {}) (fun t => (t.cset 0).cmdErr = .state) = true ∧
    meets [(idleSet.cset 0).mapOk, !idleSet.mapTaken 0] (.setEnable .fw 0 0x500#32) idleSet (fun t => (t.cset 0).enabled && (t.cset 0).pos = three) = true ∧
    meets [] (.setDisable .fw 0 0#32) idleSet (fun t => (t.cset 0).cmdErr = .state) = true ∧
    meets [] (.setDisable .fw 0 0#32) (setOf three {}) (fun t => !(t.cset 0).enabled) = true ∧
    meets [] (.setDisable .fw 0 0#32) (withTxn (setOf three {}) { cardTxn with stage := .exch, target := .set 0 }) (fun t => (t.cset 0).enabled && (t.cset 0).draining) = true ∧
    meets [] (.clearDiverged .fw 0 0#32) (setOf three { diverged := true }) (fun t => !(t.cset 0).diverged && (t.cset 0).cmdErr = .none) = true ∧
    meets [] (.clearDiverged .fw 0 0#32) (setOf three {}) (fun t => (t.cset 0).cmdErr = .state) = true ∧
    meets [] (.setRejoin .fw 0 0x200#32) (setOf [.member, .member, .out, .unused, .unused, .unused] {}) (fun t => (t.cset 0).pos = three) = true ∧
    meets [] (.setRejoin .fw 0 0x200#32) (setOf three {}) (fun t => (t.cset 0).cmdErr = .state) = true ∧
    (let s := (setOf [.member, .member, .member, .unused, .out, .unused] {}).modSet 0 fun c => { c with mapHi := 0xBF#32 }
     meets [(s.cset 0).c ≤ (s.cset 0).members, (s.slot ((s.cset 0).slotOf 4)).st = .ready] (.setRejoin .fw 0 0x400#32) s (fun t => (t.cset 0).at 4 = .reserve)) = true ∧
    meets [] (.eject .fw 0 0x200#32) (setOf three {}) (fun t => (t.cset 0).at 2 = .out && (t.cset 0).cause.getD 2 0 = 4) = true ∧
    meets [] (.eject .fw 0 0x500#32) (setOf three {}) (fun t => (t.cset 0).cmdErr = .state) = true := by
  decide +kernel

/-- A response of a member. -/
def said (b : Byte) : Option MemberResp := some { done := true, resp := [b, 0#8], status := 0, cause := 0, sent := 5, cls := .done }

/-- Set 0 at the end of a round with the responses cur and transaction 5. -/
def roundOver (f : Word) (r : Rounds) : State :=
  withTxn (setOf three {}) { cardTxn with dws := entryOf [(0, f ||| 1#32), (12, 258#32)], stage := .exch, target := .set 0, slots := [0, 8, 16], rounds := r }

/-- Obligations.CardSetDecision: each row of 08 Table 8-2 on a set of three, all of a quorum of two. -/
theorem test_card_set_decision :
    (((setOf three {}).cset 0).quorum = 2 ∧ ((setOf three {}).cset 0).c = 3) ∧
    meets [(roundOver 0#32 { running := [1] }).wf] (.roundEnd 5) (roundOver 0#32 { running := [1] }) (fun t => t = roundOver 0#32 { running := [1] }) = true ∧
    (let r : Rounds := { began := true, cur := [said 1#8, said 2#8, none, none, none, none] }
     meets [mismatch ((setOf three {}).cset 0) 258 r, bitOf ((setOf three {}).cset 0).cfg 0] (.roundEnd 5) (roundOver 0x100#32 r)
       (fun t => ((t.txn 5).map fun z => (z.stage, z.rounds.retried, z.rounds.running)) = some (.exch, true, [0, 1, 2]))) = true ∧
    meets [] (.roundEnd 5) (roundOver 0#32 {}) (statusIs 0x90) = true ∧
    meets [] (.roundEnd 5) (roundOver 0#32 { began := true, cur := [said 1#8, said 1#8, none, none, none, none] })
      (fun t => statusIs 0 t && ((t.txn 5).bind (·.outDone)).any fun o => o.resp = [1#8, 0#8] && o.cls = .done) = true ∧
    meets [] (.roundEnd 5) (roundOver 0#32 { began := true, cur := [said 1#8, none, none, none, none, none] }) (statusIs 0x22) = true ∧
    meets [] (.roundEnd 5) (roundOver 0#32 { began := true, cur := [said 1#8, said 2#8, said 1#8, none, none, none] })
      (fun t => statusIs 0x21 t && (t.cset 0).at 1 = .out && (t.cset 0).suspect = 2) = true ∧
    meets [] (.roundEnd 5) (roundOver 0#32 { began := true, cur := [said 1#8, said 2#8, said 3#8, none, none, none] })
      (fun t => statusIs 0x20 t && (t.cset 0).diverged && (t.cset 0).suspect = 7) = true ∧
    meets [] (.roundEnd 5) (roundOver 0x400#32 { began := true, targets := [0], cur := [said 1#8, none, none, none, none, none] }) (statusIs 0) = true := by
  decide +kernel

/-- Sixty-four high phases that last n ck together. -/
def highs (n : Nat) : List Nat := n :: List.replicate 63 0

/-- A window of 16 characters, 64 samples of both channels, and periods counted from ck 0. -/
def fullWindow : Window :=
  { received := 1, transmitted := 15, vccN := 64, vccSum := 64 * 1500, vccMin := 1490, vccMax := 1510, curN := 64, curSum := 640, curMax := 20, dutyFrom := some 0 }

/-- Obligations.Tempering: the windows; E is 44,640 ck, so that E/4 is 11,160, and a period has 120 ck. -/
theorem test_temper_windows :
    slotDoes (inUse .ready) (fun x => x.temp.win.chars < 16) (.temperWindowEnd · .edge) (fun y => y.temp.m10 = 0#32) = true ∧
    slotDoes { inUse .busy with temp := { modeApplied := 3 } } (fun x => !x.measured) (.temperWindowEnd · (.duty (highs 5))) (fun y => y.temp.m20 = 0#32) = true ∧
    slotDoes { inUse .atr with temp := { win := { fullWindow with rise := 5581, ring := 1, eMin := -3, eMax := 3 } } } (fun x => x.measured && !x.tempered)
      (.temperWindowEnd · .edge)
      (fun y => y.temp.m10 = 0x15CD0000#32 && y.temp.pendPull = some 0 && y.temp.pendSlew = some 4 && y.temp.pendOfs = none && y.temp.win.chars = 0) = true ∧
    slotDoes { inUse .busy with temp := { cfg := 0x00010064#32, win := { fullWindow with rise := 11160, eMin := -20000, eMax := 20000 } } }
      (fun x => x.temp.limWindows = 1 && !x.temp.quenches 1) (.temperWindowEnd · .edge) (fun y => y.temp.eye && y.temp.lastLimit = 1 && y.st = .busy) = true ∧
    slotDoes { inUse .ready with temp := { win := fullWindow } } (fun x => x.measured && x.seq.clkRun) (.temperWindowEnd · (.duty (highs 3824)))
      (fun y => y.temp.pendDuty = none && y.temp.m20 = 0x03BC01F1#32) = true ∧
    slotDoes { inUse .ready with temp := { win := fullWindow } } (fun x => x.measured) (.temperWindowEnd · (.duty (highs 3823))) (fun y => y.temp.pendDuty = some 1) = true ∧
    slotDoes { inUse .ready with temp := { modeApplied := 1, win := fullWindow, runs := [0, 0, 3, 0, 0, 0] } } (fun x => x.temp.held && bitOf x.temp.cfg 24)
      (.temperWindowEnd · (.duty (highs 3071))) (fun y => y.st = .quenching && y.regs.primary = 11) = true ∧
    slotDoes { inUse .ready with temp := { modeApplied := 1, cfg := 0x00010064#32, win := fullWindow } } (fun x => !bitOf x.temp.cfg 24 && x.temp.limWindows = 1)
      (.temperWindowEnd · (.duty (highs 3071))) (fun y => y.st = .ready && y.temp.duty) = true ∧
    slotDoes { inUse .ready with temp := { modeApplied := 1, cfg := 0x00010064#32, win := fullWindow, acted := [false, false, true, false, false, false] } } (fun _ => true)
      (.temperWindowEnd · (.duty (highs 3071))) (fun y => y.st = .ready && !y.temp.duty) = true ∧
    slotDoes { inUse .ready with temp := { win := fullWindow } } (fun x => x.seq.cls = some .b) (.temperWindowEnd · .conv)
      (fun y => y.temp.m24 = 0x05DC0014#32 && y.temp.m28 = 0x000A0014#32 && y.temp.win.vccN = 0) = true ∧
    (dutyDecision 120 0 3857 = some (-1) ∧ pullDecision {} 2 5581 0 1 = some 1 ∧ slewDecision {} 6 1 0 0 = some 7) := by
  decide +kernel

/-- Obligations.Tempering: the apply points. -/
theorem test_temper_apply :
    slotDoes { inUse .ready with temp := { pendPull := some 2, pendDuty := some 1 }, ch := { lastStart := 5, applyAt := some 0 } } (fun x => x.tempered)
      (.temperApply · .a) (fun y => y.temp.app.pull = 2 && y.temp.dutyNext = some 1 && y.temp.dutyAt = 60) = true ∧
    slotDoes { inUse .ready with temp := { pendPull := some 2 }, ch := { lastStart := 5 } } (fun x => x.ch.applyAt = none) (.temperApply · .a)
      (fun y => y.temp.pendPull = some 2) = true ∧
    slotDoes { inUse .ready with temp := { cfg := 0x40000000#32, pendPull := some 2 } } (fun x => x.tempered && x.ch.rxBuf = []) (.temperApply · .b)
      (fun y => y.temp.app.pull = 1 && y.temp.modeApplied = 1) = true ∧
    slotDoes { inUse .busy with temp := { pendPull := some 2 }, pr := { mode := .t0, gate := true }, ch := { txq := [5#8] } } (fun x => x.startsBy x.pointB) (.temperApply · .b)
      (fun y => y.temp.pendPull = some 2) = true ∧
    slotDoes { st := .present, temp := { cfg := 0x80000000#32, fixed := 0x00020700#32 } } (fun x => !x.tempered) (.temperApply · .atOnce)
      (fun y => y.temp.app.pull = 2 && y.temp.app.slew = 7 && y.temp.modeApplied = 2) = true ∧
    slotDoes { st := .present, temp := { cfg := 0xC0000000#32, pendPull := some 2 } } (fun x => !x.tempered) (.temperApply · .atOnce) (fun y => y.temp.modeApplied = 3) = true ∧
    slotDoes { inUse .ready with temp := { pendPull := some 2 } } (fun x => x.tempered) (.temperApply · .atOnce) (fun y => y.temp.pendPull = some 2) = true ∧
    slotDoes { st := .present, temp := { pendPull := some 2 } } (fun x => !x.tempered) (.temperApply · .a) (fun y => y.temp.pendPull = some 2) = true := by
  decide +kernel

/-- Obligations.Tempering: the converter. -/
theorem test_converter :
    meets [live.allows .fw 2] (.go .fw 7 0x100#32) (withPolder { conv := { busy := true } }) (fun t => (t.polder 7).conv.cmdErr = .state) = true ∧
    meets [] (.go .fw 7 0x100#32) (withPolder {}) (fun t => (t.polder 7).conv.busy && (t.polder 7).convUser = some .request) = true ∧
    meets [((at_ 56 (inUse .clockstop)).slot 56).st = .clockstop] (.go .fw 7 0x10100#32) (at_ 56 (inUse .clockstop))
      (fun t => (t.polder 7).conv.holdClk && (t.slot 56).seq.restartAt = some 0) = true ∧
    meets [] (.convSample 7 9#12) (withPolder { conv := { busy := true, cfg := 0x100#32 }, convUser := some .request })
      (fun t => (t.polder 7).conv.samples = [9] && t.now = 960) = true ∧
    meets [] (.convSample 7 11#12) (withPolder { conv := { busy := true, cfg := 0x100#32, samples := [8] }, convUser := some .request })
      (fun t => (t.polder 7).conv.done && (t.polder 7).conv.mean = 9 && (t.polder 7).conv.maxC = 11 && (t.polder 7).conv.minC = 8) = true ∧
    meets [] (.convSample 7 11#12) (withPolder { conv := { busy := true }, settle := [(56, [])], convUser := some (.settle 56) })
      (fun t => (t.polder 7).conv.samples = [] && (t.polder 7).conv.preempted) = true ∧
    meets [] (.convSample 7 11#12) (withPolder { conv := { tempEn := true }, convUser := some (.temper 56 0) })
      (fun t => (t.slot 56).temp.win.vccN = 1 && (t.slot 56).temp.win.vccSum = 11 && (t.slot 56).temp.win.curN = 0) = true := by
  decide +kernel
/-- Port 3 with register block y and position 3 as x. -/
def ledger (y : Port) (x : LPos) : State := (live.modPort 3 fun _ => y).modLp 15 fun _ => x

/-- An enabled port whose clock is that of SPEED. -/
def onPort : Port := { cfg := 0xB4C8000A#32, live := 0xB4C8000A#32 }

/-- A READY card. -/
def aCard : LPos := { st := .ready, rca := 4, cid := 5#128, sectors := 1000000#32 }

/-- A card as identification finds it. -/
def foundCard : FoundCard := { cid := 9#128, specVers := 4, cSize := 0xFFF, sectors := 1000#32, cardType := 3#8, bringUp := 3 }

/-- Obligations.LedgerCards. -/
theorem test_ledger_cards :
    meets [live.wf] (.ledgerPresPresentRead 3 3) live (fun t => (t.lp 15).debounce = some 48000000) = true ∧
    meets [] (.ledgerPresPresentRead 3 3) (ledger {} aCard) (fun t => t = ledger {} aCard) = true ∧
    meets [] (.ledgerPresDebounced 3 3) (ledger onPort { debounce := some 5 }) (fun t => (t.lp 15).st = .present && (t.port 3).want = some false && t.now = 5) = true ∧
    meets [] (.ledgerPresAbsent 3 3) (withTxn (ledger { onPort with job := some { txn := some 5, pos := 3, write := false, first := 0, count := 1, sent := true } } aCard) cardTxn)
      (fun t => (t.lp 15).st = .absent && (t.port 3).job = none && t.now = 480 && statusIs 0x34 t) = true ∧
    meets [(ledger { onPort with cleanup := some 5 } aCard).ledgerReady 3 = [3]] (.removalCleanup 3 [] []) (ledger { onPort with cleanup := some 5 } aCard)
      (fun t => (t.lp 15).st = .failed && t.dev.irqStatus.getLsbD 10) = true ∧
    meets [] (.removalCleanup 3 [⟨none, 0⟩, ⟨none, 0⟩, ⟨none, 0⟩, ⟨some 0x600#32, 0⟩] [false, true]) (ledger { onPort with cleanup := some 5, strays := [17, 18] } aCard)
      (fun t => (t.lp 15).st = .ready && (t.port 3).strays = [18] && t.out.contains (.ledgerCmd 3 7 0#32)) = true ∧
    (let s := ledger { onPort with want := some false } { st := .present }
     meets [!s.portBusy 3] (.identification 3 [foundCard] false) s (fun t => (t.lp 15).st = .identifying && (t.port 3).ident = some (96000, [3], [foundCard]) && t.out.contains (.ledgerCmd 3 1 0x40000080#32))) = true ∧
    (let s := (ledger { onPort with want := some true } { st := .present }).setBinding 15 9#128
     meets [s.binding 15 = 9#128] (.identification 3 [foundCard] true) s (fun t => (t.lp 15).st = .ready && (t.lp 15).rca = 4)) = true ∧
    (let s := ledger { onPort with want := some false } { st := .present }
     meets [s.binding 15 ≠ 9#128] (.identification 3 [foundCard] true) s (fun t => (t.lp 15).rca = 0x11 && t.binding 15 = 9#128)) = true ∧
    (let s := ledger { onPort with want := some false } { st := .present }
     meets [] (.identification 3 (List.replicate 5 foundCard) true) s (fun t => (t.port 3).busFault && (t.port 3).stuck)) = true ∧
    meets [] (.cardReadyPoll 3 false) (ledger { onPort with ident := some (0, [3], []) } {}) (fun t => (t.port 3).ident.isSome && t.now = 4800000) = true ∧
    meets [] (.cardReadyPoll 3 false) { ledger { onPort with ident := some (0, [3], []) } { st := .identifying } with now := 475200000 }
      (fun t => (t.port 3).ident = none && (t.lp 15).st = .failed) = true ∧
    meets [] (.cardReadyPoll 3 true) (ledger { onPort with ident := some (0, [3], [foundCard]) } { st := .identifying }) (fun t => (t.lp 15).st = .ready) = true := by
  decide +kernel

/-- A ledger entry of opcode o for port 3, position 3, two blocks from block 100. -/
def ledgerTxn (o : Word) : Txn :=
  { qp := 1, dws := entryOf [(0, o), (3, 15#32), (8, if o = 0x11#32 then 1024#32 else 0#32), (12, if o = 0x10#32 then 1024#32 else 0#32), (13, 100#32), (14, 2#32)], role := 2,
    cmd := List.replicate 1024 7#8 }

/-- Transaction 5 in stage 7 on port 3. -/
def working (o : Word) (j : LJob) : State :=
  withTxn (ledger { onPort with job := some { j with txn := some 5, pos := 3, retries := 1 } } aCard) { ledgerTxn o with stage := .exch, target := .ledger 3 3 }

/-- A job of two blocks at a step. -/
def jobAt (st : LStep) (wr : Bool) (done : Nat) : LJob := { txn := some 5, pos := 3, write := wr, first := 100, count := 2, confirmed := done, step := st, sent := true }

/-- The step of the job of port 3. -/
def jobIs (st : LStep) (t : State) : Bool := ((t.port 3).job.map (·.step)) = some st

/-- Obligations.LedgerTransactions, up to the start of stage 7. -/
theorem test_ledger_start :
    (let s := withTxn (ledger onPort aCard) (ledgerTxn 0x10#32)
     meets [s.wf, s.ledgerCheck (ledgerTxn 0x10#32) false = 0] (.ledgerRead 5) s (fun t => ((t.txn 5).map (·.target)) = some (.ledger 3 3))) = true ∧
    (let s := withTxn (ledger {} aCard) (ledgerTxn 0x10#32)
     meets [s.ledgerCheck (ledgerTxn 0x10#32) false = 0x30] (.ledgerRead 5) s (statusIs 0x30)) = true ∧
    (let s := withTxn (ledger onPort aCard) (ledgerTxn 0x11#32)
     meets [s.ledgerCheck (ledgerTxn 0x11#32) true = 0] (.ledgerWrite 5) s (fun t => ((t.txn 5).map (·.stage)) = some .gather)) = true ∧
    meets [(working 0x10#32 (jobAt .select false 0)).portBusy 3] (.ledgerJobStart 3) (working 0x10#32 (jobAt .select false 0)) (fun t => t = working 0x10#32 (jobAt .select false 0)) = true ∧
    (let s := withTxn (ledger { onPort with width := 1 } aCard) { ledgerTxn 0x10#32 with stage := .wait, target := .ledger 3 3 }
     meets [!s.portBusy 3, s.pickLedger 3 = some 5, s.pickMirror 3 = none, (s.port 3).live = (s.port 3).cfg, (s.port 3).hs = s.ledgerHs 3, (s.port 3).width = s.ledgerWidth 3] (.ledgerJobStart 3) s
       (fun t => ((t.txn 5).map (·.stage)) = some .intent && (t.port 3).lastQp = 1)) = true ∧
    (let s := withTxn (ledger { width := 1 } aCard) { ledgerTxn 0x10#32 with stage := .wait, target := .ledger 3 3 }
     meets [(s.port 3).hs = s.ledgerHs 3, (s.port 3).width = s.ledgerWidth 3] (.ledgerJobStart 3) s (statusIs 0x30)) = true ∧
    (let s := withTxn (ledger { onPort with hs := true, width := 1 } {}) { ledgerTxn 0x10#32 with stage := .wait, target := .ledger 3 3 }
     meets [(s.port 3).hs = s.ledgerHs 3, (s.port 3).width = s.ledgerWidth 3] (.ledgerJobStart 3) s (statusIs 0x31)) = true ∧
    (let s := withTxn (ledger onPort aCard) { ledgerTxn 0x11#32 with stage := .intent, target := .ledger 3 3 }
     meets [!s.saturated, (s.port 3).selected ≠ some 3] (.intentCommit 5) s
       (fun t => jobIs .select t && t.out.getLast? = some (.ledgerCmd 3 7 0x00040000#32) && ((t.port 3).job.map fun j => (j.first, j.count, j.write)) = some (100, 2, true))) = true := by
  decide +kernel

/-- Obligations.LedgerTransactions: the exchange on the card bus. -/
theorem test_ledger_exchange :
    (r1Bits 0#32 = 0 ∧ r1Bits 0x80000000#32 ≠ 0) ∧
    meets [] (.ledgerResponse 3 (.r1 0#32)) (working 0x10#32 (jobAt .select false 0)) (jobIs .selectBusy) = true ∧
    meets [] (.busyEnd 3) (working 0x10#32 (jobAt .selectBusy false 0)) (fun t => jobIs .status t && t.out = [.ledgerCmd 3 13 0x00040000#32]) = true ∧
    meets [fld 0x800#32 12 9 = 4] (.ledgerResponse 3 (.r1 0x800#32)) (working 0x10#32 (jobAt .status false 0)) (fun t => jobIs .count t && t.out = [.ledgerCmd 3 23 2#32]) = true ∧
    meets [] (.ledgerResponse 3 (.r1 0x800#32)) (working 0x10#32 (jobAt .status false 1)) (fun t => jobIs .command t && t.out = [.ledgerCmd 3 17 101#32]) = true ∧
    meets [] (.ledgerResponse 3 (.r1 0#32)) (working 0x11#32 (jobAt .count true 0)) (fun t => jobIs .command t && t.out = [.ledgerCmd 3 25 100#32]) = true ∧
    meets [] (.ledgerResponse 3 (.r1 0#32)) (working 0x10#32 (jobAt .command false 0)) (jobIs .dataIn) = true ∧
    meets [] (.ledgerResponse 3 (.r1 0#32)) (working 0x11#32 (jobAt .command true 0)) (fun t => jobIs .token t && t.out = [.ledgerBlock 3 (List.replicate 512 7#8)]) = true ∧
    meets [] (.ledgerResponse 3 (.r1 0#32)) (working 0x11#32 (jobAt .final true 2)) (statusIs 0) = true ∧
    meets [] (.ledgerResponse 3 (.r1 0x80000000#32)) (working 0x11#32 (jobAt .command true 0)) (statusIs 0x3A) = true ∧
    meets [] (.ledgerResponse 3 (.r1 0x80000000#32)) (working 0x11#32 { jobAt .select true 0 with sent := false }) (statusIs 0x35) = true ∧
    meets [] (.ledgerBlock 3 (List.replicate 512 1#8) true) (working 0x10#32 (jobAt .dataIn false 0)) (fun t => jobIs .dataIn t && ((t.port 3).job.map (·.confirmed)) = some 1) = true ∧
    meets [] (.ledgerBlock 3 (List.replicate 512 1#8) true) (working 0x10#32 (jobAt .dataIn false 1)) (statusIs 0) = true ∧
    meets [onPort.retries ≤ 1] (.ledgerBlock 3 (List.replicate 512 1#8) false) (working 0x10#32 { jobAt .dataIn false 0 with reissues := 1 }) (statusIs 0x36) = true ∧
    meets [0 < onPort.retries] (.ledgerBlock 3 (List.replicate 512 1#8) false) (working 0x10#32 (jobAt .dataIn false 1)) (jobIs (.recover 0)) = true ∧
    meets [] (.crcStatusToken 3 true) (working 0x11#32 (jobAt .token true 0)) (jobIs .busy) = true ∧
    meets [] (.busyEnd 3) (working 0x11#32 (jobAt .busy true 0)) (fun t => jobIs .token t && ((t.port 3).job.map (·.begun)) = some 2) = true ∧
    meets [] (.busyEnd 3) (working 0x11#32 (jobAt .busy true 1)) (jobIs .final) = true ∧
    meets [] (.ledgerTimeout 3) (working 0x11#32 (jobAt .busy true 0)) (fun t => statusIs 0x39 t && t.now = 480000000) = true := by
  decide +kernel

/-- Obligations.LedgerImages: the registers of a port. -/
theorem test_ledger_registers :
    (live.allows .fw 2 = true ∧ 0x30#32 &&& 7#32 = 0#32 ∧ fld 0x30#32 5 4 = 3) ∧
    meets [] (.identify .fw 3 0x32#32) (ledger onPort aCard) (fun t => (t.port 3).cmdErr = .multiple) = true ∧
    meets [] (.identify .fw 3 0x30#32) (ledger { onPort with stuck := true } aCard) (fun t => (t.port 3).want = some true && !(t.port 3).stuck) = true ∧
    meets [] (.identify .fw 3 0x30#32) (ledger {} aCard) (fun t => (t.port 3).cmdErr = .state) = true ∧
    meets [] (.format .fw 3 0x30#32 3) (ledger onPort aCard) (fun t => (t.port 3).cmdErr = .state) = true ∧
    meets [] (.format .fw 3 0x30#32 3) (ledger onPort { aCard with cfg := 0x40000064#32, live := 0x40000064#32, sectors := 5463#32 }) (fun t => (t.port 3).cmdErr = .value) = true ∧
    meets [] (.format .fw 3 0x30#32 3) (ledger onPort { aCard with cfg := 0x40000064#32, live := 0x40000064#32, sectors := 5464#32 }) (fun t => (t.lp 15).img = .formatting) = true ∧
    meets [] (.lpUnbind .fw 3 0x30#32) ((ledger onPort aCard).setBinding 15 9#128) (fun t => t.binding 15 = 0#128) = true ∧
    meets [] (.lpCfgWrite .fw 3 0x34C80009#32) (ledger {} aCard) (fun t => (t.port 3).cmdErr = .value) = true ∧
    meets [] (.lpCfgWrite .fw 3 0xB6C8000A#32) (ledger onPort aCard) (fun t => (t.port 3).cmdErr = .locked) = true ∧
    meets [] (.lpCfgWrite .fw 3 0xB4C804B0#32) (ledger {} aCard) (fun t => (t.port 3).want = some true && (t.port 3).cfg = 0xB4C804B0#32) = true ∧
    meets [] (.lpCfgWrite .fw 3 0xB4C8000B#32) (ledger onPort aCard) (fun t => (t.port 3).cfg = 0xB4C8000B#32 && (t.port 3).want = none) = true ∧
    meets [] (.lpCfgWrite .fw 3 0x34C8000A#32) (withTxn (ledger onPort aCard) { ledgerTxn 0x10#32 with stage := .wait, target := .ledger 3 3 })
      (fun t => statusIs 0x30 t && !(t.port 3).en) = true := by
  decide +kernel

/-- A MIRROR_JOURNAL image. -/
def image (st : ImgState) : LPos := { aCard with cfg := 0x40000064#32, live := 0x40000064#32, img := st }

/-- A position with a mirror, a core running firmware. -/
def mirrorAt (y : Port) (x : LPos) : State := (ledger y x).modCore 0 fun c => { c with run := .run }

/-- A mirror command of kind k, 1 block, at a step. -/
def mirrorJob (k : MirrorKind) (wr : Bool) (st : LStep) (n : Nat) : LJob :=
  { txn := none, cmd := some ⟨k, 0, n⟩, pos := 3, write := wr, first := 0, count := n, step := st, sent := true }

/-- Obligations.LedgerImages: sweep and scan. -/
theorem test_ledger_images :
    meets [] (.mirrorSweep 3 3 0) (ledger onPort aCard) (fun t => t = ledger onPort aCard) = true ∧
    (let s := mirrorAt onPort { image .valid with dirty := [8, 7] }
     meets [s.mirrors 3 15] (.mirrorSweep 3 3 0) s
       (fun t => (t.lp 15).mq = [⟨.dataWrite 0 7, 9, 2⟩] && t.now = 48000000 && (t.lp 15).task = some (.sweep t.ltide))) = true ∧
    (let s := mirrorAt onPort (image .valid)
     meets [s.mirrors 3 15] (.mirrorSweep 3 3 0) s (fun t => (t.lp 15).task = none && (t.lp 15).sweepAt = 48000000)) = true ∧
    (let s := mirrorAt onPort { image .scanning with scan := true }
     meets [s.mirrors 3 15] (.imageScan 3 3 0 0) s (fun t => (t.lp 15).task = some .scanLabels && (t.lp 15).mq = [⟨.labelRead, 0, 2⟩])) = true ∧
    meets [] (.imageScan 3 3 0 0) (mirrorAt onPort (image .valid)) (fun t => t = mirrorAt onPort (image .valid)) = true ∧
    (let s := mirrorAt { onPort with width := 1, known := true } { image .valid with dirty := [7], mq := [⟨.dataWrite 0 7, 9, 1⟩], task := some (.sweep 0#64) }
     meets [!s.portBusy 3, s.pickLedger 3 = none, s.pickMirror 3 = some (3, ⟨.dataWrite 0 7, 9, 1⟩), (s.port 3).hs = s.ledgerHs 3] (.ledgerJobStart 3) s
       (fun t => (t.lp 15).dirty = [] && (t.lp 15).nseq = 1#64 && t.out.getLast? = some (.ledgerCmd 3 7 0x00040000#32) && t.flow.nextBseq = 1 &&
         ((t.port 3).job.map fun j => (j.first, j.count, j.write, j.step)) = some (9, 1, true, .select))) = true ∧
    (let s := mirrorAt { onPort with job := some (mirrorJob (.dataWrite 0 7) true .busy 1) } { image .valid with task := some (.sweep 0#64) }
     meets [] (.busyEnd 3) s (fun t => tget 0 (t.lp 15).copy 7 = 1 && (t.lp 15).written = 1)) = true ∧
    (let s := mirrorAt { onPort with job := some { mirrorJob .labelRead false .dataIn 2 with confirmed := 1 } } { image .scanning with task := some .scanLabels }
     let d : List Byte := List.replicate 512 0#8
     meets [s.readLabel 1 1 d = none] (.ledgerBlock 3 d true) s (fun t => (t.lp 15).img = .unformatted && (t.lp 15).task = none && t.dev.irqStatus.getLsbD 10)) = true ∧
    (copySame ({ valid := true, bseq := 3, same := true }, {}) = true ∧ currentCopy ({ valid := true, bseq := 3 }, { valid := true, bseq := 4 }) = 2 ∧
     (scanReads 0 1 1).length = 22 ∧ imageSector 0 1 1 0 = 2733) := by
  decide +kernel

set_option maxRecDepth 20000 in
/-- Obligations.LedgerImages: a label of another device. -/
theorem test_foreign_label :
    (let s := mirrorAt { onPort with job := some { mirrorJob .labelRead false .dataIn 2 with confirmed := 1 } } { image .scanning with task := some .scanLabels }
     let b : List Byte := padTo 508 (List.replicate 448 0#8 ++ leBytes 0x4C444752 4 ++ [1#8, 3#8, 1#8, 0#8] ++ leBytes 0 4 ++ leBytes 5 8)
     let d := b ++ leBytes (crc32c b).toNat 4
     meets [s.readLabel 1 1 d = some { bseq := 5, own := false }] (.ledgerBlock 3 d true) s (fun t => (t.lp 15).img = .foreign && (t.lp 15).high = some 5)) = true := by
  decide +kernel
/-- Core 3 as c, running at 0x100 of its local SRAM. -/
def cored (c : Core) : State := live.modCore 3 fun _ => { c with run := .run, pc := 0x100#32 }

/-- The conditions of State.runsAt on core 3. -/
def ready (s : State) (long : Bool) : Bool :=
  let c := s.core 3
  (c.run = .run || c.run = .wdog) && c.rep = none && !c.wdogDue s.ltide && !c.irqDue && c.fetchTrap c.pc = none && (!long || c.fetchTrap (c.pc + 4#32) = none)

/-- Core 3 as c executes i, and p holds of it after. -/
def runs (c : Core) (long : Bool) (i : Instr) (p : Core → Bool) : Bool :=
  meets [(cored c).wf, ready (cored c) long] i (cored c) fun t => p (t.core 3)

/-- Core 3 as c takes the trap of a code with an EADDR. -/
def traps (c : Core) (i : Instr) (code : Nat) (eaddr : Word) : Bool :=
  meets [(cored c).wf] i (cored c) fun t =>
    let d := t.core 3
    d.pc = c.tvec + BitVec.ofNat 32 (16 * code) && d.epc = 0x100#32 && d.ecause &&& 0x1F#32 = BitVec.ofNat 32 code && d.eaddr = eaddr && d.run = .run

/-- A core with g1 as a and g2 as b. -/
def two (a b : Word) : Core := { regs := tset 0#32 (tset 0#32 [] 1 a) 2 b }

/-- The hypotheses of the statements on Anvil instructions hold of a running core, for the short and the long form, and of the vector of each trap. -/
theorem test_core_runs : (cored (two 1#32 2#32)).runsAt 3 true ∧ (cored (two 1#32 2#32)).runsAt 3 false ∧ (cored (two 1#32 2#32)).vectorOk 3 6 ∧ (cored {}).vectorOk 3 13 := by
  unfold State.runsAt State.vectorOk
  decide +kernel

/-- Obligations.AluRegisterForms: carries, overflows, shift counts of 0, 31, 32 and 63, the edge of DIV, g0. -/
theorem test_alu_register :
    runs (two 0xFFFFFFFF#32 1#32) false (.add 3 4 1 2) (fun c => c.g 4 = 0#32 && c.psr = 0x60000000#32 && c.pc = 0x104#32) = true ∧
    runs (two 0x7FFFFFFF#32 1#32) false (.add 3 0 1 2) (fun c => c.g 0 = 0#32 && c.psr = 0x90000000#32) = true ∧
    runs { two 5#32 6#32 with psr := 0x20000000#32 } false (.adc 3 4 1 2) (fun c => c.g 4 = 12#32) = true ∧
    runs (two 5#32 6#32) false (.sub 3 4 1 2) (fun c => c.g 4 = 0xFFFFFFFF#32 && c.psr = 0x80000000#32) = true ∧
    runs (two 6#32 5#32) false (.sbc 3 4 1 2) (fun c => c.g 4 = 0#32 && c.psr = 0x60000000#32) = true ∧
    runs (two 0x80000000#32 0#32) false (.neg 3 4 1) (fun c => c.g 4 = 0x80000000#32 && c.psr = 0x90000000#32) = true ∧
    runs (two 5#32 5#32) false (.cmp 3 1 2) (fun c => c.psr = 0x60000000#32) = true ∧
    runs (two 12#32 10#32) false (.andn 3 4 1 2) (fun c => c.g 4 = 4#32) = true ∧
    runs (two 12#32 3#32) false (.tst 3 1 2) (fun c => c.psr = 0x40000000#32) = true ∧
    runs (two 12#32 10#32) false (.xor 3 31 1 2) (fun c => c.g 31 = 6#32) = true ∧
    runs (two 12#32 10#32) false (.and 3 4 1 2) (fun c => c.g 4 = 8#32) = true ∧
    runs (two 12#32 10#32) false (.or 3 4 1 2) (fun c => c.g 4 = 14#32) = true ∧
    runs { two 1#32 64#32 with psr := 0x20000000#32 } false (.shl 3 4 1 2) (fun c => c.g 4 = 1#32 && c.psr = 0x20000000#32) = true ∧
    runs (two 1#32 32#32) false (.shl 3 4 1 2) (fun c => c.g 4 = 0#32 && c.psr = 0x60000000#32) = true ∧
    runs (two 0x80000000#32 31#32) false (.shr 3 4 1 2) (fun c => c.g 4 = 1#32 && c.psr = 0#32) = true ∧
    runs (two 0x80000000#32 63#32) false (.sar 3 4 1 2) (fun c => c.g 4 = 0xFFFFFFFF#32 && c.psr = 0xA0000000#32) = true ∧
    runs (two 0x80000001#32 33#32) false (.rol 3 4 1 2) (fun c => c.g 4 = 3#32 && c.psr = 0x20000000#32) = true ∧
    runs (two 0x80000001#32 1#32) false (.ror 3 4 1 2) (fun c => c.g 4 = 0xC0000000#32 && c.psr = 0xA0000000#32) = true ∧
    runs (two 0x10000#32 0x10001#32) false (.mul 3 4 1 2) (fun c => c.g 4 = 0x10000#32) = true ∧
    runs (two 0xFFFFFFFF#32 2#32) false (.mulh 3 4 1 2) (fun c => c.g 4 = 0xFFFFFFFF#32) = true ∧
    runs (two 0xFFFFFFFF#32 2#32) false (.mulhu 3 4 1 2) (fun c => c.g 4 = 1#32) = true ∧
    runs (two 0x80000000#32 0xFFFFFFFF#32) false (.div 3 4 1 2) (fun c => c.g 4 = 0x80000000#32 && bitOf c.psr 28) = true ∧
    runs (two 0xFFFFFFF9#32 2#32) false (.rem 3 4 1 2) (fun c => c.g 4 = 0xFFFFFFFF#32 && !bitOf c.psr 28) = true ∧
    runs (two 0xFFFFFFF9#32 2#32) false (.divu 3 4 1 2) (fun c => c.g 4 = 0x7FFFFFFC#32) = true ∧
    runs (two 7#32 0#32) false (.remu 3 4 1 2) (fun c => c.g 4 = 7#32 && bitOf c.psr 28) = true ∧
    traps { two 7#32 0#32 with psr := 0x100#32 } (.div 3 4 1 2) 6 7#32 = true ∧
    runs (two 0x80#32 0#32) false (.sextB 3 4 1) (fun c => c.g 4 = 0xFFFFFF80#32) = true ∧
    runs (two 0x18000#32 0#32) false (.sextH 3 4 1) (fun c => c.g 4 = 0xFFFF8000#32) = true ∧
    runs (two 0#32 0#32) false (.clz 3 4 1) (fun c => c.g 4 = 32#32) = true ∧
    runs (two 0x00800000#32 0#32) false (.clz 3 4 1) (fun c => c.g 4 = 8#32) = true := by
  decide +kernel

/-- Obligations.AluImmediateForms: signs extended or not, the long form's eight bytes. -/
theorem test_alu_immediate :
    runs (two 5#32 0#32) false (.addi 3 4 1 (.short 0xFFFF#16)) (fun c => c.g 4 = 4#32 && c.pc = 0x104#32) = true ∧
    runs (two 5#32 0#32) true (.addi 3 4 1 (.long 0x10000#32)) (fun c => c.g 4 = 0x10005#32 && c.pc = 0x108#32) = true ∧
    runs (two 0xFFFFFFFF#32 0#32) false (.andi 3 4 1 (.short 0xFFFF#16)) (fun c => c.g 4 = 0xFFFF#32) = true ∧
    runs (two 1#32 0#32) false (.ori 3 4 1 (.short 0x8000#16)) (fun c => c.g 4 = 0x8001#32) = true ∧
    runs (two 1#32 0#32) false (.xori 3 4 1 (.short 3#16)) (fun c => c.g 4 = 2#32) = true ∧
    runs (two 0xFFFFFFFF#32 0#32) false (.cmpi 3 1 (.short 0xFFFF#16)) (fun c => c.psr = 0x60000000#32) = true ∧
    runs (two 0xFFFF0000#32 0#32) false (.tsti 3 1 (.short 0xFFFF#16)) (fun c => c.psr = 0x40000000#32) = true ∧
    runs (two 3#32 0#32) false (.muli 3 4 1 (.short 0xFFFE#16)) (fun c => c.g 4 = 0xFFFFFFFA#32) = true ∧
    runs (two 1#32 0#32) false (.shli 3 4 1 31#6 false) (fun c => c.g 4 = 0x80000000#32) = true ∧
    runs (two 2#32 0#32) true (.shri 3 4 1 2#6 true) (fun c => c.g 4 = 0#32 && c.psr = 0x60000000#32 && c.pc = 0x108#32) = true ∧
    runs (two 0x80000000#32 0#32) false (.sari 3 4 1 63#6 false) (fun c => c.g 4 = 0xFFFFFFFF#32) = true ∧
    runs (two 1#32 0#32) false (.roli 3 4 1 32#6 false) (fun c => c.g 4 = 1#32) = true ∧
    runs (two 1#32 0#32) false (.rori 3 4 1 1#6 false) (fun c => c.g 4 = 0x80000000#32) = true ∧
    runs {} false (.lui 3 4 0xABCD#16) (fun c => c.g 4 = 0xABCD0000#32 && c.psr = 0#32) = true ∧
    runs {} true (.li 3 4 0x12345678#32) (fun c => c.g 4 = 0x12345678#32 && c.pc = 0x108#32) = true := by
  decide +kernel

/-- A memory operand: segment 0, base g1, displacement v. -/
def memAt (v : BitVec 12) (post : Bool := false) : MemArg := { seg := 0, ra := 1, post := post, disp := .short v }

/-- Core 3 with g1 as a and g2 as b, bytes 81 82 83 84 at 0x20000000, and 85 at 0x13000000's local place 0x10. -/
def withData (a b : Word) : State := { cored (two a b) with sram := [(0x20000000, 0x81#8), (0x20000001, 0x82#8), (0x20000002, 0x83#8), (0x20000003, 0x84#8)] }

/-- Obligations.LoadsAndStores. -/
theorem test_loads_and_stores :
    ((withData 0x20000004#32 0#32).wf = true ∧ ready (withData 0x20000004#32 0#32) true = true) ∧
    meets [((withData 0x20000004#32 0#32).core 3).accTrap 0 .load 0x20000003 1 = none] (.ldB 3 4 (memAt 0xFFF#12)) (withData 0x20000004#32 0#32)
      (fun t => (t.core 3).g 4 = 0xFFFFFF84#32 && (t.core 3).g 1 = 0x20000004#32) = true ∧
    meets [] (.ldBu 3 4 (memAt 1#12 true)) (withData 0x20000000#32 0#32) (fun t => (t.core 3).g 4 = 0x81#32 && (t.core 3).g 1 = 0x20000001#32) = true ∧
    meets [] (.ldH 3 4 (memAt 2#12)) (withData 0x20000000#32 0#32) (fun t => (t.core 3).g 4 = 0xFFFF8483#32) = true ∧
    meets [] (.ldHu 3 4 (memAt 2#12)) (withData 0x20000000#32 0#32) (fun t => (t.core 3).g 4 = 0x8483#32) = true ∧
    meets [] (.ldW 3 4 { seg := 0, ra := 1, post := false, disp := .long 0#32 }) (withData 0x20000000#32 0#32) (fun t => (t.core 3).g 4 = 0x84838281#32 && (t.core 3).pc = 0x108#32) = true ∧
    meets [] (.stB 3 2 (memAt 0#12)) (withData 0x20000000#32 0x1FF#32) (fun t => t.sramByte 0x20000000 = 0xFF#8 && t.sramByte 0x20000001 = 0x82#8) = true ∧
    meets [] (.stH 3 2 (memAt 2#12)) (withData 0x20000000#32 0x1234#32) (fun t => t.sramByte 0x20000002 = 0x34#8 && t.sramByte 0x20000003 = 0x12#8) = true ∧
    meets [] (.stW 3 2 (memAt 4#12 true)) (withData 0x20000000#32 0#32) (fun t => t.sram = [] && (t.core 3).g 1 = 0x20000004#32) = true ∧
    meets [((withData 0x20000000#32 7#32).core 3).accTrap 0 .swap 0x20000000 4 = none] (.swapW 3 2 (memAt 0#12)) (withData 0x20000000#32 7#32)
      (fun t => (t.core 3).g 2 = 0x84838281#32 && t.sram = [(0x20000000, 7#8)]) = true ∧
    meets [((withData 0x50000000#32 0#32).core 3).accTrap 0 .load 0x50000000 4 ≠ none] (.ldW 3 4 (memAt 0#12)) (withData 0x50000000#32 0#32)
      (fun t => (t.core 3).ecause &&& 0x1F#32 = 2#32 && (t.core 3).eaddr = 0x50000000#32 && (t.core 3).g 4 = 0#32) = true ∧
    meets [((withData 0x40000000#32 0#32).core 3).accTrap 0 .store 0x40000000 4 ≠ none] (.stW 3 2 (memAt 0#12)) (withData 0x40000000#32 0#32)
      (fun t => (t.core 3).ecause &&& 0x1F#32 = 2#32 && t.sram.length = 4) = true ∧
    meets [] (.movsB 3 { ss := 0, sd := 0, ra := 1, rb := 2, sfix := false, dfix := true }) (withData 0x20000003#32 0x20000000#32)
      (fun t => t.sramByte 0x20000000 = 0x84#8 && (t.core 3).g 1 = 0x20000004#32 && (t.core 3).g 2 = 0x20000000#32) = true ∧
    meets [] (.movsW 3 { ss := 0, sd := 0, ra := 1, rb := 2, sfix := true, dfix := false }) (withData 0x20000000#32 0x20000010#32)
      (fun t => t.sramByte 0x20000013 = 0x84#8 && (t.core 3).g 2 = 0x20000014#32) = true ∧
    meets [] (.movsB 3 { ss := 0, sd := 0, ra := 1, rb := 2, sfix := false, dfix := false }) (withData 0x50000000#32 0x20000000#32) (fun t => (t.core 3).eaddr = 0x50000000#32) = true ∧
    meets [] (.movsB 3 { ss := 0, sd := 0, ra := 1, rb := 2, sfix := false, dfix := false }) (withData 0x20000000#32 0x50000000#32) (fun t => (t.core 3).eaddr = 0x50000000#32) = true ∧
    (regionOf 0x20000000 = some .shared ∧ regionOf 0x2007FFFF = some .shared ∧ regionOf 0x20080000 = none) := by
  decide +kernel

/-- A core at script level with g1 as a and g2 as b, its segment 0 open to it, its area the local SRAM, slot 0 bound. -/
def scripting (a b : Word) : Core := { two a b with psr := 1#32, segs := [(0, { rights := 7#4 })], scrLimit := 0xFFFF#16, scrBind := 1#64 }

/-- Obligations.LoadsAndStores and BranchesAndSystem at script level: a store to a slot register that R309 forbids, and the instructions and registers a script may
not use. -/
theorem test_script_level :
    (((scripting 0x31000000#32 0#32).storePriv 0 .store 0x31000000 4 = true) ∧ ready (cored (scripting 0#32 0#32)) false = true) ∧
    traps (scripting 0x31000000#32 0#32) (.stW 3 2 (memAt 0#12)) 4 0x5C410000#32 = true ∧
    traps (scripting 0#32 0#32) (.wait 3) 4 0xA0000002#32 = true ∧ traps (scripting 0#32 0#32) (.eret 3) 4 0xA0000004#32 = true ∧
    traps (scripting 0#32 0#32) (.halt 3) 4 0xA0000005#32 = true ∧ srPermitted true 4 = false ∧
    traps (scripting 0#32 0#32) (.mfs 3 4 4#8) 4 0xA0800400#32 = true ∧ traps (scripting 0#32 0#32) (.mts 3 4#8 1) 4 0xA0010401#32 = true ∧
    srAccess 9 = none ∧ traps {} (.mfs 3 4 9#8) 3 0xA0800900#32 = true ∧ traps {} (.mts 3 9#8 1) 3 0xA0010901#32 = true ∧
    runs (scripting 0xFFFFFFFF#32 0#32) false (.mts 3 0#8 1) (fun c => c.psr = 0xF0000101#32) = true := by
  decide +kernel

/-- Obligations.BranchesAndSystem at firmware level. -/
theorem test_branches_and_system :
    runs { psr := 0x40000000#32 } false (.b 3 0 0x3FFFFF#22) (fun c => c.pc = 0xFC#32) = true ∧
    runs {} false (.b 3 0 8#22) (fun c => c.pc = 0x104#32) = true ∧
    runs {} false (.bl 3 0x2000000#26) (fun c => c.pc = 0xF8000100#32 && c.g 31 = 0x104#32) = true ∧
    runs (two 0x203#32 0#32) false (.jr 3 1) (fun c => c.pc = 0x200#32) = true ∧
    runs (two 0x200#32 0#32) false (.jlr 3 1 1) (fun c => c.pc = 0x200#32 && c.g 1 = 0x104#32) = true ∧
    runs { cnt := 9#32 } false (.mfs 3 4 1#8) (fun c => c.g 4 = 9#32 && c.pc = 0x104#32) = true ∧
    runs {} false (.mfs 3 4 3#8) (fun c => c.g 4 = 3#32) = true ∧
    (srAccess 3 ≠ none ∧ srPermitted false 3 = true ∧ srWritable false 3 = false) ∧
    runs (two 9#32 0#32) false (.mts 3 3#8 1) (fun c => c.regs = [(1, 9#32)] && c.pc = 0x104#32) = true ∧
    runs (two 0xFFFFFFFF#32 0#32) false (.mts 3 2#8 1) (fun c => c.fpcsr = 0xFFF#32) = true ∧
    runs (two 0xFFFFFFFD#32 0#32) false (.mts 3 0#8 1) (fun c => c.psr = 0xF0000100#32) = true ∧
    runs (two 0x1FF#32 0#32) false (.mts 3 8#8 1) (fun c => c.tvec = 0x100#32) = true ∧
    runs { two 0x3#32 0#32 with irqPend := 7#64 } false (.mts 3 0x12#8 1) (fun c => c.irqPend = 4#64) = true ∧
    runs (two 9#32 0#32) false (.mts 3 0x37#8 1) (fun c => (c.seg 7).rights = 9#4) = true ∧
    runs { irqPend := 1#64, irqEn := 1#64 } false (.wait 3) (fun c => c.run = .run && c.pc = 0x104#32) = true ∧
    runs {} false (.wait 3) (fun c => c.run = .sleep && c.pc = 0x104#32) = true ∧
    runs { epc := 0x200#32, epsr := 2#32 } false (.eret 3) (fun c => c.pc = 0x200#32 && c.psr = 2#32) = true ∧
    runs { epc := 0x200#32, epsr := 1#32, segs := [(0, { base := 8#32 })] } false (.eret 3) (fun c => c.script && (c.seg 7).base = 8#32 && (c.seg 0).base = 0#32) = true ∧
    meets [] (.halt 3) { cored {} with coreCtl := { anyRun := true } } (fun t => (t.core 3).run = .halted && t.dev.irqStatus.getLsbD 7 && t.dev.evq.any fun e => e.typ = 0x20) = true ∧
    meets [] (.fence 3) { cored {} with storeQ := [(3, [(5, 9#8)])] } (fun t => t.storeQ = [] && t.mram.dictMem = [(5, 9#8)]) = true := by
  decide +kernel

/-- Obligations.FloatingPoint: 1.5 + 2.25 = 3.75; 1 / 0 with DZ enabled and not; a signalling NaN; a square root; conversions. -/
theorem test_floating_point :
    runs (two 0x3FC00000#32 0x40100000#32) false (.fadd 3 4 1 2) (fun c => c.g 4 = 0x40700000#32 && c.fpcsr = 0#32) = true ∧
    runs (two 0x3FC00000#32 0x40100000#32) false (.fsub 3 4 1 2) (fun c => c.g 4 = 0xBF400000#32) = true ∧
    runs (two 0x3FC00000#32 0x40100000#32) false (.fmul 3 4 1 2) (fun c => c.g 4 = 0x40580000#32) = true ∧
    runs (two 0x3F800000#32 0#32) false (.fdiv 3 4 1 2) (fun c => c.g 4 = 0x7F800000#32 && c.fpcsr = 0x20#32) = true ∧
    traps { two 0x3F800000#32 0#32 with fpcsr := 0x400#32 } (.fdiv 3 4 1 2) 8 0x7F800000#32 = true ∧
    runs (two 0x40800000#32 0#32) false (.fsqrt 3 4 1) (fun c => c.g 4 = 0x40000000#32) = true ∧
    runs { two 0x40000000#32 0x40400000#32 with regs := [(1, 0x40000000#32), (2, 0x40400000#32), (4, 0x3F800000#32)] } false (.fmadd 3 4 1 2) (fun c => c.g 4 = 0x40E00000#32) = true ∧
    runs (two 0x7F800001#32 0x3F800000#32) false (.fmin 3 4 1 2) (fun c => c.g 4 = 0x3F800000#32 && c.fpcsr = 0x40#32) = true ∧
    runs (two 0x7FC00000#32 0x3F800000#32) false (.fmax 3 4 1 2) (fun c => c.g 4 = 0x3F800000#32 && c.fpcsr = 0#32) = true ∧
    runs (two 0x3F800000#32 0x40000000#32) false (.fcmp 3 1 2) (fun c => c.psr = 0x80000000#32) = true ∧
    runs (two 0xFFFFFFFF#32 0#32) false (.fcvtSw 3 4 1) (fun c => c.g 4 = 0xBF800000#32) = true ∧
    runs (two 0x40200000#32 0#32) false (.fcvtWs 3 4 1) (fun c => c.g 4 = 2#32 && c.fpcsr = 4#32) = true ∧
    runs (two 0xBFC00000#32 0#32) false (.fcvtzWs 3 4 1) (fun c => c.g 4 = 0xFFFFFFFF#32) = true ∧
    runs (two 0xBFC00000#32 0#32) false (.fabs 3 4 1) (fun c => c.g 4 = 0x3FC00000#32) = true ∧
    runs (two 0xBFC00000#32 0#32) false (.fneg 3 4 1) (fun c => c.g 4 = 0x3FC00000#32) = true ∧
    (fNan 0x7F800001#32 = true ∧ fSnan 0x7F800001#32 = true ∧ fSnan 0x7FC00000#32 = false ∧ fZero 0x80000000#32 = true ∧ fInf 0x7F800000#32 = true) := by
  decide +kernel

/-- Obligations.RepeatsAndTraps. -/
theorem test_repeats_and_traps :
    runs {} false (.rep 3) (fun c => c.rep = some { repl := false } && c.pc = 0x100#32) = true ∧
    runs {} false (.repl 3) (fun c => c.rep = some { repl := true }) = true ∧
    traps { rep := some { repl := false } } (.rep 3) 5 0xF4000000#32 = true ∧ traps { rep := some { repl := false } } (.repl 3) 5 0xF4000001#32 = true ∧
    traps { rep := some { repl := false } } (.jr 3 1) 5 0x88010000#32 = true ∧
    traps { rep := some { repl := true }, cnt := 257#32 } (.add 3 4 1 2) 5 257#32 = true ∧
    meets [(cored { rep := some { repl := true } }).wf] (.add 3 4 1 2) (cored { rep := some { repl := true } }) (fun t => (t.core 3).pc = 0x108#32 && (t.core 3).rep = none) = true ∧
    meets [] (.or 3 4 1 2) (cored { two 5#32 0#32 with rep := some { repl := true }, cnt := 256#32 })
      (fun t => (t.core 3).cnt = 255#32 && (t.core 3).g 4 = 5#32 && (t.core 3).pc = 0x100#32 && (t.core 3).rep = some { repl := true, checked := true }) = true ∧
    meets [] (.or 3 4 1 2) (cored { two 5#32 0#32 with rep := some { repl := false }, cnt := 1#32 }) (fun t => (t.core 3).cnt = 0#32 && (t.core 3).pc = 0x108#32 && (t.core 3).rep = none) = true ∧
    (anvilDefined 0xFC000000#32 = false ∧ anvilDefined 0xF7FFFFFF#32 = false ∧ anvilDefined 0#32 = true) ∧
    meets [] (.undefinedOpcode 3 0#32) (cored {}) (fun t => t = cored {}) = true ∧
    traps {} (.undefinedOpcode 3 0xFC000000#32) 3 0xFC000000#32 = true ∧ traps {} (.undefinedOpcode 3 0xF7FFFFFF#32) 3 0xF7FFFFFF#32 = true ∧
    meets [((cored { segs := [(0, { rights := 0#4 })] }).core 3).fetchTrap 0x100#32 ≠ none] (.add 3 4 1 2) (cored { segs := [(0, { rights := 0#4 })] })
      (fun t => (t.core 3).run = .halted || (t.core 3).epc = 0x100#32) = true ∧
    traps { psr := 2#32, irqPend := 0x8000000000000000#64, irqEn := 0x8000000000000000#64 } (.interruptEntry 3) 13 0#32 = true ∧
    meets [!((cored {}).core 3).irqDue] (.interruptEntry 3) (cored {}) (fun t => t = cored {}) = true ∧
    meets [] (.add 3 4 1 2) live (fun t => t = live) = true ∧
    meets [] (.coreWake 3) ((cored { irqPend := 1#64, irqEn := 1#64 }).modCore 3 fun c => { c with run := .sleep }) (fun t => (t.core 3).run = .run) = true ∧
    meets [] (.coreWake 3) (cored {}) (fun t => t = cored {}) = true ∧
    meets [((cored { wdogEn := true, wdogFrom := some 0#64 }).core 3).wdogDue 0#64] (.watchdogExpiry 3) (cored { wdogEn := true, wdogFrom := some 0#64 })
      (fun t => (t.core 3).run = .wdog && (t.core 3).pc = 0xC0#32 && t.dev.evq.any fun e => e.typ = 0xB0) = true := by
  decide +kernel

/-- A slot whose script has the exchange x. -/
def scripted (x : Xchg) : Slot := { inUse .busy with pr := { mode := .script }, xchg := { x with active := true } }

/-- Obligations.CoreControl. -/
theorem test_core_control :
    meets [] (.coreRunWrite .fw 8#32) { live with coreCtl := { entry := [(3, 0x203#32)] } } (fun t => (t.core 3).run = .run && (t.core 3).pc = 0x200#32) = true ∧
    meets [] (.coreRunWrite .fw 0#32) (cored {}) (fun t => (t.core 3).run = .halted && (t.core 3).pc = 0x100#32) = true ∧
    meets [] (.coreRunWrite .fw 8#32) (cored (two 1#32 2#32)) (fun t => t.core 3 = (cored (two 1#32 2#32)).core 3) = true ∧
    meets [] (.ipi .fw 8#32) live (fun t => (t.core 3).irqPend = 0x8000000000000#64 && (t.core 0).irqPend = 0#64) = true ∧
    meets [] (.xchgCmdDataRead .fw 63) (at_ 63 (scripted { cmd := [1#8, 2#8, 3#8, 4#8, 5#8] })) (fun t => t.lastRead = 0x04030201#32 && (t.slot 63).xchg.pos = 4) = true ∧
    slotDoes (scripted { cmd := [1#8] }) (fun x => x.xchg.active) (.xchgRespData .fw · 0x04030201#32) (fun y => y.xchg.resp = [1#8, 2#8, 3#8, 4#8]) = true ∧
    slotDoes (scripted { resp := [1#8, 2#8] }) (fun x => x.xchg.active) (.xchgRespLenWrite .fw · 1#32) (fun y => y.xchg.resp = [1#8]) = true ∧
    slotDoes (scripted {}) (fun x => x.xchg.active) (.xchgRespLenWrite .fw · 1#32) (fun y => y.regs.cmdErr = .value) = true ∧
    slotDoes (scripted {}) (fun x => x.xchg.active) (.xchgEnd .fw · 0#32) (fun y => y.regs.cmdErr = .value && y.xchg.active) = true ∧
    slotDoes (scripted {}) (fun x => x.xchg.active) (.xchgEnd .fw · 12#32) (fun y => y.regs.cmdErr = .value) = true ∧
    slotDoes (scripted { resp := [1#8] }) (fun x => x.xchg.active) (.xchgEnd .fw · 1#32) (fun y => y.regs.cmdErr = .value) = true ∧
    slotDoes (inUse .busy) (fun x => !x.xchg.active) (.xchgEnd .fw · 2#32) (fun y => y.regs.cmdErr = .state) = true ∧
    meets [] (.xchgEnd .fw 63 1#32) (exchanging { scripted { sent := true, resp := [0x90#8, 0#8] } with holder := some 5 })
      (fun t => (t.slot 63).pr.lastEnd = 1 && !(t.slot 63).xchg.active && ((t.txn 5).bind (·.outDone)).any fun o => o.cls = .done && o.resp = [0x90#8, 0#8]) = true ∧
    slotDoes (scripted { sent := true }) (fun x => x.xchg.sent) (.xchgEnd .fw · 11#32) (fun y => y.pr.lastEnd = 11 && !y.xchg.active) = true ∧
    slotDoes (scripted { sent := true }) (fun x => x.xchg.active) (.xchgEnd .fw · 15#32) (fun y => y.st = .present && !y.xchg.active) = true ∧
    slotDoes (scripted { limit := 0#16 }) (fun x => x.xchg.startedAt + BitVec.ofNat 64 (x.xchg.limit.toNat * 16000) ≤ 0#64) .xchgLimitExpiry (fun y => y.st = .present && y.xchg.hwEnd) = true ∧
    meets [] (.xchgLimitExpiry 63) live (fun t => t = live) = true ∧
    meets [] (.coreRunWrite (.path .a) 8#32) live (fun t => t = live) = true ∧
    meets [] (.fwEvent 3 5#32) live (fun t => t.dev.evq.any fun e => e.typ = 0xB2 && e.source = 3 && e.code = 5) = true ∧
    meets [] (.mramStoreCommit 3) { live with storeQ := [(3, [(5, 9#8)]), (0, [(6, 1#8)])] } (fun t => t.storeQ.length = 1 && t.mram.dictMem = [(5, 9#8)]) = true ∧
    meets [] (.mramStoreCommit 3) live (fun t => t = live) = true := by
  decide +kernel
/-! The ring. -/

/-- A locked ring of this device as r. -/
def ringed (r : Ring) : State := { live with ring := { r with rxLock := true } }

/-- A frame from address 1 that came over 15 forwarders. -/
def frameOf (t dst : Byte) (p : List Byte) : Frame :=
  { typ := t, flags := 0#8, dst := dst, src := 1#8, seq := 5#16, hops := 15, payload := p, mac := [], good := true }

/-- A frame with its MAC. -/
def signed (s : State) (f : Frame) : Frame := { f with flags := 1#8, mac := s.ringMac { f with flags := 1#8 } }

theorem signed_ok (s : State) (f : Frame) (h : s.hasRingKey = true) : s.ringAuthOk (signed s f) = true := by
  have e : s.ringMac (signed s f) = s.ringMac { f with flags := 1#8 } := rfl
  simp only [State.ringAuthOk, h, e]
  simp [frameAuth, signed]

/-- A ring whose strap says master is the master until it sees another, and one whose strap does not is not. -/
theorem master_of (h : Config.ringMaster = true) (s : State) (hc : s.ring.conflict = false) : s.isMaster = true := by simp [State.isMaster, h, hc]
theorem member_of (h : Config.ringMaster = false) (s : State) : s.isMaster = false := by simp [State.isMaster, h]

/-- Members 1 to n of a ring. -/
def members (n : Nat) : List Member := (List.range n).map fun i => { serial := BitVec.ofNat 64 (i + 1), addr := i + 1, hop := i + 1 }

/-- A device bound to address 3. -/
def bound (r : Ring) : State := (ringed r).persist 0x1200 4 [3#8]

/-- A first pass that begins with this device. -/
def ownPass (n : Byte) : List Byte := padTo 260 ([n, 0, 0, 0] ++ serialBytes)

/-- Obligations.RingEnumeration, without lock and on a bad, a far and a foreign frame. -/
theorem test_ring_frames :
    (live.wf = true ∧ live.ring.rxLock = false ∧ (starting 1).ring.rxLock = false ∧ (starting 1).boot.step ≠ 0) ∧
    meets [(starting 1).wf] .rxLock (starting 1) (fun t => t.ring.rxLock) = true ∧
    meets [] (.enum (frameOf 3 0xFF [])) live (fun t => t = live) = true ∧
    meets [(ringed {}).wf, (ringed { quiet := true }).ring.rxLock] .rxLockLost (ringed { quiet := true }) (fun t => !t.ring.rxLock && t.counts = []) = true ∧
    (ringed {}).ringFate { frameOf 3 0xFF [] with good := false } = .discard 1 ∧
    (ringed {}).ringFate (frameOf 3 0xFF (List.replicate 261 0#8)) = .discard 1 ∧
    (ringed {}).ringFate (frameOf 3 0 []) = .discard 1 ∧ (ringed {}).ringFate { frameOf 3 0xFF [] with hops := 16 } = .discard 2 ∧
    frameBad { frameOf 3 0xFF [] with hops := 16 } = false ∧
    meets [] (.schedAck (frameOf 0x21 0 [])) (ringed {}) (fun t => t.ring.discard && t.tallyOf 0x1201 1 = 1) = true ∧
    (ringed {}).ringFate (frameOf 3 0xFF []) = .pass ∧ (ringed { addr := 3 }).ringFate (frameOf 0x10 3 []) = .mine ∧
    (ringed { addr := 1 }).ringFate (frameOf 0x10 3 []) = .back := by
  decide +kernel

/-- Obligations.RingEnumeration: a ring check on a member whose transmitter is busy, and on one whose is free. -/
theorem test_ring_busy (h : Config.ringMaster = false) :
    (let s := ringed { txUntil := 5 }
     s.isMaster = false ∧ s.now < s.ring.txUntil ∧ s.ring.waits.length < 2) ∧
    meets [] (.ringCheck 3) (ringed { txUntil := 5 }) (fun t => t.out = [] && (t.ring.waits.map fun w => (w.cls, w.at_, w.frame.hops)) = [(2, 0, 4)]) = true ∧
    meets [] (.ringCheck 3) (ringed {}) (fun t => t.out.length = 1 && t.ring.waits = [] && 0 < t.ring.txUntil) = true := by
  refine ⟨⟨member_of h _, by decide +kernel⟩, ?_, ?_⟩
  · simp only [meets, exec]
    unfold execRingCheck
    rw [member_of h]
    decide +kernel
  · simp only [meets, exec]
    unfold execRingCheck
    rw [member_of h]
    decide +kernel

/-- Obligations.RingEnumeration, a member in both passes: without an address, with a claimed one, with a free one; address 1, address 16 and none left. -/
theorem test_ring_member (h : Config.ringMaster = false) :
    Config.ringMaster = false ∧ (ringed {}).isMaster = false ∧ (bound {}).wf = true ∧
    (ringed {}).boundAddr = 0 ∧ (bound {}).boundAddr = 3 ∧ (bound {}).boundAddr ≠ 0 ∧
    (let l := enumEntries (enumPayload 1 (members 2))
     byteAt (enumPayload 1 (members 2)) 0 = 1#8 ∧ l.length = 2 ∧ (∀ m ∈ l, m.addr ≠ 3)) ∧
    (∃ m ∈ enumEntries (enumPayload 1 (members 3)), m.addr = 3) ∧
    byteAt (enumPayload 2 []) 0 = 2#8 ∧ enumEntries (enumPayload 2 []) = [] ∧
    (let l := enumEntries (enumPayload 2 (members 15))
     l.length < 16 ∧ (∀ m ∈ l, m.addr ≠ 16) ∧ (∀ c < 16, 1 ≤ c → ∃ m ∈ l, m.addr = c)) ∧
    (let l := enumEntries (enumPayload 2 (members 16))
     16 ≤ l.length ∧ (∀ a < 17, 1 ≤ a → ∃ m ∈ l, m.addr = a)) ∧
    (ringed { addrState := 2 }).ring.addrState = 2 ∧ (ringed {}).ring.addrState ≠ 2 := by
  refine ⟨h, member_of h _, ?_⟩
  decide +kernel

set_option maxRecDepth 20000 in
/-- Obligations.RingEnumeration, the master: a pass of its own and of another, a pass out of turn, the end of both passes with one lost and one new. -/
theorem test_ring_master (h : Config.ringMaster = true) :
    ((ringed {}).isMaster = true ∧ (memberOf (((ownPass 1).drop 4).take 16)).serial = devSerial ∧
      (∃ f : Frame, (memberOf ((f.payload.drop 4).take 16)).serial ≠ devSerial ∧ (ringed {}).ringFate f = .pass)) ∧
    (byteAt (ownPass 1) 0 = 1#8 ∧ (ringed { enumPass := 1 }).ring.enumPass = 1 ∧ (ringed {}).ring.enumPass ≠ (byteAt (ownPass 1) 0).toNat) ∧
    (ringed { enumPass := 1 }).isMaster = true ∧
    (let s := ringed { enumPass := 2, members := [{ serial := 9#64, addr := 4 }] }
     let l := enumEntries (enumPayload 2 (members 1))
     (s.isMaster = true) ∧ s.wf = true ∧ byteAt (enumPayload 2 (members 1)) 0 = 2#8 ∧ s.dev.evq.length + 2 * s.ring.members.length + 2 * l.length < 250 ∧
     (∀ m ∈ s.ring.members, ∀ e ∈ l, e.serial ≠ m.serial) ∧ l ≠ []) ∧
    ((ringed { closed := true }).isMaster = true ∧ (ringed { closed := true, checkAt := some 3 }).isMaster = true ∧
      (starting 1).isMaster = true ∧ (starting 1).ring.closed = false ∧
      (let s : State := { starting 1 with ring := { closed := true, checkAt := some 3 } }; s.isMaster = true ∧ s.wf = true ∧ s.boot.step ≠ 0)) ∧
    (ringed { conflict := true }).isMaster = false := by
  have m : ∀ s : State, s.ring.conflict = false → s.isMaster = true := fun s => master_of h s
  refine ⟨⟨m _ rfl, rfl, ?_⟩, ?_, m _ rfl, ?_, ⟨m _ rfl, m _ rfl, m _ rfl, rfl, m _ rfl, ?_⟩, ?_⟩
  · by_cases e : devSerial = 0#64
    · refine ⟨frameOf 3 0xFF (enumPayload 1 (members 1)), ?_, rfl⟩
      rw [e]
      decide +kernel
    · exact ⟨frameOf 3 0xFF [], fun k => e (k ▸ rfl), rfl⟩
  · decide +kernel
  · exact ⟨m _ rfl, by decide +kernel⟩
  · decide +kernel
  · simp [State.isMaster, ringed]

/-- Obligations.RingEnumeration, the registers: the operands and the agents of the commands. -/
theorem test_ring_commands :
    (live.allows .fw 2 = true ∧ 0#32 &&& 0x1F#32 = 0#32 ∧ live.grant .a < 2 ∧ 0xFFFFFFE0#32 &&& 0x1F#32 = 0#32) ∧
    meets [] (.ringUnbind .fw 0#32) ((bound { addr := 3 })) (fun t => t.boundAddr = 0 && t.ring.addr = 3) = true ∧
    meets [] (.ringUnbind .fw 2#32) live (fun t => t = live.ringErr .multiple) = true ∧
    meets [live.grant .a < 2] (.enumerate (.path .a) 0#32) live (fun t => t = live.wdeny .a) = true := by
  decide +kernel

/-- A TIDE frame of the master at address 1, sent at tide 0. -/
def tideFrame : Frame := { frameOf 1 0xFF (List.replicate 16 0#8) with flags := 2#8 }

/-- Obligations.RingMeasurementTideSluice: hop measurement, its first and last try, and SLUICE_HOLD. -/
theorem test_ring_measure :
    meets [(ringed { hop := 2 }).wf, (ringed { hop := 2 }).ringFate (frameOf 4 0xFF [2#8]) = .pass] (.measure (frameOf 4 0xFF [2#8])) (ringed { hop := 2 })
      (fun t => t.ring.window && !t.ring.quiet) = true ∧
    meets [] (.measure (frameOf 4 0xFF [1#8])) (ringed { hop := 2 }) (fun t => t.ring.quiet && !t.ring.window) = true ∧
    meets [(ringed { addr := 3 }).ringFate (frameOf 4 3 []) = .mine] (.measure (frameOf 4 3 [])) (ringed { addr := 3 }) (fun t => t = ringed { addr := 3 }) = true ∧
    meets [] (.measureWindowEnd none) (ringed {}) (fun t => t = ringed {}) = true ∧ (ringed { window := true }).ring.window = true ∧
    meets [(ringed {}).ring.measure.isNone] (.measReport none) (ringed {}) (fun t => t = ringed {}) = true ∧
    (let s : State := { live with ring := { hold := true, releases := 7 } }
     meets [s.wf, s.ring.hold, !s.ring.rxLock] .sluiceRxFail s (fun t => !t.ring.hold && t.ring.stopped && t.ring.releasedAt = some t.now)) = true ∧
    meets [(ringed { hold := true }).ring.rxLock] .sluiceRxFail (ringed { hold := true }) (fun t => t = ringed { hold := true }) = true ∧
    meets [!(starting 1).ring.hold, !(starting 1).ring.left, !(starting 1).ring.stopped] .sluiceRehold (starting 1) (fun t => t.ring.hold) = true ∧
    meets [] .sluiceRehold { starting 1 with ring := { left := true } } (fun t => !t.ring.hold) = true ∧
    meets [] (.leave .fw 0#32) (ringed { hold := true }) (fun t => t.ring.left && !t.ring.hold) = true ∧
    meets [] (.leave .fw 4#32) live (fun t => t = live.ringErr .multiple) = true ∧
    meets [] (.ringRejoin .fw 0#32) (ringed { left := true, stopped := true, releases := 8 }) (fun t => t.ring.hold && !t.ring.left && t.ring.releases = 0) = true := by
  decide +kernel

/-- Obligations.RingMeasurementTideSluice on the master: each try, a report, the condition of TIDE_LAUNCH with a link measured and not. -/
theorem test_ring_launch (h : Config.ringMaster = true) :
    (∀ n, (ringed { window := true, measure := some (0, n) }).isMaster = true) ∧ (ringed { window := true, measure := some (0, 2) }).ring.window = true ∧
    (∀ n, (ringed { measure := some (1, n), members := members 2 }).isMaster = true) ∧
    (∃ m ∈ (ringed { members := members 2 }).ring.members, 1 < m.hop) ∧ (∀ m ∈ (ringed { members := members 2 }).ring.members, m.hop ≤ 2) ∧
    (let s : State := { ringed { closed := true } with tide := { st := .holdover, val := 8#64, phase := 29 } }
     s.isMaster = true ∧ s.wf = true ∧ s.tide.st = .holdover ∧ s.ring.closed = true ∧ s.ring.enumPass = 0 ∧ s.ring.measure = none ∧ s.ring.linkOut = 0xFFFFFFFF#32 ∧
       s.ring.tidePeriod ≠ 0 ∧ s.ltide.toNat + s.ring.tidePeriod < 2 ^ 64 ∧ s.tide.paused = false ∧ s.tide.rate = 0 ∧ 0 ≤ s.tide.acc ∧ s.tide.acc < 1000000000 ∧
       s.tide.slew = 0 ∧ s.tide.phase < 30) ∧
    (ringed {}).ring.closed = false := by
  have m : ∀ s : State, s.ring.conflict = false → s.isMaster = true := fun s => master_of h s
  refine ⟨fun _ => m _ rfl, rfl, fun _ => m _ rfl, by decide +kernel, by decide +kernel, ?_, rfl⟩
  exact ⟨m _ rfl, by decide +kernel⟩

/-- Obligations.RingMeasurementTideSluice on a member: a TIDE frame of its master, and the launch that a member makes none of. -/
theorem test_ring_tide (h : Config.ringMaster = false) :
    (ringed { masterAddr := 1 }).isMaster = false ∧ meets [] .tideLaunch (ringed {}) (fun t => t = ringed {}) = true ∧
    (ringed { masterAddr := 1 }).ringFate tideFrame = .pass ∧
    (frameMaster tideFrame && tideFrame.src.toNat = (ringed { masterAddr := 1 }).ring.masterAddr && !(byteAt tideFrame.payload 10).getLsbD 0 &&
      tideFrame.payload.length = 16 && !Config.ringMaster) = true ∧
    (ringed {}).ringFate { tideFrame with good := false } = .discard 1 := by
  refine ⟨member_of h _, ?_, ?_, ?_, by decide +kernel⟩
  · unfold meets exec
    dsimp only
    unfold execTideLaunch State.isMaster
    rw [h]
    decide +kernel
  · simp only [State.ringFate, h]
    decide +kernel
  · rw [h]
    decide +kernel

/-- A dictionary payload of n bytes at tide t, for entry 0x1000.8. -/
def dictFrame (typ : Byte) (t : Tide) (op st total : Nat) (data : List Byte) : Frame := { frameOf typ 3 (dictPayload t op st 0x1000 8 0 total data) with hops := 2 }

/-- A request of channel A to address 1 for entry 0x1000.8. -/
def aReq : RingReq := { chan := .a, dst := 1, write := false, role := 1, index := 0x1000, sub := 8, total := 4, data := [], seq := 5#16, sentAt := 0 }

/-- A device at address 3 with a ring key. -/
def at3 (r : Ring) : State := keyed (ringed { r with addr := 3 })

/-- Obligations.RingDictionaryAndSchedule: what befalls a frame for this device by its MAC, its tide, its SEQ and the room there is; tides 16000 apart and
16001 apart; and the request that a response ends. -/
theorem test_ring_dictionary :
    (let s := at3 {}
     let f := signed s (dictFrame 0x10 0 1 1 4 [])
     s.wf = true ∧ s.hasRingKey = true ∧ s.ringFate f = .mine ∧ s.ringAuthOk f = true ∧ 22 ≤ f.payload.length ∧ s.dictRuns = true ∧ byteAt f.payload 8 = 1#8 ∧
       (byteAt f.payload 9).toNat = 1 ∧ (s.peer 1).seqs.contains f.seq = false ∧ s.ring.rxQ = [] ∧ s.ring.txQ = [] ∧
       (∀ c < 2, (s.mb c).busy = false ∧ (s.mb c).taken = false)) ∧
    (let s := at3 {}
     (ofLe ((dictFrame 0x10 16000 1 1 4 []).payload.take 8) : Int) - (s.ltide.toNat : Int) = 16000 ∧
       16000 < ((ofLe ((dictFrame 0x10 16001 1 1 4 []).payload.take 8) : Int) - (s.ltide.toNat : Int)).natAbs ∧
       s.ringAuthOk (signed s (dictFrame 0x10 16001 1 1 4 [])) = true) ∧
    (let s := at3 {}
     meets [s.ringFate (dictFrame 0x10 0 1 1 4 []) = .mine, !s.ringAuthOk (dictFrame 0x10 0 1 1 4 [])] (.dictReq (dictFrame 0x10 0 1 1 4 [])) s
       (fun t => t.ring.discard && t.tallyOf 0x1201 3 = 1) = true ∧
     (let f : Frame := frameOf 0x20 0xFF []
      meets [s.ringFate f = .pass, !s.ringAuthOk f] (.sched f) s (fun t => t.ring.discard && t.tallyOf 0x1201 3 = 1)) = true ∧
     meets [] (.dictReq (frameOf 0x10 9 [])) s (fun t => t.out.length = 1) = true) ∧
    ((at3 { peers := [(1, { seqs := [9#16, 5#16] })] }).peer 1).seqs.head? ≠ some 5#16 ∧ ((at3 { peers := [(1, { seqs := [9#16, 5#16] })] }).peer 1).seqs.contains 5#16 = true ∧
    ((at3 { peers := [(1, { seqs := [5#16], response := some (frameOf 0x11 1 []) })] }).peer 1).response = some (frameOf 0x11 1 []) ∧
    16 ≤ (at3 { rxQ := List.replicate 16 (frameOf 0x11 3 [], 0) }).ring.rxQ.length ∧
    (ringed { addr := 3 }).dictRuns = false ∧ (at3 { reqs := [aReq] }).ring.reqs = [aReq] ∧
    (at3 { reqs := [aReq] }).reqOf .a = some aReq ∧ (at3 { reqs := [aReq] }).reqOf .b = none ∧
    (let s := at3 { reqs := [{ aReq with dst := 1, seq := 5#16 }] }
     let f : Frame := { frameOf 0x10 1 [] with src := 3#8 }
     s.ringFate f = .back ∧ f.seq = aReq.seq ∧ aReq.dst = f.dst.toNat) ∧
    (let f := dictFrame 0x11 0 1 0 4 [1#8, 2#8, 3#8, 4#8]
     let p := f.payload
     aReq.dst = f.src.toNat ∧ (byteAt p 8).toNat = 1 ∧ ofLe ((p.drop 10).take 2) = aReq.index ∧ (byteAt p 12).toNat = aReq.sub ∧ ofLe ((p.drop 14).take 4) = aReq.offset ∧
       byteAt p 9 = 0#8 ∧ ofLe ((p.drop 18).take 4) ≤ (aReq.data ++ p.drop 22).length) ∧
    (let p := (dictFrame 0x11 0 1 0 4 [1#8]).payload; (aReq.data ++ p.drop 22).length < ofLe ((p.drop 18).take 4)) ∧
    byteAt (dictFrame 0x11 0 1 6 4 []).payload 9 ≠ 0#8 ∧ (byteAt (dictFrame 0x11 0 2 0 4 []).payload 8).toNat = 2 ∧ aReq.total ≤ aReq.offset + 200 ∧
    meets [] (.dictRetry .fw) live (fun t => t = live) = true ∧ meets [] (.dictRetry (.path .b)) live (fun t => t = live) = true := by
  refine ⟨?_, ?_, ?_, ?_⟩
  · refine ⟨by decide +kernel, by decide +kernel, rfl, signed_ok _ _ (by decide +kernel), by decide +kernel, by decide +kernel, ?_⟩
    decide +kernel
  · exact ⟨by decide +kernel, by decide +kernel, signed_ok _ _ (by decide +kernel)⟩
  · decide +kernel
  · decide +kernel

/-- A SCHED payload for devices devs: ACTIVATE of slot 63 at tide 9, id 7. -/
def schedOf (act : Nat) (devs : Nat) : List Byte :=
  leBytes 9 8 ++ [BitVec.ofNat 8 act, 7#8] ++ leBytes devs 2 ++ leBytes (2 ^ 63) 8 ++ [7#8, 0#8, 0#8, 0#8]

/-- Obligations.RingDictionaryAndSchedule: a SCHED that names this device, one that does not, one acted on; what ends a scheduled command and what sends
it again. -/
theorem test_ring_schedule :
    (let s := at3 {}
     let f := signed s (frameOf 0x20 0xFF (schedOf 1 4))
     s.ringFate f = .pass ∧ s.ringAuthOk f = true ∧ s.ring.addr ≠ 0 ∧ (schedDevs f.payload).testBit 2 = true ∧ s.ring.acted.find? (fun e => e.1 = (byteAt f.payload 20).toNat) = none ∧ s.ring.waits = [] ∧ s.ring.txUntil ≤ s.now ∧
       (ofLe ((f.payload.drop 12).take 8)).testBit 63 = true ∧ (ofLe ((f.payload.drop 12).take 8)).testBit 62 = false ∧ (byteAt f.payload 9).toNat < 8 ∧
       s.tide.alarms.length = 8 ∧ s.tide.alarmArmed.length = 8) ∧
    (schedDevs (schedOf 1 8)).testBit 2 = false ∧ (at3 { acted := [(7, true)] }).ring.acted.find? (fun e => e.1 = 7) = some (7, true) ∧
    byteAt (schedOf 2 4) 8 = 2#8 ∧ byteAt (schedOf 5 4) 8 = 5#8 ∧ byteAt (schedOf 6 4) 8 = 6#8 ∧
    (let s := at3 { sched := some (schedOf 1 4), schedSent := true, schedId := 7, ack := 0 }
     let f := signed s { frameOf 0x21 3 [7#8, 1#8] with src := 3#8 }
     s.ringFate f = .mine ∧ s.ringAuthOk f = true ∧ (byteAt f.payload 0).toNat = s.ring.schedId ∧ 1 ≤ f.src.toNat ∧ f.src.toNat ≤ 16 ∧
       (∀ a < 16, (schedDevs (schedOf 1 4)).testBit a = true → (s.ring.ack ||| (1 <<< (f.src.toNat - 1))).testBit a = true)) ∧
    meets [] .schedResend (ringed {}) (fun t => t = ringed {}) = true ∧
    meets [] .schedResend (ringed { sched := some (schedOf 1 4), schedSent := true, resends := 3 }) (fun t => t.ring.sched.isNone && t.ring.result = 4) = true ∧
    (ringed { sched := some (schedOf 1 4), schedSent := true, resends := 2 }).ring.resends < 3 := by
  refine ⟨⟨rfl, signed_ok _ _ (by decide +kernel), ?_⟩, ?_⟩
  · decide +kernel
  · refine ⟨?_, ?_, ?_, ?_, ?_, ⟨rfl, signed_ok _ _ (by decide +kernel), ?_⟩, ?_⟩ <;> decide +kernel

/-- Obligations.RingDictionaryAndSchedule on the master: the conditions of SCHED_GO, an action at the edge of its codes, and the ring free and not. -/
theorem test_ring_sched_go (h : Config.ringMaster = true) :
    (let s : State := { keyed (ringed { closed := true, schedCmd := 6#32, schedT := 0xFFFFFFFF#64 }) with tide := { st := .locked } }
     s.isMaster = true ∧ s.ringFree = true ∧ s.wf = true ∧ s.hasRingKey = true ∧ s.ring.sched = none ∧ s.tide.st = .locked ∧
       ¬s.ring.schedT.toNat < s.ltide.toNat + s.ring.schedLead ∧ fld s.ring.schedCmd 3 0 = 6) ∧
    (ringed { closed := false }).ringFree = false ∧ (ringed {}).ring.schedT.toNat < (ringed {}).ltide.toNat + (ringed {}).ring.schedLead ∧
    fld 7#32 3 0 = 7 ∧ (ringed {}).hasRingKey = false ∧ (keyed (ringed {})).tide.st ≠ .locked ∧
    16 ≤ (ringed { txQ := List.replicate 16 (frameOf 0x10 1 []) }).ring.txQ.length ∧ frameAuth (ringed {}).txFrame = false ∧ (ringed {}).allows .fw 2 = true := by
  have m : ∀ s : State, s.ring.conflict = false → s.isMaster = true := fun s => master_of h s
  refine ⟨⟨m _ rfl, ?_, ?_⟩, ?_, ?_⟩
  · simp only [State.ringFree, Bool.or_eq_true]
    exact .inr (by decide +kernel)
  · decide +kernel
  · simp only [State.ringFree, m (ringed { closed := false }) rfl]
    decide +kernel
  · decide +kernel

/-- Obligations.RingDictionaryAndSchedule on a member: its ring is free; a frame of firmware leaves at once, and a popped one goes. -/
theorem test_ring_firmware (h : Config.ringMaster = false) :
    (ringed {}).ringFree = true ∧ meets [] (.ringRxPop 0) (ringed { rxQ := [(frameOf 0x11 3 [], 0)] }) (fun t => t.ring.rxQ = []) = true := by
  refine ⟨?_, by decide +kernel⟩
  simp [State.ringFree, member_of h]
/-! The tray bus and the mailbox. -/

/-- A live device with the tray block as y. -/
def trayed (y : Tray) : State := { live with tray := y }
/-- TRAY_CFG of UART mode, of FRAME mode and of neither. -/
def uart (y : Tray) : Tray := { y with cfg := 0x582D0100#32 }
def framed (y : Tray) : Tray := { y with cfg := 0x982D0100#32 }

/-- What TRAY_RXD reads for a character d of 8 data bits without parity at 19,200 bit/s after 100 pk idle, its stop bit good or not. -/
def lineOf (d : Nat) (stop : Bool) : List LineRun :=
  ⟨100, true⟩ :: ([false] ++ (List.range 8).map d.testBit ++ [stop, true]).map fun b => ⟨12496, b⟩

/-- A frame that listens for 2 bytes from identifier 0x10. -/
def aFrame : TrayFrame := { cmd := 0x00000410#32, pid := trayPid 0x10, toSend := [], pidEnd := 0, respEnd := 10000000 }

/-- Command c of a tray block y that meets h leaves it so that p holds. -/
def trayDoes (y : Tray) (h : Tray → Bool) (c : Instr) (p : State → Bool) : Bool := meets [(trayed y).wf, h (trayed y).tray] c (trayed y) p

/-- Obligations.TrayBus: the commands of TRAY_CTRL in and out of their modes, TRAY_TX at 31 and 32 characters, the slowest and fastest rate. -/
theorem test_tray_commands :
    trayDoes (framed {}) (·.mode = 2) (.txBreak .fw 0#32) (fun t => t.tray.cmdErr = .state) = true ∧
    trayDoes (uart { txFifo := [1#9] }) (·.mode ≠ 2) (.txBreak .fw 0#32) (fun t => t.tray.breaks = [1]) = true ∧
    trayDoes (uart {}) (·.openWords = 0) (.flushRx .fw 0#32) (fun t => t.tray = uart {}) = true ∧
    trayDoes (uart { openWords := 3, rxWr := 0x3FC }) (·.openWords ≠ 0) (.flushRx .fw 0#32) (fun t => t.tray.rxWr = 2 && t.tray.block) = true ∧
    trayDoes (uart {}) (·.mode ≠ 2) (.frameGo .fw 0#32) (fun t => t.tray.cmdErr = .state) = true ∧
    trayDoes (framed { frame := some aFrame }) (·.frame ≠ none) (.frameGo .fw 0#32) (fun t => t.tray.cmdErr = .state) = true ∧
    trayDoes (framed { frameCmd := 0x00002510#32, frameTx := 0x2211#64 }) (fun y => y.mode = 2 && y.frame = none) (.frameGo .fw 0#32)
      (fun t => t.tray.frame.any fun f => f.toSend = [0x55#8, 0x50#8, 0x11#8, 0x22#8, 0x7C#8] && t.out.length = 1) = true ∧
    trayDoes (framed { holdOff := 9 }) (fun y => y.holdOff = 9) (.frameGo .fw 0#32) (fun t => t.out = [] && t.tray.frame.any (·.brk)) = true ∧
    trayDoes (framed { frame := some aFrame }) (fun _ => true) (.abort .fw 0#32) (fun t => t.tray.frame.any (·.abort)) = true ∧
    trayDoes {} (fun _ => true) (.abort .fw 1#32) (fun t => t.tray.cmdErr = .multiple) = true ∧
    trayDoes {} (fun _ => (trayed {}).grant .a < 2) (.abort (.path .a) 0#32) (fun t => t = (trayed {}).wdeny .a) = true ∧
    trayDoes (uart { txFifo := List.replicate 32 0#9 }) (fun y => 32 ≤ y.txFifo.length) (.trayTx .fw 1#32) (fun t => t.tray.cmdErr = .state) = true ∧
    trayDoes (uart { txFifo := List.replicate 31 0#9 }) (fun y => y.mode ≠ 2 && y.txFifo.length < 32) (.trayTx .fw 0x1FF#32) (fun t => t.tray.txFifo.getLast? = some 0x1FF#9) = true ∧
    trayDoes {} (fun _ => fld 1199#32 21 0 < 1200) (.trayBaudWrite .fw 1199#32) (fun t => t.tray.cmdErr = .value) = true ∧
    trayDoes {} (fun _ => fld 3000001#32 21 0 > 3000000) (.trayBaudWrite .fw 3000001#32) (fun t => t.tray.cmdErr = .value) = true ∧
    trayDoes {} (fun _ => true) (.trayBaudWrite .fw 1200#32) (fun t => t.tray.divInt = 12500 && !t.tray.fract) = true ∧
    trayDoes {} (fun _ => true) (.trayBaudWrite .fw 3000000#32) (fun t => t.tray.rate = 3000000 && t.tray.divInt = 5) = true := by
  decide +kernel

/-- Obligations.TrayReceiveRing: a character in each mode, a block that closes and one that does not, a full ring, an echo, a frame with and without its
read-back; readings that are too short, a false start and a break. -/
theorem test_tray_receive :
    (trayVerdict (uart {}).latch ((lineOf 5 true).drop 1) = .char { data := 5#9, parity := false, framing := false, brk := false } 119493 (some 118712) ∧
      trayVerdict (uart {}).latch [⟨6000, false⟩] = .undecided ∧ trayVerdict (uart {}).latch [⟨5000, false⟩, ⟨9000, true⟩] = .falseStart 7029 ∧
      trayVerdict (uart {}).latch [⟨140000, false⟩] = .char { data := 0#9, parity := false, framing := true, brk := true } 137456 none) ∧
    trayDoes {} (fun y => y.mode = 0) (.trayCharReceived ⟨0, (lineOf 5 true)⟩) (fun t => t = trayed {}) = true ∧
    trayDoes (uart {}) (fun y => runEdge (!y.low) [⟨7, true⟩] 0 = none) (.trayCharReceived ⟨3, [⟨7, true⟩]⟩) (fun t => t.now = 17 && t.tray.rx.isNone) = true ∧
    trayDoes (uart {}) (fun y => y.mode = 1 && bitOf y.cfg 21 && (y.rxWr + 2) % y.rxSize ≠ y.rxRd) (.trayCharReceived ⟨0, (lineOf 5 true)⟩)
      (fun t => t.tray.openWords = 1 && t.sramByte 0x20000000 = 5#8 && t.now = 2 * (100 + 119493)) = true ∧
    trayDoes (uart { txFrom := 0, txEnd := some 900 }) (fun y => bitOf y.cfg 21 && y.sendingAt 200) (.trayCharReceived ⟨0, (lineOf 5 true)⟩)
      (fun t => t.tray.openWords = 0 && t.sram = []) = true ∧
    trayDoes (uart { openWords := 15, lastStop := 1 }) (fun y => y.blk ≤ y.openWords + 1 && 200 < y.idleAt) (.trayCharReceived ⟨0, (lineOf 5 true)⟩)
      (fun t => t.tray.openWords = 0 && t.tray.rxWr = 32 && t.tray.block) = true ∧
    trayDoes (uart { rxRd := 2 }) (fun y => (y.rxWr + 2 * y.openWords + 2) % y.rxSize = y.rxRd) (.trayCharReceived ⟨0, (lineOf 5 true)⟩)
      (fun t => t.tray.rxOvf && t.tray.rxLost = 1 && t.sram = []) = true ∧
    trayDoes (uart { rxRd := 2, rxLost := 0xFFFF, lossRun := true }) (·.lossRun) (.trayCharReceived ⟨0, (lineOf 5 true)⟩) (fun t => t.tray.rxLost = 0xFFFF) = true ∧
    trayDoes (framed {}) (fun y => y.mode = 2 && y.frame = none) (.trayCharReceived ⟨0, (lineOf 5 false)⟩) (fun t => t.tray.framing) = true ∧
    trayDoes (framed { frame := some { aFrame with echo := some 6#8 } }) (·.mode = 2) (.trayCharReceived ⟨0, (lineOf 5 true)⟩) (fun t => t.tray.frame.any (·.bitErr)) = true ∧
    trayDoes (framed { frame := some aFrame }) (fun _ => !bitOf aFrame.cmd 8) (.trayCharReceived ⟨0, (lineOf 5 true)⟩) (fun t => t.tray.frame.any fun f => f.rx = [5#8]) = true ∧
    trayDoes (framed { frame := some { aFrame with respEnd := 300 } }) (fun _ => true) (.trayCharReceived ⟨0, (lineOf 5 true)⟩)
      (fun t => t.tray.frame.any fun f => f.rx = [] && f.begun) = true ∧
    trayDoes (uart {}) (fun _ => true) (.trayCharReceived ⟨0, [⟨100, true⟩, ⟨6000, false⟩]⟩) (fun t => t.tray.rxBusy && (t.tray.rx.map (·.start)) = some 200) = true ∧
    trayDoes (uart { rx := some { start := 200, lat := (uart {}).latch, wave := [⟨6000, false⟩] }, rxBusy := true }) (fun y => y.openWords = 0)
      (.trayCharReceived ⟨0, [⟨100, false⟩]⟩) (fun t => (t.tray.rx.map fun r => runLen r.wave) = some 6100) = true ∧
    trayDoes (uart {}) (fun _ => true) (.trayCharReceived ⟨0, [⟨5000, false⟩, ⟨9000, true⟩]⟩) (fun t => t.tray.rx.isNone && !t.tray.framing && t.tray.lastStop = 14058) = true := by
  decide +kernel

/-- Obligations.TrayBus and TrayReceiveRing: a block that idle time closes, and RX_RD. -/
theorem test_tray_ring :
    trayDoes (uart { openWords := 1 }) (fun y => y.mode = 1 && y.openWords ≠ 0 && !y.rxBusy && !y.low) .rxIdleClose (fun t => t.tray.rxWr = 2) = true ∧
    trayDoes (uart {}) (·.openWords = 0) .rxIdleClose (fun t => t = trayed (uart {})) = true ∧
    trayDoes (uart { rxWr := 4 }) (fun _ => true) (.rxRdWrite .fw 4#32) (fun t => t.tray.rxRd = 4 && t.tray.cmdErr = .none) = true ∧
    trayDoes (uart { rxWr := 4 }) (fun _ => true) (.rxRdWrite .fw 3#32) (fun t => t.tray.rxRd = 0 && t.tray.cmdErr = .value) = true ∧
    trayDoes (uart { rxWr := 4 }) (fun _ => true) (.rxRdWrite .fw 6#32) (fun t => t.tray.rxRd = 0 && t.tray.cmdErr = .value) = true ∧
    trayDoes (uart { rxWr := 4 }) (fun y => y.rxSize ≤ 0x400) (.rxRdWrite .fw 0x400#32) (fun t => t.tray.cmdErr = .value) = true ∧
    trayDoes (uart {}) (fun _ => true) (.rxRdWrite (.path .a) 0#32) (fun t => t = (trayed (uart {})).wdeny .a) = true := by
  decide +kernel

/-- Obligations.TrayBus: characters and breaks sent in order. -/
theorem test_tray_transmit :
    trayDoes (uart { breaks := [0], txFifo := [5#9] }) (·.mode = 1) .trayCharTransmit (fun t => t.out.length = 1 && t.tray.breaks = [] && t.tray.txFifo = [5#9]) = true ∧
    trayDoes (uart { breaks := [1], txFifo := [5#9] }) (fun y => y.breaks.head? ≠ some 0) .trayCharTransmit (fun t => t.out = [.tray 5#9] && t.tray.breaks = [0]) = true ∧
    trayDoes (uart {}) (fun y => y.mode = 1 && y.txFifo = []) .trayCharTransmit (fun t => t = trayed (uart {})) = true ∧
    trayDoes (framed { frame := some { aFrame with toSend := [0x55#8, 0x50#8] } }) (·.mode = 2) .trayCharTransmit
      (fun t => t.out = [.tray 0x55#9] && t.tray.frame.any fun f => f.echo = some 0x55#8 && f.toSend = [0x50#8]) = true ∧
    trayDoes (framed { frame := some { aFrame with toSend := [0x55#8], brk := true }, holdOff := 9 }) (·.mode = 2) .trayCharTransmit
      (fun t => t.out.length = 1 && t.now = 9 && t.tray.frame.any fun f => !f.brk) = true ∧
    trayDoes (framed { frame := some { aFrame with toSend := [0x50#8], echo := some 0x55#8 }, txEnd := some 9 }) (·.mode = 2) .trayCharTransmit
      (fun t => t.out = [] && t.now = 9 && t.tray.frame.any (·.bitErr)) = true ∧
    trayDoes (framed { frame := some { aFrame with toSend := [0x55#8], bitErr := true } }) (·.mode = 2) .trayCharTransmit (fun t => t.out = []) = true := by
  decide +kernel

/-- Obligations.TrayBus: each result of a frame. -/
theorem test_tray_frame :
    trayDoes (framed {}) (·.frame = none) .frameEnd (fun t => t = trayed (framed {})) = true ∧
    (∀ p ∈ [({ aFrame with bitErr := true }, 6), ({ aFrame with abort := true }, 7), ({ aFrame with cmd := 0x510#32 }, 1), ({ aFrame with framing := true }, 5),
        ({ aFrame with rx := [1#8, 2#8, 0xFC#8] }, 1), ({ aFrame with rx := [1#8, 2#8, 0xFD#8] }, 4), (aFrame, 2), ({ aFrame with rx := [1#8, 2#8], begun := true }, 3),
        ({ aFrame with echo := some 0#8 }, 6)],
      trayDoes (framed { frame := some p.1 }) (fun _ => frameLen aFrame.cmd = 2) .frameEnd (fun t => t.tray.frame = none && fld t.tray.result 3 0 = p.2) = true) ∧
    trayDoes (framed { frame := some { aFrame with toSend := [5#8] } }) (fun _ => true) .frameEnd (fun t => t.tray.frame.isSome) = true := by
  decide +kernel

/-- A device whose firmware runs and that has controller 7 fitted, its tray block as y. -/
def cycling (y : Tray) : State := (keyed (trayed (framed y))).persist 0x2600 1 [0x80#8]

/-- How controller 7 answers. -/
def answerOf (r : BitVec 4) : TrayAnswer := { result := r, bytes := [0#8, 0x80#8, 1#8, 0#8] }

/-- Obligations.TrayBus: a cycle with the one fitted controller, answered, unanswered for the third time, and no cycle. -/
theorem test_tray_cycle :
    (let s := cycling { ctls := [(7, { lost := true, fails := 3, locked := some 0x80#8, door := some false })] }
     meets [s.wf, s.tray.mode = 2, s.serving, (List.range 4).any s.coreRuns, s.controllers = [7]] (.trayCycle [answerOf 1]) s fun t =>
       (tget {} t.tray.ctls 7).fails = 0 && (t.tray.seq = 1#8)) = true ∧
    (let s := cycling { ctls := [(7, { fails := 2 })] }
     meets [s.dictNum 0x2600 3 3 ≤ (tget {} s.tray.ctls 7).fails + 1] (.trayCycle [answerOf 2]) s fun t => (tget {} t.tray.ctls 7).lost && t.dev.irqStatus.getLsbD 11) = true ∧
    meets [] (.trayCycle []) (trayed (framed {})) (fun t => t = trayed (framed {})) = true := by
  decide +kernel

/-- A device with a log-in of role r in entry 5, key 1 selected and a request m on channel A. -/
def asking (r : Nat) (m : Mailbox) : State :=
  { keyed live with logins := [(5, { live := true, gen := 1, role := r })], life := { keySelect := 1 }, mail := [(0, { m with handle := 21#32, busy := true })] }

/-- A request for entry idx.sub with value v. -/
def ask (op idx sub : Nat) (v : List Byte) : Mailbox :=
  { req := BitVec.ofNat 32 op, entry := BitVec.ofNat 32 (idx + 65536 * sub), len := BitVec.ofNat 32 v.length
    data := (List.range v.length).foldl (fun t n => tset 0#8 t n (byteAt v n)) [] }

/-- The hypotheses of Obligations.MailboxAndDictionary for channel A hold: the rings are empty and it is its turn. -/
def inTurn (s : State) : Bool :=
  s.wf && s.ring.rxQ = [] && s.dictRuns && (s.mb 0).busy && !(s.mb 0).started && !(s.mb 2).taken && !(s.mb 1).busy && !(s.mb 1).taken

/-- A request is answered with a status, and p holds. -/
def answers (c : Instr) (s : State) (st : Nat) (p : State → Bool) : Bool :=
  meets [inTurn s] c s fun t => !(t.mb 0).busy && (t.mb 0).done && (t.mb 0).status = st && p t

/-- A write by role r of entry idx.sub passes its checks with value v. -/
def passing (r idx sub : Nat) (v : List Byte) : Bool :=
  let s := asking r (ask 2 idx sub v)
  let a : Asker := { origin := 0, role := r, handle := 21#32 }
  s.mbRole 0 = some r && (s.dictEntry idx sub).any fun e =>
    e.mayWrite r && e.fits v.length && e.inRange v && s.dictRange a idx sub v = 0 && s.dictState a idx sub v = 0 && (!e.privileged || (!s.auditHeld && s.auditBacklog ≤ 256))

/-- Obligations.MailboxAndDictionary: a read, a refused write at each check, a write and a default. -/
theorem test_mailbox_entries :
    answers (.read .a) (asking 1 (ask 1 0x1000 2 [])) 0 (fun t => (t.mb 0).bytes 0 2 = [0#8, 0x64#8]) = true ∧
    answers (.write .a) (asking 2 (ask 2 0x1001 1 [1#8])) 1 (fun _ => true) = true ∧
    answers (.write .a) (asking 2 (ask 2 0x1000 2 [1#8])) 2 (fun _ => true) = true ∧
    answers (.write .a) (asking 2 (ask 2 0x1000 8 [1#8])) 3 (fun _ => true) = true ∧
    answers (.write .a) (asking 2 (ask 2 0x1100 3 [0#8])) 4 (fun _ => true) = true ∧
    passing 2 0x1000 8 (List.replicate 16 7#8) = true ∧
    answers (.write .a) (asking 2 (ask 2 0x1000 8 (List.replicate 16 7#8))) 0 (fun t => t.dictVal 0x1000 8 = some (List.replicate 16 7#8)) = true ∧
    answers (.default .a) (asking 2 (ask 3 0x1000 8 [])) 0 (fun t => t.dictVal 0x1000 8 = some (List.replicate 16 0#8)) = true ∧
    answers (.read .a) (asking 1 (ask 9 0 0 [])) 0x10 (fun _ => true) = true ∧
    ((keyed live).mb 0).busy = false ∧ live.dictRuns = false ∧
    meets [] (.read .a) (keyed live) (fun t => t = keyed live) = true ∧
    (let s := { asking 1 (ask 1 0x1000 2 []) with logins := [] }
     s.mbRole 0 = none ∧ answers (.read .a) s 7 (fun _ => true) = true) ∧
    (let s := { asking 1 { ask 1 0x1000 2 [] with req := 0x1101#32 } with logins := [] }
     16 < (s.mb 0).target ∧ answers (.read .a) s 0x10 (fun _ => true) = true) ∧
    (let s := asking 1 { ask 1 0x1000 2 [] with req := 0x301#32 }
     s.ring.addr = 0 ∧ answers (.read .a) s 0x0E (fun _ => true) = true) := by
  decide +kernel

/-- Obligations.MailboxAndDictionary: the writes with an effect of their own pass their checks. -/
theorem test_mailbox_effects :
    passing 3 0x1102 1 [21#8, 0#8, 0#8, 0#8] = true ∧ passing 2 0x2A00 4 [1#8] = true ∧ passing 2 0x2A00 3 [2#8] = true ∧ passing 2 0x2A00 2 (1#8 :: List.replicate 32 9#8) = true ∧
    passing 3 0x1180 2 [2#8] = true ∧ passing 3 0x1180 4 [1#8] = true ∧
    answers (.transitionRequest .a) (asking 3 (ask 2 0x1180 2 [2#8])) 0 (fun t => t.lifeRec.wiping = lifeOf 2 && t.life.resetDue = some 4) = true ∧
    answers (.debugOpen .a) (asking 3 (ask 2 0x1180 4 [1#8])) 0 (fun t => t.life.opening = some false) = true ∧
    passing 2 0x223F 0x3F [1#8] = true ∧ passing 2 0x1181 6 (List.replicate 8 0#8) = true ∧
    answers (.endLogin .a) (asking 3 (ask 2 0x1102 1 [21#8, 0#8, 0#8, 0#8])) 0 (fun t => !(tget {} t.logins 5).live) = true ∧
    answers (.keyLoad .a) (asking 2 (ask 2 0x2A00 2 (1#8 :: List.replicate 32 9#8))) 0 (fun t => (t.secret t.life.keySelect).key.length = 32) = true ∧
    answers (.keyErase .a) (asking 2 (ask 2 0x2A00 4 [1#8])) 0 (fun t => (t.secret t.life.keySelect).typ = 0) = true ∧
    answers (.clear .a) (asking 2 (ask 2 0x223F 0x3F [1#8])) 0 (fun t => t.count 63 1 = 0) = true := by
  decide +kernel

/-- A request of op on channel A with the words named. -/
def plain (op role : Nat) (len : Nat) (m : Mailbox) : State :=
  { keyed live with mail := [(0, { m with req := BitVec.ofNat 32 (op + 65536 * role), len := BitVec.ofNat 32 len, busy := true })], life := { pubkey := List.replicate 97 1#8 } }

/-- A challenge for role 3 that lapses at tide u. -/
def aChallenge (u : Tide) : Challenge := { bytes := List.replicate 58 0#8, role := 3, until_ := u }

/-- Obligations.MailboxAndDictionary: challenges refused and made, responses, log-outs, ABORT, and the ends of a challenge and a lockout. -/
theorem test_mailbox_login :
    answers (.challenge .a) (plain 0x10 0 0 {}) 4 (fun _ => true) = true ∧
    answers (.challenge .a) (plain 0x10 1 0 {}) 0x0A (fun _ => true) = true ∧
    answers (.challenge .a) (plain 0x10 3 0 { lockedUntil := some 1#64 }) 0x0B (fun _ => true) = true ∧
    (let s := (plain 0x10 1 0 {}).persist 0x1110 1 (List.replicate 97 3#8)
     ((lifeRoles s.lifeState).contains 1 = false ∧ nonzero (s.credential 1) = true) ∧ answers (.challenge .a) s 6 (fun _ => true) = true) ∧
    (let s := plain 0x10 3 0 {}
     nonzero (s.credential 3) = true ∧ (lifeRoles s.lifeState).contains 3 = true ∧ s.life.rngFailed = false ∧ (s.mb 0).lockedUntil = none ∧ inTurn s = true) ∧
    answers (.challenge .a) { plain 0x10 3 0 {} with mail := [(0, { req := 0x110#32, busy := true })] } 0x10 (fun _ => true) = true ∧
    answers (.respond .a) (plain 0x11 0 95 { challenge := some (aChallenge 9) }) 3 (fun t => (t.mb 0).challenge = none) = true ∧
    answers (.respond .a) (plain 0x11 0 96 {}) 6 (fun _ => true) = true ∧
    answers (.respond .a) (plain 0x11 0 96 { challenge := some (aChallenge 0) }) 6 (fun t => (t.mb 0).challenge = none) = true ∧
    meets [inTurn (plain 0x11 0 96 { challenge := some (aChallenge 1) })] (.respond .a) (plain 0x11 0 96 { challenge := some (aChallenge 1) })
      (fun t => t.life.lane = [.respond 0] && (t.mb 0).taken && (t.mb 0).busy) = true ∧
    answers (.logout .a) (asking 1 { req := 0x12#32 }) 0 (fun t => !(tget {} t.logins 5).live) = true ∧
    answers (.logout .a) (plain 0x12 0 0 {}) 7 (fun _ => true) = true ∧
    meets [] .pubkeyVerifyDone live (fun t => t = live) = true ∧
    meets [] .pubkeyVerifyDone { live with life := { lane := [.crypto, .cred 0] } } (fun t => t.life.lane = [.cred 0]) = true ∧
    (let s : State := { plain 0x11 0 96 { challenge := some (aChallenge 1) } with life := { lane := [.respond 0] } }
     s.wf = true ∧ s.auditHold = true ∧ s.auditFree ≠ 0 ∧ (s.persist 0x2900 1 [0#8]).auditHold = false ∧ (tget {} s.logins 15).live = false ∧ (s.mb 0).challenge = some (aChallenge 1)) ∧
    (let s : State := { live with logins := (List.range 16).map fun i => (i, { live := true, role := 1 }) }
     s.wf = true ∧ ∀ i < 16, (tget {} s.logins i).live = true) ∧
    ({ live with life := { lane := [.cred 0] } } : State).life.lane = [.cred 0] ∧
    meets [] (.mbAbort (.path .a) .a 0#32) (plain 1 0 0 {}) (fun t => (t.mb 0).status = 0x0F && !(t.mb 0).busy) = true ∧
    meets [] (.mbAbort .fw .a 0#32) (plain 1 0 0 { taken := true }) (fun t => (t.mb 0).busy) = true ∧
    meets [] (.mbAbort .fw .a 0#32) live (fun t => (t.mb 0).cmdErr = .state) = true ∧
    meets [] (.mbAbort .fw .a 1#32) live (fun t => (t.mb 0).cmdErr = .multiple) = true ∧
    meets [] (.mbAbort (.path .b) .a 0#32) live (fun t => t = live.wdeny .b) = true ∧
    meets [] (.challengeExpiry .a) live (fun t => t = live) = true ∧
    meets [] (.challengeExpiry .a) (plain 0 0 0 { challenge := some (aChallenge 0) }) (fun t => (t.mb 0).challenge = none && t.now = 0) = true ∧
    meets [] (.lockoutEnd .a) live (fun t => t = live) = true ∧
    meets [] (.lockoutEnd .a) (plain 0 0 0 { lockedUntil := some 0#64, fails := 8 }) (fun t => (t.mb 0).lockedUntil = none && (t.mb 0).fails = 0) = true := by
  decide +kernel
/-! Crypto, audit, loop-backs, the test access port and the bus. -/

/-- A device with the crypto engine as c, and secret 1 an AES key and secret 2 an HMAC pair. -/
def crypted (c : Crypto) : State :=
  (({ live with crypto := c } : State).setSecret 1 { typ := 1, key := List.replicate 32 1#8 }).setSecret 2 { typ := 2, key := List.replicate 64 1#8 }

/-- An engine whose SRC and DST are words of shared SRAM. -/
def copying (key len : Nat) : Crypto := { key := key, src := 0x20000000#32, dst := 0x2007FFF0#32, len := len }

/-- Obligations.CryptoAndAudit: an engine that is busy, each operation with its key and ranges, one range past the end, and what CRYPTO_DONE stores. -/
theorem test_crypto :
    meets [(crypted { busy := true }).wf] (.kcv 0) (crypted { busy := true }) (fun t => t.crypto.cmdErr = .state) = true ∧
    (let s := crypted (copying 1 16)
     s.wf = true ∧ s.crypto.busy = false ∧ s.crypto.key ≠ 0 ∧ (s.secret 1).typ = 1 ∧ inShared s.crypto.src.toNat 16 = true ∧ inShared s.crypto.dst.toNat 16 = true ∧
       inShared s.crypto.dst.toNat 8 = true ∧ inShared s.crypto.dst.toNat 48 = false ∧ (s.secret 2).typ = 2 ∧ inShared 0x20000000 48 = true) ∧
    meets [] (.aes256Ctr 0) (crypted (copying 0 16)) (fun t => t.crypto.busy && t.crypto.result = none) = true ∧
    meets [] (.aesCmac 0) (crypted (copying 2 16)) (fun t => t.crypto.busy && t.crypto.result = none) = true ∧
    meets [] (.kcv 0) (crypted (copying 9 16)) (fun t => t.crypto.busy && t.crypto.result = none) = true ∧
    meets [] (.aes256Ctr 0) (crypted (copying 1 17)) (fun t => t.crypto.result = none) = true ∧
    meets [] (.sha384 0) (crypted (copying 1 16)) (fun t => t.crypto.result = none) = true ∧
    meets [] (.kcv 0) (crypted { copying 1 16 with dst := 0x2007FFFC#32 }) (fun t => t.crypto.result = none) = true ∧
    meets [] (.aesCmac 0) (crypted { copying 1 16 with dst := 0x2007FFFC#32 }) (fun t => t.crypto.result = none) = true ∧
    meets [] (.ecdsaVerify 0) (crypted (copying 1 240)) (fun t => t.crypto.result = none && t.life.lane = [.crypto]) = true ∧
    meets [] .cryptoDone live (fun t => t = live) = true ∧
    meets [] .cryptoDone (crypted { copying 1 16 with busy := true, result := some [1#8, 2#8] })
      (fun t => t.sramByte 0x2007FFF0 = 1#8 && t.sramByte 0x2007FFF1 = 2#8 && t.sramByte 0x2007FFF2 = 0#8 && t.crypto.done) = true ∧
    meets [] .cryptoDone (crypted { busy := true }) (fun t => t.crypto.error && t.crypto.done) = true ∧
    meets [] .cryptoDone { crypted { busy := true } with life := { lane := [.crypto] } } (fun t => t.crypto.busy) = true ∧
    meets [] .cryptoDone { crypted { busy := true, op := 2 } with mram := { audit := [(0, [1#8])], auditNext := 2 } } (fun t => t.crypto.busy) = true ∧
    meets [] .cryptoDone { crypted { busy := true, op := 4 } with mram := { audit := [(0, [1#8])], auditNext := 2 } } (fun t => t.crypto.done) = true ∧
    meets [] (.rngRead 0) { live with life := { rngFailed := true }, lastRead := 5#32 } (fun t => t.crypto.error && t.lastRead = 0#32) = true ∧
    meets [] (.rngRead 0) live (fun t => t.freeCount = 1) = true := by
  decide +kernel

/-- Obligations.CryptoAndAudit: an entry that waits for its hash, a failure of the random source, a scrub with and without a bad burst. -/
theorem test_audit :
    meets [] .auditHash live (fun t => t = live) = true ∧
    (let s := { live with mram := { audit := [(0, [1#8])], auditNext := 2 } }
     s.wf = true ∧ s.auditBacklog = 1 ∧ auditPos (s.mram.auditHashed + 1) = 0) ∧
    meets [] (.rngFail 2) live (fun t => t.life.rngFailed && t.tallyOf 0x2A00 7 = 1) = true ∧
    meets [] (.rngFail 0) { live with life := { rngFailed := true } } (fun t => t.counts = []) = true ∧
    meets [] (.scrubBurst none) live (fun t => t = live) = true ∧
    (let s := { live with mram := { journal := [(0, some (aRecord 1)), (1, some (aRecord 2))] } }
     meets [s.wf] (.scrubBurst (some 0xFF#32)) s fun t => t.mram.journal.length = 1 && t.mram.bad.contains 31) = true ∧
    (let s := { live with flow := { outq := [5], bursts := 61 } }
     meets [s.journalWaits, s.wf] (.scrubBurst (some 0#32)) s fun t => t = s) = true ∧
    (let s := { live with flow := { outq := [5], bursts := 62 } }
     meets [s.journalWaits] (.scrubBurst (some 0#32)) s fun t => t.flow.bursts = 0 && t.mram.bad = [0]) = true := by
  decide +kernel

/-- A device with slot 63 PARKED. -/
def parked63 : State := at_ 63 { st := .parked }

/-- A device with loop-back block 7 as u. -/
def looping (u : LoopUnit) : State := parked63.modLoop 7 fun _ => u

/-- RUNNING at depth 1 on slot 63 for n units. -/
def running (n : Nat) : LoopUnit := { result := 1, ctrl := BitVec.ofNat 32 (0x80000107 + 65536 * n) }

/-- Obligations.LoopbacksTapAndBus: GO and STOP and their checks, the last unit without and with errors, a keep condition that is gone. -/
theorem test_loopback :
    (let w := 0x00FF0107#32
     meets [parked63.allows .fw 2, parked63.loopCond 7 1 7 true, !bitOf w 31, !bitOf w 30, !(parked63.loop 7).running] (.loopGo .fw (.polder 7) (w ||| 0x40000000#32)) parked63
       fun t => (t.loop 7).cmdErr = .multiple) = true ∧
    meets [] (.loopGo .fw (.polder 7) 0x00FF0107#32) parked63 (fun t => (t.loop 7).running && (t.loop 7).result = 1) = true ∧
    meets [parked63.loopCond 7 2 7 true] (.loopGo .fw (.polder 7) 0x00010207#32) parked63 (fun t => (t.slot 63).seq.phase = .wait) = true ∧
    meets [] (.loopGo .fw (.polder 7) 0x00000107#32) live (fun t => (t.loop 7).cmdErr = .value) = true ∧
    meets [] (.loopGo .fw (.polder 7) 0x00010507#32) live (fun t => (t.loop 7).cmdErr = .value) = true ∧
    meets [] (.loopGo .fw .tray 0x00010101#32) live (fun t => (t.loop 13).cmdErr = .value) = true ∧
    meets [!(at_ 63 (inUse .ready)).loopCond 7 1 7 true] (.loopGo .fw (.polder 7) 0x00010107#32) (at_ 63 (inUse .ready)) (fun t => (t.loop 7).cmdErr = .state) = true ∧
    meets [] (.loopStop .fw (.polder 7) 0#32) live (fun t => (t.loop 7).cmdErr = .state) = true ∧
    meets [(looping (running 1)).wf, ((looping (running 1)).loop 7).running, (looping (running 1)).loopCond 7 1 7 false] (.loopUnitDone (.polder 7) 0) (looping (running 1))
      (fun t => (t.loop 7).result = 2 && !(t.loop 7).running) = true ∧
    meets [] (.loopUnitDone (.polder 7) 0x10000) (looping (running 2)) (fun t => (t.loop 7).result = 1 && (t.loop 7).errors = 0xFFFF) = true ∧
    meets [] (.loopUnitDone (.polder 7) 3) (looping (running 1)) (fun t => (t.loop 7).result = 3) = true ∧
    meets [] (.loopStop .fw (.polder 7) 0#32) (looping (running 1)) (fun t => (t.loop 7).result = 4) = true ∧
    (let s := (at_ 63 (inUse .ready)).modLoop 7 fun _ => running 1
     meets [!s.loopCond 7 1 7 false] (.loopUnitDone (.polder 7) 0) s fun t => (t.loop 7).result = 4 && (t.loop 7).units = 0) = true ∧
    meets [live.grant .b < 2] (.loopGo (.path .b) .ring 0x00010100#32) live (fun t => t = live.wdeny .b) = true ∧
    meets [] (.loopGo .fw .device 0x00010201#32) live (fun t => (t.loop 14).running) = true := by
  decide +kernel

/-- Obligations.LoopbacksTapAndBus: a unit of PAD, with and without its card clock. -/
theorem test_loopback_pad :
    (let u : LoopUnit := { result := 1, ctrl := 0x80020207#32 }
     let s (r : Bool) : State := (at_ 63 { st := .parked, seq := { vcc := .on, clkRun := r } }).modLoop 7 fun _ => u
     meets [(s true).loopCond 7 2 7 false, (s true).wf] (.loopUnitDone (.polder 7) 0) (s true) (fun t => t.now = 1000 * 120 + 137067120 && (t.loop 7).units = 1) = true ∧
     meets [] (.loopUnitDone (.polder 7) 0) (s false) (fun t => t = s false) = true) := by
  decide +kernel

/-- Obligations.LoopbacksTapAndBus: the hypotheses of a unit of FAR on the ring. -/
theorem test_loopback_far (h : Config.ringMaster = true) :
    let s := (ringed { closed := true }).modLoop 12 fun _ => { result := 1, ctrl := 0x80020400#32 }
    s.wf = true ∧ (s.loop 12).running = true ∧ (s.loop 12).depth = 4 ∧ s.ring.waits = [] ∧ s.ring.txUntil ≤ s.now ∧ s.loopCond 12 4 0 false = true := by
  refine ⟨by decide +kernel, by decide +kernel, by decide +kernel, rfl, by decide +kernel, ?_⟩
  simp only [State.loopCond, master_of h ((ringed { closed := true }).modLoop 12 fun _ => { result := 1, ctrl := 0x80020400#32 }) rfl]
  decide +kernel

/-- A device whose debug port is open. -/
def opened (s : State) : State := { s with life := { s.life with debugOpen := true } }

/-- Obligations.LoopbacksTapAndBus: the port closed and open, an aligned and an unaligned access, a path's loop-back, and words written on the bus. -/
theorem test_port_and_bus :
    meets [!live.life.debugOpen] .extest live (fun t => !t.tap.pins && t.tap.ir = 3#8) = true ∧
    (keyed live).lifeState = .blank ∧ (keyed live).qpsLive = false ∧ (keyed live).auditHeld = false ∧ (keyed live).dictRuns = true ∧
    meets [] .dbgOpen (keyed live) (fun t => t.life.opening = some true) = true ∧ meets [] .dbgOpen live (fun t => t.tap.ir = 0x10#8 && t.life.opening = none) = true ∧
    (let s : State := { live with mram := { lifeA := some { version := 1#32, r := { state := .maker } } } }
     meets [s.wf, s.lifeState ≠ .blank] .dbgOpen s fun t => t.life.opening = none) = true ∧
    meets [] .highz (opened (at_ 63 (inUse .ready))) (fun t => t.tap.pins && (t.slot 63).st = .parked) = true ∧
    meets [] (.coreCtrl 0x7E#8) (opened (keyed live)) (fun t => (t.core 0).run = .halted) = true ∧
    meets [] (.memAccess true 0x20000002#32 1#32) (opened live) (fun t => t.tap.err && t.sram = []) = true ∧
    meets [] (.memAccess true 0x2007FFFC#32 0x04030201#32) (opened live) (fun t => t.sramByte 0x2007FFFF = 4#8) = true ∧
    meets [] (.memAccess false 0x20000000#32 0#32) (opened (live.setSram 0x20000000 9#8)) (fun t => t.tap.dr = 9#32 && !t.tap.err) = true ∧
    meets [(ringOn live).linkUp .a] (.pcieLoopback .a) (ringOn live) (fun t => !t.linkUp .a) = true ∧ meets [] (.pcieLoopback .b) live (fun t => t = live) = true ∧
    (let s := starting 2
     meets [2 ≤ s.boot.step] (.registerWrite (.path .a) 0x64#32 ⟨.word, 1024#32⟩) s (fun t => t.dev.spillHigh = 1024) = true ∧
     meets [] (.registerWrite (.path .a) 0x64#32 ⟨.word, 1025#32⟩) s (fun t => t.dev.cmdErr = .value) = true ∧
     meets [] (.registerWrite (.path .a) 0x40#32 ⟨.word, 0xFFFF#32⟩) (s.irq 9) (fun t => t.dev.irqStatus = 0#16) = true ∧
     meets [] (.registerWrite (.path .a) 0x3F80#32 ⟨.word, 1#32⟩) s (fun t => match s.writeSlot (.path .a) 63 0 1#32 with | u => t = u) = true ∧
     meets [] (.registerWrite .fw 0x1E000#32 ⟨.word, 1#32⟩) s (fun t => t = s) = true ∧ meets [] (.registerWrite .fw 0x66#32 ⟨.word, 1#32⟩) s (fun t => t = s) = true ∧
     meets [] (.registerWrite (.path .a) 0x64#32 ⟨.word, 1#32⟩) (starting 1) (fun t => t = starting 1) = true ∧
     meets [] (.registerWrite (.path .a) 0x60#32 ⟨(.double 9#32), 0#32⟩) s (fun t => t.dev.spillHigh = 9) = true ∧
     meets [] (.registerWrite (.path .a) 0x64#32 ⟨(.double 9#32), 9#32⟩) s (fun t => t = s) = true ∧
     meets [] (.registerWrite (.path .a) 0x64#32 ⟨.other, 9#32⟩) s (fun t => t = s) = true) := by
  decide +kernel

/-! Ill-formed commands: one for each check of WellFormed.lean, and each is refused. -/

/-- A frame on the ring of 260 payload bytes is well formed; one of 261, one of 256 hops, an AUTH one with 7 bytes of MAC and another with a MAC are not. -/
def longFrame : Frame := frameOf 0x10 3 (List.replicate 260 0#8)
def badFrames : List Frame :=
  [{ longFrame with payload := List.replicate 261 0#8 }, { longFrame with hops := 256 }, { longFrame with flags := 1#8, mac := List.replicate 7 0#8 },
    { longFrame with mac := [0#8] }]

theorem test_ill_formed_frames :
    (longFrame.wellFormed = true ∧ ({ longFrame with flags := 1#8, mac := List.replicate 8 0#8, hops := 255 } : Frame).wellFormed = true) ∧
    ∀ f ∈ badFrames, ∀ c ∈ [Instr.tide f 0 0, .enum f, .measure f, .dictReq f, .dictRsp f, .sched f, .schedAck f], c.wellFormed = false := by
  decide +kernel

theorem test_ill_formed :
    (∀ c ∈ [Instr.sqFetch 1 (.entry (List.replicate 15 0#32)), .sqFetch 1 (.entry (List.replicate 17 0#32)),
        .cmdGather 5 { cmdList := some (List.replicate 256 4), respList := none, cmd := none },
        .cmdGather 5 { cmdList := none, respList := some (List.replicate 256 4), cmd := none },
        .imageCheck (List.replicate 511 0#8) [] false, .ledgerBlock 0 (List.replicate 511 0#8) true, .identification 0 (List.replicate 6 foundCard) true,
        .removalCleanup 0 (List.replicate 5 ⟨none, 0⟩) [], .removalCleanup 0 [] (List.replicate 17 true), .temperWindowEnd 0 (.duty (List.replicate 63 60)), .trayCycle (List.replicate 9 (answerOf 1)),
        .trayCycle [{ result := 1#4, bytes := List.replicate 5 0#8 }]], c.wellFormed = false) ∧
    (∀ c ∈ [Instr.sqFetch 1 (.entry (List.replicate 16 0#32)), .cmdGather 5 { cmdList := some (List.replicate 255 4), respList := none, cmd := none },
        .identification 0 (List.replicate 5 foundCard) true, .removalCleanup 0 (List.replicate 4 ⟨none, 0⟩) (List.replicate 16 true), .temperWindowEnd 0 (.duty (highs 9)), .trayCycle (List.replicate 8 (answerOf 1))],
      c.wellFormed = true) := by
  decide +kernel

/-- The rows of the table give no bits: no word spells a command, and State.withFetchWord leaves the state as it is. -/
theorem test_no_words : (∀ n < 40, decodeTableWord n 0 = none) ∧ live.withFetchWord 32 0xFFFFFFFF = live := by
  decide +kernel

/-! The package (18 R450 to R452): the spec's own examples and counts. -/

/-- The balls that carry what p says. -/
def balls (p : BallUse → Bool) : Nat :=
  ((List.range 34).map fun r => ((List.range 34).filter fun c => p (ballUse { row := r + 1, col := c + 1 })).length).sum

/-- 18, the example of slot 42 and of the rails of polder 5. -/
theorem test_pins_example :
    contacts.map (contactBall 42) = [ballAt "AN" 16, ballAt "AT" 15, ballAt "AP" 15, ballAt "AN" 15, ballAt "AT" 14] ∧
    (∀ c ∈ contacts, ballUse (contactBall 42 c) = .contact 42 c) ∧
    (∀ c ∈ [18, 15, 12, 9], ballUse (ballAt "AM" c) = .vcardh 5) ∧ (∀ c ∈ [17, 14, 11, 8], ballUse (ballAt "AM" c) = .vcardl 5) ∧
    ballUse (ballAt "F" 12) = .ledger 1 7 ∧ ballUse (ballAt "AB" 30) = .host 1 7 ∧ ballUse (ballAt "P" 5) = .ring 6 ∧ ballUse (ballAt "AL" 24) = .system 19 := by
  decide +kernel

/-- 18 Table 18-1, the number of balls of each group. -/
theorem test_pins_count :
    balls (fun u => match u with | .contact _ _ => true | _ => false) = 320 ∧
    balls (fun u => match u with | .vcardh _ => true | .vcardl _ => true | _ => false) = 64 ∧
    balls (fun u => match u with | .ledger _ _ => true | _ => false) = 56 ∧ balls (fun u => match u with | .host _ _ => true | _ => false) = 16 ∧
    balls (fun u => match u with | .ring _ => true | _ => false) = 7 ∧ balls (fun u => match u with | .system _ => true | _ => false) = 20 ∧
    balls (fun u => match u with | .vcore => true | .vio => true | .vdda => true | _ => false) = 104 ∧ balls (fun u => u = .vss) = 545 ∧
    balls (fun u => u = .reserved) = 24 := by
  decide +kernel

end Sys2Proof.Tests
end

section
/-! PROOFS of the scope family. A command of one slot leaves every other slot alone (01 R3, R20): each command through
what Laws/EvolvesSlots.lean says of the operations it calls. -/

namespace Sys2Proof.Machine

/-! What the operations that touch no slot, or the one slot, keep. -/

section
variable {k : Nat} {s t : State} (h : OtherSlots k s t)
include h

theorem OtherSlots.modSlot (f : Slot → Slot) : OtherSlots k s (t.modSlot k f) := State.modSlot_keeps _ _ _ rfl h

theorem OtherSlots.modPolder (p : Nat) (f : Polder → Polder) : OtherSlots k s (t.modPolder p f) :=
  h.of (State.modPolder_evolves rfl _ _ _ (.refl _))

theorem OtherSlots.elapseTo (at_ : Nat) : OtherSlots k s (t.elapseTo at_) := h.of (State.elapseTo_evolves rfl _ _ (.refl _))

theorem OtherSlots.elapseTide (v : Tide) : OtherSlots k s (t.elapseTide v) := h.of (State.elapseTide_evolves rfl _ _ (.refl _))

theorem OtherSlots.elapseTideNat (v : Nat) : OtherSlots k s (t.elapseTideNat v) := h.of (State.elapseTideNat_evolves rfl _ _ (.refl _))

theorem OtherSlots.bump (i c : Nat) : OtherSlots k s (t.bump i c) := h.of (State.bump_evolves rfl _ _ _ (.refl _))

theorem OtherSlots.post (typ source code : Nat) : OtherSlots k s (t.post typ source code) := h.of (State.post_evolves rfl _ _ _ _ _ (.refl _))

/-- A new presence reading: the edge on the slot's timers and its routine audit record (03 R75, R76). -/
theorem OtherSlots.presenceRead (i src kind : Nat) (detail : List Nat) : OtherSlots k s ((t.captureSlot i src).auditRoutine kind detail) :=
  h.of (State.auditRoutine_evolves rfl _ _ _ (State.captureSlot_evolves rfl _ _ _ (.refl _)))

theorem OtherSlots.quench (cause : Nat) : OtherSlots k s (t.quench k cause) := State.quench_keeps _ _ _ rfl h

theorem OtherSlots.rxFlush : OtherSlots k s (t.rxFlush k) := State.rxFlush_keeps _ _ rfl h

theorem OtherSlots.digest : OtherSlots k s (t.digest k) := State.digest_keeps _ _ rfl h

theorem OtherSlots.edgeFull : OtherSlots k s (t.edgeFull k) := State.edgeFull_keeps _ _ rfl h

theorem OtherSlots.txStart (l : BitVec 9) (w : List Reading) : OtherSlots k s (t.txStart k l w) := State.txStart_keeps _ _ _ _ rfl h

theorem OtherSlots.rxJudge (o : RxOpen) (w : List Reading) : OtherSlots k s (t.rxJudge k o w) := State.rxJudge_keeps _ _ _ _ rfl h

theorem OtherSlots.endInDoubt (code : Nat) (warm : Bool) : OtherSlots k s (t.endInDoubt k code warm) := State.endInDoubt_keeps _ _ _ _ rfl h

theorem OtherSlots.slotErr (e : CmdErr) : OtherSlots k s (t.slotErr k e) := State.slotErr_keeps _ _ _ rfl h

end

theorem OtherSlots.ite {k : Nat} {s a b : State} {c : Prop} [Decidable c] (ha : OtherSlots k s a) (hb : OtherSlots k s b) :
    OtherSlots k s (if c then a else b) := by
  split
  · exact ha
  · exact hb

/-- Where the outcome of a command is a next state, every slot but slot k is as it was in s. -/
def LeavesOthers (k : Nat) (s : State) (o : Host.Outcome State Fault Refusal) : Prop := ∀ t, o = .next t → OtherSlots k s t

theorem OtherSlots.leaves {k : Nat} {s t : State} (h : OtherSlots k s t) : LeavesOthers k s (nx t) := by
  rintro _ ⟨⟩
  exact h

theorem leaves_unchanged (k : Nat) (s : State) : LeavesOthers k s (nx s) := (OtherSlots.refl k s).leaves

/-- A command that reports its error leaves the other slots alone where what it did before the report did. -/
theorem leaves_reported {k : Nat} {s : State} (r : CmdErr × State) (h : OtherSlots k s r.2) :
    LeavesOthers k s (nx (if r.1 = .none then r.2 else r.2.slotErr k r.1)) := (OtherSlots.ite h (h.slotErr _)).leaves

/-! Presence and the times of activation and deactivation (02 R47, R62, 03 R75, R76). -/

theorem writeSlotCtrl_leaves (ag : Agent) (i : Fin 64) (w : Word) (s : State) : LeavesOthers i s (nx (s.writeSlotCtrl ag i w)) :=
  (State.writeSlotCtrl_keeps _ _ _ _ rfl (.refl _ _)).leaves

theorem execActAtDue_leaves (i : Fin 64) (s : State) : LeavesOthers i s (execActAtDue i s) := by
  unfold execActAtDue
  split
  · exact leaves_unchanged _ _
  · next v _ =>
    have due : OtherSlots i s (s.elapseTide v) := (OtherSlots.refl _ _).elapseTide v
    dsimp only
    split
    · exact leaves_unchanged _ _
    · split
      · exact leaves_reported _ (State.cmdActivate_keeps _ _ rfl (due.modSlot _))
      · exact due.leaves

theorem execDeactAtDue_leaves (i : Fin 64) (s : State) : LeavesOthers i s (execDeactAtDue i s) := by
  unfold execDeactAtDue
  split
  · exact leaves_unchanged _ _
  · next v _ =>
    have due : OtherSlots i s (s.elapseTide v) := (OtherSlots.refl _ _).elapseTide v
    dsimp only
    split
    · exact leaves_unchanged _ _
    · split
      · exact leaves_reported _ (State.cmdDeactivate_keeps _ _ _ rfl (due.modSlot _))
      · exact due.leaves

theorem execPresAbsent_leaves (i : Fin 64) (s : State) : LeavesOthers i s (execPresAbsent i s) := by
  unfold execPresAbsent
  split
  · exact leaves_unchanged _ _
  · extract_lets x s1 s2
    have absent : OtherSlots i s s1 := (OtherSlots.refl _ _).modSlot _
    have seen : OtherSlots i s s2 := OtherSlots.ite (absent.presenceRead _ _ _ _) absent
    split
    · exact (seen.quench _).leaves
    · split
      · exact ((State.endWaiters_keeps _ _ _ rfl seen).modSlot _).leaves
      · exact ((State.endWaiters_keeps _ _ _ rfl seen).modSlot _).leaves
      · exact seen.leaves

theorem execPresPresentRead_leaves (i : Fin 64) (s : State) : LeavesOthers i s (execPresPresentRead i s) := by
  unfold execPresPresentRead
  dsimp only
  split
  · exact leaves_unchanged _ _
  · exact ((OtherSlots.refl _ _).modSlot _).leaves

theorem execPresDebounceDone_leaves (i : Fin 64) (s : State) : LeavesOthers i s (execPresDebounceDone i s) := by
  unfold execPresDebounceDone
  split
  · exact leaves_unchanged _ _
  · extract_lets s1 s2 s3
    have seen : OtherSlots i s s2 := (((OtherSlots.refl _ _).elapseTo _).modSlot _).presenceRead _ _ _ _
    have present : OtherSlots i s s3 := seen.modSlot _
    split
    · exact (OtherSlots.ite (State.askActivation_keeps _ _ rfl present) present).leaves
    · split
      · exact (State.abortSlotLoop_keeps _ _ rfl seen).leaves
      · exact seen.leaves

/-! Activation, the clock and warm resets (02 R45 to R58). -/

theorem execVccRampStart_leaves (i : Fin 64) (s : State) : LeavesOthers i s (execVccRampStart i s) := by
  unfold execVccRampStart
  extract_lets p s1 ok s2
  split
  · have staggered : OtherSlots i s s1 := by
      unfold s1
      split
      · exact (OtherSlots.refl _ _).elapseTide _
      · exact .refl _ _
    split
    · exact ((staggered.modSlot _).modPolder _ _).leaves
    · exact staggered.leaves
  · exact leaves_unchanged _ _

theorem execSettleRequest_leaves (i : Fin 64) (s : State) : LeavesOthers i s (execSettleRequest i s) := by
  unfold execSettleRequest
  split
  · exact ((((OtherSlots.refl _ _).elapseTo _).modSlot _).modPolder _ _).leaves
  · exact leaves_unchanged _ _

theorem execSettleCheckDone_leaves (i : Fin 64) (s : State) : LeavesOthers i s (execSettleCheckDone i s) := by
  unfold execSettleCheckDone
  split
  · split
    · exact leaves_unchanged _ _
    · extract_lets s1 w sum
      have taken : OtherSlots i s s1 := (OtherSlots.refl _ _).modPolder _ _
      split
      · split
        · exact (taken.modSlot _).leaves
        · exact (taken.modSlot _).leaves
      · exact (taken.quench _).leaves
  · exact leaves_unchanged _ _

theorem execIoRelease_leaves (i : Fin 64) (s : State) : LeavesOthers i s (execIoRelease i s) := by
  unfold execIoRelease
  split
  · exact (((OtherSlots.refl _ _).elapseTo _).modSlot _).leaves
  · exact leaves_unchanged _ _

theorem execRstRise_leaves (i : Fin 64) (s : State) : LeavesOthers i s (execRstRise i s) := by
  have rise (at_ : Nat) : LeavesOthers i s (nx ((s.elapseTo at_).riseRst i)) :=
    (State.riseRst_keeps _ _ rfl ((OtherSlots.refl _ _).elapseTo at_)).leaves
  unfold execRstRise
  dsimp only
  split
  · exact rise _
  · exact rise _
  · exact leaves_unchanged _ _

theorem execClockStop_leaves (i : Fin 64) (s : State) : LeavesOthers i s (execClockStop i s) := by
  unfold execClockStop
  extract_lets s0 x
  have flushed : OtherSlots i s s0 := (OtherSlots.refl _ _).rxFlush
  split
  · exact (((flushed.elapseTo _).elapseTo _).modSlot _).leaves
  · exact flushed.leaves

theorem execClockRestartDone_leaves (i : Fin 64) (s : State) : LeavesOthers i s (execClockRestartDone i s) := by
  unfold execClockRestartDone
  extract_lets x
  split
  · exact leaves_unchanged _ _
  · extract_lets s1 s2
    have ready : OtherSlots i s s2 := ((OtherSlots.refl _ _).elapseTo _).modSlot _
    have inSets : LeavesOthers i s (nx (s2.setsReady i)) := (State.setsReady_keeps _ _ rfl ready).leaves
    split
    · exact (State.warmReset_keeps _ _ rfl ready).leaves
    · split
      · split
        · have busy := ready.modSlot fun x => { x with st := .busy }
          exact (OtherSlots.ite (State.handOver_keeps _ _ _ rfl busy) busy).leaves
        · exact inSets
      · exact inSets

/-! Deactivation, quenching, supervision and discharge (02 R59, R60, 03 R68 to R93). -/

theorem execDeactStep_leaves (i : Fin 64) (s : State) : LeavesOthers i s (execDeactStep i s) := by
  unfold execDeactStep
  extract_lets x
  split
  · split
    · have due (at_ : Nat) : OtherSlots i s (s.elapseTo at_) := (OtherSlots.refl _ _).elapseTo at_
      exact ((OtherSlots.ite ((due _).elapseTo _) (due _)).modSlot _).leaves
    · exact leaves_unchanged _ _
  · exact leaves_unchanged _ _

theorem execVccBelow04_leaves (i : Fin 64) (s : State) : LeavesOthers i s (execVccBelow04 i s) := by
  unfold execVccBelow04
  extract_lets x
  split
  · exact ((OtherSlots.refl _ _).modSlot _).leaves
  · split
    · exact ((OtherSlots.refl _ _).modSlot _).leaves
    · exact leaves_unchanged _ _

theorem execReactGapEnd_leaves (i : Fin 64) (s : State) : LeavesOthers i s (execReactGapEnd i s) := by
  unfold execReactGapEnd
  split
  · exact leaves_unchanged _ _
  · split
    · exact leaves_unchanged _ _
    · exact (((OtherSlots.refl _ _).elapseTo _).modSlot _).leaves

/-- What a supervision of the supply or of the pins does: it quenches its slot where it is in force. -/
theorem quenchIf_leaves (i : Fin 64) (s : State) (c : Prop) [Decidable c] (cause : Nat) :
    LeavesOthers i s (if c then nx (s.quench i cause) else nx s) := by
  split
  · exact ((OtherSlots.refl _ _).quench _).leaves
  · exact leaves_unchanged _ _

theorem execQuenchStep_leaves (i : Fin 64) (s : State) : LeavesOthers i s (execQuenchStep i s) := by
  unfold execQuenchStep
  extract_lets x
  split
  · split
    · exact (((OtherSlots.refl _ _).elapseTo _).modSlot _).leaves
    · exact leaves_unchanged _ _
  · exact leaves_unchanged _ _

theorem execDischTimeout_leaves (i : Fin 64) (s : State) : LeavesOthers i s (execDischTimeout i s) := by
  unfold execDischTimeout
  extract_lets x
  split
  · split
    · exact (((((OtherSlots.refl _ _).elapseTo _).modSlot _).bump _ _).post _ _ _).leaves
    · exact leaves_unchanged _ _
  · exact leaves_unchanged _ _

theorem execSeepLeak_leaves (l : Leak) (s : State) : LeavesOthers l.slot s (execSeepLeak l s) := by
  unfold execSeepLeak
  extract_lets i x s1
  split
  · have leaking : OtherSlots i s s1 := (OtherSlots.refl _ _).modSlot _
    split
    · exact (((leaking.modSlot _).bump _ _).post _ _ _).leaves
    · exact leaking.leaves
  · exact leaves_unchanged _ _

/-! Characters on the I/O line (04 R99 to R110). -/

theorem execCharTransmit_leaves (i : Fin 64) (line : SentLine) (s : State) : LeavesOthers i s (execCharTransmit i line s) := by
  unfold execCharTransmit
  extract_lets r x s0 hit begins
  have received : OtherSlots i s r := by
    refine OtherSlots.digest ?_
    split
    · exact OtherSlots.ite (OtherSlots.refl _ _).rxFlush (.refl _ _)
    · exact .refl _ _
  have due : OtherSlots i s s0 := (received.elapseTo _).edgeFull
  have counted {u : State} (h : OtherSlots i s u) : OtherSlots i s (hit u) := OtherSlots.ite (h.bump _ _) h
  split
  · exact received.leaves
  · split
    · exact due.leaves
    · split
      · split
        · exact received.leaves
        · exact (counted ((due.modSlot _).txStart _ _)).leaves
      · split
        · exact received.leaves
        · exact (State.txWaits_keeps _ _ rfl (counted ((due.modSlot _).txStart _ _))).leaves

theorem execCharReceive_leaves (i : Fin 64) (e : RxEvent) (s : State) : LeavesOthers i s (execCharReceive i e s) := by
  unfold execCharReceive
  split
  · exact (State.rxEdge_keeps _ _ _ rfl (.refl _ _)).leaves
  · split
    · exact leaves_unchanged _ _
    · exact ((OtherSlots.refl _ _).rxJudge _ _).leaves
  · extract_lets s1
    have judged : OtherSlots i s s1 := OtherSlots.ite (.refl _ _) ((OtherSlots.refl _ _).rxJudge _ _)
    split
    · exact (State.rxStop_keeps _ _ _ rfl judged).leaves
    · exact judged.leaves
  · exact (OtherSlots.refl _ _).rxFlush.leaves
  · exact leaves_unchanged _ _

theorem execTxErrsigCheck_leaves (i : Fin 64) (wave late : List Reading) (s : State) : LeavesOthers i s (execTxErrsigCheck i wave late s) := by
  unfold execTxErrsigCheck
  extract_lets w x m d
  split
  · extract_lets s1 up s2 s3
    have read : OtherSlots i s s1 := (OtherSlots.refl _ _).elapseTo _
    have sent : OtherSlots i s s2 := read.modSlot _
    have givenUp : OtherSlots i s s3 := read.modSlot _
    split
    · exact (OtherSlots.ite (sent.endInDoubt _ _) sent).leaves
    · split
      · exact (read.modSlot _).leaves
      · split
        · exact (givenUp.endInDoubt _ _).leaves
        · exact (givenUp.endInDoubt _ _).leaves
        · exact (givenUp.endInDoubt _ _).leaves
        · exact (givenUp.endInDoubt _ _).leaves
        · exact givenUp.leaves
  · exact leaves_unchanged _ _

theorem execTxRepeat_leaves (r : Repetition) (s : State) : LeavesOthers r.slot s (execTxRepeat r s) := by
  unfold execTxRepeat
  extract_lets i
  split
  · extract_lets s0 s1
    have served : OtherSlots i s s0 := State.overdue_keeps _ _ _ rfl (.refl _ _)
    split
    · have due : OtherSlots i s s1 := (served.elapseTo _).edgeFull
      split
      · exact due.leaves
      · exact (State.txWaits_keeps _ _ rfl (((due.modSlot _).txStart _ _).bump _ _)).leaves
    · exact served.leaves
  · exact leaves_unchanged _ _

/-! The transmission protocols and their waits (06 R157 to R177). -/

theorem expired_leaves (i : Fin 64) (w : Wait) (s : State) : LeavesOthers i s (nx (s.expired i w)) :=
  (State.expired_keeps _ _ _ rfl (.refl _ _)).leaves

theorem execPpsResponse_leaves (i : Fin 64) (s : State) : LeavesOthers i s (execPpsResponse i s) := by
  unfold execPpsResponse
  extract_lets s1
  have flushed : OtherSlots i s s1 := (OtherSlots.refl _ _).rxFlush
  split
  · exact (State.ppsJudge_keeps _ _ rfl flushed).leaves
  · exact flushed.leaves

theorem execExchLimit_leaves (i : Fin 64) (s : State) : LeavesOthers i s (execExchLimit i s) := by
  unfold execExchLimit
  extract_lets x n
  split
  · split
    · extract_lets v s1 y
      have ripe : OtherSlots i s s1 := State.rxRipe_keeps _ _ rfl ((OtherSlots.refl _ _).elapseTideNat _)
      split
      · exact (ripe.endInDoubt _ _).leaves
      · exact ripe.leaves
    · exact leaves_unchanged _ _
  · exact leaves_unchanged _ _

/-! Tempering (09 R251 to R258) and the exchange block (11 R314, R315). -/

theorem execTemperWindowEnd_leaves (i : Fin 64) (m : Measure) (s : State) : LeavesOthers i s (execTemperWindowEnd i m s) := by
  cases m with
  | edge => exact (OtherSlots.refl _ _).edgeFull.leaves
  | duty l =>
    unfold execTemperWindowEnd
    dsimp only
    split
    · exact (State.dutyFull_keeps _ _ _ rfl (.refl _ _)).leaves
    · exact leaves_unchanged _ _
  | conv => exact (State.convFull_keeps _ _ rfl (.refl _ _)).leaves

theorem execTemperApply_leaves (i : Fin 64) (at_ : ApplyPoint) (s : State) : LeavesOthers i s (execTemperApply i at_ s) := by
  unfold execTemperApply
  extract_lets sA xA sB xB sB'
  have atEdge : OtherSlots i s sA := (OtherSlots.refl _ _).edgeFull
  have idle : OtherSlots i s sB := (OtherSlots.refl _ _).rxFlush.digest.edgeFull
  split
  · split
    · exact (atEdge.modSlot _).leaves
    · exact atEdge.leaves
  · split
    · exact ((idle.elapseTo _).modSlot _).leaves
    · exact idle.leaves
  · split
    · exact leaves_unchanged _ _
    · exact ((OtherSlots.refl _ _).modSlot _).leaves

theorem anvilWriteXchg_leaves (ag : Agent) (i : Fin 64) (off : Nat) (v : Word) (s : State) :
    LeavesOthers i s (nx (if anvilAgent ag then s.writeXchg i off v else s)) :=
  (OtherSlots.ite (State.writeXchg_keeps _ _ _ _ rfl (.refl _ _)) (.refl _ _)).leaves

theorem execXchgLimitExpiry_leaves (i : Fin 64) (s : State) : LeavesOthers i s (execXchgLimitExpiry i s) := by
  unfold execXchgLimitExpiry
  extract_lets x due s1
  split
  · have elapsed : OtherSlots i s s1 := (OtherSlots.refl _ _).elapseTide _
    split
    · exact (State.abandon_keeps _ _ _ _ _ rfl elapsed).leaves
    · exact elapsed.leaves
  · exact leaves_unchanged _ _

/-- Every command of one slot leaves the others alone. -/
theorem exec_leaves (c : Instr) (i : Fin 64) (s : State) (h : slotOfCommand c = some i) : LeavesOthers i s (exec c s) := by
  cases c with
  | activate ag j w | warmReset ag j w | deactivate ag j w | park ag j w | unpark ag j w | faultClear ag j w | cancelActAt ag j w
  | cancelDeactAt ag j w =>
    cases h; exact writeSlotCtrl_leaves _ _ _ _
  | actAtHiWrite ag j v => cases h; exact (State.writeActAtHi_keeps _ _ _ _ rfl (.refl _ _)).leaves
  | deactAtHiWrite ag j v => cases h; exact (State.writeDeactAtHi_keeps _ _ _ _ rfl (.refl _ _)).leaves
  | actAtDue j => cases h; exact execActAtDue_leaves _ _
  | deactAtDue j => cases h; exact execDeactAtDue_leaves _ _
  | presAbsent j => cases h; exact execPresAbsent_leaves _ _
  | presPresentRead j => cases h; exact execPresPresentRead_leaves _ _
  | presDebounceDone j => cases h; exact execPresDebounceDone_leaves _ _
  | vccRampStart j => cases h; exact execVccRampStart_leaves _ _
  | settleRequest j => cases h; exact execSettleRequest_leaves _ _
  | settleCheckDone j => cases h; exact execSettleCheckDone_leaves _ _
  | ioRelease j => cases h; exact execIoRelease_leaves _ _
  | rstRise j => cases h; exact execRstRise_leaves _ _
  | atrAbsent j | atrCharTimeout j | ppsWaitExpired j | wtExpired j | cwtExpired j | bwtExpired j =>
    cases h; exact expired_leaves _ _ _
  | clockStop j => cases h; exact execClockStop_leaves _ _
  | clockRestartDone j => cases h; exact execClockRestartDone_leaves _ _
  | deactStep j => cases h; exact execDeactStep_leaves _ _
  | vccBelow04 j => cases h; exact execVccBelow04_leaves _ _
  | reactGapEnd j => cases h; exact execReactGapEnd_leaves _ _
  | ocTrip j | ocFoldback j | clkReadback j | rstReadback j =>
    cases h; exact quenchIf_leaves _ _ _ _
  | undervoltage d => cases h; exact quenchIf_leaves _ _ _ _
  | quenchStep j => cases h; exact execQuenchStep_leaves _ _
  | dischTimeout j => cases h; exact execDischTimeout_leaves _ _
  | seepLeak l => cases h; exact execSeepLeak_leaves _ _
  | charTransmit j line => cases h; exact execCharTransmit_leaves _ _ _
  | charReceive j e => cases h; exact execCharReceive_leaves _ _ _
  | txErrsigCheck j wave late => cases h; exact execTxErrsigCheck_leaves _ _ _ _
  | txRepeat r => cases h; exact execTxRepeat_leaves _ _
  | charRawWrite ag j v => cases h; exact (State.writeRaw_keeps _ _ _ _ rfl (.refl _ _)).leaves
  | ppsResponse j => cases h; exact execPpsResponse_leaves _ _
  | procedureByte j => cases h; exact (State.t0Proc_keeps _ _ rfl (OtherSlots.refl _ _).rxFlush).leaves
  | t0TpduEnd j => cases h; exact (State.t0Sw2_keeps _ _ rfl (OtherSlots.refl _ _).rxFlush).leaves
  | t1BlockReceived j => cases h; exact (State.t1Whole_keeps _ _ rfl (OtherSlots.refl _ _).rxFlush).leaves
  | exchLimit j => cases h; exact execExchLimit_leaves _ _
  | temperWindowEnd j m => cases h; exact execTemperWindowEnd_leaves _ _ _
  | temperApply j point => cases h; exact execTemperApply_leaves _ _ _
  | xchgEnd ag j v | xchgRespData ag j v | xchgRespLenWrite ag j v =>
    cases h; exact anvilWriteXchg_leaves _ _ _ _ _
  | xchgLimitExpiry j => cases h; exact execXchgLimitExpiry_leaves _ _
  | _ => cases h

/-- Settles O60, by the cases of the command: each of its operations changes only the command's slot, or a slot's holder where a transaction ends. -/
theorem slotsAreIndependent : Obligations.SlotsAreIndependent := fun c i s t hc he => exec_leaves c i s hc t he

end Sys2Proof.Machine
end

section
/-! PROOFS of the flow family: the reads that its proofs share, of the transaction table and of what an operation leaves alone. -/

namespace Sys2Proof.Machine

/-! Entries of a canonical table. -/

theorem lt_of_mem_trising {α : Type} {t : Table α} {m k : Nat} {v : α} (ht : trising (some m) t = true) (h : (k, v) ∈ t) : m < k := by
  induction t generalizing m with
  | nil => simp at h
  | cons e t ih =>
    simp only [trising, Bool.and_eq_true, decide_eq_true_eq] at ht
    rcases List.mem_cons.mp h with rfl | h
    · exact ht.1
    · exact ht.1.trans (ih ht.2 h)

theorem tget_of_mem {α : Type} {d : α} {t : Table α} {k : Nat} {v : α} {m : Option Nat} (ht : trising m t = true) (h : (k, v) ∈ t) : tget d t k = v := by
  induction t generalizing m with
  | nil => simp at h
  | cons e t ih =>
    have hr : trising (some e.1) t = true := by cases m <;> simp_all [trising]
    rcases List.mem_cons.mp h with rfl | h
    · simp [tget]
    · rw [tget, if_neg (Nat.ne_of_gt (lt_of_mem_trising hr h))]
      exact ih hr h

theorem mem_of_tget_ne {α : Type} {d : α} {t : Table α} {k : Nat} (h : tget d t k ≠ d) : (k, tget d t k) ∈ t := by
  induction t with
  | nil => exact absurd rfl h
  | cons e t ih =>
    by_cases hk : k = e.1
    · subst hk; simp [tget]
    · simp only [tget, if_neg hk] at h ⊢; exact List.mem_cons_of_mem _ (ih h)

/-! The transaction table. -/

@[simp] theorem State.setTxn_txn (s : State) (n : Nat) (x : Option Txn) : (s.setTxn n x).txn n = x := tget_tset_same _ _ _ _

theorem State.setTxn_txn_ne (s : State) (n m : Nat) (x : Option Txn) (h : m ≠ n) : (s.setTxn n x).txn m = s.txn m := tget_tset_ne _ _ _ _ _ h

@[simp] theorem State.modTxn_txn (s : State) (n : Nat) (f : Txn → Txn) : (s.modTxn n f).txn n = (s.txn n).map f := tget_tset_same _ _ _ _

theorem State.modTxn_txn_ne (s : State) (n m : Nat) (f : Txn → Txn) (h : m ≠ n) : (s.modTxn n f).txn m = s.txn m := tget_tset_ne _ _ _ _ _ h

/-- In a canonical table the list of transactions has exactly the entries of the table. -/
theorem State.mem_txnList {s : State} (h : s.wf = true) {n : Nat} {x : Txn} : (n, x) ∈ s.txnList ↔ s.txn n = some x := by
  have rising : trising none s.flow.txns = true := by
    obtain ⟨-, ht, -, -⟩ := State.wf_flow h
    simp only [twf, Bool.and_eq_true] at ht
    exact ht.1
  have listed : (n, x) ∈ s.txnList ↔ (n, some x) ∈ s.flow.txns := by
    simp only [State.txnList, List.mem_filterMap, Option.map_eq_some_iff, Prod.exists, Prod.mk.injEq]
    constructor
    · rintro ⟨k, o, hm, y, rfl, rfl, rfl⟩; exact hm
    · exact fun hm => ⟨n, some x, hm, x, rfl, rfl, rfl⟩
  rw [listed]
  constructor
  · exact tget_of_mem rising
  · intro hx
    have := mem_of_tget_ne (d := none) (t := s.flow.txns) (k := n) (by rw [show tget none s.flow.txns n = some x from hx]; simp)
    rwa [show tget none s.flow.txns n = some x from hx] at this

/-! What an operation that evolves the state leaves alone. -/

theorem Evolves.txn_eq {l : List Part} {s t : State} (h : Evolves l s t) (hl : Part.flow ∉ l) (n : Nat) : t.txn n = s.txn n := by
  have : t.flow = s.flow := h.changes.at hl
  simp only [State.txn, this]

theorem Evolves.slot_eq {l : List Part} {s t : State} (h : Evolves l s t) (hl : Part.slots ∉ l) (i : Nat) : t.slot i = s.slot i := by
  have : t.slots = s.slots := h.changes.at hl
  simp only [State.slot, this]

/-! A transaction that ends before stage 6. -/

theorem State.endEarly_txn (s : State) (n m status cause : Nat) (resp : List Byte) (x : Txn) (hx : s.txn n = some x) :
    (s.endEarly n status cause resp).txn m = (s.setTxn n (some { x with
      stage := .complete
      outDone := some { cls := .notSent, status := status, cause := cause, tide := s.ltide, resp := resp, respLen := resp.length } })).txn m := by
  unfold State.endEarly
  rw [hx]
  exact (State.freeSlots_evolves (ps := [.slots]) rfl _ n x.slots (.refl _)).txn_eq (by decide) m

theorem State.endEarly_txn_ne (s : State) (n m status cause : Nat) (resp : List Byte) (h : m ≠ n) : (s.endEarly n status cause resp).txn m = s.txn m := by
  cases hx : s.txn n with
  | none => simp only [State.endEarly, hx]
  | some x => rw [State.endEarly_txn s n m status cause resp x hx, State.setTxn_txn_ne _ _ _ _ h]

theorem State.endEarly_ended (s : State) (n status cause : Nat) (resp : List Byte) (x : Txn) (hx : s.txn n = some x) :
    (s.endEarly n status cause resp).ended n status :=
  ⟨_, _, (State.endEarly_txn s n n status cause resp x hx).trans (State.setTxn_txn _ _ _), rfl, rfl, rfl, rfl⟩

end Sys2Proof.Machine
end

section
/-! PROOFS of the flow family: SLOT_DISPATCH (01 R20, 08 R241, 11 R310). -/

namespace Sys2Proof.Machine

/-! The least of a list by a key, as a fold. -/

section
variable {α : Type} {key : α → Nat} {f : Option α → α → Option α} (some_ : ∀ a e, f (some a) e = if key e < key a then some e else some a)
include some_

theorem foldl_least_some (l : List α) (a : α) : ∃ r, l.foldl f (some a) = some r ∧ (r = a ∨ r ∈ l) ∧ key r ≤ key a ∧ ∀ e ∈ l, key r ≤ key e := by
  induction l generalizing a with
  | nil => exact ⟨a, rfl, .inl rfl, Nat.le_refl _, by simp⟩
  | cons b l ih =>
    rw [List.foldl_cons, some_]
    split
    · next hb =>
      obtain ⟨r, hr, hm, hle, hall⟩ := ih b
      exact ⟨r, hr, .inr (List.mem_cons.mpr hm), hle.trans hb.le, List.forall_mem_cons.mpr ⟨hle, hall⟩⟩
    · next hb =>
      obtain ⟨r, hr, hm, hle, hall⟩ := ih a
      exact ⟨r, hr, hm.imp id (List.mem_cons_of_mem _), hle, List.forall_mem_cons.mpr ⟨hle.trans (Nat.not_lt.mp hb), hall⟩⟩

theorem foldl_least (none_ : ∀ e, f none e = some e) (l : List α) (hl : l ≠ []) : ∃ r ∈ l, l.foldl f none = some r ∧ ∀ e ∈ l, key r ≤ key e := by
  cases l with
  | nil => exact absurd rfl hl
  | cons a l =>
    obtain ⟨r, hr, hm, hle, hall⟩ := foldl_least_some some_ l a
    exact ⟨r, List.mem_cons.mpr hm, by rw [List.foldl_cons, none_, hr], List.forall_mem_cons.mpr ⟨hle, hall⟩⟩

end

/-- The place of an entry of the transaction table in the order in which slot i serves them: the turn of its queue pair, then its fetch. -/
def State.serveKey (s : State) (i : Nat) (e : Nat × Txn) : Nat := (if (s.slot i).lastQp < e.2.qp then e.2.qp else e.2.qp + 512) * 2 ^ 64 + e.2.fetchNo

/-- The first by that order of what was taken so far and one entry more. -/
def State.sooner (s : State) (i : Nat) (m : Option (Nat × Txn)) (e : Nat × Txn) : Option (Nat × Txn) :=
  match m with
  | some a => if s.serveKey i e < s.serveKey i a then some e else some a
  | none => some e

theorem State.pick_eq (s : State) (i : Nat) :
    s.pick i = ((s.txnList.filter fun e => s.canStart e.2 i).foldl (s.sooner i) none).map (·.1) := rfl

/-- Of one queue pair the earliest fetched comes first. -/
theorem State.fetchNo_le_of_serveKey_le {s : State} {i : Nat} {a b : Nat × Txn} (h : s.serveKey i a ≤ s.serveKey i b) (hq : b.2.qp = a.2.qp) :
    a.2.fetchNo ≤ b.2.fetchNo := by
  simp only [State.serveKey, hq] at h
  exact Nat.le_of_add_le_add_left h

/-- Where a transaction may start on slot i, the slot takes one that may start, the earliest fetched of its queue pair (01 R20 rules 1 and 2). -/
theorem State.pick_earliest {s : State} {i n : Nat} {y : Txn} (h : s.wf = true) (hn : s.txn n = some y) (hy : s.canStart y i = true) :
    ∃ m z, s.pick i = some m ∧ s.txn m = some z ∧ s.canStart z i = true ∧
      ∀ e ∈ s.txnList, s.canStart e.2 i = true → e.2.qp = z.qp → z.fetchNo ≤ e.2.fetchNo := by
  obtain ⟨r, hr, least, hall⟩ := foldl_least (key := s.serveKey i) (f := s.sooner i) (fun _ _ => rfl) (fun _ => rfl)
    (s.txnList.filter fun e => s.canStart e.2 i) (List.ne_nil_of_mem (List.mem_filter.mpr ⟨(State.mem_txnList h).mpr hn, hy⟩))
  obtain ⟨hm, hc⟩ := List.mem_filter.mp hr
  exact ⟨r.1, r.2, by rw [State.pick_eq, least]; rfl, (State.mem_txnList h).mp hm, hc,
    fun e he hs hq => State.fetchNo_le_of_serveKey_le (hall e (List.mem_filter.mpr ⟨he, hs⟩)) hq⟩

/-! Reservation. -/

@[simp] theorem State.reserve_txn (s : State) (n q i m : Nat) : (s.reserve n q i).txn m = s.txn m := rfl

theorem State.reserve_slot (s : State) (n q i : Nat) :
    (s.reserve n q i).slot i = { s.slot i with
      holder := some n, lastQp := q
      regs := if (s.boundCore i).isSome then { (s.slot i).regs with charCfg := setFld (s.slot i).regs.charCfg 31 30 1 } else (s.slot i).regs } :=
  State.modSlot_slot _ _ _

theorem State.reserve_slot_ne (s : State) (n q i j : Nat) (h : j ≠ i) : (s.reserve n q i).slot j = s.slot j := State.modSlot_slot_ne _ _ _ _ h

/-- Slot j is reserved for transaction n of pair q and otherwise stands in u as in s. -/
def Reserved (n q j : Nat) (s u : State) : Prop := (u.slot j).holder = some n ∧ (u.slot j).lastQp = q ∧ (u.slot j).st = (s.slot j).st

theorem State.reserve_reserved (s u : State) (n q i : Nat) (hst : (u.slot i).st = (s.slot i).st) : Reserved n q i s (u.reserve n q i) := by
  simp only [Reserved, State.reserve_slot, hst, and_self]

theorem State.reserve_keeps_reserved (s u : State) (n q i j : Nat) (h : Reserved n q j s u) : Reserved n q j s (u.reserve n q i) := by
  have ⟨_, _, hst⟩ := h
  by_cases hij : j = i
  · subst hij; exact State.reserve_reserved s u n q j hst
  · simpa only [Reserved, State.reserve_slot_ne u n q i j hij] using h

/-- The reservation of a list of slots reserves each of them and no other (08 R241). -/
theorem State.reserveAll_slots (s : State) (n q : Nat) (l : List Nat) :
    (∀ j ∈ l, Reserved n q j s (s.forEach l fun s j => s.reserve n q j)) ∧
    ∀ j, j ∉ l → (s.forEach l fun s j => s.reserve n q j).slot j = s.slot j := by
  have kept (l : List Nat) (u : State) (j : Nat) (h : Reserved n q j s u) : Reserved n q j s (u.forEach l fun s j => s.reserve n q j) := by
    induction l generalizing u with
    | nil => exact h
    | cons i l ih => exact ih _ (State.reserve_keeps_reserved s u n q i j h)
  have other (l : List Nat) (u : State) (j : Nat) (h : j ∉ l) : (u.forEach l fun s j => s.reserve n q j).slot j = u.slot j := by
    induction l generalizing u with
    | nil => rfl
    | cons i l ih =>
      obtain ⟨hi, hl⟩ := not_or.mp (fun k => h (List.mem_cons.mpr k))
      exact (ih _ hl).trans (State.reserve_slot_ne u n q i j hi)
  refine ⟨?_, other l s⟩
  suffices ∀ u : State, (∀ j, (u.slot j).st = (s.slot j).st) → ∀ j ∈ l, Reserved n q j s (u.forEach l fun s j => s.reserve n q j) from this s fun _ => rfl
  induction l with
  | nil => simp
  | cons i l ih =>
    intro u hst j hj
    rcases List.mem_cons.mp hj with rfl | hj
    · exact kept l _ _ (State.reserve_reserved s u n q _ (hst _))
    · refine ih _ (fun k => ?_) j hj
      by_cases hk : k = i
      · subst hk; rw [State.reserve_slot]; exact hst k
      · rw [State.reserve_slot_ne u n q i k hk]; exact hst k

/-! SLOT_DISPATCH, by what the slot takes. -/

theorem execSlotDispatch_none {s : State} {i : Fin 64} (h : s.pick i = none) : exec (.slotDispatch i) s = .next s := by
  simp only [exec, execSlotDispatch, h]

theorem execSlotDispatch_slot {s : State} {i : Fin 64} {m j : Nat} {z : Txn} (hp : s.pick i = some m) (hz : s.txn m = some z) (ht : z.target = .slot j) :
    exec (.slotDispatch i) s =
      .next ((s.modTxn m fun x => { x with stage := .intent, slots := [i.val], smSsc := (s.session x.sess).ssc }).reserve m z.qp i) := by
  simp only [exec, execSlotDispatch, hp, hz, ht]

theorem execSlotDispatch_set {s : State} {i : Fin 64} {n k : Nat} {z : Txn} (hp : s.pick i = some n) (hz : s.txn n = some z) (ht : z.target = .set k) :
    exec (.slotDispatch i) s = .next (if (s.cset k).diverged then s.endEarly n 0x23 else
      (s.modTxn n fun x => { x with
        stage := .intent, slots := (s.cset k).serving, smSsc := (s.session x.sess).ssc, rounds := { lead := (s.cset k).lead } }).forEach
        (s.cset k).serving fun s j => s.reserve n z.qp j) := by
  simp only [exec, execSlotDispatch, hp, hz, ht]
  split <;> rfl

/-- Settles O31: the transaction a slot takes is the least of those that may start in the order of its queue pair's fetches. -/
theorem dispatchReservesSlots : Obligations.DispatchReservesSlots := by
  intro s i hwf x
  refine ⟨execSlotDispatch_none, fun n y hn hy hall => ?_, fun n z k hp hz ht => ⟨fun hd => ?_, fun hd => ?_⟩⟩
  · obtain ⟨m, z, hp, hz, hc, first⟩ := State.pick_earliest hwf hn hy
    have aimed : z.target = .slot i.val := hall (m, z) ((State.mem_txnList hwf).mpr hz) hc
    refine ⟨_, execSlotDispatch_slot hp hz aimed, m, z, hz, hc, first, ?_, State.reserve_slot _ _ _ _, ?_, ?_⟩
    · simp only [State.reserve_txn, State.modTxn_txn, hz, Option.map_some]
    · exact State.modSlot_keeps _ _ _ rfl (.refl _ _)
    · exact (State.reserve_evolves rfl _ _ _ _ (State.modTxn_evolves rfl _ _ _ (.refl s))).changes
  · refine ⟨_, execSlotDispatch_set hp hz ht, ?_, ?_⟩ <;> rw [if_pos hd]
    · exact State.endEarly_ended s n 0x23 0 [] z hz
    · exact (State.endEarly_evolves rfl _ _ _ _ _ (.refl s)).changes
  · have reserves (u : State) : Evolves [.slots] u (u.forEach (s.cset k).serving fun s j => s.reserve n z.qp j) :=
      State.forEach_evolves rfl _ _ _ (.refl u) fun v j => State.reserve_evolves rfl v n z.qp j (.refl v)
    refine ⟨_, execSlotDispatch_set hp hz ht, ?_⟩
    rw [if_neg (by simp [hd])]
    obtain ⟨mine, others⟩ := State.reserveAll_slots (s.modTxn n fun x => { x with
      stage := .intent, slots := (s.cset k).serving, smSsc := (s.session x.sess).ssc, rounds := { lead := (s.cset k).lead } }) n z.qp (s.cset k).serving
    refine ⟨?_, mine, others, ?_⟩
    · rw [(reserves _).txn_eq (by decide), State.modTxn_txn, hz]; rfl
    · exact ((State.modTxn_evolves rfl _ _ _ (.refl s)).trans ((reserves _).mono rfl)).changes

end Sys2Proof.Machine
end

section
/-! PROOFS of the flow family: what the operations that let a slot leave service do to the queue engine. They may end transactions, and one that has
ended stays as it is; every transaction keeps its queue pair, and the pairs and the spillway stay (01 R15, R16, 03 R87). -/

namespace Sys2Proof.Machine

/-- From s to t no transaction comes or goes or changes its pair, one that awaits its completion stays as it is, and the queue pairs and the spillway
stay; t is canonical. -/
structure Settles (s t : State) : Prop where
  wf : t.wf = true
  qps : t.flow.qps = s.flow.qps
  spill : t.flow.spill = s.flow.spill
  pairs : ∀ m, (t.txn m).map (·.qp) = (s.txn m).map (·.qp)
  done : ∀ m z, s.txn m = some z → z.stage = .complete → t.txn m = some z

theorem Settles.refl {s : State} (h : s.wf = true) : Settles s s := ⟨h, rfl, rfl, fun _ => rfl, fun _ _ hz _ => hz⟩

section
variable {s s0 t : State} (h : Settles s0 s)
include h

theorem Settles.trans (k : Settles s t) : Settles s0 t :=
  ⟨k.wf, k.qps.trans h.qps, k.spill.trans h.spill, fun m => (k.pairs m).trans (h.pairs m), fun m z hz hc => k.done m z (h.done m z hz hc) hc⟩

/-- An operation that leaves the transactions, the pairs and the spillway alone. -/
theorem Settles.flow {l : List Part} (e : Evolves l s t) (ht : t.flow.txns = s.flow.txns) (hq : t.flow.qps = s.flow.qps)
    (hs : t.flow.spill = s.flow.spill) : Settles s0 t := by
  have same (m : Nat) : t.txn m = s.txn m := by simp only [State.txn, ht]
  exact h.trans ⟨e.wf h.wf, hq, hs, fun m => by rw [same], fun m z hz _ => by rw [same, hz]⟩

/-- An operation that leaves the queue engine alone. -/
theorem Settles.of {l : List Part} (e : Evolves l s t) (hl : Part.flow ∉ l := by decide) : Settles s0 t := by
  have same : t.flow = s.flow := e.changes.at hl
  exact h.flow e (by rw [same]) (by rw [same]) (by rw [same])

theorem Settles.forEach (l : List Nat) (f : State → Nat → State) (hf : ∀ u a, Settles s0 u → Settles s0 (f u a)) : Settles s0 (s.forEach l f) := by
  unfold State.forEach
  induction l generalizing s with
  | nil => exact h
  | cons a l ih => exact ih (hf s a h)

theorem Settles.foldl {β : Type} (l : List β) (f : State → β → State) (hf : ∀ u a, Settles s0 u → Settles s0 (f u a)) : Settles s0 (l.foldl f s) := by
  induction l generalizing s with
  | nil => exact h
  | cons a l ih => exact ih (hf s a h)

theorem Settles.modSlot (i : Nat) (f : Slot → Slot) : Settles s0 (s.modSlot i f) := h.of (State.modSlot_evolves (ps := [.slots]) rfl s i f (.refl s))

theorem Settles.endWait (i n : Nat) : Settles s0 (s.endWait i n) := h.of (State.endWait_evolves (ps := [.timers]) rfl s i n (.refl s))

theorem Settles.modSet (k : Nat) (f : CardSet → CardSet) : Settles s0 (s.modSet k f) :=
  h.flow (State.modSet_evolves (ps := [.flow]) rfl s k f (.refl s)) rfl rfl rfl

theorem Settles.setSession (k : Nat) (x : Session) : Settles s0 (s.setSession k x) :=
  h.flow (State.setSession_evolves (ps := [.flow]) rfl s k x (.refl s)) rfl rfl rfl

/-- A change of transactions that keeps their pairs, and of those that await their completion everything. -/
theorem Settles.txns {l : List Part} (e : Evolves l s t) (hq : t.flow.qps = s.flow.qps) (hs : t.flow.spill = s.flow.spill)
    (hp : ∀ m, (t.txn m).map (·.qp) = (s.txn m).map (·.qp)) (hd : ∀ m z, s.txn m = some z → z.stage = .complete → t.txn m = some z) : Settles s0 t :=
  h.trans ⟨e.wf h.wf, hq, hs, hp, hd⟩

theorem Settles.modTxn (n : Nat) (f : Txn → Txn) (hf : ∀ x, (f x).qp = x.qp) (hn : ∀ x, s.txn n = some x → x.stage ≠ .complete) :
    Settles s0 (s.modTxn n f) := by
  refine h.txns (State.modTxn_evolves (ps := [.flow]) rfl s n f (.refl s)) rfl rfl (fun m => ?_) (fun m z hz hc => ?_)
  · by_cases hm : m = n
    · subst hm; rw [State.modTxn_txn, Option.map_map]; exact congrArg (fun g => (s.txn m).map g) (funext hf)
    · rw [State.modTxn_txn_ne _ _ _ _ hm]
  · have hm : m ≠ n := by rintro rfl; exact hn z hz hc
    rw [State.modTxn_txn_ne _ _ _ _ hm, hz]

end

/-! The audit record takes a burst of MRAM at most. -/

theorem Evolves.flow_eq {l : List Part} {s t : State} (h : Evolves l s t) (hl : Part.flow ∉ l := by decide) : t.flow = s.flow := h.changes.at hl

theorem State.auditAdd_flow (s : State) (c : AuditClass) (e : AuditEntry) : (s.auditAdd c e).flow = s.flow ∨ (s.auditAdd c e).flow = s.flow.burst 1 := by
  unfold State.auditAdd
  dsimp only
  split
  · refine .inl ?_
    split
    · rfl
    · exact (State.irq_evolves (ps := [.dev, .counts, .out, .pba]) rfl _ 12 (State.post_evolves rfl _ _ _ _ _ (.refl _))).flow_eq
  · refine .inr ((State.auditDeep_evolves (ps := [.dev, .cores, .counts, .lpos, .audit, .out, .pba]) rfl _ (State.auditFill_evolves rfl _
      (State.markChanged_evolves rfl _ _ _ (.refl _)))).flow_eq.trans ?_)
    split <;> rfl

section
variable {s s0 : State} (h : Settles s0 s)
include h

theorem Settles.auditRoutine (kind : Nat) (detail : List Nat) : Settles s0 (s.auditRoutine kind detail) := by
  unfold State.auditRoutine
  split
  · have e := State.auditAdd_evolves (ps := [.dev, .flow, .mram, .cores, .counts, .lpos, .audit, .out, .pba]) rfl s .routine
      { kind := kind, detail := detail.map (BitVec.ofNat 8) } (.refl s)
    rcases State.auditAdd_flow s .routine { kind := kind, detail := detail.map (BitVec.ofNat 8) } with hf | hf
    · exact h.flow e (by rw [hf]) (by rw [hf]) (by rw [hf])
    · exact h.flow e (by rw [hf]; rfl) (by rw [hf]; rfl) (by rw [hf]; rfl)
  · exact h

theorem Settles.post (typ source code : Nat) (data : List Word) : Settles s0 (s.post typ source code data) :=
  h.of (State.post_evolves (ps := [.dev, .counts, .out, .pba]) rfl s typ source code data (.refl s))

theorem Settles.irq (n : Nat) : Settles s0 (s.irq n) := h.of (State.irq_evolves (ps := [.dev, .counts, .out, .pba]) rfl s n (.refl s))

end

/-! Ends before stage 6. -/

theorem State.endEarly_pair (s : State) (n m status cause : Nat) (resp : List Byte) :
    ((s.endEarly n status cause resp).txn m).map (·.qp) = (s.txn m).map (·.qp) := by
  by_cases hm : m = n
  · subst hm
    cases hx : s.txn m with
    | none => simp only [State.endEarly, hx]
    | some x => rw [State.endEarly_txn s m m status cause resp x hx, State.setTxn_txn]; rfl
  · rw [State.endEarly_txn_ne s n m status cause resp hm]

theorem State.endEarly_qps (s : State) (n status cause : Nat) (resp : List Byte) :
    (s.endEarly n status cause resp).flow.qps = s.flow.qps ∧ (s.endEarly n status cause resp).flow.spill = s.flow.spill := by
  unfold State.endEarly
  split
  · exact ⟨rfl, rfl⟩
  · next x _ =>
    have kept (u : State) : (u.freeSlots n x.slots).flow = u.flow := (State.freeSlots_evolves (ps := [.slots]) rfl u n x.slots (.refl u)).flow_eq
    simp only [kept]
    exact ⟨rfl, rfl⟩

theorem State.endAll_txn_ne (s : State) (l : List Nat) (status cause m : Nat) (h : m ∉ l) :
    (s.forEach l fun s t => s.endEarly t status cause).txn m = s.txn m := by
  induction l generalizing s with
  | nil => rfl
  | cons n l ih =>
    obtain ⟨hn, hl⟩ := not_or.mp (fun k => h (List.mem_cons.mpr k))
    exact (ih _ hl).trans (State.endEarly_txn_ne s n m status cause [] hn)

/-- Transactions that end one after another have all ended with the status. -/
theorem State.endAll_ended (s : State) (l : List Nat) (status cause m : Nat) (h : m ∈ l) (x : Txn) (hx : s.txn m = some x) :
    (s.forEach l fun s t => s.endEarly t status cause).ended m status := by
  have ended (u : State) (n : Nat) (hu : u.ended m status) : (u.endEarly n status cause).ended m status := by
    obtain ⟨z, o, hz, rest⟩ := hu
    by_cases hm : m = n
    · subst hm; exact State.endEarly_ended u m status cause [] z hz
    · exact ⟨z, o, (State.endEarly_txn_ne u n m status cause [] hm).trans hz, rest⟩
  have stays (l : List Nat) (u : State) (hu : u.ended m status) : (u.forEach l fun s t => s.endEarly t status cause).ended m status := by
    induction l generalizing u with
    | nil => exact hu
    | cons n l ih => exact ih _ (ended u n hu)
  induction l generalizing s x with
  | nil => simp at h
  | cons n l ih =>
    by_cases hm : m = n
    · subst hm; exact stays l _ (State.endEarly_ended s m status cause [] x hx)
    · exact ih _ ((List.mem_cons.mp h).resolve_left hm) x ((State.endEarly_txn_ne s n m status cause [] hm).trans hx)

theorem State.endAll_kept (s : State) (l : List Nat) (status cause : Nat) :
    (s.forEach l fun s t => s.endEarly t status cause).flow.qps = s.flow.qps ∧
    (s.forEach l fun s t => s.endEarly t status cause).flow.spill = s.flow.spill ∧
    ∀ m, ((s.forEach l fun s t => s.endEarly t status cause).txn m).map (·.qp) = (s.txn m).map (·.qp) := by
  induction l generalizing s with
  | nil => exact ⟨rfl, rfl, fun _ => rfl⟩
  | cons n l ih =>
    obtain ⟨hq, hs, hp⟩ := ih (s.endEarly n status cause)
    obtain ⟨kq, ks⟩ := State.endEarly_qps s n status cause []
    exact ⟨hq.trans kq, hs.trans ks, fun m => (hp m).trans (State.endEarly_pair s n m status cause [])⟩

section
variable {s s0 : State} (h : Settles s0 s)
include h

/-- Ending transactions of which none awaits its completion. -/
theorem Settles.endAll (l : List Nat) (status cause : Nat) (hl : ∀ m ∈ l, ∀ x, s.txn m = some x → x.stage ≠ .complete) :
    Settles s0 (s.forEach l fun s t => s.endEarly t status cause) := by
  obtain ⟨hq, hs, hp⟩ := State.endAll_kept s l status cause
  have e : Evolves [.slots, .flow] s (s.forEach l fun s t => s.endEarly t status cause) :=
    State.forEach_evolves rfl _ _ _ (.refl s) fun u m => State.endEarly_evolves rfl u m status cause [] (.refl u)
  exact h.txns e hq hs hp fun m z hz hc => (State.endAll_txn_ne s l status cause m fun hm => hl m hm z hz hc).trans hz

/-- Ending those transactions of the table that a test picks, where it picks none that awaits its completion. -/
theorem Settles.endPicked (p : Nat × Txn → Bool) (status cause : Nat) (hp : ∀ e, p e = true → e.2.stage ≠ .complete) :
    Settles s0 (s.forEach ((s.txnList.filter p).map (·.1)) fun s t => s.endEarly t status cause) := by
  refine h.endAll _ status cause fun m hm x hx => ?_
  obtain ⟨e, he, rfl⟩ := List.mem_map.mp hm
  obtain ⟨hin, hpick⟩ := List.mem_filter.mp he
  have : s.txn e.1 = some e.2 := (State.mem_txnList h.wf).mp hin
  rw [hx, Option.some.injEq] at this
  exact this ▸ hp e hpick

theorem Settles.endEarly (n status cause : Nat) (hn : ∀ x, s.txn n = some x → x.stage ≠ .complete) : Settles s0 (s.endEarly n status cause) :=
  h.endAll [n] status cause fun m hm => by rw [List.mem_singleton.mp hm]; exact hn

theorem Settles.endWaiters (i cause : Nat) : Settles s0 (s.endWaiters i cause) := by
  refine h.endPicked _ _ _ fun e he hc => ?_
  simp [hc] at he

theorem Settles.closeSession (i : Nat) : Settles s0 (s.closeSession i) := by
  have reset : Settles s0 ((s.setSession i {}).setGen i (s.gen i + 1)) :=
    (h.setSession i {}).of (State.setGen_evolves (ps := [.mram]) rfl _ _ _ (.refl _))
  refine reset.endPicked _ _ _ fun e he hc => ?_
  simp [hc] at he

theorem Settles.closeAll (onSet : Bool) (target : Nat) : Settles s0 (s.closeAll onSet target) := h.forEach _ _ fun _ i hu => hu.closeSession i

end

/-! Card sets. -/

/-- The transaction of a set past stage 5 stands at stage 6 or 7. -/
theorem State.setTxnOf_stage {s : State} {k n : Nat} (h : s.wf = true) (hn : s.setTxnOf k = some n) (x : Txn) (hx : s.txn n = some x) :
    x.stage ≠ .complete := by
  obtain ⟨e, he, rfl⟩ := List.mem_map.mp (List.mem_of_head? hn)
  obtain ⟨hin, hpick⟩ := List.mem_filter.mp he
  have : s.txn e.1 = some e.2 := (State.mem_txnList h).mp hin
  rw [hx, Option.some.injEq] at this
  subst this
  intro hc
  simp [hc] at hpick

section
variable {s s0 : State} (h : Settles s0 s)
include h

theorem Settles.modRounds (n : Nat) (f : Rounds → Rounds) (hn : ∀ x, s.txn n = some x → x.stage ≠ .complete) : Settles s0 (s.modRounds n f) :=
  h.modTxn n _ (fun _ => rfl) hn

/-- The rounds of the transaction of a set, if it has one, change. -/
theorem Settles.setRounds (k : Nat) (f : Rounds → Rounds) :
    Settles s0 (match s.setTxnOf k with | some n => s.modRounds n f | none => s) := by
  split
  · next n hn => exact h.modRounds n f (State.setTxnOf_stage h.wf hn)
  · exact h

theorem Settles.auditSetPos (k p : Nat) : Settles s0 (s.auditSetPos k p) := h.auditRoutine _ _

theorem Settles.setStateShow (k : Nat) : Settles s0 (s.setStateShow k) := by
  have shown := (h.modSet k fun c => { c with shown := c.state }).post 0x50 k (s.cset k).state [BitVec.ofNat 32 (s.cset k).members]
  unfold State.setStateShow
  dsimp only
  split
  · exact h
  · split
    · exact (shown.irq 15).closeAll true k
    · split
      · exact shown.irq 15
      · exact shown

theorem Settles.promote (k old : Nat) : Settles s0 (s.promote k old) := by
  unfold State.promote
  dsimp only
  split
  · next r _ _ =>
    split
    · refine Settles.setRounds ?_ k _
      exact Settles.of ((((h.modSet k _).post 0x52 k r _).auditSetPos k r)) (State.tally_evolves (ps := [.counts]) rfl _ _ _ _ _ (.refl _))
    · exact h
  · exact h

theorem Settles.posOut (k p cause status qcause shown : Nat) : Settles s0 (s.posOut k p cause status qcause shown) := by
  unfold State.posOut
  dsimp only
  split
  · refine Settles.setStateShow (Settles.promote (Settles.setRounds ?_ k _) k p) k
    exact (Settles.post ((h.modSet k _).of (State.keepSet_evolves (ps := [.mram]) rfl _ _ (.refl _))) _ _ _ _).auditSetPos k p
  · exact h

theorem Settles.setsLeave (i status qcause : Nat) : Settles s0 (s.setsLeave i status qcause) :=
  h.foldl _ _ fun _ _ hu => hu.posOut _ _ _ _ _ _

/-! The end of an exchange by force, and leaving service. -/

theorem Settles.requestOutcome (n : Nat) (o : Outcome) (hn : ∀ x, s.txn n = some x → x.stage ≠ .complete) : Settles s0 (s.requestOutcome n o) := by
  have k := h.modTxn n (fun x => { x with stage := .outcome, outDone := some { o with tide := s.ltide, sw := x.swOf o } }) (fun _ => rfl) hn
  exact ⟨(State.requestOutcome_evolves (ps := [.flow]) rfl s n o (.refl s)).wf h.wf, k.qps, k.spill, k.pairs, k.done⟩

theorem Settles.exchResult (i : Nat) (m : MemberResp) : Settles s0 (s.exchResult i m) := by
  unfold State.exchResult
  split
  · exact h
  · next n _ =>
    split
    · exact h
    · next x hx =>
      have open_ (c : x.stage ≠ .complete) (z : Txn) (hz : s.txn n = some z) : z.stage ≠ .complete := by
        rw [hx, Option.some.injEq] at hz; exact hz ▸ c
      split
      · next hi =>
        split
        · exact h
        · exact h.endEarly n _ _ (open_ (by rw [hi]; decide))
      · split
        · next he =>
          have running := open_ (by rw [he]; decide)
          have tallied : Settles s0 (s.tallyExch i m.cls) := h.of (State.tallyExch_evolves (ps := [.counts]) rfl s i m.cls (.refl s))
          have same (k : Nat) : (s.tallyExch i m.cls).txn k = s.txn k :=
            (State.tallyExch_evolves (ps := [.counts]) rfl s i m.cls (.refl s)).txn_eq (by decide) k
          split
          · split
            · exact h
            · split
              · have round := tallied.modRounds n
                dsimp only
                split
                · exact round _ (by rw [same]; exact running)
                · exact (round _ (by rw [same]; exact running)).posOut _ _ _ _ _ _
              · exact h
          · exact (tallied.requestOutcome n _ (by rw [same]; exact running)).modSlot i _
        · exact h

theorem Settles.xchgHwEnd (i : Nat) : Settles s0 (s.xchgHwEnd i) := h.of (State.xchgHwEnd_evolves (ps := [.slots, .cores]) rfl s i (.refl s))

theorem Settles.unwrapSsc (n : Nat) : Settles s0 (s.unwrapSsc n) := by
  unfold State.unwrapSsc
  split
  · split
    · exact h.setSession _ _
    · exact h
  · exact h

theorem Settles.forceEnd (i status cause : Nat) : Settles s0 (s.forceEnd i status cause) := by
  unfold State.forceEnd
  dsimp only
  split
  · exact h
  · split
    · exact h.modSlot i _
    · split
      · exact ((h.unwrapSsc _).xchgHwEnd i).exchResult i _
      · exact (h.xchgHwEnd i).exchResult i _

theorem Settles.leaveService (i : Nat) (down : Bool) (status cause : Nat) : Settles s0 (s.leaveService i down status cause) := by
  unfold State.leaveService
  cases down
  · exact ((h.closeAll false i).setsLeave i status cause).modSlot i _
  · exact (((h.endWaiters i cause).closeAll false i).setsLeave i status cause).modSlot i _

theorem Settles.warmReset (i : Nat) : Settles s0 (s.warmReset i) := by
  unfold State.warmReset
  dsimp only
  split
  · exact (((h.leaveService i false 0 0).modSlot i _).endWait i 0).endWait i 1
  · exact ((h.modSlot i _).endWait i 0).endWait i 1

theorem Settles.warmStart (i : Nat) : Settles s0 (s.warmStart i) := by
  unfold State.warmStart
  dsimp only
  split
  · exact (h.modSlot i _).modSlot i _
  · exact (h.modSlot i _).warmReset i

theorem Settles.beginDeact (i : Nat) (park : Bool) : Settles s0 (s.beginDeact i park) := by
  unfold State.beginDeact
  extract_lets x st aborted s1 s2
  have left : Settles s0 s1 := by
    unfold s1
    split
    · exact ((h.endWaiters i 0).forceEnd i 0x91 0).leaveService i true 0x91 0
    · exact h
  exact ((left.modSlot i _).endWait i 0).endWait i 1

theorem Settles.actPend (i : Nat) : Settles s0 (s.actPend i) := by
  unfold State.actPend
  dsimp only
  split
  · split
    · exact h.beginDeact i _
    · split
      · exact h.warmStart i
      · exact h
  · exact h

theorem Settles.actPendAll : Settles s0 s.actPendAll := h.forEach _ _ fun _ i hu => hu.actPend i

end

/-- A transaction that has ended before stage 6 still has. -/
theorem Settles.ended {s t : State} (h : Settles s t) {n status : Nat} (hn : s.ended n status) : t.ended n status := by
  obtain ⟨z, o, hz, hc, rest⟩ := hn
  exact ⟨z, o, h.done n z hz hc, hc, rest⟩

end Sys2Proof.Machine
end

section
/-! PROOFS of the flow family: the commands of a queue pair and the persistence of its ACK (07 R193 to R195, R214, R215, Table 7-10). -/

namespace Sys2Proof.Machine

/-! The bits of a QP_CTRL word. -/

/-- The command bits of a word without any, to which those of c are added. -/
theorem bitOf_or_low {w : Word} (h : w &&& 0xF#32 = 0#32) (c : Word) {i : Nat} (hi : i < 4) : bitOf (w ||| c) i = bitOf c i := by
  have clear : (w &&& 0xF#32).getLsbD i = false := by rw [h, BitVec.getLsbD_zero]
  have mask : (0xF#32).getLsbD i = true := by interval_cases i <;> rfl
  rw [BitVec.getLsbD_and, mask, Bool.and_true] at clear
  rw [bitOf, BitVec.getLsbD_or, clear, Bool.false_or, bitOf]

/-- The index of RESUME_AT does not depend on its command bit. -/
theorem fld_high_or_eight (w : Word) : fld (w ||| 8#32) 31 16 = fld w 31 16 := by
  have : (w ||| 8#32).toNat / 2 ^ 16 = w.toNat / 2 ^ 16 := by
    rw [BitVec.toNat_or, ← Nat.shiftRight_eq_div_pow, Nat.shiftRight_or_distrib, ← Nat.shiftRight_eq_div_pow]
    exact Nat.or_zero _
  simp only [fld, this]

/-! A write of QP_CTRL, by its command bits. -/

section
variable {s : State} {q : Nat} {w : Word} (h : w &&& 0xF#32 = 0#32)
include h

/-- More than one command is MULTIPLE (07 Table 7-8). -/
theorem State.writeQpCtrl_multiple (c : Word) (hc : 1 < b2n (bitOf c 0) + b2n (bitOf c 1) + b2n (bitOf c 2) + b2n (bitOf c 3)) :
    s.writeQpCtrl q (w ||| c) = s.qpErr q .multiple := by
  simp (disch := decide) only [State.writeQpCtrl, bitOf_or_low h, if_pos hc]

theorem State.writeQpCtrl_enable : s.writeQpCtrl q (w ||| 1#32) =
    if (s.qp q).st ≠ .disabled then s.qpErr q .state
    else match s.loginRole (s.qp q).login with
      | none => s.qpErr q .value
      | some r => (s.modQp q fun x => { x with
          sqHead := 0, sqTail := 0, cqHead := 0, cqTail := 0, cqPhase := true, role := r, checkpoint := none, stalled := false, st := .enabled }).qpErr q .none := by
  simp (disch := decide) only [State.writeQpCtrl, State.qpCommand, bitOf_or_low h]
  rw [if_neg (by decide), if_pos (by decide)]
  split
  · rfl
  · cases s.loginRole (s.qp q).login <;> rfl

theorem State.writeQpCtrl_disable : s.writeQpCtrl q (w ||| 2#32) =
    if (s.qp q).live then (s.disableQp q).qpErr q .none else s.qpErr q .state := by
  simp (disch := decide) only [State.writeQpCtrl, State.qpCommand, bitOf_or_low h]
  rw [if_neg (by decide), if_neg (by decide), if_pos (by decide)]
  split <;> rfl

theorem State.writeQpCtrl_resume : s.writeQpCtrl q (w ||| 4#32) =
    if (s.qp q).st ≠ .suspended || !s.linkUp (s.qp q).home then s.qpErr q .state
    else (s.modQp q fun x => { x with st := .enabled }).qpErr q .none := by
  simp (disch := decide) only [State.writeQpCtrl, State.qpCommand, bitOf_or_low h]
  rw [if_neg (by decide), if_neg (by decide), if_neg (by decide), if_pos (by decide)]
  split <;> rfl

theorem State.writeQpCtrl_resumeAt : s.writeQpCtrl q (w ||| 8#32) =
    if (s.qp q).st ≠ .suspended || !s.linkUp (s.qp q).home then s.qpErr q .state
    else if (s.qp q).sqSize ≤ fld w 31 16 then s.qpErr q .value
    else (s.modQp q fun x => { x with st := .enabled, sqHead := fld w 31 16 }).qpErr q .none := by
  simp (disch := decide) only [State.writeQpCtrl, State.qpCommand, bitOf_or_low h, fld_high_or_eight]
  rw [if_neg (by decide), if_neg (by decide), if_neg (by decide), if_pos (by decide)]
  split
  · rfl
  · by_cases hr : (s.qp q).sqSize ≤ fld w 31 16
    · simp [hr, show bitOf 8#32 3 = true from rfl]
    · simp [hr, show bitOf 8#32 3 = true from rfl]

end

theorem State.qpErr_st (s : State) (q : Nat) (e : CmdErr) : ((s.qpErr q e).qp q).st = (s.qp q).st := by rw [State.qpErr, State.modQp_qp]

/-! DISABLE (07 Table 7-10). -/

/-- Whether a pair has no transaction depends on which pairs the transactions have. -/
theorem State.txnsOf_isEmpty {s : State} (h : s.wf = true) (q : Nat) : (s.txnsOf q).isEmpty = true ↔ ∀ m, (s.txn m).map (·.qp) ≠ some q := by
  simp only [State.txnsOf, List.isEmpty_iff, List.filter_eq_nil_iff, Prod.forall, State.mem_txnList h, decide_eq_true_eq, ne_eq, Option.map_eq_some_iff,
    not_exists, not_and]

theorem Settles.txnsOf_isEmpty {s t : State} (h : Settles s t) (hs : s.wf = true) (q : Nat) : (t.txnsOf q).isEmpty = (s.txnsOf q).isEmpty := by
  rw [Bool.eq_iff_iff, State.txnsOf_isEmpty h.wf, State.txnsOf_isEmpty hs]
  simp only [h.pairs]

theorem Settles.qp_eq {s t : State} (h : Settles s t) (q : Nat) : t.qp q = s.qp q := by simp only [State.qp, h.qps]

theorem State.settleQp_st (s : State) (q : Nat) : ((s.settleQp q).qp q).st =
    if (s.qp q).st = .draining && (s.txnsOf q).isEmpty && !s.flow.spill.any (fun e => e.qp = q) then .disabled else (s.qp q).st := by
  unfold State.settleQp
  dsimp only
  rw [State.modQp_qp]
  split <;> split <;> rfl

/-- settleQp changes its own pair alone. -/
theorem State.settleQp_eq (s : State) (q : Nat) : ∃ f, s.settleQp q = s.modQp q f := by
  unfold State.settleQp; exact ⟨_, rfl⟩

/-- The transactions of a pair that have not reached stage 6 end with a status; what follows from it leaves the ended ones as they are. -/
theorem State.endEarlyOf_spec {s : State} (h : s.wf = true) (q status : Nat) :
    Settles s (s.endEarlyOf q status) ∧ ∀ m z, s.txn m = some z → z.qp = q → z.early = true → (s.endEarlyOf q status).ended m status := by
  have picked (m : Nat) (z : Txn) (hz : s.txn m = some z) (hq : z.qp = q) (he : z.early = true) :
      m ∈ ((s.txnsOf q).filter fun e => e.2.early).map (·.1) := by
    refine List.mem_map.mpr ⟨(m, z), List.mem_filter.mpr ⟨List.mem_filter.mpr ⟨(State.mem_txnList h).mpr hz, ?_⟩, he⟩, rfl⟩
    simpa using hq
  have ended : Settles s (s.forEach (((s.txnsOf q).filter fun e => e.2.early).map (·.1)) fun s t => s.endEarly t status) := by
    rw [State.txnsOf, List.filter_filter]
    refine (Settles.refl h).endPicked _ _ _ fun e he hc => ?_
    simp [Txn.early, hc] at he
  exact ⟨ended.actPendAll, fun m z hz hq he =>
    (Settles.refl ended.wf).actPendAll.ended (State.endAll_ended s _ status 0 m (picked m z hz hq he) z hz)⟩

@[simp] theorem State.modQp_txn (s : State) (q n : Nat) (f : QPair → QPair) : (s.modQp q f).txn n = s.txn n := rfl

@[simp] theorem State.modQp_txnsOf (s : State) (q p : Nat) (f : QPair → QPair) : (s.modQp q f).txnsOf p = s.txnsOf p := rfl

@[simp] theorem State.modQp_spill (s : State) (q : Nat) (f : QPair → QPair) : (s.modQp q f).flow.spill = s.flow.spill := rfl

theorem State.modQp_ended {s : State} {q n status : Nat} (f : QPair → QPair) (h : s.ended n status) : (s.modQp q f).ended n status := h

theorem State.disableQp_spec {s : State} (h : s.wf = true) (q : Nat) :
    (∀ m z, s.txn m = some z → z.qp = q → z.early = true → (s.disableQp q).ended m 0x13) ∧
    ((s.disableQp q).qp q).st = if (s.txnsOf q).isEmpty && !s.flow.spill.any (fun e => e.qp = q) then .disabled else .draining := by
  have draining : (s.modQp q fun x => { x with st := .draining }).wf = true := (State.modQp_evolves (ps := [.flow]) rfl s q _ (.refl s)).wf h
  obtain ⟨settles, ended⟩ := State.endEarlyOf_spec draining q 0x13
  have st : ((s.modQp q fun x => { x with st := .draining }).qp q).st = .draining := by rw [State.modQp_qp]
  refine ⟨fun m z hz hq he => ?_, ?_⟩
  · have e := ended m z (by rw [State.modQp_txn, hz]) hq he
    obtain ⟨f, hf⟩ := ((s.modQp q fun x => { x with st := .draining }).endEarlyOf q 0x13).settleQp_eq q
    rw [State.disableQp, hf]
    exact State.modQp_ended f e
  · unfold State.disableQp
    rw [State.settleQp_st, settles.qp_eq, settles.txnsOf_isEmpty draining, settles.spill, st, State.modQp_txnsOf, State.modQp_spill]
    simp only [decide_true, Bool.true_and]

/-! ACK. -/

theorem execAckPersist_same {s : State} {q : Fin 512} (h : s.ackOf q = tget 0 s.mram.acks q ∨ s.journalWaits = true) :
    exec (.ackPersist q) s = .next s := if_pos (by simpa using h)

theorem execAckPersist_new {s : State} {q : Fin 512} (ha : s.ackOf q ≠ tget 0 s.mram.acks q) (hj : s.journalWaits = false) :
    exec (.ackPersist q) s = .next ((s.elapseSince (s.qp q).ackAt (10 * ms)).keepAck q (s.ackOf q)).burst := if_neg (by simp [ha, hj])

@[simp] theorem State.keepAck_acks (s : State) (q a : Nat) : tget 0 (s.keepAck q a).mram.acks q = a := tget_tset_same 0 s.mram.acks q a

@[simp] theorem State.keepAck_ackAt (s : State) (q a : Nat) : ((s.keepAck q a).qp q).ackAt = some s.now := by rw [State.keepAck, State.modQp_qp]

@[simp] theorem State.keepAck_now (s : State) (q a : Nat) : (s.keepAck q a).now = s.now := rfl

@[simp] theorem State.burst_mram (s : State) : s.burst.mram = s.mram := rfl
@[simp] theorem State.burst_now (s : State) : s.burst.now = s.now := rfl
@[simp] theorem State.burst_qp (s : State) (q : Nat) : s.burst.qp q = s.qp q := rfl

/-- The 10 ms of a pair whose ACK was written at a moment a have passed. -/
theorem State.elapseSince_now_ge (s : State) (o : Option Nat) (d a : Nat) (h : o = some a) : a + d ≤ (s.elapseSince o d).now := by
  subst h; rw [State.elapseSince_some_now]; exact Nat.le_max_right _ _

/-- Settles O36: each command by the bits of its word, and DISABLE through what ending the early transactions leaves as it was. -/
theorem queuePairs : Obligations.QueuePairs := by
  intro s ag q w hwf x answer
  have does (f : QPair → QPair) : Host.Outcome.next ((s.modQp q f).qpErr q .none) = answer .none f :=
    congrArg _ (State.modQp_modQp _ _ _ _ (State.wf_flow hwf).1)
  refine ⟨fun hw => ⟨fun hd r hr => ?_, fun hd hr => ?_, fun hd => ?_, fun hl => ?_, fun hl => ?_, fun hs hu => ⟨?_, fun hi => ?_, fun hi => ?_⟩,
    fun hs => ⟨?_, ?_⟩, ?_⟩, execAckPersist_same, fun ha hj => ⟨_, execAckPersist_new ha hj, ?_, ?_, fun a hat => ?_, fun hat => ?_, ?_⟩⟩
  · refine (congrArg Host.Outcome.next ?_).trans (does _)
    rw [State.writeQpCtrl_enable hw, if_neg (not_not.mpr hd), hr]
  · refine congrArg Host.Outcome.next ?_
    rw [State.writeQpCtrl_enable hw, if_neg (not_not.mpr hd), hr]; rfl
  · refine congrArg Host.Outcome.next ?_
    rw [State.writeQpCtrl_enable hw, if_pos hd]; rfl
  · obtain ⟨ended, st⟩ := State.disableQp_spec hwf q.val
    refine ⟨(s.disableQp q).qpErr q .none, congrArg Host.Outcome.next ?_, ?_,
      fun m z hz hq he => State.modQp_ended _ (ended m z hz hq he), ?_, ?_⟩
    · rw [State.writeQpCtrl_disable hw, if_pos hl]
    · rw [State.qpErr, State.modQp_qp]
    · exact (State.qpErr_st _ _ _).trans st
    · exact (State.qpErr_evolves rfl _ _ _ (State.disableQp_evolves rfl _ _ (.refl s))).changes
  · refine congrArg Host.Outcome.next ?_
    rw [State.writeQpCtrl_disable hw, if_neg (by simpa using hl)]; rfl
  · refine (congrArg Host.Outcome.next ?_).trans (does _)
    rw [State.writeQpCtrl_resume hw, if_neg (by simp [show (s.qp q).st = .suspended from hs, show s.linkUp (s.qp q).home = true from hu])]
  · refine (congrArg Host.Outcome.next ?_).trans (does _)
    rw [State.writeQpCtrl_resumeAt hw, if_neg (by simp [show (s.qp q).st = .suspended from hs, show s.linkUp (s.qp q).home = true from hu]), if_neg (Nat.not_le.mpr hi)]
  · refine congrArg Host.Outcome.next ?_
    rw [State.writeQpCtrl_resumeAt hw, if_neg (by simp [show (s.qp q).st = .suspended from hs, show s.linkUp (s.qp q).home = true from hu]), if_pos hi]; rfl
  · refine congrArg Host.Outcome.next ?_
    rw [State.writeQpCtrl_resume hw, if_pos (by simpa using hs)]; rfl
  · refine congrArg Host.Outcome.next ?_
    rw [State.writeQpCtrl_resumeAt hw, if_pos (by simpa using hs)]; rfl
  · rintro c hc
    simp only [List.mem_cons, List.not_mem_nil, or_false] at hc
    rcases hc with rfl | rfl | rfl | rfl <;> refine congrArg Host.Outcome.next ?_ <;> rw [BitVec.or_assoc, State.writeQpCtrl_multiple hw _ (by decide)] <;> rfl
  · rw [State.burst_mram, State.keepAck_acks]
  · rw [State.burst_qp, State.burst_now, State.keepAck_ackAt, State.keepAck_now]
  · rw [State.burst_now, State.keepAck_now]; exact State.elapseSince_now_ge _ _ _ _ hat
  · rw [State.burst_now, State.keepAck_now, show (s.qp q).ackAt = none from hat]; rfl
  · exact (State.burst_evolves rfl _ (State.keepAck_evolves rfl _ _ _ (State.elapseSince_evolves rfl _ _ _ (.refl s)))).changes

end Sys2Proof.Machine
end

section
/-! PROOFS of the flow family: the journal's records and the start of stage 7 (01 R14, R15, R21, R22, 06 R186, 07 R208, R212). -/

namespace Sys2Proof.Machine

/-! A record takes its place in the journal (07 R210 to R212). -/

/-- The state with record r at the next place with the next SEQ, before it is counted and a saturated journal reported. -/
def State.placeRec (s : State) (r : JRec) : State :=
  let p := s.freePos 2200 (s.flow.jPos + 1)
  { s with
    mram := { s.mram with
      journal := tset none s.mram.journal p (some { r with seq := s.flow.jNext }), bad := s.mram.bad.filter fun n => n / 16 ≠ p }
    flow := { s.flow.burst 2 with jNext := s.flow.jNext + 1, jPos := p } }

theorem State.commitRec_of_placeRec (s : State) (r : JRec) : Evolves [.dev, .counts, .lpos, .out, .pba] (s.placeRec r) (s.commitRec r) := by
  have counted : Evolves [.dev, .counts, .lpos, .out, .pba] (s.placeRec r)
      (((s.placeRec r).tally 0x2800 4 1 true).markChanged 1 (s.freePos 2200 (s.flow.jPos + 1) / 3)) :=
    State.markChanged_evolves rfl _ _ _ (State.tally_evolves rfl _ _ _ _ _ (.refl _))
  refine Evolves.ite (fun _ => ?_) fun _ => counted
  exact State.irq_evolves rfl _ _ (State.post_evolves rfl _ _ _ _ _ (State.modDev_evolves rfl counted rfl))

theorem State.commitRec_flow (s : State) (r : JRec) : (s.commitRec r).flow = (s.placeRec r).flow := (s.commitRec_of_placeRec r).flow_eq

theorem State.commitRec_mram (s : State) (r : JRec) : (s.commitRec r).mram = (s.placeRec r).mram := (s.commitRec_of_placeRec r).changes.at (p := .mram) (by decide)

@[simp] theorem State.commitRec_jNext (s : State) (r : JRec) : (s.commitRec r).flow.jNext = s.flow.jNext + 1 := by rw [State.commitRec_flow]; rfl

@[simp] theorem State.commitRec_txn (s : State) (r : JRec) (n : Nat) : (s.commitRec r).txn n = s.txn n := by rw [State.txn, State.commitRec_flow]; rfl

@[simp] theorem State.commitRec_cset (s : State) (r : JRec) (k : Nat) : (s.commitRec r).cset k = s.cset k := by rw [State.cset, State.commitRec_flow]; rfl

@[simp] theorem State.commitRec_slot (s : State) (r : JRec) (i : Nat) : (s.commitRec r).slot i = s.slot i := (s.commitRec_of_placeRec r).slot_eq (by decide) i

@[simp] theorem State.commitRec_boundCore (s : State) (r : JRec) (i : Nat) : (s.commitRec r).boundCore i = s.boundCore i := by
  have : (s.commitRec r).cores = s.cores := (s.commitRec_of_placeRec r).changes.at (p := .cores) (by decide)
  simp only [State.boundCore, State.core, this]

theorem State.placeRec_journal (s : State) (r : JRec) :
    tget none (s.placeRec r).mram.journal (s.freePos 2200 (s.flow.jPos + 1)) = some { r with seq := s.flow.jNext } := by
  simp only [State.placeRec, tget_tset_same]

/-- A committed record stands in the journal with the next sequence number. -/
theorem State.commitRec_recorded (s : State) (r : JRec) (P : JRec → Prop) (h : P { r with seq := s.flow.jNext }) :
    (s.commitRec r).recorded s.flow.jNext P :=
  ⟨s.freePos 2200 (s.flow.jPos + 1), _, by rw [State.commitRec_mram, State.placeRec_journal], rfl, h⟩

theorem State.recorded_of_mram {s t : State} {seq : Nat} {P : JRec → Prop} (h : s.recorded seq P) (e : t.mram = s.mram) : t.recorded seq P := by
  rw [State.recorded, e]; exact h

/-! The start of an exchange (01 R14, 06 R186, 11 R313). -/

@[simp] theorem Slot.startProto_st (x : Slot) (cmd : List Byte) : (x.startProto cmd).st = x.st := by
  unfold Slot.startProto; split <;> rfl

@[simp] theorem Slot.startProto_gate (x : Slot) (cmd : List Byte) : (x.startProto cmd).pr.gate = x.pr.gate := by
  unfold Slot.startProto; split <;> rfl

@[simp] theorem Slot.startProto_sent (x : Slot) (cmd : List Byte) : (x.startProto cmd).pr.sent = 0 := by
  unfold Slot.startProto; split <;> rfl

theorem Slot.startProto_t0 (x : Slot) (cmd : List Byte) (h : x.pr.proto = 0) :
    (x.startProto cmd).pr.mode = .t0 ∧ (x.startProto cmd).ch.txq = cmd.take 4 ++ [((apduCase cmd).getD (1, 0#8)).2] := by
  rw [Slot.startProto, if_pos h]; exact ⟨rfl, rfl⟩

/-- The slot with its clock restarted where it stood. -/
theorem State.restartClock_slot (s : State) (i : Nat) : ∃ q, (s.restartClock i).slot i = { s.slot i with seq := q } := by
  rw [State.restartClock, State.modSlot_slot]
  split
  · exact ⟨_, rfl⟩
  · exact ⟨_, rfl⟩

/-- A slot in which stage 7 has begun in a mode; sm: the command waits for its wrap. -/
def Slot.exchanging (x : Slot) (mode : ProtMode) (sm : Bool) : Slot :=
  { x with st := if x.st = .ready then .busy else x.st, pr := { x.pr with mode := mode, gate := true, smWait := sm, sent := 0, firstTx := none } }

/-- The mode in which an exchange runs on slot i. -/
def State.exchMode (s : State) (i : Nat) : ProtMode := if (s.boundCore i).isSome then .script else if (s.slot i).pr.proto = 0 then .t0 else .t1

/-- The state with stage 7 begun on slot i, its command not yet sent. -/
def State.enterExchange (s : State) (i : Nat) (sm : Bool) : State :=
  ((s.restartClock i).tally (0x2200 + i) 0x38 1 true).modSlot i fun x => x.exchanging (s.exchMode i) sm

@[simp] theorem State.askLane_slot (s : State) (n i : Nat) : (s.askLane n).slot i = s.slot i := rfl

theorem State.startExchange_eq {s : State} {n : Nat} {z : Txn} (h : s.txn n = some z) (i : Nat) :
    s.startExchange n i = if z.sm then (s.enterExchange i z.sm).askLane n else (s.enterExchange i z.sm).sendCommand i z.cmd := by
  simp only [State.startExchange, h, State.isSm]; rfl

theorem State.enterExchange_slot (s : State) (i : Nat) (sm : Bool) :
    ∃ q, (s.enterExchange i sm).slot i = { (s.slot i).exchanging (s.exchMode i) sm with seq := q } := by
  obtain ⟨q, hq⟩ := s.restartClock_slot i
  refine ⟨q, ?_⟩
  rw [State.enterExchange, State.modSlot_slot]
  exact congrArg (Slot.exchanging · (s.exchMode i) sm) hq

/-- A script gets its command where its slot is BUSY; its protocol state stays as it is. -/
theorem State.sendCommand_script (s : State) (i : Nat) (cmd : List Byte) (h : (s.slot i).pr.mode = .script) :
    ((s.sendCommand i cmd).slot i).st = (s.slot i).st ∧ ((s.sendCommand i cmd).slot i).pr = (s.slot i).pr := by
  simp only [State.sendCommand, h, if_true]
  split
  · unfold State.handOver
    rw [(State.line_evolves (ps := [.cores]) rfl _ _ (.refl _)).slot_eq (by decide) i, State.modSlot_slot]
    exact ⟨rfl, rfl⟩
  · exact ⟨rfl, rfl⟩

theorem State.sendCommand_engine (s : State) (i : Nat) (cmd : List Byte) (h : (s.slot i).pr.mode ≠ .script) :
    (s.sendCommand i cmd).slot i = (s.slot i).startProto cmd := by
  simp only [State.sendCommand, if_neg h, State.modSlot_slot]

/-- Stage 7 on a slot: READY becomes BUSY, and the exchange is open with nothing sent. -/
theorem State.startExchange_opens {s : State} {n : Nat} {z : Txn} (h : s.txn n = some z) (i : Nat) :
    ((s.startExchange n i).slot i).st = (if (s.slot i).st = .ready then .busy else (s.slot i).st) ∧
    ((s.startExchange n i).slot i).pr.gate = true ∧ ((s.startExchange n i).slot i).pr.sent = 0 := by
  obtain ⟨q, hq⟩ := s.enterExchange_slot i z.sm
  rw [State.startExchange_eq h]
  split
  · rw [State.askLane_slot, hq]; exact ⟨rfl, rfl, rfl⟩
  · by_cases hm : ((s.enterExchange i z.sm).slot i).pr.mode = .script
    · obtain ⟨hst, hpr⟩ := State.sendCommand_script _ i z.cmd hm
      rw [hst, hpr, hq]; exact ⟨rfl, rfl, rfl⟩
    · rw [State.sendCommand_engine _ i z.cmd hm, Slot.startProto_st, Slot.startProto_gate, Slot.startProto_sent, hq]
      exact ⟨rfl, rfl, rfl⟩

/-- A command of a session with a profile waits for its wrap, which the transaction asks for (06 R186). -/
theorem State.startExchange_wrap {s : State} {n : Nat} {z : Txn} (h : s.txn n = some z) (i : Nat) (hsm : z.sm = true) :
    ((s.startExchange n i).slot i).pr.smWait = true ∧ ((s.startExchange n i).slot i).ch.txq = (s.slot i).ch.txq ∧
    n ∈ (s.startExchange n i).crypto.asked := by
  obtain ⟨q, hq⟩ := s.enterExchange_slot i z.sm
  rw [State.startExchange_eq h, if_pos hsm]
  rw [State.askLane_slot, hq, hsm]
  exact ⟨rfl, rfl, by simp [State.askLane]⟩

/-- Another command goes to a T=0 engine as the five header bytes (06 R167). -/
theorem State.startExchange_t0 {s : State} {n : Nat} {z : Txn} (h : s.txn n = some z) (i : Nat) (hsm : z.sm = false) (hb : s.boundCore i = none)
    (hp : (s.slot i).pr.proto = 0) : ((s.startExchange n i).slot i).pr.mode = .t0 ∧
    ((s.startExchange n i).slot i).ch.txq = z.cmd.take 4 ++ [((apduCase z.cmd).getD (1, 0#8)).2] := by
  obtain ⟨q, hq⟩ := s.enterExchange_slot i z.sm
  have mode : s.exchMode i = .t0 := by simp [State.exchMode, hb, hp]
  have engine : ((s.enterExchange i z.sm).slot i).pr.mode ≠ .script := by
    rw [hq, mode]; simp [Slot.exchanging]
  rw [State.startExchange_eq h, if_neg (by simp [hsm]), State.sendCommand_engine _ i z.cmd engine]
  exact Slot.startProto_t0 _ _ (by rw [hq]; exact hp)

/-- On a bound slot the exchange is the script's (11 R313). -/
theorem State.startExchange_script {s : State} {n : Nat} {z : Txn} (h : s.txn n = some z) (i : Nat) (hb : s.boundCore i ≠ none) :
    ((s.startExchange n i).slot i).pr.mode = .script := by
  obtain ⟨q, hq⟩ := s.enterExchange_slot i z.sm
  have mode : ((s.enterExchange i z.sm).slot i).pr.mode = .script := by
    rw [hq]; simp [Slot.exchanging, State.exchMode, Option.isSome_iff_ne_none, hb]
  rw [State.startExchange_eq h]
  split
  · rw [State.askLane_slot, mode]
  · rw [(State.sendCommand_script _ i z.cmd mode).2, mode]

theorem State.startExchange_parts (s : State) (n i : Nat) : Evolves [.slots, .cores, .counts, .crypto] s (s.startExchange n i) :=
  State.startExchange_evolves rfl s n i (.refl s)

/-! The rounds of a card-set transaction (08 R234 to R236). -/

theorem OtherSlots.st_eq {i j : Nat} {s t : State} (h : OtherSlots i s t) (hj : j ≠ i) : (t.slot j).st = (s.slot j).st := by
  have same := congrArg Slot.st (h j hj)
  exact same

/-- A slot that stage 7 finds READY or BUSY is BUSY after it, whichever slot it begins on. -/
theorem State.startExchange_busy {s : State} {n : Nat} {z : Txn} (h : s.txn n = some z) (i j : Nat)
    (hj : (s.slot j).st = .busy ∨ (s.slot j).st = .ready ∧ i = j) : ((s.startExchange n i).slot j).st = .busy := by
  by_cases hij : j = i
  · subst hij
    rw [(State.startExchange_opens h j).1]
    rcases hj with hb | ⟨hr, -⟩
    · simp [hb]
    · simp [hr]
  · rw [(State.startExchange_keeps s n i rfl (.refl i s)).st_eq hij]
    exact hj.resolve_right fun k => hij k.2.symm

/-- A round begins on each of a list of slots: those READY are BUSY after it. -/
theorem State.startAll_busy (s : State) (n : Nat) (z : Txn) (h : s.txn n = some z) (l : List Nat) (f : Nat → Nat) (j : Nat)
    (hj : (s.slot j).st = .busy ∨ (s.slot j).st = .ready ∧ j ∈ l.map f) : ((s.forEach l fun s p => s.startExchange n (f p)).slot j).st = .busy := by
  induction l generalizing s with
  | nil => exact hj.resolve_right (by simp)
  | cons p l ih =>
    have same : (s.startExchange n (f p)).txn n = some z := ((s.startExchange_parts n (f p)).txn_eq (by decide) n).trans h
    refine ih _ same ?_
    by_cases hp : f p = j
    · exact .inl (State.startExchange_busy h _ _ (hj.imp id fun k => ⟨k.1, hp⟩))
    · rcases hj with hb | ⟨hr, hm⟩
      · exact .inl (State.startExchange_busy h _ _ (.inl hb))
      · refine .inr ⟨?_, (List.mem_cons.mp hm).resolve_left (Ne.symm hp)⟩
        exact ((State.startExchange_keeps s n (f p) rfl (.refl _ s)).st_eq (Ne.symm hp)).trans hr

/-- A round of positions l: the transaction knows them as its targets, all running. -/
theorem State.runRound_spec {s : State} {n : Nat} {x : Txn} (h : s.txn n = some x) (k : Nat) (l : List Nat) :
    (∃ r, (s.runRound n k l).txn n = some { x with rounds := r } ∧ r.targets = l ∧ r.running = l) ∧ (s.runRound n k l).mram = s.mram ∧
    (s.runRound n k l).flow.jNext = s.flow.jNext ∧
    ∀ p ∈ l, (s.slot ((s.cset k).slotOf p)).st = .ready → ((s.runRound n k l).slot ((s.cset k).slotOf p)).st = .busy := by
  unfold State.runRound
  extract_lets c s1
  have known : ∃ r : Rounds, s1.txn n = some { x with rounds := r } ∧ r.targets = l ∧ r.running = l :=
    ⟨_, by unfold s1 State.modRounds; rw [State.modTxn_txn, h]; rfl, rfl, rfl⟩
  have starts (u : State) : Evolves [.slots, .cores, .counts, .crypto] u (u.forEach l fun s p => s.startExchange n (c.slotOf p)) :=
    State.forEach_evolves rfl _ _ _ (.refl u) fun v p => v.startExchange_parts n (c.slotOf p)
  obtain ⟨r, hr, ht⟩ := known
  refine ⟨⟨r, ((starts _).txn_eq (by decide) n).trans hr, ht⟩, (starts _).changes.at (p := .mram) (by decide), ?_, fun p hp hs => ?_⟩
  · rw [(starts _).flow_eq]; rfl
  · exact State.startAll_busy (s1.tally (0x2400 + k) 0x08 1 true) n _ hr l c.slotOf _ (.inr ⟨hs, List.mem_map.mpr ⟨p, hp, rfl⟩⟩)

/-! INTENT_COMMIT, by what it finds. -/

/-- The state in which the intent record of transaction x, at place n, is committed and stage 7 has it. -/
def State.commitIntent (s : State) (n : Nat) (x : Txn) : State :=
  (s.commitRec (s.intentRec x)).modTxn n fun x => { x with stage := .exch, intentSeq := some s.flow.jNext }

section
variable {s : State} {n : Fin 1024} {x : Txn} (hx : s.txn n = some x) (hst : x.stage = .intent)
include hx

theorem execIntentCommit_outcomesFirst (ho : s.flow.outq ≠ []) : exec (.intentCommit n) s = .next s := by
  simp [exec, execIntentCommit, hx, ho]

theorem State.commitIntent_txn : (s.commitIntent n x).txn n = some { x with stage := .exch, intentSeq := some s.flow.jNext } := by
  rw [State.commitIntent, State.modTxn_txn, State.commitRec_txn, hx]; rfl

include hst

theorem execIntentCommit_deadline (ho : s.flow.outq = []) (h0 : x.deadline ≠ 0#64) (hd : x.deadline < s.ltide) :
    exec (.intentCommit n) s = .next (s.endEarly n 0x10).actPendAll := by
  simp only [exec, execIntentCommit, hx]
  rw [if_neg (by simp [hst, ho]), if_pos ⟨h0, hd⟩]

theorem execIntentCommit_sscLimit (ho : s.flow.outq = []) (hd : ¬(x.deadline ≠ 0#64 ∧ x.deadline < s.ltide)) (hsm : x.sm = true)
    (hl : 0xFFFFFFFFFFFFFFFE#64 ≤ x.smSsc) : exec (.intentCommit n) s = .next (s.endEarly n 0x09).actPendAll := by
  simp only [exec, execIntentCommit, hx]
  rw [if_neg (by simp [hst, ho]), if_neg hd, if_pos ⟨hsm, hl⟩]

variable (ho : s.flow.outq = []) (hd : ¬(x.deadline ≠ 0#64 ∧ x.deadline < s.ltide)) (hsm : ¬(x.sm = true ∧ 0xFFFFFFFFFFFFFFFE#64 ≤ x.smSsc))
include ho hd hsm

theorem execIntentCommit_saturated (hs : s.saturated = true) : exec (.intentCommit n) s = .next (s.endEarly n 0x11).actPendAll := by
  simp only [exec, execIntentCommit, hx]
  rw [if_neg (by simp [hst, ho]), if_neg hd, if_neg hsm, if_pos hs]

theorem execIntentCommit_slot (hs : s.saturated = false) {i : Nat} (ht : x.target = .slot i) :
    exec (.intentCommit n) s = .next ((s.commitIntent n x).startExchange n i) := by
  simp only [exec, execIntentCommit, hx]
  rw [if_neg (by simp [hst, ho]), if_neg hd, if_neg hsm, if_neg (by simp [hs]), ht]
  rfl

theorem execIntentCommit_set (hs : s.saturated = false) {k : Nat} (ht : x.target = .set k) :
    exec (.intentCommit n) s = .next ((s.commitIntent n x).runRound n k
      (if x.noCompare then [x.rounds.lead].filter (fun p => (s.cset k).at p = .member) else s.roundTargets x k)) := by
  have sets : (s.commitIntent n x).cset k = s.cset k := State.commitRec_cset _ _ _
  simp only [exec, execIntentCommit, hx]
  rw [if_neg (by simp [hst, ho]), if_neg hd, if_neg hsm, if_neg (by simp [hs]), ht]
  simp only [State.roundTargets, ← sets]
  rfl

end

/-- A transaction that ends at stage 6, and what its slots then do. -/
theorem endAtIntent_does {s : State} {n : Nat} {x : Txn} (hwf : s.wf = true) (hx : s.txn n = some x) (status : Nat) :
    (s.endEarly n status).actPendAll.ended n status ∧
    Changes [.slots, .timers, .dev, .flow, .mram, .cores, .counts, .ports, .lpos, .audit, .crypto, .out, .pba] s (s.endEarly n status).actPendAll := by
  have early := State.endEarly_evolves (ps := [.slots, .flow]) rfl s n status 0 [] (.refl s)
  exact ⟨(Settles.refl (early.wf hwf)).actPendAll.ended (State.endEarly_ended s n status 0 [] x hx),
    ((State.actPendAll_evolves (ps := [.slots, .timers, .dev, .flow, .mram, .cores, .counts, .lpos, .audit, .out, .pba]) rfl _ (early.mono rfl)).mono rfl).changes⟩

theorem State.commitIntent_evolves (s : State) (n : Nat) (x : Txn) : Evolves [.dev, .flow, .mram, .counts, .lpos, .out, .pba] s (s.commitIntent n x) :=
  State.modTxn_evolves rfl _ _ _ (State.commitRec_evolves rfl _ _ (.refl s))

/-- Settles O32: the intent record stands in the journal in the state from which stage 7 begins. -/
theorem intentBeforeExchange : Obligations.IntentBeforeExchange := by
  intro s n x hwf hx hst committed
  have slots (i : Nat) : (s.commitIntent n x).slot i = s.slot i := State.commitRec_slot _ _ _
  have sets (k : Nat) : (s.commitIntent n x).cset k = s.cset k := State.commitRec_cset _ _ _
  have bound (i : Nat) : (s.commitIntent n x).boundCore i = s.boundCore i := State.commitRec_boundCore _ _ _
  have begun := State.commitIntent_txn hx
  have record (t : State) (hm : t.mram = (s.commitIntent n x).mram) : t.recorded s.flow.jNext (fun r => r.outcome = false ∧ r.tag = x.tag ∧
      r.qp = x.qp ∧ r.opcode = x.opcode ∧ r.session = x.dw 2 ∧ r.tide = s.ltide ∧ r.slots = slotMask x.slots ∧ r.target = x.recTarget ∧
      r.cmdLen = x.cmdLen ∧ r.deadline = x.deadline ∧ r.cmd = x.cmd.take 64) :=
    State.recorded_of_mram (State.commitRec_recorded s (s.intentRec x) _ ⟨rfl, rfl, rfl, rfl, rfl, rfl, rfl, rfl, rfl, rfl, rfl⟩) hm
  refine ⟨execIntentCommit_outcomesFirst hx, fun ho h0 hd => ⟨_, execIntentCommit_deadline hx hst ho h0 hd, endAtIntent_does hwf hx 0x10⟩,
    fun ho hd hsm hl => ⟨_, execIntentCommit_sscLimit hx hst ho hd hsm hl, endAtIntent_does hwf hx 0x09⟩, fun ho hd hsm =>
    ⟨fun hs => ⟨_, execIntentCommit_saturated hx hst ho hd hsm hs, endAtIntent_does hwf hx 0x11⟩, fun hs i ht => ?_, fun hs k ht => ?_⟩⟩
  · have starts := (s.commitIntent n x).startExchange_parts n i
    obtain ⟨st, gate, sent⟩ := State.startExchange_opens begun i
    refine ⟨_, execIntentCommit_slot hx hst ho hd hsm hs ht, ⟨record _ (starts.changes.at (p := .mram) (by decide)), ?_,
      _, (starts.txn_eq (by decide) n).trans begun, rfl, rfl, rfl, rfl⟩, by rw [st, slots], gate, sent, fun h => ?_, fun h hb hp => ?_, fun hb => ?_, ?_, ?_⟩
    · rw [starts.flow_eq]; exact State.commitRec_jNext _ _
    · rw [← slots]; exact State.startExchange_wrap begun i h
    · exact State.startExchange_t0 begun i h (by rw [bound, hb]) (by rw [slots]; exact hp)
    · exact State.startExchange_script begun i (by rw [bound]; exact hb)
    · exact State.startExchange_keeps _ _ _ rfl ((OtherSlots.refl i s).raw ((s.commitIntent_evolves n x).changes.at (p := .slots) (by decide)))
    · exact (((s.commitIntent_evolves n x).mono rfl).trans (starts.mono rfl)).changes
  · obtain ⟨⟨r, hr, targets, running⟩, hm, hj, busy⟩ := State.runRound_spec begun k
      (if x.noCompare then [x.rounds.lead].filter (fun p => (s.cset k).at p = .member) else s.roundTargets x k)
    refine ⟨_, execIntentCommit_set hx hst ho hd hsm hs ht, ⟨record _ hm, ?_, _, hr, rfl, rfl, rfl, rfl⟩, ⟨_, hr, targets, running⟩, ?_, ?_⟩
    · rw [hj]; exact State.commitRec_jNext _ _
    · simpa only [slots, sets] using busy
    · exact (((s.commitIntent_evolves n x).mono rfl).trans
        ((State.runRound_evolves (ps := [.slots, .flow, .cores, .counts, .crypto]) rfl _ _ _ _ (.refl _)).mono rfl)).changes

end Sys2Proof.Machine
end

section
/-! PROOFS of the flow family: outcome records and completions (01 R17, R22, 07 R204 to R207, R209, R218 to R221). -/

namespace Sys2Proof.Machine

/-! OUTCOME_COMMIT. -/

/-- The state in which the outcome record of transaction x, at place n, is committed and its completion awaited; r is what stays requested. -/
def State.commitOutcome (s : State) (n : Nat) (x : Txn) (o : Outcome) (r : List Nat) : State :=
  let s1 := s.commitRec (x.outcomeRec o)
  ({ s1 with flow := { s1.flow with outq := r, unwritten := s1.flow.unwritten ++ [s.flow.jNext] } } : State).modTxn n fun x =>
    { x with stage := .complete, jseq := s.flow.jNext }

/-- The requests of outcome records and the records whose completion is not written change, and nothing else. -/
theorem State.outqSet_evolves {l : List Part} (s : State) (r u : List Nat) (hl : Part.sub [.flow] l = true) :
    Evolves l s { s with flow := { s.flow with outq := r, unwritten := s.flow.unwritten ++ u } } :=
  .raw (.refl s) rfl rfl rfl ⟨rfl, fun p => by
    cases p
    case flow => exact .inl (Part.sub_mem hl (by decide))
    all_goals exact .inr rfl⟩ id

section
variable {s : State} {n : Fin 1024} {x : Txn} {o : Outcome} (hx : s.txn n = some x) (ho : x.outDone = some o)
include hx ho

theorem execOutcomeCommit_first {r : List Nat} (h : s.flow.outq = n.val :: r) : exec (.outcomeCommit n) s = .next (s.commitOutcome n x o r) := by
  simp only [exec, execOutcomeCommit, h, hx, ho, if_true]; rfl

theorem execOutcomeCommit_later {h : Nat} {r : List Nat} (hq : s.flow.outq = h :: r) (hn : h ≠ n) : exec (.outcomeCommit n) s = .next s := by
  simp only [exec, execOutcomeCommit, hq, hx, ho, if_neg hn]

end

theorem State.commitOutcome_txn (s : State) (n : Nat) (x : Txn) (o : Outcome) (r : List Nat) (hx : s.txn n = some x) :
    (s.commitOutcome n x o r).txn n = some { x with stage := .complete, jseq := s.flow.jNext } := by
  have same : (s.commitRec (x.outcomeRec o)).txn n = some x := by rw [State.commitRec_txn, hx]
  rw [State.commitOutcome, State.modTxn_txn]
  exact congrArg (Option.map _) same

/-! What a completion writes (07 R204, R206, R222). -/

/-- The response data of transaction x on path p, where it has any. -/
def Txn.respOut (x : Txn) (p : Path) (o : Outcome) : List Out :=
  if (o.resp.take x.respCap).isEmpty then [] else [.resp p x.respPtr x.respSegN x.respSegs (o.resp.take x.respCap)]

theorem State.emitResp_out (s : State) (p : Path) (x : Txn) (o : Outcome) : (s.emitResp p x o).out = s.out ++ x.respOut p o := by
  unfold State.emitResp Txn.respOut
  dsimp only
  split
  · exact (List.append_nil _).symm
  · rfl

theorem State.emitResp_flow (s : State) (p : Path) (x : Txn) (o : Outcome) : (s.emitResp p x o).flow = s.flow :=
  (State.emitResp_evolves (ps := [.out]) rfl s p x o (.refl s)).flow_eq

/-- A message goes out at once or is marked pending. -/
theorem State.sendMsix_out (s : State) (p : Path) (v : Nat) : ∃ l, l.length ≤ 1 ∧ (s.sendMsix p v).out = s.out ++ l := by
  unfold State.sendMsix
  split
  · exact ⟨[], by simp, (List.append_nil _).symm⟩
  · exact ⟨[.msix p v], by simp, rfl⟩

/-- An entry written to the ring of pair r: the two writes leave in order, the tail moves on, and its SEQ counts as written. -/
theorem State.writeEntry_spec (s : State) (q r : Nat) (tag : Word) (jseq : Nat) (trunc : Bool) (o : Outcome) :
    (∃ l, l.length ≤ 1 ∧ (s.writeEntry q r tag jseq trunc o).out = s.out ++
      [.write (s.qp r).home ((s.qp r).cqBase + BitVec.ofNat 64 (32 * (s.qp r).cqTail)) (entryWords q (s.qp q).sqHead trunc (r ≠ q) tag jseq o),
       .write (s.qp r).home ((s.qp r).cqBase + BitVec.ofNat 64 (32 * (s.qp r).cqTail) + 28) [entryLast o (s.qp r).cqPhase]] ++ l) ∧
    (s.writeEntry q r tag jseq trunc o).flow.txns = s.flow.txns ∧
    ((s.writeEntry q r tag jseq trunc o).qp r).cqTail = ((s.qp r).cqTail + 1) % (s.qp r).cqSize ∧
    jseq ∉ (s.writeEntry q r tag jseq trunc o).flow.unwritten := by
  unfold State.writeEntry
  extract_lets x p addr s0 s1 next s2 f s3
  have out : s3.out = s.out ++ [.write p addr (entryWords q (s.qp q).sqHead trunc (r ≠ q) tag jseq o), .write p (addr + 28) [entryLast o x.cqPhase]] :=
    List.append_assoc _ _ _
  have tail : (s3.qp r).cqTail = next := by
    have same : s3.qp r = s2.qp r := rfl
    rw [same]; unfold s2; rw [State.modQp_qp]
  have written : jseq ∉ s3.flow.unwritten := by simp [s3]
  split
  · have sent : (s3.sendMsix p r).flow = s3.flow := (State.sendMsix_evolves (ps := [.counts, .out, .pba]) rfl s3 p r (.refl s3)).flow_eq
    obtain ⟨l, hl, hout⟩ := s3.sendMsix_out p r
    refine ⟨⟨l, hl, by rw [hout, out]⟩, by rw [sent]; rfl, ?_, by rw [sent]; exact written⟩
    rw [State.qp, sent]; exact tail
  · exact ⟨⟨[], by simp, by rw [out]; exact (List.append_nil _).symm⟩, rfl, tail, written⟩

/-! COMPLETION_WRITE, by the way a completion takes. -/

/-- The completion of transaction n of pair q is held; stall: for want of room in the spillway. -/
def State.holdTxn (s : State) (n q : Nat) (stall : Bool) : State :=
  (s.modTxn n fun x => { x with held := true }).modQp q fun y => { y with stalled := y.stalled || stall }

theorem State.holdTxn_txn (s : State) (n q : Nat) (stall : Bool) (x : Txn) (hx : s.txn n = some x) :
    (s.holdTxn n q stall).txn n = some { x with held := true } := by
  rw [State.holdTxn, State.modQp_txn, State.modTxn_txn, hx]; rfl

theorem State.holdTxn_stalled (s : State) (n q : Nat) : ((s.holdTxn n q true).qp q).stalled = true := by
  rw [State.holdTxn, State.modQp_qp]; exact Bool.or_true _

theorem State.holdTxn_changes (s : State) (n q : Nat) (stall : Bool) : Changes [.flow] s (s.holdTxn n q stall) :=
  (State.modQp_evolves rfl _ _ _ (State.modTxn_evolves rfl _ _ _ (.refl s))).changes

/-- The completion of transaction x, at place n, goes to the ring of its own pair. -/
def State.completeTxn (s : State) (n : Nat) (x : Txn) (o : Outcome) : State :=
  (((s.emitResp (s.qp x.qp).home x o).setTxn n none).writeEntry x.qp x.qp x.tag x.jseq (x.respCap < o.respLen) o).settleQp x.qp

theorem State.route_none {s : State} {q : Nat} (h : s.linkUp (s.qp q).home = false) (hj : s.joined q = none) : s.route q = none := by
  simp [State.route, h, hj]

theorem State.route_own {s : State} {q : Nat} (h : s.linkUp (s.qp q).home = true) : s.route q = some q := by simp [State.route, h]

section
variable {s : State} {n : Fin 1024} {x : Txn} {o : Outcome} (hx : s.txn n = some x) (ho : x.outDone = some o) (hc : x.stage = .complete)
include hx ho hc

theorem execCompletionWrite_noLink (h : s.linkUp (s.qp x.qp).home = false) (hj : s.joined x.qp = none) :
    exec (.completionWrite n) s = .next (s.holdTxn n x.qp false) := by
  simp only [exec, execCompletionWrite, hx, ho, State.route_none h hj]
  rw [if_neg (by simp [hc])]; rfl

variable (hl : s.linkUp (s.qp x.qp).home = true)
include hl

/-- One of a lower sequence number comes first: the completion waits, held or not (07 R207). -/
theorem execCompletionWrite_waits (h : ∃ e ∈ s.txnList, (s.orderedWith x.qp).contains e.2.qp = true ∧ e.2.stage = .complete ∧ e.2.jseq ≠ 0 ∧ e.2.jseq < x.jseq) :
    exec (.completionWrite n) s = .next (s.holdTxn n x.qp false) ∨ exec (.completionWrite n) s = .next s := by
  obtain ⟨e, he, hq, hst, h0, hlt⟩ := h
  simp only [exec, execCompletionWrite, hx, ho, State.route_own hl]
  rw [if_neg (by simp [hc]), if_pos (List.any_eq_true.mpr ⟨e, he, by
    simp only [Bool.and_eq_true, decide_eq_true_eq]; exact ⟨⟨hq, hst⟩, ⟨Nat.ne_zero_of_lt hlt, h0⟩, hlt⟩⟩)]
  split
  · exact .inl rfl
  · exact .inr rfl

variable (hfirst : ∀ e ∈ s.txnList, (s.orderedWith x.qp).contains e.2.qp = true → e.2.stage = .complete → e.2.jseq = 0 ∨ x.jseq ≤ e.2.jseq)
  (hs : s.flow.spill = [])
include hfirst hs

/-- Where none comes first and the spillway is empty, the ring, the spillway and the hold are tried in this order (07 R218 to R221). -/
theorem execCompletionWrite_turn : exec (.completionWrite n) s = .next
    (if s.ringRoom x.qp then s.completeTxn n x o else if 0 < (s.qp x.qp).quota then (s.spillIn n x.qp x o).settleQp x.qp else s.holdTxn n x.qp true) := by
  have first : (s.txnList.any fun e => (s.orderedWith x.qp).contains e.2.qp && decide (e.2.stage = .complete) &&
      (decide (x.jseq ≠ 0) && decide (e.2.jseq ≠ 0) && decide (e.2.jseq < x.jseq))) = false := by
    refine List.any_eq_false.mpr fun e he hall => ?_
    simp only [Bool.and_eq_true, decide_eq_true_eq] at hall
    obtain ⟨⟨hq, hst⟩, ⟨-, h0⟩, hlt⟩ := hall
    rcases hfirst e he hq hst with h | h <;> omega
  have empty : s.spillOf x.qp = [] := by rw [State.spillOf, hs]; rfl
  simp only [exec, execCompletionWrite, hx, ho, State.route_own hl]
  rw [if_neg (by simp [hc]), if_neg (by rw [first]; exact Bool.false_ne_true), hs, empty]
  simp only [List.filter_nil, List.any_nil, List.isEmpty_nil, Bool.true_and, List.length_nil, Bool.false_eq_true, if_false, decide_true,
    Nat.zero_lt_succ, decide_eq_true_eq]
  split
  · rfl
  · split <;> rfl

end

/-! What the ways leave. -/

theorem State.settleQp_cqTail (s : State) (q : Nat) : ((s.settleQp q).qp q).cqTail = (s.qp q).cqTail := by
  unfold State.settleQp
  dsimp only
  rw [State.modQp_qp]
  split <;> split <;> rfl

@[simp] theorem State.setTxn_qp (s : State) (n q : Nat) (x : Option Txn) : (s.setTxn n x).qp q = s.qp q := rfl

theorem State.modQp_unwritten (s : State) (q : Nat) (f : QPair → QPair) : (s.modQp q f).flow.unwritten = s.flow.unwritten := rfl

theorem State.completeTxn_spec (s : State) (n : Nat) (x : Txn) (o : Outcome) :
    (∃ l, l.length ≤ 1 ∧ (s.completeTxn n x o).out = s.out ++ x.respOut (s.qp x.qp).home o ++
      [.write (s.qp x.qp).home ((s.qp x.qp).cqBase + BitVec.ofNat 64 (32 * (s.qp x.qp).cqTail))
        (entryWords x.qp (s.qp x.qp).sqHead (decide (x.respCap < o.respLen)) false x.tag x.jseq o),
       .write (s.qp x.qp).home ((s.qp x.qp).cqBase + BitVec.ofNat 64 (32 * (s.qp x.qp).cqTail) + 28) [entryLast o (s.qp x.qp).cqPhase]] ++ l) ∧
    (s.completeTxn n x o).txn n = none ∧ ((s.completeTxn n x o).qp x.qp).cqTail = ((s.qp x.qp).cqTail + 1) % (s.qp x.qp).cqSize ∧
    x.jseq ∉ (s.completeTxn n x o).flow.unwritten ∧ Changes [.dev, .flow, .counts, .out, .pba] s (s.completeTxn n x o) := by
  have before : ((s.emitResp (s.qp x.qp).home x o).setTxn n none).qp x.qp = s.qp x.qp := by
    rw [State.setTxn_qp, State.qp, State.emitResp_flow]; rfl
  obtain ⟨⟨l, hlen, out⟩, txns, tail, written⟩ :=
    State.writeEntry_spec ((s.emitResp (s.qp x.qp).home x o).setTxn n none) x.qp x.qp x.tag x.jseq (x.respCap < o.respLen) o
  obtain ⟨f, settled⟩ := State.settleQp_eq
    (((s.emitResp (s.qp x.qp).home x o).setTxn n none).writeEntry x.qp x.qp x.tag x.jseq (x.respCap < o.respLen) o) x.qp
  rw [before] at out tail
  refine ⟨⟨l, hlen, ?_⟩, ?_, ?_, ?_, ?_⟩
  · rw [State.completeTxn, settled, State.modQp_at_out, out, ← State.emitResp_out, decide_eq_false (not_not.mpr rfl)]; rfl
  · rw [State.completeTxn, settled, State.modQp_txn, State.txn, txns]; exact State.setTxn_txn _ _ _
  · rw [State.completeTxn, State.settleQp_cqTail, tail]
  · rw [State.completeTxn, settled, State.modQp_unwritten]; exact written
  · exact (State.settleQp_evolves rfl _ _ (State.writeEntry_evolves rfl _ _ _ _ _ _ _ (State.setTxn_evolves rfl _ _ _
      (State.emitResp_evolves rfl _ _ _ _ (.refl s))))).changes

theorem State.spillIn_spec (s : State) (n r : Nat) (x : Txn) (o : Outcome) :
    (s.spillIn n r x o).flow.spill = s.flow.spill ++
      [{ ring := r, qp := x.qp, tag := x.tag, jseq := x.jseq, trunc := decide (x.respCap < o.respLen), o := { o with resp := [] } }] ∧
    (s.spillIn n r x o).txn n = none ∧ (∀ q, (s.spillIn n r x o).qp q = s.qp q) ∧ (s.out ++ x.respOut (s.qp r).home o) <+: (s.spillIn n r x o).out := by
  unfold State.spillIn
  extract_lets s1 f s2 l s3
  have flow : ((s.tally (0x4000 + x.qp) 6 1 true).emitResp (s.qp r).home x o).flow = s.flow := State.emitResp_flow _ _ _ _
  have out : s3.out = s.out ++ x.respOut (s.qp r).home o := State.emitResp_out _ _ _ _
  have spill : s3.flow.spill = s.flow.spill ++
      [{ ring := r, qp := x.qp, tag := x.tag, jseq := x.jseq, trunc := decide (x.respCap < o.respLen), o := { o with resp := [] } }] := by
    rw [← flow]; rfl
  have gone : s3.txn n = none := tget_tset_same none ((s.tally (0x4000 + x.qp) 6 1 true).emitResp (s.qp r).home x o).flow.txns n none
  have pairs (q : Nat) : s3.qp q = s.qp q := by rw [State.qp, State.qp, ← flow]; rfl
  have rest {t : State} (e : Evolves [.dev, .counts, .out, .pba] s3 t) : t.flow.spill = s.flow.spill ++
      [{ ring := r, qp := x.qp, tag := x.tag, jseq := x.jseq, trunc := decide (x.respCap < o.respLen), o := { o with resp := [] } }] ∧
      t.txn n = none ∧ (∀ q, t.qp q = s.qp q) ∧ (s.out ++ x.respOut (s.qp r).home o) <+: t.out :=
    ⟨by rw [e.flow_eq, spill], by rw [State.txn, e.flow_eq]; exact gone, fun q => by rw [State.qp, e.flow_eq]; exact pairs q, out ▸ e.out⟩
  split
  · exact rest (State.irq_evolves rfl _ _ (State.post_evolves rfl _ _ _ _ _ (State.modDev_evolves rfl (.refl s3) rfl)))
  · exact rest (.refl s3)

/-- Settles O33: the way of a completion by the guards of its command, each way by what it leaves. -/
theorem outcomeAndCompletion : Obligations.OutcomeAndCompletion := by
  intro s n x o hwf hx ho y resp heldNow
  have held (q : Nat) (b : Bool) : heldNow (s.holdTxn n q b) := ⟨State.holdTxn_txn s n q b x hx, rfl, rfl⟩
  refine ⟨fun r hr => ⟨_, execOutcomeCommit_first hx ho hr, ?_, rfl, ?_, ?_, State.commitOutcome_txn s n x o r hx, ?_⟩,
    fun h r hq hn => execOutcomeCommit_later hx ho hq hn,
    fun hc hl hj => ⟨_, execCompletionWrite_noLink hx ho hc hl hj, held _ _, State.holdTxn_changes _ _ _ _⟩,
    fun hc hl => ⟨fun he => ?_, fun hfirst hs => ?_⟩⟩
  · exact State.recorded_of_mram (State.commitRec_recorded s (x.outcomeRec o) _ ⟨rfl, rfl, rfl, rfl, rfl, rfl⟩) rfl
  · exact State.commitRec_jNext s (x.outcomeRec o)
  · exact List.mem_append_right _ (List.mem_singleton.mpr rfl)
  · exact (State.modTxn_evolves rfl _ _ _ ((State.commitRec_evolves (ps := [.dev, .flow, .mram, .counts, .lpos, .out, .pba]) rfl s (x.outcomeRec o)
      (.refl s)).trans (State.outqSet_evolves _ r [s.flow.jNext] rfl))).changes
  · rcases execCompletionWrite_waits hx ho hc hl he with e | e
    · exact ⟨_, e, ⟨_, State.holdTxn_txn s n x.qp false x hx, rfl⟩, rfl, rfl, State.holdTxn_changes _ _ _ _⟩
    · exact ⟨_, e, ⟨x, hx, rfl⟩, rfl, rfl, (Evolves.refl s).changes⟩
  · have turn := execCompletionWrite_turn hx ho hc hl hfirst hs
    have full (h : y.cqSize - 1 ≤ y.outstanding) : s.ringRoom x.qp = false := by
      simp only [State.ringRoom, Bool.and_eq_false_iff, decide_eq_false_iff_not]
      exact .inr (Nat.not_lt.mpr h)
    refine ⟨fun hd hroom => ?_, fun hfull hq => ?_, fun hfull hq => ?_⟩
    · rw [if_pos (by simp only [State.ringRoom, Bool.and_eq_true, decide_eq_true_eq]; exact ⟨⟨hd, hl⟩, hroom⟩)] at turn
      exact ⟨_, turn, State.completeTxn_spec s n x o⟩
    · rw [if_neg (by rw [full hfull]; exact Bool.false_ne_true), if_pos hq] at turn
      obtain ⟨spill, gone, pairs, out⟩ := State.spillIn_spec s n x.qp x o
      obtain ⟨f, settled⟩ := (s.spillIn n x.qp x o).settleQp_eq x.qp
      refine ⟨_, turn, ?_, ?_, ?_, ?_, (State.settleQp_evolves rfl _ _ (State.spillIn_evolves rfl _ _ _ _ _ (.refl s))).changes⟩
      · rw [settled, State.modQp_spill, spill, hs, List.nil_append]
      · rw [settled, State.modQp_txn, gone]
      · rw [State.settleQp_cqTail, pairs]
      · rw [settled, State.modQp_at_out]; exact out
    · rw [if_neg (by rw [full hfull]; exact Bool.false_ne_true), if_neg (by rw [show (s.qp x.qp).quota = 0 from hq]; decide)] at turn
      exact ⟨_, turn, held _ _, State.holdTxn_stalled s n x.qp, State.holdTxn_changes _ _ _ _⟩

end Sys2Proof.Machine
end

section
/-! PROOFS of the flow family: the crypto engine (16 R431, R433, Table 16-13). -/

namespace Sys2Proof.Machine

/-! Lengths of what the engine computes, and CTR undone by itself. -/

@[simp] theorem leBytes_length (n k : Nat) : (leBytes n k).length = k := by
  induction k generalizing n with
  | zero => rfl
  | succ k ih => simp only [leBytes, List.length_cons, ih]

@[simp] theorem beBytes_length (n k : Nat) : (beBytes n k).length = k := by rw [beBytes, List.length_reverse, leBytes_length]

@[simp] theorem bytesOfBlock_length (b : BitVec 128) : (bytesOfBlock b).length = 16 := beBytes_length _ _

theorem keyStream_length (key : BitVec 256) (n : Nat) (c : BitVec 128) : (keyStream key n c).length = 16 * n := by
  induction n generalizing c with
  | zero => rfl
  | succ n ih => rw [keyStream, List.length_append, bytesOfBlock_length, ih]; omega

theorem zipWith_xor_zipWith_xor (l k : List Byte) (h : l.length ≤ k.length) :
    List.zipWith (· ^^^ ·) (List.zipWith (· ^^^ ·) l k) k = l := by
  induction l generalizing k with
  | nil => rfl
  | cons a l ih =>
    cases k with
    | nil => simp at h
    | cons b k =>
      simp only [List.zipWith_cons_cons, ih k (Nat.le_of_succ_le_succ h), BitVec.xor_assoc, BitVec.xor_self, BitVec.xor_zero]

theorem aesCtr_length (key : BitVec 256) (ctr : BitVec 128) (data : List Byte) : (aesCtr key ctr data).length = data.length := by
  rw [aesCtr, List.length_zipWith, keyStream_length]; omega

theorem aesCtr_aesCtr (key : BitVec 256) (ctr : BitVec 128) (data : List Byte) : aesCtr key ctr (aesCtr key ctr data) = data := by
  rw [aesCtr, aesCtr_length]
  exact zipWith_xor_zipWith_xor _ _ (by rw [keyStream_length]; omega)

theorem aesCmac_length (key : BitVec 256) (m : List Byte) : (aesCmac key m).length = 16 := bytesOfBlock_length _

/-! A GO of an operation (16 R433). -/

theorem State.startCrypto_busy {s : State} (h : s.crypto.busy = true) (op : Nat) :
    s.startCrypto op = { s with crypto := { s.crypto with cmdErr := .state } } := if_pos h

theorem State.startCrypto_go {s : State} (h : s.crypto.busy = false) {op : Nat} (hop : op < 256) : s.startCrypto op = s.cryGo op := by
  have small : 0x80000000 + op < 2 ^ 32 := by omega
  have go : bitOf (BitVec.ofNat 32 (0x80000000 + op)) 31 = true := by
    rw [bitOf, BitVec.getLsbD_ofNat, Nat.testBit_eq_decide_div_mod_eq]
    simp only [show 31 < 32 by decide, decide_true, Bool.true_and, decide_eq_true_eq]
    omega
  have code : fld (BitVec.ofNat 32 (0x80000000 + op)) 7 0 = op := by
    rw [fld, BitVec.toNat_ofNat, Nat.mod_eq_of_lt small]; omega
  simp only [State.startCrypto, State.writeCry, h, go, code]
  rfl

/-- An operation other than a verification runs, with the result it will store. -/
theorem State.cryGo_symmetric (s : State) {op : Nat} (h0 : op ≠ 0) (h5 : op ≤ 5) (h4 : op ≠ 4) :
    s.cryGo op = { s with crypto := { s.crypto with cmdErr := .none, busy := true, op := op, result := s.cryResult op } } := by
  simp only [State.cryGo]
  rw [if_neg (by simp; omega), if_neg h4]
  rfl

/-! The keys and results of the operations (16 R428, Table 16-13). -/

section
variable {s : State}

theorem State.cryKey_aes (h0 : s.crypto.key ≠ 0) (ht : (s.secret s.crypto.key).typ = 1) (kcv : Bool) :
    s.cryKey kcv = some (keyOfBytes (s.secret s.crypto.key).key) := by
  simp only [State.cryKey]; rw [if_neg h0, if_pos ht]

theorem State.cryKey_pair (h0 : s.crypto.key ≠ 0) (ht : (s.secret s.crypto.key).typ = 2) :
    s.cryKey true = some (keyOfBytes ((s.secret s.crypto.key).key.take 32)) := by
  simp only [State.cryKey]; rw [if_neg h0, if_neg (by rw [ht]; decide), if_pos (by rw [ht]; rfl)]

theorem State.cryKey_none (h : s.crypto.key = 0 ∨ (s.secret s.crypto.key).typ ≠ 1) : s.cryKey false = none := by
  simp only [State.cryKey]
  split
  · rfl
  · next h0 => rw [if_neg (h.resolve_left h0), if_neg (by simp)]

theorem State.cryKey_kcv_none (h : s.crypto.key = 0 ∨ ((s.secret s.crypto.key).typ ≠ 1 ∧ (s.secret s.crypto.key).typ ≠ 2)) : s.cryKey true = none := by
  simp only [State.cryKey]
  split
  · rfl
  · next h0 =>
    obtain ⟨h1, h2⟩ := h.resolve_left h0
    rw [if_neg h1, if_neg (by simp [h2])]

/-- SRC and the n bytes at DST lie in shared SRAM. -/
def State.cryFits (s : State) (n : Nat) : Prop := inShared s.crypto.src.toNat s.crypto.len = true ∧ inShared s.crypto.dst.toNat n = true

theorem ite_fits {α : Type} {a b : Bool} (h : a = true ∧ b = true) (v w : α) : (if (a && b) = true then v else w) = v := if_pos (by simp [h])

theorem ite_not_fits {α : Type} {a b : Bool} (h : ¬(a = true ∧ b = true)) (v w : α) : (if (a && b) = true then v else w) = w := if_neg (by simpa using h)

theorem State.cryResult_ctr (h : s.cryFits s.crypto.len) : s.cryResult 1 = (s.cryKey false).map fun k =>
    aesCtr k (blockOfBytes (s.crypto.iv.flatMap fun w => leBytes w.toNat 4)) (s.sramBytes s.crypto.src.toNat s.crypto.len) := ite_fits h _ _

theorem State.cryResult_cmac (h : s.cryFits 16) : s.cryResult 2 = (s.cryKey false).map fun k => aesCmac k (s.sramBytes s.crypto.src.toNat s.crypto.len) :=
  ite_fits h _ _

theorem State.cryResult_sha (h : s.cryFits 48) :
    s.cryResult 3 = some (beBytes (Config.sha384 (s.sramBytes s.crypto.src.toNat s.crypto.len)).toNat 48) := ite_fits h _ _

theorem State.cryResult_kcv (h : inShared s.crypto.dst.toNat 8 = true) : s.cryResult 5 = (s.cryKey true).map kcvOf := if_pos h

/-- Without a key, or with a range outside shared SRAM, an operation has no result. -/
theorem State.cryResult_none :
    (s.cryKey false = none ∨ ¬s.cryFits s.crypto.len → s.cryResult 1 = none) ∧ (s.cryKey false = none ∨ ¬s.cryFits 16 → s.cryResult 2 = none) ∧
    (¬s.cryFits 48 → s.cryResult 3 = none) ∧ (s.cryKey true = none ∨ inShared s.crypto.dst.toNat 8 = false → s.cryResult 5 = none) := by
  refine ⟨fun h => ?_, fun h => ?_, fun h => ite_not_fits h _ _, fun h => ?_⟩
  · by_cases f : s.cryFits s.crypto.len
    · rw [State.cryResult_ctr f, h.resolve_right (not_not.mpr f), Option.map_none]
    · exact ite_not_fits f _ _
  · by_cases f : s.cryFits 16
    · rw [State.cryResult_cmac f, h.resolve_right (not_not.mpr f), Option.map_none]
    · exact ite_not_fits f _ _
  · cases f : inShared s.crypto.dst.toNat 8 with
    | true => rw [State.cryResult_kcv f, h.resolve_right (by simp [f]), Option.map_none]
    | false => exact if_neg (by rw [f]; exact Bool.false_ne_true)

end

/-! CRYPTO_DONE. -/

theorem State.setSram_sramByte (s : State) (a b : Nat) (v : Byte) : (s.setSram a v).sramByte b = if b = a then v else s.sramByte b := by
  split
  · next h => subst h; exact tget_tset_same _ _ _ _
  · next h => exact tget_tset_ne _ _ _ _ _ h

theorem State.setSramBytes_outside (s : State) (a : Nat) (l : List Byte) (b : Nat) (h : b < a ∨ a + l.length ≤ b) :
    (s.setSramBytes a l).sramByte b = s.sramByte b := by
  induction l generalizing s a with
  | nil => rfl
  | cons v l ih =>
    rw [List.length_cons] at h
    rw [State.setSramBytes, ih _ _ (by omega), State.setSram_sramByte, if_neg (by omega)]

theorem State.setSramBytes_inside (s : State) (a : Nat) (l : List Byte) (i : Nat) (h : i < l.length) : (s.setSramBytes a l).sramByte (a + i) = l[i] := by
  induction l generalizing s a i with
  | nil => simp at h
  | cons v l ih =>
    rw [State.setSramBytes]
    cases i with
    | zero => rw [State.setSramBytes_outside _ _ _ _ (by omega), State.setSram_sramByte]; simp
    | succ i =>
      rw [List.length_cons] at h
      have := ih (s.setSram a v) (a + 1) i (by omega)
      rw [show a + (i + 1) = a + 1 + i by omega, this, List.getElem_cons_succ]

theorem State.setSramBytes_sramBytes (s : State) (a : Nat) (l : List Byte) : (s.setSramBytes a l).sramBytes a l.length = l := by
  refine List.ext_getElem (by simp [State.sramBytes]) fun i _ h => ?_
  simp only [State.sramBytes, List.getElem_map, List.getElem_range]
  exact State.setSramBytes_inside s a l i h

/-- An operation does not end while the public-key lane has it, nor a symmetric one while a hash, a wrap or an unwrap waits (16 R431). -/
theorem execCryptoDone_waits {s : State} (h : s.crypto.busy = false ∨ s.life.lane.contains .crypto = true ∨
    (s.crypto.op ≠ 4 ∧ (s.laneNext ≠ none ∨ s.auditBacklog ≠ 0))) : exec .cryptoDone s = .next s := by
  refine if_pos ?_
  simp only [Bool.or_eq_true, Bool.not_eq_true', Bool.and_eq_true, decide_eq_true_eq, State.laneFree, Bool.and_eq_false_iff, Option.isNone_eq_false_iff,
    decide_eq_false_iff_not, Option.isSome_iff_ne_none]
  tauto

section
variable {s : State} (hb : s.crypto.busy = true) (hl : s.life.lane.contains .crypto = false)
  (h : s.crypto.op = 4 ∨ (s.laneNext = none ∧ s.auditBacklog = 0))
include hb hl h

theorem execCryptoDone_free : ¬(!s.crypto.busy || s.life.lane.contains .crypto || (decide (s.crypto.op ≠ 4) && !s.laneFree)) = true := by
  rw [hb, hl]
  rcases h with h4 | ⟨hn, h0⟩
  · simp [h4]
  · simp [State.laneFree, hn, h0]

theorem execCryptoDone_result {l : List Byte} (hr : s.crypto.result = some l) : exec .cryptoDone s =
    .next (((s.setSramBytes s.crypto.dst.toNat l).modCry fun d => { d with busy := false, done := true, error := d.error || false, result := none }).line 44) := by
  refine (if_neg (execCryptoDone_free hb hl h)).trans ?_
  simp only [hr]; rfl

theorem execCryptoDone_error (hr : s.crypto.result = none) : exec .cryptoDone s =
    .next ((s.modCry fun d => { d with busy := false, done := true, error := d.error || true, result := none }).line 44) := by
  refine (if_neg (execCryptoDone_free hb hl h)).trans ?_
  simp only [hr]; rfl

end

theorem State.line_rest (s : State) (n : Nat) : (s.line n).crypto = s.crypto ∧ (s.line n).sram = s.sram ∧ Evolves [.cores] s (s.line n) := by
  have e := State.line_evolves (ps := [.cores]) rfl s n (.refl s)
  exact ⟨e.changes.at (p := .crypto) (by decide), e.changes.at (p := .sram) (by decide), e⟩

/-- A result lands at DST and nowhere else. -/
theorem cryptoDone_stores {s : State} (hb : s.crypto.busy = true) (hl : s.life.lane.contains .crypto = false)
    (h : s.crypto.op = 4 ∨ (s.laneNext = none ∧ s.auditBacklog = 0)) {l : List Byte} (hr : s.crypto.result = some l) : Does .cryptoDone s fun t =>
      t.sramBytes s.crypto.dst.toNat l.length = l ∧
      (∀ a, a < s.crypto.dst.toNat ∨ s.crypto.dst.toNat + l.length ≤ a → t.sramByte a = s.sramByte a) ∧
      t.crypto = { s.crypto with busy := false, done := true, result := none } ∧ Changes [.sram, .cores, .crypto] s t := by
  have stored := State.setSramBytes_evolves (ps := [.sram]) rfl s s.crypto.dst.toNat l (.refl s)
  have crypto : (s.setSramBytes s.crypto.dst.toNat l).crypto = s.crypto := stored.changes.at (p := .crypto) (by decide)
  refine ⟨_, execCryptoDone_result hb hl h hr, ?_⟩
  obtain ⟨lc, ls, le⟩ := State.line_rest ((s.setSramBytes s.crypto.dst.toNat l).modCry fun d =>
    { d with busy := false, done := true, error := d.error || false, result := none }) 44
  refine ⟨?_, fun a ha => ?_, ?_, ?_⟩
  · simp only [State.sramBytes, State.sramByte, ls]; exact State.setSramBytes_sramBytes s _ l
  · simp only [State.sramByte, ls]; exact State.setSramBytes_outside s _ l a ha
  · rw [lc, State.modCry, crypto, Bool.or_false]
  · exact ((stored.mono rfl).trans ((State.modCry_evolves rfl _ _ (.refl _)).trans (le.mono rfl))).changes

theorem cryptoDone_fails {s : State} (hb : s.crypto.busy = true) (hl : s.life.lane.contains .crypto = false)
    (h : s.crypto.op = 4 ∨ (s.laneNext = none ∧ s.auditBacklog = 0)) (hr : s.crypto.result = none) : Does .cryptoDone s fun t =>
      t.crypto = { s.crypto with busy := false, done := true, error := true } ∧ Changes [.cores, .crypto] s t := by
  refine ⟨_, execCryptoDone_error hb hl h hr, ?_⟩
  obtain ⟨lc, -, le⟩ := State.line_rest (s.modCry fun d => { d with busy := false, done := true, error := d.error || true, result := none }) 44
  refine ⟨?_, ((State.modCry_evolves rfl _ _ (.refl s)).trans (le.mono rfl)).changes⟩
  rw [lc, State.modCry, Bool.or_true, ← hr]

/-- An operation that runs: what the registers show, and that nothing else changes. -/
theorem startCrypto_runs {s : State} {i : Instr} {op : Nat} {r : Option (List Byte)} (he : exec i s = .next (s.startCrypto op))
    (hb : s.crypto.busy = false) (hr : s.cryResult op = r) (hop : op ≠ 0 ∧ op ≤ 5 ∧ op ≠ 4 := by decide) :
    Does i s fun t => t.crypto = { s.crypto with cmdErr := .none, busy := true, op := op, result := r } ∧ Changes [.crypto, .life] s t := by
  obtain ⟨h0, h5, h4⟩ := hop
  have go : s.startCrypto op = s.cryGo op := State.startCrypto_go hb (by omega)
  exact ⟨_, he, by rw [go, State.cryGo_symmetric s h0 h5 h4, hr], (State.startCrypto_evolves rfl s op (.refl s)).changes⟩

end Sys2Proof.Machine
end

section
/-! PROOFS of the flow family: the random source, the audit hash chain and scrub (01 R21, 16 R408, R430, R434 to R436, R440). -/

namespace Sys2Proof.Machine

/-! A device event with its interrupt source and its line (07 R222, R225, 11 R316). -/

/-- An event is posted, its source set and its interrupt line raised. -/
def State.report (s : State) (typ source code : Nat) (data : List Word) (n m : Nat) : State := ((s.post typ source code data).irq n).line m

theorem State.sendMsix_dev (s : State) (p : Path) (v : Nat) : (s.sendMsix p v).dev = s.dev :=
  (State.sendMsix_evolves (ps := [.counts, .out, .pba]) rfl s p v (.refl s)).changes.at (p := .dev) (by decide)

theorem State.irq_evq (s : State) (n : Nat) : (s.irq n).dev.evq = s.dev.evq := by
  unfold State.irq
  dsimp only
  split
  · rfl
  · split
    · rfl
    · rw [State.sendMsix_dev]; rfl

/-- The bit of an interrupt source is set, newly or still. -/
theorem State.irq_status (s : State) (n : Nat) (hn : n < 16) : (s.irq n).dev.irqStatus.getLsbD n = true := by
  have set : (s.dev.irqStatus ||| (1#16 <<< n)).getLsbD n = true := by
    rw [BitVec.getLsbD_or, BitVec.getLsbD_shiftLeft]; simp [hn]
  unfold State.irq
  dsimp only
  split
  · assumption
  · split
    · exact set
    · rw [State.sendMsix_dev]; exact set

theorem State.line_dev (s : State) (n : Nat) : (s.line n).dev = s.dev :=
  (State.line_evolves (ps := [.cores]) rfl s n (.refl s)).changes.at (p := .dev) (by decide)

theorem State.report_evolves (s : State) (typ source code : Nat) (data : List Word) (n m : Nat) :
    Evolves [.dev, .cores, .counts, .out, .pba] s (s.report typ source code data n m) :=
  State.line_evolves rfl _ _ (State.irq_evolves rfl _ _ (State.post_evolves rfl _ _ _ _ _ (.refl s)))

theorem State.report_posts (s : State) (typ source code : Nat) (data : List Word) (n m : Nat) :
    Posts s (s.report typ source code data n m) typ source code := by
  intro room
  have queued : (s.report typ source code data n m).dev.evq =
      s.dev.evq ++ [{ typ := typ, source := source, code := code, tide := s.ltide, data := data }] := by
    rw [State.report, State.line_dev, State.irq_evq, State.post, State.postEv, if_pos (room.trans (by decide))]; rfl
  exact ⟨_, by rw [queued, List.drop_left]; exact List.mem_singleton.mpr rfl, rfl, rfl, rfl⟩

/-- An event posted from a state with the same device block. -/
theorem Posts.of_dev {s u t : State} {typ source code : Nat} (h : Posts u t typ source code) (e : u.dev = s.dev) : Posts s t typ source code := by
  unfold Posts at h ⊢; rwa [e] at h

theorem State.report_status (s : State) (typ source code : Nat) (data : List Word) (n m : Nat) (hn : n < 16) :
    (s.report typ source code data n m).dev.irqStatus.getLsbD n = true := by
  rw [State.report, State.line_dev]; exact State.irq_status _ _ hn

@[simp] theorem State.tally_tallyOf (s : State) (idx sub : Nat) : (s.tally idx sub).tallyOf idx sub = min (s.tallyOf idx sub + 1) 0xFFFFFFFF :=
  tget_tset_same 0 s.counts _ _

theorem State.modLife_tallyOf (s : State) (f : LifeRun → LifeRun) (idx sub : Nat) : (s.modLife f).tallyOf idx sub = s.tallyOf idx sub := rfl

theorem State.tally_tallyOf_ne (s : State) (i j n : Nat) (wide : Bool) (idx sub : Nat) (h : idx * 256 + sub ≠ i * 256 + j) :
    (s.tally i j n wide).tallyOf idx sub = s.tallyOf idx sub := tget_tset_ne 0 s.counts _ _ _ h

/-- An interrupt counts the messages sent and no other dictionary count. -/
theorem State.irq_tallyOf (s : State) (n idx sub : Nat) (h : ∀ p, idx * 256 + sub ≠ (0x1301 + pathNum p) * 256 + 6) :
    (s.irq n).tallyOf idx sub = s.tallyOf idx sub := by
  have sent (u : State) (p : Path) (v : Nat) : (u.sendMsix p v).tallyOf idx sub = u.tallyOf idx sub := by
    unfold State.sendMsix
    split
    · rfl
    · exact State.tally_tallyOf_ne (u.emit (.msix p v)) _ _ _ _ _ _ (h p)
  unfold State.irq
  dsimp only
  split
  · rfl
  · split
    · rfl
    · rw [sent]; rfl

theorem State.report_tallyOf (s : State) (typ source code : Nat) (data : List Word) (n m idx sub : Nat)
    (h : ∀ p, idx * 256 + sub ≠ (0x1301 + pathNum p) * 256 + 6) : (s.report typ source code data n m).tallyOf idx sub = s.tallyOf idx sub := by
  have line (u : State) : (u.line m).counts = u.counts := (State.line_evolves (ps := [.cores]) rfl u m (.refl u)).changes.at (p := .counts) (by decide)
  have posted : (s.post typ source code data).tallyOf idx sub = s.tallyOf idx sub := by
    unfold State.post State.postEv
    split
    · rfl
    · rw [State.irq_tallyOf _ _ _ _ h]; rfl
  rw [State.report, State.tallyOf, line]
  exact (State.irq_tallyOf _ n idx sub h).trans posted

/-! The random source (16 R430). -/

theorem execRngFail_again {s : State} (h : s.life.rngFailed = true) (code : Fin 3) : exec (.rngFail code) s = .next s := if_pos h

theorem execRngFail_first {s : State} (h : s.life.rngFailed = false) (code : Fin 3) : exec (.rngFail code) s =
    .next (((s.modLife fun l => { l with rngFailed := true }).tally 0x2A00 7).report 0xA7 0 (code.val + 1) [] 13 47) := if_neg (by simp [h])

theorem rngFail_reports {s : State} (h : s.life.rngFailed = false) (code : Fin 3) : Does (.rngFail code) s fun t =>
    t.life = { s.life with rngFailed := true } ∧ t.tallyOf 0x2A00 7 = min (s.tallyOf 0x2A00 7 + 1) 0xFFFFFFFF ∧ t.dev.irqStatus.getLsbD 13 = true ∧
    Posts s t 0xA7 0 (code.val + 1) ∧ Changes [.dev, .cores, .counts, .life, .out, .pba] s t := by
  have reported := State.report_evolves ((s.modLife fun l => { l with rngFailed := true }).tally 0x2A00 7) 0xA7 0 (code.val + 1) [] 13 47
  refine ⟨_, execRngFail_first h code, reported.changes.at (p := .life) (by decide), ?_, State.report_status _ _ _ _ _ _ _ (by decide),
    (State.report_posts _ _ _ _ _ _ _).of_dev rfl, ?_⟩
  · have other (p : Path) : 0x2A00 * 256 + 7 ≠ (0x1301 + pathNum p) * 256 + 6 := by cases p <;> decide
    rw [State.report_tallyOf _ _ _ _ _ _ _ _ _ other, State.tally_tallyOf, State.modLife_tallyOf]
  · exact ((State.tally_evolves rfl _ _ _ _ _ (State.modLife_evolves rfl _ _ (.refl s))).trans (reported.mono rfl)).changes

theorem execRngRead_failed {s : State} (h : s.life.rngFailed = true) (k : Fin 4) :
    exec (.rngRead k) s = .next { s with crypto := { s.crypto with error := true }, lastRead := 0#32 } := by
  simp only [exec, execRngRead, State.readCry, h, if_true]; rfl

theorem execRngRead_draws {s : State} (h : s.life.rngFailed = false) (k : Fin 4) :
    exec (.rngRead k) s = .next { s with freeCount := s.freeCount + 1, lastRead := Config.random s.freeCount } := by
  simp only [exec, execRngRead, State.readCry, h, Bool.false_eq_true, if_false]; rfl

theorem rngRead_changes (s : State) (n : Nat) (w : Word) : Changes [.lastRead, .freeCount] s { s with freeCount := n, lastRead := w } :=
  ⟨rfl, fun p => by
    cases p
    case lastRead => exact .inl (by decide)
    case freeCount => exact .inl (by decide)
    all_goals exact .inr rfl⟩

/-! The audit hash chain (16 R434 to R436). -/

theorem execAuditHash_waits {s : State} (h : s.auditBacklog = 0 ∨ s.journalWaits = true ∨ s.storeQ ≠ [] ∨ (s.auditLate = false ∧ s.laneNext ≠ none)) :
    exec .auditHash s = .next s := by
  refine congrArg Host.Outcome.next ?_
  split
  · rfl
  · next hfree =>
    have none_ : s.auditBacklog = 0 := by
      refine h.resolve_right fun k => hfree ?_
      rcases k with k | k | ⟨kl, kn⟩
      · simp [k]
      · simp [k]
      · simp [kl, Option.isSome_iff_ne_none, kn]
    exact if_pos none_

/-- The state with the hash of the oldest entry of the backlog in its place, before the images and the depth of the backlog are looked at. -/
def State.hashOldest (s : State) : State :=
  let n := s.mram.auditHashed + 1
  let e := s.auditAt (auditPos n)
  let h := beBytes (Config.sha384 (s.auditLink (n - 1) ++ e.take 48)).toNat 48
  { s with audit := { s.audit with since := s.audit.since.tail }, mram := { s.mram with
    auditHashed := n, auditHash := h, audit := tset [] s.mram.audit (auditPos n) (padTo 48 e ++ h.take 16) } }

theorem State.auditHashNext_of_hashOldest {s : State} (h : s.auditBacklog ≠ 0) : Evolves [.cores, .lpos, .audit] s.hashOldest s.auditHashNext := by
  rw [State.auditHashNext, if_neg h]
  exact State.auditDeep_evolves rfl _ (State.markChanged_evolves rfl _ _ _ (.refl _))

theorem execAuditHash_hashes {s : State} (hj : s.journalWaits = false) (hs : s.storeQ = []) (h : s.auditLate = true ∨ s.laneNext = none) :
    exec .auditHash s = .next s.auditHashNext := by
  refine congrArg Host.Outcome.next (if_neg ?_)
  rcases h with h | h <;> simp [hj, hs, h]

/-! Scrub (01 R21, 16 R408). -/

theorem State.scrubGranted_iff (s : State) : s.scrubGranted = true ↔ (s.journalWaits = false ∧ s.storeQ = []) ∨ 62 ≤ s.flow.bursts := by
  simp [State.scrubGranted]

theorem execScrubBurst_refused {s : State} (h : ¬((s.journalWaits = false ∧ s.storeQ = []) ∨ 62 ≤ s.flow.bursts)) (b : Option Word) :
    exec (.scrubBurst b) s = .next s := by
  rw [← State.scrubGranted_iff] at h
  exact if_pos (by simpa using h)

theorem execScrubBurst_clean {s : State} (h : (s.journalWaits = false ∧ s.storeQ = []) ∨ 62 ≤ s.flow.bursts) :
    exec (.scrubBurst none) s = .next { s with flow := { s.flow with bursts := 0 } } := by
  rw [← State.scrubGranted_iff] at h
  exact if_neg (by simp [h])

/-- The state in which a word of MRAM has been found bad, its record invalid, before it is reported. -/
def State.foundBad (s : State) (a : Nat) : State :=
  let s1 := ({ s with flow := { s.flow with bursts := 0 } } : State).spoil a
  { s1 with mram := { s1.mram with bad := s1.mram.bad.filter (· ≠ a / 8) ++ [a / 8] } }

theorem execScrubBurst_bad {s : State} (h : (s.journalWaits = false ∧ s.storeQ = []) ∨ 62 ≤ s.flow.bursts) (a : Word) :
    exec (.scrubBurst (some a)) s = .next ((s.foundBad a.toNat).report 0xA8 0 2 [BitVec.ofNat 32 a.toNat] 14 52) := by
  rw [← State.scrubGranted_iff] at h
  exact if_neg (by simp [h])

/-- What becomes invalid with the word at an offset: the journal record or the audit entry it belongs to, and no other (16 Table 16-1). -/
theorem State.spoil_mram (s : State) (a : Nat) :
    (s.spoil a).mram.bad = s.mram.bad ∧
    (s.spoil a).mram.journal = (if a < 0x100000 then tset none s.mram.journal (a / 128) none else s.mram.journal) ∧
    (0x100000 ≤ a → a < 0x180000 → (s.spoil a).mram.audit = tset [] s.mram.audit ((a - 0x100000) / 64) []) := by
  have marked (u : State) (m b : Nat) : (u.markChanged m b).mram = u.mram :=
    (State.markChanged_evolves (ps := [.lpos]) rfl u m b (.refl u)).changes.at (p := .mram) (by decide)
  unfold State.spoil
  split
  · next h => rw [marked]; exact ⟨rfl, rfl, fun k => absurd h (Nat.not_lt.mpr k)⟩
  · split
    · rw [marked]; exact ⟨rfl, rfl, fun _ _ => rfl⟩
    · next h => exact ⟨rfl, rfl, fun _ k => absurd k h⟩

theorem State.foundBad_mram (s : State) (a : Nat) :
    (s.foundBad a).mram.bad.contains (a / 8) = true ∧
    (∀ b, s.mram.bad.contains b = true → (s.foundBad a).mram.bad.contains b = true) ∧
    (a < 0x100000 → tget none (s.foundBad a).mram.journal (a / 128) = none) ∧
    (0x100000 ≤ a → a < 0x180000 → (s.foundBad a).auditAt ((a - 0x100000) / 64) = []) ∧
    ∀ p, a / 128 ≠ p → tget none (s.foundBad a).mram.journal p = tget none s.mram.journal p := by
  obtain ⟨bad, journal, audit⟩ := ({ s with flow := { s.flow with bursts := 0 } } : State).spoil_mram a
  have badAfter : (s.foundBad a).mram.bad = s.mram.bad.filter (· ≠ a / 8) ++ [a / 8] := by rw [← bad]; rfl
  have journalAfter : (s.foundBad a).mram.journal = if a < 0x100000 then tset none s.mram.journal (a / 128) none else s.mram.journal := journal
  refine ⟨by simp [badAfter], fun b hb => ?_, fun ha => ?_, fun h0 h1 => ?_, fun p hp => ?_⟩
  · rw [badAfter]
    by_cases hab : b = a / 8
    · simp [hab]
    · simpa [hab] using hb
  · rw [journalAfter, if_pos ha, tget_tset_same]
  · exact (congrArg (fun t => tget [] t ((a - 0x100000) / 64)) (audit h0 h1)).trans (tget_tset_same _ _ _ _)
  · rw [journalAfter]
    split
    · exact tget_tset_ne _ _ _ _ _ (Ne.symm hp)
    · rfl

/-- The count of bursts and the list of bad words may change without any other part. -/
theorem State.bursts_evolves {l : List Part} (s : State) (n : Nat) (hl : Part.sub [.flow] l = true) :
    Evolves l s { s with flow := { s.flow with bursts := n } } :=
  .raw (.refl s) rfl rfl rfl ⟨rfl, fun p => by
    cases p
    case flow => exact .inl (Part.sub_mem hl (by decide))
    all_goals exact .inr rfl⟩ id

theorem State.badWords_evolves {l : List Part} (s : State) (b : List Nat) (hl : Part.sub [.mram] l = true) :
    Evolves l s { s with mram := { s.mram with bad := b } } :=
  .raw (.refl s) rfl rfl rfl ⟨rfl, fun p => by
    cases p
    case mram => exact .inl (Part.sub_mem hl (by decide))
    all_goals exact .inr rfl⟩ id

theorem State.foundBad_evolves (s : State) (a : Nat) : Evolves [.flow, .mram, .lpos, .audit] s (s.foundBad a) :=
  (State.spoil_evolves rfl _ a (s.bursts_evolves 0 rfl)).trans (State.badWords_evolves _ _ rfl)

theorem State.foundBad_bursts (s : State) (a : Nat) : (s.foundBad a).flow.bursts = 0 := by
  have kept := (State.spoil_evolves (ps := [.mram, .lpos, .audit]) rfl ({ s with flow := { s.flow with bursts := 0 } } : State) a (.refl _)).flow_eq
  exact congrArg Flow.bursts kept

theorem scrubBurst_finds {s : State} (h : (s.journalWaits = false ∧ s.storeQ = []) ∨ 62 ≤ s.flow.bursts) (a : Word) :
    Does (.scrubBurst (some a)) s fun t =>
      Posts s t 0xA8 0 2 ∧ t.dev.irqStatus.getLsbD 14 = true ∧ t.mram.bad.contains (a.toNat / 8) = true ∧ t.flow.bursts = 0 ∧
      (∀ b, s.mram.bad.contains b = true → t.mram.bad.contains b = true) ∧
      (a.toNat < 0x100000 → tget none t.mram.journal (a.toNat / 128) = none) ∧
      (0x100000 ≤ a.toNat → a.toNat < 0x180000 → t.auditAt ((a.toNat - 0x100000) / 64) = []) ∧
      (∀ p, a.toNat / 128 ≠ p → tget none t.mram.journal p = tget none s.mram.journal p) ∧
      Changes [.dev, .flow, .mram, .cores, .counts, .lpos, .audit, .out, .pba] s t := by
  have reported := (s.foundBad a.toNat).report_evolves 0xA8 0 2 [BitVec.ofNat 32 a.toNat] 14 52
  have spoiled := s.foundBad_evolves a.toNat
  have mram : ((s.foundBad a.toNat).report 0xA8 0 2 [BitVec.ofNat 32 a.toNat] 14 52).mram = (s.foundBad a.toNat).mram :=
    reported.changes.at (p := .mram) (by decide)
  have dev : (s.foundBad a.toNat).dev = s.dev := spoiled.changes.at (p := .dev) (by decide)
  obtain ⟨bad, stays, journal, audit, others⟩ := s.foundBad_mram a.toNat
  refine ⟨_, execScrubBurst_bad h a, (State.report_posts _ _ _ _ _ _ _).of_dev dev, State.report_status _ _ _ _ _ _ _ (by decide), ?_, ?_, ?_, ?_, ?_, ?_, ?_⟩
  · rw [mram]; exact bad
  · rw [reported.flow_eq]; exact s.foundBad_bursts _
  · rw [mram]; exact stays
  · rw [mram]; exact journal
  · rw [State.auditAt, mram]; exact audit
  · rw [mram]; exact others
  · exact ((spoiled.mono rfl).trans (reported.mono rfl)).changes

/-- The entry hashed next: its chain value and its last 16 bytes change, and no other entry (16 R435, R436). -/
theorem auditHash_chains {s : State} (hb : s.auditBacklog ≠ 0) (hj : s.journalWaits = false) (hs : s.storeQ = [])
    (hw : s.auditLate = true ∨ s.laneNext = none) : Does .auditHash s fun t =>
      let n := s.mram.auditHashed + 1
      let h := beBytes (Config.sha384 (s.auditLink (n - 1) ++ (s.auditAt (auditPos n)).take 48)).toNat 48
      t.mram.auditHashed = n ∧ t.mram.auditHash = h ∧ t.auditAt (auditPos n) = padTo 48 (s.auditAt (auditPos n)) ++ h.take 16 ∧
      (∀ p, p ≠ auditPos n → t.auditAt p = s.auditAt p) ∧ Changes [.mram, .cores, .lpos, .audit] s t := by
  have mram : s.auditHashNext.mram = s.hashOldest.mram := (State.auditHashNext_of_hashOldest hb).changes.at (p := .mram) (by decide)
  refine ⟨_, execAuditHash_hashes hj hs hw, ?_⟩
  dsimp only
  simp only [State.auditAt, mram]
  exact ⟨rfl, rfl, tget_tset_same _ _ _ _, fun p hp => tget_tset_ne _ _ _ _ _ hp, (State.auditHashNext_evolves rfl s (.refl s)).changes⟩

/-! The verification and the dictionary's view of the chain. -/

theorem ecdsaVerify_waits {s : State} (hb : s.crypto.busy = false) (k : Fin 4) : exec (.ecdsaVerify k) s = .next (s.cryGo 4) :=
  congrArg Host.Outcome.next (State.startCrypto_go hb (by decide))

/-- Settles O58: each operation by its key and its ranges, the chain and scrub by the state before what they report. -/
theorem cryptoAndAudit : Obligations.CryptoAndAudit := by
  intro s hwf c src fits sec runs
  obtain ⟨noCtr, noCmac, noSha, noKcv⟩ := State.cryResult_none (s := s)
  refine ⟨fun k => ⟨fun hb => ?_, fun hb => ⟨fun h0 ht => ⟨fun hf => ?_, fun hf => ?_, fun hf => ?_⟩, fun h0 ht hf => ?_, fun hk => ⟨?_, ?_⟩,
      fun hk => ?_, fun hf => ?_, fun hf => ?_, fun hf => ?_, fun hf => ?_, fun hf => ?_, ?_⟩, fun h => execRngRead_failed h k,
      fun h => ⟨_, execRngRead_draws h k, rfl, rfl, rfl, rngRead_changes s _ _⟩⟩,
    aesCtr_aesCtr, aesCmac_length, execCryptoDone_waits, fun hb hl h => ⟨fun l hr => cryptoDone_stores hb hl h hr, cryptoDone_fails hb hl h⟩,
    execAuditHash_waits, rfl, fun n hn => if_neg hn, ⟨rfl, rfl⟩, auditHash_chains, fun code => ⟨fun h => execRngFail_again h code, fun h => rngFail_reports h code⟩,
    execScrubBurst_refused, fun h => ⟨execScrubBurst_clean h, scrubBurst_finds h⟩⟩
  · intro i hi
    simp only [List.mem_cons, List.not_mem_nil, or_false] at hi
    rcases hi with rfl | rfl | rfl | rfl | rfl <;> exact congrArg Host.Outcome.next (State.startCrypto_busy hb _)
  · exact startCrypto_runs rfl hb (by rw [State.cryResult_ctr hf, State.cryKey_aes h0 ht]; rfl)
  · exact startCrypto_runs rfl hb (by rw [State.cryResult_cmac hf, State.cryKey_aes h0 ht]; rfl)
  · exact startCrypto_runs rfl hb (by rw [State.cryResult_kcv hf, State.cryKey_aes h0 ht]; rfl)
  · exact startCrypto_runs rfl hb (by rw [State.cryResult_kcv hf, State.cryKey_pair h0 ht]; rfl)
  · exact startCrypto_runs rfl hb (noCtr (.inl (State.cryKey_none hk)))
  · exact startCrypto_runs rfl hb (noCmac (.inl (State.cryKey_none hk)))
  · exact startCrypto_runs rfl hb (noKcv (.inl (State.cryKey_kcv_none hk)))
  · exact startCrypto_runs rfl hb (State.cryResult_sha hf)
  · exact startCrypto_runs rfl hb (noCtr (.inr hf))
  · exact startCrypto_runs rfl hb (noCmac (.inr hf))
  · exact startCrypto_runs rfl hb (noSha hf)
  · exact startCrypto_runs rfl hb (noKcv (.inr hf))
  · refine ⟨_, ecdsaVerify_waits hb k, rfl, rfl, rfl, ?_, rfl⟩
    exact (State.cryGo_evolves rfl s 4 (.refl s)).changes

end Sys2Proof.Machine
end

section
/-! PROOFS of the activation family: what its commands share. Frames of an operation on one slot, and what staging or taking up a divider leaves of a
slot (02 R56, 09 R256). -/

namespace Sys2Proof.Machine

/-! Chains of operations that change some parts at most. -/

section
variable {l : List Part} {s t : State} (h : Evolves l s t)
include h

theorem Evolves.modSlot (i : Nat) (f : Slot → Slot) (hl : Part.sub [.slots] l = true) : Evolves l s (t.modSlot i f) :=
  State.modSlot_evolves hl t i f h

theorem Evolves.modPolder (p : Nat) (f : Polder → Polder) (hl : Part.sub [.polders] l = true) : Evolves l s (t.modPolder p f) :=
  State.modPolder_evolves hl t p f h

theorem Evolves.elapseTo (n : Nat) (hl : Part.sub [.now, .timers, .tide, .cores] l = true) : Evolves l s (t.elapseTo n) :=
  State.elapseTo_evolves hl t n h

end

theorem Evolves.now_eq {l : List Part} {s t : State} (h : Evolves l s t) (hl : Part.now ∉ l) : t.now = s.now := h.changes.at hl

theorem Evolves.boot_eq {l : List Part} {s t : State} (h : Evolves l s t) (hl : Part.boot ∉ l) : t.boot = s.boot := h.changes.at hl

/-- A command of slot i completes with what it does and leaves every other slot alone. -/
theorem does_of_slot {c : Instr} {i : Fin 64} {s t : State} {P : State → Prop} (hc : slotOfCommand c = some i) (he : exec c s = .next t)
    (hP : OtherSlots i s t → P t) : Does c s P := ⟨t, he, hP (exec_leaves c i s hc t he)⟩

/-! What the card clock leaves of a slot. -/

theorem Slot.takeTrim_eq (x : Slot) (t : Nat) : ∃ r p, x.takeTrim t = { x with seq := { x.seq with clkRef := r }, temp := p } := by
  unfold Slot.takeTrim
  split
  · split
    · exact ⟨_, _, rfl⟩
    · exact ⟨x.seq.clkRef, x.temp, rfl⟩
  · exact ⟨x.seq.clkRef, x.temp, rfl⟩

theorem Slot.takeUp_eq (x : Slot) (t : Nat) :
    ∃ n r d p, x.takeUp t = { x with seq := { x.seq with div := n, clkRef := r, divNext := d }, temp := p } := by
  have trimmed : ∃ n r d p, x.takeTrim t = { x with seq := { x.seq with div := n, clkRef := r, divNext := d }, temp := p } := by
    obtain ⟨r, p, e⟩ := x.takeTrim_eq t
    exact ⟨x.seq.div, r, x.seq.divNext, p, e⟩
  unfold Slot.takeUp
  split
  · next n _ =>
    split
    · obtain ⟨r, p, e⟩ := x.takeTrim_eq x.seq.divAt
      dsimp only
      rw [e]
      obtain ⟨r', p', e'⟩ := Slot.takeTrim_eq _ t
      exact ⟨_, _, _, _, e'⟩
    · exact trimmed
  · exact trimmed

theorem Slot.stageDiv_eq (x : Slot) (t n : Nat) :
    ∃ m r d a p, x.stageDiv t n = { x with seq := { x.seq with div := m, clkRef := r, divNext := d, divAt := a }, temp := p } := by
  obtain ⟨m, r, d, p, e⟩ := x.takeUp_eq t
  unfold Slot.stageDiv
  rw [e]
  dsimp only
  split
  · split
    · exact ⟨_, _, _, x.seq.divAt, _, rfl⟩
    · exact ⟨_, _, _, _, _, rfl⟩
  · exact ⟨_, _, _, x.seq.divAt, _, rfl⟩

theorem Slot.stopClk_eq (x : Slot) (t : Nat) (level : Bool) : ∃ n r d p,
    x.stopClk t level = { x with seq := { x.seq with div := n, clkRef := r, divNext := d, clkRun := false, stopLevel := level }, temp := p } := by
  obtain ⟨n, r, d, p, e⟩ := x.takeUp_eq t
  unfold Slot.stopClk
  rw [e]
  exact ⟨_, _, _, _, rfl⟩

end Sys2Proof.Machine
end

section
/-! PROOFS of the activation family: the steps of a deactivation and of a quench (02 R59, 03 R69, Table 3-3). -/

namespace Sys2Proof.Machine

/-! When the next step is due. -/

section
variable {q : SlotSeq} (hs : q.steps < 4)
include hs

theorem SlotSeq.quenchOffset : [192, 432, 672, 912].getD q.steps 0 = 192 + 240 * q.steps := by
  generalize q.steps = k at hs
  interval_cases k <;> rfl

theorem SlotSeq.deactOffset : [0, 10 * us, 20 * us, 30 * us].getD q.steps 0 = 4800 * q.steps := by
  generalize q.steps = k at hs
  interval_cases k <;> rfl

theorem SlotSeq.stepDue_deact {t0 : Nat} (hd : q.deactT0 = some t0) (hq : q.quenchT0 = none) : q.stepDue = some (t0 + 4800 * q.steps) := by
  simp only [SlotSeq.stepDue, hd, hq, Option.map_some, Option.map_none, SlotSeq.deactOffset hs, if_neg (Nat.not_le.mpr hs)]

theorem SlotSeq.stepDue_quench {t0 : Nat} (hq : q.quenchT0 = some t0) (hd : q.deactT0 = none) : q.stepDue = some (t0 + 192 + 240 * q.steps) := by
  simp only [SlotSeq.stepDue, hd, hq, Option.map_some, Option.map_none, SlotSeq.quenchOffset hs, if_neg (Nat.not_le.mpr hs), Nat.add_assoc]

theorem SlotSeq.stepDue_both {t0 t1 : Nat} (hq : q.quenchT0 = some t0) (hd : q.deactT0 = some t1) :
    q.stepDue = some (min (t0 + 192 + 240 * q.steps) (t1 + 4800 * q.steps)) := by
  simp only [SlotSeq.stepDue, hd, hq, Option.map_some, SlotSeq.quenchOffset hs, SlotSeq.deactOffset hs, if_neg (Nat.not_le.mpr hs), Nat.add_assoc]

end

/-! The steps themselves. -/

section
variable {x : Slot} (now : Nat)

theorem Slot.doStep_zero (h : x.seq.steps = 0) : x.doStep now = { x with seq := { x.seq with steps := 1, rst := false } } := by
  simp only [Slot.doStep, h]

theorem Slot.doStep_one (h : x.seq.steps = 1) : ∃ n r d p, x.doStep now = { x with
    seq := { x.seq with steps := 2, div := n, clkRef := r, divNext := d, clkRun := false, stopLevel := false }, temp := p } := by
  obtain ⟨n, r, d, p, e⟩ := x.stopClk_eq now false
  exact ⟨n, r, d, p, by simp only [Slot.doStep, h, e]⟩

theorem Slot.doStep_two (h : x.seq.steps = 2) : x.doStep now = { x with seq := { x.seq with steps := 3, ioUp := false, ioHold := none } } := by
  simp only [Slot.doStep, h]

theorem Slot.doStep_three (h : x.seq.steps = 3) :
    x.doStep now = { x with seq := { x.seq with steps := 4, vcc := .disch, sinkReq := some now, sinkOn := none } } := by
  simp only [Slot.doStep, h]

end

/-- Slot i takes the step that is due, at the time t.now, and nothing else of the device changes but what time changes. -/
def StepTaken (i : Nat) (s t : State) : Prop := t.slot i = (s.slot i).doStep t.now ∧ Changes [.now, .slots, .timers, .tide, .cores] s t

theorem State.stepAt_taken {s u : State} {i : Nat} (h : Evolves [.now, .timers, .tide, .cores] s u) :
    StepTaken i s (u.modSlot i fun x => x.doStep u.now) := by
  refine ⟨?_, ((h.mono (m := [.now, .slots, .timers, .tide, .cores]) rfl).modSlot i _ rfl).changes⟩
  rw [State.modSlot_slot, h.slot_eq (by decide), State.modSlot_at_now]

section
variable {s : State} {i : Fin 64}

theorem execDeactStep_due {d : Nat} (hst : (s.slot i).st ≠ .quenching) (ht : (s.slot i).seq.deactT0.isSome) (hd : (s.slot i).seq.stepDue = some d) :
    ∃ t, exec (.deactStep i) s = .next t ∧ StepTaken i s t ∧ t.now =
      if (s.slot i).seq.steps = 1 ∧ (s.slot i).seq.clkRun = true then max (max s.now d) ((s.slot i).nextFall (max s.now d - 1)) else max s.now d := by
  have due : Evolves [.now, .timers, .tide, .cores] s (s.elapseTo d) := (Evolves.refl s).elapseTo d rfl
  simp only [exec, execDeactStep, hd]
  rw [if_pos ⟨hst, ht⟩]
  by_cases hc : (s.slot i).seq.steps = 1 ∧ (s.slot i).seq.clkRun = true
  · simp only [hc, decide_true, Bool.and_self, if_true]
    exact ⟨_, rfl, State.stepAt_taken (due.elapseTo _ rfl), by simp⟩
  · have : (decide ((s.slot i).seq.steps = 1) && (s.slot i).seq.clkRun) = false := by simpa using hc
    simp only [this, if_neg hc, Bool.false_eq_true, if_false]
    exact ⟨_, rfl, State.stepAt_taken due, by simp⟩

theorem execQuenchStep_due {d : Nat} (hst : (s.slot i).st = .quenching) (hd : (s.slot i).seq.stepDue = some d) :
    ∃ t, exec (.quenchStep i) s = .next t ∧ StepTaken i s t ∧ t.now = max s.now d := by
  simp only [exec, execQuenchStep, hd]
  rw [if_pos hst]
  exact ⟨_, rfl, State.stepAt_taken ((Evolves.refl s).elapseTo d rfl), by simp⟩

end

/-- Settles O17, by the time at which the next step is due and what that step does to its slot. -/
theorem shutdownSteps : Obligations.ShutdownSteps := by
  intro s i x does
  have taken {t : State} (h : StepTaken i s t) (ho : OtherSlots i s t) : does t := by
    obtain ⟨hx, hc⟩ := h
    refine ⟨fun h0 => hx.trans (Slot.doStep_zero _ h0), fun h1 => ?_, fun h2 => hx.trans (Slot.doStep_two _ h2),
      fun h3 => hx.trans (Slot.doStep_three _ h3), ho, hc⟩
    obtain ⟨n, r, d, p, e⟩ := Slot.doStep_one t.now h1
    rw [hx, e]
    exact ⟨rfl, rfl, rfl, rfl, rfl, rfl, rfl, rfl⟩
  refine ⟨fun t0 hst hd hq hs => ?_, fun t0 hst hq hd hs => ?_, fun t0 t1 hst hq hd hs => ?_⟩
  · obtain ⟨t, he, ht, hn⟩ := execDeactStep_due hst (by rw [hd]; rfl) (SlotSeq.stepDue_deact hs hd hq)
    refine does_of_slot rfl he fun ho => ⟨fun hc => ?_, fun h1 hr => ?_, taken ht ho⟩
    · rw [hn, if_neg]
      rintro ⟨h1, hr⟩
      exact hc.elim (absurd h1) (by simp [x, hr])
    · rw [hn, if_pos ⟨h1, hr⟩, show (s.slot i).seq.steps = 1 from h1]
  · obtain ⟨t, he, ht, hn⟩ := execQuenchStep_due hst (SlotSeq.stepDue_quench hs hq hd)
    exact does_of_slot rfl he fun ho => ⟨hn, taken ht ho⟩
  · obtain ⟨t, he, ht, hn⟩ := execQuenchStep_due hst (SlotSeq.stepDue_both hs hq hd)
    exact does_of_slot rfl he fun ho => ⟨hn, taken ht ho⟩

end Sys2Proof.Machine
end

section
/-! PROOFS of the activation family: the end of a discharge, the discharge arbiter, its time limit and a leak (02 R38, R60, 03 R70, R71, R73, R80, R86). -/

namespace Sys2Proof.Machine

/-! VCC below 0.4 V. -/

/-- The sequencers of a slot whose VCC falls below 0.4 V at ck n, before what its state and phase make of it. -/
def SlotSeq.fallen (q : SlotSeq) (n : Nat) : SlotSeq :=
  { q with vcc := .off, rst := false, clkRun := false, ioUp := false, discharging := false, deactT0 := none, quenchT0 := none, steps := 0,
           sinkReq := none, sinkOn := none, timedOut := false, cls := none, gapFrom := some n, leaking := false, leakSeen := false, ioHold := none
           divNext := none }

/-- A slot whose VCC falls below 0.4 V at ck n, the tide at v. -/
def Slot.fallen (x : Slot) (n v : Nat) : Slot :=
  if x.st = .quenching then
    { x with st := x.afterQuench, temp := x.temp.restart x.regs.cfg
             seq := { x.seq.fallen n with toPark := false, parkPend := false, deactPend := false } }
  else if x.seq.phase = .classChange then
    { x with temp := x.temp.restart x.regs.cfg, seq := { x.seq.fallen n with phase := .wait, askedAt := v } }
  else { x with temp := x.temp.restart x.regs.cfg, seq := x.seq.fallen n }

section
variable {s : State} {i : Fin 64}

theorem execVccBelow04_falls (hv : (s.slot i).seq.vcc = .disch) (hg : (s.slot i).seq.sinkOn.isSome) :
    exec (.vccBelow04 i) s = .next (s.modSlot i fun x => x.fallen s.now s.ltide.toNat) := by
  simp only [exec, execVccBelow04]
  rw [if_neg (by simp [hv]), if_pos ⟨hv, hg⟩]
  rfl

theorem execVccBelow04_leakEnds (hl : (s.slot i).seq.leaking = true) (hv : (s.slot i).seq.vcc = .off) : exec (.vccBelow04 i) s =
    .next (s.modSlot i fun x => { x with seq := { x.seq with leaking := false, leakSeen := false, gapFrom := some s.now } }) := by
  simp only [exec, execVccBelow04]
  rw [if_pos ⟨hl, hv⟩]

end

/-- What holds of a fallen slot in every state and phase. -/
theorem Slot.fallen_rest (x : Slot) (n v : Nat) :
    (x.fallen n v).regs = x.regs ∧ (x.fallen n v).temp = x.temp.restart x.regs.cfg ∧
      (x.fallen n v).st = (if x.st = .quenching then x.afterQuench else x.st) ∧
      ∃ p a k d b, (x.fallen n v).seq = { x.seq.fallen n with phase := p, askedAt := a, toPark := k, deactPend := d, parkPend := b } := by
  unfold Slot.fallen
  split
  · exact ⟨rfl, rfl, rfl, x.seq.phase, x.seq.askedAt, _, _, _, rfl⟩
  · split
    · exact ⟨rfl, rfl, rfl, _, _, x.seq.toPark, x.seq.deactPend, x.seq.parkPend, rfl⟩
    · exact ⟨rfl, rfl, rfl, x.seq.phase, x.seq.askedAt, x.seq.toPark, x.seq.deactPend, x.seq.parkPend, rfl⟩

theorem Slot.fallen_classChange {x : Slot} (hst : x.st ≠ .quenching) (hp : x.seq.phase = .classChange) (n v : Nat) :
    (x.fallen n v).seq.phase = .wait := by
  simp only [Slot.fallen, if_neg hst, if_pos hp]

theorem Slot.afterQuench_eq (x : Slot) : x.afterQuench = if x.seq.toPark || x.seq.parkPend then .parked else if !x.seq.pres then .empty
    else if x.regs.also &&& 0x63E#11 ≠ 0#11 then .fault else .present := by
  simp [Slot.afterQuench, isFaultCause]

/-! The discharge arbiter. -/

/-- The older of the request taken so far and the one that waits on slot i. -/
def State.olderSink (s : State) (m : Option (Nat × Nat)) (i : Nat) : Option (Nat × Nat) :=
  match (s.slot i).sinkWaits, m with
  | some t, some (t0, j) => if t < t0 then some (t, i) else some (t0, j)
  | some t, none => some (t, i)
  | none, m => m

theorem State.oldestSink_eq (s : State) : s.oldestSink = (List.range 64).foldl s.olderSink none := rfl

theorem State.olderSink_le (s : State) (m : Option (Nat × Nat)) (i : Nat) :
    (∀ a ∈ m, ∃ b ∈ s.olderSink m i, b.1 ≤ a.1) ∧ ∀ t, (s.slot i).sinkWaits = some t → ∃ b ∈ s.olderSink m i, b.1 ≤ t := by
  unfold State.olderSink
  split
  · next t t0 j ht =>
    split
    · next hlt => exact ⟨by rintro a ⟨⟩; exact ⟨_, rfl, hlt.le⟩, by rintro u hu; rw [ht] at hu; cases hu; exact ⟨_, rfl, Nat.le_refl _⟩⟩
    · next hlt => exact ⟨by rintro a ⟨⟩; exact ⟨_, rfl, Nat.le_refl _⟩, by rintro u hu; rw [ht] at hu; cases hu; exact ⟨_, rfl, Nat.not_lt.mp hlt⟩⟩
  · next t ht => exact ⟨by rintro a ⟨⟩, by rintro u hu; rw [ht] at hu; cases hu; exact ⟨_, rfl, Nat.le_refl _⟩⟩
  · next ht => exact ⟨fun a ha => ⟨a, ha, Nat.le_refl _⟩, by rintro u hu; rw [ht] at hu; cases hu⟩

/-- The request a fold over slots ends with is none younger than the one it began with, nor than any that waits on those slots. -/
theorem State.olderSink_foldl (s : State) (l : List Nat) (m : Option (Nat × Nat)) :
    (∀ a ∈ m, ∃ b ∈ l.foldl s.olderSink m, b.1 ≤ a.1) ∧
      ∀ i ∈ l, ∀ t, (s.slot i).sinkWaits = some t → ∃ b ∈ l.foldl s.olderSink m, b.1 ≤ t := by
  induction l generalizing m with
  | nil => exact ⟨fun a ha => ⟨a, ha, Nat.le_refl _⟩, by simp⟩
  | cons k l ih =>
    obtain ⟨began, met⟩ := ih (s.olderSink m k)
    obtain ⟨kept, here⟩ := s.olderSink_le m k
    refine ⟨fun a ha => ?_, fun i hi t ht => ?_⟩
    · obtain ⟨b, hb, hba⟩ := kept a ha
      obtain ⟨c, hc, hcb⟩ := began b hb
      exact ⟨c, hc, hcb.trans hba⟩
    · rcases List.mem_cons.mp hi with rfl | hi
      · obtain ⟨b, hb, hbt⟩ := here t ht
        obtain ⟨c, hc, hcb⟩ := began b hb
        exact ⟨c, hc, hcb.trans hbt⟩
      · exact met i hi t ht

theorem State.oldestSink_le {s : State} {t0 j : Nat} (h : s.oldestSink = some (t0, j)) {k : Nat} (hk : k < 64) {u : Nat}
    (hu : (s.slot k).sinkWaits = some u) : t0 ≤ u := by
  obtain ⟨b, hb, hle⟩ := (s.olderSink_foldl (List.range 64) none).2 k (List.mem_range.mpr hk) u hu
  rw [← State.oldestSink_eq, h] at hb
  cases hb
  exact hle

theorem State.oldestSink_congr {s t : State} (h : t.slots = s.slots) : t.oldestSink = s.oldestSink := by
  simp only [State.oldestSink, State.slot, h]

/-- The sink of slot i engages at ck n, where its request waits. -/
def engageSink (n : Nat) (s : State) (i : Nat) : State :=
  if (s.slot i).sinkWaits.isSome then s.modSlot i fun x => { x with seq := { x.seq with sinkOn := some n } } else s

/-- The arbiter's grant at the present ck is noted. -/
def State.noteGrant (s : State) : State := { s with boot := { s.boot with sinkGrant := some s.now } }

section
variable (n : Nat) (s : State)

theorem engageSink_slot_ne (i j : Nat) (h : j ≠ i) : (engageSink n s i).slot j = s.slot j := by
  unfold engageSink
  split
  · exact State.modSlot_slot_ne _ _ _ _ h
  · rfl

theorem engageSink_slot (i : Nat) : (engageSink n s i).slot i =
    if (s.slot i).sinkWaits.isSome then { s.slot i with seq := { (s.slot i).seq with sinkOn := some n } } else s.slot i := by
  unfold engageSink
  split
  · exact State.modSlot_slot _ _ _
  · rfl

/-- The sinks of a list of slots engage where their requests wait, and no other slot changes. -/
theorem engageAll_slot (l : List Nat) (hl : l.Nodup) (k : Nat) : (s.forEach l (engageSink n)).slot k =
    if k ∈ l ∧ (s.slot k).sinkWaits.isSome then { s.slot k with seq := { (s.slot k).seq with sinkOn := some n } } else s.slot k := by
  induction l generalizing s with
  | nil => simp [State.forEach]
  | cons i l ih =>
    obtain ⟨hi, hl⟩ := List.nodup_cons.mp hl
    have step : (s.forEach (i :: l) (engageSink n)).slot k = ((engageSink n s i).forEach l (engageSink n)).slot k := rfl
    rw [step, ih (engageSink n s i) hl]
    by_cases hk : k = i
    · subst hk
      rw [if_neg (by simp [hi]), engageSink_slot]
      simp
    · rw [engageSink_slot_ne n s i k hk]
      simp [hk]

theorem engageAll_evolves (l : List Nat) : Evolves [.slots] s (s.forEach l (engageSink n)) := by
  refine foldl_evolves _ l (.refl s) fun u i => ?_
  unfold engageSink
  split
  · exact (Evolves.refl u).modSlot i _ rfl
  · exact .refl u

end

theorem State.engageSinks_eq (s : State) (p : Nat) : s.engageSinks p = s.noteGrant.forEach ((List.range 8).map (8 * p + ·)) (engageSink s.now) := by
  unfold State.engageSinks State.noteGrant engageSink
  with_reducible rfl

theorem State.engageSinks_boot (s : State) (p : Nat) : (s.engageSinks p).boot = { s.boot with sinkGrant := some s.now } := by
  rw [State.engageSinks_eq]
  exact (engageAll_evolves s.now s.noteGrant _).boot_eq (by decide)

theorem mem_slotsOfPolder_iff (p k : Nat) : k ∈ (List.range 8).map (8 * p + ·) ↔ k / 8 = p := by
  simp only [List.mem_map, List.mem_range]
  constructor
  · rintro ⟨a, ha, rfl⟩; omega
  · rintro rfl; exact ⟨k % 8, Nat.mod_lt _ (by omega), by omega⟩

theorem State.engageSinks_slot (s : State) (p k : Nat) : (s.engageSinks p).slot k =
    if k / 8 = p ∧ (s.slot k).sinkWaits.isSome then { s.slot k with seq := { (s.slot k).seq with sinkOn := some s.now } } else s.slot k := by
  have distinct : ((List.range 8).map (8 * p + ·)).Nodup := List.nodup_range.map fun a b h => by simpa using h
  rw [State.engageSinks_eq, engageAll_slot _ _ _ distinct]
  simp only [mem_slotsOfPolder_iff]
  rfl

theorem execDischargeGrant_none {s : State} (h : s.oldestSink = none) : exec .dischargeGrant s = .next s := by
  simp only [exec, execDischargeGrant, h]

theorem execDischargeGrant_some {s : State} {t0 j : Nat} (h : s.oldestSink = some (t0, j)) :
    exec .dischargeGrant s = .next ((s.elapseSince s.boot.sinkGrant 120).engageSinks (j / 8)) := by
  have still : (s.elapseSince s.boot.sinkGrant 120).oldestSink = some (t0, j) :=
    (State.oldestSink_congr (State.elapseSince_slots _ _ _)).trans h
  simp only [exec, execDischargeGrant, h, still]

theorem State.elapseSince_at_slot (s : State) (o : Option Nat) (d i : Nat) : (s.elapseSince o d).slot i = s.slot i := by
  simp only [State.slot, State.elapseSince_slots]

/-- The grant: at the window after the last one every waiting slot of the polder of the oldest request engages its sink (03 R70). -/
theorem dischargeGrant_engages {s : State} {t0 j : Nat} (h : s.oldestSink = some (t0, j)) : Does .dischargeGrant s fun t =>
    (∀ g, s.boot.sinkGrant = some g → t.now = max s.now (g + 120)) ∧ (s.boot.sinkGrant = none → t.now = s.now) ∧
    t.boot = { s.boot with sinkGrant := some t.now } ∧
    (∀ k < 64, k / 8 = j / 8 → (s.slot k).sinkWaits.isSome = true →
      t.slot k = { s.slot k with seq := { (s.slot k).seq with sinkOn := some t.now } }) ∧
    (∀ k, k / 8 ≠ j / 8 ∨ (s.slot k).sinkWaits = none → t.slot k = s.slot k) ∧ Changes [.now, .slots, .timers, .tide, .cores, .boot] s t := by
  have waited : Evolves [.now, .timers, .tide, .cores] s (s.elapseSince s.boot.sinkGrant 120) := State.elapseSince_evolves rfl _ _ _ (.refl s)
  have engaged : Evolves [.slots, .boot] _ ((s.elapseSince s.boot.sinkGrant 120).engageSinks (j / 8)) := State.engageSinks_evolves rfl _ _ (.refl _)
  refine ⟨_, execDischargeGrant_some h, fun g hg => ?_, fun hg => ?_, ?_, fun k _ hk hw => ?_, fun k hk => ?_, ?_⟩
  · rw [engaged.now_eq (by decide), hg, State.elapseSince_some_now]
  · rw [engaged.now_eq (by decide), hg]; rfl
  · rw [State.engageSinks_boot, waited.boot_eq (by decide), engaged.now_eq (by decide)]
  · rw [State.engageSinks_slot, engaged.now_eq (by decide), State.elapseSince_at_slot, if_pos ⟨hk, hw⟩]
  · rw [State.engageSinks_slot, State.elapseSince_at_slot, if_neg]
    rintro ⟨hp, hw⟩
    exact hk.elim (· hp) (fun hn => by simp [hn] at hw)
  · exact ((waited.mono rfl).trans (engaged.mono rfl)).changes

/-! The time limit of a discharge, and a leak: each sets its flag, counts and posts its event (03 R73, R80, R93). -/

@[simp] theorem State.bump_slot (s : State) (i c j : Nat) : (s.bump i c).slot j = s.slot j := rfl
@[simp] theorem State.bump_count (s : State) (i c : Nat) : (s.bump i c).count i c = satInc (s.count i c) := tget_tset_same _ _ _ _

/-- Slot i becomes f of what it was, count c of it rises, and the event of a type is posted. -/
def State.flagEvent (s : State) (i : Nat) (f : Slot → Slot) (c typ : Nat) : State := ((s.modSlot i f).bump i c).post typ i 0

section
variable (s : State) (i c typ : Nat) (f : Slot → Slot)

theorem State.flagEvent_posts : Evolves [.dev, .counts, .out, .pba] ((s.modSlot i f).bump i c) (s.flagEvent i f c typ) :=
  State.post_evolves rfl _ _ _ _ _ (.refl _)

theorem State.flagEvent_evolves : Evolves [.slots, .dev, .telemetry, .counts, .out, .pba] s (s.flagEvent i f c typ) :=
  (State.bump_evolves rfl _ _ _ ((Evolves.refl s).modSlot i f rfl)).trans ((s.flagEvent_posts i c typ f).mono rfl)

theorem State.flagEvent_slot : (s.flagEvent i f c typ).slot i = f (s.slot i) := by
  rw [(s.flagEvent_posts i c typ f).slot_eq (by decide), State.bump_slot, State.modSlot_slot]

theorem State.flagEvent_tide : (s.flagEvent i f c typ).ltide = s.ltide :=
  congrArg TideUnit.val ((s.flagEvent_posts i c typ f).changes.at (p := .tide) (by decide))

theorem State.flagEvent_count : (s.flagEvent i f c typ).count i c = min (s.count i c + 1) 0xFFFFFFFF := by
  have same : (s.flagEvent i f c typ).telemetry = ((s.modSlot i f).bump i c).telemetry :=
    (s.flagEvent_posts i c typ f).changes.at (p := .telemetry) (by decide)
  rw [State.count, same]
  exact State.bump_count _ i c

theorem State.flagEvent_evq (h : s.dev.evq.length < 256) : (s.flagEvent i f c typ).dev.evq =
    s.dev.evq ++ [{ typ := typ, source := i, code := 0, tide := (s.flagEvent i f c typ).ltide, data := [] }] := by
  rw [State.flagEvent_tide]
  unfold State.flagEvent State.post State.postEv
  rw [if_pos (show ((s.modSlot i f).bump i c).dev.evq.length < 256 from h)]
  rfl

end

section
variable {s : State} {i : Fin 64}

theorem execDischTimeout_due {g : Nat} (hg : (s.slot i).seq.sinkOn = some g) (hv : (s.slot i).seq.vcc = .disch)
    (ht : (s.slot i).seq.timedOut = false) (hb : s.boot.slotHeld = false) : exec (.dischTimeout i) s = .next ((s.elapseTo (g + 480000)).flagEvent i
      (fun x => { x with regs := { x.regs with dischTimeout := true }, seq := { x.seq with timedOut := true } }) 12 0x11) := by
  simp only [exec, execDischTimeout, hg]
  rw [if_pos (by simp [hv, ht, hb])]
  rfl

/-- The leak stands: VCC reads 0.4 V or more with the regulator off. -/
def Slot.leaks (x : Slot) : Slot := { x with seq := { x.seq with leaking := true } }

theorem execSeepLeak_short (hv : (s.slot i).seq.vcc = .off) (hb : s.boot.slotHeld = false) {q : Bool} (hq : q = true → (s.slot i).seq.leakSeen = true) :
    exec (.seepLeak ⟨i, q⟩) s = .next (s.modSlot i Slot.leaks) := by
  simp only [exec, execSeepLeak]
  rw [if_pos (by simp [hv, hb]), if_neg (by simpa using hq)]
  rfl

theorem execSeepLeak_first (hv : (s.slot i).seq.vcc = .off) (hb : s.boot.slotHeld = false) (hs : (s.slot i).seq.leakSeen = false) :
    exec (.seepLeak ⟨i, true⟩) s = .next ((s.modSlot i Slot.leaks).flagEvent i
      (fun x => { x with regs := { x.regs with seepLeak := true }, seq := { x.seq with leakSeen := true } }) 13 0x12) := by
  simp only [exec, execSeepLeak]
  rw [if_pos (by simp [hv, hb]), if_pos (by simp [hs])]
  rfl

theorem execSeepLeak_none (h : (s.slot i).seq.vcc ≠ .off ∨ s.boot.slotHeld = true) (q : Bool) : exec (.seepLeak ⟨i, q⟩) s = .next s := by
  simp only [exec, execSeepLeak]
  rw [if_neg (by simpa [or_iff_not_imp_left] using h)]

end

/-- Settles O18: the fall by what becomes of the slot, the grant by the least of a fold over the slots, the limit and the leak by the event they post. -/
theorem discharge : Obligations.Discharge := by
  intro s i x event
  refine ⟨fun g hv hg => ?_, execVccBelow04_leakEnds, fun t0 j h => ⟨fun k hk u hu => State.oldestSink_le h hk hu, dischargeGrant_engages h⟩,
    execDischargeGrant_none, fun g hv hg => ?_, fun g hg hv ht hb => ?_, fun hv hb => ⟨?_, fun hs => ?_, fun hs => ?_⟩, execSeepLeak_none⟩
  · refine does_of_slot rfl (execVccBelow04_falls hv (by rw [show (s.slot i).seq.sinkOn = some g from hg]; rfl)) fun ho => ?_
    obtain ⟨hr, htemp, hst, p, a, k, d, b, hq⟩ := Slot.fallen_rest (s.slot i) s.now s.ltide.toNat
    dsimp only
    rw [State.modSlot_slot, hr, htemp, hst, hq, Slot.afterQuench_eq]
    refine ⟨rfl, rfl, rfl, rfl, rfl, rfl, rfl, rfl, rfl, rfl, rfl, rfl, rfl, rfl, rfl, rfl, fun hn hc => ?_, ho,
      ((Evolves.refl s).modSlot i _ rfl).changes⟩
    rw [← hq]
    exact Slot.fallen_classChange hn hc _ _
  · have hs : ((s.slot i).seq.vcc = .disch && (s.slot i).seq.sinkOn.isSome) = true := by
      simp [show (s.slot i).seq.vcc = .disch from hv, show (s.slot i).seq.sinkOn = some g from hg]
    simp only [State.sinkCurrent, hs, if_true]
  · refine does_of_slot rfl (execDischTimeout_due hg hv ht hb) fun ho => ⟨?_, ?_, ?_, fun hr => ?_, ho, ?_⟩
    · rw [(State.flagEvent_evolves _ _ _ _ _).now_eq (by decide), State.elapseTo_now]
    · rw [State.flagEvent_slot, State.elapseTo_at_slot]
    · rw [State.flagEvent_count, State.count, State.elapseTo_telemetry, State.count]
    · rw [State.flagEvent_evq _ _ _ _ _ (by rwa [State.elapseTo_dev]), State.elapseTo_dev]
    · exact (((Evolves.refl s).elapseTo _ rfl).trans ((State.flagEvent_evolves _ _ _ _ _).mono rfl)).changes
  · exact execSeepLeak_short hv hb (by simp)
  · exact execSeepLeak_short hv hb fun _ => hs
  · refine does_of_slot rfl (execSeepLeak_first hv hb hs) fun ho => ⟨?_, ?_, fun hr => ?_, ho, ?_⟩
    · rw [State.flagEvent_slot, State.modSlot_slot]; rfl
    · rw [State.flagEvent_count]; rfl
    · exact State.flagEvent_evq _ _ _ _ _ hr
    · exact ((((Evolves.refl s).modSlot i _ rfl)).trans ((State.flagEvent_evolves _ _ _ _ _).mono rfl)).changes

end Sys2Proof.Machine
end

section
/-! PROOFS of the activation family: SLOT_CTRL words, and slot commands where the card runs no exchange (02 R39, R42, R47, R62, Tables 2-3, 2-10, 07 R191). -/

namespace Sys2Proof.Machine

/-! The bits of a SLOT_CTRL word. -/

theorem bitOf_or (w c : Word) (k : Nat) : bitOf (w ||| c) k = (bitOf w k || bitOf c k) := BitVec.getLsbD_or

theorem slotCmds_eq_zero {w : Word} (h : slotCmds w = 0) :
    bitOf w 0 = false ∧ bitOf w 1 = false ∧ bitOf w 2 = false ∧ bitOf w 4 = false ∧ bitOf w 5 = false ∧ bitOf w 6 = false := by
  have low (b : Bool) (hb : b2n b = 0) : b = false := by cases b <;> simp_all [b2n]
  unfold slotCmds at h
  exact ⟨low _ (by omega), low _ (by omega), low _ (by omega), low _ (by omega), low _ (by omega), low _ (by omega)⟩

/-- A word without a command, with one command bit or cancel bit set, has at most one command. -/
theorem slotCmds_or_le {w : Word} (h : slotCmds w = 0) {c : Word} (hc : slotCmds c ≤ 1) : slotCmds (w ||| c) ≤ 1 := by
  obtain ⟨h0, h1, h2, h4, h5, h6⟩ := slotCmds_eq_zero h
  simpa only [slotCmds, bitOf_or, h0, h1, h2, h4, h5, h6, Bool.false_or] using hc

theorem slotCmds_congr {u v : Word} (h : ∀ k < 7, bitOf v k = bitOf u k) : slotCmds v = slotCmds u := by
  simp only [slotCmds, h 0 (by decide), h 1 (by decide), h 2 (by decide), h 4 (by decide), h 5 (by decide), h 6 (by decide)]

theorem State.slotCommand_congr (s : State) (i : Nat) {u v : Word} (h : ∀ k < 7, bitOf v k = bitOf u k) : s.slotCommand i v = s.slotCommand i u := by
  simp only [State.slotCommand, h 0 (by decide), h 1 (by decide), h 2 (by decide), h 3 (by decide), h 4 (by decide), h 5 (by decide), h 6 (by decide)]

/-! Which command a word is that has one command bit. -/

theorem State.slotCommand_activate (w : Word) (s : State) (i : Nat) : s.slotCommand i (w ||| 1#32) = s.cmdActivate i := by
  simp [State.slotCommand, bitOf_or, show bitOf 1#32 0 = true by decide]

section
variable {w : Word} (h : slotCmds w = 0) (s : State) (i : Nat)
include h

theorem State.slotCommand_warmReset : s.slotCommand i (w ||| 2#32) = s.cmdWarmReset i := by
  obtain ⟨h0, -⟩ := slotCmds_eq_zero h
  simp [State.slotCommand, bitOf_or, h0, show bitOf 2#32 0 = false by decide, show bitOf 2#32 1 = true by decide]

theorem State.slotCommand_deactivate : s.slotCommand i (w ||| 4#32) = s.cmdDeactivate i (bitOf w 3) := by
  obtain ⟨h0, h1, -⟩ := slotCmds_eq_zero h
  simp [State.slotCommand, bitOf_or, h0, h1, show bitOf 4#32 0 = false by decide, show bitOf 4#32 1 = false by decide,
    show bitOf 4#32 2 = true by decide, show bitOf 4#32 3 = false by decide]

theorem State.slotCommand_park : s.slotCommand i (w ||| 16#32) = s.cmdPark i (bitOf w 3) := by
  obtain ⟨h0, h1, h2, -⟩ := slotCmds_eq_zero h
  simp [State.slotCommand, bitOf_or, h0, h1, h2, show bitOf 16#32 0 = false by decide, show bitOf 16#32 1 = false by decide,
    show bitOf 16#32 2 = false by decide, show bitOf 16#32 3 = false by decide, show bitOf 16#32 4 = true by decide]

theorem State.slotCommand_unpark : s.slotCommand i (w ||| 32#32) = s.cmdUnpark i := by
  obtain ⟨h0, h1, h2, h4, -⟩ := slotCmds_eq_zero h
  simp [State.slotCommand, bitOf_or, h0, h1, h2, h4, show bitOf 32#32 0 = false by decide, show bitOf 32#32 1 = false by decide,
    show bitOf 32#32 2 = false by decide, show bitOf 32#32 4 = false by decide, show bitOf 32#32 5 = true by decide]

theorem State.slotCommand_faultClear : s.slotCommand i (w ||| 64#32) = s.cmdFaultClear i := by
  obtain ⟨h0, h1, h2, h4, h5, -⟩ := slotCmds_eq_zero h
  simp [State.slotCommand, bitOf_or, h0, h1, h2, h4, h5, show bitOf 64#32 0 = false by decide, show bitOf 64#32 1 = false by decide,
    show bitOf 64#32 2 = false by decide, show bitOf 64#32 4 = false by decide, show bitOf 64#32 5 = false by decide,
    show bitOf 64#32 6 = true by decide]

/-- A word of cancel bits alone has no command. -/
theorem State.slotCommand_cancel {c : Word} (hc : ∀ k < 7, bitOf c k = false) : s.slotCommand i (w ||| c) = (.none, s) := by
  obtain ⟨h0, h1, h2, h4, h5, h6⟩ := slotCmds_eq_zero h
  simp [State.slotCommand, bitOf_or, h0, h1, h2, h4, h5, h6, hc]

end

/-! The write of SLOT_CTRL. -/

theorem State.granted_of_allows {s : State} {ag : Agent} {g : Nat} (h : s.allows ag g = true) (f : State → State) : s.granted ag g f = f s := by
  cases ag with
  | path p => exact if_pos (by simpa [State.allows] using h)
  | _ => rfl

theorem State.granted_of_grant_zero {s : State} {p : Path} (h : s.grant p = 0) (f : State → State) : s.granted (.path p) 1 f = s.wdeny p :=
  if_neg (by simp [h])

/-- A command's answer is noted in CMD_ERR. -/
def State.answered (i : Nat) (r : CmdErr × State) : State := r.2.slotErr i r.1

/-- The cancel bits of a word act on the schedules of slot i. -/
def State.cancels (s : State) (i : Nat) (w : Word) : State :=
  let s1 := if bitOf w 7 then s.modSlot i fun x => { x with regs := { x.regs with actAtArmed := none } } else s
  if bitOf w 8 then s1.modSlot i fun x => { x with regs := { x.regs with deactAtArmed := none } } else s1

section
variable {s : State} {ag : Agent} (hag : s.allows ag 1 = true)
include hag

theorem State.writeSlotCtrl_multiple (i : Nat) {w : Word} (h : 1 < slotCmds w) : s.writeSlotCtrl ag i w = s.slotErr i .multiple := by
  rw [State.writeSlotCtrl, State.granted_of_allows hag, if_pos h]

theorem State.writeSlotCtrl_one (i : Nat) {w : Word} (h : slotCmds w ≤ 1) : s.writeSlotCtrl ag i w = State.answered i ((s.cancels i w).slotCommand i w) := by
  rw [State.writeSlotCtrl, State.granted_of_allows hag, if_neg (Nat.not_lt.mpr h)]
  rfl

/-- A word with one command and no cancel bit. -/
theorem State.writeSlotCtrl_plain (i : Nat) {w c : Word} (h : slotCmds w = 0) (h7 : bitOf w 7 = false) (h8 : bitOf w 8 = false)
    (hc : slotCmds c ≤ 1) (c7 : bitOf c 7 = false) (c8 : bitOf c 8 = false) :
    s.writeSlotCtrl ag i (w ||| c) = State.answered i (s.slotCommand i (w ||| c)) := by
  rw [State.writeSlotCtrl_one hag i (slotCmds_or_le h hc)]
  simp [State.cancels, bitOf_or, h7, h8, c7, c8]

/-- The cancel bits of a word act before its command: as that word without them acts on the slot with no schedule armed. -/
theorem State.writeSlotCtrl_cancelFirst (hs : twf {} s.slots = true) (i : Nat) {u v : Word} (hu : slotCmds u ≤ 1) (u7 : bitOf u 7 = true) (u8 : bitOf u 8 = true)
    (v7 : bitOf v 7 = false) (v8 : bitOf v 8 = false) (h : ∀ k < 7, bitOf v k = bitOf u k) : s.writeSlotCtrl ag i u =
      (s.modSlot i fun x => { x with regs := { x.regs with actAtArmed := none, deactAtArmed := none } }).writeSlotCtrl ag i v := by
  have hag' : (s.modSlot i fun x => { x with regs := { x.regs with actAtArmed := none, deactAtArmed := none } }).allows ag 1 = true := hag
  rw [State.writeSlotCtrl_one hag i hu, State.writeSlotCtrl_one hag' i (slotCmds_congr h ▸ hu), State.slotCommand_congr _ i h]
  simp only [State.cancels, u7, u8, v7, v8, if_true, Bool.false_eq_true, if_false, State.modSlot_modSlot _ _ _ _ hs]

end

/-! What each command does where the card runs no exchange (02 Table 2-3). -/

section
variable {s : State} (hs : twf {} s.slots = true) (i : Nat)
include hs

theorem State.cmdActivate_asks {k : SClass} {l : List SClass} (hst : (s.slot i).st = .present) (hp : (s.slot i).seq.phase ≠ .wait)
    (ht : trialOrder (s.slot i).regs.cfg = k :: l) : s.cmdActivate i = (.none, s.modSlot i fun x => { x with
      regs := { x.regs with actAtArmed := none }
      seq := { x.seq with phase := .wait, tryCls := k, retries := 0, negResetUsed := false, warmed := false, askedAt := s.ltide.toNat } }) := by
  simp only [State.cmdActivate, hst, ht, List.isEmpty_cons, Slot.actPending, hp, decide_false, Bool.false_eq_true, if_false, State.askActivation,
    State.modSlot_modSlot _ _ _ _ hs]
  exact congrArg _ (State.modSlot_congr (by rw [ht]))

theorem State.answered_modSlot (f : Slot → Slot) (e : CmdErr) : State.answered i (e, s.modSlot i f) =
    s.modSlot i fun x => { f x with regs := { (f x).regs with cmdErr := e } } :=
  State.modSlot_modSlot s i f (fun x => { x with regs := { x.regs with cmdErr := e } }) hs

end

section
variable {s : State} {i : Nat}

theorem State.cmdActivate_waits (hst : (s.slot i).st = .present) (hp : (s.slot i).seq.phase = .wait) (ht : trialOrder (s.slot i).regs.cfg ≠ []) :
    s.cmdActivate i = (.none, s.modSlot i fun x => { x with regs := { x.regs with actAtArmed := none } }) := by
  simp [State.cmdActivate, hst, ht, Slot.actPending, hp]

theorem State.cmdActivate_noClass (hst : (s.slot i).st = .present) (ht : trialOrder (s.slot i).regs.cfg = []) : s.cmdActivate i = (.value, s) := by
  simp [State.cmdActivate, hst, ht]

theorem State.cmdActivate_refused (hst : (s.slot i).st ∈ [SlotState.empty, .quenching, .fault, .parked]) :
    s.cmdActivate i = (if trialOrder (s.slot i).regs.cfg = [] then .value else .state, s) := by
  simp only [List.mem_cons, List.not_mem_nil, or_false] at hst
  rcases hst with h | h | h | h <;> simp [State.cmdActivate, h]

theorem State.cmdActivate_noEffect (hst : (s.slot i).st ∉ [SlotState.present, .empty, .quenching, .fault, .parked]) : s.cmdActivate i = (.none, s) := by
  cases h : (s.slot i).st <;> simp [State.cmdActivate, h] at hst ⊢

theorem State.cmdWarmReset_refused (hst : (s.slot i).st ∉ [SlotState.ready, .clockstop, .busy]) : s.cmdWarmReset i = (.state, s) := by
  cases h : (s.slot i).st <;> simp [State.cmdWarmReset, h] at hst ⊢

theorem State.cmdDeactivate_present (hst : (s.slot i).st = .present) (force : Bool) : s.cmdDeactivate i force =
    (.none, s.modSlot i fun x => { x with seq := { x.seq with phase := .none } }) := by simp only [State.cmdDeactivate, hst]

theorem State.cmdDeactivate_quenching (hst : (s.slot i).st = .quenching) (force : Bool) : s.cmdDeactivate i force = (.state, s) := by
  simp only [State.cmdDeactivate, hst]

theorem State.cmdDeactivate_noEffect (hst : (s.slot i).st ∈ [SlotState.empty, .fault, .parked]) (force : Bool) : s.cmdDeactivate i force = (.none, s) := by
  simp only [List.mem_cons, List.not_mem_nil, or_false] at hst
  rcases hst with h | h | h <;> simp only [State.cmdDeactivate, h]

theorem State.cmdPark_atRest (hst : (s.slot i).st ∈ [SlotState.empty, .present, .fault]) (force : Bool) : s.cmdPark i force =
    (.none, s.modSlot i fun x => { x with st := .parked, seq := { x.seq with phase := .none } }) := by
  simp only [List.mem_cons, List.not_mem_nil, or_false] at hst
  rcases hst with h | h | h <;> simp only [State.cmdPark, h]

theorem State.cmdPark_quenching (hst : (s.slot i).st = .quenching) (force : Bool) : s.cmdPark i force =
    (.none, s.modSlot i fun x => { x with seq := { x.seq with deactPend := true, parkPend := true } }) := by simp only [State.cmdPark, hst]

theorem State.cmdPark_parked (hst : (s.slot i).st = .parked) (force : Bool) : s.cmdPark i force = (.none, s) := by simp only [State.cmdPark, hst]

theorem State.cmdUnpark_parked (hst : (s.slot i).st = .parked) (hl : s.slotLoop i = false) : s.cmdUnpark i =
    (.none, s.modSlot i fun x => { x with st := x.byPresence }) := by simp [State.cmdUnpark, hst, State.abortSlotLoop, hl]

theorem State.cmdUnpark_noEffect (hst : (s.slot i).st ≠ .parked) : s.cmdUnpark i = (.none, s) := if_neg hst

theorem State.cmdFaultClear_fault (hst : (s.slot i).st = .fault) : s.cmdFaultClear i = (.none, s.modSlot i fun x => { x with st := x.byPresence }) :=
  if_pos hst

theorem State.cmdFaultClear_noEffect (hst : (s.slot i).st ≠ .fault) : s.cmdFaultClear i = (.none, s) := if_neg hst

end

/-! The commands as writes of one command bit. -/

section
variable {s : State} {ag : Agent} (hag : s.allows ag 1 = true) {w : Word} (h : slotCmds w = 0) (h7 : bitOf w 7 = false) (h8 : bitOf w 8 = false)
  (i : Fin 64)
include hag h h7 h8

theorem exec_activate : exec (.activate ag i w) s = .next (State.answered i (s.cmdActivate i)) := by
  rw [← State.slotCommand_activate w, ← State.writeSlotCtrl_plain hag i h h7 h8 (by decide) (by decide) (by decide)]; rfl

theorem exec_warmReset : exec (.warmReset ag i w) s = .next (State.answered i (s.cmdWarmReset i)) := by
  rw [← State.slotCommand_warmReset h, ← State.writeSlotCtrl_plain hag i h h7 h8 (by decide) (by decide) (by decide)]; rfl

theorem exec_deactivate : exec (.deactivate ag i w) s = .next (State.answered i (s.cmdDeactivate i (bitOf w 3))) := by
  rw [← State.slotCommand_deactivate h, ← State.writeSlotCtrl_plain hag i h h7 h8 (by decide) (by decide) (by decide)]; rfl

theorem exec_park : exec (.park ag i w) s = .next (State.answered i (s.cmdPark i (bitOf w 3))) := by
  rw [← State.slotCommand_park h, ← State.writeSlotCtrl_plain hag i h h7 h8 (by decide) (by decide) (by decide)]; rfl

theorem exec_unpark : exec (.unpark ag i w) s = .next (State.answered i (s.cmdUnpark i)) := by
  rw [← State.slotCommand_unpark h, ← State.writeSlotCtrl_plain hag i h h7 h8 (by decide) (by decide) (by decide)]; rfl

theorem exec_faultClear : exec (.faultClear ag i w) s = .next (State.answered i (s.cmdFaultClear i)) := by
  rw [← State.slotCommand_faultClear h, ← State.writeSlotCtrl_plain hag i h h7 h8 (by decide) (by decide) (by decide)]; rfl

end

/-- Settles O9: each row of Table 2-3 is the command's own case, and its answer is noted in CMD_ERR. -/
theorem slotCommandsAtRest : Obligations.SlotCommandsAtRest := by
  intro s ag i w hwf hag h h7 h8 x answer
  have hs := State.wf_slots hwf
  have noted (e : CmdErr) (f : Slot → Slot) : Host.Outcome.next (State.answered i (e, s.modSlot i f)) = answer e f := by
    rw [State.answered_modSlot hs i f e]
  have activates := exec_activate hag h h7 h8 i
  have deactivates := exec_deactivate hag h h7 h8 i
  have parks := exec_park hag h h7 h8 i
  have unparks := exec_unpark hag h h7 h8 i
  have clears := exec_faultClear hag h h7 h8 i
  refine ⟨fun hst hp k l ht => ?_, fun hst hp ht => ?_, fun hst ht => ?_, fun hst => ?_, fun hst => ?_, fun hst => ?_, fun hst => ?_, fun hst => ?_,
    fun hst => ?_, fun hst => ?_, fun hst => ?_, fun hst => ?_, fun hst hl => ?_, fun hst => ?_, fun hst => ?_, fun hst => ?_⟩
  · rw [activates, State.cmdActivate_asks hs i hst hp ht, noted]
  · rw [activates, State.cmdActivate_waits hst hp ht, noted]
  · rw [activates, State.cmdActivate_noClass hst ht]; rfl
  · rw [activates, State.cmdActivate_refused hst]; rfl
  · rw [activates, State.cmdActivate_noEffect hst]; rfl
  · rw [exec_warmReset hag h h7 h8 i, State.cmdWarmReset_refused hst]; rfl
  · rw [deactivates, State.cmdDeactivate_present hst, noted]
  · rw [deactivates, State.cmdDeactivate_quenching hst]; rfl
  · rw [deactivates, State.cmdDeactivate_noEffect hst]; rfl
  · rw [parks, State.cmdPark_atRest hst, noted]
  · rw [parks, State.cmdPark_quenching hst, noted]
  · rw [parks, State.cmdPark_parked hst]; rfl
  · rw [unparks, State.cmdUnpark_parked hst hl, noted]; rfl
  · rw [unparks, State.cmdUnpark_noEffect hst]; rfl
  · rw [clears, State.cmdFaultClear_fault hst, noted]; rfl
  · rw [clears, State.cmdFaultClear_noEffect hst]; rfl

/-! A SLOT_CTRL word as a whole. -/

theorem State.wdeny_denies (s : State) (p : Path) : (if p = .a then (s.wdeny p).dev.wdenyA else (s.wdeny p).dev.wdenyB) = true := by
  cases p <;> rfl

/-- Without the operator's grant a write sets WDENY of its path, which is counted, and does nothing else (07 R191). -/
theorem State.granted_denies {s : State} {p : Path} (h : s.grant p = 0) (f : State → State) :
    (if p = .a then (s.granted (.path p) 1 f).dev.wdenyA else (s.granted (.path p) 1 f).dev.wdenyB) = true ∧
      Changes [.dev, .counts] s (s.granted (.path p) 1 f) := by
  rw [State.granted_of_grant_zero h]
  exact ⟨s.wdeny_denies p, (State.wdeny_evolves rfl s p (.refl s)).changes⟩

theorem bitOf_cancelsCleared {w c : Word} (h7 : bitOf w 7 = true) (h8 : bitOf w 8 = true) (c7 : bitOf c 7 = false) (c8 : bitOf c 8 = false) :
    bitOf (w ||| c) 7 = true ∧ bitOf (w ||| c) 8 = true ∧ bitOf (w &&& 0xFFFFFE7F#32 ||| c) 7 = false ∧ bitOf (w &&& 0xFFFFFE7F#32 ||| c) 8 = false ∧
      ∀ k < 7, bitOf (w &&& 0xFFFFFE7F#32 ||| c) k = bitOf (w ||| c) k := by
  have kept (k : Nat) : bitOf (w &&& 0xFFFFFE7F#32) k = (bitOf w k && bitOf 0xFFFFFE7F#32 k) := BitVec.getLsbD_and
  refine ⟨by rw [bitOf_or, h7, Bool.true_or], by rw [bitOf_or, h8, Bool.true_or], ?_, ?_, fun k hk => ?_⟩
  · rw [bitOf_or, kept, c7, show bitOf 0xFFFFFE7F#32 7 = false by decide, Bool.and_false, Bool.or_self]
  · rw [bitOf_or, kept, c8, show bitOf 0xFFFFFE7F#32 8 = false by decide, Bool.and_false, Bool.or_self]
  · have one : bitOf 0xFFFFFE7F#32 k = true := by interval_cases k <;> decide
    rw [bitOf_or, bitOf_or, kept, one, Bool.and_true]

/-- Settles O11, by the write of SLOT_CTRL: refused whole with several commands or no grant, else its cancel bits and then its command. -/
theorem slotControlWord : Obligations.SlotControlWord := by
  intro s ag i w hwf
  have hs := State.wf_slots hwf
  refine ⟨fun hag => ⟨?_, fun h => ⟨?_, ?_⟩, fun h h7 h8 => ?_⟩, ?_⟩
  · intro e he hm
    simp only [List.mem_cons, List.not_mem_nil, or_false] at he
    rcases he with rfl | rfl | rfl | rfl | rfl | rfl | rfl | rfl <;> exact congrArg _ (State.writeSlotCtrl_multiple hag i hm)
  · refine congrArg _ ((State.writeSlotCtrl_one hag i (slotCmds_or_le h (by decide))).trans ?_)
    rw [State.slotCommand_cancel h _ i (by decide), State.cancels, bitOf_or, bitOf_or, show bitOf 128#32 7 = true by decide,
      show bitOf 128#32 8 = false by decide, Bool.or_true, Bool.or_false, if_pos rfl]
    split <;> simp only [State.modSlot_modSlot _ _ _ _ hs, State.answered_modSlot hs]
  · refine congrArg _ ((State.writeSlotCtrl_one hag i (slotCmds_or_le h (by decide))).trans ?_)
    rw [State.slotCommand_cancel h _ i (by decide), State.cancels, bitOf_or, bitOf_or, show bitOf 256#32 7 = false by decide,
      show bitOf 256#32 8 = true by decide, Bool.or_true, Bool.or_false, if_pos rfl]
    split <;> simp only [State.modSlot_modSlot _ _ _ _ hs, State.answered_modSlot hs]
  · intro s1 v
    have same {c : Word} (hc : slotCmds c ≤ 1) (c7 : bitOf c 7 = false) (c8 : bitOf c 8 = false) :
        Host.Outcome.next (s.writeSlotCtrl ag i (w ||| c)) = (Host.Outcome.next (s1.writeSlotCtrl ag i (v ||| c)) : Host.Outcome State Fault Refusal) := by
      obtain ⟨u7, u8, v7, v8, hk⟩ := bitOf_cancelsCleared h7 h8 c7 c8
      exact congrArg _ (State.writeSlotCtrl_cancelFirst hag hs i (slotCmds_or_le h hc) u7 u8 v7 v8 hk)
    exact ⟨same (by decide) (by decide) (by decide), same (by decide) (by decide) (by decide), same (by decide) (by decide) (by decide),
      same (by decide) (by decide) (by decide), same (by decide) (by decide) (by decide), same (by decide) (by decide) (by decide)⟩
  · rintro p rfl hg c hc
    simp only [List.mem_cons, List.not_mem_nil, or_false] at hc
    rcases hc with rfl | rfl | rfl | rfl | rfl | rfl | rfl | rfl | rfl | rfl <;> exact ⟨_, rfl, State.granted_denies hg _⟩

end Sys2Proof.Machine
end

section
/-! PROOFS of the activation family: what leaving service, ending an exchange and reading what was received leave of a slot's supply and registers (02
R40, R54, R59, 03 R87). -/

namespace Sys2Proof.Machine

/-- The parts that a slot that leaves service, resets or goes down may change. -/
abbrev slotParts : List Part := [.slots, .timers, .dev, .flow, .mram, .cores, .counts, .lpos, .audit, .out, .pba]

/-! Operations that change no slot but for the transaction that holds it. -/

/-- Every slot is as it was, but for the transaction that holds it. -/
def SlotsStand (s t : State) : Prop :=
  ∀ j, { t.slot j with holder := none, lastBusy := none } = { s.slot j with holder := none, lastBusy := none }

theorem SlotsStand.refl (s : State) : SlotsStand s s := fun _ => rfl

theorem SlotsStand.trans {s t u : State} (h : SlotsStand s t) (k : SlotsStand t u) : SlotsStand s u := fun j => (k j).trans (h j)

theorem SlotsStand.of_others {s t : State} (h : ∀ k, OtherSlots k s t) : SlotsStand s t := fun j => h (j + 1) j (by omega)

theorem SlotsStand.of_evolves {s t : State} (h : Evolves notSlots s t) : SlotsStand s t := .of_others fun k => (OtherSlots.refl k s).of h

theorem SlotsStand.foldl {β : Type} (f : State → β → State) (l : List β) (s : State) (hf : ∀ u a, SlotsStand u (f u a)) : SlotsStand s (l.foldl f s) := by
  induction l generalizing s with
  | nil => exact .refl s
  | cons a l ih => exact (hf s a).trans (ih (f s a))

/-- A slot that a transaction leaves. -/
theorem SlotsStand.leave (s : State) (i : Nat) (h : Option Nat) (b : Option Nat) :
    SlotsStand s (s.modSlot i fun x => { x with holder := h, lastBusy := b }) := by
  intro j
  by_cases hj : j = i
  · subst hj; rw [State.modSlot_slot]
  · rw [State.modSlot_slot_ne _ _ _ _ hj]

section
variable (s : State)

theorem State.endEarly_stand (n status cause : Nat) (resp : List Byte) : SlotsStand s (s.endEarly n status cause resp) :=
  .of_others fun k => State.endEarly_keeps _ _ _ _ _ (.refl k s)

theorem State.endWaiters_stand (i cause : Nat) : SlotsStand s (s.endWaiters i cause) :=
  .foldl _ _ s fun u n => u.endEarly_stand n 0x0E cause []

theorem State.closeAll_stand (onSet : Bool) (target : Nat) : SlotsStand s (s.closeAll onSet target) :=
  .of_others fun k => State.closeAll_keeps _ _ _ (.refl k s)

theorem State.posOut_stand (k p cause status qcause shown : Nat) : SlotsStand s (s.posOut k p cause status qcause shown) :=
  .of_others fun j => State.posOut_keeps _ _ _ _ _ _ _ (.refl j s)

theorem State.setsLeave_stand (i status qcause : Nat) : SlotsStand s (s.setsLeave i status qcause) :=
  .foldl _ _ s fun u kp => u.posOut_stand kp.1 kp.2 _ _ qcause 0

theorem State.setsReady_stand (i : Nat) : SlotsStand s (s.setsReady i) := by
  refine .foldl _ _ s fun u kp => .of_others fun k => ?_
  refine State.setStateShow_keeps _ _ ((OtherSlots.refl k u).of ?_)
  exact State.promote_evolves rfl _ _ _ (State.auditSetPos_evolves rfl _ _ _ (State.modSet_evolves rfl _ _ _ (.refl u)))

theorem State.exchResult_stand (i : Nat) (m : MemberResp) : SlotsStand s (s.exchResult i m) := by
  unfold State.exchResult
  split
  · exact .refl s
  · split
    · exact .refl s
    · split
      · split
        · exact .refl s
        · exact s.endEarly_stand _ _ _ _
      · split
        · split
          · split
            · exact .refl s
            · split
              · have round (n : Nat) (f : Rounds → Rounds) : SlotsStand s ((s.tallyExch i m.cls).modRounds n f) :=
                  .of_evolves (State.modRounds_evolves rfl _ _ _ (State.tallyExch_evolves rfl _ _ _ (.refl s)))
                dsimp only
                split
                · exact round _ _
                · exact (round _ _).trans (State.posOut_stand _ _ _ _ _ _ _)
              · exact .refl s
          · exact (SlotsStand.of_evolves (State.requestOutcome_evolves rfl _ _ _ (State.tallyExch_evolves rfl _ _ _ (.refl s)))).trans (.leave _ _ _ _)
        · exact .refl s

end

/-! Operations that leave the state, the registers and the sequencers of a slot alone, and what of its tempering bears on CLK. -/

/-- A slot's state, registers and sequencers are as they were, and so is its duty trim. -/
structure Slot.Stands (x y : Slot) : Prop where
  st : y.st = x.st
  regs : y.regs = x.regs
  seq : y.seq = x.seq
  app : y.temp.app = x.temp.app
  dutyNext : y.temp.dutyNext = x.temp.dutyNext
  dutyAt : y.temp.dutyAt = x.temp.dutyAt

/-- At the same moment slot i stands as it did. -/
structure Stands (i : Nat) (s t : State) : Prop where
  now : t.now = s.now
  slot : (s.slot i).Stands (t.slot i)

theorem Slot.Stands.refl (x : Slot) : x.Stands x := ⟨rfl, rfl, rfl, rfl, rfl, rfl⟩

theorem Slot.Stands.trans {x y z : Slot} (h : x.Stands y) (k : y.Stands z) : x.Stands z :=
  ⟨k.st.trans h.st, k.regs.trans h.regs, k.seq.trans h.seq, k.app.trans h.app, k.dutyNext.trans h.dutyNext, k.dutyAt.trans h.dutyAt⟩

theorem Stands.refl (i : Nat) (s : State) : Stands i s s := ⟨rfl, .refl _⟩

theorem Stands.trans {i : Nat} {s t u : State} (h : Stands i s t) (k : Stands i t u) : Stands i s u := ⟨k.now.trans h.now, h.slot.trans k.slot⟩

theorem SlotsStand.slot {s t : State} (h : SlotsStand s t) (i : Nat) : (s.slot i).Stands (t.slot i) := by
  have e := h i
  simp only [Slot.mk.injEq] at e
  obtain ⟨hst, hregs, hseq, -, -, htemp, -⟩ := e
  exact ⟨hst, hregs, hseq, by rw [htemp], by rw [htemp], by rw [htemp]⟩

theorem SlotsStand.ch {s t : State} (h : SlotsStand s t) (i : Nat) : (t.slot i).ch = (s.slot i).ch := by
  have e := h i
  simp only [Slot.mk.injEq] at e
  obtain ⟨-, -, -, hch, -⟩ := e
  exact hch

theorem SlotsStand.stands {l : List Part} {s t : State} (h : SlotsStand s t) (e : Evolves l s t) (i : Nat) (hl : Part.now ∉ l) : Stands i s t :=
  ⟨e.now_eq hl, h.slot i⟩

theorem Stands.modSlot {i : Nat} {s t : State} (h : Stands i s t) (f : Slot → Slot) (hf : ∀ x : Slot, x.Stands (f x)) : Stands i s (t.modSlot i f) :=
  h.trans ⟨rfl, by rw [State.modSlot_slot]; exact hf _⟩

/-- An operation that touches no slot and takes no time. -/
theorem Stands.of {l : List Part} {i : Nat} {s t u : State} (h : Stands i s t) (e : Evolves l t u) (hl : Part.now ∉ l)
    (hs : Part.slots ∉ l) : Stands i s u := h.trans ⟨e.now_eq hl, by rw [e.slot_eq hs]; exact .refl _⟩

section
variable (s : State) (i : Nat)

theorem State.endWaiters_stands (cause : Nat) : Stands i s (s.endWaiters i cause) :=
  (s.endWaiters_stand i cause).stands (State.endWaiters_evolves (ps := [.slots, .flow]) rfl _ _ _ (.refl s)) i (by decide)

theorem State.setsReady_stands : Stands i s (s.setsReady i) :=
  (s.setsReady_stand i).stands
    (State.setsReady_evolves (ps := [.slots, .dev, .flow, .mram, .cores, .counts, .lpos, .audit, .out, .pba]) rfl _ _ (.refl s)) i (by decide)

theorem State.exchResult_stands (m : MemberResp) : Stands i s (s.exchResult i m) :=
  (s.exchResult_stand i m).stands
    (State.exchResult_evolves (ps := [.slots, .dev, .flow, .mram, .cores, .counts, .lpos, .audit, .out, .pba]) rfl _ _ _ (.refl s)) i (by decide)

theorem State.xchgHwEnd_stands : Stands i s (s.xchgHwEnd i) := by
  unfold State.xchgHwEnd
  split
  · refine Stands.of ?_ (State.line_evolves (ps := [.cores]) rfl _ _ (.refl _)) (by decide) (by decide)
    exact (Stands.refl i s).modSlot _ fun _ => ⟨rfl, rfl, rfl, rfl, rfl, rfl⟩
  · exact .refl i s

theorem State.forceEnd_stands (status cause : Nat) : Stands i s (s.forceEnd i status cause) := by
  unfold State.forceEnd
  dsimp only
  split
  · exact .refl i s
  · split
    · exact (Stands.refl i s).modSlot _ fun _ => ⟨rfl, rfl, rfl, rfl, rfl, rfl⟩
    · refine Stands.trans ?_ (State.exchResult_stands _ i _)
      refine Stands.trans ?_ (State.xchgHwEnd_stands _ i)
      split
      · exact (Stands.refl i s).of (State.unwrapSsc_evolves (ps := [.flow]) rfl _ _ (.refl s)) (by decide) (by decide)
      · exact .refl i s

theorem State.leaveService_stands (down : Bool) (status cause : Nat) : Stands i s (s.leaveService i down status cause) := by
  have left (u : State) : Stands i u ((u.closeAll false i).setsLeave i status cause) :=
    ((u.closeAll_stand false i).trans (State.setsLeave_stand _ i status cause)).stands
      (State.setsLeave_evolves (ps := [.slots, .dev, .flow, .mram, .cores, .counts, .lpos, .audit, .out, .pba]) rfl _ _ _ _
        (State.closeAll_evolves rfl _ _ _ (.refl u))) i (by decide)
  unfold State.leaveService
  refine Stands.modSlot (Stands.trans ?_ (left _)) _ fun _ => ⟨rfl, rfl, rfl, rfl, rfl, rfl⟩
  split
  · exact s.endWaiters_stands i cause
  · exact .refl i s

/-- What comes before a deactivation of a slot in service. -/
theorem State.dismiss_stands (status cause : Nat) : Stands i s (((s.endWaiters i cause).forceEnd i status cause).leaveService i true status cause) :=
  ((s.endWaiters_stands i cause).trans (State.forceEnd_stands _ i status cause)).trans (State.leaveService_stands _ i true status cause)

end

end Sys2Proof.Machine
end

section
/-! PROOFS of the activation family: the card clock depends on its own fields alone (02 R56, 09 R256), and what a warm reset and a deactivation make of
their slot (02 R54, R59). -/

namespace Sys2Proof.Machine

/-! The card clock. -/

/-- What the edges of CLK depend on. -/
def Slot.clock (x : Slot) : Bool × Nat × Nat × Option Nat × Nat × Int × Option Int × Nat :=
  (x.seq.clkRun, x.seq.div, x.seq.clkRef, x.seq.divNext, x.seq.divAt, x.temp.app.duty, x.temp.dutyNext, x.temp.dutyAt)

section
variable {x y : Slot} (h : x.clock = y.clock) (t : Nat)
include h

theorem Slot.clock_fields : x.seq.clkRun = y.seq.clkRun ∧ x.seq.div = y.seq.div ∧ x.seq.clkRef = y.seq.clkRef ∧ x.seq.divNext = y.seq.divNext ∧
    x.seq.divAt = y.seq.divAt ∧ x.temp.app.duty = y.temp.app.duty ∧ x.temp.dutyNext = y.temp.dutyNext ∧ x.temp.dutyAt = y.temp.dutyAt := by
  simpa only [Slot.clock, Prod.mk.injEq] using h

theorem Slot.takeTrim_clock : (x.takeTrim t).clock = (y.takeTrim t).clock := by
  obtain ⟨hrun, hdiv, -, hnext, hat, -, htrim, hdue⟩ := Slot.clock_fields h
  unfold Slot.takeTrim
  rw [htrim, hrun, hdue]
  split
  · split
    · simp only [Slot.clock, hrun, hdiv, hnext, hat, hdue]
    · exact h
  · exact h

theorem Slot.takeUp_clock : (x.takeUp t).clock = (y.takeUp t).clock := by
  obtain ⟨hrun, -, -, hnext, hat, -⟩ := Slot.clock_fields h
  unfold Slot.takeUp
  rw [hnext, hrun, hat]
  split
  · split
    · obtain ⟨hrun, -, -, -, hat, hduty, htrim, hdue⟩ := Slot.clock_fields (Slot.takeTrim_clock h y.seq.divAt)
      refine Slot.takeTrim_clock ?_ t
      simp only [Slot.clock, hrun, hat, hduty, htrim, hdue]
    · exact Slot.takeTrim_clock h t
  · exact Slot.takeTrim_clock h t

theorem Slot.nextFall_clock : x.nextFall t = y.nextFall t := by
  obtain ⟨-, hdiv, href, -, -, hduty, -⟩ := Slot.clock_fields (Slot.takeUp_clock h t)
  simp only [Slot.nextFall, hdiv, href, hduty]

theorem Slot.stageDiv_clock (n : Nat) : (x.stageDiv t n).clock = (y.stageDiv t n).clock := by
  have taken := Slot.takeUp_clock h t
  obtain ⟨hrun, hdiv, href, -, hat, hduty, htrim, hdue⟩ := Slot.clock_fields taken
  unfold Slot.stageDiv
  dsimp only
  rw [hrun, hdiv, Slot.nextFall_clock taken t]
  split
  · split
    · simp only [Slot.clock, href, hat, hduty, htrim, hdue]
    · simp only [Slot.clock, href, hduty, htrim, hdue]
  · simp only [Slot.clock, href, hat, hduty, htrim, hdue]

end

theorem Slot.Stands.clock {x y : Slot} (h : x.Stands y) : y.clock = x.clock := by
  simp only [Slot.clock, h.seq, h.app, h.dutyNext, h.dutyAt]

/-- A divider staged on a running clock is the one in use already, or waits for the next falling edge. -/
theorem Slot.stageDiv_next {x : Slot} (h : x.seq.clkRun = true) (t n : Nat) : n = x.divNow t ∨ (x.stageDiv t n).seq.divNext = some n := by
  have run : (x.takeUp t).seq.clkRun = true := by
    obtain ⟨m, r, d, p, e⟩ := x.takeUp_eq t
    rw [e]; exact h
  by_cases hn : n = (x.takeUp t).seq.div
  · exact .inl hn
  · simp only [Slot.stageDiv, run, if_true, if_neg hn, or_true]

/-! A warm reset. -/

/-- Slot x with RST low for a warm reset at ck n. -/
def Slot.toWarm (x : Slot) (n : Nat) : Slot :=
  let y := (x.stageDiv n x.actDiv).enterActivating
  { y with seq := { y.seq with rst := false, phase := .warm (y.nextFall n), warmed := true, warmPend := false, restartAt := none, warmAfterRestart := false } }

theorem Slot.toWarm_seq (x : Slot) (n : Nat) : (x.toWarm n).seq = { (x.stageDiv n x.actDiv).seq with
    rst := false, phase := .warm ((x.stageDiv n x.actDiv).nextFall n), warmed := true, warmPend := false, restartAt := none, warmAfterRestart := false } := by
  have clock : ((x.stageDiv n x.actDiv).enterActivating).clock = (x.stageDiv n x.actDiv).clock := rfl
  have same := Slot.nextFall_clock clock n
  simp only [Slot.toWarm, same]
  rfl

theorem Slot.toWarm_rest (x : Slot) (n : Nat) : (x.toWarm n).st = .activating ∧ (x.toWarm n).pr.mode = .idle ∧ (x.toWarm n).ch.convSet = false ∧
    ∃ c e, (x.toWarm n).regs = { x.regs with charCfg := c, charEtu := e } := by
  obtain ⟨m, r, d, a, p, e⟩ := x.stageDiv_eq n x.actDiv
  unfold Slot.toWarm
  rw [e]
  exact ⟨rfl, rfl, rfl, _, _, rfl⟩

/-- The slot of a warm reset stands as it did, and then has RST low (02 R54). -/
theorem State.warmReset_slot (s : State) (i : Nat) : ∃ x, (s.slot i).Stands x ∧ (s.warmReset i).slot i = x.toWarm s.now := by
  have waits (u : State) : ((u.endWait i 0).endWait i 1).slot i = u.slot i := rfl
  unfold State.warmReset
  dsimp only
  rw [waits, State.modSlot_slot]
  split
  · exact ⟨_, (s.leaveService_stands i false 0 0).slot, rfl⟩
  · exact ⟨_, .refl _, rfl⟩

theorem State.warmReset_now (s : State) (i : Nat) : (s.warmReset i).now = s.now :=
  (State.warmReset_evolves (ps := slotParts) rfl s i (.refl s)).now_eq (by decide)

/-- Whoever resets a slot warm, its sequencers are those it had with RST low from this ck on, and its registers but for CHAR_CFG and CHAR_ETU. -/
theorem State.warmReset_spec (s : State) (i : Nat) : let x := s.slot i; let y := (s.warmReset i).slot i
    y.st = .activating ∧ y.pr.mode = .idle ∧ y.ch.convSet = false ∧ (∃ c e, y.regs = { x.regs with charCfg := c, charEtu := e }) ∧
    (x.seq.clkRun = true → x.actDiv = x.divNow s.now ∨ y.seq.divNext = some x.actDiv) ∧
    ∃ m r d a, y.seq = { x.seq with
      div := m, clkRef := r, divNext := d, divAt := a, rst := false, phase := .warm ((x.stageDiv s.now x.actDiv).nextFall s.now), warmed := true
      warmPend := false, restartAt := none, warmAfterRestart := false } := by
  obtain ⟨x, hx, e⟩ := s.warmReset_slot i
  have div : x.actDiv = (s.slot i).actDiv := by simp only [Slot.actDiv, hx.regs]
  have staged := Slot.stageDiv_clock hx.clock s.now (s.slot i).actDiv
  have next : (x.stageDiv s.now (s.slot i).actDiv).seq.divNext = ((s.slot i).stageDiv s.now (s.slot i).actDiv).seq.divNext := (Slot.clock_fields staged).2.2.2.1
  obtain ⟨hst, hmode, hconv, c, k, hregs⟩ := x.toWarm_rest s.now
  dsimp only
  rw [e]
  refine ⟨hst, hmode, hconv, ⟨c, k, by rw [hregs, hx.regs]⟩, fun hrun => ?_, ?_⟩
  · rw [Slot.toWarm_seq, div]
    exact (Slot.stageDiv_next hrun s.now _).imp id (next.trans ·)
  · obtain ⟨m, r, d, a, p, h⟩ := x.stageDiv_eq s.now (s.slot i).actDiv
    refine ⟨m, r, d, a, ?_⟩
    rw [Slot.toWarm_seq, div, Slot.nextFall_clock staged, h, hx.seq]

/-! A deactivation. -/

/-- The sequencers at time 0 of a normal deactivation at ck n (02 R59). -/
def SlotSeq.toDown (q : SlotSeq) (n : Nat) : SlotSeq :=
  let base : SlotSeq := { q with
    phase := .none, warmPend := false, deactPend := false, parkPend := false, restartAt := none, warmAfterRestart := false }
  if q.vcc = .off then base
  else if q.deactT0.isSome then base
  else { base with rst := false, steps := 1, deactT0 := some n, discharging := true }

theorem SlotSeq.toDown_rest (q : SlotSeq) (n : Nat) : (q.toDown n).phase = .none ∧ (q.toDown n).restartAt = none ∧
    (q.toDown n).vcc = q.vcc ∧ (q.toDown n).pres = q.pres ∧
    ((q.toDown n).rst = q.rst ∧ (q.toDown n).steps = q.steps ∧ (q.toDown n).deactT0 = q.deactT0 ∧ (q.toDown n).discharging = q.discharging ∨
      (q.toDown n).rst = false ∧ (q.toDown n).steps = 1 ∧ (q.toDown n).deactT0 = some n ∧ (q.toDown n).discharging = true) := by
  unfold SlotSeq.toDown
  dsimp only
  split
  · exact ⟨rfl, rfl, rfl, rfl, .inl ⟨rfl, rfl, rfl, rfl⟩⟩
  · split
    · exact ⟨rfl, rfl, rfl, rfl, .inl ⟨rfl, rfl, rfl, rfl⟩⟩
    · exact ⟨rfl, rfl, rfl, rfl, .inr ⟨rfl, rfl, rfl, rfl⟩⟩

theorem SlotSeq.toDown_begins {q : SlotSeq} (hv : q.vcc ≠ .off) (hd : q.deactT0 = none) (n : Nat) :
    (q.toDown n).rst = false ∧ (q.toDown n).steps = 1 ∧ (q.toDown n).deactT0 = some n ∧ (q.toDown n).discharging = true := by
  simp [SlotSeq.toDown, hv, hd]

/-- Slot x at time 0 of a normal deactivation at ck n, in a state; aborted: its activation ends. -/
def Slot.toDown (x : Slot) (n : Nat) (st : SlotState) (aborted : Bool) : Slot :=
  { x with st := st, ch := x.ch.halt, pr := x.pr.still, temp := x.temp.discard, regs := if aborted then { x.regs with actResult := 6 } else x.regs
           seq := x.seq.toDown n }

/-- The slot of a deactivation stands as it did, and then is at its time 0 (02 R59). -/
theorem State.beginDeact_slot (s : State) (i : Nat) (park : Bool) : ∃ x, (s.slot i).Stands x ∧
    (s.beginDeact i park).slot i = x.toDown s.now (if park then .parked else .present) (s.slot i).inActivation := by
  have down : (s.beginDeact i park).slot i =
      ((if (s.slot i).inService then ((s.endWaiters i).forceEnd i 0x91 0).leaveService i true 0x91 0 else s).slot i).toDown s.now
        (if park then .parked else .present) (s.slot i).inActivation := by
    unfold State.beginDeact
    extract_lets x st aborted s1 s2
    have waits : ((s2.endWait i 0).endWait i 1).slot i = s2.slot i := rfl
    rw [waits, State.modSlot_slot]
    rfl
  rw [down]
  split
  · exact ⟨_, (s.dismiss_stands i 0x91 0).slot, rfl⟩
  · exact ⟨_, .refl _, rfl⟩

theorem State.beginDeact_now (s : State) (i : Nat) (park : Bool) : (s.beginDeact i park).now = s.now :=
  (State.beginDeact_evolves (ps := slotParts) rfl s i park (.refl s)).now_eq (by decide)

/-- Whoever begins a deactivation, the slot is in its state with nothing pending or in exchange, its sequencers at time 0. -/
theorem State.beginDeact_spec (s : State) (i : Nat) (park : Bool) : let x := s.slot i; let y := (s.beginDeact i park).slot i
    y.st = (if park then .parked else .present) ∧ y.pr.mode = .idle ∧ y.ch.txq = [] ∧ y.seq = x.seq.toDown s.now ∧
    y.regs = (if x.inActivation then { x.regs with actResult := 6 } else x.regs) := by
  obtain ⟨x, hx, e⟩ := s.beginDeact_slot i park
  dsimp only
  rw [e]
  exact ⟨rfl, rfl, rfl, by rw [Slot.toDown, hx.seq], by rw [Slot.toDown, hx.regs]⟩

end Sys2Proof.Machine
end

section
/-! PROOFS of the activation family: whatever a slot makes of what it received, its supply stands, and the only new deactivation begins at this very ck
(01 R16, 02 R43, R54, R59, 06 R161 to R179). -/

namespace Sys2Proof.Machine

/-- What operations on the exchange leave alone in a slot. -/
def Slot.kept (x : Slot) : Vcc × Bool × CmdErr × Option Tide × Bool × Nat × Bool × Option Nat :=
  (x.seq.vcc, x.seq.pres, x.regs.cmdErr, x.regs.deactAtArmed, x.seq.rst, x.seq.steps, x.seq.discharging, x.seq.deactT0)

/-- From x to y, within ck n: supply, presence, CMD_ERR and the armed DEACT_AT stand, RST does not rise, no step of a deactivation is taken back, and a
deactivation that is new has begun at n. -/
structure Slot.Follows (n : Nat) (x y : Slot) : Prop where
  vcc : y.seq.vcc = x.seq.vcc
  pres : y.seq.pres = x.seq.pres
  cmdErr : y.regs.cmdErr = x.regs.cmdErr
  deactAt : y.regs.deactAtArmed = x.regs.deactAtArmed
  rst : x.seq.rst = false → y.seq.rst = false
  steps : x.seq.steps = 1 → y.seq.steps = 1
  discharging : x.seq.discharging = true → y.seq.discharging = true
  deactT0 : y.seq.deactT0 = x.seq.deactT0 ∨ (y.seq.deactT0 = some n ∧ y.seq.rst = false ∧ y.seq.steps = 1 ∧ y.seq.discharging = true)

theorem Slot.Follows.of_kept {n : Nat} {x y : Slot} (h : y.kept = x.kept) : x.Follows n y := by
  simp only [Slot.kept, Prod.mk.injEq] at h
  obtain ⟨hvcc, hpres, herr, hat, hrst, hsteps, hdis, hdown⟩ := h
  exact ⟨hvcc, hpres, herr, hat, hrst.trans, hsteps.trans, hdis.trans, .inl hdown⟩

theorem Slot.Follows.refl (n : Nat) (x : Slot) : x.Follows n x := .of_kept rfl

theorem Slot.Follows.trans {n : Nat} {x y z : Slot} (h : x.Follows n y) (k : y.Follows n z) : x.Follows n z := by
  refine ⟨k.vcc.trans h.vcc, k.pres.trans h.pres, k.cmdErr.trans h.cmdErr, k.deactAt.trans h.deactAt, fun e => k.rst (h.rst e), fun e => k.steps (h.steps e),
    fun e => k.discharging (h.discharging e), ?_⟩
  rcases k.deactT0 with e | e
  · rcases h.deactT0 with f | ⟨hd, hr, hs, hi⟩
    · exact .inl (e.trans f)
    · exact .inr ⟨e.trans hd, k.rst hr, k.steps hs, k.discharging hi⟩
  · exact .inr e

theorem Slot.Stands.follows {x y : Slot} (h : x.Stands y) (n : Nat) : x.Follows n y := .of_kept (by simp only [Slot.kept, h.seq, h.regs])

/-- At the same moment slot i has followed. -/
structure Follows (i : Nat) (s t : State) : Prop where
  now : t.now = s.now
  slot : (s.slot i).Follows s.now (t.slot i)

theorem Follows.refl (i : Nat) (s : State) : Follows i s s := ⟨rfl, .refl _ _⟩

theorem Follows.trans {i : Nat} {s t u : State} (h : Follows i s t) (k : Follows i t u) : Follows i s u :=
  ⟨k.now.trans h.now, h.slot.trans (h.now ▸ k.slot)⟩

theorem Follows.ite {i : Nat} {s a b : State} {c : Prop} [Decidable c] (ha : Follows i s a) (hb : Follows i s b) : Follows i s (if c then a else b) := by
  split
  · exact ha
  · exact hb

/-! What a settled negotiation and a new class make of a slot. -/

theorem Slot.noteChange_eq (x : Slot) (n : Nat) : ∃ c, x.noteChange n = { x with ch := c } := by
  unfold Slot.noteChange
  split
  · split
    · exact ⟨x.ch, rfl⟩
    · exact ⟨_, rfl⟩
  · exact ⟨_, rfl⟩

theorem SlotRegs.engine_rest (r : SlotRegs) (fi di gt : Nat) (e : Bool) : ∃ c k, r.engine fi di gt e = { r with charCfg := c, charEtu := k } := ⟨_, _, rfl⟩

theorem SlotRegs.engine_cmdErr (r : SlotRegs) (fi di gt : Nat) (e : Bool) : (r.engine fi di gt e).cmdErr = r.cmdErr := by
  obtain ⟨c, k, h⟩ := r.engine_rest fi di gt e
  rw [h]

theorem SlotRegs.engine_deactAtArmed (r : SlotRegs) (fi di gt : Nat) (e : Bool) : (r.engine fi di gt e).deactAtArmed = r.deactAtArmed := by
  obtain ⟨c, k, h⟩ := r.engine_rest fi di gt e
  rw [h]

theorem Slot.enterActivating_regs (x : Slot) : ∃ c e, x.enterActivating.regs = { x.regs with charCfg := c, charEtu := e } := ⟨_, _, rfl⟩

theorem Slot.noteChange_follows (x : Slot) (n t : Nat) : x.Follows n (x.noteChange t) := by
  obtain ⟨c, e⟩ := x.noteChange_eq t
  exact .of_kept (by rw [e]; rfl)

theorem Slot.stageDiv_follows (x : Slot) (n t d : Nat) : x.Follows n (x.stageDiv t d) := by
  obtain ⟨m, r, e, a, p, h⟩ := x.stageDiv_eq t d
  rw [h]
  exact ⟨rfl, rfl, rfl, rfl, id, id, id, .inl rfl⟩

section
variable {i : Nat} {s0 s : State} (h : Follows i s0 s)
include h

theorem Follows.stands {t : State} (k : Stands i s t) : Follows i s0 t := h.trans ⟨k.now, k.slot.follows _⟩

theorem Follows.modSlot (f : Slot → Slot) (hf : ∀ x : Slot, x.Follows s.now (f x)) : Follows i s0 (s.modSlot i f) :=
  h.trans ⟨rfl, by rw [State.modSlot_slot]; exact hf _⟩

/-- A change of the slot that leaves alone what is kept. -/
theorem Follows.keep {f : Slot → Slot} (hf : ∀ x : Slot, (f x).kept = x.kept) : Follows i s0 (s.modSlot i f) :=
  h.modSlot f fun x => .of_kept (hf x)

/-- An operation that touches no slot and takes no time. -/
theorem Follows.of {l : List Part} {t : State} (e : Evolves l s t) (hl : Part.now ∉ l) (hs : Part.slots ∉ l) : Follows i s0 t :=
  h.stands ((Stands.refl i s).of e hl hs)

theorem Follows.bump (j c : Nat) : Follows i s0 (s.bump j c) := 
  h.of (State.bump_evolves (ps := [.telemetry]) rfl _ _ _ (.refl s)) (by decide) (by decide)

theorem Follows.endWait (j n : Nat) : Follows i s0 (s.endWait j n) := 
  h.of (State.endWait_evolves (ps := [.timers]) rfl _ _ _ (.refl s)) (by decide) (by decide)

theorem Follows.armWait (j n src presc limit count : Nat) (from_ : Option Nat) : Follows i s0 (s.armWait j n src presc limit count from_) :=
  h.of (State.armWait_evolves (ps := [.timers]) rfl _ _ _ _ _ _ _ _ (.refl s)) (by decide) (by decide)

theorem Follows.setsReady : Follows i s0 (s.setsReady i) := h.stands (s.setsReady_stands i)

/-! Resets and deactivations. -/

theorem Follows.warmReset : Follows i s0 (s.warmReset i) := by
  obtain ⟨-, -, -, ⟨c, e, hregs⟩, -, m, r, d, a, hseq⟩ := s.warmReset_spec i
  refine h.trans ⟨s.warmReset_now i, ?_⟩
  exact ⟨by rw [hseq], by rw [hseq], by rw [hregs], by rw [hregs], fun _ => by rw [hseq], fun k => by rw [hseq]; exact k, fun k => by rw [hseq]; exact k,
    .inl (by rw [hseq])⟩

theorem Follows.warmStart : Follows i s0 (s.warmStart i) := by
  have cleared : Follows i s0 (s.modSlot i fun x => { x with seq := { x.seq with retries := 0, negResetUsed := false, warmPend := false } }) :=
    h.keep (by intro; rfl)
  unfold State.warmStart
  refine .ite (cleared.modSlot _ fun x => ?_) cleared.warmReset
  dsimp only
  split <;> exact ⟨rfl, rfl, rfl, rfl, id, id, id, .inl rfl⟩

theorem Follows.beginDeact (park : Bool) : Follows i s0 (s.beginDeact i park) := by
  obtain ⟨-, -, -, hseq, hregs⟩ := s.beginDeact_spec i park
  obtain ⟨-, -, hvcc, hpres, hdown⟩ := SlotSeq.toDown_rest (s.slot i).seq s.now
  have regs : ((s.beginDeact i park).slot i).regs.cmdErr = (s.slot i).regs.cmdErr ∧
      ((s.beginDeact i park).slot i).regs.deactAtArmed = (s.slot i).regs.deactAtArmed := by
    rw [hregs]
    split <;> exact ⟨rfl, rfl⟩
  refine h.trans ⟨s.beginDeact_now i park, ?_⟩
  rw [← hseq] at hvcc hpres hdown
  obtain ⟨hrst, hsteps, hstart, hdis⟩ | ⟨hrst, hsteps, hstart, hdis⟩ := hdown
  · exact ⟨hvcc, hpres, regs.1, regs.2, hrst.trans, hsteps.trans, hdis.trans, .inl hstart⟩
  · exact ⟨hvcc, hpres, regs.1, regs.2, fun _ => hrst, fun _ => hsteps, fun _ => hdis, .inr ⟨hstart, hrst, hsteps, hdis⟩⟩

theorem Follows.classChange (k : SClass) : Follows i s0 (s.classChange i k) := by
  unfold State.classChange
  extract_lets s1
  have fallen : Follows i s0 s1 := by
    refine h.modSlot _ fun x => ?_
    obtain ⟨c, e, hregs⟩ := x.enterActivating_regs
    exact ⟨rfl, rfl, by rw [hregs], by rw [hregs], fun _ => rfl, fun _ => rfl, fun _ => rfl, .inr ⟨rfl, rfl, rfl, rfl⟩⟩
  exact (fallen.endWait i 0).endWait i 1

theorem Follows.failActivation (result : Nat) : Follows i s0 (s.failActivation i result) := (h.beginDeact false).keep (by intro; rfl)

theorem Follows.actPend : Follows i s0 (s.actPend i) := by
  unfold State.actPend
  exact .ite (.ite (h.beginDeact _) (.ite h.warmStart h)) h

/-! The answer to reset and the negotiation. -/

theorem Follows.atrFail (noTs : Bool) : Follows i s0 (s.atrFail i noTs) := by
  unfold State.atrFail
  dsimp only
  split
  · exact (h.keep (by intro; rfl)).warmReset
  · split
    · exact h.classChange _
    · exact h.failActivation _

theorem Follows.atrError (code : Nat) : Follows i s0 (s.atrError i code) := (h.keep (by intro; rfl)).atrFail false

theorem Follows.enterReady : Follows i s0 (s.enterReady i) := ((((h.keep (by intro; rfl)).endWait i 0).endWait i 1).setsReady).actPend

theorem Follows.negFail (r : Nat) : Follows i s0 (s.negFail i r) := (h.failActivation 5).keep (by intro; rfl)

theorem Follows.negReset (r : Nat) : Follows i s0 (s.negReset i r) :=
  .ite (h.negFail r) (h.keep (by intro; rfl)).warmReset

theorem Follows.settle (fi di t r : Nat) : Follows i s0 (s.settle i fi di t r) := by
  unfold State.settle
  extract_lets s1
  have staged : Follows i s0 s1 := by
    refine h.modSlot _ fun x => ?_
    extract_lets y
    have divided : x.Follows s.now y := (Slot.noteChange_follows x _ _).trans (Slot.stageDiv_follows _ _ _ _)
    exact ⟨divided.vcc, divided.pres, (SlotRegs.engine_cmdErr _ _ _ _ _).trans divided.cmdErr, (SlotRegs.engine_deactAtArmed _ _ _ _ _).trans divided.deactAt,
      divided.rst, divided.steps, divided.discharging, divided.deactT0⟩
  exact .ite (staged.keep (by intro; rfl)) staged.enterReady

theorem Follows.negotiate : Follows i s0 (s.negotiate i) := by
  unfold State.negotiate
  dsimp only
  split
  · exact .ite (h.settle _ _ _ _) (.ite (h.negReset 5) (h.negFail 5))
  · split
    · exact h.negFail 6
    · exact .ite (h.keep (by intro; rfl)) (.ite (h.negFail 6) (h.settle _ _ _ _))

theorem Follows.acceptAtr : Follows i s0 (s.acceptAtr i) := by
  unfold State.acceptAtr
  refine ((h.keep fun x => ?_).endWait i 0).negotiate
  obtain ⟨c, e⟩ := x.noteChange_eq s.now
  simp only [e]
  rfl

theorem Follows.judgeAtr : Follows i s0 (s.judgeAtr i) := by
  unfold State.judgeAtr
  extract_lets x y has
  refine .ite h.acceptAtr ?_
  split
  · exact h.classChange _
  · exact h.failActivation 4

theorem Follows.atrChar (data : Byte) (bad : Nat) : Follows i s0 (s.atrChar i data bad) := by
  unfold State.atrChar
  extract_lets s1 l a
  have read : Follows i s0 s1 := h.keep (by intro; rfl)
  exact .ite (read.atrError _) (.ite (read.atrError _) (.ite (.ite (read.atrError _) read.judgeAtr) read))

theorem Follows.ppsFail : Follows i s0 (s.ppsFail i) := (h.bump i 22).negReset 7

theorem Follows.ppsJudge : Follows i s0 (s.ppsJudge i) := by
  unfold State.ppsJudge
  dsimp only
  split
  · exact h
  · exact .ite ((h.endWait i 0).settle _ _ _ _) ((h.endWait i 0).settle _ _ _ _)
  · exact (h.endWait i 0).settle _ _ _ _
  · exact h.ppsFail

/-! The exchange and its end. -/

theorem Follows.endExchange (code : Nat) (m : MemberResp) (warm : Bool) : Follows i s0 (s.endExchange i code m warm) := by
  unfold State.endExchange
  extract_lets s1 s2
  have ended : Follows i s0 s2 := by
    refine Follows.stands ?_ (State.exchResult_stands _ i m)
    exact (((h.stands (s.xchgHwEnd_stands i)).keep (by intro; rfl)).endWait i 0).endWait i 1
  refine .ite (.ite (ended.beginDeact _) ?_) ended.setsReady.actPend
  exact ((ended.bump i 32).keep (by intro; rfl)).warmReset

theorem Follows.endInDoubt (code : Nat) (warm : Bool) : Follows i s0 (s.endInDoubt i code warm) := h.endExchange _ _ _

theorem Follows.responseDone (r : List Byte) : Follows i s0 (s.responseDone i r) := by
  unfold State.responseDone
  split
  · next t _ =>
    refine .ite ?_ (h.endExchange _ _ _)
    have asked : Follows i s0 ((s.askLane t).modTxn t fun x => { x with wrapped := r, smSent := (s.slot i).pr.sent }) :=
      h.of (State.modTxn_evolves (ps := [.flow, .crypto]) rfl _ _ _ (State.askLane_evolves rfl _ _ (.refl s))) (by decide) (by decide)
    exact ((asked.keep (by intro; rfl)).endWait i 0).endWait i 1
  · exact h

theorem Follows.procByte (b : Byte) : Follows i s0 (s.procByte i b) := by
  unfold State.procByte
  refine .ite (h.bump i 23) (.ite (h.keep ?_) (.ite (h.keep ?_) (.ite (h.keep ?_) (.ite (h.keep ?_) (.ite (h.keep ?_) (h.endInDoubt _ _))))))
  all_goals exact fun _ => rfl

theorem Follows.tpduEnd (sw2 : Byte) : Follows i s0 (s.tpduEnd i sw2) := by
  unfold State.tpduEnd
  exact .ite (((Follows.ite (h.bump i 24) h).bump i 25).keep (by intro; rfl)) (.ite ((h.bump i 24).keep (by intro; rfl)) (h.responseDone _))

theorem Follows.t0Char (c : RxChar) : Follows i s0 (s.t0Char i c) := by
  unfold State.t0Char
  refine .ite (h.endInDoubt _ _) (.ite (h.endInDoubt _ _) (.ite (h.endInDoubt _ _) ?_))
  split
  · exact h.keep (by intro; rfl)
  · exact h.keep (by intro; rfl)
  · exact h.keep (by intro; rfl)

theorem Follows.t0Rest (l : List RxChar) : Follows i s0 (s.t0Rest i l) := by
  unfold State.t0Rest
  induction l generalizing s with
  | nil => exact h
  | cons c l ih => exact ih (.ite (h.t0Char c) h)

theorem Follows.t0Proc : Follows i s0 (s.t0Proc i) := by
  unfold State.t0Proc
  dsimp only
  split
  · exact .ite (((h.keep (by intro; rfl)).procByte _).t0Rest _) h
  · exact h

theorem Follows.t0Sw2 : Follows i s0 (s.t0Sw2 i) := by
  unfold State.t0Sw2
  dsimp only
  split
  · exact .ite (((h.keep (by intro; rfl)).tpduEnd _).t0Rest _) h
  · exact h

theorem Follows.t0Read (n : Nat) : Follows i s0 (State.t0Read n s i) := by
  induction n generalizing s with
  | zero => exact h
  | succ n ih => exact .ite (ih h.t0Sw2) (ih h.t0Proc)

theorem Follows.startResync : Follows i s0 (s.startResync i) := .ite (h.endInDoubt _ _) ((h.bump i 28).keep (by intro; rfl))

theorem Follows.t1Attempt (f : State → State) (hf : ∀ u, Follows i s0 u → Follows i s0 (f u)) : Follows i s0 (s.t1Attempt i f) :=
  .ite h.startResync (hf _ (h.keep (by intro; rfl)))

theorem Follows.t1Fail (code : Nat) : Follows i s0 (s.t1Fail i code) := by
  have again : Follows i s0 (s.modSlot i fun x =>
      let y := x.sendBlk 0xC1#8 [BitVec.ofNat 8 x.ifsd] true
      { y with pr := { y.pr with t1 := { y.pr.t1 with ifsTries := y.pr.t1.ifsTries + 1, attempts := y.pr.t1.ifsTries + 1 } } }) := h.keep (by intro; rfl)
  unfold State.t1Fail
  dsimp only
  split
  · exact h.startResync
  · exact .ite (.ite (h.negReset 8) h.startResync) again
  · exact .ite (.ite (h.negReset 8) h.startResync) again
  · exact h.t1Attempt _ fun u hu => (hu.bump i 26).keep (by intro; rfl)

theorem Follows.t1I (pcb : Byte) (inf : List Byte) : Follows i s0 (s.t1I i pcb inf) := by
  unfold State.t1I
  extract_lets x t s1
  have taken : Follows i s0 s1 := h.keep (by intro; rfl)
  exact .ite (h.t1Fail 2) (.ite (h.endInDoubt _ _) (.ite ((taken.bump i 26).keep (by intro; rfl)) (taken.responseDone _)))

theorem Follows.t1R (pcb : Byte) : Follows i s0 (s.t1R i pcb) := by
  unfold State.t1R
  exact .ite (h.t1Fail 2) (.ite (h.t1Attempt _ fun u hu => (hu.bump i 27).keep (by intro; rfl)) (.ite (h.keep (by intro; rfl)) (h.t1Fail 2)))

theorem Follows.t1SAccepted : Follows i s0 (s.t1SAccepted i) := by
  unfold State.t1SAccepted
  extract_lets x s1 s2
  have accepted : Follows i s0 s1 := h.keep (by intro; rfl)
  have resynched : Follows i s0 s2 := accepted.keep (by intro; rfl)
  split
  · exact accepted.enterReady
  · exact accepted.endInDoubt _ _
  · exact .ite (resynched.keep (by intro; rfl)) (resynched.endInDoubt _ _)
  · exact accepted

theorem Follows.t1S (pcb : Byte) (inf : List Byte) : Follows i s0 (s.t1S i pcb inf) := by
  unfold State.t1S
  dsimp only
  split
  · exact (h.bump i 29).keep (by intro; rfl)
  · exact (h.bump i 30).keep (by intro; rfl)
  · exact .ite ((h.bump i 31).keep (by intro; rfl)) ((h.bump i 31).t1Fail 2)
  · exact .ite h.t1SAccepted (h.t1Fail 2)
  · exact .ite h.t1SAccepted (h.t1Fail 2)
  · exact h.t1Fail 2

theorem Follows.t1Block (atCwt : Bool) : Follows i s0 (s.t1Block i atCwt) := by
  unfold State.t1Block
  extract_lets x l e body pcb inf s1
  have read : Follows i s0 s1 := h.keep (by intro; rfl)
  exact .ite (read.t1Fail 1) (.ite (read.t1Fail 1) (.ite (read.t1Fail 2) (.ite (read.t1Fail 2) (.ite (read.t1I _ _) (.ite (read.t1R _) (read.t1S _ _))))))

theorem Follows.t1Whole : Follows i s0 (s.t1Whole i) := by
  unfold State.t1Whole
  dsimp only
  split
  · exact .ite (((h.endWait i 0).keep (by intro; rfl)).t1Block false) h
  · exact h

theorem Follows.digest : Follows i s0 (s.digest i) := .ite h.ppsJudge (.ite (h.t0Read _) (.ite h.t1Whole h))

/-! A character passed on. -/

theorem Follows.passChar (c : RxChar) : Follows i s0 (s.passChar i c) := by
  have queued : Follows i s0 (if !(s.slot i).ch.txq.isEmpty then s else
      s.modSlot i fun x => { x with ch := { x.ch with rxBuf := x.ch.rxBuf ++ [c] } }) := .ite h (h.keep (by intro; rfl))
  unfold State.passChar
  refine .ite (h.bump i 21) ?_
  split
  · exact h.atrChar _ _
  · split
    · exact h.t0Char c
    · exact queued
    · exact queued
    · exact queued
    · exact queued
    · exact queued
    · exact h
  · split
    · exact h.t0Char c
    · exact queued
    · exact queued
    · exact queued
    · exact queued
    · exact queued
    · exact h
  · exact h

theorem Follows.rxPass (l : BitVec 9) (good : Bool) : Follows i s0 (s.rxPass i l good) := by
  unfold State.rxPass
  extract_lets x s1 s2 p s3
  have released : Follows i s0 s1 := h.keep (by intro; rfl)
  have framed : Follows i s0 s2 := .ite released (released.bump i 15)
  refine .ite (framed.keep fun x => ?_) (.ite ?_ ?_)
  · split <;> rfl
  · split
    · exact ((framed.keep (by intro; rfl)).armWait _ _ _ _ _ _ _).atrChar _ _
    · exact (framed.keep (by intro; rfl)).atrChar _ _
  · exact ((Follows.ite (framed.bump i 19) framed).keep (by intro; rfl)).passChar _

theorem Follows.rxRipe : Follows i s0 (s.rxRipe i) := by
  unfold State.rxRipe
  refine Follows.digest ?_
  split
  · exact .ite (h.rxPass _ _) h
  · exact h

end

end Sys2Proof.Machine
end

section
/-! PROOFS of the activation family: slot commands on a slot in service or in activation, and the slot schedules (02 R40, R47, R54, R59, R62, 05 R145). -/

namespace Sys2Proof.Machine

/-! A deactivation that has begun. -/

/-- From x to y a deactivation toward a state has begun, at ck n unless one ran or VCC is off (02 R59). -/
structure Slot.Downs (n : Nat) (dst : SlotState) (x y : Slot) : Prop where
  st : y.st = dst
  cmdErr : y.regs.cmdErr = x.regs.cmdErr
  deactAt : y.regs.deactAtArmed = x.regs.deactAtArmed
  phase : y.seq.phase = .none
  restartAt : y.seq.restartAt = none
  vcc : y.seq.vcc = x.seq.vcc
  mode : y.pr.mode = .idle
  txq : y.ch.txq = []
  begins : x.seq.vcc ≠ .off → x.seq.deactT0 = none → y.seq.rst = false ∧ y.seq.steps = 1 ∧ y.seq.deactT0 = some n ∧ y.seq.discharging = true
  actResult : x.st ≠ .busy → y.regs.actResult = if x.inActivation then 6 else x.regs.actResult

/-- The state that a deactivation ends in. -/
abbrev downState (park : Bool) : SlotState := if park then .parked else .present

theorem State.beginDeact_downs (s : State) (i : Nat) (park : Bool) : (s.slot i).Downs s.now (downState park) ((s.beginDeact i park).slot i) := by
  obtain ⟨hst, hmode, htxq, hseq, hregs⟩ := s.beginDeact_spec i park
  obtain ⟨hphase, hrestart, hvcc, -⟩ := SlotSeq.toDown_rest (s.slot i).seq s.now
  have begins (hv : (s.slot i).seq.vcc ≠ .off) (hd : (s.slot i).seq.deactT0 = none) := SlotSeq.toDown_begins hv hd s.now
  rw [← hseq] at hphase hrestart hvcc begins
  refine ⟨hst, ?_, ?_, hphase, hrestart, hvcc, hmode, htxq, begins, fun _ => ?_⟩
  all_goals rw [hregs]; split <;> rfl

/-- A deactivation that runs since ck n, or begins now. -/
theorem SlotSeq.toDown_begun {q : SlotSeq} {n : Nat} (hv : q.vcc ≠ .off)
    (h : q.deactT0 = none ∨ (q.deactT0 = some n ∧ q.rst = false ∧ q.steps = 1 ∧ q.discharging = true)) :
    (q.toDown n).rst = false ∧ (q.toDown n).steps = 1 ∧ (q.toDown n).deactT0 = some n ∧ (q.toDown n).discharging = true := by
  rcases h with h | ⟨hstart, hrst, hsteps, hdis⟩
  · exact SlotSeq.toDown_begins hv h n
  · obtain ⟨-, -, -, -, ⟨er, es, ed, ei⟩ | h⟩ := q.toDown_rest n
    · exact ⟨er.trans hrst, es.trans hsteps, ed.trans hstart, ei.trans hdis⟩
    · exact h

/-- With FORCE what was received is read first, which may itself begin the deactivation (02 R40, 01 R16). -/
theorem State.forceDeact_downs {s : State} {i : Nat} (hb : (s.slot i).st = .busy) (park : Bool) :
    (s.slot i).Downs s.now (downState park) ((s.forceDeact i park).slot i) := by
  obtain ⟨u, read, e⟩ : ∃ u, Follows i s u ∧ s.forceDeact i park = u.beginDeact i park := ⟨_, ((Follows.refl i s).keep (by intro; rfl)).rxRipe, rfl⟩
  rw [e]
  have down := u.beginDeact_downs i park
  refine ⟨down.st, down.cmdErr.trans read.slot.cmdErr, down.deactAt.trans read.slot.deactAt, down.phase, down.restartAt, down.vcc.trans read.slot.vcc, down.mode,
    down.txq, fun hv hd => ?_, absurd hb⟩
  obtain ⟨-, -, -, hseq, -⟩ := u.beginDeact_spec i park
  rw [hseq, read.now]
  refine SlotSeq.toDown_begun (by rw [read.slot.vcc]; exact hv) ?_
  rw [← hd]
  exact read.slot.deactT0

section
variable {s : State} {i : Nat} {force : Bool}
  (hst : (s.slot i).st ∈ [SlotState.activating, .atr, .negotiating, .ready, .clockstop] ∨ (s.slot i).st = .busy ∧ force = true)
include hst

theorem State.cmdDeactivate_downs : (s.cmdDeactivate i force).1 = .none ∧ (s.slot i).Downs s.now .present ((s.cmdDeactivate i force).2.slot i) := by
  simp only [List.mem_cons, List.not_mem_nil, or_false] at hst
  rcases hst with (h | h | h | h | h) | ⟨h, rfl⟩ <;> simp only [State.cmdDeactivate, h, if_true, true_and]
  case inr => exact State.forceDeact_downs h false
  all_goals exact s.beginDeact_downs i false

theorem State.cmdPark_downs : (s.cmdPark i force).1 = .none ∧ (s.slot i).Downs s.now .parked ((s.cmdPark i force).2.slot i) := by
  simp only [List.mem_cons, List.not_mem_nil, or_false] at hst
  rcases hst with (h | h | h | h | h) | ⟨h, rfl⟩ <;> simp only [State.cmdPark, h, if_true, true_and]
  case inr => exact State.forceDeact_downs h true
  all_goals exact s.beginDeact_downs i true

end

/-! Commands that wait for the end of the transaction. -/

section
variable {s : State} {i : Nat}

theorem State.cmdDeactivate_waits (h : (s.slot i).st = .busy) : s.cmdDeactivate i false =
    (.none, s.modSlot i fun x => { x with seq := { x.seq with deactPend := true } }) := by
  simp only [State.cmdDeactivate, h, Bool.false_eq_true, if_false]

theorem State.cmdPark_waits (h : (s.slot i).st = .busy) : s.cmdPark i false =
    (.none, s.modSlot i fun x => { x with seq := { x.seq with deactPend := true, parkPend := true } }) := by
  simp only [State.cmdPark, h, Bool.false_eq_true, if_false]

theorem State.cmdWarmReset_waits (h : (s.slot i).st = .busy ∨ (s.slot i).st ∈ [SlotState.ready, .clockstop] ∧ (s.slot i).holder.isSome = true) :
    s.cmdWarmReset i = (.none, s.modSlot i fun x => { x with seq := { x.seq with warmPend := true } }) := by
  simp only [List.mem_cons, List.not_mem_nil, or_false] at h
  rcases h with h | ⟨h | h, hh⟩
  · simp only [State.cmdWarmReset, h]
  · simp only [State.cmdWarmReset, h, Option.isNone_eq_false_iff.mpr hh, Bool.false_eq_true, if_false]
  · simp only [State.cmdWarmReset, h, Option.isNone_eq_false_iff.mpr hh, Bool.false_eq_true, if_false]

theorem State.cmdWarmReset_free (hst : (s.slot i).st ∈ [SlotState.ready, .clockstop]) (hh : (s.slot i).holder = none) :
    s.cmdWarmReset i = (.none, s.warmStart i) := by
  simp only [List.mem_cons, List.not_mem_nil, or_false] at hst
  rcases hst with h | h <;> simp only [State.cmdWarmReset, h, hh, Option.isNone_none, if_true]

end

/-! A warm reset of a slot whose clock runs. -/

section
variable {x y : Slot} (h : y.clock = x.clock) (n : Nat)
include h

theorem Slot.warmFall_clock (hd : y.actDiv = x.actDiv) : (y.stageDiv n y.actDiv).nextFall n = (x.stageDiv n x.actDiv).nextFall n := by
  rw [hd]
  exact Slot.nextFall_clock (Slot.stageDiv_clock h n _) n

theorem Slot.divNow_clock : y.divNow n = x.divNow n := (Slot.clock_fields (Slot.takeUp_clock h n)).2.1

end

/-- A warm reset after a change of the slot that leaves its clock and ACT_DIV alone. -/
theorem State.warmReset_after (s : State) (i : Nat) (f : Slot → Slot) (hc : (f (s.slot i)).clock = (s.slot i).clock)
    (hd : (f (s.slot i)).actDiv = (s.slot i).actDiv) : let x := s.slot i; let y := ((s.modSlot i f).warmReset i).slot i
    y.st = .activating ∧ y.pr.mode = .idle ∧ y.ch.convSet = false ∧ (∃ c e, y.regs = { (f x).regs with charCfg := c, charEtu := e }) ∧
    (x.seq.clkRun = true → x.actDiv = x.divNow s.now ∨ y.seq.divNext = some x.actDiv) ∧
    ∃ m r d a, y.seq = { (f x).seq with
      div := m, clkRef := r, divNext := d, divAt := a, rst := false, phase := .warm ((x.stageDiv s.now x.actDiv).nextFall s.now), warmed := true
      warmPend := false, restartAt := none, warmAfterRestart := false } := by
  obtain ⟨hst, hmode, hconv, hregs, hdiv, hseq⟩ := (s.modSlot i f).warmReset_spec i
  rw [State.modSlot_slot] at hregs
  rw [State.modSlot_slot, State.modSlot_at_now, Slot.divNow_clock hc, (Slot.clock_fields hc).1, hd] at hdiv
  simp only [State.modSlot_slot, State.modSlot_at_now, Slot.warmFall_clock hc s.now hd] at hseq
  exact ⟨hst, hmode, hconv, hregs, hdiv, hseq⟩

/-- The warm reset of READY starts ATR_RETRIES afresh (02 R54). -/
theorem State.warmStart_ready {s : State} {i : Nat} (hst : (s.slot i).st = .ready) : s.warmStart i =
    (s.modSlot i fun x => { x with seq := { x.seq with retries := 0, negResetUsed := false, warmPend := false } }).warmReset i := by
  rw [State.warmStart, if_neg (by rw [hst]; decide)]

/-- The warm reset of CLOCKSTOP restarts the clock and waits (02 R54, R58). -/
theorem State.warmStart_clockstop {s : State} {i : Nat} (hst : (s.slot i).st = .clockstop) :
    let x := s.slot i; let y := (s.warmStart i).slot i
    y.st = .clockstop ∧ y.regs = x.regs ∧ y.seq.retries = 0 ∧ y.seq.warmPend = false ∧ y.seq.restartAt = some (x.seq.restartAt.getD s.now) ∧
    y.seq.warmAfterRestart = true ∧ (x.seq.restartAt = none → y.seq.clkRun = true) ∧ Evolves [.slots] s (s.warmStart i) := by
  rw [State.warmStart, if_pos hst]
  dsimp only
  rw [State.modSlot_slot, State.modSlot_slot]
  have cleared := (Evolves.refl (l := [.slots]) s).modSlot i
    (fun x => { x with seq := { x.seq with retries := 0, negResetUsed := false, warmPend := false } }) rfl
  have changed := cleared.modSlot i (fun x =>
      let y := if x.seq.restartAt.isNone then x.startClk s.now else x
      { y with seq := { y.seq with restartAt := some (x.seq.restartAt.getD s.now), warmAfterRestart := true } }) rfl
  cases hr : (s.slot i).seq.restartAt with
  | none => exact ⟨hst, rfl, rfl, rfl, rfl, rfl, fun _ => rfl, changed⟩
  | some n => exact ⟨hst, rfl, rfl, rfl, rfl, rfl, (absurd · (Option.some_ne_none n)), changed⟩

/-- Settles O10: what a transaction holds waits, a deactivation is at its time 0, and a warm reset has RST low. -/
theorem slotCommandsInService : Obligations.SlotCommandsInService := by
  intro s ag i w hwf hag h h7 h8 x pend down
  have hs := State.wf_slots hwf
  have warm := exec_warmReset hag h h7 h8 i
  have deactivates := exec_deactivate hag h h7 h8 i
  have parks := exec_park hag h h7 h8 i
  have noted (f : SlotSeq → SlotSeq) : Host.Outcome.next (State.answered i (.none, s.modSlot i fun x => { x with seq := f x.seq })) = pend f := by
    rw [State.answered_modSlot hs i]
  have waits (hw : x.st = .busy ∨ x.st ∈ [SlotState.ready, .clockstop] ∧ x.holder.isSome = true) :
      exec (.warmReset ag i w) s = pend fun q => { q with warmPend := true } := by 
    rw [warm, State.cmdWarmReset_waits hw]
    exact noted fun q => { q with warmPend := true }
  have begun {dst : SlotState} {u t : State} (hu : x.Downs s.now dst (u.slot i)) (ht : t = u.slotErr i .none) (ho : OtherSlots i s t)
      (hc : Changes [.slots, .timers, .dev, .flow, .mram, .cores, .telemetry, .counts, .lpos, .audit, .crypto, .loops, .out, .pba] s t) : down dst t := by
    have e : t.slot i = { u.slot i with regs := { (u.slot i).regs with cmdErr := .none } } := by rw [ht, State.slotErr, State.modSlot_slot]
    refine ⟨?_, ?_, ?_, ?_, ?_, ?_, ?_, ?_, ?_, ho, hc⟩
    all_goals rw [e]
    exacts [hu.st, hu.phase, hu.restartAt, hu.vcc, hu.mode, hu.txq, hu.begins, hu.actResult]
  refine ⟨fun hst => waits (.inl hst), fun hst hh => waits (.inr ⟨hst, hh⟩), fun hst hf => ⟨?_, ?_⟩, fun hst => ⟨?_, ?_⟩,
    fun hst hh => ?_, fun hst hh => ?_⟩
  · rw [deactivates, hf, State.cmdDeactivate_waits hst]
    exact noted fun q => { q with deactPend := true }
  · rw [parks, hf, State.cmdPark_waits hst]
    exact noted fun q => { q with deactPend := true, parkPend := true }
  · obtain ⟨he, hd⟩ := State.cmdDeactivate_downs hst
    refine does_of_slot rfl deactivates fun ho => begun hd (by rw [State.answered, he]) ho ?_
    exact (State.slotErr_evolves rfl _ _ _ (State.cmdDeactivate_evolves rfl s i _ (.refl s))).changes
  · obtain ⟨he, hd⟩ := State.cmdPark_downs hst
    refine does_of_slot rfl parks fun ho => begun hd (by rw [State.answered, he]) ho ?_
    exact (State.slotErr_evolves rfl _ _ _ (State.cmdPark_evolves rfl s i _ (.refl s))).changes
  · obtain ⟨hact, hmode, hconv, -, hdiv, m, r, d, a, hseq⟩ :=
      s.warmReset_after i (fun x => { x with seq := { x.seq with retries := 0, negResetUsed := false, warmPend := false } }) rfl rfl
    rw [State.cmdWarmReset_free (by rw [hst]; decide) hh, State.answered, State.warmStart_ready hst] at warm
    refine does_of_slot rfl warm fun ho => ?_
    dsimp only [State.slotErr]
    rw [State.modSlot_slot]
    refine ⟨hact, rfl, by rw [hseq], by rw [hseq], hdiv, by rw [hseq], by rw [hseq], by rw [hseq], by rw [hseq], hmode, hconv, ho, ?_⟩
    exact (State.slotErr_evolves rfl _ _ .none (State.warmReset_evolves rfl _ _ ((Evolves.refl s).modSlot _ _ rfl))).changes
  · obtain ⟨hstop, hregs, hretries, hpend, hrestart, hafter, hrun, changed⟩ := State.warmStart_clockstop hst
    rw [State.cmdWarmReset_free (by rw [hst]; decide) hh, State.answered] at warm
    refine does_of_slot rfl warm fun ho => ?_
    dsimp only [State.slotErr]
    rw [State.modSlot_slot]
    exact ⟨hretries, hpend, hrestart, hafter, hstop, hrun, by rw [hregs], ho, (changed.modSlot i _ rfl).changes⟩

/-! Schedules. -/

section
variable {s : State} {i : Fin 64} {a : Tide} (hle : a ≤ s.ltide) (h8 : s.alarmBy s.ltide 8 = false)
include hle h8

/-- An ACT_AT that is due acts as an ACTIVATE whose success leaves CMD_ERR. -/
theorem exec_actAtDue (ha : (s.slot i).regs.actAtArmed = some a) (hd : s.deactBy s.ltide 64 = false) (hl : s.actBy s.ltide i = false) :
    let r := (s.modSlot i fun x => { x with regs := { x.regs with actAtArmed := none } }).cmdActivate i
    exec (.actAtDue i) s = .next (if r.1 = .none then r.2 else State.answered i r) := by
  dsimp only
  change execActAtDue i s = _
  unfold execActAtDue
  rw [ha]
  simp only [State.dueAt, if_pos hle, h8, hd, hl, Bool.or_self, Bool.false_eq_true, if_false, State.elapseTide]
  rfl

/-- A DEACT_AT that is due acts as a DEACTIVATE, with FORCE where SCHED_FORCE is 1. -/
theorem exec_deactAtDue (ha : (s.slot i).regs.deactAtArmed = some a) (hl : s.deactBy s.ltide i = false) :
    let r := (s.modSlot i fun x => { x with regs := { x.regs with deactAtArmed := none } }).cmdDeactivate i (bitOf (s.slot i).regs.cfg 17)
    exec (.deactAtDue i) s = .next (if r.1 = .none then r.2 else State.answered i r) := by
  dsimp only
  change execDeactAtDue i s = _
  unfold execDeactAtDue
  rw [ha]
  simp only [State.dueAt, if_pos hle, h8, hl, Bool.or_self, Bool.false_eq_true, if_false, State.elapseTide]
  rfl

end

/-- Settles O12: at its tide a schedule disarms and is the command itself, whose success leaves CMD_ERR. -/
theorem slotSchedules : Obligations.SlotSchedules := by
  intro s ag i v hwf x
  have hs := State.wf_slots hwf
  refine ⟨fun hag => ⟨?_, ?_⟩, fun a ha hle h8 hd hl => ⟨fun hst hp k l ht => ?_, fun hst => ?_⟩,
    fun a ha hle h8 hl => ⟨fun hst => ?_, fun hst hf => ?_⟩⟩
  · change Host.Outcome.next (s.writeActAtHi ag i v) = _
    rw [State.writeActAtHi, State.granted_of_allows hag, State.slotErr, State.modSlot_modSlot _ _ _ _ hs]
  · change Host.Outcome.next (s.writeDeactAtHi ag i v) = _
    rw [State.writeDeactAtHi, State.granted_of_allows hag, State.slotErr, State.modSlot_modSlot _ _ _ _ hs]
  · rw [exec_actAtDue hle h8 ha hd hl, State.cmdActivate_asks (twf_tset _ _ _ _ hs) i (by rw [State.modSlot_slot]; exact hst)
      (by rw [State.modSlot_slot]; exact hp) (by rw [State.modSlot_slot]; exact ht), if_pos rfl, State.modSlot_modSlot _ _ _ _ hs]
    rfl
  · rw [exec_actAtDue hle h8 ha hd hl, State.cmdActivate_refused (by rw [State.modSlot_slot]; exact hst), State.modSlot_slot,
      if_neg (by dsimp only; split <;> decide), State.answered_modSlot hs]
    exact congrArg _ (State.modSlot_congr rfl)
  · obtain ⟨he, down⟩ := State.cmdDeactivate_downs
      (s := s.modSlot i fun x => { x with regs := { x.regs with deactAtArmed := none } }) (i := i) (force := bitOf x.regs.cfg 17)
      (by rw [State.modSlot_slot]; exact hst)
    have due := (exec_deactAtDue hle h8 ha hl).trans (congrArg _ (if_pos he))
    rw [State.modSlot_slot] at down
    refine does_of_slot rfl due fun ho => ⟨down.st, down.deactAt, down.cmdErr, fun hv hd => ?_, ho, ?_⟩
    · obtain ⟨hrst, -, hstart, -⟩ := down.begins hv hd
      exact ⟨hrst, hstart⟩
    · exact (State.cmdDeactivate_evolves rfl _ i _ ((Evolves.refl s).modSlot _ _ rfl)).changes
  · rw [exec_deactAtDue hle h8 ha hl, hf, State.cmdDeactivate_waits (by rw [State.modSlot_slot]; exact hst), if_pos rfl, State.modSlot_modSlot _ _ _ _ hs]

end Sys2Proof.Machine
end

section
/-! PROOFS of the activation family: presence, and the steps of an activation (02 R45 to R48, R54, R60, 03 R65 to R69, R75, R76, R88). -/

namespace Sys2Proof.Machine

/-! A quench. -/

theorem State.unstart_follows (s : State) (i : Nat) : Follows i s (s.unstart i) := by
  unfold State.unstart
  dsimp only
  split
  · exact ((Follows.refl i s).keep (by intro; rfl)).of (State.emit_evolves (ps := [.out]) rfl (.refl _)) (by decide) (by decide)
  · exact .refl i s

/-- A powered slot is quenched at this very ck, for the cause alone (03 R66, R68). -/
theorem State.quench_spec {s : State} {i : Nat} (hh : s.boot.slotHeld = false) (hq : (s.slot i).st ≠ .quenching) (hp : (s.slot i).powered = true)
    (cause : Nat) : ((s.quench i cause).slot i).st = .quenching ∧ ((s.quench i cause).slot i).regs.primary = cause ∧
      ((s.quench i cause).slot i).regs.also = 1#11 <<< (cause - 1) ∧ ((s.quench i cause).slot i).seq.quenchT0 = some s.now ∧
      ((s.quench i cause).slot i).seq.pres = (s.slot i).seq.pres := by
  unfold State.quench
  rw [if_neg (by rw [hh]; decide), if_neg hq, if_pos hp]
  extract_lets s0 x low s1 s2 s3
  have read : Follows i s s0 := by
    refine Follows.trans ?_ (State.unstart_follows _ i)
    refine Follows.rxRipe (.ite ?_ (.refl i s))
    exact (Follows.refl i s).of (State.endLoop_evolves (ps := [.loops]) rfl _ _ _ (.refl s)) (by decide) (by decide)
  have stopped : Stands i (s0.modSlot i fun x => { x with regs := { x.regs with also := 1#11 <<< (cause - 1), primary := cause, quenchAt := s.ltide } }) s1 :=
    (Stands.refl i _).of (State.post_evolves (ps := [.telemetry, .timers, .dev, .counts, .out, .pba]) rfl _ _ _ _ _
      (State.stopSlotTimers_evolves rfl _ _ (State.bump_evolves rfl _ _ _ (.refl _)))) (by decide) (by decide)
  have left : Stands i s1 s3 := by
    refine ((s1.endWaiters_stands i cause).trans (State.forceEnd_stands _ i 0x90 cause)).trans ?_
    unfold s3
    split
    · exact s2.leaveService_stands i true 0x90 cause
    · exact .refl i s2
  have stood := (stopped.trans left).slot
  rw [State.modSlot_slot] at stood
  have emitted (u : State) (o : Out) : (u.emit o).slot i = u.slot i := rfl
  rw [emitted, State.modSlot_slot]
  refine ⟨rfl, ?_, ?_, rfl, ?_⟩
  · rw [stood.regs]
    split <;> rfl
  · rw [stood.regs]
    split <;> rfl
  · dsimp only
    rw [stood.seq]
    exact read.slot.pres

/-! The presence switch. -/

/-- The switch reads open (03 R75): the slot is without a card, and a card that was there is audited as gone. -/
def State.absent (s : State) (i : Nat) : State :=
  let s1 := s.modSlot i fun x => { x with seq := { x.seq with pres := false, debounce := none } }
  if (s.slot i).seq.pres then (s1.captureSlot i 4).auditRoutine 0x10 [i, 0] else s1

theorem State.presenceRead_slot (s : State) (i present j : Nat) : ((s.captureSlot i 4).auditRoutine 0x10 [i, present]).slot j = s.slot j :=
  (State.auditRoutine_evolves (ps := [.timers, .dev, .flow, .mram, .cores, .counts, .lpos, .audit, .out, .pba]) rfl _ _ _
    (State.captureSlot_evolves rfl s i 4 (.refl s))).slot_eq (by decide) j

theorem State.presenceRead_now (s : State) (i present : Nat) : ((s.captureSlot i 4).auditRoutine 0x10 [i, present]).now = s.now :=
  (State.auditRoutine_evolves (ps := [.timers, .dev, .flow, .mram, .cores, .counts, .lpos, .audit, .out, .pba]) rfl _ _ _
    (State.captureSlot_evolves rfl s i 4 (.refl s))).now_eq (by decide)

theorem State.absent_evolves (s : State) (i : Nat) : Evolves slotParts s (s.absent i) := by
  have opened : Evolves slotParts s (s.modSlot i fun x => { x with seq := { x.seq with pres := false, debounce := none } }) := (Evolves.refl s).modSlot _ _ rfl
  exact .ite (fun _ => State.auditRoutine_evolves rfl _ _ _ (State.captureSlot_evolves rfl _ _ _ opened)) fun _ => opened

theorem State.absent_slot (s : State) (i : Nat) :
    (s.absent i).slot i = { s.slot i with seq := { (s.slot i).seq with pres := false, debounce := none } } := by
  unfold State.absent
  dsimp only
  split
  · rw [State.presenceRead_slot, State.modSlot_slot]
  · rw [State.modSlot_slot]

theorem exec_presAbsent_powered {s : State} {i : Fin 64} (hh : s.boot.slotHeld = false) (hp : (s.slot i).powered = true) :
    exec (.presAbsent i) s = .next ((s.absent i).quench i 1) := by
  change execPresAbsent i s = _
  rw [execPresAbsent, if_neg (by rw [hh]; decide)]
  exact if_pos hp

theorem exec_presAbsent_present {s : State} {i : Fin 64} (hh : s.boot.slotHeld = false) (hp : (s.slot i).powered = false) (hst : (s.slot i).st = .present) :
    exec (.presAbsent i) s = .next (((s.absent i).endWaiters i).modSlot i fun x => { x with st := .empty, seq := { x.seq with phase := .none } }) := by
  change execPresAbsent i s = _
  rw [execPresAbsent, if_neg (by rw [hh]; decide)]
  dsimp only
  rw [if_neg (by rw [hp]; decide), hst]
  rfl

/-- The switch reads closed at the end of the debounce, ck d (03 R75): there is a card, which is audited. -/
def State.closed (s : State) (i d : Nat) : State :=
  (((s.elapseTo d).modSlot i fun x => { x with seq := { x.seq with pres := true, debounce := none } }).captureSlot i 4).auditRoutine 0x10 [i, 1]

theorem State.closed_evolves (s : State) (i d : Nat) : Evolves (Part.now :: .tide :: slotParts) s (s.closed i d) :=
  State.auditRoutine_evolves rfl _ _ _ (State.captureSlot_evolves rfl _ _ _ (((Evolves.refl s).elapseTo d rfl).modSlot _ _ rfl))

theorem State.closed_slot (s : State) (i d : Nat) :
    (s.closed i d).slot i = { s.slot i with seq := { (s.slot i).seq with pres := true, debounce := none } } := by
  rw [State.closed, State.presenceRead_slot, State.modSlot_slot, State.elapseTo_at_slot]

theorem State.closed_now (s : State) (i d : Nat) : (s.closed i d).now = max s.now d := by
  rw [State.closed, State.presenceRead_now, State.modSlot_at_now, State.elapseTo_now]

theorem exec_presDebounceDone {s : State} {i : Fin 64} {d : Nat} (hd : (s.slot i).seq.debounce = some d) (hst : (s.slot i).st = .empty) :
    let u := (s.closed i d).modSlot i fun x => { x with st := .present }
    exec (.presDebounceDone i) s = .next (if bitOf (s.slot i).regs.cfg 9 then u.askActivation i else u) := by
  change execPresDebounceDone i s = _
  rw [execPresDebounceDone, hd]
  exact if_pos hst

/-- What a slot that asks for an activation keeps, and when it waits for a ramp. -/
theorem State.askActivation_slot (s : State) (i : Nat) : let x := s.slot i; let y := (s.askActivation i).slot i
    y.st = x.st ∧ y.regs = x.regs ∧ y.seq.pres = x.seq.pres ∧ y.seq.debounce = x.seq.debounce ∧ (trialOrder x.regs.cfg ≠ [] → y.seq.phase = .wait) := by
  unfold State.askActivation
  dsimp only
  rw [State.modSlot_slot]
  cases trialOrder (s.slot i).regs.cfg with
  | nil => exact ⟨rfl, rfl, rfl, rfl, absurd rfl⟩
  | cons k l => exact ⟨rfl, rfl, rfl, rfl, fun _ => rfl⟩

/-- Settles O13: an open switch quenches or empties, a closed one debounces, and the gap ends 10 ms after VCC fell. -/
theorem presence : Obligations.Presence := by
  intro s i x
  refine ⟨fun hh _ hp hst => ?_, fun hh hp hst => ?_, fun hh hpres hdeb => ?_, fun d hd hst => ?_, fun g hg hl => ?_⟩
  · have waits := (s.absent i).endWaiters_stands i 0
    refine does_of_slot rfl (exec_presAbsent_present hh hp hst) fun ho => ?_
    rw [State.modSlot_slot]
    refine ⟨rfl, ?_, rfl, ?_, ho, ?_⟩
    · dsimp only
      rw [waits.slot.seq, State.absent_slot]
    · dsimp only
      rw [waits.slot.seq, State.absent_slot]
    · exact ((State.endWaiters_evolves rfl _ _ _ ((s.absent_evolves i).mono rfl)).modSlot _ _ rfl).changes
  · have gone := s.absent_evolves i
    obtain ⟨hq, hprim, halso, ht0, hpres⟩ := State.quench_spec (s := s.absent i) (i := i) (by rw [gone.boot_eq (by decide)]; exact hh)
      (by rw [State.absent_slot]; exact hst) (by rw [State.absent_slot]; exact hp) 1
    refine does_of_slot rfl (exec_presAbsent_powered hh hp) fun ho =>
      ⟨hq, hprim, halso, by rw [ht0, gone.now_eq (by decide)], by rw [hpres, State.absent_slot], ho, ?_⟩
    exact (State.quench_evolves rfl _ _ _ (gone.mono rfl)).changes
  · change execPresPresentRead i s = _
    rw [execPresPresentRead]
    dsimp only
    rw [if_neg (by rw [hh, hpres, hdeb]; decide)]
  · have done := exec_presDebounceDone hd hst
    have due : d ≤ (s.closed i d).now := by rw [State.closed_now]; exact le_max_right _ _
    have changed : Evolves (Part.now :: .tide :: slotParts) s ((s.closed i d).modSlot i fun x => { x with st := .present }) :=
      (s.closed_evolves i d).modSlot _ _ rfl
    have slot : ((s.closed i d).modSlot i fun x => { x with st := .present }).slot i =
        { x with st := .present, seq := { x.seq with pres := true, debounce := none } } := by rw [State.modSlot_slot, State.closed_slot]
    cases hb : bitOf x.regs.cfg 9 with
    | true =>
      obtain ⟨hst', hregs, hpres, hdeb, hwait⟩ := State.askActivation_slot ((s.closed i d).modSlot i fun x => { x with st := .present }) i
      rw [slot] at hst' hregs hpres hdeb hwait
      refine does_of_slot rfl (done.trans (congrArg _ (if_pos hb))) fun ho => ?_
      refine ⟨due, hst', hpres, hdeb, hregs, fun _ => hwait, fun h => absurd h (by decide), ho, ?_⟩
      exact (State.askActivation_evolves rfl _ _ (changed.mono rfl)).changes
    | false =>
      refine does_of_slot rfl (done.trans (congrArg _ (if_neg (by rw [hb]; decide)))) fun ho => ?_
      rw [slot]
      exact ⟨due, rfl, rfl, rfl, rfl, fun h => absurd h (by decide), fun _ => rfl, ho, (changed.mono rfl).changes⟩
  · have ends : exec (.reactGapEnd i) s = .next ((s.elapseTo (g + 4800000)).modSlot i fun x =>
        { x with seq := { x.seq with gapFrom := none, askedAt := max x.seq.askedAt (s.elapseTo (g + 4800000)).ltide.toNat } }) := by
      change execReactGapEnd i s = _
      rw [execReactGapEnd, hg]
      exact if_neg (by rw [hl]; decide)
    refine does_of_slot rfl ends fun ho => ?_
    rw [State.modSlot_slot, State.elapseTo_at_slot]
    refine ⟨?_, rfl, rfl, rfl, rfl, ho, (((Evolves.refl s).elapseTo _ rfl).modSlot _ _ rfl).changes⟩
    rw [State.modSlot_at_now, State.elapseTo_now]
    exact le_max_right _ _

/-! The VCC ramp. -/

theorem State.modPolder_slot (s : State) (p : Nat) (f : Polder → Polder) (i : Nat) : (s.modPolder p f).slot i = s.slot i := rfl

theorem State.modSlot_polder (s : State) (i : Nat) (f : Slot → Slot) (p : Nat) : (s.modSlot i f).polder p = s.polder p := rfl

/-- Slot x at the start of its ramp, at ck now and tide v (02 R48 step 1). -/
def Slot.toRamp (x : Slot) (now : Nat) (v : Tide) : Slot :=
  let y := if x.st = .present then x.enterActivating else x
  { y with
    seq := { y.seq with vcc := .ramp, phase := .ramp now, cls := some y.seq.tryCls, rst := false, clkRun := false, ioUp := false, warmed := false,
                        settled := false, steps := 0, deactT0 := none, quenchT0 := none }
    regs := { y.regs with actStart := v } }

theorem exec_vccRampStart {s : State} {i : Fin 64} (hl : s.boot.loaded = true) (hh : s.boot.slotHeld = false) (hp : s.tap.pins = false)
    (hf : (s.slot i).freeToRamp (s.polder (i.val / 8)) = true) (hn : s.nextRamp i = true)
    (hlast : ∀ v, (s.polder (i.val / 8)).lastRamp = some v → v + (s.polder (i.val / 8)).stagger.setWidth 64 ≤ s.ltide) : exec (.vccRampStart i) s =
      .next ((s.modSlot i fun x => x.toRamp s.now s.ltide).modPolder (i.val / 8) fun p => { p with lastRamp := some s.ltide }) := by
  change execVccRampStart i s = _
  rw [execVccRampStart]
  dsimp only
  rw [hl, hh, hp, hf, hn, if_pos (by decide)]
  cases hr : (s.polder (i.val / 8)).lastRamp with
  | none => rfl
  | some v =>
    simp only [State.elapseTide, if_pos (hlast v hr)]
    exact if_pos (decide_eq_true (hlast v hr))

/-! The settle check. -/

theorem exec_settleRequest {s : State} {i : Fin 64} {t0 : Nat} (hp : (s.slot i).seq.phase = .ramp t0) : exec (.settleRequest i) s =
    .next ((((s.elapseTo (t0 + (s.slot i).rampCk + 9600))).modSlot i fun x => { x with seq := { x.seq with vcc := .on, phase := .settle } }).modPolder (i.val / 8)
      fun p => { p with
        settle := (p.settle.filter fun e => e.1 ≠ i.val) ++ [(i.val, [])]
        convAt := if p.convUser.isNone then (s.elapseTo (t0 + (s.slot i).rampCk + 9600)).now else p.convAt
        convUser := some (p.convUser.getD (.settle i)) }) := by
  change execSettleRequest i s = _
  rw [execSettleRequest, hp]
  rfl

/-- The settle request of slot i is answered. -/
def State.settled (s : State) (i : Nat) : State := s.modPolder (i / 8) fun p => { p with settle := p.settle.filter fun e => e.1 ≠ i }

section
variable {s : State} {i : Fin 64} {l : List Nat} (hp : (s.slot i).seq.phase = .settle)
  (hf : (s.polder (i.val / 8)).settle.find? (fun e => e.1 = i.val) = some (i.val, l)) (hl : 4 ≤ l.length)
include hp hf hl

/-- Four samples in the window of the class start CLK, unless the slot is PARKED (02 R48 step 4). -/
theorem exec_settleCheckDone_passes
    (hw : 4 * (settleWindow (s.slot i).seq.tryCls).1 ≤ 2 * l.sum ∧ 2 * l.sum ≤ 4 * (settleWindow (s.slot i).seq.tryCls).2)
    (hst : (s.slot i).st ≠ .parked) :
    exec (.settleCheckDone i) s = .next ((s.settled i).modSlot i fun x => x.runClk s.now x.actDiv (.clk s.now) false) := by
  change execSettleCheckDone i s = _
  rw [execSettleCheckDone, hf, hp]
  dsimp only
  rw [if_neg (Nat.not_lt.mpr hl), if_pos hw]
  exact if_neg hst

theorem exec_settleCheckDone_fails
    (hw : ¬ (4 * (settleWindow (s.slot i).seq.tryCls).1 ≤ 2 * l.sum ∧ 2 * l.sum ≤ 4 * (settleWindow (s.slot i).seq.tryCls).2)) :
    exec (.settleCheckDone i) s = .next ((s.settled i).quench i 10) := by
  change execSettleCheckDone i s = _
  rw [execSettleCheckDone, hf, hp]
  dsimp only
  rw [if_neg (Nat.not_lt.mpr hl), if_neg hw]
  rfl

end

/-! The release of reset. -/

theorem Slot.countDuty_eq (x : Slot) (t : Nat) : ∃ p, x.countDuty t = { x with temp := p } := by
  unfold Slot.countDuty
  split
  · exact ⟨_, rfl⟩
  · exact ⟨x.temp, rfl⟩

/-- RST is high from this ck on, and the TS window runs on T1 (02 R48 step 6, R50). -/
theorem State.riseRst_spec (s : State) (i : Nat) : let x := s.slot i; let y := (s.riseRst i).slot i; let u := (s.riseRst i).timer (3 * i + 1)
    (y.st = .atr ∧ y.seq.rst = true ∧ y.seq.tb = s.now ∧ y.seq.phase = .none ∧ y.ch.atrOn = false ∧ y.ch.convSet = false ∧ y.regs = x.regs) ∧
    (u.en = true ∧ u.armed = true ∧ u.cmp = 40000) := by
  unfold State.riseRst
  extract_lets x s1 y u
  refine ⟨?_, ?_⟩
  · have kept : y = s1.slot i :=
      (State.armWait_evolves (ps := [.timers, .cores]) rfl _ _ _ _ _ _ _ _ (State.captureSlot_evolves rfl _ _ _ (.refl s1))).slot_eq (by decide) i
    obtain ⟨n, r, d, p, e⟩ := (s.slot i).takeUp_eq s.now
    unfold s1 at kept
    rw [State.modSlot_slot] at kept
    dsimp only at kept
    obtain ⟨q, e'⟩ := Slot.countDuty_eq _ s.now
    rw [e', e] at kept
    rw [kept]
    exact ⟨rfl, rfl, rfl, rfl, rfl, rfl, rfl⟩
  · have armed := State.modTimer_timer (s1.captureSlot i 3) (3 * i + 1)
    unfold u State.armWait
    rw [armed]
    exact ⟨rfl, rfl, rfl⟩

theorem exec_rstRise {s : State} {i : Fin 64} {t0 : Nat} (hp : (s.slot i).seq.phase = .io t0 ∨ (s.slot i).seq.phase = .warm t0) :
    exec (.rstRise i) s = .next ((s.elapseTo (t0 + (s.slot i).rstHold * (s.slot i).actDiv)).riseRst i) := by
  change execRstRise i s = _
  rw [execRstRise]
  rcases hp with hp | hp <;> rw [hp]

/-- Settles O14: each step of the activation, with its moment, from its own phase. -/
theorem activationSteps : Obligations.ActivationSteps := by
  intro s i x p
  refine ⟨fun hl hh hpins hf hn hlast => ?_, fun t0 hp => ?_, fun l hp hfind hlen => ?_, fun ta hp => ?_, fun t0 hp => ?_⟩
  · refine does_of_slot rfl (exec_vccRampStart hl hh hpins hf hn hlast) fun ho => ?_
    dsimp only
    rw [State.modPolder_slot, State.modSlot_slot, State.modPolder_polder, State.modSlot_polder]
    refine ⟨rfl, rfl, ?_, rfl, rfl, rfl, rfl, rfl, ?_, rfl, ho, (((Evolves.refl s).modSlot _ _ rfl).modPolder _ _ rfl).changes⟩
    · unfold Slot.toRamp
      dsimp only
      split <;> rfl
    · unfold Slot.toRamp
      dsimp only
      split
      · rfl
      · rfl
  · refine does_of_slot rfl (exec_settleRequest hp) fun ho => ?_
    refine ⟨State.elapseTo_now _ _, ?_, ?_, ho, ?_⟩
    · rw [State.modPolder_slot, State.modSlot_slot, State.elapseTo_at_slot]
    · rw [State.modPolder_polder, State.modSlot_polder, State.elapseTo_at_polder]
      cases hu : p.convUser <;> rfl
    · exact (((((Evolves.refl s).elapseTo _ rfl)).modSlot _ _ rfl).modPolder _ _ rfl).changes
  · have window (b : Bool) (hb : (decide (4 * (settleWindow x.seq.tryCls).1 ≤ 2 * l.sum) && decide (2 * l.sum ≤ 4 * (settleWindow x.seq.tryCls).2)) = b) :
        (4 * (settleWindow x.seq.tryCls).1 ≤ 2 * l.sum ∧ 2 * l.sum ≤ 4 * (settleWindow x.seq.tryCls).2) ↔ b = true := by
      rw [← hb, Bool.and_eq_true, decide_eq_true_eq, decide_eq_true_eq]
    refine ⟨fun hin hst => ?_, fun hin hon hst hh => ?_⟩
    · refine does_of_slot rfl (exec_settleCheckDone_passes hp hfind hlen ((window _ hin).mpr rfl) hst) fun ho => ?_
      dsimp only
      rw [State.modSlot_slot, State.modSlot_polder, State.settled, State.modPolder_slot, State.modPolder_polder]
      refine ⟨rfl, rfl, rfl, rfl, rfl, rfl, rfl, rfl, rfl, rfl, rfl, rfl, rfl, ho, ?_⟩
      exact (((Evolves.refl s).modPolder _ _ rfl).modSlot _ _ rfl).changes
    · have answered : Evolves [.polders] s (s.settled i) := (Evolves.refl s).modPolder _ _ rfl
      obtain ⟨hq, hprim, -, ht0, -⟩ := State.quench_spec (s := s.settled i) (i := i) hh hst hon 10
      refine does_of_slot rfl (exec_settleCheckDone_fails hp hfind hlen fun h => absurd ((window _ hin).mp h) (by decide)) fun ho => ⟨hq, hprim, ht0, ho, ?_⟩
      exact (State.quench_evolves rfl _ _ _ (answered.mono rfl)).changes
  · have released : exec (.ioRelease i) s = .next ((s.elapseTo (ta + 100 * x.divNow s.now)).modSlot i fun x =>
        { x with seq := { x.seq with ioUp := true, phase := .io ta } }) := by
      change execIoRelease i s = _
      rw [execIoRelease, hp]
    refine does_of_slot rfl released fun ho => ?_
    rw [State.modSlot_slot, State.elapseTo_at_slot, State.modSlot_at_now, State.elapseTo_now]
    exact ⟨rfl, rfl, ho, (((Evolves.refl s).elapseTo _ rfl).modSlot _ _ rfl).changes⟩
  · obtain ⟨⟨hst, hrst, htb, hphase, hatr, hconv, hregs⟩, hen, harmed, hcmp⟩ := (s.elapseTo (t0 + x.rstHold * x.actDiv)).riseRst_spec i
    have risen : Evolves [.now, .slots, .timers, .tide, .cores] s ((s.elapseTo (t0 + x.rstHold * x.actDiv)).riseRst i) :=
      State.riseRst_evolves rfl _ _ ((Evolves.refl s).elapseTo _ rfl)
    have same : ((s.elapseTo (t0 + x.rstHold * x.actDiv)).riseRst i).now = (s.elapseTo (t0 + x.rstHold * x.actDiv)).now :=
      (State.riseRst_evolves (ps := [.slots, .timers, .cores]) rfl _ i (.refl _)).now_eq (by decide)
    rw [State.elapseTo_at_slot] at hregs
    exact does_of_slot rfl (exec_rstRise hp) fun ho => ⟨same.trans (State.elapseTo_now _ _), hst, hrst, htb.trans same.symm, hphase, hatr, hconv, hregs, hen,
      harmed, hcmp, ho, risen.changes⟩

end Sys2Proof.Machine
end

section
/-! PROOFS of the activation family: an answer to reset that does not come or stops, and clock stop (02 R43, R50, R51, R54, R55, R58, 06 R156). -/

namespace Sys2Proof.Machine

/-! What has been received is read already. -/

theorem State.rxFlush_idle {s : State} {i : Nat} (h : (s.slot i).ch.rxHold = none) : s.rxFlush i = s := by rw [State.rxFlush, h]

theorem State.digest_idle {s : State} {i : Nat} (hp : (s.slot i).inPps = false) (h0 : (s.slot i).inT0 = false) (h1 : (s.slot i).inT1 = false) :
    s.digest i = s := by simp only [State.digest, hp, h0, h1, Bool.false_eq_true, if_false]

section
variable {s : State} {i : Nat} (hh : (s.slot i).ch.rxHold = none)
include hh

/-- In ATR the engine reads each character as it comes. -/
theorem State.expired_atr (hst : (s.slot i).st = .atr) {w : Wait} (hw : (s.slot i).wait = some w) : s.expired i w = s.expire i w := by
  have read : s.digest i = s := State.digest_idle (by simp [Slot.inPps, hst]) (by simp [Slot.inT0, hst]) (by simp [Slot.inT1, hst])
  rw [State.expired, State.rxFlush_idle hh, read]
  exact if_pos hw

theorem State.expired_other (hp : (s.slot i).inPps = false) (h0 : (s.slot i).inT0 = false) (h1 : (s.slot i).inT1 = false) {w : Wait}
    (hw : (s.slot i).wait ≠ some w) : s.expired i w = s := by
  rw [State.expired, State.rxFlush_idle hh, State.digest_idle hp h0 h1]
  exact if_neg hw

end

/-! What follows a failed answer to reset. -/

/-- Slot y resets warm at ck n once more, of a slot x (02 R43 rule 2). -/
def Slot.Again (x : Slot) (n : Nat) (y : Slot) : Prop :=
  y.st = .activating ∧ y.seq.rst = false ∧ y.seq.phase = .warm ((x.stageDiv n x.actDiv).nextFall n) ∧ y.seq.retries = x.seq.retries + b2n x.seq.warmed ∧
    y.seq.warmed = true ∧ y.seq.vcc = x.seq.vcc

/-- Slot y is on its way to class k from ck n on (02 R43, R59). -/
def Slot.Changes (k : SClass) (n : Nat) (y : Slot) : Prop :=
  y.st = .activating ∧ y.seq.phase = .classChange ∧ y.seq.tryCls = k ∧ y.seq.rst = false ∧ y.seq.deactT0 = some n ∧ y.seq.retries = 0

/-- The activation of slot y has failed with result r (02 R43, Table 2-15). -/
def Slot.Fails (r : Nat) (y : Slot) : Prop := y.st = .present ∧ y.regs.actResult = r ∧ y.seq.phase = .none

section
variable (s : State) (i : Nat)

theorem State.classChange_changes (k : SClass) : ((s.classChange i k).slot i).Changes k s.now ∧
    ((s.classChange i k).slot i).regs.atrErr = (s.slot i).regs.atrErr := by
  have slot : (s.classChange i k).slot i = { (s.slot i).enterActivating with
      seq := { (s.slot i).seq with rst := false, steps := 1, deactT0 := some s.now, discharging := true, phase := .classChange, tryCls := k, retries := 0,
                                   warmed := false } } := by
    have waits (u : State) : ((u.endWait i 0).endWait i 1).slot i = u.slot i := rfl
    unfold State.classChange
    dsimp only
    rw [waits, State.modSlot_slot]
  obtain ⟨c, e, hregs⟩ := (s.slot i).enterActivating_regs
  rw [slot]
  exact ⟨⟨rfl, rfl, rfl, rfl, rfl, rfl⟩, by rw [hregs]⟩

theorem State.failActivation_fails (r : Nat) : ((s.failActivation i r).slot i).Fails r ∧
    ((s.failActivation i r).slot i).regs.atrErr = (s.slot i).regs.atrErr := by
  obtain ⟨hst, -, -, hseq, hregs⟩ := s.beginDeact_spec i false
  obtain ⟨hphase, -⟩ := SlotSeq.toDown_rest (s.slot i).seq s.now
  rw [State.failActivation, State.modSlot_slot]
  refine ⟨⟨hst, rfl, hseq ▸ hphase⟩, ?_⟩
  dsimp only
  rw [hregs]
  split <;> rfl

end

/-- Slot y goes to the next permitted class of slot x at ck n, or its activation fails with result r. -/
def Slot.NextClass (x : Slot) (n r : Nat) (y : Slot) : Prop :=
  match classesAfter x.regs.cfg x.seq.tryCls with
  | k :: _ => y.Changes k n
  | [] => y.Fails r

/-- What an answer to reset that failed at ck n makes of slot x (02 R43 rules 1 and 2); noTs: no TS came. -/
def Slot.AfterAtr (x : Slot) (noTs : Bool) (n : Nat) (y : Slot) : Prop :=
  if noTs && !x.seq.warmed then x.NextClass n 2 y
  else if x.seq.retries + b2n x.seq.warmed < x.atrRetries then x.Again n y
  else x.NextClass n 3 y

theorem Slot.again_atrErr (x : Slot) (e n : Nat) (y : Slot) : ({ x with regs := { x.regs with atrErr := e } } : Slot).Again n y ↔ x.Again n y := by
  have fall := Slot.warmFall_clock (x := x) (y := { x with regs := { x.regs with atrErr := e } }) rfl n rfl
  unfold Slot.Again
  rw [fall]

theorem Slot.AfterAtr.of_atrErr {x : Slot} {e : Nat} {noTs : Bool} {n : Nat} {y : Slot}
    (h : ({ x with regs := { x.regs with atrErr := e } } : Slot).AfterAtr noTs n y) : x.AfterAtr noTs n y := by
  unfold Slot.AfterAtr at h
  rw [Slot.again_atrErr] at h
  exact h

section
variable {s : State} {i : Nat} {noTs : Bool}

theorem State.atrFail_retries (hr : (noTs && !(s.slot i).seq.warmed) = false)
    (hn : (s.slot i).seq.retries + b2n (s.slot i).seq.warmed < (s.slot i).atrRetries) : s.atrFail i noTs =
      (s.modSlot i fun x => { x with seq := { x.seq with retries := (s.slot i).seq.retries + b2n (s.slot i).seq.warmed } }).warmReset i :=
  if_pos (by rw [hr, decide_eq_true hn]; rfl)

section
variable (h : (noTs && !(s.slot i).seq.warmed) = true ∨ ¬ (s.slot i).seq.retries + b2n (s.slot i).seq.warmed < (s.slot i).atrRetries)
include h

theorem State.atrFail_changes {k : SClass} {l : List SClass} (hc : classesAfter (s.slot i).regs.cfg (s.slot i).seq.tryCls = k :: l) :
    s.atrFail i noTs = s.classChange i k := by
  unfold State.atrFail
  dsimp only
  rw [if_neg (by rcases h with h | h <;> simp [h]), hc]

theorem State.atrFail_fails (hc : classesAfter (s.slot i).regs.cfg (s.slot i).seq.tryCls = []) :
    s.atrFail i noTs = s.failActivation i (if noTs && !(s.slot i).seq.warmed then 2 else 3) := by
  unfold State.atrFail
  dsimp only
  rw [if_neg (by rcases h with h | h <;> simp [h]), hc]

end

theorem State.atrFail_spec : (s.slot i).AfterAtr noTs s.now ((s.atrFail i noTs).slot i) ∧
    ((s.atrFail i noTs).slot i).regs.atrErr = (s.slot i).regs.atrErr := by
  have moves (h : (noTs && !(s.slot i).seq.warmed) = true ∨ ¬ (s.slot i).seq.retries + b2n (s.slot i).seq.warmed < (s.slot i).atrRetries) :
      (s.slot i).NextClass s.now (if noTs && !(s.slot i).seq.warmed then 2 else 3) ((s.atrFail i noTs).slot i) ∧
      ((s.atrFail i noTs).slot i).regs.atrErr = (s.slot i).regs.atrErr := by
    unfold Slot.NextClass
    cases hc : classesAfter (s.slot i).regs.cfg (s.slot i).seq.tryCls with
    | nil => rw [State.atrFail_fails h hc]; exact s.failActivation_fails i _
    | cons k l => rw [State.atrFail_changes h hc]; exact s.classChange_changes i k
  unfold Slot.AfterAtr
  cases hr : noTs && !(s.slot i).seq.warmed with
  | true =>
    rw [if_pos rfl]
    have moved := moves (.inl hr)
    rwa [hr, if_pos rfl] at moved
  | false =>
    rw [if_neg (by decide)]
    by_cases hn : (s.slot i).seq.retries + b2n (s.slot i).seq.warmed < (s.slot i).atrRetries
    · rw [if_pos hn, State.atrFail_retries hr hn]
      obtain ⟨hst, -, -, ⟨c, e, hregs⟩, -, m, r, d, a, hseq⟩ := s.warmReset_after i
        (fun x => { x with seq := { x.seq with retries := (s.slot i).seq.retries + b2n (s.slot i).seq.warmed } }) rfl rfl
      exact ⟨⟨hst, by rw [hseq], by rw [hseq], by rw [hseq], by rw [hseq], by rw [hseq]⟩, by rw [hregs]⟩
    · rw [if_neg hn]
      have moved := moves (.inr hn)
      rwa [hr, if_neg (by decide)] at moved

end

theorem State.expireWait_slot (s : State) (i n j : Nat) : (s.expireWait i n).slot j = s.slot j :=
  (State.expireWait_evolves (ps := [.timers, .cores]) rfl s i n (.refl s)).slot_eq (by decide) j

theorem State.atrFail_now (s : State) (i : Nat) (noTs : Bool) : (s.atrFail i noTs).now = s.now :=
  (State.atrFail_evolves (ps := slotParts) rfl s i noTs (.refl s)).now_eq (by decide)

theorem State.expireWait_now (s : State) (i n : Nat) : (s.expireWait i n).now = s.now :=
  (State.expireWait_evolves (ps := [.timers, .cores]) rfl s i n (.refl s)).now_eq (by decide)

/-- No TS within its window (02 R50). -/
theorem State.expire_ts (s : State) (i : Nat) : (s.expire i .ts).now = max s.now ((s.slot i).waitAt .ts) ∧
    (s.slot i).AfterAtr true (s.expire i .ts).now ((s.expire i .ts).slot i) := by
  have spec := (State.atrFail_spec (s := (s.elapseTo ((s.slot i).waitAt .ts)).expireWait i 1) (i := i) (noTs := true)).1
  rw [State.expireWait_slot, State.elapseTo_at_slot, ← State.atrFail_now] at spec
  refine ⟨?_, spec⟩
  exact (State.atrFail_now _ i true).trans ((State.expireWait_now _ i 1).trans (State.elapseTo_now _ _))

/-- The answer to reset stops (02 R51). -/
theorem State.expire_atrChar (s : State) (i : Nat) : (s.expire i .atrChar).now = max s.now ((s.slot i).waitAt .atrChar) ∧
    ((s.expire i .atrChar).slot i).regs.atrErr = 4 ∧ (s.slot i).AfterAtr false (s.expire i .atrChar).now ((s.expire i .atrChar).slot i) := by
  have spec := State.atrFail_spec (i := i) (noTs := false)
    (s := ((s.elapseTo ((s.slot i).waitAt .atrChar)).expireWait i 0).modSlot i fun x => { x with regs := { x.regs with atrErr := 4 } })
  rw [State.modSlot_slot, State.expireWait_slot, State.elapseTo_at_slot, ← State.atrFail_now] at spec
  refine ⟨?_, spec.2, spec.1.of_atrErr⟩
  exact (State.atrFail_now _ i false).trans ((State.expireWait_now _ i 0).trans (State.elapseTo_now _ _))

/-- Settles O15: the wait expires at its moment, and R43 decides what follows. -/
theorem atrFailures : Obligations.AtrFailures := by
  intro s i x again change fails next
  refine ⟨fun hst hon hrx hh => ?_, fun hst hon hrx hh => ?_, fun hst hh hp h0 h1 => ?_⟩
  · have waits : x.wait = some .ts := by simp [Slot.wait, hrx, hst, hon]
    have ends : exec (.atrAbsent i) s = .next (s.expire i .ts) := congrArg _ (State.expired_atr hh hst waits)
    obtain ⟨hn, hnext⟩ := s.expire_ts i
    exact does_of_slot rfl ends fun ho => ⟨hn, hnext, ho, (State.expire_evolves rfl _ _ _ (.refl s)).changes⟩
  · have waits : x.wait = some .atrChar := by simp [Slot.wait, hrx, hst, hon]
    have ends : exec (.atrCharTimeout i) s = .next (s.expire i .atrChar) := congrArg _ (State.expired_atr hh hst waits)
    obtain ⟨hn, herr, hnext⟩ := s.expire_atrChar i
    exact does_of_slot rfl ends fun ho => ⟨hn, herr, hnext, ho, (State.expire_evolves rfl _ _ _ (.refl s)).changes⟩
  · have waits (w : Wait) (hw : w = .ts ∨ w = .atrChar) : x.wait ≠ some w := by
      rcases hw with rfl | rfl <;> simp [Slot.wait, hst, hp, h0, h1]
    exact ⟨congrArg _ (State.expired_other hh hp h0 h1 (waits .ts (.inl rfl))), congrArg _ (State.expired_other hh hp h0 h1 (waits .atrChar (.inr rfl)))⟩

end Sys2Proof.Machine
end

section
/-! PROOFS of the activation family: clock stop and restart (02 R54, R58, 06 R156). -/

namespace Sys2Proof.Machine

/-! The stop. -/

/-- The level at which slot x stops CLK (02 R58). -/
def Slot.stopHigh (x : Slot) : Bool := x.pr.x = 2 || (x.pr.x = 3 && bitOf x.regs.cfg 13)

/-- The edge of CLK at which slot i stops it. -/
def State.idled (s : State) (i : Nat) : State :=
  let x := s.slot i
  let s1 := s.elapseTo (max x.idleDue (x.ch.lastStart + x.ch.etu.bound x.turn))
  s1.elapseTo (if x.stopHigh then x.nextRise s1.now else x.nextFall s1.now)

/-- Slot x with CLK stopped at ck n. -/
def Slot.toStop (x : Slot) (n : Nat) (high : Bool) : Slot :=
  let y := x.stopClk n high
  { y with st := .clockstop, seq := { y.seq with idleClk := x.idleAt n }, temp := y.temp.discard }

theorem State.idled_slot (s : State) (i j : Nat) : (s.idled i).slot j = s.slot j := by
  rw [State.idled, State.elapseTo_at_slot, State.elapseTo_at_slot]

theorem State.idled_now (s : State) (i : Nat) : max (s.slot i).idleDue ((s.slot i).ch.lastStart + (s.slot i).ch.etu.bound (s.slot i).turn) ≤ (s.idled i).now := by
  rw [State.idled, State.elapseTo_now, State.elapseTo_now]
  exact (le_max_right _ _).trans (le_max_left _ _)

theorem Slot.toStop_spec (x : Slot) (n : Nat) (high : Bool) : (x.toStop n high).st = .clockstop ∧ (x.toStop n high).seq.clkRun = false ∧
    (x.toStop n high).seq.stopLevel = high ∧ (x.toStop n high).seq.idleClk = x.idleAt n ∧ (x.toStop n high).regs = x.regs := by
  obtain ⟨m, r, d, p, e⟩ := x.stopClk_eq n high
  unfold Slot.toStop
  rw [e]
  exact ⟨rfl, rfl, rfl, rfl, rfl⟩

section
variable {s : State} {i : Fin 64} (hh : (s.slot i).ch.rxHold = none)
include hh

theorem exec_clockStop_stops (hm : s.mayStop i = true) : exec (.clockStop i) s =
    .next ((s.idled i).modSlot i fun x => x.toStop (s.idled i).now (s.slot i).stopHigh) := by
  change execClockStop i s = _
  rw [execClockStop, State.rxFlush_idle hh]
  exact if_pos hm

theorem exec_clockStop_waits (hm : s.mayStop i = false) : exec (.clockStop i) s = .next s := by
  change execClockStop i s = _
  rw [execClockStop, State.rxFlush_idle hh]
  exact if_neg (by rw [hm]; decide)

end

theorem State.mayStop_iff (s : State) (i : Nat) : s.mayStop i = true ↔ (s.slot i).st = .ready ∧ bitOf (s.slot i).regs.cfg 12 = true ∧ (s.slot i).pr.x ≠ 0 ∧
    (s.slot i).holder = none ∧ s.convHolds i = false ∧ (s.slot i).seq.clkRun = true ∧ (s.slot i).ch.rxOn = none := by
  simp only [State.mayStop, Bool.and_eq_true, decide_eq_true_eq, Bool.not_eq_true', Option.isNone_iff_eq_none, and_assoc]

/-! The restart. -/

/-- Slot i is READY again 700 card clocks after its restart at ck r (02 R58). -/
def State.restarted (s : State) (i r : Nat) : State :=
  let s1 := s.elapseTo (r + 700 * (s.slot i).seq.div)
  s1.modSlot i fun x => ({ x with st := .ready, seq := { x.seq with restartAt := none, warmAfterRestart := false } } : Slot).countDuty s1.now

theorem State.restarted_slot (s : State) (i r : Nat) : ∃ w, (s.restarted i r).slot i = { s.slot i with
    st := .ready, seq := { (s.slot i).seq with restartAt := none, warmAfterRestart := false }, temp := { (s.slot i).temp with win := w } } := by
  unfold State.restarted
  dsimp only
  rw [State.modSlot_slot, State.elapseTo_at_slot]
  unfold Slot.countDuty
  split
  · exact ⟨_, rfl⟩
  · exact ⟨(s.slot i).temp.win, rfl⟩

theorem State.restarted_evolves (s : State) (i r : Nat) : Evolves [.now, .slots, .timers, .tide, .cores] s (s.restarted i r) := by
  unfold State.restarted
  exact ((Evolves.refl s).elapseTo _ rfl).modSlot _ _ rfl

theorem State.restarted_now (s : State) (i r : Nat) : (s.restarted i r).now = max s.now (r + 700 * (s.slot i).seq.div) := State.elapseTo_now _ _

section
variable {s : State} {i : Fin 64} {r : Nat} (hr : (s.slot i).seq.restartAt = some r)
include hr

theorem exec_clockRestartDone_warm (hw : (s.slot i).seq.warmAfterRestart = true) (hh : (s.slot i).holder = none) :
    exec (.clockRestartDone i) s = .next ((s.restarted i r).warmReset i) := by
  change execClockRestartDone i s = _
  rw [execClockRestartDone]
  dsimp only
  rw [hr]
  exact if_pos (by rw [hw, hh]; rfl)

theorem exec_clockRestartDone_ready (hw : (s.slot i).seq.warmAfterRestart = false) (hh : (s.slot i).holder = none) :
    exec (.clockRestartDone i) s = .next ((s.restarted i r).setsReady i) := by
  change execClockRestartDone i s = _
  rw [execClockRestartDone]
  dsimp only
  rw [hr, hw, hh]
  rfl

theorem exec_clockRestartDone_busy (hw : (s.slot i).seq.warmAfterRestart = false) {n : Nat} {y : Txn} (hh : (s.slot i).holder = some n)
    (hn : s.txn n = some y) (hy : y.stage = .exch) (hm : (s.slot i).pr.mode = .t0) :
    exec (.clockRestartDone i) s = .next ((s.restarted i r).modSlot i fun x => { x with st := .busy }) := by
  change execClockRestartDone i s = _
  rw [execClockRestartDone]
  dsimp only
  rw [hr, hw, hh, Option.bind_some, hn, hm]
  dsimp only
  rw [hy]
  rfl

end

/-- Settles O16: the stop is at an edge after the idle time, and the restart ends in what waited for the clock. -/
theorem clockStops : Obligations.ClockStops := by
  intro s i x
  refine ⟨fun hm hh => ?_, s.mayStop_iff i, fun hm hh => exec_clockStop_waits hh hm, fun h => if_pos h, fun r hr hw hh => ?_, fun r n y hr hw hh hn hy hmode => ?_,
    fun r hr hw hh => ?_⟩
  · obtain ⟨hst, hrun, hlevel, hidle, hregs⟩ := x.toStop_spec (s.idled i).now x.stopHigh
    have changed : Evolves [.now, .slots, .timers, .tide, .cores] s ((s.idled i).modSlot i fun x => x.toStop (s.idled i).now (s.slot i).stopHigh) :=
      ((((Evolves.refl s).elapseTo _ rfl).elapseTo _ rfl)).modSlot _ _ rfl
    refine does_of_slot rfl (exec_clockStop_stops hh hm) fun ho => ?_
    rw [State.modSlot_slot, State.idled_slot]
    refine ⟨(le_max_left _ _).trans (s.idled_now i), (le_max_right _ _).trans (s.idled_now i), hst, hrun, fun h => ?_, fun h => ?_, fun h => ?_, hidle, hregs, ho,
      (changed.mono rfl).changes⟩
    all_goals
      refine hlevel.trans ?_
      simp [Slot.stopHigh, h]
  · obtain ⟨w, slot⟩ := s.restarted_slot i r
    have stands := (s.restarted i r).setsReady_stands i
    have chars := ((s.restarted i r).setsReady_stand i).ch i
    refine does_of_slot rfl (exec_clockRestartDone_ready hr hw hh) fun ho =>
      ⟨stands.now.trans (s.restarted_now i r), by rw [stands.slot.st, slot], by rw [stands.slot.seq, slot], by rw [stands.slot.regs, slot],
        by rw [chars, slot], ho, ?_⟩
    exact (State.setsReady_evolves rfl _ _ ((s.restarted_evolves i r).mono rfl)).changes
  · obtain ⟨w, slot⟩ := s.restarted_slot i r
    refine does_of_slot rfl (exec_clockRestartDone_busy hr hw hh hn hy hmode) fun ho => ?_
    rw [State.modSlot_slot, slot]
    exact ⟨rfl, rfl, ho, (((s.restarted_evolves i r).modSlot _ _ rfl).mono rfl).changes⟩
  · obtain ⟨w, slot⟩ := s.restarted_slot i r
    obtain ⟨hst, -, -, -, -, m, q, d, a, hseq⟩ := (s.restarted i r).warmReset_spec i
    have fall := Slot.warmFall_clock (x := x) (y := (s.restarted i r).slot i) (by rw [slot]; rfl) (s.restarted i r).now (by rw [slot]; rfl)
    refine does_of_slot rfl (exec_clockRestartDone_warm hr hw hh) fun ho => ⟨hst, by rw [hseq], ?_, ho, ?_⟩
    · rw [hseq, State.warmReset_now, ← fall]
    · exact (State.warmReset_evolves rfl _ _ ((s.restarted_evolves i r).mono rfl)).changes

end Sys2Proof.Machine
end

section
/-! PROOFS of the quench family: device resets (03 R85, R86, 15 R392, 16 R404, R409 to R411, 17 R449). -/

namespace Sys2Proof.Machine

/-! A table rebuilt entry by entry. -/

/-- Each key of a rising table gets the image of its entry; every other key keeps what the target held. -/
theorem tget_foldl_tset {α β : Type} [DecidableEq β] (d : α) (e : β) (f : α → β) (i : Nat) (t : Table α) (m : Option Nat) (u : Table β)
    (h : trising m t = true) :
    tget e (t.foldl (fun u p => tset e u p.1 (f p.2)) u) i = if i ∈ t.map Prod.fst then f (tget d t i) else tget e u i := by
  induction t generalizing m u with
  | nil => rfl
  | cons p t ih =>
    obtain ⟨k, v⟩ := p
    have tail : trising (some k) t = true := by cases m <;> simp_all [trising]
    rw [List.foldl_cons, ih (some k) _ tail]
    by_cases hi : i = k
    · subst hi
      have fresh : i ∉ t.map Prod.fst := fun hm => by
        obtain ⟨⟨j, w⟩, hj, rfl⟩ := List.mem_map.mp hm
        exact Nat.lt_irrefl _ (lt_of_mem_trising tail hj)
      simp [fresh, tget]
    · simp only [List.map_cons, List.mem_cons, hi, false_or, tget, if_false, tget_tset_ne _ _ _ _ _ hi]

/-- A canonical table whose entries are all changed by f, which keeps the default. -/
theorem tget_rebuilt {α β : Type} [DecidableEq α] [DecidableEq β] {d : α} {e : β} {f : α → β} (hf : f d = e) {t : Table α} (h : twf d t = true) (i : Nat) :
    tget e (t.foldl (fun u p => tset e u p.1 (f p.2)) []) i = f (tget d t i) := by
  simp only [twf, Bool.and_eq_true] at h
  rw [tget_foldl_tset d e f i t none [] h.1]
  split
  · rfl
  · next absent =>
    have unlisted : tget d t i = d := by
      by_contra hne
      exact absent (List.mem_map.mpr ⟨_, mem_of_tget_ne hne, rfl⟩)
    rw [unlisted, hf]
    rfl

/-! The reset of a slot (03 R85, R86). -/

theorem Slot.reset_rest (x : Slot) (n : Nat) (v : Bool) : (x.reset n v).regs = {} ∧ (x.reset n v).holder = none ∧
    (x.reset n v).st = if x.powered then .quenching else .empty := by
  unfold Slot.reset
  split <;> exact ⟨rfl, rfl, rfl⟩

/-- Where VDDA fails ahead of the other rails the contacts of a powered slot are low and its sink is on at once (03 R86). -/
theorem Slot.reset_vddaFirst {x : Slot} (hp : x.powered = true) (n : Nat) : (x.reset n true).seq.rst = false ∧ (x.reset n true).seq.clkRun = false ∧
    (x.reset n true).seq.ioUp = false ∧ (x.reset n true).seq.sinkOn = some n := by
  rw [Slot.reset, if_pos hp]
  exact ⟨rfl, rfl, rfl, rfl⟩

/-! The reset of the device. -/

section
variable {s : State} (h : s.wf = true) (code : Nat) (srcs : List ResetSource) (v lost : Bool)
include h

theorem State.deviceReset_slot (i : Nat) : (s.deviceReset code srcs v lost).slot i = (s.slot i).reset s.now v :=
  tget_rebuilt (d := ({} : Slot)) (e := ({} : Slot)) (f := fun x => x.reset s.now v) rfl (State.wf_slots h) i

theorem State.deviceReset_after : AfterReset s (s.deviceReset code srcs v lost) code srcs v lost := by
  refine ⟨fun i => ?_, rfl, rfl, rfl, rfl, rfl, rfl, rfl, fun p hp => ?_, fun p hp => ?_, rfl⟩
  · obtain ⟨hregs, hholder, hst⟩ := (s.slot i).reset_rest s.now v
    rw [State.deviceReset_slot h]
    exact ⟨hregs, hholder, hst⟩
  · simp only [List.mem_cons, List.not_mem_nil, or_false] at hp
    rcases hp with rfl | rfl | rfl | rfl | rfl | rfl | rfl | rfl | rfl | rfl | rfl | rfl | rfl | rfl | rfl | rfl | rfl | rfl | rfl | rfl <;> rfl
  · simp only [List.mem_cons, List.not_mem_nil, or_false] at hp
    rcases hp with rfl | rfl | rfl | rfl | rfl <;> rfl

end

/-- Settles O5: each source is a device reset with its own code, and a slot that was powered is quenched by it. -/
theorem deviceResets : Obligations.DeviceResets := by
  intro s h
  refine ⟨fun rail vdda => ⟨_, rfl, State.deviceReset_after h _ _ _ _, ?_⟩, ⟨_, rfl, State.deviceReset_after h _ _ _ _⟩, fun hd => ?_, fun hd => ?_, fun ho => ?_⟩
  · rintro rfl i hp
    rw [State.deviceReset_slot h]
    exact Slot.reset_vddaFirst hp s.now
  · exact ⟨_, congrArg Host.Outcome.next (if_pos hd), State.deviceReset_after h _ _ _ _⟩
  · exact ⟨_, congrArg Host.Outcome.next (if_pos hd), State.deviceReset_after h _ _ _ _⟩
  · exact ⟨_, congrArg Host.Outcome.next (if_pos ho), State.deviceReset_after (s := { s with tap := { s.tap with ir := 0x11, dr := 0#32 } }) h _ _ _ _⟩

end Sys2Proof.Machine
end

section
/-! PROOFS of the quench family: a detected cause whose QUENCH event finds no room (03 R74, 07 R225). What a slot has received is read before its quench is
recorded (01 R16), and reading it may post events of its own. The statement leaves six places for them. Its hypothesis asks for a canonical state alone, and
that may name one slot at several positions of a card set, which ENABLE refuses (08 R228): six places are then too few. -/

namespace Sys2Proof.Machine

/-- An ACTIVE card set of four members and two reserves, all of them slot 0. -/
def sixfoldSet : CardSet :=
  { mapLo := 0x80808080#32, mapHi := 0x8080#32, enabled := true, pos := [.member, .member, .member, .member, .reserve, .reserve], shown := 1 }

/-- A slot in a T=0 exchange that has received a byte that is no procedure byte, not yet read (06 R167). -/
def misansweredSlot : Slot := { st := .busy, seq := { vcc := .on }, ch := { rxBuf := [⟨0#8, true, true⟩] }, pr := { mode := .t0 } }

/-- Slot 0 is such a slot and is all of card set 0, and 249 events wait in the queue. -/
def crowdedState : State :=
  { (State.reset.setSlot 0 misansweredSlot).modSet 0 fun _ => sixfoldSet with boot := {}, dev := { evq := List.replicate 249 { typ := 0x41 } } }

theorem crowdedState_wf : crowdedState.wf = true := by decide +kernel

/-- The exchange that ends takes six positions OUT, promotes two reserves and changes STATE: the queue is full when the QUENCH event comes. -/
theorem crowdedState_quench_unposted : ∀ e ∈ (crowdedState.quench 0 2).dev.evq.drop 249, e.typ ≠ 0x10 := by decide +kernel

/-- Refutes O19: an over-current trip of slot 0 in the crowded state posts no QUENCH event, though 249 is less than 250. -/
theorem not_quenchCauses : ¬ Obligations.QuenchCauses := by
  intro h
  obtain ⟨detected, -⟩ := h crowdedState 0 crowdedState_wf
  obtain ⟨t, trips, -, -, -, -, -, -, -, -, -, -, -, posts, -⟩ :=
    detected (by decide +kernel) rfl (by decide +kernel) (.ocTrip 0, 2) (List.mem_append_left _ List.mem_cons_self)
  have quenched : execOcTrip 0 crowdedState = .next (crowdedState.quench 0 2) := if_pos (by decide +kernel)
  obtain rfl : crowdedState.quench 0 2 = t := Host.Outcome.next.inj (quenched.symm.trans trips)
  have waiting : crowdedState.dev.evq.length = 249 := List.length_replicate
  rw [Posts, waiting] at posts
  obtain ⟨e, new, typ, -⟩ := posts (by decide)
  exact crowdedState_quench_unposted e new typ

end Sys2Proof.Machine
end

section
/-! PROOFS of the quench family: the device interrupt sources that reading a slot's characters, ending its exchange and quenching it leave alone (03 R83,
07 R222, R225, 08 R246, 16 R438). Each operation is said once, from the posting of an event up to a quench. -/

namespace Sys2Proof.Machine

/-- The device interrupt sources but the three that a quench may raise: event loss (0), AUDIT (12) and CARD_SET (15). -/
def State.calm (s : State) : BitVec 16 := s.dev.irqStatus &&& 0x6FFE#16

theorem Evolves.calm_eq {l : List Part} {s t : State} (h : Evolves l s t) (hl : Part.dev ∉ l := by decide) : t.calm = s.calm := by
  have : t.dev = s.dev := h.changes.at hl
  rw [State.calm, this, State.calm]

theorem foldl_calm {β : Type} (f : State → β → State) (hf : ∀ u a, (f u a).calm = u.calm) (l : List β) (s : State) : (l.foldl f s).calm = s.calm := by
  induction l generalizing s with
  | nil => rfl
  | cons a l ih => rw [List.foldl_cons, ih, hf]

section
variable (s : State) (i : Nat)

/-! Operations that leave the device block alone. -/

@[simp] theorem State.modSlot_calm (f : Slot → Slot) : (s.modSlot i f).calm = s.calm := rfl

@[simp] theorem State.modTxn_calm (f : Txn → Txn) : (s.modTxn i f).calm = s.calm := rfl

@[simp] theorem State.modRounds_calm (f : Rounds → Rounds) : (s.modRounds i f).calm = s.calm := rfl

@[simp] theorem State.modSet_calm (f : CardSet → CardSet) : (s.modSet i f).calm = s.calm := rfl

@[simp] theorem State.keepSet_calm : (s.keepSet i).calm = s.calm := rfl

@[simp] theorem State.askLane_calm : (s.askLane i).calm = s.calm := rfl

@[simp] theorem State.emit_calm (o : Out) : (s.emit o).calm = s.calm := rfl

@[simp] theorem State.bump_calm (c : Nat) : (s.bump i c).calm = s.calm := rfl

@[simp] theorem State.tally_calm (j n : Nat) (wide : Bool) : (s.tally i j n wide).calm = s.calm := rfl

@[simp] theorem State.endLoop_calm (r : Nat) : (s.endLoop i r).calm = s.calm := rfl

@[simp] theorem State.sendMsix_calm (p : Path) (v : Nat) : (s.sendMsix p v).calm = s.calm := by rw [State.calm, State.sendMsix_dev, State.calm]

@[simp] theorem State.line_calm (n : Nat) : (s.line n).calm = s.calm := by rw [State.calm, State.line_dev, State.calm]

@[simp] theorem State.endWait_calm (n : Nat) : (s.endWait i n).calm = s.calm := (State.endWait_evolves (ps := [.timers]) rfl _ _ _ (.refl s)).calm_eq

@[simp] theorem State.armWait_calm (n src presc limit count : Nat) (from_ : Option Nat) : (s.armWait i n src presc limit count from_).calm = s.calm :=
  (State.armWait_evolves (ps := [.timers]) rfl _ _ _ _ _ _ _ _ (.refl s)).calm_eq

@[simp] theorem State.stopSlotTimers_calm : (s.stopSlotTimers i).calm = s.calm := (State.stopSlotTimers_evolves (ps := [.timers]) rfl _ _ (.refl s)).calm_eq

@[simp] theorem State.endEarly_calm (status cause : Nat) (resp : List Byte) : (s.endEarly i status cause resp).calm = s.calm :=
  (State.endEarly_evolves (ps := [.slots, .flow]) rfl _ _ _ _ _ (.refl s)).calm_eq

@[simp] theorem State.endWaiters_calm (cause : Nat) : (s.endWaiters i cause).calm = s.calm :=
  (State.endWaiters_evolves (ps := [.slots, .flow]) rfl _ _ _ (.refl s)).calm_eq

@[simp] theorem State.closeAll_calm (onSet : Bool) : (s.closeAll onSet i).calm = s.calm :=
  (State.closeAll_evolves (ps := [.slots, .flow, .mram]) rfl _ _ _ (.refl s)).calm_eq

@[simp] theorem State.requestOutcome_calm (o : Outcome) : (s.requestOutcome i o).calm = s.calm :=
  (State.requestOutcome_evolves (ps := [.flow]) rfl _ _ _ (.refl s)).calm_eq

@[simp] theorem State.tallyExch_calm (c : OClass) : (s.tallyExch i c).calm = s.calm := (State.tallyExch_evolves (ps := [.counts]) rfl _ _ _ (.refl s)).calm_eq

@[simp] theorem State.unwrapSsc_calm : (s.unwrapSsc i).calm = s.calm := (State.unwrapSsc_evolves (ps := [.flow]) rfl _ _ (.refl s)).calm_eq

@[simp] theorem State.xchgHwEnd_calm : (s.xchgHwEnd i).calm = s.calm := (State.xchgHwEnd_evolves (ps := [.slots, .cores]) rfl _ _ (.refl s)).calm_eq

@[simp] theorem State.markChanged_calm (b : Nat) : (s.markChanged i b).calm = s.calm := (State.markChanged_evolves (ps := [.lpos]) rfl _ _ _ (.refl s)).calm_eq

@[simp] theorem State.auditDeep_calm : s.auditDeep.calm = s.calm := (State.auditDeep_evolves (ps := [.cores, .audit]) rfl _ (.refl s)).calm_eq

@[simp] theorem State.unstart_calm : (s.unstart i).calm = s.calm := (State.unstart_evolves (ps := [.slots, .out]) rfl _ _ (.refl s)).calm_eq

/-! Events and the audit record. -/

/-- An interrupt source raised is one of its own bit. -/
theorem State.irq_calm (n : Nat) (hn : (1#16 <<< n) &&& 0x6FFE#16 = 0#16) : (s.irq n).calm = s.calm := by
  have raised : (s.modDev fun d => { d with irqStatus := d.irqStatus ||| (1#16 <<< n) }).calm = s.calm := by
    change (s.dev.irqStatus ||| (1#16 <<< n)) &&& 0x6FFE#16 = s.dev.irqStatus &&& 0x6FFE#16
    rw [BitVec.and_or_distrib_right, hn, BitVec.or_zero]
  unfold State.irq
  dsimp only
  split
  · rfl
  · split
    · exact raised
    · rw [State.sendMsix_calm, raised]

@[simp] theorem State.postEv_calm (e : Event) : (s.postEv e).calm = s.calm := by
  unfold State.postEv
  split
  · rfl
  · exact State.irq_calm _ 0 (by decide)

@[simp] theorem State.post_calm (typ source code : Nat) (data : List Word) : (s.post typ source code data).calm = s.calm := s.postEv_calm _

@[simp] theorem State.auditFill_calm : s.auditFill.calm = s.calm := by
  unfold State.auditFill
  dsimp only
  split
  · rw [State.line_calm, State.irq_calm _ 12 (by decide), State.post_calm]; rfl
  · split
    · exact State.post_calm _ _ _ _ _
    · rfl

@[simp] theorem State.auditAdd_calm (c : AuditClass) (e : AuditEntry) : (s.auditAdd c e).calm = s.calm := by
  unfold State.auditAdd
  dsimp only
  split
  · split
    · rfl
    · rw [State.irq_calm _ 12 (by decide), State.post_calm]; rfl
  · rw [State.auditDeep_calm, State.auditFill_calm, State.markChanged_calm]
    split <;> rfl

@[simp] theorem State.auditRoutine_calm (kind : Nat) (detail : List Nat) : (s.auditRoutine kind detail).calm = s.calm := by
  unfold State.auditRoutine
  split
  · exact s.auditAdd_calm _ _
  · rfl

/-! Card sets. -/

@[simp] theorem State.auditSetPos_calm (p : Nat) : (s.auditSetPos i p).calm = s.calm := s.auditRoutine_calm _ _

@[simp] theorem State.setStateShow_calm : (s.setStateShow i).calm = s.calm := by
  have shown (u : State) : (u.irq 15).calm = u.calm := u.irq_calm 15 (by decide)
  unfold State.setStateShow
  dsimp only
  split
  · rfl
  · split
    · rw [State.closeAll_calm, shown, State.post_calm, State.modSet_calm]
    · split
      · rw [shown, State.post_calm, State.modSet_calm]
      · rw [State.post_calm, State.modSet_calm]

@[simp] theorem State.promote_calm (old : Nat) : (s.promote i old).calm = s.calm := by
  unfold State.promote
  dsimp only
  split
  · split
    · split <;> simp only [State.modRounds_calm, State.tally_calm, State.auditSetPos_calm, State.post_calm, State.modSet_calm]
    · rfl
  · rfl

@[simp] theorem State.posOut_calm (p cause status qcause shown : Nat) : (s.posOut i p cause status qcause shown).calm = s.calm := by
  unfold State.posOut
  dsimp only
  split
  · rw [State.setStateShow_calm, State.promote_calm]
    split <;> simp only [State.modRounds_calm, State.auditSetPos_calm, State.post_calm, State.keepSet_calm, State.modSet_calm]
  · rfl

@[simp] theorem State.setsLeave_calm (status qcause : Nat) : (s.setsLeave i status qcause).calm = s.calm :=
  foldl_calm _ (fun u _ => u.posOut_calm _ _ _ _ _ _) _ s

@[simp] theorem State.setsReady_calm : (s.setsReady i).calm = s.calm :=
  foldl_calm _ (fun u _ => by simp only [State.setStateShow_calm, State.promote_calm, State.auditSetPos_calm, State.modSet_calm]) _ s

/-! The end of an exchange by force, and the end of service. -/

@[simp] theorem State.exchResult_calm (m : MemberResp) : (s.exchResult i m).calm = s.calm := by
  unfold State.exchResult
  split
  · rfl
  · split
    · rfl
    · split
      · split
        · rfl
        · exact s.endEarly_calm _ _ _ _
      · split
        · split
          · split
            · rfl
            · split
              · dsimp only
                split
                · rw [State.modRounds_calm, State.tallyExch_calm]
                · rw [State.posOut_calm, State.modRounds_calm, State.tallyExch_calm]
              · rfl
          · rw [State.modSlot_calm, State.requestOutcome_calm, State.tallyExch_calm]
        · rfl

@[simp] theorem State.forceEnd_calm (status cause : Nat) : (s.forceEnd i status cause).calm = s.calm := by
  unfold State.forceEnd
  dsimp only
  split
  · rfl
  · split
    · rfl
    · rw [State.exchResult_calm, State.xchgHwEnd_calm]
      split
      · exact s.unwrapSsc_calm _
      · rfl

@[simp] theorem State.leaveService_calm (down : Bool) (status cause : Nat) : (s.leaveService i down status cause).calm = s.calm := by
  unfold State.leaveService
  dsimp only
  rw [State.modSlot_calm, State.setsLeave_calm, State.closeAll_calm]
  split
  · exact s.endWaiters_calm i cause
  · rfl

/-! Resets and deactivations. -/

@[simp] theorem State.warmReset_calm : (s.warmReset i).calm = s.calm := by
  unfold State.warmReset
  dsimp only
  rw [State.endWait_calm, State.endWait_calm, State.modSlot_calm]
  split
  · exact s.leaveService_calm i _ _ _
  · rfl

@[simp] theorem State.warmStart_calm : (s.warmStart i).calm = s.calm := by
  unfold State.warmStart
  dsimp only
  split
  · rfl
  · rw [State.warmReset_calm, State.modSlot_calm]

@[simp] theorem State.beginDeact_calm (park : Bool) : (s.beginDeact i park).calm = s.calm := by
  unfold State.beginDeact
  dsimp only
  rw [State.endWait_calm, State.endWait_calm, State.modSlot_calm]
  split
  · rw [State.leaveService_calm, State.forceEnd_calm, State.endWaiters_calm]
  · rfl

@[simp] theorem State.actPend_calm : (s.actPend i).calm = s.calm := by
  simp only [State.actPend, apply_ite State.calm, State.beginDeact_calm, State.warmStart_calm, ite_self]

@[simp] theorem State.failActivation_calm (r : Nat) : (s.failActivation i r).calm = s.calm := s.beginDeact_calm i false

@[simp] theorem State.classChange_calm (k : SClass) : (s.classChange i k).calm = s.calm := by
  simp only [State.classChange, State.endWait_calm, State.modSlot_calm]

/-! The answer to reset and the negotiation. -/

@[simp] theorem State.atrFail_calm (noTs : Bool) : (s.atrFail i noTs).calm = s.calm := by
  unfold State.atrFail
  dsimp only
  split
  · rw [State.warmReset_calm, State.modSlot_calm]
  · split
    · exact s.classChange_calm i _
    · exact s.failActivation_calm i _

@[simp] theorem State.atrError_calm (code : Nat) : (s.atrError i code).calm = s.calm := State.atrFail_calm _ i false

@[simp] theorem State.enterReady_calm : (s.enterReady i).calm = s.calm := by
  simp only [State.enterReady, State.actPend_calm, State.setsReady_calm, State.endWait_calm, State.modSlot_calm]

@[simp] theorem State.negFail_calm (r : Nat) : (s.negFail i r).calm = s.calm := s.failActivation_calm i 5

@[simp] theorem State.negReset_calm (r : Nat) : (s.negReset i r).calm = s.calm := by
  simp only [State.negReset, apply_ite State.calm, State.negFail_calm, State.warmReset_calm, State.modSlot_calm, ite_self]

@[simp] theorem State.settle_calm (fi di t r : Nat) : (s.settle i fi di t r).calm = s.calm := by
  simp only [State.settle, apply_ite State.calm, State.enterReady_calm, State.modSlot_calm, ite_self]

@[simp] theorem State.negotiate_calm : (s.negotiate i).calm = s.calm := by
  unfold State.negotiate
  dsimp only
  split
  · simp only [apply_ite State.calm, State.settle_calm, State.negReset_calm, State.negFail_calm, ite_self]
  · split
    · exact s.negFail_calm i 6
    · simp only [apply_ite State.calm, State.settle_calm, State.negFail_calm, State.modSlot_calm, ite_self]

@[simp] theorem State.acceptAtr_calm : (s.acceptAtr i).calm = s.calm := by
  simp only [State.acceptAtr, State.negotiate_calm, State.endWait_calm, State.modSlot_calm]

@[simp] theorem State.judgeAtr_calm : (s.judgeAtr i).calm = s.calm := by
  unfold State.judgeAtr
  extract_lets x y has
  split
  · exact s.acceptAtr_calm i
  · split
    · exact s.classChange_calm i _
    · exact s.failActivation_calm i 4

@[simp] theorem State.atrChar_calm (data : Byte) (bad : Nat) : (s.atrChar i data bad).calm = s.calm := by
  simp only [State.atrChar, apply_ite State.calm, State.atrError_calm, State.judgeAtr_calm, State.modSlot_calm, ite_self]

@[simp] theorem State.ppsFail_calm : (s.ppsFail i).calm = s.calm := by rw [State.ppsFail, State.negReset_calm, State.bump_calm]

@[simp] theorem State.ppsJudge_calm : (s.ppsJudge i).calm = s.calm := by
  unfold State.ppsJudge
  dsimp only
  split
  · rfl
  · simp only [apply_ite State.calm, State.settle_calm, State.endWait_calm, ite_self]
  · rw [State.settle_calm, State.endWait_calm]
  · exact s.ppsFail_calm i

/-! The exchange and its end. -/

@[simp] theorem State.endExchange_calm (code : Nat) (m : MemberResp) (warm : Bool) : (s.endExchange i code m warm).calm = s.calm := by
  simp only [State.endExchange, apply_ite State.calm, State.beginDeact_calm, State.warmReset_calm, State.actPend_calm, State.setsReady_calm, State.bump_calm,
    State.exchResult_calm, State.endWait_calm, State.xchgHwEnd_calm, State.modSlot_calm, ite_self]

@[simp] theorem State.endInDoubt_calm (code : Nat) (warm : Bool) : (s.endInDoubt i code warm).calm = s.calm := s.endExchange_calm i _ _ _

@[simp] theorem State.responseDone_calm (r : List Byte) : (s.responseDone i r).calm = s.calm := by
  unfold State.responseDone
  split
  · simp only [apply_ite State.calm, State.endWait_calm, State.modSlot_calm, State.modTxn_calm, State.askLane_calm, State.endExchange_calm, ite_self]
  · rfl

@[simp] theorem State.procByte_calm (b : Byte) : (s.procByte i b).calm = s.calm := by
  simp only [State.procByte, apply_ite State.calm, State.bump_calm, State.modSlot_calm, State.endInDoubt_calm, ite_self]

@[simp] theorem State.tpduEnd_calm (sw2 : Byte) : (s.tpduEnd i sw2).calm = s.calm := by
  simp only [State.tpduEnd, apply_ite State.calm, State.bump_calm, State.modSlot_calm, State.responseDone_calm, ite_self]

@[simp] theorem State.t0Char_calm (c : RxChar) : (s.t0Char i c).calm = s.calm := by
  unfold State.t0Char
  dsimp only
  split
  · exact s.endInDoubt_calm i _ _
  · split
    · exact s.endInDoubt_calm i _ _
    · split
      · exact s.endInDoubt_calm i _ _
      · split <;> rfl

@[simp] theorem State.t0Rest_calm (l : List RxChar) : (s.t0Rest i l).calm = s.calm :=
  foldl_calm _ (fun u c => by simp only [apply_ite State.calm, State.t0Char_calm, ite_self]) l s

@[simp] theorem State.t0Proc_calm : (s.t0Proc i).calm = s.calm := by
  unfold State.t0Proc
  dsimp only
  split
  · simp only [apply_ite State.calm, State.t0Rest_calm, State.procByte_calm, State.modSlot_calm, ite_self]
  · rfl

@[simp] theorem State.t0Sw2_calm : (s.t0Sw2 i).calm = s.calm := by
  unfold State.t0Sw2
  dsimp only
  split
  · simp only [apply_ite State.calm, State.t0Rest_calm, State.tpduEnd_calm, State.modSlot_calm, ite_self]
  · rfl

@[simp] theorem State.t0Read_calm (n : Nat) : (State.t0Read n s i).calm = s.calm := by
  induction n generalizing s with
  | zero => rfl
  | succ n ih => simp only [State.t0Read, apply_ite State.calm, ih, State.t0Sw2_calm, State.t0Proc_calm, ite_self]

@[simp] theorem State.startResync_calm : (s.startResync i).calm = s.calm := by
  simp only [State.startResync, apply_ite State.calm, State.endInDoubt_calm, State.bump_calm, State.modSlot_calm, ite_self]

theorem State.t1Attempt_calm (f : State → State) (hf : ∀ u, (f u).calm = u.calm) : (s.t1Attempt i f).calm = s.calm := by
  simp only [State.t1Attempt, apply_ite State.calm, State.startResync_calm, hf, State.modSlot_calm, ite_self]

@[simp] theorem State.t1Fail_calm (code : Nat) : (s.t1Fail i code).calm = s.calm := by
  unfold State.t1Fail
  dsimp only
  split
  · exact s.startResync_calm i
  · simp only [apply_ite State.calm, State.negReset_calm, State.startResync_calm, State.modSlot_calm, ite_self]
  · simp only [apply_ite State.calm, State.negReset_calm, State.startResync_calm, State.modSlot_calm, ite_self]
  · exact s.t1Attempt_calm i _ fun _ => rfl

@[simp] theorem State.t1I_calm (pcb : Byte) (inf : List Byte) : (s.t1I i pcb inf).calm = s.calm := by
  simp only [State.t1I, apply_ite State.calm, State.t1Fail_calm, State.endInDoubt_calm, State.bump_calm, State.responseDone_calm, State.modSlot_calm, ite_self]

@[simp] theorem State.t1R_calm (pcb : Byte) : (s.t1R i pcb).calm = s.calm := by
  have again (f : Slot → Slot) : (s.t1Attempt i fun u => (u.bump i 27).modSlot i f).calm = s.calm := s.t1Attempt_calm i _ fun _ => rfl
  simp only [State.t1R, apply_ite State.calm, State.t1Fail_calm, again, State.modSlot_calm, ite_self]

@[simp] theorem State.t1SAccepted_calm : (s.t1SAccepted i).calm = s.calm := by
  unfold State.t1SAccepted
  dsimp only
  split
  · rw [State.enterReady_calm, State.modSlot_calm]
  · rw [State.endInDoubt_calm, State.modSlot_calm]
  · simp only [apply_ite State.calm, State.endInDoubt_calm, State.modSlot_calm, ite_self]
  · rfl

@[simp] theorem State.t1S_calm (pcb : Byte) (inf : List Byte) : (s.t1S i pcb inf).calm = s.calm := by
  unfold State.t1S
  dsimp only
  split <;> simp only [apply_ite State.calm, State.t1Fail_calm, State.t1SAccepted_calm, State.bump_calm, State.modSlot_calm, ite_self]

@[simp] theorem State.t1Block_calm (atCwt : Bool) : (s.t1Block i atCwt).calm = s.calm := by
  simp only [State.t1Block, apply_ite State.calm, State.t1Fail_calm, State.t1I_calm, State.t1R_calm, State.t1S_calm, State.modSlot_calm, ite_self]

@[simp] theorem State.t1Whole_calm : (s.t1Whole i).calm = s.calm := by
  unfold State.t1Whole
  dsimp only
  split
  · simp only [apply_ite State.calm, State.t1Block_calm, State.endWait_calm, State.modSlot_calm, ite_self]
  · rfl

@[simp] theorem State.digest_calm : (s.digest i).calm = s.calm := by
  simp only [State.digest, apply_ite State.calm, State.ppsJudge_calm, State.t0Read_calm, State.t1Whole_calm, ite_self]

/-! A character passed on. -/

@[simp] theorem State.passChar_calm (c : RxChar) : (s.passChar i c).calm = s.calm := by
  have queued : (if !(s.slot i).ch.txq.isEmpty then s else
      s.modSlot i fun x => { x with ch := { x.ch with rxBuf := x.ch.rxBuf ++ [c] } }).calm = s.calm := by
    rw [apply_ite State.calm, State.modSlot_calm, ite_self]
  unfold State.passChar
  dsimp only
  split
  · exact s.bump_calm i 21
  · split
    · exact s.atrChar_calm i _ _
    · split
      · exact s.t0Char_calm i c
      · exact queued
      · exact queued
      · exact queued
      · exact queued
      · exact queued
      · rfl
    · split
      · exact s.t0Char_calm i c
      · exact queued
      · exact queued
      · exact queued
      · exact queued
      · exact queued
      · rfl
    · rfl

@[simp] theorem State.rxPass_calm (l : BitVec 9) (good : Bool) : (s.rxPass i l good).calm = s.calm := by
  unfold State.rxPass
  dsimp only
  split
  · simp only [apply_ite State.calm, State.bump_calm, State.modSlot_calm, ite_self]
  · split
    · split <;> simp only [apply_ite State.calm, State.atrChar_calm, State.armWait_calm, State.bump_calm, State.modSlot_calm, ite_self]
    · simp only [apply_ite State.calm, State.passChar_calm, State.bump_calm, State.modSlot_calm, ite_self]

@[simp] theorem State.rxRipe_calm : (s.rxRipe i).calm = s.calm := by
  rw [State.rxRipe, State.digest_calm]
  split
  · simp only [apply_ite State.calm, State.rxPass_calm, ite_self]
  · rfl

/-! A quench. -/

@[simp] theorem State.newPrimary_calm (cause : Nat) : (s.newPrimary i cause).calm = s.calm := by
  unfold State.newPrimary
  exact (foldl_calm _ (fun u _ => u.modTxn_calm _ _) _ _).trans rfl

@[simp] theorem State.quench_calm (cause : Nat) : (s.quench i cause).calm = s.calm := by
  simp only [State.quench, apply_ite State.calm, State.newPrimary_calm, State.emit_calm, State.leaveService_calm, State.forceEnd_calm, State.endWaiters_calm,
    State.post_calm, State.stopSlotTimers_calm, State.bump_calm, State.unstart_calm, State.rxRipe_calm, State.endLoop_calm, State.modSlot_calm, ite_self]

end

end Sys2Proof.Machine
end

section
/-! PROOFS of the quench family: the quench of several slots of a polder for one cause (03 R65, R82, R83). -/

namespace Sys2Proof.Machine

/-- The parts that a quench may change. -/
abbrev quenchParts : List Part :=
  [.slots, .timers, .dev, .flow, .mram, .cores, .telemetry, .counts, .lpos, .audit, .crypto, .loops, .out, .pba]

/-- Every slot outside polder p is as it was, but for the transaction that holds it. -/
def OtherPolders (p : Nat) (s t : State) : Prop :=
  ∀ j, j / 8 ≠ p → { t.slot j with holder := none, lastBusy := none } = { s.slot j with holder := none, lastBusy := none }

theorem OtherPolders.trans {p : Nat} {s t u : State} (h : OtherPolders p s t) (k : OtherPolders p t u) : OtherPolders p s u :=
  fun j hj => (k j hj).trans (h j hj)

theorem OtherPolders.of_slots {p : Nat} {s t : State} (h : t.slots = s.slots) : OtherPolders p s t := fun j _ => by simp only [State.slot, h]

theorem OtherSlots.otherPolders {i p : Nat} {s t : State} (h : OtherSlots i s t) (hi : i / 8 = p) : OtherPolders p s t :=
  fun j hj => h j fun e => hj (e ▸ hi)

theorem OtherSlots.powered_eq {i j : Nat} {s t : State} (h : OtherSlots i s t) (hj : j ≠ i) : (t.slot j).powered = (s.slot j).powered := by
  have e := congrArg Slot.powered (h j hj)
  exact e

theorem mem_polderSlots {p i : Nat} : i ∈ polderSlots p ↔ i / 8 = p := mem_slotsOfPolder_iff p i

/-! One slot. -/

theorem State.newPrimary_st (s : State) (i cause j : Nat) : ((s.newPrimary i cause).slot j).st = (s.slot j).st := by
  have stood : (s.newPrimary i cause).slot j = (s.modSlot i fun x => { x with regs := { x.regs with primary := cause } }).slot j := by
    unfold State.newPrimary
    refine (foldl_evolves (l := [.dev, .flow]) _ _ ?_ fun u n => State.modTxn_evolves rfl u n _ (.refl u)).slot_eq (by decide) j
    exact State.modDev_evolves rfl (.refl _) (List.length_map _)
  rw [stood]
  by_cases hj : j = i
  · subst hj
    rw [State.modSlot_slot]
  · exact congrArg Slot.st (State.modSlot_slot_ne s i j _ hj)

/-- A slot in QUENCHING stays in it. -/
theorem State.quench_stays {s : State} {i : Nat} (hq : (s.slot i).st = .quenching) (cause : Nat) : ((s.quench i cause).slot i).st = .quenching := by
  have noted (f : Slot → Slot) (hf : ∀ x, (f x).st = x.st) : (((s.modSlot i f).bump i cause).slot i).st = .quenching :=
    (congrArg Slot.st (State.modSlot_slot s i f)).trans ((hf _).trans hq)
  unfold State.quench
  dsimp only
  rw [if_pos hq]
  split
  · exact hq
  · split
    · exact hq
    · split
      · exact (State.newPrimary_st _ i cause i).trans (noted _ fun _ => rfl)
      · exact noted _ fun _ => rfl

/-- A powered slot is in QUENCHING after a cause is detected on it (03 R65, R66). -/
theorem State.quench_takes {s : State} {i : Nat} (hh : s.boot.slotHeld = false) (hp : (s.slot i).powered = true) (cause : Nat) :
    ((s.quench i cause).slot i).st = .quenching := by
  by_cases hq : (s.slot i).st = .quenching
  · exact State.quench_stays hq cause
  · exact (State.quench_spec hh hq hp cause).1

/-! A list of slots. -/

/-- The slots of a list are quenched one after another for one cause. -/
def State.quenchAll (s : State) (l : List Nat) (cause : Nat) : State := s.forEach l fun s i => s.quench i cause

theorem State.quenchAll_evolves (s : State) (l : List Nat) (cause : Nat) : Evolves quenchParts s (s.quenchAll l cause) :=
  foldl_evolves _ l (.refl s) fun u i => State.quench_evolves rfl u i cause (.refl u)

theorem State.quenchAll_calm (s : State) (l : List Nat) (cause : Nat) : (s.quenchAll l cause).calm = s.calm :=
  foldl_calm _ (fun u i => u.quench_calm i cause) l s

theorem State.quenchAll_otherPolders (s : State) {p : Nat} {l : List Nat} (hl : ∀ i ∈ l, i / 8 = p) (cause : Nat) : OtherPolders p s (s.quenchAll l cause) := by
  induction l generalizing s with
  | nil => exact fun _ _ => rfl
  | cons a l ih =>
    have first : OtherPolders p s (s.quench a cause) := ((OtherSlots.refl a s).quench cause).otherPolders (hl a List.mem_cons_self)
    exact first.trans (ih (s.quench a cause) fun i hi => hl i (List.mem_cons_of_mem a hi))

/-- Each powered slot of the list is in QUENCHING in the end, and each slot that was stays so. -/
theorem State.quenchAll_takes {s : State} (hh : s.boot.slotHeld = false) {l : List Nat} {cause i : Nat}
    (h : (s.slot i).st = .quenching ∨ i ∈ l ∧ (s.slot i).powered = true) : ((s.quenchAll l cause).slot i).st = .quenching := by
  induction l generalizing s with
  | nil => exact h.resolve_right fun hm => List.not_mem_nil hm.1
  | cons a l ih =>
    have others : OtherSlots a s (s.quench a cause) := (OtherSlots.refl a s).quench cause
    have held : (s.quench a cause).boot.slotHeld = false := by
      rw [(State.quench_evolves (ps := quenchParts) rfl s a cause (.refl s)).boot_eq (by decide)]; exact hh
    refine ih held ?_
    by_cases ha : i = a
    · subst ha
      obtain hq | ⟨-, hp⟩ := h
      · exact .inl (State.quench_stays hq cause)
      · exact .inl (State.quench_takes hh hp cause)
    · obtain hq | ⟨hm, hp⟩ := h
      · exact .inl ((others.st_eq ha).trans hq)
      · exact .inr ⟨(List.mem_cons.mp hm).resolve_left ha, (others.powered_eq ha).trans hp⟩

end Sys2Proof.Machine
end

section
/-! PROOFS of the quench family: the temperature and rail monitors of a polder (03 R82, R83, R91, R92). -/

namespace Sys2Proof.Machine

/-- The parts that a monitor of a polder may change. -/
abbrev polderParts : List Part :=
  [.slots, .polders, .timers, .dev, .flow, .mram, .cores, .telemetry, .counts, .lpos, .audit, .crypto, .loops, .out, .pba]

/-! The warning of a polder (03 R82). -/

section
variable (s : State)

/-- A loop-back that ends leaves the supply of every slot as it is (17 R443, R445). -/
theorem State.abortSlotLoop_powered (i j : Nat) : ((s.abortSlotLoop i).slot j).powered = (s.slot j).powered := by
  by_cases hj : j = i
  · subst hj
    have ends : (s.endLoop (j / 8) 4).slot j = s.slot j := rfl
    unfold State.abortSlotLoop
    dsimp only
    split
    · split
      · have vcc := ((Follows.refl j (s.endLoop (j / 8) 4)).beginDeact true).slot.vcc
        rw [Slot.powered, vcc, ends, Slot.powered]
      · rw [Slot.powered, State.modSlot_slot, ends, Slot.powered]
    · rfl
  · exact (State.abortSlotLoop_keeps s i rfl (.refl i s)).powered_eq hj

/-- What a warning that comes on ends first: a PAD loop-back of the polder (17 R443). -/
def State.endPad (s : State) (p : Nat) (on : Bool) : State :=
  if on && (s.loop p).running && (s.loop p).depth = 2 then s.abortSlotLoop (8 * p + (s.loop p).index) else s

theorem State.endPad_powered (p : Nat) (on : Bool) (j : Nat) : ((s.endPad p on).slot j).powered = (s.slot j).powered := by
  unfold State.endPad
  split
  · exact s.abortSlotLoop_powered _ j
  · rfl

theorem State.endPad_otherPolders (p : Nat) (on : Bool) : OtherPolders p s (s.endPad p on) := by
  unfold State.endPad
  split
  · have low : (s.loop p).index < 8 := Nat.mod_lt _ (by decide)
    exact (State.abortSlotLoop_keeps s _ rfl (.refl _ s)).otherPolders (by omega)
  · exact fun _ _ => rfl

theorem State.endPad_evolves (p : Nat) (on : Bool) : Evolves [.slots, .timers, .dev, .flow, .mram, .cores, .counts, .lpos, .audit, .loops, .out, .pba] s (s.endPad p on) :=
  .ite (fun _ => State.abortSlotLoop_evolves rfl s _ (.refl s)) fun _ => .refl s

variable (p : Nat) (v : Int)

/-- A polder whose warning becomes `on` at a tide. -/
def Polder.warned (q : Polder) (on : Bool) (tide : Tide) : Polder := { q with warn := on, warnClearAt := if on then q.warnClearAt else tide.toNat }

theorem State.setWarn_eq (on : Bool) : s.setWarn p on v =
    ((((s.endPad p on).modPolder p fun q => q.warned on s.ltide).post 0x13 p (b2n on) [BitVec.ofInt 32 (shownTemp v)]).irq 6) := rfl

theorem State.setWarn_after (on : Bool) : Evolves [.dev, .counts, .out, .pba] ((s.endPad p on).modPolder p fun q => q.warned on s.ltide) (s.setWarn p on v) :=
  State.irq_evolves rfl _ _ (State.post_evolves rfl _ _ _ _ _ (.refl _))

theorem State.setWarn_polder (on : Bool) : (s.setWarn p on v).polder p = (s.polder p).warned on s.ltide := by
  have after : (s.setWarn p on v).polders = ((s.endPad p on).modPolder p fun q => q.warned on s.ltide).polders :=
    (s.setWarn_after p v on).changes.at (p := .polders) (by decide)
  have before : (s.endPad p on).polders = s.polders := (s.endPad_evolves p on).changes.at (p := .polders) (by decide)
  rw [State.polder, after]
  exact (State.modPolder_polder _ p _).trans (by rw [State.polder, before, State.polder])

theorem State.setWarn_slot (on : Bool) (j : Nat) : (s.setWarn p on v).slot j = (s.endPad p on).slot j := (s.setWarn_after p v on).slot_eq (by decide) j

theorem State.setWarn_otherPolders (on : Bool) : OtherPolders p s (s.setWarn p on v) := fun j hj => by
  rw [State.setWarn_slot]
  exact s.endPad_otherPolders p on j hj

theorem State.setWarn_off_evolves : Evolves [.polders, .dev, .counts, .out, .pba] s (s.setWarn p false v) :=
  ((Evolves.refl s).modPolder p _ rfl).trans ((s.setWarn_after p v false).mono rfl)

end
/-! A sample (03 R82, R91). -/

/-- A polder with a temperature sample taken. -/
def Polder.sample (q : Polder) (c : Int) : Polder :=
  { q with prevTemp := some c, temp := some (shownTemp c), peak := some (match q.peak with | some v => max v (shownTemp c) | none => shownTemp c) }

/-- The powered slots of polder p are quenched for its temperature, which is counted where there are any. -/
def State.overheat (s : State) (p : Nat) : State :=
  let l := (polderSlots p).filter fun i => (s.slot i).powered
  (if l.isEmpty then s else (s.modPolder p fun q => { q with hotQuench := true }).tally (0x2300 + p) 6).quenchAll l 7

section
variable {s : State} {p : Fin 8} {c : Int}

theorem exec_tempSample_first (h : (s.polder p).prevTemp = none) : exec (.tempSample p c) s = .next (s.modPolder p fun q => q.sample c) := by
  change execTempSample p c s = _
  simp only [execTempSample, h, Bool.and_false, Bool.false_eq_true, if_false]
  rfl

/-- A sample of c degrees taken after one of v, and the warning changed where both ask for it. -/
def State.sampleAfter (s : State) (p : Nat) (v c : Int) : State :=
  let s1 := s.modPolder p fun q => q.sample c
  if (s.polder p).warn = false ∧ 115 ≤ v ∧ 115 ≤ c then s1.setWarn p true c
  else if (s.polder p).warn = true ∧ v ≤ 110 ∧ c ≤ 110 then s1.setWarn p false c else s1

theorem exec_tempSample_next {v : Int} (h : (s.polder p).prevTemp = some v) :
    exec (.tempSample p c) s = .next (if 130 ≤ v ∧ 130 ≤ c then (s.sampleAfter p v c).overheat p else s.sampleAfter p v c) := by
  change execTempSample p c s = _
  unfold execTempSample
  simp only [h, Bool.and_eq_true, Bool.not_eq_true', decide_eq_true_eq]
  exact (apply_ite Host.Outcome.next _ _ _).symm

theorem exec_tempSample_mild {v : Int} (h : (s.polder p).prevTemp = some v) (hq : v < 130 ∨ c < 130) :
    exec (.tempSample p c) s = .next (s.sampleAfter p v c) := by
  rw [exec_tempSample_next h, if_neg (by omega)]

theorem exec_tempSample_hot {v : Int} (h : (s.polder p).prevTemp = some v) (hv : 130 ≤ v) (hc : 130 ≤ c) :
    exec (.tempSample p c) s = .next ((s.sampleAfter p v c).overheat p) := by
  rw [exec_tempSample_next h, if_pos ⟨hv, hc⟩]

end

section
variable (s : State) (p : Nat) (v c : Int)

theorem State.sample_evolves : Evolves [.polders] s (s.modPolder p fun q => q.sample c) := (Evolves.refl s).modPolder p _ rfl

theorem State.sample_warned (on : Bool) : ((s.modPolder p fun q => q.sample c).setWarn p on c).polder p = ((s.polder p).sample c).warned on s.ltide := by
  rw [State.setWarn_polder, State.modPolder_polder]
  rfl

variable {s p v c}

theorem State.sampleAfter_warns (hw : (s.polder p).warn = false) (hv : 115 ≤ v) (hc : 115 ≤ c) :
    s.sampleAfter p v c = (s.modPolder p fun q => q.sample c).setWarn p true c := if_pos ⟨hw, hv, hc⟩

theorem State.sampleAfter_clears (hw : (s.polder p).warn = true) (hv : v ≤ 110) (hc : c ≤ 110) :
    s.sampleAfter p v c = (s.modPolder p fun q => q.sample c).setWarn p false c := by
  rw [State.sampleAfter, if_neg (by omega), if_pos ⟨hw, hv, hc⟩]

theorem State.sampleAfter_stays (hw : (s.polder p).warn = false → v < 115 ∨ c < 115) (hc : (s.polder p).warn = true → 110 < v ∨ 110 < c) :
    s.sampleAfter p v c = s.modPolder p fun q => q.sample c := by
  rw [State.sampleAfter, if_neg, if_neg]
  · rintro ⟨on, a, b⟩
    have := hc on
    omega
  · rintro ⟨off, a, b⟩
    have := hw off
    omega

/-- What a second sample of 115 degrees or more leaves: a warning, newly or still. -/
theorem State.sampleAfter_high (hv : 115 ≤ v) (hc : 115 ≤ c) : let t := s.sampleAfter p v c
    (t.polder p).warn = true ∧ (∀ j, (t.slot j).powered = (s.slot j).powered) ∧ OtherPolders p s t ∧ Evolves polderParts s t := by
  have taken : Evolves polderParts s (s.modPolder p fun q => q.sample c) := (s.sample_evolves p c).mono rfl
  intro t
  cases hw : (s.polder p).warn with
  | false =>
    have warns : t = (s.modPolder p fun q => q.sample c).setWarn p true c := State.sampleAfter_warns hw hv hc
    rw [warns, State.sample_warned]
    exact ⟨rfl, fun j => by rw [State.setWarn_slot, State.endPad_powered]; rfl, State.setWarn_otherPolders (s.modPolder p fun q => q.sample c) p c true,
      State.setWarn_evolves rfl _ _ _ _ taken⟩
  | true =>
    have stays : t = s.modPolder p fun q => q.sample c := State.sampleAfter_stays (fun off => by rw [hw] at off; cases off) fun _ => by omega
    rw [stays, State.modPolder_polder]
    exact ⟨hw, fun _ => rfl, .of_slots rfl, taken⟩

end

/-! A polder that overheats. -/

section
variable (s : State) (p : Nat)

/-- An overheated polder is marked, and then its powered slots are quenched. -/
theorem State.overheat_marks : ∃ t, s.overheat p = t.quenchAll ((polderSlots p).filter fun i => (s.slot i).powered) 7 ∧
    Evolves [.polders, .counts] s t ∧ (t.polder p).warn = (s.polder p).warn := by
  refine ⟨_, rfl, ?_, ?_⟩
  · exact .ite (fun _ => .refl s) fun _ => State.tally_evolves rfl _ _ _ _ _ ((Evolves.refl s).modPolder p _ rfl)
  · split
    · rfl
    · change ((s.modPolder p fun q => { q with hotQuench := true }).polder p).warn = _
      rw [State.modPolder_polder]

theorem State.overheat_evolves : Evolves polderParts s (s.overheat p) := by
  obtain ⟨t, e, marked, -⟩ := s.overheat_marks p
  rw [e]
  exact (marked.mono rfl).trans ((t.quenchAll_evolves _ 7).mono rfl)

theorem State.overheat_otherPolders : OtherPolders p s (s.overheat p) := by
  obtain ⟨t, e, marked, -⟩ := s.overheat_marks p
  rw [e]
  refine (OtherPolders.of_slots (marked.changes.at (p := .slots) (by decide))).trans (t.quenchAll_otherPolders (fun i hi => ?_) 7)
  exact mem_polderSlots.mp (List.mem_of_mem_filter hi)

theorem State.overheat_warn : ((s.overheat p).polder p).warn = (s.polder p).warn := by
  obtain ⟨t, e, -, kept⟩ := s.overheat_marks p
  have polders : (s.overheat p).polders = t.polders := by
    rw [e]
    exact (t.quenchAll_evolves _ 7).changes.at (p := .polders) (by decide)
  rw [State.polder, polders]
  exact kept

variable {s p}

theorem State.overheat_takes (hh : s.boot.slotHeld = false) {i : Nat} (hi : i / 8 = p) (hp : (s.slot i).powered = true) :
    ((s.overheat p).slot i).st = .quenching := by
  obtain ⟨t, e, marked, -⟩ := s.overheat_marks p
  rw [e]
  refine State.quenchAll_takes (by rw [marked.boot_eq (by decide)]; exact hh) (.inr ⟨?_, by rw [marked.slot_eq (by decide)]; exact hp⟩)
  exact List.mem_filter.mpr ⟨mem_polderSlots.mpr hi, hp⟩

end

/-! Card rails (03 R83, R92). -/

/-- A branch of a card rail of polder p reads low: a first reading raises RAIL, a fall is counted under sub, and f marks the polder. -/
def State.branchFalls (s : State) (p : Nat) (seen low : Bool) (sub : Nat) (f : Polder → Polder) : State :=
  let s1 := if seen then s else s.irq 5
  (if low then s1 else s1.tally (0x2300 + p) sub).modPolder p f

section
variable (s : State) (p : Nat) (seen low : Bool) (sub : Nat) (f : Polder → Polder)

theorem State.branchFalls_evolves : Evolves [.polders, .dev, .counts, .out, .pba] s (s.branchFalls p seen low sub f) := by
  have raised : Evolves [.polders, .dev, .counts, .out, .pba] s (if seen then s else s.irq 5) :=
    .ite (fun _ => .refl s) fun _ => State.irq_evolves rfl s 5 (.refl s)
  exact (Evolves.ite (fun _ => raised) fun _ => State.tally_evolves rfl _ _ _ _ _ raised).modPolder p f rfl

theorem State.branchFalls_polder : (s.branchFalls p seen low sub f).polder p = f (s.polder p) := by
  have kept : (if low then (if seen then s else s.irq 5) else (if seen then s else s.irq 5).tally (0x2300 + p) sub).polders = s.polders := by
    have raised : Evolves [.dev, .counts, .out, .pba] s (if seen then s else s.irq 5) :=
      .ite (fun _ => .refl s) fun _ => State.irq_evolves rfl s 5 (.refl s)
    exact (Evolves.ite (fun _ => raised) fun _ => State.tally_evolves rfl _ _ _ _ _ raised).changes.at (p := .polders) (by decide)
  exact (State.modPolder_polder _ p f).trans (by rw [State.polder, kept, State.polder])

theorem State.branchFalls_rail : (s.branchFalls p seen low sub f).dev.irqStatus.getLsbD 5 = (!seen || s.dev.irqStatus.getLsbD 5) := by
  have dev : (s.branchFalls p seen low sub f).dev = (if seen then s else s.irq 5).dev := by
    unfold State.branchFalls
    cases low <;> rfl
  rw [dev]
  cases seen
  · exact s.irq_status 5 (by decide)
  · rfl

end

/-- The RAIL source is one that no quench raises. -/
theorem rail_of_calm {s t : State} (h : t.calm = s.calm) : t.dev.irqStatus.getLsbD 5 = s.dev.irqStatus.getLsbD 5 := by
  have e := congrArg (fun w : BitVec 16 => w.getLsbD 5) h
  simpa [State.calm] using e

/-- The slots of a rail are quenched after a branch of polder p has read low: what the RAIL source, the polder and its slots are then. -/
theorem State.branchFalls_quenches (s : State) (p : Nat) (seen low : Bool) (sub : Nat) (f : Polder → Polder) (high : Bool) (cause : Nat) :
    let u := s.branchFalls p seen low sub f
    let t := u.quenchAll (u.railSlots p high) cause
    t.polder p = f (s.polder p) ∧ t.dev.irqStatus.getLsbD 5 = (!seen || s.dev.irqStatus.getLsbD 5) ∧
      (s.boot.slotHeld = false → ∀ i ∈ s.railSlots p high, (t.slot i).st = .quenching) ∧ OtherPolders p s t ∧ Changes polderParts s t := by
  intro u t
  have fell : Evolves [.polders, .dev, .counts, .out, .pba] s u := s.branchFalls_evolves p seen low sub f
  have quenched : Evolves quenchParts u t := u.quenchAll_evolves _ cause
  have slots : u.slots = s.slots := fell.changes.at (p := .slots) (by decide)
  have list : u.railSlots p high = s.railSlots p high := by simp only [State.railSlots, State.slot, slots]
  refine ⟨?_, ?_, fun hh i hi => ?_, ?_, ((fell.mono rfl).trans (quenched.mono rfl)).changes⟩
  · have polders : t.polders = u.polders := quenched.changes.at (p := .polders) (by decide)
    rw [State.polder, polders]
    exact s.branchFalls_polder p seen low sub f
  · rw [rail_of_calm (u.quenchAll_calm _ cause), s.branchFalls_rail]
  · have powered : (s.slot i).powered = true := (Bool.and_eq_true_iff.mp (List.mem_filter.mp hi).2).1
    refine State.quenchAll_takes (by rw [fell.boot_eq (by decide)]; exact hh) (.inr ⟨by rw [list]; exact hi, ?_⟩)
    rw [State.slot, slots]
    exact powered
  · refine (OtherPolders.of_slots slots).trans (u.quenchAll_otherPolders (fun i hi => ?_) cause)
    exact mem_polderSlots.mp (List.mem_of_mem_filter hi)

theorem State.mem_railSlots_high {s : State} {p i : Nat} (hi : i / 8 = p) (hp : (s.slot i).powered = true) (hc : (s.slot i).seq.cls = some .a) :
    i ∈ s.railSlots p true :=
  List.mem_filter.mpr ⟨mem_polderSlots.mpr hi, by rw [hp, hc]; rfl⟩

theorem State.mem_railSlots_low {s : State} {p i : Nat} (hi : i / 8 = p) (hp : (s.slot i).powered = true)
    (hc : (s.slot i).seq.cls = some .b ∨ (s.slot i).seq.cls = some .c) : i ∈ s.railSlots p false := by
  refine List.mem_filter.mpr ⟨mem_polderSlots.mpr hi, ?_⟩
  rcases hc with hc | hc <;> rw [hp, hc] <;> rfl

section
variable (p : Fin 8) (s : State)

theorem exec_railH :
    let u := s.branchFalls p (s.polder p).highSeen (s.polder p).highLow 7 fun q => { q with highLow := true, highSeen := true }
    exec (.railH p) s = .next (u.quenchAll (u.railSlots p true) 8) := rfl

theorem exec_railL :
    let u := s.branchFalls p (s.polder p).lowSeen (s.polder p).lowLow 8 fun q => { q with lowLow := true, lowSeen := true }
    exec (.railL p) s = .next (u.quenchAll (u.railSlots p false) 9) := rfl

end

/-- Settles O20: two samples in a row decide the warning and the quench, a low branch the quench of the slots it supplies. -/
theorem polderMonitors : Obligations.PolderMonitors := by
  intro s p c ag
  refine ⟨fun h => ?_, fun v h hw hc => ?_, fun v h hv hc hw hq => ?_, fun v h hv hc hw => ?_, fun v h hv hc hh => ?_, ?_, ?_, fun h => ?_, fun h => ?_, rfl⟩
  · exact exec_tempSample_first h
  · have stays : s.sampleAfter p v c = s.modPolder p fun q => q.sample c := State.sampleAfter_stays (fun _ => hw) fun on => by simpa [on] using hc
    rw [exec_tempSample_mild h (by omega), stays]
    rfl
  · obtain ⟨-, -, others, changed⟩ := State.sampleAfter_high (s := s) (p := p) hv hc
    refine ⟨_, exec_tempSample_mild h hq, ?_⟩
    rw [State.sampleAfter_warns hw hv hc] at others changed ⊢
    exact ⟨by rw [State.sample_warned]; rfl, by rw [State.sample_warned]; rfl, State.irq_status _ 6 (by decide), others, changed.changes⟩
  · have changed := ((s.sample_evolves p c).mono rfl).trans (State.setWarn_off_evolves (s.modPolder p fun q => q.sample c) p c)
    refine ⟨_, exec_tempSample_mild h (by omega), ?_⟩
    rw [State.sampleAfter_clears hw hv hc]
    exact ⟨by rw [State.sample_warned]; rfl, by rw [State.sample_warned]; rfl, changed.changes.at (p := .slots) (by decide), changed.changes⟩
  · obtain ⟨warn, powered, others, changed⟩ := State.sampleAfter_high (s := s) (p := p) (v := v) (c := c) (by omega) (by omega)
    refine ⟨_, exec_tempSample_hot h hv hc, fun i hi hp => ?_, ?_, ?_, ?_⟩
    · exact State.overheat_takes (by rw [changed.boot_eq (by decide)]; exact hh) hi ((powered i).trans hp)
    · rw [State.overheat_warn]
      exact warn
    · exact others.trans (State.overheat_otherPolders _ p)
    · exact (changed.trans (State.overheat_evolves _ p)).changes
  · obtain ⟨hpol, hirq, hq, ho, hc⟩ := s.branchFalls_quenches p (s.polder p).highSeen (s.polder p).highLow 7
      (fun q => { q with highLow := true, highSeen := true }) true 8
    exact ⟨_, exec_railH p s, by rw [hpol], by rw [hpol], hirq, fun hh i hi hp ha => hq hh i (State.mem_railSlots_high hi hp ha), ho, hc⟩
  · obtain ⟨hpol, hirq, hq, ho, hc⟩ := s.branchFalls_quenches p (s.polder p).lowSeen (s.polder p).lowLow 8
      (fun q => { q with lowLow := true, lowSeen := true }) false 9
    exact ⟨_, exec_railL p s, by rw [hpol], by rw [hpol], hirq, fun hh i hi hp ha => hq hh i (State.mem_railSlots_low hi hp ha), ho, hc⟩
  · exact congrArg Host.Outcome.next (State.modPolder_congr (if_pos h))
  · exact congrArg Host.Outcome.next (State.modPolder_congr (if_pos h))

end Sys2Proof.Machine
end

section
/-! PROOFS of the characters family: CHAR_RAW (04 R112, Table 4-9, 11 R310). -/

namespace Sys2Proof.Machine

/-! A write. -/

section
variable (s : State) (k : Fin 4) (i : Fin 64) (v : Word)

theorem exec_charRawWrite_queues (hs : twf {} s.slots = true) (hr : (s.slot i).raw = true) (hl : (s.slot i).ch.rawTx.length < 16) :
    exec (.charRawWrite (.window k) i v) s = .next (s.modSlot i fun x => { x with
      regs := { x.regs with cmdErr := .none }, ch := { x.ch with rawTx := x.ch.rawTx ++ [v.setWidth 9] } }) := by
  have written : s.writeRaw (.window k) i v =
      (s.slotErr i .none).modSlot i fun x => { x with ch := { x.ch with rawTx := x.ch.rawTx ++ [v.setWidth 9] } } := if_pos ⟨hr, hl⟩
  change nx (s.writeRaw (.window k) i v) = _
  rw [written, State.slotErr, State.modSlot_modSlot _ _ _ _ hs]

theorem exec_charRawWrite_full (h : (s.slot i).raw = false ∨ 16 ≤ (s.slot i).ch.rawTx.length) :
    exec (.charRawWrite (.window k) i v) s = .next (s.modSlot i fun x => { x with regs := { x.regs with cmdErr := .state } }) := by
  refine congrArg Host.Outcome.next (if_neg ?_)
  rintro ⟨hr, hl⟩
  rcases h with h | h
  · rw [hr] at h; contradiction
  · omega

theorem exec_charRawWrite_elsewhere {ag : Agent} (hw : ∀ k, ag ≠ .window k) (hg : s.allows ag 1 = true) :
    exec (.charRawWrite ag i v) s = .next (s.modSlot i fun x => { x with regs := { x.regs with cmdErr := .state } }) := by
  change nx (s.writeRaw ag i v) = _
  rw [State.writeRaw, State.granted_of_allows hg]
  cases ag with
  | window k => exact absurd rfl (hw k)
  | path p => rfl
  | core k => rfl
  | fw => rfl

end

/-! A read. -/

/-- The answer to a read: the framing flag, the words left and the nine levels (04 Table 4-9). -/
def rawWord (g : Bool) (n : Nat) (l : BitVec 9) : Word := packed [(31, 1), (30, b2n g), (16, n), (0, l.toNat)]

theorem rawWord_toNat (g : Bool) {n : Nat} (hn : n < 16) (l : BitVec 9) : (rawWord g n l).toNat = 2 ^ 31 + b2n g * 2 ^ 30 + n * 2 ^ 16 + l.toNat := by
  have := l.isLt
  cases g <;> simp [rawWord, packed, b2n] <;> omega

theorem rawWord_fields (g : Bool) {n : Nat} (hn : n < 16) (l : BitVec 9) : fld (rawWord g n l) 31 31 = 1 ∧ fld (rawWord g n l) 30 30 = b2n g ∧
    fld (rawWord g n l) 8 0 = l.toNat ∧ fld (rawWord g n l) 20 16 = n := by
  have := l.isLt
  cases g <;> simp only [fld, rawWord_toNat _ hn, b2n, Bool.false_eq_true, if_false, if_true] <;> omega

section
variable {s : State} {i : Fin 64}

theorem exec_charRawRead_takes (k : Fin 4) (hr : (s.slot i).raw = true) {g : Bool} {l : BitVec 9} {r : List (Bool × BitVec 9)}
    (hq : (s.slot i).ch.rawRx = (g, l) :: r) : exec (.charRawRead (.window k) i) s =
      .next { s.modSlot i fun x => { x with ch := { x.ch with rawRx := r } } with lastRead := rawWord g r.length l } := by
  change nx { (s.readRaw (.window k) i).2 with lastRead := (s.readRaw (.window k) i).1 } = _
  simp only [State.readRaw, hr, if_true, hq]
  rfl

theorem exec_charRawRead_empty (k : Fin 4) (h : (s.slot i).raw = false ∨ (s.slot i).ch.rawRx = []) :
    exec (.charRawRead (.window k) i) s = .next { s with lastRead := 0#32 } := by
  have none_ : (if (s.slot i).raw then (s.slot i).ch.rawRx else []) = [] := by rcases h with h | h <;> simp [h]
  change nx { (s.readRaw (.window k) i).2 with lastRead := (s.readRaw (.window k) i).1 } = _
  simp only [State.readRaw, none_]

theorem exec_charRawRead_elsewhere {ag : Agent} (hw : ∀ k, ag ≠ .window k) : exec (.charRawRead ag i) s = .next { s with lastRead := 0#32 } := by
  change nx { (s.readRaw ag i).2 with lastRead := (s.readRaw ag i).1 } = _
  cases ag with
  | window k => exact absurd rfl (hw k)
  | path p => rfl
  | core k => rfl
  | fw => rfl

end

theorem State.readTaken_changes (s : State) (i : Nat) (f : Slot → Slot) (w : Word) :
    Changes [.slots, .lastRead] s { s.modSlot i f with lastRead := w } :=
  ⟨rfl, fun p => by
    cases p
    case slots => exact .inl (by decide)
    case lastRead => exact .inl (by decide)
    all_goals exact .inr rfl⟩

/-- Settles O23: CHAR_RAW works through a slot window in RAW, and is refused or empty everywhere else. -/
theorem rawCharacters : Obligations.RawCharacters := by
  intro s k i v hwf x
  refine ⟨exec_charRawWrite_queues s k i v (State.wf_slots hwf), exec_charRawWrite_full s k i v, fun ag => exec_charRawWrite_elsewhere s i v,
    fun hr g l r hq hn => ?_, exec_charRawRead_empty k, fun ag => exec_charRawRead_elsewhere⟩
  obtain ⟨a, answered, valid, framing, levels, count⟩ : ∃ a, exec (.charRawRead (.window k) i) s =
      .next { s.modSlot i fun x => { x with ch := { x.ch with rawRx := r } } with lastRead := a } ∧
      fld a 31 31 = 1 ∧ fld a 30 30 = b2n g ∧ fld a 8 0 = l.toNat ∧ fld a 20 16 = r.length :=
    ⟨_, exec_charRawRead_takes k hr hq, rawWord_fields g hn l⟩
  refine ⟨_, answered, ?_, valid, framing, levels, count, ?_, s.readTaken_changes _ _ _⟩
  · exact s.modSlot_slot i fun x => { x with ch := { x.ch with rawRx := r } }
  · exact ((OtherSlots.refl i s).modSlot fun x => { x with ch := { x.ch with rawRx := r } }).raw rfl

end Sys2Proof.Machine
end

section
/-! PROOFS of the characters family: what its commands share. What has been received is read, the timing that a start edge latches, and the counts (04
R98, R114, 06 R154). -/

namespace Sys2Proof.Machine

/-! Parts that an operation leaves alone. -/

section
variable {l : List Part} {s t : State} (h : Evolves l s t)
include h

theorem Evolves.timer_eq (hl : Part.timers ∉ l) (n : Nat) : t.timer n = s.timer n := by
  have e : t.timers = s.timers := h.changes.at hl
  simp only [State.timer, e]

theorem Evolves.count_eq (hl : Part.telemetry ∉ l) (i c : Nat) : t.count i c = s.count i c := by
  have e : t.telemetry = s.telemetry := h.changes.at hl
  simp only [State.count, e]

theorem Evolves.out_eq (hl : Part.out ∉ l) : t.out = s.out := h.changes.at hl

end

theorem State.bump_count_ne (s : State) (i : Nat) {c d : Nat} (h : d ≠ c) : (s.bump i c).count i d = s.count i d :=
  tget_tset_ne _ _ _ _ _ (by omega)

@[simp] theorem State.bump_out (s : State) (i c : Nat) : (s.bump i c).out = s.out := rfl

theorem State.elapseTo_count (s : State) (n i c : Nat) : (s.elapseTo n).count i c = s.count i c :=
  ((Evolves.refl s).elapseTo (l := [.now, .timers, .tide, .cores]) n rfl).count_eq (by decide) i c

/-! Nothing is unread, and no window of characters is full. -/

section
variable {s : State} {i : Nat}

theorem State.digest_unread (h : (s.slot i).ch.rxBuf = []) : s.digest i = s := by
  have pps : s.ppsJudge i = s := by simp only [State.ppsJudge, h]; rfl
  have t1 : s.t1Whole i = s := by simp only [State.t1Whole, h]; rfl
  simp only [State.digest, h, pps, t1, List.length_nil, State.t0Read, ite_self]

theorem State.edgeFull_few (h : (s.slot i).temp.win.chars < 16) : s.edgeFull i = s := if_neg (by omega)

/-- A wait that expires at ck t or later is not overdue at t (06 R155). -/
theorem State.overdue_none {t : Nat} (h : ∀ v, (s.slot i).wait = some v → t ≤ (s.slot i).waitAt v) : s.overdue i t = s := by
  unfold State.overdue
  dsimp only
  split
  · next v hw =>
    have due := h v hw
    exact if_neg (by omega)
  · rfl

theorem State.overdue_some {t : Nat} {v : Wait} (hw : (s.slot i).wait = some v) (h : (s.slot i).waitAt v + 1 < t) : s.overdue i t = s.expire i v := by
  simp only [State.overdue, hw]
  exact if_pos (by omega)

end

/-! The timing that a start edge latches (04 R98). -/

theorem Slot.takeUp_divNext {x : Slot} (h : x.seq.divNext = none) (n : Nat) : (x.takeUp n).seq.divNext = none := by
  obtain ⟨r, p, e⟩ := x.takeTrim_eq n
  simp only [Slot.takeUp, h, e]

theorem Slot.latch_spec (x : Slot) (n : Nat) : ∃ m r d p e o g b,
    x.latch n = { x with
      seq := { x.seq with div := m, clkRef := r, divNext := d }, temp := p
      ch := { x.ch with etu := e, latOfs := o, latGt := g, pend := b, lastStart := n } } ∧
    (x.ch.chg = none → e = etuOf x.regs.charEtu (x.divNow n) ∧ o = x.temp.app.ofs ∧ g = x.txGuard ∧ (x.seq.divNext = none → b = false)) := by
  obtain ⟨m, r, d, p, h⟩ := x.takeUp_eq n
  have now : x.divNow n = m := by rw [Slot.divNow, h]
  have next (hd : x.seq.divNext = none) : d = none := by have := Slot.takeUp_divNext hd n; rwa [h] at this
  unfold Slot.latch
  rw [h, now]
  refine ⟨_, _, _, _, _, _, _, _, rfl, fun hc => ?_⟩
  rw [hc]
  exact ⟨rfl, rfl, rfl, fun hd => by rw [next hd]; rfl⟩

theorem Slot.measure_eq (x : Slot) (f : Window → Window) : ∃ p, x.measure f = { x with temp := p } := by
  unfold Slot.measure
  split
  · exact ⟨_, rfl⟩
  · exact ⟨x.temp, rfl⟩

/-! A start edge at the timers of the slot: T0 restarts, and captures change no count. -/

theorem State.capture_timer (s : State) (t src n : Nat) :
    ((s.capture t src).timer n).en = (s.timer n).en ∧ ((s.capture t src).timer n).count = (s.timer n).count := by
  unfold State.capture
  dsimp only
  split
  · rw [(State.timerIrq_evolves (ps := [.cores]) rfl _ _ _ (.refl _)).timer_eq (by decide)]
    by_cases hn : n = t
    · subst hn
      rw [State.modTimer_timer]
      split <;> exact ⟨rfl, rfl⟩
    · rw [State.modTimer_timer_ne _ _ _ _ hn]
      exact ⟨rfl, rfl⟩
  · exact ⟨rfl, rfl⟩

theorem State.captureSlot_timer (s : State) (i src n : Nat) :
    ((s.captureSlot i src).timer n).en = (s.timer n).en ∧ ((s.captureSlot i src).timer n).count = (s.timer n).count := by
  obtain ⟨e0, c0⟩ := s.capture_timer (3 * i) src n
  obtain ⟨e1, c1⟩ := (s.capture (3 * i) src).capture_timer (3 * i + 1) src n
  obtain ⟨e2, c2⟩ := ((s.capture (3 * i) src).capture (3 * i + 1) src).capture_timer (3 * i + 2) src n
  exact ⟨e2.trans (e1.trans e0), c2.trans (c1.trans c0)⟩

theorem State.restartT0_timer (s : State) (i : Nat) (h : ((s.restartT0 i).timer (3 * i)).en = true) : ((s.restartT0 i).timer (3 * i)).count = 0 := by
  unfold State.restartT0 at h ⊢
  rw [State.modTimer_timer] at h ⊢
  split at h
  · next on => rw [if_pos on]
  · next off => exact absurd h off

end Sys2Proof.Machine
end

section
/-! PROOFS of the characters family: an exchange that ends IN_DOUBT with a warm reset to follow leaves its slot out of service, the character engine
halted, with its end code in LAST_END (06 R170, R178, R179). -/

namespace Sys2Proof.Machine

/-! What leaving service, a reset and a deactivation leave of an exchange. -/

/-- LAST_END and TX_RPT_LIM of a slot (06 Table 6-18, 04 Table 4-8). -/
def Slot.ending (x : Slot) : Nat × Bool := (x.pr.lastEnd, x.ch.txRptLim)

theorem SlotsStand.ending {s t : State} (h : SlotsStand s t) (i : Nat) : (t.slot i).ending = (s.slot i).ending := by
  have e := h i
  simp only [Slot.mk.injEq] at e
  obtain ⟨-, -, -, hch, hpr, -⟩ := e
  rw [Slot.ending, hch, hpr, Slot.ending]

section
variable (s : State) (i : Nat)

theorem State.xchgHwEnd_ending : ((s.xchgHwEnd i).slot i).ending = (s.slot i).ending := by
  unfold State.xchgHwEnd
  split
  · rw [(State.line_evolves (ps := [.cores]) rfl _ _ (.refl _)).slot_eq (by decide), State.modSlot_slot]
    rfl
  · rfl

theorem State.forceEnd_ending (status cause : Nat) : ((s.forceEnd i status cause).slot i).ending = (s.slot i).ending := by
  unfold State.forceEnd
  dsimp only
  split
  · rfl
  · split
    · rw [State.modSlot_slot]
      rfl
    · rw [(State.exchResult_stand _ i _).ending, State.xchgHwEnd_ending]
      split
      · rw [(State.unwrapSsc_evolves (ps := [.flow]) rfl _ _ (.refl s)).slot_eq (by decide)]
      · rfl

theorem State.leaveService_ending (down : Bool) (status cause : Nat) : ((s.leaveService i down status cause).slot i).ending = (s.slot i).ending := by
  have left (u : State) : SlotsStand u ((u.closeAll false i).setsLeave i status cause) :=
    (u.closeAll_stand false i).trans (State.setsLeave_stand _ i status cause)
  unfold State.leaveService
  dsimp only
  rw [State.modSlot_slot]
  refine ((left _).ending i).trans ?_
  split
  · exact (s.endWaiters_stand i cause).ending i
  · rfl

end

/-- The character engine is halted (03 R68, 04 R111). -/
def CharEng.halted (c : CharEng) : Prop := c.rxOn = none ∧ c.txq = [] ∧ c.txChk = none ∧ c.txAgain = none

theorem Slot.toWarm_halted (x : Slot) (n : Nat) : (x.toWarm n).ch.halted ∧ (x.toWarm n).ending = x.ending := by
  obtain ⟨m, r, d, a, p, e⟩ := x.stageDiv_eq n x.actDiv
  unfold Slot.toWarm
  rw [e]
  exact ⟨⟨rfl, rfl, rfl, rfl⟩, rfl⟩

theorem State.warmReset_halted (s : State) (i : Nat) : ((s.warmReset i).slot i).ch.halted ∧ ((s.warmReset i).slot i).ending = (s.slot i).ending := by
  have warm : (s.warmReset i).slot i = ((if (s.slot i).inService then s.leaveService i false 0 0 else s).slot i).toWarm s.now := by
    have waits (u : State) : ((u.endWait i 0).endWait i 1).slot i = u.slot i := rfl
    unfold State.warmReset
    dsimp only
    rw [waits, State.modSlot_slot]
    rfl
  rw [warm]
  refine ⟨(Slot.toWarm_halted _ _).1, (Slot.toWarm_halted _ _).2.trans ?_⟩
  split
  · exact s.leaveService_ending i false 0 0
  · rfl

theorem State.beginDeact_halted (s : State) (i : Nat) (park : Bool) :
    ((s.beginDeact i park).slot i).ch.halted ∧ ((s.beginDeact i park).slot i).ending = (s.slot i).ending := by
  have down : (s.beginDeact i park).slot i =
      ((if (s.slot i).inService then ((s.endWaiters i).forceEnd i 0x91 0).leaveService i true 0x91 0 else s).slot i).toDown s.now
        (if park then .parked else .present) (s.slot i).inActivation := by
    unfold State.beginDeact
    extract_lets x st aborted s1 s2
    have waits : ((s2.endWait i 0).endWait i 1).slot i = s2.slot i := rfl
    rw [waits, State.modSlot_slot]
    rfl
  rw [down]
  refine ⟨⟨rfl, rfl, rfl, rfl⟩, ?_⟩
  change Slot.ending (State.slot _ i) = _
  split
  · rw [State.leaveService_ending, State.forceEnd_ending, (s.endWaiters_stand i 0).ending]
  · rfl

/-! The end of the exchange. -/

/-- Slot y is out of service after an exchange of slot x that ended with a code. -/
structure Slot.Ended (code : Nat) (x y : Slot) : Prop where
  halted : y.ch.halted
  lastEnd : y.pr.lastEnd = code
  idle : y.pr.mode = .idle
  limit : y.ch.txRptLim = x.ch.txRptLim
  st : y.st = .activating ∨ y.st = .present ∨ y.st = .parked

theorem State.endExchange_ended (s : State) (i code : Nat) (m : MemberResp) : (s.slot i).Ended code ((s.endExchange i code m true).slot i) := by
  unfold State.endExchange
  extract_lets s1 s2
  have marked : (s2.slot i).ending = (code, (s.slot i).ch.txRptLim) := by
    have waits : ((s1.endWait i 0).endWait i 1).slot i = s1.slot i := rfl
    rw [State.exchResult_stand _ i m |>.ending i, waits, State.modSlot_slot]
    exact congrArg (code, ·) (congrArg Prod.snd (s.xchgHwEnd_ending i))
  have of_ending {y : Slot} (h : y.ending = (s2.slot i).ending) : y.pr.lastEnd = code ∧ y.ch.txRptLim = (s.slot i).ch.txRptLim := by
    simpa only [Slot.ending, Prod.mk.injEq] using h.trans marked
  clear_value s2
  rw [if_pos rfl]
  split
  · obtain ⟨hst, hmode, -⟩ := s2.beginDeact_spec i (s2.slot i).seq.parkPend
    obtain ⟨halted, ending⟩ := s2.beginDeact_halted i (s2.slot i).seq.parkPend
    refine ⟨halted, (of_ending ending).1, hmode, (of_ending ending).2, ?_⟩
    rw [hst]
    split
    · exact .inr (.inr rfl)
    · exact .inr (.inl rfl)
  · obtain ⟨hst, hmode, -⟩ := ((s2.bump i 32).modSlot i fun x => { x with seq := { x.seq with retries := 0, negResetUsed := false } }).warmReset_spec i
    obtain ⟨halted, ending⟩ := ((s2.bump i 32).modSlot i fun x => { x with seq := { x.seq with retries := 0, negResetUsed := false } }).warmReset_halted i
    rw [State.modSlot_slot] at ending
    exact ⟨halted, (of_ending ending).1, hmode, (of_ending ending).2, .inl hst⟩

theorem State.endInDoubt_ended (s : State) (i code : Nat) : (s.slot i).Ended code ((s.endInDoubt i code true).slot i) := s.endExchange_ended i code _

theorem State.endInDoubt_now (s : State) (i code : Nat) (warm : Bool) : (s.endInDoubt i code warm).now = s.now := ((Follows.refl i s).endInDoubt code warm).now

/-- WT expires (06 R170). -/
theorem State.expire_wt (s : State) (i : Nat) : (s.expire i .wt).now = max s.now ((s.slot i).waitAt .wt) ∧
    (s.slot i).Ended 5 ((s.expire i .wt).slot i) := by
  have ended := ((s.elapseTo ((s.slot i).waitAt .wt)).expireWait i 0).endInDoubt_ended i 5
  rw [State.expireWait_slot, State.elapseTo_at_slot] at ended
  exact ⟨(State.endInDoubt_now _ i 5 true).trans ((State.expireWait_now _ i 0).trans (State.elapseTo_now _ _)), ended⟩

end Sys2Proof.Machine
end

section
/-! PROOFS of the characters family: transmission, the error-signal check and repetition (04 R98, R104, R106, R108 to R112, 06 R154, R170). -/

namespace Sys2Proof.Machine

/-! A transmitted start edge. -/

/-- Slot y has begun to send levels l at ck n, with what slot x stages latched there (04 R98, R106, R108). -/
structure Slot.Sends (x : Slot) (n : Nat) (l : BitVec 9) (y : Slot) : Prop where
  start : y.ch.lastStart = n
  tx : y.ch.lastTx = some n
  levels : y.ch.txLevels = l
  guard : y.ch.txFrom = n + y.ch.etu.bound y.ch.latGt
  timing : x.ch.chg = none → y.ch.latGt = x.txGuard ∧ y.ch.etu = etuOf x.regs.charEtu (x.divNow n)
  check : y.ch.txChk = if x.errsig then some { levels := l, start := n, raw := x.raw } else none
  again : y.ch.txAgain = x.ch.txAgain
  reps : y.ch.txReps = x.ch.txReps
  queue : y.ch.txq = x.ch.txq
  rawQueue : y.ch.rawTx = x.ch.rawTx
  st : y.st = x.st
  regs : y.regs = x.regs
  pr : y.pr = x.pr
  xchg : y.xchg = x.xchg

section
variable (s : State) (i : Nat) (l : BitVec 9) (w : List Reading)

theorem State.txStart_sends : (s.slot i).Sends s.now l ((s.txStart i l w).slot i) := by
  obtain ⟨m, r, d, p, e, o, g, b, hl, htiming⟩ := (s.slot i).latch_spec s.now
  unfold State.txStart
  extract_lets s1
  have kept : (((s1.restartT0 i).captureSlot i 2).emit (.chr i l)).slot i = s1.slot i :=
    (State.emit_evolves (ps := [.timers, .cores, .out]) rfl (State.captureSlot_evolves rfl _ _ _ (State.restartT0_evolves rfl _ _ (.refl s1)))).slot_eq
      (by decide) i
  rw [kept]
  unfold s1
  rw [State.modSlot_slot]
  dsimp only
  rw [hl]
  obtain ⟨q, hm⟩ := Slot.measure_eq _ _
  rw [hm]
  exact ⟨rfl, rfl, rfl, rfl, fun hc => ⟨(htiming hc).2.2.1, (htiming hc).1⟩, rfl, rfl, rfl, rfl, rfl, rfl, rfl, rfl, rfl⟩

theorem State.txStart_parts : Evolves [.slots, .timers, .cores, .out] s (s.txStart i l w) :=
  State.emit_evolves rfl (State.captureSlot_evolves rfl _ _ _ (State.restartT0_evolves rfl _ _ (State.modSlot_evolves rfl _ _ _ (.refl s))))

theorem State.txStart_out : (s.txStart i l w).out = s.out ++ [.chr i l] := by
  unfold State.txStart
  extract_lets s1
  have kept : ((s1.restartT0 i).captureSlot i 2).out = s1.out :=
    (State.captureSlot_evolves (ps := [.timers, .cores]) rfl _ _ _ (State.restartT0_evolves rfl _ _ (.refl s1))).out_eq (by decide)
  exact congrArg (· ++ [_]) kept

end

/-! The wait that a sent character sets up (06 R154). -/

/-- Slot x with BWT armed or not. -/
def Slot.withBwt (x : Slot) (b : Bool) : Slot := { x with pr := { x.pr with t1 := { x.pr.t1 with bwtArmed := b } } }

/-- BWT of slot i starts at B11 of the character it has begun (06 R154). -/
def State.awaitBlock (s : State) (i : Nat) : State :=
  let x := s.slot i
  (s.armWait i 1 3 7 (x.pr.t1.wtx * 2 ^ x.pr.bwi * 2790) 0 (some (x.ch.lastStart + x.ch.etu.bound 11))).modSlot i fun x => x.withBwt true

/-- t is s with a wait of slot i set up at most: no time has passed, and the slot is as it was but for BWT. -/
structure Waits (i : Nat) (s t : State) : Prop where
  slot : ∃ b, t.slot i = (s.slot i).withBwt b
  parts : Evolves [.slots, .timers] s t

theorem Waits.ch {i : Nat} {s t : State} (h : Waits i s t) : (t.slot i).ch = (s.slot i).ch := by
  obtain ⟨b, e⟩ := h.slot
  rw [e]
  rfl

theorem Waits.refl (i : Nat) (s : State) : Waits i s s := ⟨⟨_, rfl⟩, .refl s⟩

theorem State.armWait_waits (s : State) (i n src presc limit count : Nat) (from_ : Option Nat) :
    Waits i s (s.armWait i n src presc limit count from_) := ⟨⟨_, rfl⟩, State.armWait_evolves rfl _ _ _ _ _ _ _ _ (.refl s)⟩

theorem State.armWait_timer (s : State) (i n src presc limit count : Nat) (from_ : Option Nat) :
    let x := (s.armWait i n src presc limit count from_).timer (3 * i + n)
    x.en = from_.isNone ∧ x.enAt = from_ ∧ x.count = count ∧ x.cmp = limit % 2 ^ 32 := by
  unfold State.armWait
  rw [State.modTimer_timer]
  exact ⟨rfl, rfl, rfl, rfl⟩

theorem State.awaitBlock_waits (s : State) (i : Nat) : Waits i s (s.awaitBlock i) :=
  ⟨⟨true, State.modSlot_slot _ i (Slot.withBwt · true)⟩, by
    unfold State.awaitBlock
    exact (s.armWait_waits i _ _ _ _ _ _).parts.modSlot _ _ rfl⟩

theorem State.awaitBlock_spec (s : State) (i : Nat) : let x := s.slot i; let t := s.awaitBlock i
    (t.slot i).pr.t1.bwtArmed = true ∧ (t.timer (3 * i + 1)).enAt = some (x.ch.lastStart + x.ch.etu.bound 11) ∧
      (t.timer (3 * i + 1)).cmp = x.pr.t1.wtx * 2 ^ x.pr.bwi * 2790 % 2 ^ 32 := by
  obtain ⟨-, enAt, -, cmp⟩ := s.armWait_timer i 1 3 7 ((s.slot i).pr.t1.wtx * 2 ^ (s.slot i).pr.bwi * 2790) 0
    (some ((s.slot i).ch.lastStart + (s.slot i).ch.etu.bound 11))
  unfold State.awaitBlock
  dsimp only
  rw [State.modSlot_slot]
  exact ⟨rfl, enAt, cmp⟩

section
variable {s : State} {i : Nat}

theorem State.txWaits_t0 (h : (s.slot i).inT0 = true) : s.txWaits i = s.armWait i 0 4 0 (s.slot i).wt := if_pos h

theorem State.txWaits_queued (h : (s.slot i).inT0 = false) (hq : (s.slot i).ch.txq ≠ []) : s.txWaits i = s := by simp [State.txWaits, h, hq]

theorem State.txWaits_last (h : (s.slot i).inT0 = false) (hq : (s.slot i).ch.txq = []) : s.txWaits i = s.afterSent i := by simp [State.txWaits, h, hq]

theorem State.afterSent_waits (ha : (s.slot i).pr.t1.abortEnd = false) : Waits i s (s.afterSent i) := by
  unfold State.afterSent
  dsimp only
  rw [ha]
  split
  · exact s.armWait_waits _ _ _ _ _ _ _
  · exact s.awaitBlock_waits i
  · exact s.awaitBlock_waits i
  · exact s.awaitBlock_waits i
  · exact s.awaitBlock_waits i
  · exact .refl i s

theorem State.afterSent_t1 (hm : (s.slot i).pr.mode = .t1) (ha : (s.slot i).pr.t1.abortEnd = false) : s.afterSent i = s.awaitBlock i := by
  simp only [State.afterSent, hm, ha]
  rfl

/-- A wait is set up, unless the character is the last one of an exchange that ends with it. -/
theorem State.txWaits_waits (h : (s.slot i).inT0 = true ∨ (s.slot i).ch.txq ≠ [] ∨ (s.slot i).pr.t1.abortEnd = false) : Waits i s (s.txWaits i) := by
  cases h0 : (s.slot i).inT0 with
  | true =>
    rw [State.txWaits_t0 h0]
    exact s.armWait_waits _ _ _ _ _ _ _
  | false =>
    by_cases hq : (s.slot i).ch.txq = []
    · have ha := (h.resolve_left (by simp [h0])).resolve_left (not_not.mpr hq)
      rw [State.txWaits_last h0 hq]
      exact State.afterSent_waits ha
    · rw [State.txWaits_queued h0 hq]
      exact .refl i s

end

/-! CHAR_TRANSMIT. -/

/-- The protocol engine with one more character begun, at tide v (06 R157). -/
def ProtEng.begins (p : ProtEng) (v : Tide) : ProtEng := { p with sent := p.sent + 1, firstTx := some (p.firstTx.getD v.toNat) }

/-- Slot x with the first queued byte taken, q left, at tide v. -/
def Slot.takesByte (x : Slot) (v : Tide) (q : List Byte) : Slot :=
  let p := x.pr.begins v
  { x with ch := { x.ch with txq := q, txReps := 0 }, pr := { p with t1 := { p.t1 with quiet := false } } }

/-- Slot x with the first raw word taken, q left, at tide v. -/
def Slot.takesWord (x : Slot) (v : Tide) (q : List (BitVec 9)) : Slot :=
  { x with ch := { x.ch with rawTx := q }, xchg := { x.xchg with sent := true }, pr := x.pr.begins v }

/-- The start edge at ck n of a character of slot i, which f takes at its tide. -/
def State.starts (s : State) (i n : Nat) (f : Slot → Tide → Slot) (l : BitVec 9) (w : List Reading) : State :=
  let u := s.elapseTo n
  (u.modSlot i fun x => f x u.ltide).txStart i l w

/-- Slot x may transmit, with nothing received that is still to be read and its window of characters not full. -/
def Slot.Clear (x : Slot) : Prop := x.mayTransmit = true ∧ x.ch.rxHold = none ∧ x.ch.rxBuf = [] ∧ x.temp.win.chars < 16

section
variable {s : State} {i : Fin 64}

theorem exec_charTransmit_waits (hh : (s.slot i).ch.rxHold = none) (hb : (s.slot i).ch.rxBuf = []) (hm : (s.slot i).mayTransmit = false) (e : SentLine) :
    exec (.charTransmit i e) s = .next s := by
  change execCharTransmit i e s = _
  unfold execCharTransmit
  rw [hh]
  dsimp only
  rw [State.digest_unread hb]
  exact if_pos (by rw [hm]; rfl)

variable (hc : (s.slot i).Clear)
include hc

theorem exec_charTransmit_byte (hr : (s.slot i).raw = false) {b : Byte} {q : List Byte} (hq : (s.slot i).ch.txq = b :: q) (w : List Reading) :
    exec (.charTransmit i ⟨false, w⟩) s =
      .next ((s.starts i (s.slot i).txEarliest (fun x v => x.takesByte v q) (levelsOf (s.slot i).ch.inverse b) w).txWaits i) := by
  obtain ⟨hm, hh, hb, hc⟩ := hc
  have due : (s.elapseTo (s.slot i).txEarliest).edgeFull i = s.elapseTo (s.slot i).txEarliest := State.edgeFull_few (by rwa [State.elapseTo_at_slot])
  change execCharTransmit i ⟨false, w⟩ s = _
  unfold execCharTransmit
  rw [hh]
  dsimp only
  rw [State.digest_unread hb, due, State.elapseTo_at_slot, hm, hr, hq]
  rfl

theorem exec_charTransmit_word (hr : (s.slot i).raw = true) {l : BitVec 9} {q : List (BitVec 9)} (hq : (s.slot i).ch.rawTx = l :: q) (w : List Reading) :
    exec (.charTransmit i ⟨false, w⟩) s = .next (s.starts i (s.slot i).txEarliest (fun x v => x.takesWord v q) l w) ∧
    exec (.charTransmit i ⟨true, w⟩) s = .next ((s.starts i (s.slot i).txEarliest (fun x v => x.takesWord v q) l w).bump i 20) := by
  obtain ⟨hm, hh, hb, hc⟩ := hc
  have due : (s.elapseTo (s.slot i).txEarliest).edgeFull i = s.elapseTo (s.slot i).txEarliest := State.edgeFull_few (by rwa [State.elapseTo_at_slot])
  change execCharTransmit i ⟨false, w⟩ s = _ ∧ execCharTransmit i ⟨true, w⟩ s = _
  unfold execCharTransmit
  rw [hh]
  dsimp only
  rw [State.digest_unread hb, due, State.elapseTo_at_slot, hm, hr, hq]
  exact ⟨rfl, rfl⟩

end

section
variable (s : State) (i n : Nat) (f : Slot → Tide → Slot) (l : BitVec 9) (w : List Reading)

theorem State.starts_parts : Evolves [.now, .tide, .slots, .timers, .cores, .out] s (s.starts i n f l w) :=
  (((Evolves.refl s).elapseTo n rfl).modSlot _ _ rfl).trans ((State.txStart_parts _ i l w).mono rfl)

theorem State.starts_now : (s.starts i n f l w).now = max s.now n := ((State.txStart_parts _ i l w).now_eq (by decide)).trans (State.elapseTo_now _ _)

theorem State.starts_out : (s.starts i n f l w).out = s.out ++ [.chr i l] :=
  (State.txStart_out _ i l w).trans (congrArg (· ++ [_]) (State.elapseTo_out _ _))

theorem State.starts_sends : (f (s.slot i) (s.elapseTo n).ltide).Sends (max s.now n) l ((s.starts i n f l w).slot i) := by
  have sends := State.txStart_sends ((s.elapseTo n).modSlot i fun x => f x (s.elapseTo n).ltide) i l w
  rw [State.modSlot_slot, State.elapseTo_at_slot, State.modSlot_at_now, State.elapseTo_now] at sends
  exact sends

end

/-- Slot y is slot x with its next character taken: counted, and with nothing changed on which the latched timing depends. -/
structure Slot.Takes (x y : Slot) : Prop where
  regs : y.regs = x.regs
  st : y.st = x.st
  clock : y.clock = x.clock
  chg : y.ch.chg = x.ch.chg
  sent : y.pr.sent = x.pr.sent + 1

theorem Slot.takesByte_takes (x : Slot) (v : Tide) (q : List Byte) : x.Takes (x.takesByte v q) := ⟨rfl, rfl, rfl, rfl, rfl⟩

theorem Slot.takesWord_takes (x : Slot) (v : Tide) (q : List (BitVec 9)) : x.Takes (x.takesWord v q) := ⟨rfl, rfl, rfl, rfl, rfl⟩

/-- From state s on slot i has sent levels l at its earliest ck, with the timing latched there, and counted them (04 R98, R106, R108). -/
def State.Sent (s : State) (i : Fin 64) (l : BitVec 9) (t : State) : Prop :=
  let x := s.slot i
  let y := t.slot i
  t.now = max s.now x.txEarliest ∧ t.out = s.out ++ [.chr i l] ∧ y.ch.lastStart = t.now ∧ y.ch.lastTx = some t.now ∧ y.ch.txLevels = l ∧
    y.ch.txFrom = t.now + y.ch.etu.bound y.ch.latGt ∧ (x.ch.chg = none → y.ch.latGt = x.txGuard ∧ y.ch.etu = etuOf x.regs.charEtu (x.divNow t.now)) ∧
    (y.ch.txChk = if x.errsig then some { levels := l, start := t.now, raw := x.raw } else none) ∧
    y.pr.sent = x.pr.sent + 1 ∧ y.st = x.st ∧ y.regs = x.regs ∧ OtherSlots i s t ∧ Changes [.now, .tide, .slots, .timers, .cores, .out] s t

theorem State.starts_sent {s : State} {i : Fin 64} {f : Slot → Tide → Slot} (hf : ∀ v, (s.slot i).Takes (f (s.slot i) v)) (l : BitVec 9)
    (w : List Reading)    {t : State} (ht : Waits i (s.starts i (s.slot i).txEarliest f l w) t) (ho : OtherSlots i s t) : s.Sent i l t := by
  have takes := hf (s.elapseTo (s.slot i).txEarliest).ltide
  have sends := s.starts_sends i (s.slot i).txEarliest f l w
  have now := (ht.parts.now_eq (by decide)).trans (s.starts_now i (s.slot i).txEarliest f l w)
  have changed := (s.starts_parts i (s.slot i).txEarliest f l w).trans (ht.parts.mono rfl)
  have div (n : Nat) := Slot.divNow_clock takes.clock n
  obtain ⟨b, slot⟩ := ht.slot
  rw [← now] at sends
  refine ⟨now, (ht.parts.out_eq (by decide)).trans (s.starts_out i _ f l w), ?_⟩
  rw [slot]
  refine ⟨sends.start, sends.tx, sends.levels, sends.guard, fun hc => ?_, ?_, ?_, ?_, ?_, ho, changed.changes⟩
  · have timing := sends.timing (takes.chg.trans hc)
    rw [div, takes.regs, Slot.txGuard, takes.regs] at timing
    exact timing
  · have check := sends.check
    simp only [Slot.errsig, Slot.raw, takes.regs] at check ⊢
    exact check
  · exact (congrArg ProtEng.sent sends.pr).trans takes.sent
  · exact sends.st.trans takes.st
  · exact sends.regs.trans takes.regs

/-- Slot i with a queued byte begun is in the same exchange, with the other bytes queued. -/
theorem State.startsByte_slot (s : State) (i n : Nat) (q : List Byte) (l : BitVec 9) (w : List Reading) :
    let x := s.slot i; let y := (s.starts i n (fun x v => x.takesByte v q) l w).slot i
    y.ch.txq = q ∧ y.inT0 = x.inT0 ∧ y.wt = x.wt ∧ y.pr.mode = x.pr.mode ∧ y.pr.bwi = x.pr.bwi ∧ y.pr.t1.wtx = x.pr.t1.wtx ∧
      y.pr.t1.abortEnd = x.pr.t1.abortEnd := by
  have sends := s.starts_sends i n (fun x v => x.takesByte v q) l w
  dsimp only
  simp only [Slot.inT0, Slot.wt, sends.queue, sends.st, sends.regs, sends.pr]
  exact ⟨rfl, rfl, rfl, rfl, rfl, rfl, rfl⟩

/-! TX_ERRSIG_CHECK. -/

section
variable {s : State} {i : Fin 64} {w late : List Reading} {k : TxChar} (hk : (s.slot i).ch.txChk = some k) (ha : (s.slot i).ch.txAgain = none)
include hk ha

/-- The ck of the last sample of the check (04 R108). -/
abbrev State.checked (s : State) (i : Nat) (k : TxChar) : State := s.elapseTo (k.start + (s.slot i).ch.etu.bound 11 + (s.slot i).sampleD)

theorem exec_txErrsigCheck_good (hg : voteOf (w ++ late) ((s.slot i).ch.etu.bound 11) (s.slot i).sampleD = true)
    (he : (s.slot i).pr.t1.abortEnd = false) : exec (.txErrsigCheck i w late) s = .next ((s.checked i k).modSlot i fun x =>
      { x with ch := { x.ch with txChk := none, txReps := 0, rearm := (s.checked i k).now } }) := by
  change execTxErrsigCheck i w late s = _
  simp only [execTxErrsigCheck, hk, ha, hg, he, if_true, Bool.false_and, Bool.false_eq_true, if_false]

variable (hg : voteOf (w ++ late) ((s.slot i).ch.etu.bound 11) (s.slot i).sampleD = false)
include hg

theorem exec_txErrsigCheck_again (hr : (s.slot i).ch.txReps < fld (s.slot i).regs.charCfg 26 24) : exec (.txErrsigCheck i w late) s =
    .next ((s.checked i k).modSlot i fun y => { y with ch := { y.ch with txAgain := some (max (k.start + (s.slot i).ch.etu.bound 13)
      (k.start + highAgain (w ++ late) (lastLow (w ++ late) ((s.slot i).ch.etu.bound 11) (s.slot i).sampleD) + (s.slot i).ch.etu.bound 1)) } }) := by
  change execTxErrsigCheck i w late s = _
  simp only [execTxErrsigCheck, hk, ha, hg, hr, if_true, Bool.false_eq_true, if_false]

/-- After the last repetition permitted the engine sends no more, sets TX_RPT_LIM, and the exchange ends (04 R109, 06 R170). -/
theorem exec_txErrsigCheck_limit (hr : fld (s.slot i).regs.charCfg 26 24 ≤ (s.slot i).ch.txReps)
    (hm : (s.slot i).pr.mode = .t0 ∨ (s.slot i).pr.mode = .t1) :
    ∃ u, exec (.txErrsigCheck i w late) s = .next (u.endInDoubt i 3 true) ∧ (u.slot i).ch.txRptLim = true ∧
      Evolves [.now, .slots, .timers, .tide, .cores] s u := by
  let up := k.start + highAgain (w ++ late) (lastLow (w ++ late) ((s.slot i).ch.etu.bound 11) (s.slot i).sampleD)
  refine ⟨(s.checked i k).modSlot i fun x =>
    { x with ch := { x.ch with txChk := none, txReps := 0, txRptLim := true, txq := [], rearm := max (s.checked i k).now up } }, ?_, ?_, ?_⟩
  · change execTxErrsigCheck i w late s = _
    rcases hm with hm | hm <;>
      simp only [execTxErrsigCheck, hk, ha, hg, hm, if_neg (Nat.not_lt.mpr hr), Bool.false_eq_true, if_false, up]
  · rw [State.modSlot_slot]
  · exact ((Evolves.refl s).elapseTo _ rfl).modSlot _ _ rfl

end

/-! TX_REPEAT. -/

/-- Slot x with the repetition of its character taken up (04 R108). -/
def Slot.takesAgain (x : Slot) : Slot := { x with ch := { x.ch with txAgain := none, txReps := x.ch.txReps + 1 } }

section
variable {s : State} {i : Fin 64} {k : TxChar} {a : Nat} (hk : (s.slot i).ch.txChk = some k) (ha : (s.slot i).ch.txAgain = some a)
include ha

theorem exec_txRepeat_overdue {w : List Reading} (hw : (s.slot i).wait = some .wt) (h : (s.slot i).waitAt .wt + 1 < a) :
    exec (.txRepeat ⟨i, w⟩) s = .next (s.expire i .wt) := by
  have stopped : ((s.expire i .wt).slot i).ch.txChk = none := (s.expire_wt i).2.halted.2.2.1
  change execTxRepeat ⟨i, w⟩ s = _
  simp only [execTxRepeat, ha, State.overdue_some hw h, stopped]

include hk

/-- The repetition begins at ck a with the levels of the failed character. -/
theorem exec_txRepeat_repeats (hw : ∀ v, (s.slot i).wait = some v → a ≤ (s.slot i).waitAt v) (hc : (s.slot i).temp.win.chars < 16) (w : List Reading) :
    ∃ u, exec (.txRepeat ⟨i, w⟩) s = .next ((u.bump i 18).txWaits i) ∧ (s.slot i).takesAgain.Sends (max s.now a) k.levels (u.slot i) ∧
      u.now = max s.now a ∧ u.out = s.out ++ [.chr i k.levels] ∧ Evolves [.now, .tide, .slots, .timers, .cores, .out] s u := by
  refine ⟨s.starts i a (fun x _ => x.takesAgain) k.levels w, ?_, s.starts_sends i a (fun x _ => x.takesAgain) _ w, s.starts_now i a _ _ w,
    s.starts_out i a _ _ w, s.starts_parts i a _ _ w⟩
  have due : (s.elapseTo a).edgeFull i = s.elapseTo a := State.edgeFull_few (by rwa [State.elapseTo_at_slot])
  change execTxRepeat ⟨i, w⟩ s = _
  simp only [execTxRepeat, ha, State.overdue_none hw, hk, due, State.elapseTo_at_slot, Option.isNone_some, Bool.false_eq_true, if_false]
  rfl

end

/-- Settles O21, by what CHAR_TRANSMIT, the check and the repetition each come to. -/
theorem charactersOut : Obligations.CharactersOut := by
  intro s i w late _ x clear sent
  have byte (hc : clear) (hr : x.raw = false) (b : Byte) (q : List Byte) (hq : x.ch.txq = b :: q)
      (h : x.inT0 = true ∨ q ≠ [] ∨ x.pr.t1.abortEnd = false) :
      Does (.charTransmit i ⟨false, w⟩) s fun t => t = (s.starts i x.txEarliest (fun x v => x.takesByte v q) (levelsOf x.ch.inverse b) w).txWaits i ∧
        sent (levelsOf x.ch.inverse b) t ∧ (t.slot i).ch.txq = q := by
    obtain ⟨queue, inT0, -, -, -, -, abort⟩ := s.startsByte_slot i x.txEarliest q (levelsOf x.ch.inverse b) w
    have waits := State.txWaits_waits (by rwa [inT0, queue, abort])
    exact does_of_slot rfl (exec_charTransmit_byte hc hr hq w) fun ho =>
      ⟨rfl, State.starts_sent (fun v => x.takesByte_takes v q) _ w waits ho, by rw [waits.ch, queue]⟩
  have sends := s.starts_sends i x.txEarliest
  refine ⟨fun hc hr b c r hq => ?_, fun hc hr hst hm b hq => ?_, fun hc hr hm he b hq => ?_, fun hc hr l r hq => ?_, fun hc hr l r hq => ?_,
    fun hm hh hb e => exec_charTransmit_waits hh hb hm e, fun k hk ha => ⟨fun hg he => ?_, fun hg hr => ?_, fun hg hr hm => ?_⟩,
    fun k a hk ha => ⟨fun hw hc he => ?_, fun hw h => ?_⟩⟩
  · obtain ⟨t, he, -, done⟩ := byte hc hr b (c :: r) hq (.inr (.inl (List.cons_ne_nil c r)))
    exact ⟨t, he, done⟩
  · have inT0 : x.inT0 = true := by simp [Slot.inT0, hst, hm]
    obtain ⟨-, same, wt, -⟩ := s.startsByte_slot i x.txEarliest [] (levelsOf x.ch.inverse b) w
    obtain ⟨t, he, rfl, hs, hq⟩ := byte hc hr b [] hq (.inl inT0)
    refine ⟨_, he, hs, hq, ?_⟩
    rw [State.txWaits_t0 (same.trans inT0), wt]
    obtain ⟨en, -, count, cmp⟩ :=
      State.armWait_timer (s.starts i x.txEarliest (fun x v => x.takesByte v []) (levelsOf x.ch.inverse b) w) i 0 4 0 x.wt 0 none
    exact ⟨en, count, cmp⟩
  · have inT0 : x.inT0 = false := by simp [Slot.inT0, hm]
    obtain ⟨queue, same, -, mode, bwi, wtx, abort⟩ := s.startsByte_slot i x.txEarliest [] (levelsOf x.ch.inverse b) w
    obtain ⟨t, he', rfl, hs, hq⟩ := byte hc hr b [] hq (.inr (.inr he))
    refine ⟨_, he', hs, hq, ?_⟩
    obtain ⟨-, -, start, -⟩ := hs
    have ends := (State.txWaits_last (same.trans inT0) queue).trans (State.afterSent_t1 (mode.trans hm) (abort.trans he))
    have spec := State.awaitBlock_spec (s.starts i x.txEarliest (fun x v => x.takesByte v []) (levelsOf x.ch.inverse b) w) i
    have ch := (State.awaitBlock_waits (s.starts i x.txEarliest (fun x v => x.takesByte v []) (levelsOf x.ch.inverse b) w) i).ch
    rw [ends] at start ⊢
    rw [← start, ch, ← bwi, ← wtx]
    exact spec
  · refine does_of_slot rfl (exec_charTransmit_word hc hr hq w).1 fun ho =>
      ⟨State.starts_sent (f := fun x v => x.takesWord v r) (fun v => x.takesWord_takes v r) l w (.refl _ _) ho, ?_, ?_⟩
    · exact (sends (fun x v => x.takesWord v r) l w).rawQueue
    · exact congrArg Xchg.sent (sends (fun x v => x.takesWord v r) l w).xchg
  · refine ⟨_, (exec_charTransmit_word hc hr hq w).2, ?_, ?_⟩
    · rw [State.bump_out]
      exact s.starts_out i x.txEarliest _ l w
    · rw [State.bump_count, (s.starts_parts i x.txEarliest _ l w).count_eq (by decide)]
      rfl
  · refine does_of_slot rfl (exec_txErrsigCheck_good hk ha hg he) fun ho => ⟨State.elapseTo_now _ _, ?_, ho, ?_⟩
    · rw [State.modSlot_slot, State.elapseTo_at_slot]
      rfl
    · exact (((Evolves.refl s).elapseTo _ rfl).modSlot _ _ rfl).changes
  · refine does_of_slot rfl (exec_txErrsigCheck_again hk ha hg hr) fun ho => ⟨State.elapseTo_now _ _, ?_, ho, ?_⟩
    · rw [State.modSlot_slot, State.elapseTo_at_slot]
    · exact (((Evolves.refl s).elapseTo _ rfl).modSlot _ _ rfl).changes
  · obtain ⟨u, ends, limit, parts⟩ := exec_txErrsigCheck_limit hk ha hg hr hm
    have ended := u.endInDoubt_ended i 3
    exact does_of_slot rfl ends fun ho =>
      ⟨ended.limit.trans limit, ended.lastEnd, ended.idle, ho, (State.endInDoubt_evolves rfl _ _ _ _ (parts.mono rfl)).changes⟩
  · obtain ⟨u, begins, sends, now, out, parts⟩ := exec_txRepeat_repeats hk ha hw hc w
    have waits := State.txWaits_waits (s := u.bump i 18) (i := i) (.inr (.inr (by rw [State.bump_slot, sends.pr]; exact he)))
    have same := waits.parts.now_eq (by decide)
    have counts := waits.parts.count_eq (by decide) i 18
    refine does_of_slot rfl begins fun ho => ⟨same.trans now, (waits.parts.out_eq (by decide)).trans out, ?_, ?_, ?_, ?_, ho, ?_⟩
    · rw [waits.ch]; exact sends.again
    · rw [waits.ch]; exact sends.reps
    · rw [waits.ch, same]; exact sends.start.trans now.symm
    · rw [counts, State.bump_count, parts.count_eq (by decide)]; rfl
    · exact ((State.bump_evolves rfl _ _ _ (parts.mono rfl)).trans (waits.parts.mono rfl)).changes
  · obtain ⟨now, ended⟩ := s.expire_wt i
    exact does_of_slot rfl (exec_txRepeat_overdue ha hw h) fun ho =>
      ⟨now, ended.lastEnd, ended.idle, ho, (State.expire_evolves rfl _ _ _ (.refl s)).changes⟩

end Sys2Proof.Machine
end

section
/-! PROOFS of the characters family: start edges, sample points and the vote of the start bit (04 R98 to R100, 06 R154, R155, R170). -/

namespace Sys2Proof.Machine

/-! A start edge. -/

/-- Slot y has taken a start edge at ck n, with what slot x stages latched there (04 R98, R99). -/
structure Slot.Hears (x : Slot) (n : Nat) (y : Slot) : Prop where
  start : y.ch.lastStart = n
  rx : y.ch.lastRx = some n
  rxEtu : y.ch.lastRxEtu = y.ch.etu
  timing : x.ch.chg = none → y.ch.etu = etuOf x.regs.charEtu (x.divNow n) ∧ y.ch.latOfs = x.temp.app.ofs ∧ (x.seq.divNext = none → y.ch.pend = false)
  opened : ∃ o, y.ch.rxOn = some o ∧ o.start = n ∧ o.lastStart = x.ch.lastStart ∧ o.lastRx = x.ch.lastRx ∧ o.begun = false
  buf : y.ch.rxBuf = x.ch.rxBuf
  pr : y.pr = x.pr
  regs : y.regs = x.regs

section
variable (s : State) (i : Nat)

theorem State.rxStart_hears : (s.slot i).Hears s.now ((s.rxStart i).slot i) := by
  obtain ⟨m, r, d, p, e, o, g, b, hl, htiming⟩ := (s.slot i).latch_spec s.now
  unfold State.rxStart
  extract_lets _ s1
  have kept : ((s1.restartT0 i).captureSlot i 1).slot i = s1.slot i :=
    (State.captureSlot_evolves (ps := [.timers, .cores]) rfl _ _ _ (State.restartT0_evolves rfl _ _ (.refl s1))).slot_eq (by decide) i
  rw [kept]
  unfold s1
  rw [State.modSlot_slot]
  dsimp only
  rw [hl]
  exact ⟨rfl, rfl, rfl, fun hc => ⟨(htiming hc).1, (htiming hc).2.1, (htiming hc).2.2.2⟩, ⟨_, rfl, rfl, rfl, rfl, rfl⟩, rfl, rfl, rfl⟩

theorem State.rxStart_parts : Evolves [.slots, .timers, .cores] s (s.rxStart i) := State.rxStart_evolves rfl _ _ (.refl s)

theorem State.rxStart_timer (h : ((s.rxStart i).timer (3 * i)).en = true) : ((s.rxStart i).timer (3 * i)).count = 0 := by
  unfold State.rxStart at h ⊢
  extract_lets _ s1 at h ⊢
  obtain ⟨en, count⟩ := (s1.restartT0 i).captureSlot_timer i 1 (3 * i)
  exact count.trans (s1.restartT0_timer i (en.symm.trans h))

end

theorem Slot.Ended.deaf {code : Nat} {x y : Slot} (h : x.Ended code y) (n : Nat) : y.listening n = false := by
  rcases h.st with e | e | e <;> simp [Slot.listening, e]

section
variable {s : State} {i : Fin 64} {dt : Nat}

theorem exec_charReceive_edge : exec (.charReceive i (.edge dt)) s = .next (s.rxEdge i (s.now + dt)) := rfl

theorem State.rxEdge_deaf {n : Nat} (h : (s.slot i).listening n = false) : s.rxEdge i n = s := if_pos (by rw [h]; rfl)

section
variable {n : Nat} (h : (s.slot i).listening n = true) (hh : (s.slot i).ch.rxHold = none) (hb : (s.slot i).ch.rxBuf = [])
  (hc : (s.slot i).temp.win.chars < 16)
include h hh hb hc

theorem State.rxEdge_heard (hw : ∀ v, (s.slot i).wait = some v → n ≤ (s.slot i).waitAt v) : s.rxEdge i n = (s.elapseTo n).rxStart i := by
  unfold State.rxEdge
  rw [h, hh]
  dsimp only
  rw [State.digest_unread hb, State.edgeFull_few hc, State.overdue_none hw, h]
  rfl

theorem State.rxEdge_late (hw : (s.slot i).wait = some .wt) (hn : (s.slot i).waitAt .wt + 1 < n) : s.rxEdge i n = s.expire i .wt := by
  unfold State.rxEdge
  rw [h, hh]
  dsimp only
  rw [State.digest_unread hb, State.edgeFull_few hc, State.overdue_some hw hn, (s.expire_wt i).2.deaf n]
  rfl

end
end

/-! Sample points and votes. -/

/-- A sample point lies within d of its place under R95, and there where SAMPLE_OFS is 0 (04 R100). -/
theorem Slot.sampleAt_near (x : Slot) (n : Nat) :
    ((x.sampleAt n : Int) - (x.ch.lastStart + x.ch.etu.halves n : Nat)).natAbs ≤ x.ch.etu.part 8 ∧
      (x.ch.latOfs = 0 → x.sampleAt n = x.ch.lastStart + x.ch.etu.halves n) := by
  unfold Slot.sampleAt Slot.sampleOff
  dsimp only
  omega

theorem Slot.bitVote_majority (x : Slot) (w : List Reading) (k : Nat) : let p := x.sampleOff (2 * k + 1)
    x.bitVote w k = decide (2 ≤ b2n (readsHigh w (p - x.sampleD)) + b2n (readsHigh w p) + b2n (readsHigh w (p + x.sampleD))) := by
  have majority (a b c : Bool) : vote3 a b c = decide (2 ≤ b2n a + b2n b + b2n c) := by revert a b c; decide
  exact majority _ _ _

/-! A start bit that votes high (04 R100). -/

/-- Slot x as it was before the start edge of o, with start detection re-armed at ck r. -/
def Slot.undone (x : Slot) (o : RxOpen) (r : Nat) : Slot :=
  { x with ch := { x.ch with lastStart := o.lastStart, lastRx := o.lastRx, lastRxEtu := o.lastRxEtu, rxOn := none, rearm := r, rxEnd := r } }

/-- But for T0, a false start is counted and undone. -/
theorem State.rxFalse_undoes (s : State) (i : Nat) (o : RxOpen) (r : Nat) :
    Evolves [.timers] ((s.modSlot i fun x => x.undone o r).bump i 16) (s.rxFalse i o r) := by
  unfold State.rxFalse
  dsimp only
  split
  · exact State.modTimer_evolves rfl _ _ _ (.refl _)
  · exact .refl _

theorem State.rxFalse_spec (s : State) (i : Nat) (o : RxOpen) (r : Nat) : let t := s.rxFalse i o r
    t.slot i = (s.slot i).undone o r ∧ t.count i 16 = satInc (s.count i 16) ∧ Evolves [.slots, .timers, .telemetry] s t := by
  have undoes := s.rxFalse_undoes i o r
  refine ⟨?_, ?_, State.rxFalse_evolves rfl _ _ _ _ (.refl s)⟩
  · rw [undoes.slot_eq (by decide), State.bump_slot, State.modSlot_slot]
  · rw [undoes.count_eq (by decide), State.bump_count]
    rfl

/-! A start bit that votes low (04 R100). -/

/-- The character in reception on slot i has begun. -/
def State.begun (s : State) (i : Nat) (o : RxOpen) : State := s.modSlot i fun x => { x with ch := { x.ch with rxOn := some { o with begun := true } } }

section
variable {s : State} {i : Nat} {o : RxOpen}

theorem State.begun_slot : (s.begun i o).slot i = { s.slot i with ch := { (s.slot i).ch with rxOn := some { o with begun := true } } } :=
  State.modSlot_slot _ _ _

theorem State.rxBegin_atr (hst : (s.slot i).st = .atr) (hc : (s.slot i).ch.convSet = false) : s.rxBegin i o = (s.begun i o).endWait i 1 :=
  if_pos (by rw [hst, hc]; rfl)

variable (hs : ¬((s.slot i).st = .atr ∧ (s.slot i).ch.convSet = false))
include hs

theorem State.rxBegin_t0 (h0 : (s.slot i).inT0 = true) (hq : (s.slot i).ch.txq ≠ []) : s.rxBegin i o = (s.begun i o).endInDoubt i 2 true := by
  unfold State.rxBegin
  dsimp only
  rw [if_neg (by simpa using hs), if_pos (by simp [h0, hq])]
  rfl

variable (hq : (s.slot i).inT0 = false ∨ (s.slot i).ch.txq = [])
include hq

theorem State.rxBegin_t1 (h1 : (s.slot i).inT1 = true) (hb : (s.slot i).ch.rxBuf = []) : s.rxBegin i o =
    (((s.begun i o).endWait i 1).armWait i 0 4 0 (s.slot i).cwt ((s.slot i).ch.etu.boundsBy (s.now - o.start))).modSlot i fun x => x.withBwt false := by
  unfold State.rxBegin
  dsimp only
  rw [if_neg (by simpa using hs), if_neg (by rcases hq with h | h <;> simp [h]), if_pos (by simp [h1, hb])]
  rfl

theorem State.rxBegin_other (h : (s.slot i).inT1 = false ∨ (s.slot i).ch.rxBuf ≠ []) : s.rxBegin i o = s.begun i o := by
  unfold State.rxBegin
  dsimp only
  rw [if_neg (by simpa using hs), if_neg (by rcases hq with h | h <;> simp [h]), if_neg (by rcases h with h | h <;> simp [h])]
  rfl

end

/-- The start bit is judged: the reception goes on, or is over. -/
theorem State.rxBegin_judged (s : State) (i : Nat) (o : RxOpen) :
    ((s.rxBegin i o).slot i).ch.rxOn = none ∨ ((s.rxBegin i o).slot i).ch.rxOn = some { o with begun := true } := by
  have begun : ((s.begun i o).slot i).ch.rxOn = some { o with begun := true } := by rw [State.begun_slot]
  by_cases hs : (s.slot i).st = .atr ∧ (s.slot i).ch.convSet = false
  · rw [State.rxBegin_atr hs.1 hs.2]
    exact .inr begun
  · by_cases hq : (s.slot i).inT0 = false ∨ (s.slot i).ch.txq = []
    · by_cases h1 : (s.slot i).inT1 = false ∨ (s.slot i).ch.rxBuf ≠ []
      · rw [State.rxBegin_other hs hq h1]
        exact .inr begun
      · obtain ⟨h1, hb⟩ := not_or.mp h1
        rw [State.rxBegin_t1 hs hq (by simpa using h1) (not_not.mp hb), State.modSlot_slot]
        exact .inr begun
    · obtain ⟨h0, hq⟩ := not_or.mp hq
      rw [State.rxBegin_t0 hs (by simpa using h0) hq]
      exact .inl ((s.begun i o).endInDoubt_ended i 2).halted.1

/-! The judgement. -/

/-- The ck of the last sample of the start bit (04 R100). -/
abbrev State.startSampled (s : State) (i : Nat) : State := s.elapseTo ((s.slot i).ch.lastStart + ((s.slot i).sampleOff 1 + (s.slot i).sampleD))

section
variable {s : State} {i : Nat} {o : RxOpen} {w : List Reading}

theorem State.rxJudge_high (h : (s.slot i).bitVote w 0 = true) : s.rxJudge i o w =
    (s.startSampled i).rxFalse i o ((s.slot i).ch.lastStart + highAgain w ((s.slot i).sampleOff 1 + (s.slot i).sampleD)) := if_pos h

theorem State.rxJudge_low (h : (s.slot i).bitVote w 0 = false) : s.rxJudge i o w = (s.startSampled i).rxBegin i o := if_neg (by rw [h]; decide)

theorem State.rxJudge_judged (s : State) (i : Nat) (o : RxOpen) (w : List Reading) :
    ((s.rxJudge i o w).slot i).ch.rxOn = none ∨ ((s.rxJudge i o w).slot i).ch.rxOn = some { o with begun := true } := by
  cases h : (s.slot i).bitVote w 0 with
  | true =>
    rw [State.rxJudge_high h, (State.rxFalse_spec _ i o _).1]
    exact .inl rfl
  | false =>
    rw [State.rxJudge_low h]
    exact State.rxBegin_judged _ i o

end

/-! CHAR_RECEIVE up to the start bit. -/

section
variable {s : State} {i : Fin 64} {w : List Reading}

theorem exec_charReceive_idle (h : (s.slot i).ch.rxOn = none) :
    exec (.charReceive i (.start w)) s = .next s ∧ exec (.charReceive i (.stop w)) s = .next s := by
  change execCharReceive i (.start w) s = _ ∧ execCharReceive i (.stop w) s = _
  simp only [execCharReceive, h, and_self]

variable {o : RxOpen} (h : (s.slot i).ch.rxOn = some o)
include h

theorem exec_charReceive_start (hb : o.begun = false) : exec (.charReceive i (.start w)) s = .next (s.rxJudge i o w) := by
  change execCharReceive i (.start w) s = _
  simp only [execCharReceive, h, hb, Bool.false_eq_true, if_false]

theorem exec_charReceive_begun (hb : o.begun = true) :
    exec (.charReceive i (.start w)) s = .next s ∧ exec (.charReceive i (.stop w)) s = .next (s.rxStop i w) := by
  change execCharReceive i (.start w) s = _ ∧ execCharReceive i (.stop w) s = _
  simp only [execCharReceive, h, hb, if_true, Option.isSome_some, and_self]

/-- The bits follow whether the start bit has been judged before them or is judged with them. -/
theorem exec_charReceive_stop_after_start {u : State} (hu : exec (.charReceive i (.start w)) s = .next u) :
    exec (.charReceive i (.stop w)) s = exec (.charReceive i (.stop w)) u := by
  cases hb : o.begun with
  | true =>
    rw [(exec_charReceive_begun h hb).1] at hu
    rw [Host.Outcome.next.inj hu]
  | false =>
    rw [exec_charReceive_start h hb] at hu
    have judged : s.rxJudge i o w = u := Host.Outcome.next.inj hu
    have stop : exec (.charReceive i (.stop w)) s = if (u.slot i).ch.rxOn.isSome then .next (u.rxStop i w) else .next u := by
      change execCharReceive i (.stop w) s = _
      simp only [execCharReceive, h, hb, judged, Bool.false_eq_true, if_false]
    rw [stop]
    rcases judged ▸ s.rxJudge_judged i o w with none_ | some_
    · rw [(exec_charReceive_idle none_).2, none_]
      rfl
    · rw [(exec_charReceive_begun some_ rfl).2, some_]
      rfl

end

end Sys2Proof.Machine
end

section
/-! PROOFS of the characters family: the bits of a character up to its middle stop sample (04 R100 to R109, 06 R164). -/

namespace Sys2Proof.Machine

/-! A character is taken. -/

section
variable (s : State) (i : Nat) (w : List Reading) (n r : Nat)

/-- Slot x with its character taken, re-armed at ck r, and its windows as they come out (04 R102, 09 R251). -/
def Slot.taken (x : Slot) (p : Temper) (r : Nat) : Slot := { x with temp := p, ch := { x.ch with rxOn := none, rearm := r, rxEnd := r } }

theorem State.rxTaken_slot : ∃ p, (s.rxTaken i w n r).slot i = (s.slot i).taken p r := by
  obtain ⟨p, e⟩ := (s.slot i).measure_eq fun n => n.addRx (s.slot i) w
  refine ⟨p, ?_⟩
  rw [State.rxTaken, State.modSlot_slot, State.elapseTo_at_slot]
  dsimp only
  rw [e]
  rfl

theorem State.rxTaken_now : (s.rxTaken i w n r).now = max s.now n := s.elapseTo_now n

theorem State.rxTaken_out : (s.rxTaken i w n r).out = s.out := s.elapseTo_out n

theorem State.rxTaken_count (c : Nat) : (s.rxTaken i w n r).count i c = s.count i c := s.elapseTo_count n i c

/-- A parity failure is shown and counted; with it no more than the repetition it came with (04 R105, R109). -/
theorem State.parityBad_spec : let t := s.parityBad i
    t.slot i = { s.slot i with ch := { (s.slot i).ch with parity := true } } ∧ t.now = s.now ∧ t.out = s.out ∧
      t.count i 14 = satInc (s.count i 14) ∧ t.count i 17 = s.count i 17 := by
  let u := (s.bump i 14).modSlot i fun x => { x with ch := { x.ch with parity := true } }
  have slot : u.slot i = { s.slot i with ch := { (s.slot i).ch with parity := true } } := State.modSlot_slot _ _ _
  have count : u.count i 14 = satInc (s.count i 14) := s.bump_count i 14
  have other : u.count i 17 = s.count i 17 := s.bump_count_ne i (by decide)
  unfold State.parityBad
  dsimp only
  split
  · exact ⟨slot, rfl, rfl, (u.bump_count_ne i (by decide)).trans count, (u.bump_count_ne i (by decide)).trans other⟩
  · exact ⟨slot, rfl, rfl, count, other⟩

end

/-! What the slot makes of it, by its parity and its place. -/

/-- The character in hand is to be a TS (04 R104). -/
def Slot.awaitsTs (x : Slot) : Bool := x.st = .atr && !x.ch.convSet

/-- The parity of the character in hand, where it is judged: in RAW and of a TS it is not (04 R104, R112). -/
def Slot.soundBits (x : Slot) (w : List Reading) : Bool := x.raw || x.awaitsTs || parityGood x.ch.inverse (x.voted w)

/-- The character in hand as it is held for its late stop sample (04 R102). -/
def Slot.heldOf (x : Slot) (w : List Reading) : RxHeld :=
  { levels := x.voted w, mid := readsHigh w (x.sampleOff 21), vote := x.bitVote w 10, lateAt := x.sampleAt 21 + x.sampleD }

/-- Slot x with a character held; a: its middle stop sample is an apply point, at ck n (09 R253). -/
def Slot.holds (x : Slot) (h : RxHeld) (a : Bool) (n : Nat) : Slot :=
  { x with ch := { x.ch with rxHold := some h, applyAt := if a then some n else x.ch.applyAt } }

/-- Whether the middle stop sample of the character in hand is an apply point (09 R253). -/
def Slot.pointsA (x : Slot) (w : List Reading) : Bool := readsHigh w (x.sampleOff 21) && x.pointA (byteOfLevels x.ch.inverse (x.voted w))

/-- The character in hand ends its ATR, with a stop position that turns out high (02 R52). -/
def Slot.lastOfAtr (x : Slot) (w : List Reading) : Bool := x.endsAtr (byteOfLevels x.ch.inverse (x.voted w)) && x.stopGood w

section
variable {x : Slot} {w : List Reading}

theorem Slot.awaitsTs_first (hst : x.st = .atr) (hc : x.ch.convSet = false) : x.awaitsTs = true := by simp [Slot.awaitsTs, hst, hc]

theorem Slot.awaitsTs_fixed (hc : x.ch.convSet = true) : x.awaitsTs = false := by simp [Slot.awaitsTs, hc]

theorem Slot.awaitsTs_later (hst : x.st ≠ .atr) : x.awaitsTs = false := by simp [Slot.awaitsTs, hst]

theorem Slot.lastOfAtr_later (hst : x.st ≠ .atr) : x.lastOfAtr w = false := by simp [Slot.lastOfAtr, Slot.endsAtr, hst]

theorem Slot.lastOfAtr_first (hc : x.ch.convSet = false) : x.lastOfAtr w = false := by simp [Slot.lastOfAtr, Slot.endsAtr, hc]

theorem Slot.soundBits_judged (hr : x.raw = false) (hs : x.awaitsTs = false) : x.soundBits w = parityGood x.ch.inverse (x.voted w) := by
  rw [Slot.soundBits, hr, hs, Bool.false_or, Bool.false_or]

theorem Slot.inPps_busy (hst : x.st = .busy) : x.inPps = false := by simp [Slot.inPps, hst]

theorem Slot.inT0_iff : x.inT0 = true ↔ x.st = .busy ∧ x.pr.mode = .t0 := by simp [Slot.inT0]

end

/-- From and until which ck slot x answers a bad parity (04 R107). -/
def Slot.answer (x : Slot) : Nat × Nat := (x.ch.lastStart + x.ch.etu.halves 21, x.ch.lastStart + x.ch.etu.halves (23 + fld x.regs.charCfg 28 27))

section
variable (s : State) (i : Nat) (w : List Reading)

/-- The character in hand has drawn an error signal on slot i (04 R107). -/
def State.rxAnswered : State :=
  let x := s.slot i
  let bad := (s.rxTaken i w x.answer.1 (x.ch.lastStart + x.ch.etu.halves (24 + fld x.regs.charCfg 28 27))).parityBad i
  ((bad.bump i 17).modSlot i fun y => { y with ch := { y.ch with rxReps := y.ch.rxReps + 1, esig := some x.answer } }).emit
    (.errSignal i x.answer.1 (x.answer.2 - x.answer.1))

/-- The character in hand is taken at its middle stop sample, with its parity judged (04 R102, R109). -/
def State.rxMiddle (sound : Bool) : State :=
  let t := s.rxTaken i w ((s.slot i).sampleAt 21) ((s.slot i).sampleAt 21)
  if sound then t else (t.parityBad i).modSlot i fun x => { x with ch := { x.ch with rxRptLim := x.ch.rxRptLim || x.errsig } }

/-- The character in hand is held (04 R102). -/
def State.rxHeld (sound : Bool) : State :=
  (s.rxMiddle i w sound).modSlot i fun y => y.holds ((s.slot i).heldOf w) ((s.slot i).pointsA w) (s.rxMiddle i w sound).now

/-- What becomes of the character in hand at its stop position (04 R102 to R109, 02 R51, R52). -/
theorem State.rxStop_eq :
    let x := s.slot i
    let l := x.voted w
    let mid := readsHigh w (x.sampleOff 21)
    s.rxStop i w =
      if x.awaitsTs && (tsOf l).isNone then (s.rxTaken i w (x.sampleAt 19 + x.sampleD) (x.sampleAt 21)).rxPass i l true
      else if x.st = .atr && !x.soundBits w then ((s.rxTaken i w (x.sampleAt 19 + x.sampleD) (x.sampleAt 21)).parityBad i).rxPass i l true
      else if x.lastOfAtr w then (s.rxTaken i w (x.ch.lastStart + x.ch.etu.bound 10) (x.sampleAt 21)).rxPass i l true
      else if !x.soundBits w && x.errsig && x.ch.rxReps < fld x.regs.charCfg 23 21 then s.rxAnswered i w
      else if x.inPps && mid = readsHigh w (x.sampleOff 21 - x.sampleD) then (s.rxHeld i w (x.soundBits w)).rxPass i l mid
      else s.rxHeld i w (x.soundBits w) := rfl

end

section
variable {s : State} {i : Nat} {w : List Reading}

theorem State.rxStop_noTs (hs : (s.slot i).awaitsTs = true) (ht : tsOf ((s.slot i).voted w) = none) :
    s.rxStop i w = (s.rxTaken i w ((s.slot i).sampleAt 19 + (s.slot i).sampleD) ((s.slot i).sampleAt 21)).rxPass i ((s.slot i).voted w) true := by
  rw [State.rxStop_eq]
  exact if_pos (by rw [hs, ht]; rfl)

theorem State.rxStop_lastAtr (hs : (s.slot i).awaitsTs = false) (hg : (s.slot i).soundBits w = true) (hl : (s.slot i).lastOfAtr w = true) :
    s.rxStop i w =
      (s.rxTaken i w ((s.slot i).ch.lastStart + (s.slot i).ch.etu.bound 10) ((s.slot i).sampleAt 21)).rxPass i ((s.slot i).voted w) true := by
  rw [State.rxStop_eq, hs, hg, hl]
  simp only [Bool.false_and, Bool.not_true, Bool.and_false, Bool.false_eq_true, if_false, if_true]

/-- A bad parity is answered while repetitions are left (04 R107). -/
theorem State.rxStop_answers (hst : (s.slot i).st ≠ .atr) (hg : (s.slot i).soundBits w = false) (he : (s.slot i).errsig = true)
    (hr : (s.slot i).ch.rxReps < fld (s.slot i).regs.charCfg 23 21) : s.rxStop i w = s.rxAnswered i w := by
  rw [State.rxStop_eq, hg, Slot.awaitsTs_later hst, Slot.lastOfAtr_later hst, he]
  simp only [hst, hr, Bool.false_and, decide_false, decide_true, Bool.not_false, Bool.and_true, Bool.false_eq_true, if_false, if_true]

theorem State.rxStop_holds (ht : (s.slot i).awaitsTs = true → (tsOf ((s.slot i).voted w)).isSome = true)
    (ha : (s.slot i).st = .atr → (s.slot i).soundBits w = true) (hl : (s.slot i).lastOfAtr w = false)
    (hg : (s.slot i).soundBits w = true ∨ (s.slot i).errsig = false ∨ fld (s.slot i).regs.charCfg 23 21 ≤ (s.slot i).ch.rxReps)
    (hp : (s.slot i).inPps = false) : s.rxStop i w = s.rxHeld i w ((s.slot i).soundBits w) := by
  rw [State.rxStop_eq, hl, hp, if_neg, if_neg, if_neg (by decide), if_neg]
  · exact if_neg (by rw [Bool.false_and]; decide)
  · rcases hg with h | h | h <;> simp [h]
  · by_cases hst : (s.slot i).st = .atr <;> simp [hst, ha]
  · rw [Bool.and_eq_true, Option.isNone_iff_eq_none]
    rintro ⟨hs, hn⟩
    exact absurd (ht hs) (by simp [hn])

end

/-! What is answered, and what is held. -/

section
variable (s : State) (i : Nat) (w : List Reading)

theorem State.rxAnswered_spec : let x := s.slot i; let t := s.rxAnswered i w; let y := t.slot i
    t.now = max s.now x.answer.1 ∧ t.out = s.out ++ [.errSignal i x.answer.1 (x.answer.2 - x.answer.1)] ∧
    t.count i 14 = satInc (s.count i 14) ∧ t.count i 17 = satInc (s.count i 17) ∧
    y.ch.rxOn = none ∧ y.ch.lastRx = x.ch.lastRx ∧ y.ch.rearm = x.ch.lastStart + x.ch.etu.halves (24 + fld x.regs.charCfg 28 27) ∧
    y.ch.rxReps = x.ch.rxReps + 1 ∧ y.ch.parity = true ∧ y.ch.esig = some x.answer ∧ y.pr = x.pr := by
  let x := s.slot i
  let rearm := x.ch.lastStart + x.ch.etu.halves (24 + fld x.regs.charCfg 28 27)
  obtain ⟨p, taken⟩ := s.rxTaken_slot i w x.answer.1 rearm
  obtain ⟨slot, now, out, parity, answered⟩ := (s.rxTaken i w x.answer.1 rearm).parityBad_spec i
  rw [taken] at slot
  rw [State.rxTaken_count] at parity answered
  rw [State.rxTaken_now] at now
  rw [State.rxTaken_out] at out
  have answers : s.rxAnswered i w = ((((s.rxTaken i w x.answer.1 rearm).parityBad i).bump i 17).modSlot i fun y =>
      { y with ch := { y.ch with rxReps := y.ch.rxReps + 1, esig := some x.answer } }).emit (.errSignal i x.answer.1 (x.answer.2 - x.answer.1)) := rfl
  generalize (s.rxTaken i w x.answer.1 rearm).parityBad i = u at answers slot now out parity answered
  have emits (u : State) (o : Out) : (u.emit o).slot i = u.slot i := rfl
  dsimp only
  rw [answers, emits, State.modSlot_slot, State.bump_slot, slot]
  refine ⟨now, congrArg (· ++ [_]) out, ?_, ?_, rfl, rfl, rfl, rfl, rfl, rfl, rfl⟩
  · exact (u.bump_count_ne i (by decide)).trans parity
  · exact (u.bump_count i 17).trans (congrArg satInc answered)

theorem State.rxMiddle_now (sound : Bool) : (s.rxMiddle i w sound).now = max s.now ((s.slot i).sampleAt 21) := by
  have taken := s.rxTaken_now i w ((s.slot i).sampleAt 21) ((s.slot i).sampleAt 21)
  cases sound with
  | true => exact taken
  | false =>
    obtain ⟨-, now, -⟩ := (s.rxTaken i w ((s.slot i).sampleAt 21) ((s.slot i).sampleAt 21)).parityBad_spec i
    unfold State.rxMiddle
    dsimp only
    rw [if_neg (by decide), State.modSlot_at_now]
    exact now.trans taken

theorem State.rxMiddle_slot (sound : Bool) : ∃ p, (s.rxMiddle i w sound).slot i =
    let y := (s.slot i).taken p ((s.slot i).sampleAt 21)
    { y with ch := { y.ch with parity := y.ch.parity || !sound, rxRptLim := y.ch.rxRptLim || (!sound && (s.slot i).errsig) } } := by
  obtain ⟨p, taken⟩ := s.rxTaken_slot i w ((s.slot i).sampleAt 21) ((s.slot i).sampleAt 21)
  refine ⟨p, ?_⟩
  cases sound with
  | true =>
    simp only [Bool.not_true, Bool.or_false, Bool.false_and]
    exact taken
  | false =>
    obtain ⟨slot, -⟩ := (s.rxTaken i w ((s.slot i).sampleAt 21) ((s.slot i).sampleAt 21)).parityBad_spec i
    simp only [Bool.not_false, Bool.or_true, Bool.true_and]
    unfold State.rxMiddle
    dsimp only
    rw [if_neg (by decide), State.modSlot_slot, slot, taken]
    rfl

theorem State.rxHeld_spec (sound : Bool) : let x := s.slot i; let t := s.rxHeld i w sound; let y := t.slot i
    t.now = max s.now (x.sampleAt 21) ∧ y.ch.rxOn = none ∧ y.ch.lastRx = x.ch.lastRx ∧ y.ch.rearm = x.sampleAt 21 ∧ y.pr = x.pr ∧ y.regs = x.regs ∧
    y.ch.rxHold = some (x.heldOf w) ∧ y.ch.parity = (x.ch.parity || !sound) ∧ y.ch.rxRptLim = (x.ch.rxRptLim || (!sound && x.errsig)) := by
  obtain ⟨p, slot⟩ := s.rxMiddle_slot i w sound
  refine ⟨s.rxMiddle_now i w sound, ?_⟩
  rw [State.rxHeld, State.modSlot_slot, slot]
  exact ⟨rfl, rfl, rfl, rfl, rfl, rfl, rfl, rfl⟩

end

end Sys2Proof.Machine
end

section
/-! PROOFS of the characters family: an answer to reset that is judged leaves no character in reception (02 R43, R51, R52, 06 R158 to R165). -/

namespace Sys2Proof.Machine

/-- No character is in reception on slot i. -/
def Quiet (i : Nat) (s : State) : Prop := (s.slot i).ch.rxOn = none

theorem Quiet.ite {i : Nat} {a b : State} {c : Prop} [Decidable c] (ha : Quiet i a) (hb : Quiet i b) : Quiet i (if c then a else b) := by
  split
  · exact ha
  · exact hb

section
variable {i : Nat} {s : State}

theorem Quiet.of_ch {t : State} (h : Quiet i s) (e : (t.slot i).ch = (s.slot i).ch) : Quiet i t := (congrArg CharEng.rxOn e).trans h

/-- A change of the slot that leaves reception alone. -/
theorem Quiet.modSlot (h : Quiet i s) {f : Slot → Slot} (hf : ∀ x : Slot, (f x).ch.rxOn = x.ch.rxOn) : Quiet i (s.modSlot i f) := by
  rw [Quiet, State.modSlot_slot, hf]
  exact h

/-! What halts the character engine. -/

theorem Quiet.warmReset (s : State) : Quiet i (s.warmReset i) := (s.warmReset_halted i).1.1

theorem Quiet.beginDeact (s : State) (park : Bool) : Quiet i (s.beginDeact i park) := (s.beginDeact_halted i park).1.1

theorem Quiet.classChange (s : State) (k : SClass) : Quiet i (s.classChange i k) := by
  have waits (u : State) : ((u.endWait i 0).endWait i 1).slot i = u.slot i := rfl
  unfold State.classChange
  rw [Quiet, waits, State.modSlot_slot]
  rfl

theorem Quiet.failActivation (s : State) (r : Nat) : Quiet i (s.failActivation i r) := (Quiet.beginDeact s false).modSlot fun _ => rfl

theorem Quiet.negFail (s : State) (r : Nat) : Quiet i (s.negFail i r) := (Quiet.failActivation s 5).modSlot fun _ => rfl

theorem Quiet.negReset (s : State) (r : Nat) : Quiet i (s.negReset i r) := .ite (.negFail s r) (.warmReset _)

theorem Quiet.atrFail (s : State) (noTs : Bool) : Quiet i (s.atrFail i noTs) := by
  unfold State.atrFail
  dsimp only
  split
  · exact .warmReset _
  · split
    · exact .classChange s _
    · exact .failActivation s _

theorem Quiet.atrError (s : State) (code : Nat) : Quiet i (s.atrError i code) := .atrFail _ false

/-! What leaves reception alone. -/

theorem Slot.noteChange_rxOn (x : Slot) (n : Nat) : (x.noteChange n).ch.rxOn = x.ch.rxOn := by
  unfold Slot.noteChange
  split
  · split <;> rfl
  · rfl

theorem Slot.stageDiv_ch (x : Slot) (t n : Nat) : (x.stageDiv t n).ch = x.ch := by
  obtain ⟨m, r, d, a, p, e⟩ := x.stageDiv_eq t n
  rw [e]

section
variable (h : Quiet i s)
include h

theorem Quiet.warmStart : Quiet i (s.warmStart i) := by
  have cleared : Quiet i (s.modSlot i fun x => { x with seq := { x.seq with retries := 0, negResetUsed := false, warmPend := false } }) :=
    h.modSlot fun _ => rfl
  unfold State.warmStart
  refine .ite (cleared.modSlot fun x => ?_) (.warmReset _)
  dsimp only
  split <;> rfl

theorem Quiet.actPend : Quiet i (s.actPend i) := by
  unfold State.actPend
  exact .ite (.ite (.beginDeact s _) (.ite h.warmStart h)) h

theorem Quiet.enterReady : Quiet i (s.enterReady i) := by
  have entered : Quiet i (s.modSlot i fun x =>
      { x with st := .ready, pr := { x.pr with mode := .idle, settled := true, ifsc := x.pr.ifsc, sent := 0, t1 := { attempts := x.pr.t1.attempts } }
               ch := { x.ch with rxBuf := [] } }) := h.modSlot fun _ => rfl
  exact Quiet.actPend (entered.of_ch ((State.setsReady_stand _ i).ch i))

theorem Quiet.settle (fi di t r : Nat) : Quiet i (s.settle i fi di t r) := by
  unfold State.settle
  extract_lets s1
  have staged : Quiet i s1 :=
    h.modSlot fun x => (congrArg CharEng.rxOn ((x.noteChange s.now).stageDiv_ch s.now x.negDiv)).trans (x.noteChange_rxOn s.now)
  exact .ite (staged.modSlot fun _ => rfl) staged.enterReady

theorem Quiet.negotiate : Quiet i (s.negotiate i) := by
  unfold State.negotiate
  dsimp only
  split
  · exact .ite (h.settle _ _ _ _) (.ite (.negReset s 5) (.negFail s 5))
  · split
    · exact .negFail s 6
    · exact .ite (h.modSlot fun _ => rfl) (.ite (.negFail s 6) (h.settle _ _ _ _))

theorem Quiet.acceptAtr : Quiet i (s.acceptAtr i) := by
  unfold State.acceptAtr
  extract_lets s1
  have accepted : Quiet i s1 := h.modSlot fun x => x.noteChange_rxOn s.now
  exact Quiet.negotiate (accepted.of_ch rfl)

theorem Quiet.judgeAtr : Quiet i (s.judgeAtr i) := by
  unfold State.judgeAtr
  extract_lets x y has
  refine .ite h.acceptAtr ?_
  split
  · exact .classChange s _
  · exact .failActivation s 4

theorem Quiet.atrChar (data : Byte) (bad : Nat) : Quiet i (s.atrChar i data bad) := by
  unfold State.atrChar
  extract_lets s1 l a
  have read : Quiet i s1 := h.modSlot fun _ => rfl
  exact .ite (.atrError s1 _) (.ite (.atrError s1 _) (.ite (.ite (.atrError s1 _) read.judgeAtr) read))

end
end

end Sys2Proof.Machine
end

section
/-! PROOFS of the characters family: a character passed on, at its late stop sample or before (04 R101 to R104, R112, 02 R51, 06 R154, R167). -/

namespace Sys2Proof.Machine

theorem State.modSlot_count (s : State) (i : Nat) (f : Slot → Slot) (j c : Nat) : (s.modSlot i f).count j c = s.count j c := rfl

theorem State.modSlot_timer (s : State) (i : Nat) (f : Slot → Slot) (n : Nat) : (s.modSlot i f).timer n = s.timer n := rfl

/-! Its stop position. -/

/-- Slot x with the stop position of its character judged (04 R102). -/
def Slot.stopJudged (x : Slot) (good : Bool) : Slot := { x with ch := { x.ch with rxHold := none, framing := x.ch.framing || !good } }

/-- The stop position of the character on slot i is judged, and counted where it is bad (04 R102, R114). -/
def State.stopJudged (s : State) (i : Nat) (good : Bool) : State :=
  let t := s.modSlot i fun x => x.stopJudged good
  if good then t else t.bump i 15

section
variable (s : State) (i : Nat) (good : Bool)

theorem State.stopJudged_slot : (s.stopJudged i good).slot i = (s.slot i).stopJudged good := by
  have judged := s.modSlot_slot i fun x => x.stopJudged good
  unfold State.stopJudged
  dsimp only
  split
  · exact judged
  · rw [State.bump_slot, judged]

theorem State.stopJudged_count : (s.stopJudged i false).count i 15 = satInc (s.count i 15) :=
  State.bump_count (s.modSlot i fun x => x.stopJudged false) i 15

end

/-! What it is passed on to. -/

/-- Slot x with an entry of the raw receive FIFO, or its overflow (04 R112). -/
def Slot.takesRaw (x : Slot) (good : Bool) (l : BitVec 9) : Slot :=
  if x.ch.rawRx.length < 16 then { x with ch := { x.ch with rawRx := x.ch.rawRx ++ [(!good, l)] } } else { x with ch := { x.ch with rawOvf := true } }

/-- Slot x with its convention fixed by a TS (04 R104). -/
def Slot.fixes (x : Slot) (inverse : Bool) : Slot := { x with ch := { x.ch with inverse := inverse, convSet := true } }

section
variable {s : State} {i : Nat} {l : BitVec 9} {good : Bool}

theorem State.rxPass_raw (hr : (s.slot i).raw = true) : s.rxPass i l good = (s.stopJudged i good).modSlot i fun x => x.takesRaw good l := if_pos hr

theorem State.rxPass_ts (hr : (s.slot i).raw = false) (hs : (s.slot i).awaitsTs = true) {c : Bool} {b : Byte} (ht : tsOf l = some (c, b)) :
    s.rxPass i l true = (((s.stopJudged i true).modSlot i fun x => x.fixes c).armWait i 0 4 0 9600
      ((s.slot i).ch.etu.boundsBy (s.now - (s.slot i).ch.lastStart))).atrChar i b 0 := by
  rw [Slot.awaitsTs] at hs
  unfold State.rxPass
  dsimp only
  rw [if_neg (by rw [hr]; decide), if_pos hs, ht]
  rfl

theorem State.rxPass_noTs (hr : (s.slot i).raw = false) (hs : (s.slot i).awaitsTs = true) (ht : tsOf l = none) : s.rxPass i l good =
    ((s.stopJudged i good).modSlot i fun x => { x with ch := { x.ch with inverse := false } }).atrChar i (l.setWidth 8) 1 := by
  rw [Slot.awaitsTs] at hs
  unfold State.rxPass
  dsimp only
  rw [if_neg (by rw [hr]; decide), if_pos hs, ht]
  rfl

/-- Slot i is given back its repetitions, one that came with a good parity counted (04 R109). -/
def State.repsOver (s : State) (i : Nat) (counted : Bool) : State :=
  (if counted then s.bump i 19 else s).modSlot i fun x => { x with ch := { x.ch with rxReps := 0 } }

theorem State.repsOver_slot (s : State) (i : Nat) (counted : Bool) :
    (s.repsOver i counted).slot i = { s.slot i with ch := { (s.slot i).ch with rxReps := 0 } } := by
  rw [State.repsOver, State.modSlot_slot]
  split
  · rw [State.bump_slot]
  · rfl

theorem State.rxPass_char (hr : (s.slot i).raw = false) (hs : (s.slot i).awaitsTs = false) : s.rxPass i l good =
    ((s.stopJudged i good).repsOver i (parityGood (s.slot i).ch.inverse l && 0 < (s.slot i).ch.rxReps)).passChar i
      { data := byteOfLevels (s.slot i).ch.inverse l, parity := parityGood (s.slot i).ch.inverse l, framing := good } := by
  rw [Slot.awaitsTs] at hs
  unfold State.rxPass
  dsimp only
  rw [if_neg (by rw [hr]; decide), if_neg (by rw [hs]; decide)]
  rfl

theorem State.passChar_atr (h : (s.slot i).st = .atr) (c : RxChar) :
    s.passChar i c = s.atrChar i c.data (if !c.parity then 2 else if !c.framing then 6 else 0) := by
  unfold State.passChar
  dsimp only
  rw [h]
  rfl

theorem State.passChar_t0 (hst : (s.slot i).st = .busy) (htx : (s.slot i).ch.lastTx.isSome = true) (hm : (s.slot i).pr.mode = .t0) (c : RxChar) :
    s.passChar i c = s.t0Char i c := by
  unfold State.passChar
  dsimp only
  rw [hst, hm, if_neg (by simp [Option.isSome_iff_ne_none.mp htx])]

/-- A sound character of the data that T=0 receives at once (06 R167). -/
theorem State.t0Char_recvAll {c : RxChar} (hf : c.framing = true) (hp : c.parity = true) (hq : (s.slot i).ch.txq = [])
    (h : (s.slot i).pr.t0.phase = .recvAll) : s.t0Char i c = s.modSlot i fun x =>
      let n := x.pr.t0.toRecv - 1
      { x with pr := { x.pr with t0 := { x.pr.t0 with data := x.pr.t0.data ++ [c.data], toRecv := n, phase := if n = 0 then .proc else .recvAll } } } := by
  unfold State.t0Char
  dsimp only
  rw [hf, hp, hq, h]
  rfl

/-! An answer to reset. -/

/-- After TS alone, T0 is to come (02 R52). -/
theorem State.atrChar_first (h : (s.slot i).ch.atrOn = false) (b : Byte) :
    s.atrChar i b 0 = s.modSlot i fun x => ({ x with ch := { x.ch with atr := [b], atrOn := true } } : Slot).readAtr := by
  have read : (s.modSlot i fun x => ({ x with ch := { x.ch with atr := if x.ch.atrOn then x.ch.atr ++ [b] else [b], atrOn := true } } : Slot).readAtr) =
      s.modSlot i fun x => ({ x with ch := { x.ch with atr := [b], atrOn := true } } : Slot).readAtr := State.modSlot_congr (by rw [h]; rfl)
  unfold State.atrChar
  rw [read]
  extract_lets s1 l a
  have first : l = [b] := by
    unfold l s1
    rw [State.modSlot_slot]
    rfl
  have short : a.total = 2 ∧ a.final = false := by
    unfold a
    rw [first]
    exact ⟨rfl, rfl⟩
  rw [if_neg (by decide), short.1, short.2]
  exact (if_neg (by decide)).trans (if_neg (by simp))

theorem Slot.AfterAtr.left {x y : Slot} {noTs : Bool} {n : Nat} (h : x.AfterAtr noTs n y) : y.st ≠ .atr := by
  have next (r : Nat) (h : x.NextClass n r y) : y.st ≠ .atr := by
    unfold Slot.NextClass at h
    split at h
    · obtain ⟨hst, -⟩ := h
      rw [hst]; decide
    · obtain ⟨hst, -⟩ := h
      rw [hst]; decide
  unfold Slot.AfterAtr at h
  split at h
  · exact next 2 h
  · split at h
    · obtain ⟨hst, -⟩ := h
      rw [hst]; decide
    · exact next 3 h

/-- A bad character ends the answer to reset (02 R51). -/
theorem State.atrChar_bad (s : State) (i : Nat) (b : Byte) {bad : Nat} (hb : bad ≠ 0) :
    ((s.atrChar i b bad).slot i).regs.atrErr = bad ∧ ((s.atrChar i b bad).slot i).st ≠ .atr := by
  unfold State.atrChar
  extract_lets s1
  rw [if_pos hb]
  obtain ⟨after, err⟩ := State.atrFail_spec (s := s1.modSlot i fun x => { x with regs := { x.regs with atrErr := bad } }) (i := i) (noTs := false)
  rw [State.modSlot_slot] at err
  exact ⟨err, after.left⟩

/-- However the answer to reset goes on, no character is in reception. -/
theorem Quiet.rxPass_atr (h : Quiet i s) (hr : (s.slot i).raw = false) (hst : (s.slot i).st = .atr) (hs : (s.slot i).awaitsTs = false) :
    Quiet i (s.rxPass i l good) := by
  have judged : ((s.stopJudged i good).repsOver i (parityGood (s.slot i).ch.inverse l && 0 < (s.slot i).ch.rxReps)).slot i =
      { (s.slot i).stopJudged good with ch := { ((s.slot i).stopJudged good).ch with rxReps := 0 } } := by
    rw [State.repsOver_slot, State.stopJudged_slot]
  rw [State.rxPass_char hr hs, State.passChar_atr (by rw [judged]; exact hst)]
  refine Quiet.atrChar ?_ _ _
  rw [Quiet, judged]
  exact h

/-! The levels that are passed on. -/

theorem State.rxPass_now (s : State) (i : Nat) (l : BitVec 9) (good : Bool) : (s.rxPass i l good).now = s.now := ((Follows.refl i s).rxPass l good).now

/-- In RAW the levels go to the raw receive FIFO as they came (04 R112). -/
theorem State.rxPass_raw_spec (hr : (s.slot i).raw = true) : (s.rxPass i l good).slot i = ((s.slot i).stopJudged good).takesRaw good l ∧
    (good = false → (s.rxPass i l good).count i 15 = satInc (s.count i 15)) := by
  rw [State.rxPass_raw hr]
  refine ⟨?_, ?_⟩
  · rw [State.modSlot_slot, State.stopJudged_slot]
  · rintro rfl
    rw [State.modSlot_count, s.stopJudged_count i]

/-- The two TS levels (04 R104). -/
theorem tsOf_levels {l : BitVec 9} (h : l = 0x13B#9 ∨ l = 0x103#9) :
    tsOf l = some (decide (l = 0x103#9), if l = 0x103#9 then 0x3F#8 else 0x3B#8) := by
  rcases h with rfl | rfl <;> rfl

/-- TS fixes the convention, is the first character of the answer to reset, and starts the wait for the next one (04 R104, 02 R51). -/
theorem State.rxPass_ts_spec (hr : (s.slot i).raw = false) (hst : (s.slot i).st = .atr) (hc : (s.slot i).ch.convSet = false)
    (ha : (s.slot i).ch.atrOn = false) {c : Bool} {b : Byte} (ht : tsOf l = some (c, b)) : let t := s.rxPass i l true; let y := t.slot i
    y.ch.rxHold = none ∧ y.ch.inverse = c ∧ y.ch.convSet = true ∧ y.ch.atr = [b] ∧ y.st = .atr ∧ (t.timer (3 * i)).en = true ∧
      (t.timer (3 * i)).cmp = 9600 := by
  rw [State.rxPass_ts hr (by simp [Slot.awaitsTs, hst, hc]) ht]
  have fixed : ((s.stopJudged i true).modSlot i fun x => x.fixes c).slot i = ((s.slot i).stopJudged true).fixes c := by
    rw [State.modSlot_slot, State.stopJudged_slot]
  generalize (s.stopJudged i true).modSlot i (fun x => x.fixes c) = u at fixed
  generalize (s.slot i).ch.etu.boundsBy (s.now - (s.slot i).ch.lastStart) = n
  obtain ⟨en, -, -, cmp⟩ := u.armWait_timer i 0 4 0 9600 n none
  have armed := (State.armWait_evolves (ps := [.timers]) rfl u i 0 4 0 9600 n none (.refl u)).slot_eq (by decide) i
  generalize u.armWait i 0 4 0 9600 n = v at en cmp armed
  rw [fixed] at armed
  rw [State.atrChar_first (by rw [armed]; exact ha)]
  dsimp only
  rw [State.modSlot_slot, State.modSlot_timer, armed]
  exact ⟨rfl, rfl, rfl, rfl, hst, en, cmp⟩

/-- A sound byte of the data that T=0 receives at once (06 R167). -/
theorem State.rxPass_recvAll_spec (hr : (s.slot i).raw = false) (hst : (s.slot i).st = .busy) (hg : parityGood (s.slot i).ch.inverse l = true)
    (htx : (s.slot i).ch.lastTx.isSome = true) (hm : (s.slot i).pr.mode = .t0)
    (hp : (s.slot i).pr.t0.phase = .recvAll) (hq : (s.slot i).ch.txq = []) : let x := s.slot i; let y := (s.rxPass i l true).slot i
    y.ch.rxHold = none ∧ y.pr.t0.data = x.pr.t0.data ++ [byteOfLevels x.ch.inverse l] ∧ y.pr.t0.toRecv = x.pr.t0.toRecv - 1 ∧ y.st = .busy := by
  let u := (s.stopJudged i true).repsOver i (true && 0 < (s.slot i).ch.rxReps)
  have rested : u.slot i = { (s.slot i).stopJudged true with ch := { ((s.slot i).stopJudged true).ch with rxReps := 0 } } := by
    rw [State.repsOver_slot, State.stopJudged_slot]
  have passed : s.rxPass i l true = u.passChar i { data := byteOfLevels (s.slot i).ch.inverse l, parity := true, framing := true } := by
    rw [State.rxPass_char hr (by simp [Slot.awaitsTs, hst]), hg]
  clear_value u
  dsimp only
  rw [passed, State.passChar_t0 (by rw [rested]; exact hst) (by rw [rested]; exact htx) (by rw [rested]; exact hm),
    State.t0Char_recvAll rfl rfl (by rw [rested]; exact hq) (by rw [rested]; exact hp), State.modSlot_slot, rested]
  exact ⟨rfl, rfl, rfl, hst⟩

end

end Sys2Proof.Machine
end

section
/-! PROOFS of the characters family: what CHAR_RECEIVE comes to (04 R98 to R107, R110, R112, 02 R51, R52, 06 R154, R155, R170). -/

namespace Sys2Proof.Machine

/-- The parts of the state that a reception can change, with all that an exchange or an answer to reset that ends brings. -/
abbrev receptionParts : List Part :=
  [.now, .slots, .timers, .tide, .dev, .flow, .mram, .cores, .telemetry, .counts, .lpos, .audit, .crypto, .loops, .out, .pba, .freeCount]

/-! The start bit. -/

section
variable {s : State} {i : Fin 64} {w : List Reading}

/-- The character in hand begins, and nothing else changes but for time (04 R100). -/
theorem State.startSampled_begun (o : RxOpen) : let x := s.slot i; let t := (s.startSampled i).begun i o
    t.now = max s.now (x.ch.lastStart + (x.sampleOff 1 + x.sampleD)) ∧
    t.slot i = { x with ch := { x.ch with rxOn := some { o with begun := true } } } ∧ Evolves [.now, .tide, .timers, .cores, .slots] s t := by
  refine ⟨State.elapseTo_now _ _, ?_, ((Evolves.refl s).elapseTo _ rfl).modSlot _ _ rfl⟩
  rw [State.begun_slot, State.elapseTo_at_slot]

theorem State.endWait_off (s : State) (i n : Nat) : ((s.endWait i n).timer (3 * i + n)).en = false := by
  rw [State.endWait, State.modTimer_timer]

/-- The first start bit of a block ends BWT and starts CWT (06 R154). -/
theorem State.rxBegin_t1_spec {o : RxOpen} (h1 : (s.slot i).inT1 = true) (hb : (s.slot i).ch.rxBuf = []) : let t := s.rxBegin i o; let y := t.slot i
    y.ch.rxOn = some { o with begun := true } ∧ y.pr.t1.bwtArmed = false ∧ (t.timer (3 * i + 1)).en = false ∧ (t.timer (3 * i)).en = true ∧
      (t.timer (3 * i)).cmp = (s.slot i).cwt % 2 ^ 32 := by
  obtain ⟨⟨⟨hst, -⟩, hq⟩, -⟩ :
      ((((s.slot i).st = .busy ∨ (s.slot i).st = .negotiating) ∧ (s.slot i).pr.smWait = false) ∧ (s.slot i).ch.txq = []) ∧ _ := by
    simpa only [Slot.inT1, Bool.and_eq_true, Bool.or_eq_true, decide_eq_true_eq, Bool.not_eq_true', List.isEmpty_iff] using h1
  have noAtr : ¬((s.slot i).st = .atr ∧ (s.slot i).ch.convSet = false) := by rcases hst with e | e <;> simp [e]
  rw [State.rxBegin_t1 noAtr (.inr hq) h1 hb]
  have begun : (((s.begun i o).endWait i 1).slot i).ch.rxOn = some { o with begun := true } := by
    rw [(State.endWait_evolves (ps := [.timers]) rfl _ _ _ (.refl (s.begun i o))).slot_eq (by decide), State.begun_slot]
  have off := (s.begun i o).endWait_off i 1
  generalize (s.begun i o).endWait i 1 = u at begun off
  generalize (s.slot i).ch.etu.boundsBy (s.now - o.start) = n
  obtain ⟨en, -, -, cmp⟩ := u.armWait_timer i 0 4 0 (s.slot i).cwt n none
  have other : (u.armWait i 0 4 0 (s.slot i).cwt n).timer (3 * i + 1) = u.timer (3 * i + 1) := State.modTimer_timer_ne _ _ _ _ (by omega)
  have armed := (State.armWait_evolves (ps := [.timers]) rfl u i 0 4 0 (s.slot i).cwt n none (.refl u)).slot_eq (by decide) i
  generalize u.armWait i 0 4 0 (s.slot i).cwt n = v at en cmp other armed
  dsimp only
  rw [State.modSlot_slot, State.modSlot_timer, State.modSlot_timer, other, armed]
  exact ⟨begun, rfl, off, en, cmp⟩

end

/-! The stop sample. -/

theorem exec_charReceive_stop {s t : State} {i : Fin 64} {w : List Reading} {o : RxOpen} (h : (s.slot i).ch.rxOn = some o) (hb : o.begun = true)
    (ht : s.rxStop i w = t) : exec (.charReceive i (.stop w)) s = .next t ∧ Changes receptionParts s t :=
  ⟨(exec_charReceive_begun h hb).2.trans (congrArg _ ht), ht ▸ (State.rxStop_evolves rfl _ _ _ (.refl s)).changes⟩

/-! The late stop sample. -/

theorem exec_charReceive_late {s : State} {i : Fin 64} {h : RxHeld} (hh : (s.slot i).ch.rxHold = some h) :
    let t := (s.elapseTo h.lateAt).rxPass i h.levels h.vote
    exec (.charReceive i .late) s = .next t ∧ t.now = max s.now h.lateAt ∧ Changes receptionParts s t := by
  have flush : s.rxFlush i = (s.elapseTo h.lateAt).rxPass i h.levels h.vote := by
    unfold State.rxFlush
    rw [hh]
  exact ⟨congrArg _ flush, (State.rxPass_now _ i _ _).trans (State.elapseTo_now _ _),
    (State.rxPass_evolves rfl _ _ _ _ ((Evolves.refl s).elapseTo _ rfl)).changes⟩

/-- Settles O22: a start edge, the start bit, the bits up to the middle stop sample and the late one, each by what CHAR_RECEIVE makes of it. -/
theorem charactersIn : Obligations.CharactersIn := by
  intro s i w _ x c
  refine ⟨fun dt hl => congrArg _ (State.rxEdge_deaf hl), fun dt hl hh hb hc => ⟨fun hw => ?_, fun hw hn => ?_⟩, exec_charReceive_idle,
    fun hh => congrArg _ (State.rxFlush_idle hh), x.sampleAt_near, x.bitVote_majority w, fun o u ho hu => exec_charReceive_stop_after_start ho hu,
    fun o ho hb => (exec_charReceive_begun ho hb).1, fun o ho hb => ⟨fun hv => ?_, fun hv hst hm hq => ?_, fun hv hst hc => ?_,
    fun hv hst hq h1 => ?_, fun hv h1 hbuf => ?_⟩, fun o ho hb => ⟨fun hheld => ?_, fun hr hst hc ht => ?_, fun hr hst hc hg he hs => ?_,
    fun hst hg he hr => ?_, fun hst hr hg he => ?_⟩, fun h hh => ⟨fun hr hl => ?_, fun hr hl => ?_, fun hr hst hc ha hv hl => ?_,
    fun hr hst hv hg hn htx hm hp hq => ?_⟩⟩
  · have hears := (s.elapseTo (s.now + dt)).rxStart_hears i
    rw [State.elapseTo_at_slot] at hears
    have now := ((s.elapseTo (s.now + dt)).rxStart_parts i).now_eq (by decide)
    obtain ⟨o, ho, hrest⟩ := hears.opened
    refine does_of_slot rfl (exec_charReceive_edge.trans (congrArg _ (State.rxEdge_heard hl hh hb hc hw))) fun hothers => ?_
    refine ⟨?_, hears.start.trans now.symm, hears.rx.trans (congrArg some now.symm), hears.rxEtu, ?_, ?_, ?_, hears.buf, State.rxStart_timer _ i, hears.pr,
      hears.regs, hothers, ?_⟩
    · rw [now, State.elapseTo_now]
      omega
    · rw [now]
      exact hears.timing
    · simp [Slot.mayTransmit, ho]
    · rw [now]
      exact ⟨o, ho, hrest⟩
    · exact (((Evolves.refl s).elapseTo _ rfl).trans (((s.elapseTo (s.now + dt)).rxStart_parts i).mono rfl)).changes
  · obtain ⟨now, ended⟩ := s.expire_wt i
    exact does_of_slot rfl (exec_charReceive_edge.trans (congrArg _ (State.rxEdge_late hl hh hb hc hw hn))) fun hothers =>
      ⟨now, ended.lastEnd, ended.idle, ended.halted.1, hothers, (State.expire_evolves rfl _ _ _ (.refl s)).changes⟩
  · obtain ⟨slot, count, parts⟩ := (s.startSampled i).rxFalse_spec i o (x.ch.lastStart + highAgain w c)
    rw [State.elapseTo_at_slot] at slot
    rw [State.elapseTo_count] at count
    refine does_of_slot rfl ((exec_charReceive_start ho hb).trans (congrArg _ (State.rxJudge_high hv))) fun hothers => ⟨?_, count, slot, hothers, ?_⟩
    · exact (parts.now_eq (by decide)).trans (State.elapseTo_now _ _)
    · exact (((Evolves.refl s).elapseTo _ rfl).trans (parts.mono rfl)).changes
  · have noAtr : ¬(((s.startSampled i).slot i).st = .atr ∧ ((s.startSampled i).slot i).ch.convSet = false) := by
      rw [State.elapseTo_at_slot, hst]
      simp
    have begins : s.rxJudge i o w = ((s.startSampled i).begun i o).endInDoubt i 2 true := by
      rw [State.rxJudge_low hv]
      exact State.rxBegin_t0 noAtr (by rw [State.elapseTo_at_slot]; exact Slot.inT0_iff.mpr ⟨hst, hm⟩) (by rwa [State.elapseTo_at_slot])
    obtain ⟨now, -, parts⟩ := State.startSampled_begun (s := s) (i := i) o
    have ended := ((s.startSampled i).begun i o).endInDoubt_ended i 2
    exact does_of_slot rfl ((exec_charReceive_start ho hb).trans (congrArg _ begins)) fun hothers =>
      ⟨(State.endInDoubt_now _ i 2 true).trans now, ended.lastEnd, ended.idle, ended.halted.2.1, ended.halted.1, hothers,
        (State.endInDoubt_evolves rfl _ _ _ _ (parts.mono rfl)).changes⟩
  · have begins : s.rxJudge i o w = ((s.startSampled i).begun i o).endWait i 1 := by
      rw [State.rxJudge_low hv]
      exact State.rxBegin_atr (by rwa [State.elapseTo_at_slot]) (by rwa [State.elapseTo_at_slot])
    obtain ⟨now, slot, parts⟩ := State.startSampled_begun (s := s) (i := i) o
    exact does_of_slot rfl ((exec_charReceive_start ho hb).trans (congrArg _ begins)) fun hothers =>
      ⟨now, slot, State.endWait_off _ i 1, hothers, (State.endWait_evolves rfl _ _ _ parts).changes⟩
  · have begins : s.rxJudge i o w = (s.startSampled i).begun i o := by
      rw [State.rxJudge_low hv]
      exact State.rxBegin_other (by rw [State.elapseTo_at_slot]; exact fun h => hst h.1) (by rwa [State.elapseTo_at_slot]) (by rwa [State.elapseTo_at_slot])
    obtain ⟨now, slot, parts⟩ := State.startSampled_begun (s := s) (i := i) o
    exact does_of_slot rfl ((exec_charReceive_start ho hb).trans (congrArg _ begins)) fun hothers => ⟨now, slot, hothers, parts.changes⟩
  · obtain ⟨on, bwt, off, en, cmp⟩ := State.rxBegin_t1_spec (s := s.startSampled i) (i := i) (o := o) (by rwa [State.elapseTo_at_slot])
      (by rwa [State.elapseTo_at_slot])
    rw [State.elapseTo_at_slot] at cmp
    exact does_of_slot rfl ((exec_charReceive_start ho hb).trans (congrArg _ (State.rxJudge_low hv))) fun hothers =>
      ⟨on, bwt, off, en, cmp, hothers, (State.rxBegin_evolves rfl _ _ _ ((Evolves.refl s).elapseTo _ rfl)).changes⟩
  · have judged : (x.awaitsTs = true → (tsOf (x.voted w)).isSome = true) ∧ x.soundBits w = true ∧ x.lastOfAtr w = false ∧ x.inPps = false := by
      rcases hheld with ⟨hr, hst, hp⟩ | ⟨hst, hg⟩ | ⟨hst, hc, ht⟩
      · exact ⟨by simp [Slot.awaitsTs_later hst], by rw [Slot.soundBits, hr]; rfl, Slot.lastOfAtr_later hst, hp⟩
      · have later : x.st ≠ .atr := by rw [hst]; decide
        exact ⟨by simp [Slot.awaitsTs_later later], by rw [Slot.soundBits, hg, Bool.or_true], Slot.lastOfAtr_later later, Slot.inPps_busy hst⟩
      · exact ⟨fun _ => ht, by rw [Slot.soundBits, Slot.awaitsTs_first hst hc, Bool.or_true, Bool.true_or], Slot.lastOfAtr_first hc,
          by simp [Slot.inPps, hst]⟩
    obtain ⟨hts, hg, hl, hp⟩ := judged
    obtain ⟨ends, parts⟩ := exec_charReceive_stop ho hb (State.rxStop_holds hts (fun _ => hg) hl (.inl hg) hp)
    obtain ⟨now, on, rx, rearm, pr, regs, held, -⟩ := s.rxHeld_spec i w (x.soundBits w)
    exact does_of_slot rfl ends fun hothers => ⟨⟨on, rx, hothers, parts⟩, now, rearm, pr, regs, held⟩
  · obtain ⟨ends, parts⟩ := exec_charReceive_stop ho hb (State.rxStop_noTs (Slot.awaitsTs_first hst hc) ht)
    obtain ⟨p, taken⟩ := s.rxTaken_slot i w (x.sampleAt 19 + x.sampleD) (x.sampleAt 21)
    have now := (State.rxPass_now (s.rxTaken i w (x.sampleAt 19 + x.sampleD) (x.sampleAt 21)) i (x.voted w) true).trans (s.rxTaken_now i w _ _)
    have fails := State.rxPass_noTs (s := s.rxTaken i w (x.sampleAt 19 + x.sampleD) (x.sampleAt 21)) (i := i) (l := x.voted w) (good := true)
      (by rw [taken]; exact hr) (by rw [taken]; exact Slot.awaitsTs_first hst hc) ht
    refine does_of_slot rfl ends fun hothers => ⟨now, ?_⟩
    rw [fails] at parts hothers ⊢
    obtain ⟨err, left⟩ := State.atrChar_bad _ i ((x.voted w).setWidth 8) (bad := 1) (by decide)
    exact ⟨err, left, hothers, parts⟩
  · have noTs : x.awaitsTs = false := Slot.awaitsTs_fixed hc
    have last : x.lastOfAtr w = true := by rw [Slot.lastOfAtr, he, hs]; rfl
    obtain ⟨ends, -⟩ := exec_charReceive_stop ho hb (State.rxStop_lastAtr noTs ((Slot.soundBits_judged hr noTs).trans hg) last)
    obtain ⟨p, taken⟩ := s.rxTaken_slot i w (x.ch.lastStart + x.ch.etu.bound 10) (x.sampleAt 21)
    have quiet := Quiet.rxPass_atr (s := s.rxTaken i w (x.ch.lastStart + x.ch.etu.bound 10) (x.sampleAt 21)) (i := i) (l := x.voted w) (good := true)
      (by rw [Quiet, taken]; rfl) (by rw [taken]; exact hr) (by rw [taken]; exact hst) (by rw [taken]; exact noTs)
    exact does_of_slot rfl ends fun hothers => ⟨(State.rxPass_now _ i _ true).trans (s.rxTaken_now i w _ _), quiet, hothers⟩
  · have later : x.st ≠ .atr := by rw [hst]; decide
    have noRaw : x.raw = false := by
      simp only [Slot.errsig, Bool.and_eq_true, Bool.not_eq_true'] at he
      exact he.2
    have bad := (Slot.soundBits_judged noRaw (Slot.awaitsTs_later later)).trans hg
    obtain ⟨ends, parts⟩ := exec_charReceive_stop ho hb (State.rxStop_answers later bad he hr)
    obtain ⟨now, out, parity, answered, on, rx, rearm, reps, shown, esig, pr⟩ := s.rxAnswered_spec i w
    exact does_of_slot rfl ends fun hothers => ⟨⟨on, rx, hothers, parts⟩, now, reps, shown, parity, answered, esig, out, rearm, pr⟩
  · have later : x.st ≠ .atr := by rw [hst]; decide
    have noTs := Slot.awaitsTs_later later
    have bad := (Slot.soundBits_judged (w := w) hr noTs).trans hg
    obtain ⟨ends, parts⟩ := exec_charReceive_stop ho hb (State.rxStop_holds (fun hs => absurd (noTs.symm.trans hs) (by decide)) (absurd · later)
      (Slot.lastOfAtr_later later) (.inr he) (Slot.inPps_busy hst))
    obtain ⟨-, on, rx, -, -, -, held, parity, limit⟩ := s.rxHeld_spec i w (x.soundBits w)
    refine does_of_slot rfl ends fun hothers => ⟨⟨on, rx, hothers, parts⟩, ?_, ?_, ?_⟩
    · rw [parity, bad]; simp
    · rw [limit, bad]; rfl
    · rw [held]; rfl
  · obtain ⟨ends, now, parts⟩ := exec_charReceive_late hh
    obtain ⟨slot, count⟩ := State.rxPass_raw_spec (s := s.elapseTo h.lateAt) (i := i) (l := h.levels) (good := h.vote) (by rwa [State.elapseTo_at_slot])
    rw [State.elapseTo_at_slot, Slot.takesRaw, if_pos (by exact hl)] at slot
    rw [State.elapseTo_count] at count
    refine does_of_slot rfl ends fun hothers => ⟨⟨now, ?_, hothers, parts, count⟩, ?_⟩
    · rw [slot]; rfl
    · rw [slot]; exact ⟨rfl, rfl⟩
  · obtain ⟨ends, now, parts⟩ := exec_charReceive_late hh
    obtain ⟨slot, count⟩ := State.rxPass_raw_spec (s := s.elapseTo h.lateAt) (i := i) (l := h.levels) (good := h.vote) (by rwa [State.elapseTo_at_slot])
    rw [State.elapseTo_at_slot, Slot.takesRaw, if_neg (by exact not_lt.mpr hl)] at slot
    rw [State.elapseTo_count] at count
    refine does_of_slot rfl ends fun hothers => ⟨⟨now, ?_, hothers, parts, count⟩, ?_⟩
    · rw [slot]; rfl
    · rw [slot]; exact ⟨rfl, rfl⟩
  · obtain ⟨ends, now, parts⟩ := exec_charReceive_late hh
    rw [hv] at ends now parts
    obtain ⟨hold, conv, set, atr, st, en, cmp⟩ := State.rxPass_ts_spec (s := s.elapseTo h.lateAt) (i := i) (by rwa [State.elapseTo_at_slot])
      (by rwa [State.elapseTo_at_slot]) (by rwa [State.elapseTo_at_slot]) (by rwa [State.elapseTo_at_slot]) (tsOf_levels hl)
    exact does_of_slot rfl ends fun hothers =>
      ⟨⟨now, hold, hothers, parts, fun hb => absurd (hv.symm.trans hb) (by decide)⟩, conv, set, atr, st, en, cmp⟩
  · obtain ⟨ends, now, parts⟩ := exec_charReceive_late hh
    rw [hv] at ends now parts
    obtain ⟨hold, data, toRecv, st⟩ := State.rxPass_recvAll_spec (s := s.elapseTo h.lateAt) (i := i) (l := h.levels) (by rwa [State.elapseTo_at_slot])
      (by rwa [State.elapseTo_at_slot]) (by rwa [State.elapseTo_at_slot]) (by rwa [State.elapseTo_at_slot]) (by rwa [State.elapseTo_at_slot])
      (by rwa [State.elapseTo_at_slot]) (by rwa [State.elapseTo_at_slot])
    rw [State.elapseTo_at_slot] at data toRecv
    exact does_of_slot rfl ends fun hothers =>
      ⟨⟨now, hold, hothers, parts, fun hb => absurd (hv.symm.trans hb) (by decide)⟩, data, toRecv, st⟩

end Sys2Proof.Machine
end

section
/-! PROOFS of the timers family: the registers of a timer (05 R116, R120 to R127, R131, R149, 07 R191). -/

namespace Sys2Proof.Machine

/-! A write to a timer: what its checks make of it. -/

section
variable {s : State} {ag : Agent} {t : Nat} (ha : s.allows ag (if t < 192 then 1 else 0) = true)
include ha

theorem State.timerWrite_accepted (hw : s.timerWritable ag t = true) (f : State → State) :
    s.timerWrite ag t .none f = f (s.timErr t .none) := by
  rw [State.timerWrite, State.granted_of_allows ha, if_neg (by decide), if_pos hw]

theorem State.timerWrite_notOwned (hw : s.timerWritable ag t = false) (f : State → State) :
    s.timerWrite ag t .none f = s.timErr t .state := by
  rw [State.timerWrite, State.granted_of_allows ha, if_neg (by decide), if_neg (by rw [hw]; decide)]

theorem State.timerWrite_rejected {e : CmdErr} (he : e ≠ .none) (f : State → State) : s.timerWrite ag t e f = s.timErr t e := by
  rw [State.timerWrite, State.granted_of_allows ha, if_pos he]

end

/-- A change of a timer that does not look at CMD_ERR, made where CMD_ERR has been written. -/
theorem State.timErr_modTimer {s : State} {t : Nat} {e : CmdErr} {f : Timer → Timer} (h : s.wf = true)
    (hf : f { s.timer t with cmdErr := e } = { f (s.timer t) with cmdErr := e }) :
    (s.timErr t e).modTimer t f = s.modTimer t fun x => { f x with cmdErr := e } := by
  rw [State.timErr, State.modTimer_modTimer _ _ _ _ (State.wf_timers h)]
  exact State.modTimer_congr hf

@[simp] theorem State.timErr_timer (s : State) (t : Nat) (e : CmdErr) : (s.timErr t e).timer t = { s.timer t with cmdErr := e } :=
  s.modTimer_timer t _

theorem State.timErr_timer_ne (s : State) {t j : Nat} (e : CmdErr) (h : j ≠ t) : (s.timErr t e).timer j = s.timer j :=
  s.modTimer_timer_ne t j _ h

@[simp] theorem State.timErr_cfg (s : State) (t j : Nat) (e : CmdErr) : ((s.timErr t e).timer j).cfg = (s.timer j).cfg := by
  by_cases h : j = t
  · subst h; rw [State.timErr_timer]
  · rw [State.timErr_timer_ne s e h]

@[simp] theorem State.timErr_masterOf (s : State) (t i : Nat) (e : CmdErr) : (s.timErr t e).masterOf i = s.masterOf i := by
  simp only [State.masterOf, State.timErr_cfg]

@[simp] theorem State.timErr_linkedLow (s : State) (t i : Nat) (e : CmdErr) : (s.timErr t e).linkedLow i = s.linkedLow i := by
  rw [State.linkedLow, State.timErr_masterOf, Timer.src, State.timErr_cfg]
  rfl

@[simp] theorem State.timErr_linkedHigh (s : State) (t i : Nat) (e : CmdErr) : (s.timErr t e).linkedHigh i = s.linkedHigh i := by
  simp only [State.linkedHigh, State.timErr_linkedLow]

/-- The upper half of a pair is no lower half of another (05 R131). -/
theorem State.linkedHigh_odd {s : State} {i : Nat} (h : s.linkedHigh i = true) : 193 ≤ i ∧ s.linkedLow i = false := by
  simp only [State.linkedHigh, Bool.and_eq_true, decide_eq_true_eq] at h
  obtain ⟨⟨hi, hodd⟩, -⟩ := h
  exact ⟨hi, by simp [State.linkedLow, hodd]⟩

/-! TIM_CTRL words (05 Table 5-9). -/

/-- A word with no command bit set. -/
theorem bitOf_noCommand {v : Word} (h : v &&& 0xF#32 = 0#32) {k : Nat} (hk : k < 4) : bitOf v k = false := by
  have hbit : (v &&& 0xF#32).getLsbD k = false := by rw [h, BitVec.getLsbD_zero]
  have hmask : (0xF#32).getLsbD k = true := by interval_cases k <;> rfl
  rwa [BitVec.getLsbD_and, hmask, Bool.and_true] at hbit

/-- A command bit set in such a word stands alone. -/
theorem bitOf_oneCommand {v : Word} (h : v &&& 0xF#32 = 0#32) (c : Word) {k : Nat} (hk : k < 4) : bitOf (v ||| c) k = bitOf c k := by
  rw [bitOf_or, bitOf_noCommand h hk, Bool.false_or]

section
variable (s : State) (t : Nat) {w : Word}

theorem State.timCtrl_start (h0 : bitOf w 0 = true) (h1 : bitOf w 1 = false) (h2 : bitOf w 2 = false) (h3 : bitOf w 3 = false) :
    s.timCtrl t w = s.modTimer t fun x => { x with en := true, residue := 0, presc := fld x.cfg 3 0, out := true, enAt := none } := by
  simp [State.timCtrl, h0, h1, h2, h3]

theorem State.timCtrl_stop (h0 : bitOf w 0 = false) (h1 : bitOf w 1 = true) (h2 : bitOf w 2 = false) (h3 : bitOf w 3 = false) :
    s.timCtrl t w = s.modTimer t fun x => { x with en := false, out := false, enAt := none } := by
  simp [State.timCtrl, h0, h1, h2, h3]

theorem State.timCtrl_clrCap (h0 : bitOf w 0 = false) (h1 : bitOf w 1 = false) (h2 : bitOf w 2 = true) (h3 : bitOf w 3 = false) :
    s.timCtrl t w = s.modTimer t fun x => { x with caps := [], capLost := 0 } := by
  simp [State.timCtrl, h0, h1, h2, h3]

theorem State.timCtrl_capSoft (h0 : bitOf w 0 = false) (h1 : bitOf w 1 = false) (h2 : bitOf w 2 = false) (h3 : bitOf w 3 = true) :
    s.timCtrl t w = s.capture t 9 := by
  simp [State.timCtrl, h0, h1, h2, h3]

end

/-- A source that CAP_SRC does not name captures nothing (05 R126). -/
theorem State.capture_other {s : State} {t src : Nat} (h : (s.timer t).capSrc ≠ src) : s.capture t src = s := if_neg fun c => h c.1

/-- A capture that finds room, its interrupt off (05 R126). -/
theorem State.capture_takes {s : State} {t src : Nat} (h : (s.timer t).capSrc = src) (hs : src ≠ 0) (hl : (s.timer t).caps.length < 8)
    (hq : bitOf (s.timer t).cfg 9 = false) : s.capture t src = s.modTimer t fun x => { x with caps := x.caps ++ [(x.count, src)] } := by
  have hfree : s.modTimer t (fun x => if x.caps.length < 8 then { x with caps := x.caps ++ [(x.count, src)] }
      else { x with capOvf := true, capLost := min (x.capLost + 1) 255 }) = s.modTimer t fun x => { x with caps := x.caps ++ [(x.count, src)] } :=
    State.modTimer_congr (if_pos hl)
  rw [State.capture, if_pos ⟨h, hs⟩, hfree, State.timerIrq, if_neg (by simp [hq])]

/-! The commands on a timer that the agent may write. -/

section
variable {s : State} {ag : Agent} {t : TimerId} {v : Word} (ha : s.allows ag (if timerIdx t < 192 then 1 else 0) = true)
include ha

/-- A TIM_CTRL word without START and STOP together. -/
theorem State.writeTimCtrl_accepted (hw : s.timerWritable ag (timerIdx t) = true) (h : (bitOf v 0 && bitOf v 1) = false) :
    s.writeTimCtrl ag (timerIdx t) v = (s.timErr (timerIdx t) .none).timCtrl (timerIdx t) v := by
  rw [State.writeTimCtrl, if_neg (by rw [h]; decide), State.timerWrite_accepted ha hw]

theorem State.writeTimCtrl_notOwned (hw : s.timerWritable ag (timerIdx t) = false) (h : (bitOf v 0 && bitOf v 1) = false) :
    s.writeTimCtrl ag (timerIdx t) v = s.timErr (timerIdx t) .state := by
  rw [State.writeTimCtrl, if_neg (by rw [h]; decide), State.timerWrite_notOwned ha hw]

theorem State.writeTimCtrl_multiple (h0 : bitOf v 0 = true) (h1 : bitOf v 1 = true) :
    s.writeTimCtrl ag (timerIdx t) v = s.timErr (timerIdx t) .multiple := by
  rw [State.writeTimCtrl, if_pos (by rw [h0, h1]; rfl), State.timerWrite_rejected ha (by decide)]

variable (hs : s.wf = true) (hw : s.timerWritable ag (timerIdx t) = true)
include hs hw

theorem exec_start (hv : v &&& 0xF#32 = 0#32) : exec (.start ag t v) s = .next (s.modTimer (timerIdx t) fun x =>
    { x with en := true, residue := 0, presc := fld x.cfg 3 0, out := true, enAt := none, cmdErr := .none }) := by
  have hb := fun k => bitOf_oneCommand hv 1#32 (k := k)
  refine congrArg nx ?_
  rw [State.writeTimCtrl_accepted ha hw (by rw [hb 1 (by decide)]; exact Bool.and_false _),
    State.timCtrl_start _ _ (hb 0 (by decide)) (hb 1 (by decide)) (hb 2 (by decide)) (hb 3 (by decide)), State.timErr_modTimer hs rfl]

theorem exec_stop (hv : v &&& 0xF#32 = 0#32) : exec (.stop ag t v) s = .next (s.modTimer (timerIdx t) fun x =>
    { x with en := false, out := false, enAt := none, cmdErr := .none }) := by
  have hb := fun k => bitOf_oneCommand hv 2#32 (k := k)
  refine congrArg nx ?_
  rw [State.writeTimCtrl_accepted ha hw (by rw [hb 0 (by decide)]; exact Bool.false_and _),
    State.timCtrl_stop _ _ (hb 0 (by decide)) (hb 1 (by decide)) (hb 2 (by decide)) (hb 3 (by decide)), State.timErr_modTimer hs rfl]

theorem exec_clrCap (hv : v &&& 0xF#32 = 0#32) : exec (.clrCap ag t v) s = .next (s.modTimer (timerIdx t) fun x =>
    { x with caps := [], capLost := 0, cmdErr := .none }) := by
  have hb := fun k => bitOf_oneCommand hv 4#32 (k := k)
  refine congrArg nx ?_
  rw [State.writeTimCtrl_accepted ha hw (by rw [hb 0 (by decide)]; exact Bool.false_and _),
    State.timCtrl_clrCap _ _ (hb 0 (by decide)) (hb 1 (by decide)) (hb 2 (by decide)) (hb 3 (by decide)), State.timErr_modTimer hs rfl]

omit hs in
theorem exec_capSoft (hv : v &&& 0xF#32 = 0#32) :
    exec (.capSoft ag t v) s = .next ((s.timErr (timerIdx t) .none).capture (timerIdx t) 9) := by
  have hb := fun k => bitOf_oneCommand hv 8#32 (k := k)
  refine congrArg nx ?_
  rw [State.writeTimCtrl_accepted ha hw (by rw [hb 0 (by decide)]; exact Bool.false_and _),
    State.timCtrl_capSoft _ _ (hb 0 (by decide)) (hb 1 (by decide)) (hb 2 (by decide)) (hb 3 (by decide))]

omit hs in
theorem exec_capSoft_other (hv : v &&& 0xF#32 = 0#32) (hc : (s.timer (timerIdx t)).capSrc ≠ 9) :
    exec (.capSoft ag t v) s = .next (s.timErr (timerIdx t) .none) := by
  rw [exec_capSoft ha hw hv, State.capture_other (by rw [State.timErr_timer]; exact hc)]

theorem exec_capSoft_takes (hv : v &&& 0xF#32 = 0#32) (hc : (s.timer (timerIdx t)).capSrc = 9) (hl : (s.timer (timerIdx t)).caps.length < 8)
    (hq : bitOf (s.timer (timerIdx t)).cfg 9 = false) : exec (.capSoft ag t v) s = .next (s.modTimer (timerIdx t) fun x =>
    { x with caps := x.caps ++ [(x.count, 9)], cmdErr := .none }) := by
  rw [exec_capSoft ha hw hv, State.capture_takes (by rw [State.timErr_timer]; exact hc) (by decide) (by rw [State.timErr_timer]; exact hl)
    (by rw [State.timErr_cfg]; exact hq), State.timErr_modTimer hs rfl]

theorem exec_timCountWrite_alone (hlo : s.linkedLow (timerIdx t) = false) (hhi : s.linkedHigh (timerIdx t) = false) :
    exec (.timCountWrite ag t v) s = .next (s.modTimer (timerIdx t) fun x =>
      { ({ x with count := v.toNat, lostAt := some (s.now + s.toPk) } : Timer).level with cmdErr := .none }) := by
  refine congrArg nx ?_
  rw [State.writeCount, State.timerWrite_accepted ha hw, if_neg (by simp [hlo]), if_neg (by simp [hhi])]
  exact State.timErr_modTimer hs rfl

/-- The low half of a linked pair is staged until the high half is written (05 R131). -/
theorem exec_timCountWrite_low (hlo : s.linkedLow (timerIdx t) = true) :
    exec (.timCountWrite ag t v) s = .next (s.modTimer (timerIdx t) fun x => { x with loStage := some v.toNat, cmdErr := .none }) := by
  refine congrArg nx ?_
  rw [State.writeCount, State.timerWrite_accepted ha hw, if_pos (by simp [hlo])]
  exact State.timErr_modTimer hs rfl

omit hs in
/-- Both halves of a linked pair are loaded with the write of the high half (05 R131). -/
theorem exec_timCountWrite_high {lo : Nat} (hhi : s.linkedHigh (timerIdx t) = true) (hl : (s.timer (timerIdx t - 1)).loStage = some lo) :
    Does (.timCountWrite ag t v) s fun u =>
      (u.timer (timerIdx t)).count = v.toNat ∧ (u.timer (timerIdx t)).cmdErr = .none ∧ (u.timer (timerIdx t - 1)).count = lo ∧
      (u.timer (timerIdx t - 1)).loStage = none ∧ Changes [.timers] s u := by
  obtain ⟨hi, hlo⟩ := State.linkedHigh_odd hhi
  have hne : timerIdx t ≠ timerIdx t - 1 := by omega
  have hw' : s.writeCount ag (timerIdx t) v = ((((s.timErr (timerIdx t) .none).putCount (timerIdx t) v.toNat).putCount (timerIdx t - 1) lo).modTimer
      (timerIdx t - 1) fun x => { x with loStage := none }) := by
    rw [State.writeCount, State.timerWrite_accepted ha hw, if_neg (by simp [hlo]), if_pos (by simp [hhi]), State.timErr_timer_ne _ _ hne.symm, hl]
  refine ⟨s.writeCount ag (timerIdx t) v, rfl, ?_, ?_, ?_, ?_, ?_⟩ <;> rw [hw']
  · rw [State.modTimer_timer_ne _ _ _ _ hne, State.putCount, State.modTimer_timer_ne _ _ _ _ hne, State.putCount, State.modTimer_timer]; rfl
  · rw [State.modTimer_timer_ne _ _ _ _ hne, State.putCount, State.modTimer_timer_ne _ _ _ _ hne, State.putCount, State.modTimer_timer,
      State.timErr_timer]; rfl
  · rw [State.modTimer_timer, State.putCount, State.modTimer_timer]; rfl
  · rw [State.modTimer_timer]
  · exact (State.modTimer_evolves rfl _ _ _ (State.putCount_evolves rfl _ _ _ (State.putCount_evolves rfl _ _ _
      (State.timErr_evolves rfl _ _ _ (.refl s))))).changes

theorem exec_timReloadWrite : exec (.timReloadWrite ag t v) s = .next (s.modTimer (timerIdx t) fun x =>
    { x with reloadNext := some (v.toNat, s.now + s.toPk), cmdErr := .none }) := by
  refine congrArg nx ?_
  rw [State.writeReload, State.timerWrite_accepted ha hw]
  exact State.timErr_modTimer hs rfl

theorem exec_timCmpWrite : exec (.timCmpWrite ag t v) s = .next (s.modTimer (timerIdx t) fun x =>
    { ({ x with cmp := v.toNat, armed := true } : Timer).level with cmdErr := .none }) := by
  refine congrArg nx ?_
  rw [State.writeCmp, State.timerWrite_accepted ha hw]
  exact State.timErr_modTimer hs rfl

end

/-- A timer that is not the agent's rejects every command and every write with STATE (05 R116, R149). -/
theorem exec_timer_notOwned {s : State} {ag : Agent} {t : TimerId} {v : Word} (ha : s.allows ag (if timerIdx t < 192 then 1 else 0) = true)
    (hw : s.timerWritable ag (timerIdx t) = false) (hv : v &&& 0xF#32 = 0#32) {c : Instr}
    (hc : c ∈ [Instr.start ag t v, .stop ag t v, .clrCap ag t v, .capSoft ag t v, .timCountWrite ag t v, .timReloadWrite ag t v, .timCmpWrite ag t v]) :
    exec c s = .next (s.timErr (timerIdx t) .state) := by
  have ctrl : ∀ w : Word, (bitOf w 0 && bitOf w 1) = false → s.writeTimCtrl ag (timerIdx t) (v ||| w) = s.timErr (timerIdx t) .state := fun w h =>
    State.writeTimCtrl_notOwned ha hw (by rw [bitOf_oneCommand hv w (by decide), bitOf_oneCommand hv w (by decide), h])
  simp only [List.mem_cons, List.not_mem_nil, or_false] at hc
  rcases hc with rfl | rfl | rfl | rfl | rfl | rfl | rfl
  · exact congrArg nx (ctrl 1#32 rfl)
  · exact congrArg nx (ctrl 2#32 rfl)
  · exact congrArg nx (ctrl 4#32 rfl)
  · exact congrArg nx (ctrl 8#32 rfl)
  · exact congrArg nx (State.timerWrite_notOwned ha hw _)
  · exact congrArg nx (State.timerWrite_notOwned ha hw _)
  · exact congrArg nx (State.timerWrite_notOwned ha hw _)

/-! Reads. -/

@[simp] theorem State.setLatch_latch (s : State) (ag : Agent) (key : Nat) (w : Word) : (s.setLatch ag key w).latch ag key = w :=
  tget_tset_same _ _ _ _

theorem State.readCount_alone {s : State} {i : Nat} (hlo : s.linkedLow i = false) (hhi : s.linkedHigh i = false) (ag : Agent) :
    s.readCount ag i = (BitVec.ofNat 32 (s.timer i).count, s) := by
  rw [State.readCount, if_neg (by simp [hlo]), if_neg (by simp [hhi])]

/-- A read of the low half latches the high half for its reader (05 R131). -/
theorem State.readCount_low {s : State} {i : Nat} (hlo : s.linkedLow i = true) (ag : Agent) : s.readCount ag i =
    (BitVec.ofNat 32 (s.timer i).count, s.setLatch ag (0x40000 + i + 1) (BitVec.ofNat 32 (s.timer (i + 1)).count)) := if_pos hlo

theorem State.readCapVal_empty {s : State} {i : Nat} (h : (s.timer i).caps = []) : s.readCapVal i = (0#32, s) := by rw [State.readCapVal, h]

/-- A read of TIM_CAP_VAL takes the oldest entry out (05 R126). -/
theorem State.readCapVal_oldest {s : State} {i : Nat} {a : Nat × Nat} {r : List (Nat × Nat)} (h : (s.timer i).caps = a :: r) :
    s.readCapVal i = (BitVec.ofNat 32 a.1, s.modTimer i fun x => { x with caps := r }) := by rw [State.readCapVal, h]

theorem latchRead_changes (s : State) (ag : Agent) (key : Nat) (w v : Word) :
    Changes [.latches, .lastRead] s { s.setLatch ag key w with lastRead := v } := by
  refine ⟨rfl, fun p => ?_⟩
  cases p with
  | latches => exact .inl (by decide)
  | lastRead => exact .inl (by decide)
  | _ => exact .inr rfl

/-- Settles O25: each command by the write it makes, each read by what stands in the timer. -/
theorem timerRegisters : Obligations.TimerRegisters := by
  intro s ag t v hs
  refine ⟨fun ha hw => ⟨fun hv => ⟨exec_start ha hs hw hv, exec_stop ha hs hw hv, exec_clrCap ha hs hw hv, exec_capSoft_other ha hw hv,
      exec_capSoft_takes ha hs hw hv⟩, exec_timCountWrite_alone ha hs hw, fun lo => exec_timCountWrite_high ha hw, exec_timCountWrite_low ha hs hw,
      exec_timReloadWrite ha hs hw, exec_timCmpWrite ha hs hw⟩, fun ha => ⟨?start, ?stop⟩, fun ha hw hv c => exec_timer_notOwned ha hw hv,
    fun dt => ⟨fun hlo hhi => ?alone, fun hlo => ?low⟩, fun a r h => ?oldest, fun h => ?empty⟩
  case start => exact congrArg nx (State.writeTimCtrl_multiple ha (by simp [bitOf]) (by simp [bitOf]))
  case stop => exact congrArg nx (State.writeTimCtrl_multiple ha (by simp [bitOf]) (by simp [bitOf]))
  case alone =>
    show execTimCountRead ag t dt s = _
    simp only [execTimCountRead, State.readCount_alone hlo hhi]
  case low =>
    refine ⟨_, rfl, ?_⟩
    rw [State.readCount_low hlo]
    exact ⟨rfl, State.setLatch_latch _ _ _ _, latchRead_changes _ _ _ _ _⟩
  case oldest =>
    show execTimCapValRead ag t s = _
    simp only [execTimCapValRead, State.readCapVal_oldest h]
  case empty =>
    show execTimCapValRead ag t s = _
    simp only [execTimCapValRead, State.readCapVal_empty h]

end Sys2Proof.Machine
end

section
/-! PROOFS of the timers family: a TIDE frame that is forwarded (05 R141, 13 R346, R354). -/

namespace Sys2Proof.Machine

/-! Numbers as bytes. -/

theorem ofLe_leBytes (n k : Nat) : ofLe (leBytes n k) = n % 256 ^ k := by
  induction k generalizing n with
  | zero => rw [leBytes, ofLe, Nat.pow_zero, Nat.mod_one]
  | succ k ih =>
    have h : (BitVec.ofNat 8 n).toNat = n % 256 := BitVec.toNat_ofNat ..
    rw [leBytes, ofLe, ih, h, Nat.pow_succ', Nat.mod_mul]

/-! A frame that finds the transmitter free. -/

theorem State.residence_bounds (s : State) : 4480 ≤ s.residence.1 ∧ s.residence.1 ≤ 5760 := by
  have h := Nat.mod_lt s.free.1.toNat (show 0 < 1281 by decide)
  simp only [State.residence]
  omega

/-- A TIDE frame that waited for nothing leaves as it was offered. -/
theorem State.ringLeave_out {s : State} {w : RingWait} {t : Nat} (h : t ≤ w.at_) : (s.ringLeave w t).out = s.out ++ [.ring w.frame] := by
  rw [State.ringLeave, if_neg (by simp; omega)]
  rfl

/-- A TIDE frame offered to a free transmitter leaves at once, its residence and the delay of the output link added (13 R354). -/
theorem State.forwardTide_out {s : State} (hw : s.ring.waits = []) (ht : s.ring.txUntil ≤ s.now) (f : Frame) :
    (s.forwardTide f).out = s.out ++ [.ring (s.tideOnward { f with hops := f.hops + 1 } s.residence.1)] := by
  have hdrain : s.ringDrain s.ring.waits.length = s := by rw [hw]; rfl
  have hfree : (s.ring.waits.isEmpty && decide (s.ring.txUntil ≤ s.now)) = true := by simp [hw, ht]
  rw [State.forwardTide, State.ringOffer, hdrain]
  dsimp only
  rw [if_pos hfree, if_pos rfl, State.ringLeave_out (Nat.le_refl _)]
  rfl

/-- ACC_DELAY of a TIDE payload of 16 bytes, as it goes on: DELAY_BAD does not keep the delay of a measured output link out of it. -/
theorem State.tideOnward_acc {s : State} {f : Frame} (hl : f.payload.length = 16) (hm : s.ring.linkOut ≠ 0xFFFFFFFF#32) (residence : Nat) :
    (s.tideOnward f residence).payload.drop 12 = leBytes (ofLe ((f.payload.drop 12).take 4) + residence + s.ring.linkOut.toNat) 4 := by
  simp only [State.tideOnward, hm]
  rw [List.drop_left' (by simp [hl])]
  simp

/-- A TIDE frame with DELAY_BAD set is forwarded and corrects nothing (13 R355). -/
theorem execTide_delayBad {s : State} {f : Frame} (hr : s.ring.rxLock = true) (hf : s.ringFate f = .pass) (hb : (byteAt f.payload 10).getLsbD 0 = true)
    (frac : Fin 16) : exec (.tide f 0 frac) s = .next (s.forwardTide f) := by
  show execTide f 0 frac s = _
  simp only [execTide, State.elapse_zero, hr, hf, hb, Bool.not_true, Bool.and_false, Bool.false_and, Bool.false_eq_true, if_false]

/-- Refutes O53: each forwarder adds its output delay to ACC_DELAY (13 R354), but the statement leaves it out of a frame that arrives with DELAY_BAD set. Member 2,
whose output delay is 2,000/16 ck, forwards such a frame of master 1: ACC_DELAY leaves at 6,480 or more, the statement has it at 5,760 or less. -/
theorem not_ringMeasurementTideSluice : ¬ Obligations.RingMeasurementTideSluice := by
  intro h
  let s : State := { State.reset with ring := { rxLock := true, addr := 2, masterAddr := 1, linkOut := 2000#32 } }
  let f : Frame := { typ := 1#8, flags := 2#8, dst := 0xFF#8, src := 1#8, seq := 0#16, hops := 0, mac := [], good := true,
                     payload := List.replicate 10 0#8 ++ [1#8] ++ List.replicate 5 0#8 }
  have hpass : s.ringFate f = .pass := by
    unfold State.ringFate
    cases Config.ringMaster <;> decide +kernel
  have hbad : (byteAt f.payload 10).getLsbD 0 = true := by decide
  obtain ⟨-, -, -, -, htide, -⟩ := h s f (by decide +kernel)
  obtain ⟨-, -, honward⟩ := htide 0 0 rfl
  obtain ⟨t, ht, hout, -⟩ := honward hpass
  obtain ⟨g, acc, hlast, -, hstated, -, hacc⟩ := hout ⟨rfl, Nat.le_refl _⟩
  have hsent : t = s.forwardTide f := by
    rw [execTide_delayBad (s := s) (f := f) rfl hpass hbad] at ht
    exact (Host.Outcome.next.inj ht).symm
  have hleaves : g = s.tideOnward { f with hops := f.hops + 1 } s.residence.1 := by
    rw [hsent, State.forwardTide_out (s := s) rfl (Nat.le_refl _), List.getLast?_concat] at hlast
    exact (Out.ring.inj (Option.some.inj hlast)).symm
  have hdelay : g.payload.drop 12 = leBytes (0 + s.residence.1 + 2000) 4 := by
    rw [hleaves]
    exact State.tideOnward_acc (s := s) rfl (by decide) _
  have hbytes : g.payload.drop 12 = leBytes acc 4 := by
    rw [hstated]
    rfl
  have hsame : acc % 256 ^ 4 = (0 + s.residence.1 + 2000) % 256 ^ 4 := by
    rw [← ofLe_leBytes, ← ofLe_leBytes, ← hbytes, ← hdelay]
  have hbound : acc ≤ 5760 := by
    rw [hbad, Bool.true_or, if_pos rfl] at hacc
    exact hacc
  obtain ⟨hleast, hmost⟩ := s.residence_bounds
  omega

end Sys2Proof.Machine
end

section
/-! PROOFS of the protocols family: the outcome of a PPS exchange (06 R161 to R164). -/

namespace Sys2Proof.Machine

/-! The fields of CHAR_ETU that negotiation writes (04 Table 4-1). -/

theorem fld_setFld_fi (w : Word) (v : Nat) : fld (setFld w 11 8 v) 11 8 = v % 16 := by
  have := w.isLt
  simp only [fld, setFld, BitVec.toNat_ofNat]
  omega

theorem fld_setFld_di (w : Word) (v : Nat) : fld (setFld w 7 4 v) 7 4 = v % 16 := by
  have := w.isLt
  simp only [fld, setFld, BitVec.toNat_ofNat]
  omega

theorem fld_fi_setFld_di (w : Word) (v : Nat) : fld (setFld w 7 4 v) 11 8 = fld w 11 8 := by
  have := w.isLt
  simp only [fld, setFld, BitVec.toNat_ofNat]
  omega

theorem SlotRegs.engine_etu (r : SlotRegs) (fi di gt : Nat) (e : Bool) :
    fld (r.engine fi di gt e).charEtu 11 8 = fi % 16 ∧ fld (r.engine fi di gt e).charEtu 7 4 = di % 16 :=
  ⟨(fld_fi_setFld_di _ _).trans (fld_setFld_fi _ _), fld_setFld_di _ _⟩

/-! A negotiation that settles on T=0 (06 R164). -/

theorem SlotsStand.pr {s t : State} (h : SlotsStand s t) (i : Nat) : (t.slot i).pr = (s.slot i).pr := by
  have e := h i
  simp only [Slot.mk.injEq] at e
  obtain ⟨-, -, -, -, hpr, -⟩ := e
  exact hpr

/-- Where no slot command is pending, none acts. -/
theorem State.actPend_idle {s : State} {i : Nat} (hd : (s.slot i).seq.deactPend = false) (hw : (s.slot i).seq.warmPend = false) : s.actPend i = s := by
  simp only [State.actPend, hd, hw, Bool.false_eq_true, if_false, ite_self]

/-- Slot x that enters READY from NEGOTIATING. -/
def Slot.toReady (x : Slot) : Slot :=
  { x with
    st := .ready, pr := { x.pr with mode := .idle, settled := true, ifsc := x.pr.ifsc, sent := 0, t1 := { attempts := x.pr.t1.attempts } }
    ch := { x.ch with rxBuf := [] } }

theorem State.enterReady_eq (s : State) (i : Nat) :
    s.enterReady i = ((((s.modSlot i Slot.toReady).endWait i 0).endWait i 1).setsReady i).actPend i := rfl

/-- A slot on which no command is pending enters READY with its protocol settled, its registers and sequencers as they were. -/
theorem State.enterReady_spec {s : State} {i : Nat} (hd : (s.slot i).seq.deactPend = false) (hw : (s.slot i).seq.warmPend = false) :
    let x := s.slot i; let y := (s.enterReady i).slot i
    y.regs = x.regs ∧ y.seq = x.seq ∧ y.pr = x.toReady.pr := by
  have waits (u : State) : ((u.endWait i 0).endWait i 1).slot i = u.slot i := rfl
  have slot : (((s.modSlot i Slot.toReady).endWait i 0).endWait i 1).slot i = (s.slot i).toReady := by rw [waits, State.modSlot_slot]
  have stands := (((s.modSlot i Slot.toReady).endWait i 0).endWait i 1).setsReady_stand i
  have seq := (stands.slot i).seq
  have regs := (stands.slot i).regs
  have pr := stands.pr i
  rw [slot] at seq regs pr
  dsimp only
  rw [State.enterReady_eq, State.actPend_idle (by rw [seq]; exact hd) (by rw [seq]; exact hw)]
  exact ⟨regs, seq, pr⟩

/-- Slot x with the parameters of a negotiation that settles on protocol t at codes fi and di, with NEG_RESULT r. -/
def Slot.takesParams (x : Slot) (fi di t r : Nat) : Slot :=
  { x with
    regs := x.regs.engine fi di (txGt x.pr.guardN t) (t = 0)
    pr := { x.pr with proto := t, settled := true, negResult := r, mode := .idle }
    ch := { x.ch with rxBuf := [], txq := [], pend := true } }

theorem Slot.takesParams_seq (x : Slot) (fi di t r : Nat) : (x.takesParams fi di t r).seq = x.seq := by
  obtain ⟨c, k, e⟩ := SlotRegs.engine_rest x.regs fi di (txGt x.pr.guardN t) (t = 0)
  rw [Slot.takesParams, e]

theorem Slot.takesParams_pr (x : Slot) (fi di t r : Nat) :
    (x.takesParams fi di t r).toReady.pr.negResult = r ∧ (x.takesParams fi di t r).toReady.pr.proto = t ∧
    (x.takesParams fi di t r).toReady.pr.settled = true := ⟨rfl, rfl, rfl⟩

theorem Slot.takesParams_etu (x : Slot) (fi di t r : Nat) :
    fld (x.takesParams fi di t r).regs.charEtu 11 8 = fi % 16 ∧ fld (x.takesParams fi di t r).regs.charEtu 7 4 = di % 16 :=
  SlotRegs.engine_etu _ _ _ _ _

/-- Slot x with the divider that its negotiation gives staged at ck n. -/
def Slot.stagesNeg (x : Slot) (n : Nat) : Slot := (x.noteChange n).stageDiv n x.negDiv

theorem Slot.stagesNeg_seq (x : Slot) (n : Nat) :
    (x.stagesNeg n).seq.deactPend = x.seq.deactPend ∧ (x.stagesNeg n).seq.warmPend = x.seq.warmPend ∧
    (x.seq.clkRun = true → x.negDiv = x.divNow n ∨ (x.stagesNeg n).seq.divNext = some x.negDiv) := by
  obtain ⟨c, noted⟩ := x.noteChange_eq n
  have clock : (x.noteChange n).clock = x.clock := by rw [noted]; rfl
  have seq : (x.noteChange n).seq = x.seq := by rw [noted]
  obtain ⟨m, a, b, d, p, staged⟩ := (x.noteChange n).stageDiv_eq n x.negDiv
  refine ⟨?_, ?_, fun hrun => ?_⟩
  · rw [Slot.stagesNeg, staged, seq]
  · rw [Slot.stagesNeg, staged, seq]
  · have next := Slot.stageDiv_next (x := x.noteChange n) (by rw [seq]; exact hrun) n x.negDiv
    rwa [Slot.divNow_clock clock] at next

theorem State.settle_t0 (s : State) (i fi di r : Nat) :
    s.settle i fi di 0 r = (s.modSlot i fun x => (x.stagesNeg s.now).takesParams fi di 0 r).enterReady i := rfl

/-- Negotiation settles on T=0 (06 R164, R165): its parameters are in force, its divider at the next falling edge of CLK. -/
theorem State.settle_spec {s : State} {i : Nat} (hd : (s.slot i).seq.deactPend = false) (hw : (s.slot i).seq.warmPend = false) (fi di r : Nat) :
    let x := s.slot i; let y := (s.settle i fi di 0 r).slot i
    y.pr.negResult = r ∧ y.pr.proto = 0 ∧ y.pr.settled = true ∧ fld y.regs.charEtu 11 8 = fi % 16 ∧ fld y.regs.charEtu 7 4 = di % 16 ∧
    (x.seq.clkRun = true → x.negDiv = x.divNow s.now ∨ y.seq.divNext = some x.negDiv) := by
  obtain ⟨deact, warm, hdiv⟩ := (s.slot i).stagesNeg_seq s.now
  have slot := State.modSlot_slot s i fun x => (x.stagesNeg s.now).takesParams fi di 0 r
  obtain ⟨regs, seq, pr⟩ := State.enterReady_spec (s := s.modSlot i fun x => (x.stagesNeg s.now).takesParams fi di 0 r) (i := i)
    (by rw [slot, Slot.takesParams_seq, deact, hd]) (by rw [slot, Slot.takesParams_seq, warm, hw])
  rw [slot] at regs seq pr
  dsimp only
  rw [State.settle_t0, regs, seq, pr, Slot.takesParams_seq]
  obtain ⟨hneg, hproto, hset⟩ := ((s.slot i).stagesNeg s.now).takesParams_pr fi di 0 r
  obtain ⟨hfi, hdi⟩ := ((s.slot i).stagesNeg s.now).takesParams_etu fi di 0 r
  exact ⟨hneg, hproto, hset, hfi, hdi, hdiv⟩

/-! A PPS that fails (06 R161, R163, R188). -/

/-- What a PPS failure makes of slot x at ck n: the negotiation reset, or failure where that was used. -/
def Slot.PpsFailed (x : Slot) (n : Nat) (y : Slot) : Prop :=
  if x.seq.negResetUsed then y.st = .present ∧ y.regs.actResult = 5 ∧ y.pr.negResult = 7
  else y.st = .activating ∧ y.seq.rst = false ∧ y.seq.negResetUsed = true ∧ y.seq.phase = .warm ((x.stageDiv n x.actDiv).nextFall n)

theorem State.negReset_failed (s : State) (i : Nat) : (s.slot i).PpsFailed s.now ((s.negReset i 7).slot i) := by
  unfold Slot.PpsFailed State.negReset
  split
  · obtain ⟨⟨hst, hres, -⟩, -⟩ := s.failActivation_fails i 5
    rw [State.negFail, State.modSlot_slot]
    exact ⟨hst, hres, rfl⟩
  · obtain ⟨hst, -, -, -, -, m, r, d, a, hseq⟩ := s.warmReset_after i (fun x => { x with seq := { x.seq with negResetUsed := true } }) rfl rfl
    exact ⟨hst, by rw [hseq], by rw [hseq], by rw [hseq]⟩

theorem State.ppsFail_now (s : State) (i : Nat) : (s.ppsFail i).now = s.now := (Follows.refl i s).ppsFail.now

theorem State.ppsFail_spec (s : State) (i : Nat) :
    (s.ppsFail i).count i 22 = min (s.count i 22 + 1) 0xFFFFFFFF ∧ (s.slot i).PpsFailed (s.ppsFail i).now ((s.ppsFail i).slot i) := by
  have reset : Evolves slotParts (s.bump i 22) (s.ppsFail i) := State.negReset_evolves rfl _ i 7 (.refl _)
  refine ⟨(reset.count_eq (by decide) i 22).trans (State.bump_count s i 22), ?_⟩
  rw [State.ppsFail_now]
  exact (s.bump i 22).negReset_failed i

/-- No PPS response within 9,600 ETU of its latest start edge (06 R163). -/
theorem State.expire_pps (s : State) (i : Nat) : (s.expire i .pps).now = max s.now ((s.slot i).waitAt .pps) ∧
    (s.expire i .pps).count i 22 = min (s.count i 22 + 1) 0xFFFFFFFF ∧ (s.slot i).PpsFailed (s.expire i .pps).now ((s.expire i .pps).slot i) := by
  let u := (s.elapseTo ((s.slot i).waitAt .pps)).expireWait i 0
  have passed : Evolves [.now, .timers, .tide, .cores] s u :=
    State.expireWait_evolves rfl _ i 0 ((Evolves.refl s).elapseTo _ rfl)
  obtain ⟨count, failed⟩ := u.ppsFail_spec i
  rw [passed.count_eq (by decide)] at count
  rw [passed.slot_eq (by decide)] at failed
  exact ⟨(u.ppsFail_now i).trans ((State.expireWait_now _ i 0).trans (State.elapseTo_now _ _)), count, failed⟩

/-! PPS_RESPONSE and PPS_WAIT_EXPIRED, by what the response is judged to be. -/

section
variable {s : State} {i : Fin 64}

theorem Slot.inPps_of {x : Slot} (hst : x.st = .negotiating) (hm : x.pr.mode = .pps) (hq : x.ch.txq = []) : x.inPps = true := by
  simp [Slot.inPps, hst, hm, hq]

theorem execPpsResponse_judges (hp : (s.slot i).inPps = true) (hh : (s.slot i).ch.rxHold = none) :
    exec (.ppsResponse i) s = .next (s.ppsJudge i) := by
  simp only [exec, execPpsResponse, State.rxFlush_idle hh, hp, if_true]

theorem execPpsWaitExpired_expires (hp : (s.slot i).inPps = true) (hh : (s.slot i).ch.rxHold = none) (hrx : (s.slot i).ch.rxOn = none)
    (hj : s.ppsJudge i = s) : exec (.ppsWaitExpired i) s = .next (s.expire i .pps) := by
  have read : s.digest i = s := by rw [State.digest, if_pos hp, hj]
  have waits : (s.slot i).wait = some .pps := by
    have hst : (s.slot i).st = .negotiating := by simp only [Slot.inPps, Bool.and_eq_true, decide_eq_true_eq] at hp; exact hp.1.1
    simp [Slot.wait, hrx, hp, hst]
  simp only [exec, execPpsWaitExpired, State.expired, State.rxFlush_idle hh, read, waits, if_true]

variable {i : Nat}

theorem State.ppsJudge_echo (hj : judgePps (s.slot i).pr.ppsReq (s.slot i).pr.ppsT (s.slot i).ch.rxBuf = some 2)
    (hl : (s.slot i).pr.ppsReq.length = 4) (ht : (s.slot i).pr.ppsT = 0) :
    s.ppsJudge i = (s.endWait i 0).settle i (s.slot i).pr.fi (s.slot i).pr.di 0 2 := by
  simp only [State.ppsJudge, hj, hl, if_true]
  rw [ht]

theorem State.ppsJudge_default (hj : judgePps (s.slot i).pr.ppsReq (s.slot i).pr.ppsT (s.slot i).ch.rxBuf = some 3) (ht : (s.slot i).pr.ppsT = 0) :
    s.ppsJudge i = (s.endWait i 0).settle i 1 1 0 3 := by
  simp only [State.ppsJudge, hj]
  rw [ht]

theorem State.ppsJudge_fails (hj : judgePps (s.slot i).pr.ppsReq (s.slot i).pr.ppsT (s.slot i).ch.rxBuf = some 7) :
    s.ppsJudge i = s.ppsFail i := by
  simp only [State.ppsJudge, hj]

theorem State.ppsJudge_more (hj : judgePps (s.slot i).pr.ppsReq (s.slot i).pr.ppsT (s.slot i).ch.rxBuf = none) : s.ppsJudge i = s := by
  simp only [State.ppsJudge, hj]

end

/-- Settles O28, by what the response is judged to be: it settles T=0, it fails, or it is awaited until its time is up. -/
theorem ppsNegotiation : Obligations.PpsNegotiation := by
  intro s i _ x fails hst hm hq hh hd hw
  have pps : x.inPps = true := Slot.inPps_of hst hm hq
  have judged := execPpsResponse_judges pps hh
  have parts := (State.ppsJudge_evolves (ps := [.now, .slots, .timers, .tide, .dev, .flow, .mram, .cores, .telemetry, .counts, .lpos, .audit, .out, .pba])
    rfl s i (.refl s)).changes
  refine ⟨fun hj hl ht => does_of_slot rfl judged fun others => ?_, fun hj ht => does_of_slot rfl judged fun others => ?_,
    fun hj => does_of_slot rfl judged fun others => ?_, fun hj => judged.trans (congrArg _ (State.ppsJudge_more hj)), fun hrx hj => ?_⟩
  · obtain ⟨neg, proto, settled, fi, di, div⟩ := State.settle_spec (s := s.endWait i 0) (i := i) hd hw x.pr.fi x.pr.di 2
    rw [← State.ppsJudge_echo hj hl ht] at neg proto settled fi di div
    exact ⟨neg, proto, settled, fi, di, div, others, parts⟩
  · obtain ⟨neg, proto, -, fi, di, -⟩ := State.settle_spec (s := s.endWait i 0) (i := i) hd hw 1 1 3
    rw [← State.ppsJudge_default hj ht] at neg proto fi di
    exact ⟨neg, proto, fi, di, others, parts⟩
  · obtain ⟨count, failed⟩ := s.ppsFail_spec i
    rw [← State.ppsJudge_fails hj] at count failed
    exact ⟨count, others, failed⟩
  · obtain ⟨now, count, failed⟩ := s.expire_pps i
    exact does_of_slot rfl (execPpsWaitExpired_expires pps hh hrx (State.ppsJudge_more hj)) fun others => ⟨now, count, others, failed⟩

end Sys2Proof.Machine
end

section
/-! PROOFS of the protocols family: what the operations that let a slot leave service do to sessions and transactions. Sessions close at most, and
then their generation advances by one; a transaction past stage 5 stays where it is; no slot is taken up (06 R184, 03 R87, 08 R230). -/

namespace Sys2Proof.Machine

/-! A session context and its generation. -/

@[simp] theorem State.setSession_session (s : State) (i : Nat) (x : Session) : (s.setSession i x).session i = x := tget_tset_same _ _ _ _

theorem State.setSession_session_ne (s : State) (i j : Nat) (x : Session) (h : j ≠ i) : (s.setSession i x).session j = s.session j :=
  tget_tset_ne _ _ _ _ _ h

@[simp] theorem State.setGen_gen (s : State) (i : Nat) (g : Byte) : (s.setGen i g).gen i = g := tget_tset_same _ _ _ _

theorem State.setGen_gen_ne (s : State) (i j : Nat) (g : Byte) (h : j ≠ i) : (s.setGen i g).gen j = s.gen j := tget_tset_ne _ _ _ _ _ h

@[simp] theorem State.setGen_session (s : State) (i j : Nat) (g : Byte) : (s.setGen i g).session j = s.session j := rfl

@[simp] theorem State.setSession_gen (s : State) (i j : Nat) (x : Session) : (s.setSession i x).gen j = s.gen j := rfl

/-! What ending transactions before stage 6 and closing sessions leave alone. -/

theorem State.endEarly_flow (s : State) (n status cause : Nat) (resp : List Byte) :
    ∃ l, (s.endEarly n status cause resp).flow = { s.flow with txns := l } := by
  unfold State.endEarly
  split
  · exact ⟨s.flow.txns, rfl⟩
  · next x _ =>
    have kept (u : State) : (u.freeSlots n x.slots).flow = u.flow := (State.freeSlots_evolves (ps := [.slots]) rfl u n x.slots (.refl u)).flow_eq
    exact ⟨_, kept _⟩

theorem State.endAll_flow (s : State) (l : List Nat) (status cause : Nat) :
    ∃ r, (s.forEach l fun s t => s.endEarly t status cause).flow = { s.flow with txns := r } := by
  induction l generalizing s with
  | nil => exact ⟨s.flow.txns, rfl⟩
  | cons n l ih =>
    obtain ⟨k, hk⟩ := s.endEarly_flow n status cause []
    obtain ⟨r, hr⟩ := ih (s.endEarly n status cause)
    exact ⟨r, hr.trans (by rw [hk])⟩

theorem State.endEarly_sess (s : State) (n status cause : Nat) (resp : List Byte) (j : Nat) :
    (s.endEarly n status cause resp).session j = s.session j ∧ (s.endEarly n status cause resp).gen j = s.gen j := by
  obtain ⟨l, hl⟩ := s.endEarly_flow n status cause resp
  have mram : (s.endEarly n status cause resp).mram = s.mram :=
    (State.endEarly_evolves (ps := [.slots, .flow]) rfl s n status cause resp (.refl s)).changes.at (by decide : Part.mram ∉ _)
  exact ⟨by simp only [State.session, hl], by simp only [State.gen, mram]⟩

theorem State.endAll_sess (s : State) (l : List Nat) (status cause j : Nat) :
    (s.forEach l fun s t => s.endEarly t status cause).session j = s.session j ∧ (s.forEach l fun s t => s.endEarly t status cause).gen j = s.gen j := by
  induction l generalizing s with
  | nil => exact ⟨rfl, rfl⟩
  | cons n l ih =>
    obtain ⟨hs, hg⟩ := s.endEarly_sess n status cause [] j
    obtain ⟨ks, kg⟩ := ih (s.endEarly n status cause)
    exact ⟨ks.trans hs, kg.trans hg⟩

theorem State.freeSlots_free (s : State) (n i : Nat) (l : List Nat) (h : (s.slot i).holder = none) : ((s.freeSlots n l).slot i).holder = none := by
  unfold State.freeSlots State.forEach
  induction l generalizing s with
  | nil => exact h
  | cons j l ih =>
    refine ih _ ?_
    dsimp only
    split
    · by_cases hj : i = j
      · subst hj; rw [State.modSlot_slot]
      · rw [State.modSlot_slot_ne _ _ _ _ hj]; exact h
    · exact h

theorem State.endEarly_free (s : State) (n i status cause : Nat) (resp : List Byte) (h : (s.slot i).holder = none) :
    ((s.endEarly n status cause resp).slot i).holder = none := by
  unfold State.endEarly
  split
  · exact h
  · exact State.freeSlots_free _ _ _ _ h

theorem State.endAll_free (s : State) (l : List Nat) (i status cause : Nat) (h : (s.slot i).holder = none) :
    ((s.forEach l fun s t => s.endEarly t status cause).slot i).holder = none := by
  induction l generalizing s with
  | nil => exact h
  | cons n l ih => exact ih _ (s.endEarly_free n i status cause [] h)

/-! The relation. -/

/-- From s to t session context j is left alone, or its session closes and its generation advances by one. -/
abbrev State.closesAtMost (s t : State) (j : Nat) : Prop := (t.session j = s.session j ∧ t.gen j = s.gen j) ∨
  ((s.session j).isOpen = true ∧ (t.session j).isOpen = false ∧ t.gen j = s.gen j + 1)

/-- From s to t sessions close at most, transactions before stage 6 end at most, and slots come free at most; t is canonical. -/
structure Closing (s t : State) : Prop where
  wf : t.wf = true
  outq : t.flow.outq = s.flow.outq
  sess : ∀ j, s.closesAtMost t j
  running : ∀ m z, s.txn m = some z → z.stage = .intent ∨ z.stage = .exch → ∃ y, t.txn m = some y ∧ y.stage = z.stage
  decided : ∀ m z, s.txn m = some z → z.stage = .outcome → t.txn m = some z
  free : ∀ i, (s.slot i).holder = none → (t.slot i).holder = none

theorem Closing.refl {s : State} (h : s.wf = true) : Closing s s :=
  ⟨h, rfl, fun _ => .inl ⟨rfl, rfl⟩, fun _ z hz _ => ⟨z, hz, rfl⟩, fun _ _ hz _ => hz, fun _ h => h⟩

section
variable {s s0 t : State} (h : Closing s0 s)
include h

theorem Closing.trans (k : Closing s t) : Closing s0 t where
  wf := k.wf
  outq := k.outq.trans h.outq
  sess j := by
    rcases h.sess j, k.sess j with ⟨⟨es, eg⟩ | ⟨ho, hs, hg⟩, ⟨fs, fg⟩ | ⟨ko, ks, kg⟩⟩
    · exact .inl ⟨fs.trans es, fg.trans eg⟩
    · exact .inr ⟨es ▸ ko, ks, by rw [kg, eg]⟩
    · exact .inr ⟨ho, fs ▸ hs, fg.trans hg⟩
    · simp [hs] at ko
  running m z hz hr := by
    obtain ⟨y, hy, e⟩ := h.running m z hz hr
    obtain ⟨w, hw, f⟩ := k.running m y hy (e.symm ▸ hr)
    exact ⟨w, hw, f.trans e⟩
  decided m z hz hd := k.decided m z (h.decided m z hz hd) hd
  free i hi := k.free i (h.free i hi)

/-- An operation that leaves the transactions, the sessions with their generations and the requested records alone, and takes up no slot. -/
theorem Closing.keep {l : List Part} (e : Evolves l s t) (ht : t.flow.txns = s.flow.txns) (hs : t.flow.sessions = s.flow.sessions)
    (ho : t.flow.outq = s.flow.outq) (hg : t.mram.gens = s.mram.gens)
    (hf : ∀ i, (s.slot i).holder = none → (t.slot i).holder = none) : Closing s0 t := by
  have same (m : Nat) : t.txn m = s.txn m := by simp only [State.txn, ht]
  exact h.trans ⟨e.wf h.wf, ho, fun j => .inl ⟨by simp only [State.session, hs], by simp only [State.gen, hg]⟩,
    fun m z hz _ => ⟨z, by rw [same, hz], rfl⟩, fun m z hz _ => by rw [same, hz], hf⟩

/-- An operation that leaves the queue engine, MRAM and the slots alone. -/
theorem Closing.of {l : List Part} (e : Evolves l s t) (hf : Part.flow ∉ l := by decide) (hm : Part.mram ∉ l := by decide)
    (hl : Part.slots ∉ l := by decide) : Closing s0 t := by
  have flow : t.flow = s.flow := e.flow_eq hf
  have mram : t.mram = s.mram := e.changes.at hm
  exact h.keep e (by rw [flow]) (by rw [flow]) (by rw [flow]) (by rw [mram]) fun i hi => by rw [e.slot_eq hl]; exact hi

theorem Closing.foldl {β : Type} (l : List β) (f : State → β → State) (hf : ∀ u a, Closing s0 u → Closing s0 (f u a)) : Closing s0 (l.foldl f s) := by
  induction l generalizing s with
  | nil => exact h
  | cons a l ih => exact ih (hf s a h)

theorem Closing.forEach (l : List Nat) (f : State → Nat → State) (hf : ∀ u a, Closing s0 u → Closing s0 (f u a)) : Closing s0 (s.forEach l f) :=
  h.foldl l f hf

theorem Closing.modSlot (i : Nat) (f : Slot → Slot) (hf : ∀ x, x.holder = none → (f x).holder = none) : Closing s0 (s.modSlot i f) := by
  refine h.keep (State.modSlot_evolves (ps := [.slots]) rfl s i f (.refl s)) rfl rfl rfl rfl fun j hj => ?_
  by_cases e : j = i
  · subst e; rw [State.modSlot_slot]; exact hf _ hj
  · rw [State.modSlot_slot_ne _ _ _ _ e]; exact hj

theorem Closing.endWait (i n : Nat) : Closing s0 (s.endWait i n) := h.of (State.endWait_evolves (ps := [.timers]) rfl s i n (.refl s))

theorem Closing.modSet (k : Nat) (f : CardSet → CardSet) : Closing s0 (s.modSet k f) :=
  h.keep (State.modSet_evolves (ps := [.flow]) rfl s k f (.refl s)) rfl rfl rfl rfl fun _ hj => hj

theorem Closing.keepSet (k : Nat) : Closing s0 (s.keepSet k) :=
  h.keep (State.keepSet_evolves (ps := [.mram]) rfl s k (.refl s)) rfl rfl rfl rfl fun _ hj => hj

theorem Closing.post (typ source code : Nat) (data : List Word) : Closing s0 (s.post typ source code data) :=
  h.of (State.post_evolves (ps := [.dev, .counts, .out, .pba]) rfl s typ source code data (.refl s))

theorem Closing.irq (n : Nat) : Closing s0 (s.irq n) := h.of (State.irq_evolves (ps := [.dev, .counts, .out, .pba]) rfl s n (.refl s))

end

/-! The audit record changes no generation. -/

theorem State.auditAdd_gens (s : State) (c : AuditClass) (e : AuditEntry) : (s.auditAdd c e).mram.gens = s.mram.gens := by
  have kept {l : List Part} {u v : State} (e : Evolves l u v) (hl : Part.mram ∉ l) : v.mram = u.mram := e.changes.at hl
  unfold State.auditAdd
  dsimp only
  split
  · split
    · rfl
    · rw [kept (State.irq_evolves (ps := [.dev, .counts, .out, .pba]) rfl _ 12 (State.post_evolves rfl _ _ _ _ _ (.refl _))) (by decide)]
      rfl
  · rw [kept (State.auditDeep_evolves (ps := [.dev, .cores, .counts, .lpos, .audit, .out, .pba]) rfl _ (State.auditFill_evolves rfl _
      (State.markChanged_evolves rfl _ _ _ (.refl _)))) (by decide)]
    split <;> rfl

theorem Closing.auditRoutine {s s0 : State} (h : Closing s0 s) (kind : Nat) (detail : List Nat) : Closing s0 (s.auditRoutine kind detail) := by
  unfold State.auditRoutine
  split
  · have e := State.auditAdd_evolves (ps := [.dev, .flow, .mram, .cores, .counts, .lpos, .audit, .out, .pba]) rfl s .routine
      { kind := kind, detail := detail.map (BitVec.ofNat 8) } (.refl s)
    have slots (i : Nat) (hi : (s.slot i).holder = none) : ((s.auditAdd .routine { kind := kind, detail := detail.map (BitVec.ofNat 8) }).slot i).holder = none := by
      rw [e.slot_eq (by decide)]; exact hi
    rcases State.auditAdd_flow s .routine { kind := kind, detail := detail.map (BitVec.ofNat 8) } with hf | hf
    · exact h.keep e (by rw [hf]) (by rw [hf]) (by rw [hf]) (s.auditAdd_gens _ _) slots
    · exact h.keep e (by rw [hf]; rfl) (by rw [hf]; rfl) (by rw [hf]; rfl) (s.auditAdd_gens _ _) slots
  · exact h

/-! Ends before stage 6, and sessions closed. -/

section
variable {s s0 : State} (h : Closing s0 s)
include h

theorem Closing.endAll (l : List Nat) (status cause : Nat) (hl : ∀ m ∈ l, ∀ x, s.txn m = some x → x.early = true) :
    Closing s0 (s.forEach l fun s t => s.endEarly t status cause) := by
  have e : Evolves [.slots, .flow] s (s.forEach l fun s t => s.endEarly t status cause) :=
    State.forEach_evolves rfl _ _ _ (.refl s) fun u m => State.endEarly_evolves rfl u m status cause [] (.refl u)
  have outq : (s.forEach l fun s t => s.endEarly t status cause).flow.outq = s.flow.outq := by
    obtain ⟨r, hr⟩ := s.endAll_flow l status cause
    rw [hr]
  have stays (m : Nat) (z : Txn) (hz : s.txn m = some z) (hlate : z.early = false) : (s.forEach l fun s t => s.endEarly t status cause).txn m = some z :=
    (State.endAll_txn_ne s l status cause m fun hm => by simp [hl m hm z hz] at hlate).trans hz
  exact h.trans ⟨e.wf h.wf, outq, fun j => .inl (s.endAll_sess l status cause j),
    fun m z hz hr => ⟨z, stays m z hz (by rcases hr with hr | hr <;> simp [Txn.early, hr]), rfl⟩,
    fun m z hz hd => stays m z hz (by simp [Txn.early, hd]), fun i hi => s.endAll_free l i status cause hi⟩

theorem Closing.endEarly (n status cause : Nat) (hn : ∀ x, s.txn n = some x → x.early = true) : Closing s0 (s.endEarly n status cause) :=
  h.endAll [n] status cause fun m hm => by rw [List.mem_singleton.mp hm]; exact hn

/-- Ending those transactions of the table that a test picks, where it picks only those before stage 6. -/
theorem Closing.endPicked (p : Nat × Txn → Bool) (status cause : Nat) (hp : ∀ e, p e = true → e.2.early = true) :
    Closing s0 (s.forEach ((s.txnList.filter p).map (·.1)) fun s t => s.endEarly t status cause) := by
  refine h.endAll _ status cause fun m hm x hx => ?_
  obtain ⟨e, he, rfl⟩ := List.mem_map.mp hm
  obtain ⟨hin, hpick⟩ := List.mem_filter.mp he
  have : s.txn e.1 = some e.2 := (State.mem_txnList h.wf).mp hin
  rw [hx, Option.some.injEq] at this
  exact this ▸ hp e hpick

theorem Closing.endWaiters (i cause : Nat) : Closing s0 (s.endWaiters i cause) := by
  refine h.endPicked _ _ _ fun e he => ?_
  simp only [Bool.and_eq_true, decide_eq_true_eq] at he
  simp [Txn.early, he.1]

end

/-- Closing a session empties its context, leaves the others alone and advances the generation. -/
theorem State.closeSession_sess (s : State) (i j : Nat) :
    (s.closeSession i).session j = (if j = i then {} else s.session j) ∧ (s.closeSession i).gen j = if j = i then s.gen i + 1 else s.gen j := by
  unfold State.closeSession
  extract_lets s1
  rw [(s1.endAll_sess _ 0x0F 0 j).1, (s1.endAll_sess _ 0x0F 0 j).2]
  by_cases hj : j = i
  · subst hj; simp [s1]
  · simp [s1, hj, State.setGen_gen_ne, State.setSession_session_ne]

/-- The keys of a canonical table rise. -/
theorem trising_keys {α : Type} {m : Option Nat} {t : Table α} (h : trising m t = true) : (t.map (·.1)).Pairwise (· < ·) := by
  induction t generalizing m with
  | nil => exact .nil
  | cons e t ih =>
    have hr : trising (some e.1) t = true := by cases m <;> simp_all [trising]
    refine .cons (fun k hk => ?_) (ih hr)
    obtain ⟨f, hf, rfl⟩ := List.mem_map.mp hk
    exact lt_of_mem_trising hr hf

/-- Closing all sessions of a slot or a set closes each of them once. -/
theorem State.sessionsOn_spec {s : State} (h : s.wf = true) (onSet : Bool) (target : Nat) :
    (s.sessionsOn onSet target).Nodup ∧ ∀ i ∈ s.sessionsOn onSet target, (s.session i).isOpen = true := by
  obtain ⟨-, -, hs, -⟩ := State.wf_flow h
  simp only [twf, Bool.and_eq_true] at hs
  refine ⟨?_, fun i hi => ?_⟩
  · exact ((trising_keys hs.1).sublist (List.filter_sublist.map _)).imp Nat.ne_of_lt
  · obtain ⟨e, he, rfl⟩ := List.mem_map.mp hi
    obtain ⟨hin, hp⟩ := List.mem_filter.mp he
    simp only [Bool.and_eq_true] at hp
    rw [State.session, tget_of_mem hs.1 hin]
    exact hp.1.1

section
variable {s s0 : State} (h : Closing s0 s)
include h

theorem Closing.closeSession (i : Nat) (hi : (s.session i).isOpen = true) : Closing s0 (s.closeSession i) := by
  have emptied : Closing s ((s.setSession i {}).setGen i (s.gen i + 1)) := by
    refine ⟨(State.setGen_evolves (ps := [.flow, .mram]) rfl _ i _ (State.setSession_evolves rfl s i {} (.refl s))).wf h.wf, rfl, fun j => ?_,
      fun _ z hz _ => ⟨z, hz, rfl⟩, fun _ _ hz _ => hz, fun _ hj => hj⟩
    by_cases hj : j = i
    · subst hj
      exact .inr ⟨hi, by simp, State.setGen_gen _ _ _⟩
    · exact .inl ⟨State.setSession_session_ne _ _ _ _ hj, State.setGen_gen_ne _ _ _ _ hj⟩
  refine (h.trans emptied).endPicked _ _ _ fun e he => ?_
  simp only [Bool.and_eq_true, Bool.or_eq_true, decide_eq_true_eq] at he
  rcases he.2 with hg | hw
  · simp [Txn.early, hg]
  · simp [Txn.early, hw]

theorem Closing.closeEach (l : List Nat) (hn : l.Nodup) (ho : ∀ i ∈ l, (s.session i).isOpen = true) :
    Closing s0 (s.forEach l fun s i => s.closeSession i) := by
  induction l generalizing s with
  | nil => exact h
  | cons i l ih =>
    obtain ⟨hi, hl⟩ := List.nodup_cons.mp hn
    refine ih (h.closeSession i (ho i (by simp))) hl fun j hj => ?_
    have hne : j ≠ i := fun e => hi (e ▸ hj)
    rw [(s.closeSession_sess i j).1, if_neg hne]
    exact ho j (List.mem_cons_of_mem _ hj)

theorem Closing.closeAll (onSet : Bool) (target : Nat) : Closing s0 (s.closeAll onSet target) :=
  let ⟨once, isOpen⟩ := State.sessionsOn_spec h.wf onSet target
  h.closeEach _ once isOpen

end

/-! Card sets. -/

/-- The transaction of a set past stage 5 stands at stage 6 or 7. -/
theorem State.setTxnOf_running {s : State} {k n : Nat} (h : s.wf = true) (hn : s.setTxnOf k = some n) {x : Txn} (hx : s.txn n = some x) :
    x.stage = .intent ∨ x.stage = .exch := by
  obtain ⟨e, he, rfl⟩ := List.mem_map.mp (List.mem_of_head? hn)
  obtain ⟨hin, hpick⟩ := List.mem_filter.mp he
  have : s.txn e.1 = some e.2 := (State.mem_txnList h).mp hin
  rw [hx, Option.some.injEq] at this
  simp only [Bool.and_eq_true, Bool.or_eq_true, decide_eq_true_eq] at hpick
  exact this ▸ hpick.2

section
variable {s s0 : State} (h : Closing s0 s)
include h

/-- A change of a transaction at stage 6 or 7 that keeps its stage. -/
theorem Closing.modRounds (n : Nat) (f : Rounds → Rounds) (hn : ∀ x, s.txn n = some x → x.stage = .intent ∨ x.stage = .exch) :
    Closing s0 (s.modRounds n f) := by
  refine h.trans ⟨(State.modRounds_evolves (ps := [.flow]) rfl s n f (.refl s)).wf h.wf, rfl, fun _ => .inl ⟨rfl, rfl⟩, fun m z hz _ => ?_,
    fun m z hz hd => ?_, fun _ hi => hi⟩
  · by_cases hm : m = n
    · subst hm; exact ⟨{ z with rounds := f z.rounds }, by rw [State.modRounds, State.modTxn_txn, hz]; rfl, rfl⟩
    · exact ⟨z, (State.modTxn_txn_ne _ _ _ _ hm).trans hz, rfl⟩
  · have hm : m ≠ n := by rintro rfl; simpa [hd] using hn z hz
    exact (State.modTxn_txn_ne _ _ _ _ hm).trans hz

/-- The rounds of the transaction of a set, if it has one, change. -/
theorem Closing.setRounds (k : Nat) (f : Rounds → Rounds) :
    Closing s0 (match s.setTxnOf k with | some n => s.modRounds n f | none => s) := by
  split
  · next n hn => exact h.modRounds n f fun x hx => State.setTxnOf_running h.wf hn hx
  · exact h

theorem Closing.auditSetPos (k p : Nat) : Closing s0 (s.auditSetPos k p) := h.auditRoutine _ _

theorem Closing.setStateShow (k : Nat) : Closing s0 (s.setStateShow k) := by
  have shown := (h.modSet k fun c => { c with shown := c.state }).post 0x50 k (s.cset k).state [BitVec.ofNat 32 (s.cset k).members]
  unfold State.setStateShow
  dsimp only
  split
  · exact h
  · split
    · exact (shown.irq 15).closeAll true k
    · split
      · exact shown.irq 15
      · exact shown

theorem Closing.promote (k old : Nat) : Closing s0 (s.promote k old) := by
  unfold State.promote
  dsimp only
  split
  · next r _ _ =>
    split
    · refine Closing.setRounds ?_ k _
      exact (((h.modSet k _).post 0x52 k r _).auditSetPos k r).of (State.tally_evolves (ps := [.counts]) rfl _ _ _ _ _ (.refl _))
    · exact h
  · exact h

theorem Closing.posOut (k p cause status qcause shown : Nat) : Closing s0 (s.posOut k p cause status qcause shown) := by
  unfold State.posOut
  dsimp only
  split
  · refine Closing.setStateShow (Closing.promote (Closing.setRounds ?_ k _) k p) k
    exact (((h.modSet k _).keepSet k).post _ _ _ _).auditSetPos k p
  · exact h

theorem Closing.setsLeave (i status qcause : Nat) : Closing s0 (s.setsLeave i status qcause) := h.foldl _ _ fun _ _ hu => hu.posOut _ _ _ _ _ _

theorem Closing.setsReady (i : Nat) : Closing s0 (s.setsReady i) :=
  h.foldl _ _ fun _ kp hu => (((hu.modSet kp.1 _).auditSetPos kp.1 kp.2).promote kp.1 _).setStateShow kp.1

/-! Leaving service. -/

theorem Closing.leaveService (i : Nat) (down : Bool) (status cause : Nat) : Closing s0 (s.leaveService i down status cause) := by
  unfold State.leaveService
  cases down
  · exact ((h.closeAll false i).setsLeave i status cause).modSlot i _ fun _ hx => hx
  · exact (((h.endWaiters i cause).closeAll false i).setsLeave i status cause).modSlot i _ fun _ hx => hx

theorem Closing.warmReset (i : Nat) : Closing s0 (s.warmReset i) := by
  have reset {u : State} (k : Closing s0 u) : Closing s0 (u.modSlot i (·.toWarm s.now)) := k.modSlot i _ fun x hx => by
    obtain ⟨m, r, d, a, p, e⟩ := x.stageDiv_eq s.now x.actDiv
    unfold Slot.toWarm
    rw [e]
    exact hx
  unfold State.warmReset
  dsimp only
  split
  · exact ((reset (h.leaveService i false 0 0)).endWait i 0).endWait i 1
  · exact ((reset h).endWait i 0).endWait i 1

theorem Closing.warmStart (i : Nat) : Closing s0 (s.warmStart i) := by
  have asked := h.modSlot i (fun x => { x with seq := { x.seq with retries := 0, negResetUsed := false, warmPend := false } }) fun _ hx => hx
  unfold State.warmStart
  dsimp only
  split
  · refine asked.modSlot i _ fun x hx => ?_
    dsimp only
    split <;> exact hx
  · exact asked.warmReset i

/-- A deactivation of a slot that no transaction holds. -/
theorem Closing.beginDeact (i : Nat) (park : Bool) (hi : (s.slot i).holder = none) : Closing s0 (s.beginDeact i park) := by
  have waited := h.endWaiters i 0
  have unheld : ((s.endWaiters i 0).forceEnd i 0x91 0) = s.endWaiters i 0 := by
    have : ((s.endWaiters i 0).slot i).holder = none := ((Closing.refl h.wf).endWaiters i 0).free i hi
    simp only [State.forceEnd, this]
  unfold State.beginDeact
  extract_lets x st aborted s1 s2
  have left : Closing s0 s1 := by
    unfold s1
    split
    · rw [unheld]; exact waited.leaveService i true 0x91 0
    · exact h
  exact ((left.modSlot i (·.toDown s.now st aborted) fun _ hx => hx).endWait i 0).endWait i 1

theorem Closing.actPend (i : Nat) : Closing s0 (s.actPend i) := by
  unfold State.actPend
  dsimp only
  split
  · next idle =>
    split
    · exact h.beginDeact i _ idle.1
    · split
      · exact h.warmStart i
      · exact h
  · exact h

theorem Closing.actPendAll : Closing s0 s.actPendAll := h.forEach _ _ fun _ i hu => hu.actPend i

end

end Sys2Proof.Machine
end

section
/-! PROOFS of the protocols family: entries fetched, the checks before dispatch, sessions opened and closed by the host (07 R198 to R203, 06 R181 to
R184). -/

namespace Sys2Proof.Machine

/-! Lists of checks. -/

/-- A list of checks whose codes are not 0 finds nothing only where no condition holds. -/
theorem firstCode_eq_zero {l : List (Bool × Nat)} (hl : ∀ e ∈ l, e.2 ≠ 0) (h : firstCode l = 0) : ∀ e ∈ l, e.1 = false := by
  unfold firstCode at h
  split at h
  · next e he => exact absurd h (hl e (List.mem_of_find?_eq_some he))
  · next he => exact fun e hm => by simpa using List.find?_eq_none.mp he e hm

/-- A handle names context i where its fields are those of i and its generation, and the session is open (06 R181). -/
theorem State.lookup_eq_some {s : State} {h : Word} {i : Nat} :
    s.lookup h = some i ↔ fld h 10 0 = i ∧ fld h 31 19 = 0 ∧ 64 ≤ i ∧ (s.session i).isOpen = true ∧ fld h 18 11 = (s.gen i).toNat := by
  simp only [State.lookup, Option.ite_none_right_eq_some, Bool.and_eq_true, decide_eq_true_eq, Option.some.injEq]
  constructor
  · rintro ⟨⟨⟨⟨zero, least⟩, isOpen⟩, gen⟩, rfl⟩
    exact ⟨rfl, zero, least, isOpen, gen⟩
  · rintro ⟨rfl, zero, least, isOpen, gen⟩
    exact ⟨⟨⟨⟨zero, least⟩, isOpen⟩, gen⟩, rfl⟩

theorem State.lookup_open {s : State} {h : Word} {i : Nat} (hi : s.lookup h = some i) : (s.session i).isOpen = true := by
  obtain ⟨-, -, -, isOpen, -⟩ := State.lookup_eq_some.mp hi
  exact isOpen

/-- The handle of an open context, its generation above the 11 bits of its index, names it (06 R181, R182). -/
theorem State.lookup_handle {s : State} {i : Nat} (lo : 64 ≤ i) (hi : i < 2048) (ho : (s.session i).isOpen = true) :
    s.lookup (BitVec.ofNat 32 ((s.gen i).toNat * 2048 + i)) = some i := by
  have hg := (s.gen i).isLt
  have val : (BitVec.ofNat 32 ((s.gen i).toNat * 2048 + i)).toNat = (s.gen i).toNat * 2048 + i := by
    rw [BitVec.toNat_ofNat]; omega
  refine State.lookup_eq_some.mpr ⟨?_, ?_, lo, ho, ?_⟩
  all_goals simp only [fld, val]; omega

theorem State.freeSession_range {s : State} {i : Nat} (h : s.freeSession = some i) : 64 ≤ i ∧ i < 2048 := by
  obtain ⟨k, hk, rfl⟩ := List.mem_map.mp (List.mem_of_find?_eq_some h)
  have := List.mem_range.mp hk
  omega

section
variable {s : State} {x : Txn}

theorem State.cardCheck_zero (h : s.cardCheck x = 0) : 1 ≤ x.role ∧ 4 ≤ x.cmdLen ∧ x.cmdLen ≤ 65544 ∧ ∃ i, s.lookup (x.dw 2) = some i := by
  have passed := firstCode_eq_zero (by simp) h
  simp only [List.forall_mem_cons, Bool.or_eq_false_iff, decide_eq_false_iff_not] at passed
  obtain ⟨-, role, -, ⟨⟨least, most⟩, -⟩, known, -⟩ := passed
  exact ⟨by omega, by omega, by omega, Option.isSome_iff_exists.mp (by simpa using known)⟩

theorem State.openCheck_zero (h : s.openCheck x = 0) : (∃ i, s.freeSession = some i) ∧ s.openNotReady x = false := by
  have passed := firstCode_eq_zero (by simp) h
  simp only [List.forall_mem_cons] at passed
  obtain ⟨-, -, -, -, free, -, ready, -⟩ := passed
  exact ⟨Option.isSome_iff_exists.mp (by simpa using free), ready⟩

theorem State.plainCheck_zero (h : s.plainCheck x true = 0) : ∃ i, s.lookup (x.dw 2) = some i := by
  have passed := firstCode_eq_zero (by simp) h
  simp only [List.forall_mem_cons] at passed
  obtain ⟨-, -, -, -, known, -⟩ := passed
  exact Option.isSome_iff_exists.mp (by simpa using known)

/-- The target slot of an OPEN_SESSION that passes its checks is in service. -/
theorem State.inService_of_ready (h : s.openNotReady x = false) (hs : bitOf (x.dw 3) 8 = false) : (s.slot (fld (x.dw 3) 5 0)).inService = true := by
  simp only [State.openNotReady, hs, Bool.false_eq_true, if_false, Bool.or_eq_false_iff, Bool.not_eq_false'] at h
  exact h.1.1

/-- Stage 4 brings the command bytes where it does not fail. -/
theorem Txn.cmd_of_gathered {r : GatherRead} (h : x.gatherFail r = 0) (hl : x.cmdLen ≠ 0) : ∃ l, r.cmd = some l := by
  have passed := firstCode_eq_zero (by simp) h
  simp only [List.forall_mem_cons] at passed
  obtain ⟨-, -, -, -, read, -⟩ := passed
  exact Option.isSome_iff_exists.mp (by simpa [hl] using read)

end

/-! A transaction that ends before stage 6, with what it changes. -/

theorem State.endEarly_changes (s : State) (n status cause : Nat) (resp : List Byte) : Changes [.slots, .flow] s (s.endEarly n status cause resp) :=
  (State.endEarly_evolves rfl s n status cause resp (.refl s)).changes

/-! Fetch (07 R195, R199, R201). -/

/-- The transaction that an entry of the words l begins. -/
def State.entryTxn (s : State) (q : Nat) (l : List Word) : Txn := { qp := q, dws := l, role := (s.qp q).role, fetchNo := s.flow.fetchNo }

/-- The state with the next entry of pair q copied to place n of the transaction table as z. -/
def State.fetchEntry (s : State) (q n : Nat) (z : Txn) : State :=
  let s1 := (s.tally (0x4000 + q) 1 1 true).modQp q fun x => { x with sqHead := (x.sqHead + 1) % x.sqSize }
  { s1 with flow := { s1.flow with fetchNo := s1.flow.fetchNo + 1, lastFetch := q, txns := tset none s1.flow.txns n (some z) } }

theorem State.fetchEntry_txn (s : State) (q n : Nat) (z : Txn) : (s.fetchEntry q n z).txn n = some z := by
  simp only [State.fetchEntry, State.txn, tget_tset_same]

theorem State.fetchEntry_qp (s : State) (q n : Nat) (z : Txn) : ((s.fetchEntry q n z).qp q).sqHead = ((s.qp q).sqHead + 1) % (s.qp q).sqSize := by
  have same : (s.fetchEntry q n z).qp q =
      ((s.tally (0x4000 + q) 1 1 true).modQp q fun x => { x with sqHead := (x.sqHead + 1) % x.sqSize }).qp q := rfl
  rw [same, State.modQp_qp]
  rfl

theorem State.fetchEntry_evolves (s : State) (q n : Nat) (z : Txn) : Evolves [.slots, .flow, .counts] s (s.fetchEntry q n z) := by
  refine Evolves.raw (State.modQp_evolves rfl _ q (fun x => { x with sqHead := (x.sqHead + 1) % x.sqSize })
      (State.tally_evolves rfl s (0x4000 + q) 1 1 true (.refl s))) rfl rfl rfl
    ⟨rfl, fun p => ?_⟩ fun w => ?_
  · cases p
    case flow => exact .inl (by decide)
    all_goals exact .inr rfl
  · simp only [State.wf, Flow.wf, Bool.and_eq_true] at w ⊢
    simp only [w, twf_tset, and_self]

/-- What a fetch does whether or not the entry ends at once: the ring's head and the fetch order advance. -/
structure Fetched (q : Nat) (s t : State) : Prop where
  head : (t.qp q).sqHead = ((s.qp q).sqHead + 1) % (s.qp q).sqSize
  order : t.flow.fetchNo = s.flow.fetchNo + 1
  changes : Changes [.slots, .flow, .counts] s t

theorem State.fetchEntry_fetched (s : State) (q n : Nat) (z : Txn) : Fetched q s (s.fetchEntry q n z) :=
  ⟨s.fetchEntry_qp q n z, rfl, (s.fetchEntry_evolves q n z).changes⟩

theorem State.fetchEntry_ended (s : State) (q n status : Nat) (z : Txn) : Fetched q s ((s.fetchEntry q n z).endEarly n status) := by
  obtain ⟨l, hl⟩ := (s.fetchEntry q n z).endEarly_flow n status 0 []
  refine ⟨?_, ?_, (State.endEarly_evolves rfl _ n status 0 [] (s.fetchEntry_evolves q n z)).changes⟩
  · rw [State.qp, hl]; exact s.fetchEntry_qp q n z
  · rw [hl]; rfl

section
variable {s : State} {n : Fin 1024} {q : Fin 512}

theorem exec_sqFetch (s : State) (q : Fin 512) (r : FetchRead) : exec (.sqFetch q r) s = execSqFetch q r s := rfl

theorem execSqFetch_idle (h : s.nextFetch ≠ some q.val) (r : FetchRead) : exec (.sqFetch q r) s = .next s := by
  rw [exec_sqFetch]
  unfold execSqFetch
  rw [if_neg h]

section
variable (h : s.nextFetch = some q.val) (hn : s.freeTxn = some n.val)
include h hn

theorem execSqFetch_known {l : List Word} (hk : opcodeKnown (fld (l.getD 0 0#32) 7 0) = true) :
    exec (.sqFetch q (.entry l)) s = .next (s.fetchEntry q n (s.entryTxn q l)) := by
  rw [exec_sqFetch]
  unfold execSqFetch
  simp only [h, hn, if_true, Txn.opcode, Txn.dw, hk, State.fetchEntry, State.entryTxn, nx]

theorem execSqFetch_unknown {l : List Word} (hk : opcodeKnown (fld (l.getD 0 0#32) 7 0) = false) :
    exec (.sqFetch q (.entry l)) s = .next ((s.fetchEntry q n (s.entryTxn q l)).endEarly n 0x01) := by
  rw [exec_sqFetch]
  unfold execSqFetch
  simp only [h, hn, if_true, Txn.opcode, Txn.dw, hk, Bool.false_eq_true, if_false, State.fetchEntry, State.entryTxn, nx]

theorem execSqFetch_error (tag : Word) : exec (.sqFetch q (.error tag)) s =
    .next (((s.fetchEntry q n (s.entryTxn q [0#32, tag])).modTxn n
      fun x => { x with readErr := true }).endEarly n 0x0D) := by
  rw [exec_sqFetch]
  unfold execSqFetch
  simp only [h, hn, if_true, State.fetchEntry, State.entryTxn, nx]

end
end

/-- A fetch: each entry takes its place in the fetch order, and ends at once where it names no opcode or cannot be read. -/
theorem execSqFetch_spec (s : State) (n : Fin 1024) (q : Fin 512) (h : s.nextFetch = some q.val) (hn : s.freeTxn = some n.val) (l : List Word) :
    (opcodeKnown (fld (l.getD 0 0#32) 7 0) = true → Does (.sqFetch q (.entry l)) s fun t => Fetched q s t ∧ t.txn n = some (s.entryTxn q l)) ∧
    (opcodeKnown (fld (l.getD 0 0#32) 7 0) = false → Does (.sqFetch q (.entry l)) s fun t => Fetched q s t ∧ t.ended n 0x01) ∧
    (∀ tag, Does (.sqFetch q (.error tag)) s fun t => Fetched q s t ∧ t.ended n 0x0D ∧ ∃ z, t.txn n = some z ∧ z.tag = tag) := by
  refine ⟨fun hk => ⟨_, execSqFetch_known h hn hk, s.fetchEntry_fetched q n _, s.fetchEntry_txn q n _⟩,
    fun hk => ⟨_, execSqFetch_unknown h hn hk, s.fetchEntry_ended q n 0x01 _, State.endEarly_ended _ n 0x01 0 [] _ (s.fetchEntry_txn q n _)⟩,
    fun tag => ?_⟩
  have failed : ((s.fetchEntry q n (s.entryTxn q [0#32, tag])).modTxn n fun x => { x with readErr := true }).txn n =
      some { s.entryTxn q [0#32, tag] with readErr := true } := by
    rw [State.modTxn_txn, s.fetchEntry_txn]; rfl
  obtain ⟨k, hk⟩ := ((s.fetchEntry q n (s.entryTxn q [0#32, tag])).modTxn n fun x => { x with readErr := true }).endEarly_flow n 0x0D 0 []
  refine ⟨_, execSqFetch_error h hn tag, ⟨?_, ?_, ?_⟩, State.endEarly_ended _ n 0x0D 0 [] _ failed, _,
    (State.endEarly_txn _ n n 0x0D 0 [] _ failed).trans (State.setTxn_txn _ _ _), rfl⟩
  · rw [State.qp, hk]; exact s.fetchEntry_qp q n (s.entryTxn q [0#32, tag])
  · rw [hk]; rfl
  · exact (State.endEarly_evolves rfl _ n 0x0D 0 [] (State.modTxn_evolves rfl _ n _ (s.fetchEntry_evolves q n _))).changes

/-! Stage 3 (07 R199, R203). -/

section
variable {s : State} {n : Fin 1024} {x : Txn} (hx : s.txn n = some x)
include hx

section
variable (hc : x.stage = .check)
include hc

theorem execCardCmd_fails (ho : x.opcode = 1) (h : s.cardCheck x ≠ 0) : exec (.cardCmd n) s = .next (s.endEarly n (s.cardCheck x)) := by
  show execCardCmd n s = _
  simp [execCardCmd, hx, hc, ho, h]

theorem execCardCmd_passes (ho : x.opcode = 1) (h : s.cardCheck x = 0) {i : Nat} (hi : s.lookup (x.dw 2) = some i) :
    exec (.cardCmd n) s = .next (s.modTxn n fun x => { x with
      stage := .gather, sess := i, target := if (s.session i).onSet then .set (s.session i).target else .slot (s.session i).target
      sm := decide ((s.session i).profile = 1), smKey := (s.session i).key }) := by
  show execCardCmd n s = _
  simp [execCardCmd, hx, hc, ho, h, hi]

theorem execOpenSession_fails (ho : x.opcode = 2) (h : s.openCheck x ≠ 0) : exec (.openSession n) s = .next (s.endEarly n (s.openCheck x)) := by
  show execOpenSession n s = _
  simp [execOpenSession, hx, hc, ho, h]

/-- A session opens on a slot in the lowest free context, and its handle is the response. -/
theorem execOpenSession_opens (ho : x.opcode = 2) (h : s.openCheck x = 0) (hs : bitOf (x.dw 3) 8 = false) {i : Nat} (hi : s.freeSession = some i) :
    exec (.openSession n) s = .next ((s.setSession i
      { isOpen := true, onSet := false, target := fld (x.dw 3) 5 0, channel := fld (x.dw 3) 20 16, profile := fld (x.dw 3) 27 24,
        key := x.dw 13, ssc := cat64 (x.dw 15) (x.dw 14) }).endEarly n 0 0 (leBytes ((s.gen i).toNat * 2048 + i) 4)) := by
  show execOpenSession n s = _
  simp [execOpenSession, hx, hc, ho, h, hs, hi]

theorem execCloseSession_fails (ho : x.opcode = 3) (h : s.plainCheck x true ≠ 0) :
    exec (.closeSession n) s = .next (s.endEarly n (s.plainCheck x true)) := by
  show execCloseSession n s = _
  simp [execCloseSession, hx, hc, ho, h]

theorem execCloseSession_closes (ho : x.opcode = 3) (h : s.plainCheck x true = 0) {i : Nat} (hi : s.lookup (x.dw 2) = some i) :
    exec (.closeSession n) s = .next ((s.closeSession i).endEarly n 0).actPendAll := by
  show execCloseSession n s = _
  simp [execCloseSession, hx, hc, ho, h, hi]

theorem execNop_ends (ho : x.opcode = 4) : exec (.nop n) s = .next (s.endEarly n (s.plainCheck x false)) := by
  show execNop n s = _
  simp [execNop, hx, hc, ho]

end

/-- A transaction that ends before stage 6 in this state: what each failed check does. -/
theorem State.endEarly_does {c : Instr} {status : Nat} (e : exec c s = .next (s.endEarly n status)) :
    Does c s fun t => t.ended n status ∧ Changes [.slots, .flow] s t :=
  ⟨_, e, State.endEarly_ended s n status 0 [] x hx, s.endEarly_changes n status 0 []⟩

end

theorem State.setFlow_changes (s : State) (f : Flow) : Changes [.flow] s { s with flow := f } :=
  ⟨rfl, fun p => by
    cases p
    case flow => exact .inl (by decide)
    all_goals exact .inr rfl⟩

theorem length_leBytes (n k : Nat) : (leBytes n k).length = k := by
  induction k generalizing n with
  | zero => rfl
  | succ k ih => rw [leBytes, List.length_cons, ih]

theorem State.endEarly_resp {s : State} {n : Nat} {x : Txn} (hx : s.txn n = some x) (status cause : Nat) (resp : List Byte) :
    ∃ z o, (s.endEarly n status cause resp).txn n = some z ∧ z.outDone = some o ∧ o.resp = resp :=
  ⟨_, _, (State.endEarly_txn s n n status cause resp x hx).trans (State.setTxn_txn _ _ _), rfl, rfl⟩

/-- The handle that OPEN_SESSION answers names the session it opens. -/
theorem State.lookup_opened {s : State} {i n : Nat} {d : Session} (hi : s.freeSession = some i) (hd : d.isOpen = true) :
    ((s.setSession i d).endEarly n 0 0 (leBytes ((s.gen i).toNat * 2048 + i) 4)).lookup
      (BitVec.ofNat 32 (ofLe (leBytes ((s.gen i).toNat * 2048 + i) 4))) = some i := by
  obtain ⟨lo, hi⟩ := State.freeSession_range hi
  have small : (s.gen i).toNat * 2048 + i < 256 ^ 4 := by have := (s.gen i).isLt; omega
  obtain ⟨sess, gen⟩ := (s.setSession i d).endEarly_sess n 0 0 (leBytes ((s.gen i).toNat * 2048 + i) 4) i
  rw [State.setSession_session] at sess
  rw [State.setSession_gen] at gen
  have named := State.lookup_handle lo hi (by rw [sess, hd])
  rw [gen] at named
  rw [ofLe_leBytes, Nat.mod_eq_of_lt small]
  exact named

/-! The close of a session by the host (06 R184). -/

/-- A transaction that is not of the session, or is neither at stage 4 nor waiting at stage 5, stays as it is. -/
theorem State.closeSession_txn {s : State} (h : s.wf = true) {i m : Nat} {z : Txn} (hz : s.txn m = some z)
    (hs : ¬(z.sess = i ∧ (z.stage = .gather ∨ z.stage = .wait))) : (s.closeSession i).txn m = some z := by
  have emptied : ((s.setSession i {}).setGen i (s.gen i + 1)).wf = true :=
    (State.setGen_evolves (ps := [.flow, .mram]) rfl _ i _ (State.setSession_evolves rfl s i {} (.refl s))).wf h
  refine (State.endAll_txn_ne _ _ 0x0F 0 m fun hm => hs ?_).trans hz
  obtain ⟨⟨k, y⟩, he, rfl⟩ := List.mem_map.mp hm
  obtain ⟨hin, hp⟩ := List.mem_filter.mp he
  have : s.txn k = some y := (State.mem_txnList emptied).mp hin
  obtain rfl : y = z := by simpa [this] using hz
  simpa using hp

theorem State.closeSession_ended {s : State} (h : s.wf = true) {i m : Nat} {z : Txn} (hz : s.txn m = some z) (hs : z.sess = i)
    (hg : z.stage = .gather ∨ z.stage = .wait) : (s.closeSession i).ended m 0x0F := by
  have emptied : ((s.setSession i {}).setGen i (s.gen i + 1)).wf = true :=
    (State.setGen_evolves (ps := [.flow, .mram]) rfl _ i _ (State.setSession_evolves rfl s i {} (.refl s))).wf h
  have picked : (m, z) ∈ ((s.setSession i {}).setGen i (s.gen i + 1)).txnList := (State.mem_txnList emptied).mpr hz
  refine State.endAll_ended _ _ 0x0F 0 m ?_ z hz
  exact List.mem_map.mpr ⟨(m, z), List.mem_filter.mpr ⟨picked, by simpa [hs] using hg⟩, rfl⟩

/-- CLOSE_SESSION ends its session with every transaction of it before stage 6, and leaves those past stage 5 in their stage. -/
theorem State.closeSession_spec {s : State} (h : s.wf = true) {n i : Nat} {x : Txn} (hx : s.txn n = some x) (hc : x.stage = .check)
    (hi : s.lookup (x.dw 2) = some i) :
    let t := ((s.closeSession i).endEarly n 0).actPendAll
    t.ended n 0 ∧ (t.session i).isOpen = false ∧ t.gen i = s.gen i + 1 ∧
      (∀ m z, s.txn m = some z → z.sess = i → z.stage = .gather ∨ z.stage = .wait → t.ended m 0x0F) ∧
      (∀ m z, s.txn m = some z → z.stage = .intent ∨ z.stage = .exch → ∃ y, t.txn m = some y ∧ y.stage = z.stage) := by
  have kept : (s.closeSession i).txn n = some x := State.closeSession_txn h hx (by simp [hc])
  have closed : Closing s (s.closeSession i) := (Closing.refl h).closeSession i (State.lookup_open hi)
  have answered : Closing s ((s.closeSession i).endEarly n 0) := closed.endEarly n 0 0 fun y hy => by
    obtain rfl : x = y := by simpa [kept] using hy
    simp [Txn.early, hc]
  have settled : Settles ((s.closeSession i).endEarly n 0) ((s.closeSession i).endEarly n 0).actPendAll := (Settles.refl answered.wf).actPendAll
  have acted : Closing ((s.closeSession i).endEarly n 0) ((s.closeSession i).endEarly n 0).actPendAll := (Closing.refl answered.wf).actPendAll
  obtain ⟨sess, gen⟩ := (s.closeSession i).endEarly_sess n 0 0 [] i
  rw [(s.closeSession_sess i i).1, if_pos rfl] at sess
  rw [(s.closeSession_sess i i).2, if_pos rfl] at gen
  obtain ⟨sess', gen'⟩ := (acted.sess i).resolve_right fun ⟨isOpen, _⟩ => by simp [sess] at isOpen
  refine ⟨settled.ended (State.endEarly_ended _ n 0 0 [] x kept), by rw [sess', sess], gen'.trans gen, fun m z hz hs hg => settled.ended ?_,
    (answered.trans acted).running⟩
  refine ((Settles.refl closed.wf).endEarly n 0 0 fun y hy => ?_).ended (State.closeSession_ended h hz hs hg)
  obtain rfl : x = y := by simpa [kept] using hy
  simp [hc]

/-! Stage 4 (07 R202, R203). -/

/-- The command bytes that stage 4 has read. -/
def Txn.gathered (x : Txn) (r : GatherRead) : List Byte := if x.cmdLen = 0 then [] else padTo x.cmdLen (r.cmd.getD [])

theorem Txn.gathered_eq {x : Txn} {r : GatherRead} (h : x.gatherFail r = 0) :
    (if x.cmdLen = 0 then some [] else r.cmd.map (padTo x.cmdLen)) = some (x.gathered r) := by
  unfold Txn.gathered
  split
  · rfl
  · next hl =>
    obtain ⟨l, hr⟩ := Txn.cmd_of_gathered h hl
    rw [hr]; rfl

section
variable {s : State} {n : Fin 1024} {x : Txn} {r : GatherRead} (hx : s.txn n = some x)
include hx

theorem execCmdGather_waits (h : (!s.txnList.any fun e => e.2.stage = .gather && e.2.fetchNo < x.fetchNo) = false ∨ 1024 < s.chunksUsed + s.chunksFor x) :
    exec (.cmdGather n r) s = .next s := by
  show execCmdGather n r s = _
  unfold execCmdGather
  simp only [hx]
  refine if_pos ?_
  rcases h with h | h <;> simp [h]

section
variable (hg : x.stage = .gather) (hf : (!s.txnList.any fun e => e.2.stage = .gather && e.2.fetchNo < x.fetchNo) = true)
  (hu : s.chunksUsed + s.chunksFor x ≤ 1024) (ho : x.opcode = 1)
include hg hf hu ho

/-- The transaction goes on to stage 5 where all is read and no check fails. -/
theorem execCmdGather_arrives (h : x.gatherFail r = 0) (hb : s.byteCheck x (some (x.gathered r)) = 0) : exec (.cmdGather n r) s =
    .next (({ s with flow := { s.flow with arriveNo := s.flow.arriveNo + 1 } } : State).modTxn n fun z => { z with
      stage := .wait, cmd := x.gathered r, respSegs := r.respList.getD [], chunks := s.chunksFor x, arriveNo := s.flow.arriveNo }) := by
  show execCmdGather n r s = _
  simp [execCmdGather, hx, hg, hf, Nat.not_lt.mpr hu, ho, h, Txn.gathered_eq h, hb]

theorem execCmdGather_refused (h : x.gatherFail r = 0) (hb : s.byteCheck x (some (x.gathered r)) ≠ 0) : exec (.cmdGather n r) s =
    .next ((s.modTxn n fun z => { z with chunks := s.chunksFor x }).endEarly n (s.byteCheck x (some (x.gathered r)))) := by
  show execCmdGather n r s = _
  simp [execCmdGather, hx, hg, hf, Nat.not_lt.mpr hu, ho, h, Txn.gathered_eq h, hb]

theorem execCmdGather_fails (h : x.gatherFail r ≠ 0) (hb : s.byteCheck x none = 0) : exec (.cmdGather n r) s =
    .next ((s.modTxn n fun z => { z with chunks := s.chunksFor x }).endEarly n (x.gatherFail r)) := by
  show execCmdGather n r s = _
  simp [execCmdGather, hx, hg, hf, Nat.not_lt.mpr hu, ho, h, hb]

end

/-- A transaction that ends at stage 4 with its chunks reserved. -/
theorem State.endGather_does {c : Instr} {status k : Nat}
    (e : exec c s = .next ((s.modTxn n fun z => { z with chunks := k }).endEarly n status)) :
    Does c s fun t => t.ended n status ∧ Changes [.slots, .flow] s t := by
  refine ⟨_, e, State.endEarly_ended _ n status 0 [] { x with chunks := k } ?_, ?_⟩
  · rw [State.modTxn_txn, hx]; rfl
  · exact (State.endEarly_evolves rfl _ n status 0 [] (State.modTxn_evolves rfl s n _ (.refl s))).changes

end

/-- Settles O35. Each command's outcome is an equation above; what CLOSE_SESSION leaves of the transactions past stage 5, where the slot commands it
frees act, is the relation `Closing`. -/
theorem entriesFetchedAndChecked : Obligations.EntriesFetchedAndChecked := by
  intro s n q hwf
  refine ⟨execSqFetch_idle, ?fetch, fun x hx hc => ⟨fun ho h => State.endEarly_does hx (execCardCmd_fails hx hc ho h), ?card,
    fun ho h => State.endEarly_does hx (execOpenSession_fails hx hc ho h), ?opens, ?closes,
    fun ho h => State.endEarly_does hx (execCloseSession_fails hx hc ho h), fun ho => State.endEarly_does hx (execNop_ends hx hc ho)⟩,
    fun x r hx hg => ⟨execCmdGather_waits hx, fun hf hu ho => ⟨?arrives,
      fun h hb => State.endGather_does hx (execCmdGather_refused hx hg hf hu ho h hb),
      fun h hb => State.endGather_does hx (execCmdGather_fails hx hg hf hu ho h hb)⟩⟩⟩
  case fetch =>
    intro hq hn l
    obtain ⟨known, unknown, failed⟩ := execSqFetch_spec s n q hq hn l
    refine ⟨fun hk => ?_, fun hk => ?_, fun tag => ?_⟩
    · obtain ⟨t, e, ⟨head, order, changes⟩, copied⟩ := known hk
      exact ⟨t, e, ⟨head, order, changes⟩, copied⟩
    · obtain ⟨t, e, ⟨head, order, changes⟩, ended⟩ := unknown hk
      exact ⟨t, e, ⟨head, order, changes⟩, ended⟩
    · obtain ⟨t, e, ⟨head, order, changes⟩, ended⟩ := failed tag
      exact ⟨t, e, ⟨head, order, changes⟩, ended⟩
  case card =>
    intro ho h
    obtain ⟨role, least, most, i, hi⟩ := State.cardCheck_zero h
    refine ⟨_, execCardCmd_passes hx hc ho h hi, i, hi, ?_, role, least, most, (State.modTxn_evolves rfl s n _ (.refl s)).changes⟩
    rw [State.modTxn_txn, hx]; rfl
  case opens =>
    intro ho h hs
    obtain ⟨⟨i, hi⟩, ready⟩ := State.openCheck_zero h
    obtain ⟨z, o, hz, done, resp⟩ := State.endEarly_resp (s := s.setSession i _) hx 0 0 (leBytes ((s.gen i).toNat * 2048 + i) 4)
    refine ⟨_, execOpenSession_opens hx hc ho h hs hi, State.endEarly_ended _ n 0 0 _ x hx, i, z, o, hi, hz, done, ?_, ?_, ?_,
      State.inService_of_ready ready hs, (State.endEarly_evolves rfl _ n 0 0 _ (State.setSession_evolves rfl s i _ (.refl s))).changes⟩
    · rw [resp, length_leBytes]
    · rw [resp]; exact State.lookup_opened hi rfl
    · rw [(State.endEarly_sess _ n 0 0 _ i).1, State.setSession_session]
  case closes =>
    intro ho h
    obtain ⟨i, hi⟩ := State.plainCheck_zero h
    obtain ⟨ended, shut, gen, early, late⟩ := State.closeSession_spec hwf hx hc hi
    exact ⟨_, execCloseSession_closes hx hc ho h hi, ended, i, hi, shut, gen, early, late, (State.actPendAll_evolves rfl _
      (State.endEarly_evolves rfl _ n 0 0 [] (State.closeSession_evolves rfl s i (.refl s)))).changes⟩
  case arrives =>
    intro h hb
    refine ⟨_, execCmdGather_arrives hx hg hf hu ho h hb, ?_, rfl, ?_⟩
    · rw [State.modTxn_txn]
      exact congrArg (Option.map _) hx
    · exact State.setFlow_changes s _

end Sys2Proof.Machine
end

section
/-! PROOFS of the protocols family: secure messaging, its wrap, its unwrap and a MAC that fails (06 R186, R188, 16 R431). -/

namespace Sys2Proof.Machine

/-! The wrapped command. -/

/-- Head, length, data, eight bytes of MAC and Le. -/
theorem smWrap_shape (enc mac : BitVec 256) (ssc : BitVec 64) (cmd : List Byte) :
    (smWrap enc mac ssc cmd).take 4 = [claSm (byteAt cmd 0), byteAt cmd 1, byteAt cmd 2, byteAt cmd 3] ∧
    (smWrap enc mac ssc cmd).length = (apduData cmd).length + 14 := by
  unfold smWrap
  refine ⟨rfl, ?_⟩
  simp only [List.length_append, List.length_cons, List.length_nil, List.length_take, aesCtr_length, aesCmac_length]
  omega

/-! The send sequence counter of a session. -/

section
variable (s : State) (x : Txn) (v : BitVec 64)

theorem State.putSsc_kept : (s.putSsc x v).flow.txns = s.flow.txns ∧ (s.putSsc x v).slots = s.slots ∧ (s.putSsc x v).mram = s.mram := by
  unfold State.putSsc
  split <;> exact ⟨rfl, rfl, rfl⟩

theorem State.putSsc_txn (m : Nat) : (s.putSsc x v).txn m = s.txn m := by
  obtain ⟨txns, -, -⟩ := s.putSsc_kept x v
  simp only [State.txn, txns]

theorem State.putSsc_slot (i : Nat) : (s.putSsc x v).slot i = s.slot i := by
  obtain ⟨-, slots, -⟩ := s.putSsc_kept x v
  simp only [State.slot, slots]

theorem State.putSsc_session {j : Nat} (h : s.lookup (x.dw 2) = some j) : (s.putSsc x v).session j = { s.session j with ssc := v } := by
  simp only [State.putSsc, h, State.setSession_session]

theorem State.putSsc_gen (j : Nat) : (s.putSsc x v).gen j = s.gen j := by
  obtain ⟨-, -, mram⟩ := s.putSsc_kept x v
  simp only [State.gen, mram]

theorem State.putSsc_lookup (w : Word) : (s.putSsc x v).lookup w = s.lookup w := by
  have isOpen (j : Nat) : ((s.putSsc x v).session j).isOpen = (s.session j).isOpen := by
    unfold State.putSsc
    split
    · next k _ =>
      by_cases hj : j = k
      · subst hj; rw [State.setSession_session]
      · rw [State.setSession_session_ne _ _ _ _ hj]
    · rfl
  simp only [State.lookup, isOpen, State.putSsc_gen]

end

theorem OtherSlots.trans {i : Nat} {s t u : State} (h : OtherSlots i s t) (k : OtherSlots i t u) : OtherSlots i s u :=
  fun j hj => (k j hj).trans (h j hj)

/-! A decided outcome. -/

theorem State.outcomeIs.imp {t : State} {n : Nat} {P Q : Outcome → Prop} (h : t.outcomeIs n P) (k : ∀ o, P o → Q o) : t.outcomeIs n Q := by
  obtain ⟨hn, z, o, hz, hs, ho, hP⟩ := h
  exact ⟨hn, z, o, hz, hs, ho, k o hP⟩

/-- Sessions that close leave a decided outcome as it is. -/
theorem Closing.outcomeIs {s t : State} {n : Nat} {P : Outcome → Prop} (h : Closing s t) (k : s.outcomeIs n P) : t.outcomeIs n P := by
  obtain ⟨hn, z, o, hz, hs, rest⟩ := k
  exact ⟨by rw [h.outq]; exact hn, z, o, h.decided n z hz hs, hs, rest⟩

theorem State.requestOutcome_is {s : State} {n : Nat} {x : Txn} (hx : s.txn n = some x) (o : Outcome) :
    (s.requestOutcome n o).outcomeIs n (· = { o with tide := s.ltide, sw := x.swOf o }) := by
  refine ⟨List.mem_append_right _ (List.mem_singleton_self n),
    { x with stage := .outcome, outDone := some { o with tide := s.ltide, sw := x.swOf o } }, _, ?_, rfl, rfl, rfl⟩
  exact (s.modTxn_txn n _).trans (by rw [hx]; rfl)

/-! The end of an exchange without a warm reset. -/

theorem Evolves.ltide_eq {l : List Part} {s t : State} (h : Evolves l s t) (hl : Part.tide ∉ l) : t.ltide = s.ltide := by
  have : t.tide = s.tide := h.changes.at hl
  simp only [State.ltide, this]

theorem State.xchgHwEnd_holder (s : State) (i : Nat) : ((s.xchgHwEnd i).slot i).holder = (s.slot i).holder := by
  unfold State.xchgHwEnd
  split
  · rw [(State.line_evolves (ps := [.cores]) rfl _ _ (.refl _)).slot_eq (by decide), State.modSlot_slot]
  · rfl

theorem State.actPend_ending (s : State) (i : Nat) : ((s.actPend i).slot i).ending = (s.slot i).ending := by
  have started : ((s.warmStart i).slot i).ending = (s.slot i).ending := by
    unfold State.warmStart
    dsimp only
    split
    · rw [State.modSlot_slot, State.modSlot_slot]
      dsimp only
      split <;> rfl
    · rw [(State.warmReset_halted _ i).2, State.modSlot_slot]
      rfl
  unfold State.actPend
  dsimp only
  split
  · split
    · exact (s.beginDeact_halted i _).2
    · split
      · exact started
      · rfl
  · rfl

/-- The slot as an exchange that ends with a code leaves it. -/
def Slot.exchEnd (x : Slot) (code : Nat) : Slot :=
  { x with
    st := if x.st = .busy then .ready else x.st
    ch := { x.ch with txq := [], rawTx := [], txChk := none, txAgain := none, rxBuf := [] }
    pr := { x.pr with lastEnd := code, mode := .idle, gate := false, smWait := false, sent := 0, firstTx := none,
                      t0 := {}, t1 := { ns := x.pr.t1.ns, nr := x.pr.t1.nr, attempts := x.pr.t1.attempts, rsync := x.pr.t1.rsync } } }

/-- The state in which the engine of slot i has stopped and its waits have ended. -/
def State.stopExch (s : State) (i code : Nat) : State := (((s.xchgHwEnd i).modSlot i (·.exchEnd code)).endWait i 0).endWait i 1

theorem State.endExchange_eq (s : State) (i code : Nat) (m : MemberResp) :
    s.endExchange i code m false = (((s.stopExch i code).exchResult i m).setsReady i).actPend i := by
  unfold State.endExchange State.stopExch Slot.exchEnd
  dsimp only
  rw [if_neg Bool.false_ne_true]

theorem State.stopExch_evolves (s : State) (i code : Nat) : Evolves [.slots, .timers, .cores] s (s.stopExch i code) :=
  State.endWait_evolves rfl _ _ _ (State.endWait_evolves rfl _ _ _ (State.modSlot_evolves rfl _ _ _ (State.xchgHwEnd_evolves rfl _ _ (.refl s))))

theorem State.endExchange_quiet (s : State) (i code : Nat) (m : MemberResp) : Evolves slotParts s (s.endExchange i code m false) := by
  rw [State.endExchange_eq]
  exact State.actPend_evolves rfl _ i (State.setsReady_evolves rfl _ i (State.exchResult_evolves rfl _ i m ((s.stopExch_evolves i code).mono rfl)))

theorem State.stopExch_slot (s : State) (i code : Nat) :
    ((s.stopExch i code).slot i).holder = (s.slot i).holder ∧ ((s.stopExch i code).slot i).pr.lastEnd = code := by
  have waits : (s.stopExch i code).slot i = ((s.xchgHwEnd i).modSlot i (·.exchEnd code)).slot i := rfl
  rw [waits, State.modSlot_slot]
  exact ⟨s.xchgHwEnd_holder i, rfl⟩

/-- The outcome of a single-slot transaction whose exchange ended with m. -/
def MemberResp.outcome (m : MemberResp) : Outcome :=
  { cls := m.cls, status := m.status, cause := m.cause, respLen := m.resp.length, sentLen := m.sent, resp := m.resp }

/-- At the end of its exchange a single-slot transaction has its outcome, and leaves its slot. -/
theorem State.exchResult_slot {s : State} {n i : Nat} {x : Txn} (hx : s.txn n = some x) (ht : x.target = .slot i) (he : x.stage = .exch)
    (hh : (s.slot i).holder = some n) (m : MemberResp) : s.exchResult i m =
      ((s.tallyExch i m.cls).requestOutcome n m.outcome).modSlot i fun y => { y with holder := none, lastBusy := some s.now } := by
  simp only [State.exchResult, hh, hx, he, ht]
  rfl

/-- What an exchange that ends without a warm reset leaves of its transaction, its slot and the sessions. -/
structure ExchEnded (s t : State) (n i code : Nat) (m : MemberResp) : Prop where
  wf : t.wf = true
  outcome : t.outcomeIs n fun o => o.cls = m.cls ∧ o.status = m.status ∧ o.resp = m.resp ∧ o.respLen = m.resp.length ∧ o.tide = s.ltide
  holder : (t.slot i).holder = none
  lastEnd : (t.slot i).pr.lastEnd = code
  sess : ∀ j, s.closesAtMost t j

theorem State.endExchange_spec {s : State} {n i : Nat} {x : Txn} (hwf : s.wf = true) (hx : s.txn n = some x) (ht : x.target = .slot i)
    (he : x.stage = .exch) (hh : (s.slot i).holder = some n) (code : Nat) (m : MemberResp) : ExchEnded s (s.endExchange i code m false) n i code m := by
  obtain ⟨held, last⟩ := s.stopExch_slot i code
  have stopped := s.stopExch_evolves i code
  have tallied : Evolves [.slots, .timers, .cores, .counts] s ((s.stopExch i code).tallyExch i m.cls) :=
    State.tallyExch_evolves rfl _ _ _ (stopped.mono rfl)
  have hx' : ((s.stopExch i code).tallyExch i m.cls).txn n = some x := (tallied.txn_eq (by decide) n).trans hx
  have result := State.exchResult_slot ((stopped.txn_eq (by decide) n).trans hx) ht he (held.trans hh) m
  have evolved : Evolves [.slots, .timers, .cores, .counts, .flow] s ((s.stopExch i code).exchResult i m) := by
    rw [result]
    exact State.modSlot_evolves rfl _ _ _ (State.requestOutcome_evolves rfl _ _ _ (tallied.mono rfl))
  have outcome : ((s.stopExch i code).exchResult i m).outcomeIs n (· = { m.outcome with tide := s.ltide, sw := x.swOf m.outcome }) := by
    rw [result, ← tallied.ltide_eq (by decide)]
    exact State.requestOutcome_is hx' m.outcome
  have free : (((s.stopExch i code).exchResult i m).slot i).holder = none := by rw [result, State.modSlot_slot]
  have sess (j : Nat) : ((s.stopExch i code).exchResult i m).session j = s.session j := by
    rw [result]
    exact congrArg (fun f => tget {} f.sessions j) (tallied.flow_eq)
  have mram : ((s.stopExch i code).exchResult i m).mram = s.mram := evolved.changes.at (by decide : Part.mram ∉ _)
  have gen (j : Nat) : ((s.stopExch i code).exchResult i m).gen j = s.gen j := by simp only [State.gen, mram]
  have ending := ((s.stopExch i code).exchResult_stand i m).ending i
  rw [State.endExchange_eq]
  generalize (s.stopExch i code).exchResult i m = u at *
  have closing : Closing u ((u.setsReady i).actPend i) := ((Closing.refl (evolved.wf hwf)).setsReady i).actPend i
  refine ⟨closing.wf, (closing.outcomeIs outcome).imp ?_, closing.free i free, ?_, fun j => ?_⟩
  · rintro o rfl
    exact ⟨rfl, rfl, rfl, rfl, rfl⟩
  · have kept := (State.actPend_ending _ i).trans (((u.setsReady_stand i).ending i).trans ending)
    exact (congrArg Prod.fst kept).trans last
  · have := closing.sess j
    rwa [State.closesAtMost, sess, gen] at this

/-! A MAC that fails. -/

/-- The outcome of a transaction whose response failed its MAC, decided where it no longer holds its slot. -/
def Txn.smDoubt (x : Txn) : Outcome := { cls := .inDoubt, status := 0x8C, respLen := x.wrapped.length, sentLen := x.smSent, resp := x.wrapped }

/-- The result of an exchange whose response failed its MAC. -/
def Txn.smFailed (x : Txn) (sent : Nat) : MemberResp := { done := false, resp := x.wrapped, status := 0x8C, cause := 0, sent := sent, cls := .inDoubt }

/-- The state with the session that a handle names closed, where it names one. -/
def State.closeNamed (s : State) (w : Word) : State :=
  match s.lookup w with
  | some k => s.closeSession k
  | none => s

/-- The state with the failure counted and the outcome decided, the session not yet closed. -/
def State.smDecide (s : State) (n i : Nat) (x : Txn) (held : Bool) : State :=
  if held then (s.bump i 33).endExchange i 12 (x.smFailed (s.slot i).pr.sent) false else (s.bump i 33).requestOutcome n x.smDoubt

theorem State.smFail_eq (s : State) (n i : Nat) (x : Txn) (held : Bool) : s.smFail n i x held = (s.smDecide n i x held).closeNamed (x.dw 2) := rfl

theorem Closing.closeNamed {s : State} (h : s.wf = true) (w : Word) : Closing s (s.closeNamed w) := by
  unfold State.closeNamed
  split
  · next k hk => exact (Closing.refl h).closeSession k (State.lookup_open hk)
  · exact .refl h

theorem State.closeNamed_count (s : State) (w : Word) (i c : Nat) : (s.closeNamed w).count i c = s.count i c := by
  unfold State.closeNamed
  split
  · exact (State.closeSession_evolves (ps := [.slots, .flow, .mram]) rfl s _ (.refl s)).count_eq (by decide) i c
  · rfl

/-- A session that a handle named is closed after, whether it closed before or closes now. -/
theorem State.closeNamed_closed {s t : State} {w : Word} {j : Nat} (h : s.lookup w = some j) (k : s.closesAtMost t j) :
    ((t.closeNamed w).session j).isOpen = false ∧ (t.closeNamed w).gen j = s.gen j + 1 := by
  obtain ⟨index, zero, least, isOpen, gen⟩ := State.lookup_eq_some.mp h
  rcases k with ⟨sess, gens⟩ | ⟨-, shut, gens⟩
  · have named : t.lookup w = some j := State.lookup_eq_some.mpr ⟨index, zero, least, by rw [sess, isOpen], by rw [gens, gen]⟩
    obtain ⟨closed, next⟩ := t.closeSession_sess j j
    simp only [State.closeNamed, named]
    exact ⟨by rw [closed, if_pos rfl], by rw [next, if_pos rfl, gens]⟩
  · have unnamed : t.lookup w = none := by
      refine Option.eq_none_iff_forall_ne_some.mpr fun k hk => ?_
      obtain ⟨rfl, -, -, still, -⟩ := State.lookup_eq_some.mp hk
      rw [index, shut] at still
      exact Bool.false_ne_true still
    simp only [State.closeNamed, unnamed]
    exact ⟨shut, gens⟩

/-- Failed (06 R186): the outcome is IN_DOUBT with SM_MAC, the received response its evidence. -/
def EndsSmMac (s : State) (x : Txn) (o : Outcome) : Prop := o.cls = .inDoubt ∧ o.status = 0x8C ∧ o.resp = x.wrapped ∧ o.tide = s.ltide

/-- From s to t the failure of transaction n on slot i is decided and counted; its session may have closed. -/
structure SmDecided (s t : State) (n i : Nat) (x : Txn) : Prop where
  wf : t.wf = true
  outcome : t.outcomeIs n (EndsSmMac s x)
  sess : ∀ j, s.closesAtMost t j
  count : t.count i 33 = satInc (s.count i 33)

section
variable {s : State} {n i : Nat} {x : Txn} (hwf : s.wf = true) (hx : s.txn n = some x)
include hwf hx

theorem State.smDecide_held (ht : x.target = .slot i) (he : x.stage = .exch) (hh : (s.slot i).holder = some n) :
    SmDecided s (s.smDecide n i x true) n i x := by
  have counted : Evolves [.telemetry] s (s.bump i 33) := State.bump_evolves rfl s i 33 (.refl s)
  have ended := State.endExchange_spec (counted.wf hwf) (n := n) (i := i) (x := x) hx ht he hh 12 (x.smFailed (s.slot i).pr.sent)
  rw [State.smDecide, if_pos rfl]
  refine ⟨ended.wf, ended.outcome.imp ?_, ended.sess, ?_⟩
  · rintro o ⟨cls, status, resp, -, tide⟩
    exact ⟨cls, status, resp, tide⟩
  · rw [(State.endExchange_quiet _ i 12 _).count_eq (by decide), State.bump_count]

theorem State.smDecide_left : SmDecided s (s.smDecide n i x false) n i x := by
  have counted : Evolves [.telemetry, .flow] s (s.bump i 33) := State.bump_evolves rfl s i 33 (.refl s)
  have decided : Evolves [.telemetry, .flow] s ((s.bump i 33).requestOutcome n x.smDoubt) := State.requestOutcome_evolves rfl _ n _ counted
  rw [State.smDecide, if_neg Bool.false_ne_true]
  refine ⟨decided.wf hwf, (State.requestOutcome_is (s := s.bump i 33) hx x.smDoubt).imp ?_, fun j => .inl ⟨rfl, rfl⟩, ?_⟩
  · rintro o rfl
    exact ⟨rfl, rfl, rfl, rfl⟩
  · rw [(State.requestOutcome_evolves (ps := [.flow]) rfl (s.bump i 33) n x.smDoubt (.refl _)).count_eq (by decide), State.bump_count]

/-- A secure-messaging failure ends the transaction IN_DOUBT with SM_MAC, closes its session and is counted. -/
theorem State.smFail_spec (ht : x.target = .slot i) (he : x.stage = .exch) {held : Bool} (hh : held = true → (s.slot i).holder = some n) :
    (s.smFail n i x held).outcomeIs n (EndsSmMac s x) ∧
    (∀ j, s.lookup (x.dw 2) = some j → ((s.smFail n i x held).session j).isOpen = false ∧ (s.smFail n i x held).gen j = s.gen j + 1) ∧
    (s.smFail n i x held).count i 33 = satInc (s.count i 33) := by
  have decided : SmDecided s (s.smDecide n i x held) n i x := by
    cases held with
    | true => exact State.smDecide_held hwf hx ht he (hh rfl)
    | false => exact State.smDecide_left hwf hx
  rw [State.smFail_eq]
  exact ⟨(Closing.closeNamed decided.wf _).outcomeIs decided.outcome, fun j hj => State.closeNamed_closed hj (decided.sess j),
    by rw [State.closeNamed_count, decided.count]⟩

end

/-! The commands. -/

/-- The state in which the command of transaction n, on slot i, has been wrapped as w. -/
def State.wrapped (s : State) (n i : Nat) (x : Txn) (w : List Byte) : State :=
  (((s.putSsc x (x.smSsc + 1)).modTxn n fun z => { z with cmd := w, sscOld := some z.smSsc, smSsc := x.smSsc + 1 }).modSlot i
    fun y => { y with pr := { y.pr with smWait := false } }).sendCommand i w

/-- The SSC at which a response is unwrapped: a bare status carries no MAC, and takes none (06 R186). -/
def Txn.respSsc (x : Txn) : BitVec 64 := if x.wrapped.length = 2 then x.smSsc else x.smSsc + 1

/-- The response of the transaction, plain, where its MAC verifies. -/
def State.unwrapped (s : State) (x : Txn) : Option (List Byte) := smUnwrap (s.smKeys x.smKey).1 (s.smKeys x.smKey).2 x.respSsc x.wrapped

/-- The result of an exchange whose response verified, with the plain response l. -/
def MemberResp.verified (l : List Byte) (sent : Nat) : MemberResp := { done := true, resp := l, status := 0, cause := 0, sent := sent, cls := .done }

/-- The state in which transaction n has the plain response l: it ends DONE, and its exchange where it still holds slot i. -/
def State.verified (s : State) (n i : Nat) (x : Txn) (l : List Byte) : State :=
  if (s.slot i).holder = some n then s.endExchange i 1 (.verified l (s.slot i).pr.sent) false
  else s.requestOutcome n (MemberResp.verified l x.smSent).outcome

section
variable {s : State} {n : Fin 1024} {i : Nat} {x : Txn} (hx : s.txn n = some x) (ht : x.target = .slot i) (he : x.stage = .exch)
  (hl : s.laneServes n = true)
include hx ht he hl

theorem execSmWrap_wraps (hh : (s.slot i).holder = some n.val) (hw : (s.slot i).pr.smWait = true) (hm : (s.slot i).pr.mode ≠ .idle) :
    exec (.smWrap n) s = .next (s.wrapped n i x (smWrap (s.smKeys x.smKey).1 (s.smKeys x.smKey).2 (x.smSsc + 1) x.cmd)) := by
  have slot : x.slot? = some i := by simp only [Txn.slot?, ht]
  have wants : s.wantsWrap n = true := by simp [State.wantsWrap, hx, slot, he, hh, hw, hm]
  show execSmWrap n s = _
  simp only [execSmWrap, hx, slot, wants, hl, Bool.and_self, if_true, State.wrapped]

variable (hw : x.wrapped ≠ [])
include hw

theorem execSmUnwrap_fails (h : s.unwrapped x = none) :
    exec (.smUnwrap n) s = .next ((s.putSsc x x.respSsc).smFail n i x ((s.slot i).holder = some n.val)) := by
  have slot : x.slot? = some i := by simp only [Txn.slot?, ht]
  have wants : s.wantsUnwrap n = true := by simp [State.wantsUnwrap, hx, slot, he, hw]
  simp only [State.unwrapped, Txn.respSsc] at h
  show execSmUnwrap n s = _
  simp only [execSmUnwrap, hx, slot, wants, hl, Bool.and_self, Bool.not_true, Bool.false_eq_true, if_false, h, Txn.respSsc, nx]

theorem execSmUnwrap_verifies {l : List Byte} (h : s.unwrapped x = some l) :
    exec (.smUnwrap n) s = .next ((s.putSsc x x.respSsc).verified n i x l) := by
  have slot : x.slot? = some i := by simp only [Txn.slot?, ht]
  have wants : s.wantsUnwrap n = true := by simp [State.wantsUnwrap, hx, slot, he, hw]
  simp only [State.unwrapped, Txn.respSsc] at h
  show execSmUnwrap n s = _
  simp only [execSmUnwrap, hx, slot, wants, hl, Bool.and_self, Bool.not_true, Bool.false_eq_true, if_false, h, Txn.respSsc, State.verified, State.putSsc_slot, nx]
  split <;> rfl

end

theorem State.verified_spec {s : State} {n i : Nat} {x : Txn} (hwf : s.wf = true) (hx : s.txn n = some x) (ht : x.target = .slot i)
    (he : x.stage = .exch) (l : List Byte) :
    (s.verified n i x l).outcomeIs n (fun o => o.cls = .done ∧ o.status = 0 ∧ o.resp = l ∧ o.respLen = l.length ∧ o.tide = s.ltide) ∧
    ((s.slot i).holder = some n → ((s.verified n i x l).slot i).holder = none ∧ ((s.verified n i x l).slot i).pr.lastEnd = 1) ∧
    OtherSlots i s (s.verified n i x l) ∧ Evolves slotParts s (s.verified n i x l) := by
  unfold State.verified
  by_cases hh : (s.slot i).holder = some n
  · rw [if_pos hh]
    have ended := State.endExchange_spec hwf hx ht he hh 1 (MemberResp.verified l (s.slot i).pr.sent)
    exact ⟨ended.outcome, fun _ => ⟨ended.holder, ended.lastEnd⟩, State.endExchange_keeps _ _ _ _ _ rfl (.refl i s), s.endExchange_quiet i 1 _⟩
  · rw [if_neg hh]
    have asked : Evolves [.flow] s (s.requestOutcome n (MemberResp.verified l x.smSent).outcome) := State.requestOutcome_evolves rfl s n _ (.refl s)
    refine ⟨(State.requestOutcome_is hx _).imp ?_, fun held => absurd held hh, (OtherSlots.refl i s).of (asked.mono rfl), asked.mono rfl⟩
    rintro o rfl
    exact ⟨rfl, rfl, rfl, rfl, rfl⟩

/-- The wrap takes the next SSC and sends the wrapped command on the transaction's own slot. -/
theorem State.wrapped_spec {s : State} {n i : Nat} {x : Txn} (hx : s.txn n = some x) (w : List Byte) :
    (s.wrapped n i x w).txn n = some { x with cmd := w, sscOld := some x.smSsc, smSsc := x.smSsc + 1 } ∧
    (∀ j, s.lookup (x.dw 2) = some j → (s.wrapped n i x w).session j = { s.session j with ssc := x.smSsc + 1 }) ∧
    ((s.slot i).pr.mode ≠ .script →
      (s.wrapped n i x w).slot i = ({ s.slot i with pr := { (s.slot i).pr with smWait := false } } : Slot).startProto w) ∧
    OtherSlots i s (s.wrapped n i x w) ∧ Evolves [.slots, .flow, .cores] s (s.wrapped n i x w) := by
  have sent (u : State) : Evolves [.slots, .cores] u (u.sendCommand i w) := State.sendCommand_evolves rfl u i w (.refl u)
  have asked : Evolves [.flow] s ((s.putSsc x (x.smSsc + 1)).modTxn n fun z => { z with cmd := w, sscOld := some z.smSsc, smSsc := x.smSsc + 1 }) :=
    State.modTxn_evolves rfl _ n _ (State.putSsc_evolves rfl s x _ (.refl s))
  refine ⟨?_, fun j hj => ?_, fun hm => ?_, ?_, ?_⟩
  · refine ((sent _).txn_eq (by decide) n).trans ((State.modTxn_txn _ n _).trans ?_)
    rw [State.putSsc_txn, hx]
    rfl
  · rw [State.session, State.wrapped, (sent _).flow_eq]
    exact s.putSsc_session x _ hj
  · have same : ((s.putSsc x (x.smSsc + 1)).modTxn n fun z => { z with cmd := w, sscOld := some z.smSsc, smSsc := x.smSsc + 1 }).slot i = s.slot i :=
      s.putSsc_slot x _ i
    rw [State.wrapped, State.sendCommand_engine, State.modSlot_slot, same]
    rw [State.modSlot_slot, same]
    exact hm
  · exact State.sendCommand_keeps _ i w rfl (State.modSlot_keeps _ _ _ rfl ((OtherSlots.refl i s).of (asked.mono rfl)))
  · exact State.sendCommand_evolves rfl _ i w (State.modSlot_evolves rfl _ i _ (asked.mono rfl))

/-- Settles O34. The operations that follow a decided outcome leave it alone and close sessions at most: the relation `Closing`. -/
theorem secureMessaging : Obligations.SecureMessaging := by
  intro s n x i hwf hx ht he y k
  have counted : Evolves [.flow] s (s.putSsc x x.respSsc) := State.putSsc_evolves rfl s x _ (.refl s)
  have hx' : (s.putSsc x x.respSsc).txn n = some x := (s.putSsc_txn x _ n).trans hx
  have slot := s.putSsc_slot x x.respSsc i
  have others (t : State) (h : OtherSlots i (s.putSsc x x.respSsc) t) : OtherSlots i s t := ((OtherSlots.refl i s).of (counted.mono rfl)).trans h
  refine ⟨fun hl hh hw hm => ⟨?wrap, smWrap_shape _ _ _ _⟩, fun hl hw => ⟨fun l hr => ?verified, fun hr => ?failed⟩⟩
  case wrap =>
    obtain ⟨txn, sess, sent, left, evolves⟩ := State.wrapped_spec (i := i) hx (smWrap k.1 k.2 (x.smSsc + 1) x.cmd)
    exact ⟨_, execSmWrap_wraps hx ht he hl hh hw hm, txn, sess, sent, left, evolves.changes⟩
  case verified =>
    obtain ⟨outcome, held, left, evolves⟩ := State.verified_spec (counted.wf hwf) hx' ht he l
    rw [counted.ltide_eq (by decide)] at outcome
    rw [slot] at held
    exact ⟨_, execSmUnwrap_verifies hx ht he hl hw hr, outcome, held, others _ left, ((counted.mono rfl).trans (evolves.mono rfl)).changes⟩
  case failed =>
    obtain ⟨outcome, sess, count⟩ := State.smFail_spec (counted.wf hwf) hx' ht he (held := (s.slot i).holder = some n.val)
      fun hh => by rw [slot]; exact of_decide_eq_true hh
    refine ⟨_, execSmUnwrap_fails hx ht he hl hw hr, outcome.imp ?_, ?_, ?_, others _ (State.smFail_keeps _ _ _ _ _ rfl (.refl _ _)), ?_⟩
    · rintro o ⟨cls, status, resp, tide⟩
      exact ⟨cls, status, resp, tide.trans (counted.ltide_eq (by decide))⟩
    · intro j hj
      rw [← s.putSsc_gen x x.respSsc]
      exact sess j (by rw [State.putSsc_lookup, hj])
    · rw [count, counted.count_eq (by decide)]
      rfl
    · exact (State.smFail_evolves rfl _ n i x _ (counted.mono rfl)).changes

end Sys2Proof.Machine
end

section
/-! PROOFS of the whole device's invariants, part 1. Every command completes in a state into which its state evolves (Laws/Evolves.lean): each command by
what Laws/EvolvesCard.lean and Laws/EvolvesDevice.lean say of the operations it calls. -/

namespace Sys2Proof.Machine

/-- Every part of the state. -/
def everyPart : List Part := .slots :: notSlots

theorem Changes.every {s t : State} (h : t.pending = s.pending) : Changes everyPart s t := ⟨h, fun p => .inl (by cases p <;> decide)⟩

/-- A command's answer in s is a next state, into which s evolves. -/
def Advances (s : State) (o : Host.Outcome State Fault Refusal) : Prop := ∃ t, o = .next t ∧ Evolves everyPart s t

theorem advances_self (s : State) : Advances s (nx s) := ⟨s, rfl, .refl s⟩

theorem Evolves.ite_of {l : List Part} {s a b : State} {c : Prop} [Decidable c] (ha : Evolves l s a) (hb : Evolves l s b) :
    Evolves l s (if c then a else b) := .ite (fun _ => ha) fun _ => hb

section
variable {s t : State} (h : Evolves everyPart s t)
include h

theorem Evolves.advances : Advances s (nx t) := ⟨t, rfl, h⟩

theorem Evolves.reads (w : Word) : Advances s (nx { t with lastRead := w }) := (h.raw (lastRead := w) rfl rfl rfl (.every rfl) id).advances

theorem Evolves.setBoot (b : Boot) : Evolves everyPart s { t with boot := b } := h.raw (boot := b) rfl rfl rfl (.every rfl) id

theorem Evolves.setFlow {f : Flow} (hf : f.wf = t.flow.wf) : Evolves everyPart s { t with flow := f } :=
  .raw h rfl rfl rfl (.every rfl) fun w => by simpa only [State.wf, hf] using w

theorem Evolves.setMram {m : Mram} (hm : m.wf = t.mram.wf) : Evolves everyPart s { t with mram := m } :=
  .raw h rfl rfl rfl (.every rfl) fun w => by simpa only [State.wf, hm] using w

/-- A change of the ring that leaves its frame queues, whatever the ring is. -/
theorem Evolves.modRing {f : Ring → Ring} (h1 : ∀ r, (f r).txQ = r.txQ) (h2 : ∀ r, (f r).rxQ = r.rxQ) : Evolves everyPart s (t.modRing f) :=
  State.modRing_evolves rfl h (h1 _) (h2 _)

end

theorem run_advances (s : State) (k : Nat) (i : Ins) {body : State → Res} (hb : ∀ u, (body u).Evolved everyPart u) : Advances s (nx (s.run k i body)) :=
  (State.run_of_body rfl s k i body hb).advances

/-! Timers (Machine/Timers.lean). -/

theorem execTimerWrap_advances (t : TimerId) (s : State) : Advances s (execTimerWrap t s) := by
  unfold execTimerWrap
  extract_lets i
  split
  · exact (State.elapse_evolves rfl _ _ (.refl s)).advances
  · exact advances_self s

theorem execTimerCompare_advances (t : TimerId) (s : State) : Advances s (execTimerCompare t s) := by
  unfold execTimerCompare
  extract_lets i
  split
  · exact (State.elapse_evolves rfl _ _ (.refl s)).advances
  · split
    · split
      · exact (State.elapse_evolves rfl _ _ (.refl s)).advances
      · exact advances_self s
    · exact advances_self s

theorem execTimerCapture_advances (t : TimerId) (src : BitVec 4) (dt : Nat) (s : State) : Advances s (execTimerCapture t src dt s) := by
  unfold execTimerCapture
  extract_lets i
  split
  · exact (State.capture_evolves rfl _ _ _ (State.elapse_evolves rfl _ _ (.refl s))).advances
  · exact advances_self s

theorem execTimerMakeup_advances (t : TimerId) (dt : Nat) (s : State) : Advances s (execTimerMakeup t dt s) := by
  unfold execTimerMakeup
  extract_lets i r
  have hr : Evolves everyPart s r := State.elapse_evolves rfl _ _ (.refl s)
  split
  · exact hr.advances
  · exact (State.wakeTimer_evolves rfl _ _ hr).advances

theorem execTimCountRead_advances (ag : Agent) (t : TimerId) (dt : Nat) (s : State) : Advances s (execTimCountRead ag t dt s) :=
  (State.readCount_evolves rfl _ _ _ (State.elapse_evolves rfl _ _ (.refl s))).reads _

theorem execTimCapValRead_advances (ag : Agent) (t : TimerId) (s : State) : Advances s (execTimCapValRead ag t s) :=
  (State.readCapVal_evolves rfl _ _ (.refl s)).reads _

/-! Characters (Machine/Chars.lean). -/

theorem execCharTransmit_advances (i : Fin 64) (line : SentLine) (s : State) : Advances s (execCharTransmit i line s) := by
  unfold execCharTransmit
  extract_lets r x s0 hit begins s1
  have digested : Evolves everyPart s r := by
    refine State.digest_evolves rfl _ _ ?_
    split
    · exact .ite_of (State.rxFlush_evolves rfl _ _ (.refl s)) (.refl s)
    · exact .refl s
  have due : Evolves everyPart s s0 := State.edgeFull_evolves rfl _ _ (State.elapseTo_evolves rfl _ _ digested)
  have edge (u : State) (hu : Evolves everyPart s u) : Evolves everyPart s (hit u) := .ite_of (State.bump_evolves rfl _ _ _ hu) hu
  split
  · exact digested.advances
  · split
    · exact due.advances
    · split
      · split
        · exact digested.advances
        · exact (edge _ (State.txStart_evolves rfl _ _ _ _ (State.modSlot_evolves rfl _ _ _ due))).advances
      · split
        · exact digested.advances
        · exact (State.txWaits_evolves rfl _ _ (edge _ (State.txStart_evolves rfl _ _ _ _ (State.modSlot_evolves rfl _ _ _ due)))).advances

theorem execCharReceive_advances (i : Fin 64) (e : RxEvent) (s : State) : Advances s (execCharReceive i e s) := by
  unfold execCharReceive
  split
  · exact (State.rxEdge_evolves rfl _ _ _ (.refl s)).advances
  · split
    · exact advances_self s
    · exact (State.rxJudge_evolves rfl _ _ _ _ (.refl s)).advances
  · extract_lets s1
    have hs1 : Evolves everyPart s s1 := .ite_of (.refl s) (State.rxJudge_evolves rfl _ _ _ _ (.refl s))
    split
    · exact (State.rxStop_evolves rfl _ _ _ hs1).advances
    · exact hs1.advances
  · exact (State.rxFlush_evolves rfl _ _ (.refl s)).advances
  · exact advances_self s

theorem execTxErrsigCheck_advances (i : Fin 64) (wave late : List Reading) (s : State) : Advances s (execTxErrsigCheck i wave late s) := by
  unfold execTxErrsigCheck
  extract_lets w x m d
  split
  · extract_lets s1 up s2 s3
    have checked : Evolves everyPart s s1 := State.elapseTo_evolves rfl _ _ (.refl s)
    have passed : Evolves everyPart s s2 := State.modSlot_evolves rfl _ _ _ checked
    have failed : Evolves everyPart s s3 := State.modSlot_evolves rfl _ _ _ checked
    have doubt : Evolves everyPart s (s3.endInDoubt i 3 true) := State.endInDoubt_evolves rfl _ _ _ _ failed
    split
    · exact (Evolves.ite_of (State.endInDoubt_evolves rfl _ _ _ _ passed) passed).advances
    · split
      · exact (State.modSlot_evolves rfl _ _ _ checked).advances
      · split
        · exact doubt.advances
        · exact doubt.advances
        · exact doubt.advances
        · exact doubt.advances
        · exact failed.advances
  · exact advances_self s

theorem execTxRepeat_advances (r : Repetition) (s : State) : Advances s (execTxRepeat r s) := by
  unfold execTxRepeat
  extract_lets i
  split
  · extract_lets s0 s1
    have late : Evolves everyPart s s0 := State.overdue_evolves rfl _ _ _ (.refl s)
    have due : Evolves everyPart s s1 := State.edgeFull_evolves rfl _ _ (State.elapseTo_evolves rfl _ _ late)
    split
    · split
      · exact due.advances
      · exact (State.txWaits_evolves rfl _ _ (State.bump_evolves rfl _ _ _
          (State.txStart_evolves rfl _ _ _ _ (State.modSlot_evolves rfl _ _ _ due)))).advances
    · exact late.advances
  · exact advances_self s

theorem execCharRawRead_advances (ag : Agent) (i : Fin 64) (s : State) : Advances s (execCharRawRead ag i s) :=
  (State.readRaw_evolves rfl _ _ _ (.refl s)).reads _

/-! Presence, activation, the clock and deactivation (Machine/Activation.lean). -/

theorem execActAtDue_advances (i : Fin 64) (s : State) : Advances s (execActAtDue i s) := by
  unfold execActAtDue
  split
  · exact advances_self s
  · extract_lets d s1 r
    split
    · exact advances_self s
    · have hs1 : Evolves everyPart s s1 := State.elapseTide_evolves rfl _ _ (.refl s)
      split
      · have hr : Evolves everyPart s r.2 := State.cmdActivate_evolves rfl _ _ (State.modSlot_evolves rfl _ _ _ hs1)
        exact (Evolves.ite_of hr (State.slotErr_evolves rfl _ _ _ hr)).advances
      · exact hs1.advances

theorem execDeactAtDue_advances (i : Fin 64) (s : State) : Advances s (execDeactAtDue i s) := by
  unfold execDeactAtDue
  split
  · exact advances_self s
  · extract_lets d s1 r
    split
    · exact advances_self s
    · have hs1 : Evolves everyPart s s1 := State.elapseTide_evolves rfl _ _ (.refl s)
      split
      · have hr : Evolves everyPart s r.2 := State.cmdDeactivate_evolves rfl _ _ _ (State.modSlot_evolves rfl _ _ _ hs1)
        exact (Evolves.ite_of hr (State.slotErr_evolves rfl _ _ _ hr)).advances
      · exact hs1.advances

theorem execPresAbsent_advances (i : Fin 64) (s : State) : Advances s (execPresAbsent i s) := by
  unfold execPresAbsent
  split
  · exact advances_self s
  · extract_lets x s1 s2
    have hs1 : Evolves everyPart s s1 := State.modSlot_evolves rfl _ _ _ (.refl s)
    have hs2 : Evolves everyPart s s2 := .ite_of (State.auditRoutine_evolves rfl _ _ _ (State.captureSlot_evolves rfl _ _ _ hs1)) hs1
    split
    · exact (State.quench_evolves rfl _ _ _ hs2).advances
    · split
      · exact (State.modSlot_evolves rfl _ _ _ (State.endWaiters_evolves rfl _ _ _ hs2)).advances
      · exact (State.modSlot_evolves rfl _ _ _ (State.endWaiters_evolves rfl _ _ _ hs2)).advances
      · exact hs2.advances

theorem execPresPresentRead_advances (i : Fin 64) (s : State) : Advances s (execPresPresentRead i s) := by
  unfold execPresPresentRead
  extract_lets x
  split
  · exact advances_self s
  · exact (State.modSlot_evolves rfl _ _ _ (.refl s)).advances

theorem execPresDebounceDone_advances (i : Fin 64) (s : State) : Advances s (execPresDebounceDone i s) := by
  unfold execPresDebounceDone
  split
  · exact advances_self s
  · extract_lets s1 s2 s3
    have hs1 : Evolves everyPart s s1 := State.elapseTo_evolves rfl _ _ (.refl s)
    have hs2 : Evolves everyPart s s2 := State.auditRoutine_evolves rfl _ _ _ (State.captureSlot_evolves rfl _ _ _ (State.modSlot_evolves rfl _ _ _ hs1))
    split
    · have hs3 : Evolves everyPart s s3 := State.modSlot_evolves rfl _ _ _ hs2
      exact (Evolves.ite_of (State.askActivation_evolves rfl _ _ hs3) hs3).advances
    · split
      · exact (State.abortSlotLoop_evolves rfl _ _ hs2).advances
      · exact hs2.advances

theorem execVccRampStart_advances (i : Fin 64) (s : State) : Advances s (execVccRampStart i s) := by
  unfold execVccRampStart
  extract_lets p s1 ok s2
  have staggered : Evolves everyPart s s1 := by
    unfold s1
    split
    · exact State.elapseTide_evolves rfl _ _ (.refl s)
    · exact .refl s
  split
  · split
    · exact (State.modPolder_evolves rfl _ _ _ (State.modSlot_evolves rfl _ _ _ staggered)).advances
    · exact staggered.advances
  · exact advances_self s

theorem execSettleRequest_advances (i : Fin 64) (s : State) : Advances s (execSettleRequest i s) := by
  unfold execSettleRequest
  split
  · extract_lets s1 s2
    have hs1 : Evolves everyPart s s1 := State.elapseTo_evolves rfl _ _ (.refl s)
    have hs2 : Evolves everyPart s s2 := State.modSlot_evolves rfl _ _ _ hs1
    exact (State.modPolder_evolves rfl _ _ _ hs2).advances
  · exact advances_self s

theorem execSettleCheckDone_advances (i : Fin 64) (s : State) : Advances s (execSettleCheckDone i s) := by
  unfold execSettleCheckDone
  split
  · split
    · exact advances_self s
    · extract_lets s1 w sum
      have hs1 : Evolves everyPart s s1 := State.modPolder_evolves rfl _ _ _ (.refl s)
      split
      · split
        · exact (State.modSlot_evolves rfl _ _ _ hs1).advances
        · exact (State.modSlot_evolves rfl _ _ _ hs1).advances
      · exact (State.quench_evolves rfl _ _ _ hs1).advances
  · exact advances_self s

theorem execIoRelease_advances (i : Fin 64) (s : State) : Advances s (execIoRelease i s) := by
  unfold execIoRelease
  split
  · exact (State.modSlot_evolves rfl _ _ _ (State.elapseTo_evolves rfl _ _ (.refl s))).advances
  · exact advances_self s

theorem execRstRise_advances (i : Fin 64) (s : State) : Advances s (execRstRise i s) := by
  unfold execRstRise
  extract_lets x
  split
  · exact (State.riseRst_evolves rfl _ _ (State.elapseTo_evolves rfl _ _ (.refl s))).advances
  · exact (State.riseRst_evolves rfl _ _ (State.elapseTo_evolves rfl _ _ (.refl s))).advances
  · exact advances_self s

theorem execClockStop_advances (i : Fin 64) (s : State) : Advances s (execClockStop i s) := by
  unfold execClockStop
  extract_lets s0 x s1 high s2
  have hs0 : Evolves everyPart s s0 := State.rxFlush_evolves rfl _ _ (.refl s)
  split
  · have hs1 : Evolves everyPart s s1 := State.elapseTo_evolves rfl _ _ hs0
    have hs2 : Evolves everyPart s s2 := State.elapseTo_evolves rfl _ _ hs1
    exact (State.modSlot_evolves rfl _ _ _ hs2).advances
  · exact hs0.advances

theorem execClockRestartDone_advances (i : Fin 64) (s : State) : Advances s (execClockRestartDone i s) := by
  unfold execClockRestartDone
  extract_lets x
  split
  · exact advances_self s
  · extract_lets s1 s2 s3
    have ready : Evolves everyPart s s2 := State.modSlot_evolves rfl _ _ _ (State.elapseTo_evolves rfl _ _ (.refl s))
    have busy : Evolves everyPart s s3 := State.modSlot_evolves rfl _ _ _ ready
    split
    · exact (State.warmReset_evolves rfl _ _ ready).advances
    · split
      · split
        · exact (Evolves.ite_of (State.handOver_evolves rfl _ _ _ busy) busy).advances
        · exact (State.setsReady_evolves rfl _ _ ready).advances
      · exact (State.setsReady_evolves rfl _ _ ready).advances

theorem execDeactStep_advances (i : Fin 64) (s : State) : Advances s (execDeactStep i s) := by
  unfold execDeactStep
  extract_lets x
  split
  · split
    · extract_lets s0 s1
      have hs0 : Evolves everyPart s s0 := State.elapseTo_evolves rfl _ _ (.refl s)
      have hs1 : Evolves everyPart s s1 := .ite_of (State.elapseTo_evolves rfl _ _ hs0) hs0
      exact (State.modSlot_evolves rfl _ _ _ hs1).advances
    · exact advances_self s
  · exact advances_self s

theorem execVccBelow04_advances (i : Fin 64) (s : State) : Advances s (execVccBelow04 i s) := by
  unfold execVccBelow04
  extract_lets x
  split
  · exact (State.modSlot_evolves rfl _ _ _ (.refl s)).advances
  · split
    · exact (State.modSlot_evolves rfl _ _ _ (.refl s)).advances
    · exact advances_self s

theorem execReactGapEnd_advances (i : Fin 64) (s : State) : Advances s (execReactGapEnd i s) := by
  unfold execReactGapEnd
  split
  · exact advances_self s
  · split
    · exact advances_self s
    · extract_lets s1
      have hs1 : Evolves everyPart s s1 := State.elapseTo_evolves rfl _ _ (.refl s)
      exact (State.modSlot_evolves rfl _ _ _ hs1).advances

/-! Quenches, discharge, temperature and rails (Machine/Quench.lean). -/

/-- A line that trips quenches the slot while its condition holds (03 R65). -/
theorem quenchIf_advances (c : Prop) [Decidable c] (s : State) (i cause : Nat) : Advances s (if c then nx (s.quench i cause) else nx s) := by
  split
  · exact (State.quench_evolves rfl _ _ _ (.refl s)).advances
  · exact advances_self s

theorem execQuenchStep_advances (i : Fin 64) (s : State) : Advances s (execQuenchStep i s) := by
  unfold execQuenchStep
  extract_lets x
  split
  · split
    · extract_lets s1
      have hs1 : Evolves everyPart s s1 := State.elapseTo_evolves rfl _ _ (.refl s)
      exact (State.modSlot_evolves rfl _ _ _ hs1).advances
    · exact advances_self s
  · exact advances_self s

theorem execDischargeGrant_advances (s : State) : Advances s (execDischargeGrant s) := by
  unfold execDischargeGrant
  split
  · exact advances_self s
  · extract_lets s1
    have hs1 : Evolves everyPart s s1 := State.elapseSince_evolves rfl _ _ _ (.refl s)
    split
    · exact hs1.advances
    · exact (State.engageSinks_evolves rfl _ _ hs1).advances

theorem execDischTimeout_advances (i : Fin 64) (s : State) : Advances s (execDischTimeout i s) := by
  unfold execDischTimeout
  extract_lets x
  split
  · split
    · exact (State.post_evolves rfl _ _ _ _ _ (State.bump_evolves rfl _ _ _ (State.modSlot_evolves rfl _ _ _ (State.elapseTo_evolves rfl _ _ (.refl s))))).advances
    · exact advances_self s
  · exact advances_self s

theorem execSeepLeak_advances (l : Leak) (s : State) : Advances s (execSeepLeak l s) := by
  unfold execSeepLeak
  extract_lets i x s1
  split
  · have hs1 : Evolves everyPart s s1 := State.modSlot_evolves rfl _ _ _ (.refl s)
    split
    · exact (State.post_evolves rfl _ _ _ _ _ (State.bump_evolves rfl _ _ _ (State.modSlot_evolves rfl _ _ _ hs1))).advances
    · exact hs1.advances
  · exact advances_self s

theorem execTempSample_advances (p : Fin 8) (celsius : Int) (s : State) : Advances s (execTempSample p celsius s) := by
  unfold execTempSample
  extract_lets q both s1 s2 l s3
  have sampled : Evolves everyPart s s1 := State.modPolder_evolves rfl _ _ _ (.refl s)
  have warned : Evolves everyPart s s2 :=
    .ite_of (State.setWarn_evolves rfl _ _ _ _ sampled) (.ite_of (State.setWarn_evolves rfl _ _ _ _ sampled) sampled)
  have hot : Evolves everyPart s s3 := .ite_of warned (State.tally_evolves rfl _ _ _ _ _ (State.modPolder_evolves rfl _ _ _ warned))
  split
  · exact (State.forEach_evolves rfl _ _ _ hot fun u a => State.quench_evolves rfl _ _ _ (.refl u)).advances
  · exact warned.advances

theorem execPolderThermRead_advances (ag : Agent) (p : Fin 8) (s : State) : Advances s (execPolderThermRead ag p s) :=
  (State.readTherm_evolves rfl _ _ (.refl s)).reads _

theorem execRailH_advances (p : Fin 8) (s : State) : Advances s (execRailH p s) := by
  unfold execRailH
  extract_lets s1 s2
  have hs1 : Evolves everyPart s s1 := .ite_of (.refl s) (State.irq_evolves rfl _ _ (.refl s))
  have hs2 : Evolves everyPart s s2 := State.modPolder_evolves rfl _ _ _ (.ite_of hs1 (State.tally_evolves rfl _ _ _ _ _ hs1))
  exact (State.forEach_evolves rfl _ _ _ hs2 fun _ _ => State.quench_evolves rfl _ _ _ (.refl _)).advances

theorem execRailL_advances (p : Fin 8) (s : State) : Advances s (execRailL p s) := by
  unfold execRailL
  extract_lets s1 s2
  have hs1 : Evolves everyPart s s1 := .ite_of (.refl s) (State.irq_evolves rfl _ _ (.refl s))
  have hs2 : Evolves everyPart s s2 := State.modPolder_evolves rfl _ _ _ (.ite_of hs1 (State.tally_evolves rfl _ _ _ _ _ hs1))
  exact (State.forEach_evolves rfl _ _ _ hs2 fun _ _ => State.quench_evolves rfl _ _ _ (.refl _)).advances

/-! Exchanges (Machine/Exchange.lean). -/

theorem execPpsResponse_advances (i : Fin 64) (s : State) : Advances s (execPpsResponse i s) := by
  unfold execPpsResponse
  extract_lets s1
  have hs1 : Evolves everyPart s s1 := State.rxFlush_evolves rfl _ _ (.refl s)
  split
  · exact (State.ppsJudge_evolves rfl _ _ hs1).advances
  · exact hs1.advances

theorem execExchLimit_advances (i : Fin 64) (s : State) : Advances s (execExchLimit i s) := by
  unfold execExchLimit
  extract_lets x n
  split
  · split
    · extract_lets v s1 y
      have hs1 : Evolves everyPart s s1 := State.rxRipe_evolves rfl _ _ (State.elapseTideNat_evolves rfl _ _ (.refl s))
      split
      · exact (State.endInDoubt_evolves rfl _ _ _ _ hs1).advances
      · exact hs1.advances
    · exact advances_self s
  · exact advances_self s

/-! The tide (Machine/Tide.lean). -/

theorem execTideMarkEdge_advances (dt : Nat) (s : State) : Advances s (execTideMarkEdge dt s) := by
  unfold execTideMarkEdge
  extract_lets s1
  have hs1 : Evolves everyPart s s1 := State.captureAll_evolves rfl _ _ (State.elapse_evolves rfl _ _ (.refl s))
  split
  · exact hs1.advances
  · split
    · exact (State.applySet_evolves rfl _ _ hs1).advances
    · exact (State.markTide_evolves rfl _ hs1).advances

theorem execTideHoldover_advances (s : State) : Advances s (execTideHoldover s) := by
  have held (f : TideUnit → TideUnit) (n : Nat) : Advances s (nx ((s.elapseTo n).modTide f)) :=
    (State.modTide_evolves rfl _ _ (State.elapseTo_evolves rfl _ _ (.refl s))).advances
  unfold execTideHoldover
  split
  · exact held _ _
  · exact held _ _
  · exact advances_self s

theorem execTidePauseEnd_advances (s : State) : Advances s (execTidePauseEnd s) := by
  unfold execTidePauseEnd
  split
  · extract_lets s1
    have hs1 : Evolves everyPart s s1 := State.elapse_evolves rfl _ _ (.refl s)
    exact (State.modTide_evolves rfl _ _ hs1).advances
  · exact advances_self s

theorem execTideNowRead_advances (ag : Agent) (s : State) : Advances s (execTideNowRead ag s) :=
  (State.readTideNow_evolves rfl _ _ (.refl s)).reads _

theorem execTalarmDue_advances (n : Fin 8) (s : State) : Advances s (execTalarmDue n s) := by
  unfold execTalarmDue
  split
  · exact advances_self s
  · split
    · exact advances_self s
    · extract_lets s1 s2
      have hs1 : Evolves everyPart s s1 := State.elapseTide_evolves rfl _ _ (.refl s)
      split
      · have hs2 : Evolves everyPart s s2 := State.modTide_evolves rfl _ _ hs1
        exact (State.alarmTriggers_evolves rfl _ _ (State.line_evolves rfl _ _ hs2)).advances
      · exact hs1.advances

/-! Dispatch, intent and outcome (Machine/Journal.lean). -/

theorem execSlotDispatch_advances (i : Fin 64) (s : State) : Advances s (execSlotDispatch i s) := by
  unfold execSlotDispatch
  split
  · exact advances_self s
  · split
    · exact advances_self s
    · split
      · split
        · exact (State.endEarly_evolves rfl _ _ _ _ _ (.refl s)).advances
        · extract_lets l s1
          have hs1 : Evolves everyPart s s1 := State.modTxn_evolves rfl _ _ _ (.refl s)
          exact (State.forEach_evolves rfl _ _ _ hs1 fun _ _ => State.reserve_evolves rfl _ _ _ _ (.refl _)).advances
      · exact (State.reserve_evolves rfl _ _ _ _ (State.modTxn_evolves rfl _ _ _ (.refl s))).advances

theorem execIntentCommit_advances (t : Fin 1024) (s : State) : Advances s (execIntentCommit t s) := by
  unfold execIntentCommit
  split
  · exact advances_self s
  · split
    · exact advances_self s
    · split
      · exact (State.actPendAll_evolves rfl _ (State.endEarly_evolves rfl _ _ _ _ _ (.refl s))).advances
      · split
        · exact (State.actPendAll_evolves rfl _ (State.endEarly_evolves rfl _ _ _ _ _ (.refl s))).advances
        · split
          · exact (State.actPendAll_evolves rfl _ (State.endEarly_evolves rfl _ _ _ _ _ (.refl s))).advances
          · extract_lets seq s1
            have hs1 : Evolves everyPart s s1 := State.modTxn_evolves rfl _ _ _ (State.commitRec_evolves rfl _ _ (.refl s))
            split
            · exact (State.runRound_evolves rfl _ _ _ _ hs1).advances
            · exact (State.startExchange_evolves rfl _ _ _ hs1).advances
            · exact (State.startLedger_evolves rfl _ _ _ _ hs1).advances
            · exact hs1.advances

theorem execOutcomeCommit_advances (t : Fin 1024) (s : State) : Advances s (execOutcomeCommit t s) := by
  unfold execOutcomeCommit
  split
  · split
    · split
      · exact Evolves.advances (State.modTxn_evolves rfl _ _ _ (.setFlow (State.commitRec_evolves rfl _ _ (.refl s)) rfl))
      · exact advances_self s
    · exact advances_self s
  · exact advances_self s

/-! Secure messaging (Machine/Sm.lean). -/

theorem execSmWrap_advances (t : Fin 1024) (s : State) : Advances s (execSmWrap t s) := by
  unfold execSmWrap
  split
  · exact advances_self s
  · split
    · exact advances_self s
    · split
      · extract_lets ssc k w s1
        have hs1 : Evolves everyPart s s1 := State.modTxn_evolves rfl _ _ _ (State.putSsc_evolves rfl _ _ _ (.refl s))
        exact (State.sendCommand_evolves rfl _ _ _ (State.modSlot_evolves rfl _ _ _ hs1)).advances
      · exact advances_self s

theorem execSmUnwrap_advances (t : Fin 1024) (s : State) : Advances s (execSmUnwrap t s) := by
  unfold execSmUnwrap
  split
  · exact advances_self s
  · split
    · exact advances_self s
    · split
      · exact advances_self s
      · extract_lets held k ssc s0
        have hs0 : Evolves everyPart s s0 := State.putSsc_evolves rfl _ _ _ (.refl s)
        split
        · split
          · exact (State.endExchange_evolves rfl _ _ _ _ _ hs0).advances
          · exact (State.requestOutcome_evolves rfl _ _ _ hs0).advances
        · exact (State.smFail_evolves rfl _ _ _ _ _ hs0).advances

/-- A new transaction in the place where the entry fetched puts it (07 R198). -/

theorem Evolves.fetched {s t : State} (h : Evolves everyPart s t) (n fetchNo lastFetch : Nat) (x : Txn) :
    Evolves everyPart s { t with flow := { t.flow with fetchNo := fetchNo, lastFetch := lastFetch, txns := tset none t.flow.txns n (some x) } } :=
  h.raw rfl rfl rfl (.every rfl) fun w => by
    simp only [State.wf, Flow.wf, Bool.and_eq_true] at w ⊢
    simp only [w, twf_tset, and_self]

/-! Fetch, checks and gathering (Machine/Queue.lean). -/

theorem execSqFetch_advances (q : Fin 512) (r : FetchRead) (s : State) : Advances s (execSqFetch q r s) := by
  unfold execSqFetch
  split
  · split
    · exact advances_self s
    · extract_lets s1 n f s2
      have counted : Evolves everyPart s s1 := State.modQp_evolves rfl _ _ _ (State.tally_evolves rfl _ _ _ _ _ (.refl s))
      have fetched : Evolves everyPart s s2 := counted.fetched _ _ _ _
      split
      · exact (State.endEarly_evolves rfl _ _ _ _ _ (State.modTxn_evolves rfl _ _ _ fetched)).advances
      · exact (Evolves.ite_of fetched (State.endEarly_evolves rfl _ _ _ _ _ fetched)).advances
  · exact advances_self s

theorem execCardCmd_advances (t : Fin 1024) (s : State) : Advances s (execCardCmd t s) := by
  unfold execCardCmd
  split
  · exact advances_self s
  · split
    · exact advances_self s
    · extract_lets e i d
      split
      · exact (State.endEarly_evolves rfl _ _ _ _ _ (.refl s)).advances
      · exact (State.modTxn_evolves rfl _ _ _ (.refl s)).advances

theorem execOpenSession_advances (t : Fin 1024) (s : State) : Advances s (execOpenSession t s) := by
  unfold execOpenSession
  split
  · exact advances_self s
  · split
    · exact advances_self s
    · extract_lets e i g s1 s2
      split
      · exact (State.endEarly_evolves rfl _ _ _ _ _ (.refl s)).advances
      · have hs1 : Evolves everyPart s s1 := State.setSession_evolves rfl _ _ _ (.refl s)
        have hs2 : Evolves everyPart s s2 := .ite_of (State.formed_evolves rfl _ _ hs1) hs1
        exact (State.endEarly_evolves rfl _ _ _ _ _ hs2).advances

theorem execCloseSession_advances (t : Fin 1024) (s : State) : Advances s (execCloseSession t s) := by
  unfold execCloseSession
  split
  · exact advances_self s
  · split
    · exact advances_self s
    · extract_lets e
      split
      · exact (State.endEarly_evolves rfl _ _ _ _ _ (.refl s)).advances
      · exact (State.actPendAll_evolves rfl _ (State.endEarly_evolves rfl _ _ _ _ _ (State.closeSession_evolves rfl _ _ (.refl s)))).advances

theorem execNop_advances (t : Fin 1024) (s : State) : Advances s (execNop t s) := by
  unfold execNop
  split
  · exact advances_self s
  · split
    · exact advances_self s
    · exact (State.endEarly_evolves rfl _ _ _ _ _ (.refl s)).advances

theorem execCmdGather_advances (t : Fin 1024) (r : GatherRead) (s : State) : Advances s (execCmdGather t r s) := by
  unfold execCmdGather
  split
  · exact advances_self s
  · extract_lets first need g cmd e s0 f s1
    have chunked : Evolves everyPart s s0 := State.modTxn_evolves rfl _ _ _ (.refl s)
    have arrived : Evolves everyPart s s1 := .setFlow (.refl s) rfl
    split
    · exact advances_self s
    · split
      · exact (State.endEarly_evolves rfl _ _ _ _ _ chunked).advances
      · split
        · exact (State.endEarly_evolves rfl _ _ _ _ _ chunked).advances
        · exact (State.modTxn_evolves rfl _ _ _ arrived).advances

/-! Ledger ports (Machine/Ledger.lean). -/

theorem execLedgerPresPresentRead_advances (p a : Fin 4) (s : State) : Advances s (execLedgerPresPresentRead p a s) := by
  unfold execLedgerPresPresentRead
  extract_lets x
  split
  · exact (State.modLp_evolves rfl _ _ _ (.refl s)).advances
  · exact advances_self s

theorem execLedgerPresDebounced_advances (p a : Fin 4) (s : State) : Advances s (execLedgerPresDebounced p a s) := by
  unfold execLedgerPresDebounced
  split
  · exact advances_self s
  · extract_lets s1 s2
    have hs1 : Evolves everyPart s s1 :=
      State.setLp_evolves rfl _ _ _ _ (State.modLp_evolves rfl _ _ _ (State.elapseTo_evolves rfl _ _ (State.failLoop_evolves rfl _ _ _ (.refl s))))
    have hs2 : Evolves everyPart s s2 := State.auditRoutine_evolves rfl _ _ _ hs1
    exact (Evolves.ite_of (State.modPort_evolves rfl _ _ _ hs2) hs2).advances

theorem execLedgerPresAbsent_advances (p a : Fin 4) (s : State) : Advances s (execLedgerPresAbsent p a s) := by
  unfold execLedgerPresAbsent
  extract_lets k s0 s1 s2 s3 s4
  have h0 : Evolves everyPart s s0 := State.modLp_evolves rfl _ _ _ (.refl s)
  have h1 : Evolves everyPart s s1 := State.elapse_evolves rfl _ _ h0
  have h2 : Evolves everyPart s s2 := by
    unfold s2
    split
    · exact .ite_of (State.ledgerRemoved_evolves rfl _ _ _ h1) h1
    · exact .ite_of (State.ledgerStop_evolves rfl _ _ h1) h1
  have h3 : Evolves everyPart s s3 := State.modLp_evolves rfl _ _ _ (State.setLp_evolves rfl _ _ _ _ h2)
  have h4 : Evolves everyPart s s4 := State.switchRemoved_evolves rfl _ _ _ (State.modPort_evolves rfl _ _ _ h3)
  split
  · exact h0.advances
  · exact (State.auditRoutine_evolves rfl _ _ _ (State.tally_evolves rfl _ _ _ _ _ h4)).advances

theorem execRemovalCleanup_advances (p :
    Fin 4) (answers : List CleanupAnswer) (strays : List Bool) (s : State) : Advances s (execRemovalCleanup p answers strays s) := by
  unfold execRemovalCleanup
  extract_lets x
  split
  · extract_lets s1 l s2 s3
    have hs1 : Evolves everyPart s s1 := State.lcmd0_evolves rfl _ _ _ _ (State.elapseTo_evolves rfl _ _ (.refl s))
    have hs2 : Evolves everyPart s s2 := State.forEach_evolves rfl _ _ _ hs1 fun _ _ => State.cleanupCard_evolves rfl _ _ _ _ (.refl _)
    have hs3 : Evolves everyPart s s3 := .ite_of (State.irq_evolves rfl _ _ (State.lpost_evolves rfl _ _ _ _ _ hs2)) hs2
    exact (State.applyRate_evolves rfl _ _ _ (State.atFree_evolves rfl _ _ (State.checkStrays_evolves rfl _ _ _ hs3))).advances
  · split
    · exact (State.applyRate_evolves rfl _ _ _ (State.atFree_evolves rfl _ _ (State.checkStrays_evolves rfl _ _ _ (.refl s)))).advances
    · exact advances_self s

theorem execIdentification_advances (p :
    Fin 4) (found : List FoundCard) (ocrReady : Bool) (s : State) : Advances s (execIdentification p found ocrReady s) := by
  unfold execIdentification
  extract_lets x s0
  split
  · exact advances_self s
  · extract_lets l s1 s2
    have h0 : Evolves everyPart s s0 := State.elapse_evolves rfl _ _ (State.atFree_evolves rfl _ _ (.refl s))
    have h1 : Evolves everyPart s s1 := State.modPort_evolves rfl _ _ _ h0
    have h2 : Evolves everyPart s s2 :=
      State.forEach_evolves rfl _ _ _ (State.lcmd_evolves rfl _ _ _ _ (.ite_of (State.lcmd_evolves rfl _ _ _ _ h1) h1)) fun u b =>
        State.modLp_evolves rfl _ _ _ (State.setLp_evolves rfl _ _ _ _ (.refl u))
    split
    · exact advances_self s
    · exact (Evolves.ite_of (State.identify_evolves rfl _ _ _ _ h2) h2).advances

theorem execCardReadyPoll_advances (p : Fin 4) (ready : Bool) (s : State) : Advances s (execCardReadyPoll p ready s) := by
  unfold execCardReadyPoll
  split
  · exact advances_self s
  · extract_lets s1
    have hs1 : Evolves everyPart s s1 := State.lcmd_evolves rfl _ _ _ _ (State.elapse_evolves rfl _ _ (.refl s))
    exact (Evolves.ite_of (State.identify_evolves rfl _ _ _ _ hs1) (.ite_of (State.identify_evolves rfl _ _ _ _ hs1) hs1)).advances

theorem execLedgerResponse_advances (p : Fin 4) (r : LedgerResp) (s : State) : Advances s (execLedgerResponse p r s) := by
  unfold execLedgerResponse
  split
  · exact (State.switchAnswer_evolves rfl _ _ _ _ (.refl s)).advances
  · exact (State.ledgerAnswer_evolves rfl _ _ _ _ (.refl s)).advances
  · exact advances_self s

theorem execLedgerBlock_advances (p : Fin 4) (data : List Byte) (crcOk : Bool) (s : State) : Advances s (execLedgerBlock p data crcOk s) := by
  unfold execLedgerBlock
  split
  · exact (Evolves.ite_of (.ite_of (State.switchNext_evolves rfl _ _ (.refl s)) (State.switchEnd_evolves rfl _ _ _ (.refl s))) (.refl s)).advances
  · split
    · exact advances_self s
    · split
      · exact (State.ledgerFail_evolves rfl _ _ _ _ (.refl s)).advances
      · extract_lets s1 k
        have hs1 : Evolves everyPart s s1 := State.ledgerConfirm_evolves rfl _ _ _ _ (.refl s)
        exact (Evolves.ite_of (State.ledgerEnd_evolves rfl _ _ _ _ hs1) (State.ledgerStep_evolves rfl _ _ _ _ hs1)).advances
  · exact advances_self s

theorem execCrcStatusToken_advances (p : Fin 4) (positive : Bool) (s : State) : Advances s (execCrcStatusToken p positive s) := by
  unfold execCrcStatusToken
  split
  · split
    · exact advances_self s
    · extract_lets s1
      have hs1 : Evolves everyPart s s1 := State.elapseTo_evolves rfl _ _ (.refl s)
      exact (Evolves.ite_of (State.ledgerStep_evolves rfl _ _ _ _ hs1) (State.ledgerFail_evolves rfl _ _ _ _ hs1)).advances
  · exact advances_self s

theorem execBusyEnd_advances (p : Fin 4) (s : State) : Advances s (execBusyEnd p s) := by
  unfold execBusyEnd
  split
  · exact (Evolves.ite_of (State.switchNext_evolves rfl _ _ (.refl s)) (.refl s)).advances
  · split
    · exact (State.ledgerStep_evolves rfl _ _ _ _ (State.lcmd_evolves rfl _ _ _ _ (.refl s))).advances
    · extract_lets s1 k
      have hs1 : Evolves everyPart s s1 := State.ledgerConfirm_evolves rfl _ _ _ _ (.refl s)
      exact (Evolves.ite_of (State.ledgerStep_evolves rfl _ _ _ _ (State.lcmd_evolves rfl _ _ _ _ hs1)) (State.ledgerOut_evolves rfl _ _ _ hs1)).advances
    · exact (State.ledgerStep_evolves rfl _ _ _ _ (State.lcmd_evolves rfl _ _ _ _ (.refl s))).advances
    · exact advances_self s
  · exact advances_self s

theorem execLedgerTimeout_advances (p : Fin 4) (s : State) : Advances s (execLedgerTimeout p s) := by
  unfold execLedgerTimeout
  extract_lets x
  split
  · split
    · exact (State.switchEnd_evolves rfl _ _ _ (State.elapseTo_evolves rfl _ _ (.refl s))).advances
    · exact (State.switchEnd_evolves rfl _ _ _ (State.elapse_evolves rfl _ _ (.refl s))).advances
  · split
    · exact (State.ledgerEnd_evolves rfl _ _ _ _ (State.elapseTo_evolves rfl _ _ (.refl s))).advances
    · exact (State.ledgerFail_evolves rfl _ _ _ _ (State.elapseTo_evolves rfl _ _ (.refl s))).advances
    · exact (State.ledgerFail_evolves rfl _ _ _ _ (State.elapseTo_evolves rfl _ _ (.refl s))).advances
    · exact (State.ledgerEnd_evolves rfl _ _ _ _ (State.elapseTo_evolves rfl _ _ (.refl s))).advances
    · exact (State.ledgerEnd_evolves rfl _ _ _ _ (State.elapseTo_evolves rfl _ _ (.refl s))).advances
    · exact (State.ledgerNoResponse_evolves rfl _ _ _ (State.elapseTo_evolves rfl _ _ (.refl s))).advances
  · exact advances_self s

theorem execMirrorSweep_advances (p a c : Fin 4) (s : State) : Advances s (execMirrorSweep p a c s) := by
  unfold execMirrorSweep
  extract_lets k x s1
  split
  · exact advances_self s
  · have hs1 : Evolves everyPart s s1 := State.elapseTo_evolves rfl _ _ (.refl s)
    exact (State.taskNext_evolves rfl _ _ (State.modLp_evolves rfl _ _ _ hs1)).advances

theorem execImageScan_advances (p a c : Fin 4) (dt : Nat) (s : State) : Advances s (execImageScan p a c dt s) := by
  unfold execImageScan
  extract_lets k x
  split
  · exact advances_self s
  · exact (State.modLp_evolves rfl _ _ _ (State.elapse_evolves rfl _ _ (.refl s))).advances

theorem execLedgerJobStart_advances (p : Fin 4) (s : State) : Advances s (execLedgerJobStart p s) := by
  unfold execLedgerJobStart
  extract_lets x s0 s1
  split
  · exact advances_self s
  · have hs0 : Evolves everyPart s s0 := State.atFree_evolves rfl _ _ (.refl s)
    have hs1 : Evolves everyPart s s1 := .ite_of (State.applyRate_evolves rfl _ _ _ hs0) hs0
    exact (Evolves.ite_of hs1 (State.nextJob_evolves rfl _ _ hs1)).advances

/-! The ring (Machine/Ring.lean). -/

theorem execRxLock_advances (s : State) : Advances s (execRxLock s) := by
  unfold execRxLock
  split
  · exact advances_self s
  · exact (State.modRing_evolves rfl (.refl s) rfl rfl).advances

theorem execRxLockLost_advances (s : State) : Advances s (execRxLockLost s) := by
  unfold execRxLockLost
  split
  · exact advances_self s
  · extract_lets s1
    have hs1 : Evolves everyPart s s1 := State.modRing_evolves rfl (.refl s) rfl rfl
    exact (Evolves.ite_of hs1 (State.ringOpen_evolves rfl _ _ (State.tally_evolves rfl _ _ _ _ _ hs1))).advances

theorem execEnum_advances (f : Frame) (s : State) : Advances s (execEnum f s) := by
  unfold execEnum
  split
  · exact advances_self s
  · split
    · exact (State.ringDrop_evolves rfl _ _ _ (.refl s)).advances
    · extract_lets l pass first s1 t
      split
      · split
        · exact (State.irq_evolves rfl _ _ (State.post_evolves rfl _ _ _ _ _ (State.modRing_evolves rfl
            (State.failLoop_evolves rfl _ _ _ (.refl s)) rfl rfl))).advances
        · split
          · exact advances_self s
          · split
            · exact (State.enumPassStart_evolves rfl _ _ _ (.refl s)).advances
            · exact (State.enumDone_evolves rfl _ _ (.refl s)).advances
      · split
        · exact (State.ringForward_evolves rfl _ _ (.refl s)).advances
        · have hs1 : Evolves everyPart s s1 := State.modRing_evolves rfl (.refl s) rfl rfl
          have ht : Evolves everyPart s t.2 := State.enumTake_evolves rfl _ _ _ _ hs1
          exact (State.ringForward_evolves rfl _ _ ht).advances

theorem execMeasure_advances (f : Frame) (s : State) : Advances s (execMeasure f s) := by
  unfold execMeasure
  split
  · exact advances_self s
  · split
    · exact (State.ringDrop_evolves rfl _ _ _ (.refl s)).advances
    · exact advances_self s
    · exact advances_self s
    · extract_lets h
      exact (State.ringForward_evolves rfl _ _ (State.modRing_evolves rfl (.refl s) rfl rfl)).advances

theorem execMeasureWindowEnd_advances (delay : Option Word) (s : State) : Advances s (execMeasureWindowEnd delay s) := by
  unfold execMeasureWindowEnd
  extract_lets s1
  have closed : Evolves everyPart s s1 := State.modRing_evolves rfl (.refl s) rfl rfl
  split
  · exact advances_self s
  · split
    · split
      · exact (Evolves.ite_of (State.measureResult_evolves rfl _ _ _ _ closed) closed).advances
      · exact closed.advances
    · exact (State.ringPut_evolves rfl _ _ _ _ _ closed).advances

theorem execMeasReport_advances (delay : Option Word) (s : State) : Advances s (execMeasReport delay s) := by
  unfold execMeasReport
  split
  · extract_lets s1
    have waited : Evolves everyPart s s1 := .ite_of (State.elapseTo_evolves rfl _ _ (.refl s)) (.refl s)
    split
    · exact (State.measureResult_evolves rfl _ _ _ _ waited).advances
    · exact advances_self s
  · exact advances_self s

theorem execRingCheck_advances (hops : Fin 16) (s : State) : Advances s (execRingCheck hops s) := by
  unfold execRingCheck
  split
  · exact advances_self s
  · split
    · exact (State.ringForward_evolves rfl _ _ (.refl s)).advances
    · split
      · exact advances_self s
      · extract_lets s1
        have hs1 : Evolves everyPart s s1 := State.modRing_evolves rfl (.refl s) rfl rfl
        split
        · exact hs1.advances
        · exact (State.enumPassStart_evolves rfl _ _ _ (State.post_evolves rfl _ _ _ _ _ (State.modRing_evolves rfl hs1 rfl rfl))).advances

theorem execRingCheckTimer_advances (s : State) : Advances s (execRingCheckTimer s) := by
  unfold execRingCheckTimer
  extract_lets send
  have sent (u : State) (hu : Evolves everyPart s u) : Evolves everyPart s (send u) :=
    State.ringPut_evolves rfl _ _ _ _ _ (State.modRing_evolves rfl hu rfl rfl)
  split
  · exact advances_self s
  · split
    · split
      · exact (State.ringOpen_evolves rfl _ _ (State.elapseTo_evolves rfl _ _ (.refl s))).advances
      · exact (Evolves.ite_of (.refl s) (sent _ (.refl s))).advances
    · split
      · exact (sent _ (State.elapseTo_evolves rfl _ _ (.refl s))).advances
      · exact (sent _ (.refl s)).advances

theorem execTideLaunch_advances (s : State) : Advances s (execTideLaunch s) := by
  unfold execTideLaunch
  extract_lets st s0 s1 bad p f
  have h0 : Evolves everyPart s s0 := State.elapseTide_evolves rfl _ _ (.refl s)
  have h1 : Evolves everyPart s s1 := State.elapseTo_evolves rfl _ _ (State.ringDrain_evolves rfl _ _ h0)
  have framed : Evolves everyPart s f.2 := State.ringNew_evolves rfl _ _ _ _ _ h1
  clear_value f
  split
  · exact Evolves.advances (State.ringLeave_evolves rfl _ _ _ (.modRing framed (fun _ => rfl) fun _ => rfl))
  · exact advances_self s

theorem execTide_advances (f : Frame) (dt : Nat) (frac : Fin 16) (s : State) : Advances s (execTide f dt frac s) := by
  unfold execTide
  extract_lets s1
  have h1 : Evolves everyPart s s1 := State.elapse_evolves rfl _ _ (.refl s)
  split
  · exact advances_self s
  · split
    · exact (State.ringDrop_evolves rfl _ _ _ h1).advances
    · exact h1.advances
    · exact h1.advances
    · exact (State.forwardTide_evolves rfl _ _ (.ite_of (State.memberTide_evolves rfl _ _ h1) h1)).advances

theorem execSluiceRxFail_advances (s : State) : Advances s (execSluiceRxFail s) := by
  unfold execSluiceRxFail
  split
  · extract_lets s1
    have hs1 : Evolves everyPart s s1 := State.elapseTo_evolves rfl _ _ (.refl s)
    exact (State.sluice_evolves rfl _ _ _ (State.modRing_evolves rfl hs1 rfl rfl)).advances
  · exact advances_self s

theorem execSluiceRehold_advances (s : State) : Advances s (execSluiceRehold s) := by
  unfold execSluiceRehold
  extract_lets r
  split
  · exact advances_self s
  · split
    · exact (State.sluice_evolves rfl _ _ _ (State.elapseTo_evolves rfl _ _ (.refl s))).advances
    · exact (State.sluice_evolves rfl _ _ _ (State.elapse_evolves rfl _ _ (.refl s))).advances

theorem execSched_advances (f : Frame) (s : State) : Advances s (execSched f s) := by
  unfold execSched
  split
  · exact advances_self s
  · split
    · exact (State.ringDrop_evolves rfl _ _ _ (.refl s)).advances
    · exact advances_self s
    · exact advances_self s
    · split
      · exact (State.ringDiscard_evolves rfl _ _ (.refl s)).advances
      · extract_lets p s1 id a r
        have h1 : Evolves everyPart s s1 := State.ringForward_evolves rfl _ _ (.refl s)
        have acted : Evolves everyPart s r.1 := by
          unfold r
          split
          · exact h1
          · exact State.schedRemember_evolves rfl _ _ _ (State.schedAct_evolves rfl _ _ h1)
        split
        · exact h1.advances
        · exact (State.ringPut_evolves rfl _ _ _ _ _ acted).advances

theorem execSchedAck_advances (f : Frame) (s : State) : Advances s (execSchedAck f s) := by
  unfold execSchedAck
  split
  · exact advances_self s
  · split
    · exact (State.ringDrop_evolves rfl _ _ _ (.refl s)).advances
    · exact advances_self s
    · exact (State.ringForward_evolves rfl _ _ (.refl s)).advances
    · split
      · exact (State.ringDiscard_evolves rfl _ _ (.refl s)).advances
      · split
        · exact (State.schedSettle_evolves rfl _ (State.schedAck_evolves rfl _ _ _ (.refl s))).advances
        · exact advances_self s

theorem execSchedResend_advances (s : State) : Advances s (execSchedResend s) := by
  unfold execSchedResend
  split
  · exact advances_self s
  · split
    · exact advances_self s
    · extract_lets s1 left
      have hs1 : Evolves everyPart s s1 := State.elapseTo_evolves rfl _ _ (.refl s)
      split
      · exact (State.schedEnd_evolves rfl _ _ hs1).advances
      · refine Evolves.advances (.modRing (.ite_of (State.schedFrame_evolves rfl _ _ hs1) (.modRing hs1 ?_ ?_)) ?_ ?_)
        all_goals exact fun _ => rfl

/-! The tray bus (Machine/Tray.lean). -/

theorem execTrayCharReceived_advances (line : TrayLine) (s : State) : Advances s (execTrayCharReceived line s) := by
  unfold execTrayCharReceived
  extract_lets w dt t up
  split
  · exact advances_self s
  · split
    · exact (State.judgeTray_evolves rfl _ _ (.refl s)).advances
    · split
      · exact (State.judgeTray_evolves rfl _ _ (.refl s)).advances
      · exact (State.modTray_evolves rfl _ _ (State.elapse_evolves rfl _ _ (.refl s))).advances

theorem execRxIdleClose_advances (s : State) : Advances s (execRxIdleClose s) := by
  unfold execRxIdleClose
  split
  · exact (State.closeBlock_evolves rfl _ (State.elapseTo_evolves rfl _ _ (.refl s))).advances
  · exact advances_self s

theorem execTrayCharTransmit_advances (s : State) : Advances s (execTrayCharTransmit s) := by
  have due (n : Nat) : Evolves everyPart s (s.elapseTo n) := State.elapseTo_evolves rfl _ _ (.refl s)
  unfold execTrayCharTransmit
  extract_lets t
  split
  · split
    · exact (State.modTray_evolves rfl _ _ (State.sendBreak_evolves rfl _ _ (due _))).advances
    · exact (State.modTray_evolves rfl _ _ (State.sendChar_evolves rfl _ _ _ (due _))).advances
    · exact advances_self s
  · split
    · split
      · exact (State.sendBreak_evolves rfl _ _ (due _)).advances
      · split
        · split
          · exact advances_self s
          · exact (State.sendFrameByte_evolves rfl _ _ _ _ (.refl s)).advances
        · exact (State.modTray_evolves rfl _ _ (due _)).advances
        · exact advances_self s
    · exact advances_self s
  · exact advances_self s

theorem execFrameEnd_advances (s : State) : Advances s (execFrameEnd s) := by
  unfold execFrameEnd
  split
  · exact advances_self s
  · split
    · exact advances_self s
    · extract_lets f1 s1 failed res1
      have hs1 : Evolves everyPart s s1 := .ite_of (State.elapseTo_evolves rfl _ _ (.refl s)) (State.elapseTo_evolves rfl _ _ (.refl s))
      exact (State.modTray_evolves rfl _ _ (State.frameResult_evolves rfl _ _ _ _ _ hs1)).advances

theorem execTrayCycle_advances (answers : List TrayAnswer) (s : State) : Advances s (execTrayCycle answers s) := by
  unfold execTrayCycle
  split
  · exact advances_self s
  · exact (foldl_evolves _ _ (State.modTray_evolves rfl _ _ (State.elapseSince_evolves rfl _ _ _ (.refl s))) fun u e =>
      State.trayPair_evolves rfl _ _ _ (.refl u)).advances

/-! Loop-backs (Machine/Loop.lean). -/

theorem execLoopUnitDone_advances (b : LoopBlock) (errors : Nat) (s : State) : Advances s (execLoopUnitDone b errors s) := by
  unfold execLoopUnitDone
  extract_lets n s1 u e lead s2
  have hs1 : Evolves everyPart s s1 := State.keepLoop_evolves rfl _ _ (.refl s)
  split
  · exact hs1.advances
  · split
    · exact (State.stopLoop_evolves rfl _ _ _ (State.modLoop_evolves rfl _ _ _ hs1)).advances
    · have hs2 : Evolves everyPart s s2 := State.modLoop_evolves rfl _ _ _ (State.elapse_evolves rfl _ _ (.ite_of (State.modSlot_evolves rfl _ _ _ hs1) hs1))
      split
      · exact (State.stopLoop_evolves rfl _ _ _ hs2).advances
      · split
        · exact (State.ringPut_evolves rfl _ _ _ _ _ hs2).advances
        · exact hs2.advances

/-! Completions, links and events (Machine/Completion.lean). -/

theorem execCompletionWrite_advances (t : Fin 1024) (s : State) : Advances s (execCompletionWrite t s) := by
  unfold execCompletionWrite
  split
  · exact advances_self s
  · split
    · exact advances_self s
    · extract_lets group before waits spilled hold
      have held (stall : Bool) : Advances s (nx (hold stall)) := (State.modQp_evolves rfl _ _ _ (State.modTxn_evolves rfl _ _ _ (.refl s))).advances
      split
      · exact advances_self s
      · split
        · exact held _
        · split
          · split
            · exact held _
            · exact advances_self s
          · split
            · exact held _
            · split
              · exact (State.settleQp_evolves rfl _ _ (State.writeEntry_evolves rfl _ _ _ _ _ _ _
                  (State.setTxn_evolves rfl _ _ _ (State.emitResp_evolves rfl _ _ _ _ (.refl s))))).advances
              · split
                · exact (State.settleQp_evolves rfl _ _ (State.spillIn_evolves rfl _ _ _ _ _ (.refl s))).advances
                · exact held _

theorem execAckPersist_advances (q : Fin 512) (s : State) : Advances s (execAckPersist q s) := by
  unfold execAckPersist
  extract_lets a
  split
  · exact advances_self s
  · exact (State.burst_evolves rfl _ (State.keepAck_evolves rfl _ _ _ (State.elapseSince_evolves rfl _ _ _ (.refl s)))).advances

theorem execLinkUp_advances (p : Path) (s : State) : Advances s (execLinkUp p s) := by
  unfold execLinkUp
  extract_lets s1 s2
  have up : Evolves everyPart s s1 := State.irq_evolves rfl _ _ (State.post_evolves rfl _ _ _ _ _ (State.setLink_evolves rfl _ _ _ (.refl s)))
  have released : Evolves everyPart s s2 := State.forEach_evolves rfl _ _ _ up fun u v => State.releaseMsix_evolves rfl _ _ _ (.refl u)
  split
  · exact advances_self s
  · exact (State.forEach_evolves rfl _ _ _ released fun u q => State.drain_evolves rfl _ _ _ (.refl u)).advances

/-- The events that wait may become fewer (07 R225). -/

theorem Evolves.takeEvent {s t : State} (h : Evolves everyPart s t) {e : Event} {r : List Event} (hq : t.dev.evq = e :: r) :
    Evolves everyPart s (t.modDev fun d => { d with evq := r }) := by
  refine h.trans ⟨.every rfl, id, fun b => ?_, Nat.le_refl _, List.prefix_refl _⟩
  rw [bounded_iff] at b ⊢
  rw [hq] at b
  exact ⟨Nat.le_of_succ_le b.1, b.2⟩

theorem execEventWrite_advances (s : State) : Advances s (execEventWrite s) := by
  unfold execEventWrite
  split
  · exact advances_self s
  · next hq =>
    split
    · exact (State.writeEvent_evolves rfl _ _ ((Evolves.refl s).takeEvent hq)).advances
    · exact advances_self s

theorem execRecoveryPosting_advances (s : State) : Advances s (execRecoveryPosting s) := by
  unfold execRecoveryPosting
  split
  · exact advances_self s
  · extract_lets s1
    have posted (l : List Word) : Evolves everyPart s (s1.writeEvent l) := State.writeEvent_evolves rfl _ _ (State.modDev_evolves rfl (.refl s) rfl)
    split
    · exact Evolves.advances (.setFlow (State.modDev_evolves rfl (posted _) rfl) rfl)
    · exact Evolves.advances (State.modDev_evolves rfl (posted _) rfl)

theorem execSpillStatusRead_advances (ag : Agent) (s : State) : Advances s (execSpillStatusRead ag s) :=
  (State.readSpill_evolves rfl _ (.refl s)).reads _

/-! Card sets (Machine/Sets.lean). -/

theorem execRoundEnd_advances (t : Fin 1024) (s : State) : Advances s (execRoundEnd t s) := by
  unfold execRoundEnd
  split
  · exact advances_self s
  · split
    · extract_lets n c p
      split
      · exact advances_self s
      · split
        · exact (State.endNoCompare_evolves rfl _ _ _ _ (.refl s)).advances
        · split
          · exact (State.runRound_evolves rfl _ _ _ _ (State.modRounds_evolves rfl _ _ _ (.refl s))).advances
          · split
            · exact (State.runRound_evolves rfl _ _ _ _ (State.modRounds_evolves rfl _ _ _ (.refl s))).advances
            · exact (State.decideSet_evolves rfl _ _ _ _ (.refl s)).advances
    · exact advances_self s

/-! Tempering and conversions (Machine/Tempering.lean). -/

theorem execTemperWindowEnd_advances (i : Fin 64) (m : Measure) (s : State) : Advances s (execTemperWindowEnd i m s) := by
  unfold execTemperWindowEnd
  split
  · exact (State.edgeFull_evolves rfl _ _ (.refl s)).advances
  · split
    · exact (State.dutyFull_evolves rfl _ _ _ (.refl s)).advances
    · exact advances_self s
  · exact (State.convFull_evolves rfl _ _ (.refl s)).advances

theorem execTemperApply_advances (i : Fin 64) (at_ : ApplyPoint) (s : State) : Advances s (execTemperApply i at_ s) := by
  unfold execTemperApply
  split
  · extract_lets s1 x
    have hs1 : Evolves everyPart s s1 := State.edgeFull_evolves rfl _ _ (.refl s)
    split
    · exact (State.modSlot_evolves rfl _ _ _ hs1).advances
    · exact hs1.advances
  · extract_lets s1 x s2
    have hs1 : Evolves everyPart s s1 := State.edgeFull_evolves rfl _ _ (State.digest_evolves rfl _ _ (State.rxFlush_evolves rfl _ _ (.refl s)))
    split
    · have hs2 : Evolves everyPart s s2 := State.elapseTo_evolves rfl _ _ hs1
      exact (State.modSlot_evolves rfl _ _ _ hs2).advances
    · exact hs1.advances
  · split
    · exact advances_self s
    · exact (State.modSlot_evolves rfl _ _ _ (.refl s)).advances

theorem execConvSample_advances (p : Fin 8) (code : BitVec 12) (s : State) : Advances s (execConvSample p code s) := by
  unfold execConvSample
  extract_lets s0
  have taken : Evolves everyPart s s0 := State.convTakeUp_evolves rfl _ _ (.refl s)
  split
  · exact advances_self s
  · exact (State.convTakeUp_evolves rfl _ _ (State.convGive_evolves rfl _ _ _ _ (State.modPolder_evolves rfl _ _ _
      (State.elapseTo_evolves rfl _ _ taken)))).advances

/-! Anvil instructions: memory and control (Machine/AnvilMem.lean). -/

theorem execB_advances (k : Fin 4) (cond : Fin 16) (disp : BitVec 22) (s : State) : Advances s (execB k cond disp s) :=
  run_advances s k _ fun u => by
    dsimp only
    split
    · exact .refl u
    · exact .refl u

theorem execMfs_advances (k : Fin 4) (rd : Fin 32) (sr : Byte) (s : State) : Advances s (execMfs k rd sr s) :=
  run_advances s k _ fun u => State.modCore_evolves rfl _ _ _ (State.readSr_evolves rfl u k sr.toNat (.refl u))

theorem execMts_advances (k : Fin 4) (sr : Byte) (ra : Fin 32) (s : State) : Advances s (execMts k sr ra s) :=
  run_advances s k _ fun u => .ite_of (State.writeSr_evolves rfl _ _ _ _ (.refl u)) (.refl u)

theorem execWait_advances (k : Fin 4) (s : State) : Advances s (execWait k s) :=
  run_advances s k _ fun u => by
    split
    · exact .refl u
    · exact State.noteCores_evolves rfl _ (State.modCore_evolves rfl _ _ _ (.refl u))

theorem execFence_advances (k : Fin 4) (s : State) : Advances s (execFence k s) :=
  run_advances s k _ fun u => by
    split
    · trivial
    · exact State.drainStores_evolves rfl _ _ _ (.refl u)

theorem execUndefinedOpcode_advances (k : Fin 4) (word : Word) (s : State) : Advances s (execUndefinedOpcode k word s) := by
  have trapped (code : Nat) (pc addr ex : Word) : Advances s (nx (s.trap k.val code pc addr ex)) :=
    (State.trap_evolves rfl _ _ _ _ _ _ (.refl s)).advances
  unfold execUndefinedOpcode
  split
  · exact advances_self s
  · split
    · dsimp only
      split
      · exact advances_self s
      · split
        · exact trapped _ _ _ _
        · exact trapped _ _ _ _
    · exact run_advances s k _ fun u => Evolves.refl u

/-! Cores (Machine/CoreEvents.lean). -/

theorem execInterruptEntry_advances (k : Fin 4) (s : State) : Advances s (execInterruptEntry k s) := by
  unfold execInterruptEntry
  extract_lets c
  split
  · exact (State.trap_evolves rfl _ _ _ _ _ _ (.refl s)).advances
  · exact advances_self s

theorem execCoreWake_advances (k : Fin 4) (s : State) : Advances s (execCoreWake k s) := by
  unfold execCoreWake
  extract_lets c
  split
  · exact (State.modCore_evolves rfl _ _ _ (.refl s)).advances
  · exact advances_self s

theorem execWatchdogExpiry_advances (k : Fin 4) (s : State) : Advances s (execWatchdogExpiry k s) := by
  unfold execWatchdogExpiry
  extract_lets c
  split
  · exact advances_self s
  · extract_lets s1 s2 s3
    have hs1 : Evolves everyPart s s1 := State.elapseTide_evolves rfl _ _ (.refl s)
    split
    · have hs2 : Evolves everyPart s s2 := State.tally_evolves rfl _ _ _ _ _ (State.post_evolves rfl _ _ _ _ _ hs1)
      have hs3 : Evolves everyPart s s3 := State.noteCores_evolves rfl _ (State.modCore_evolves rfl _ _ _ hs2)
      exact (State.trap_evolves rfl _ _ _ _ _ _ hs3).advances
    · exact hs1.advances

theorem execXchgCmdDataRead_advances (ag : Agent) (i : Fin 64) (s : State) : Advances s (execXchgCmdDataRead ag i s) := by
  unfold execXchgCmdDataRead
  split
  · exact (State.readXchg_evolves rfl _ _ _ (.refl s)).reads _
  · exact advances_self s

theorem execXchgLimitExpiry_advances (i : Fin 64) (s : State) : Advances s (execXchgLimitExpiry i s) := by
  unfold execXchgLimitExpiry
  extract_lets x due s1
  split
  · have hs1 : Evolves everyPart s s1 := State.elapseTide_evolves rfl _ _ (.refl s)
    split
    · exact (State.abandon_evolves rfl _ _ _ _ _ hs1).advances
    · exact hs1.advances
  · exact advances_self s

theorem execScrubBurst_advances (bad : Option Word) (s : State) : Advances s (execScrubBurst bad s) := by
  unfold execScrubBurst
  split
  · exact advances_self s
  · extract_lets f s1
    have granted : Evolves everyPart s s1 := .setFlow (.refl s) rfl
    split
    · exact granted.advances
    · exact Evolves.advances (State.eccError_evolves rfl _ _ (.setMram (State.spoil_evolves rfl _ _ granted) rfl))

/-! The dictionary service (Machine/DictSvc.lean). -/

theorem execDictReq_advances (f : Frame) (s : State) : Advances s (execDictReq f s) := by
  have discarded (n : Nat) : Advances s (nx (s.ringDiscard n)) := (State.ringDiscard_evolves rfl _ _ (.refl s)).advances
  unfold execDictReq
  split
  · exact advances_self s
  · split
    · exact (State.ringDrop_evolves rfl _ _ _ (.refl s)).advances
    · exact (State.ringForward_evolves rfl _ _ (.refl s)).advances
    · split
      · exact (State.service_evolves rfl _ (State.endReq_evolves rfl _ _ _ _ (.refl s))).advances
      · exact advances_self s
    · split
      · exact discarded _
      · dsimp only
        split
        · exact (State.respondAgain_evolves rfl _ _ (.refl s)).advances
        · split
          · exact discarded _
          · split
            · exact discarded _
            · next hr =>
              exact (State.service_evolves rfl _ (State.rxPush_evolves rfl _ _ (State.modPeer_evolves rfl _ _ _ (.refl s)) (Nat.lt_of_not_le hr))).advances

theorem execDictRsp_advances (f : Frame) (s : State) : Advances s (execDictRsp f s) := by
  have discarded (n : Nat) : Advances s (nx (s.ringDiscard n)) := (State.ringDiscard_evolves rfl _ _ (.refl s)).advances
  unfold execDictRsp
  split
  · exact advances_self s
  · split
    · exact (State.ringDrop_evolves rfl _ _ _ (.refl s)).advances
    · exact (State.ringForward_evolves rfl _ _ (.refl s)).advances
    · exact advances_self s
    · split
      · exact discarded _
      · split
        · exact discarded _
        · next hr => exact (State.service_evolves rfl _ (State.rxPush_evolves rfl _ _ (.refl s) (Nat.lt_of_not_le hr))).advances

theorem execDictRetry_advances (src : Agent) (s : State) : Advances s (execDictRetry src s) := by
  unfold execDictRetry
  split
  · split
    · exact advances_self s
    · extract_lets s1
      have hs1 : Evolves everyPart s s1 := State.elapseTo_evolves rfl _ _ (.refl s)
      exact (Evolves.ite_of (State.resendSegment_evolves rfl _ _ hs1) (State.service_evolves rfl _ (State.endReq_evolves rfl _ _ _ _ hs1))).advances
  · exact advances_self s

theorem execPubkeyVerifyDone_advances (s : State) : Advances s (execPubkeyVerifyDone s) := by
  unfold execPubkeyVerifyDone
  split
  · exact advances_self s
  · extract_lets s1
    have hs1 : Evolves everyPart s s1 := State.modLife_evolves rfl _ _ (.refl s)
    split
    · exact (State.service_evolves rfl _ (State.endRespond_evolves rfl _ _ hs1)).advances
    · exact (State.endPoint_evolves rfl _ _ hs1).advances
    · exact hs1.advances

theorem execChallengeExpiry_advances (c : Path) (s : State) : Advances s (execChallengeExpiry c s) := by
  unfold execChallengeExpiry
  extract_lets n
  split
  · exact advances_self s
  · split
    · exact advances_self s
    · exact (State.modMb_evolves rfl _ _ _ (State.elapseTide_evolves rfl _ _ (.refl s))).advances

theorem execLockoutEnd_advances (c : Path) (s : State) : Advances s (execLockoutEnd c s) := by
  unfold execLockoutEnd
  extract_lets n
  split
  · exact advances_self s
  · exact (State.modMb_evolves rfl _ _ _ (State.elapseTide_evolves rfl _ _ (.refl s))).advances

/-! Resets, the start, keys and audit (Machine/Life.lean). -/

theorem execPowerRelease_advances (s : State) : Advances s (execPowerRelease s) := by
  unfold execPowerRelease
  split
  · exact ((State.elapse_evolves rfl s ms (.refl s)).setBoot _).advances
  · exact advances_self s

theorem execSysrstRelease_advances (s : State) : Advances s (execSysrstRelease s) :=
  ((Evolves.refl s).setBoot _).advances

theorem twf_releaseAll (l t : Table Slot) (ht : twf {} t = true) : twf {} (l.foldl (fun t e => tset {} t e.1 e.2.release) t) = true := by
  induction l generalizing t with
  | nil => exact ht
  | cons e l ih => exact ih _ (twf_tset _ _ _ _ ht)

theorem execSlotLogicRelease_advances (s : State) : Advances s (execSlotLogicRelease s) := by
  unfold execSlotLogicRelease
  split
  · refine Evolves.advances (.raw (.refl s) rfl rfl rfl (.every rfl) fun w => ?_)
    simp only [State.wf_iff] at w ⊢
    simp only [w, true_and, and_true]
    exact twf_releaseAll _ _ rfl
  · exact advances_self s

theorem execStartZero_advances (s : State) : Advances s (execStartZero s) :=
  (Evolves.ite_of ((Evolves.refl s).setBoot _) (.refl s)).advances

theorem execCorePllLock_advances (s : State) : Advances s (execCorePllLock s) :=
  Evolves.advances (.ite_of (.raw (.refl s) rfl rfl rfl (.every rfl) id) (.refl s))

theorem execMemoryWipe_advances (ok : Bool) (s : State) : Advances s (execMemoryWipe ok s) := by
  unfold execMemoryWipe
  split
  · exact advances_self s
  · split
    · exact (State.wipeFailed_evolves rfl _ _ (.refl s)).advances
    · exact (State.loadDiverged_evolves rfl _ (State.modLife_evolves rfl _ _
        ((State.wipeMemories_evolves rfl s (.refl s)).setBoot _))).advances

theorem execLifecycleRecordRead_advances (s : State) : Advances s (execLifecycleRecordRead s) := by
  unfold execLifecycleRecordRead
  split
  · exact advances_self s
  · exact (Evolves.ite_of (State.beginStep4_evolves rfl _ ((Evolves.refl s).setBoot _)) ((Evolves.refl s).setBoot _)).advances

theorem execMramWipeDone_advances (ok : Bool) (wipeUs : Word) (s : State) : Advances s (execMramWipeDone ok wipeUs s) := by
  unfold execMramWipeDone
  split
  · exact advances_self s
  · split
    · exact advances_self s
    · split
      · exact (State.wipeFailed_evolves rfl _ _ (State.wipeMram_evolves rfl _ (.refl s))).advances
      · exact (State.beginStep4_evolves rfl _ (State.lifePhase2_evolves rfl _ _ _ (State.wipeMram_evolves rfl _ (.refl s)))).advances

theorem execJournalScan_advances (s : State) : Advances s (execJournalScan s) := by
  unfold execJournalScan
  split
  · exact advances_self s
  · extract_lets last f s1 sat l s2 s3 s4
    have scanned : Evolves everyPart s s1 := .setFlow (.refl s) rfl
    have counted : Evolves everyPart s s2 := State.modDev_evolves rfl scanned rfl
    have answered : Evolves everyPart s s3 :=
      foldl_evolves _ _ counted fun u r => State.orphanSet_evolves rfl _ _ (State.commitRec_evolves rfl _ _ (.refl u))
    have listed : Evolves everyPart s s4 :=
      State.modDev_evolves rfl (State.tally_evolves rfl _ _ _ _ _ (State.tally_evolves rfl _ _ _ _ _ answered)) rfl
    exact Evolves.advances (.raw listed rfl rfl rfl (.every rfl) id)

theorem execImageCheck_advances (header payload : List Byte) (readError : Bool) (s : State) : Advances s (execImageCheck header payload readError s) := by
  unfold execImageCheck
  split
  · exact advances_self s
  · extract_lets place
    split
    · exact (State.bootImage_evolves rfl _ _ _ _ (.refl s)).advances
    · extract_lets s0 s1
      have hs0 : Evolves everyPart s s0 := .ite_of (.refl s) (State.setSramBytes_evolves rfl _ _ _ (.refl s))
      have hs1 : Evolves everyPart s s1 := State.irq_evolves rfl _ _ (State.post_evolves rfl _ _ _ _ _ (State.modLife_evolves rfl _ _ hs0))
      exact (Evolves.ite_of hs1 (State.haltStart_evolves rfl _ _ hs1)).advances

theorem execStartEntry_advances (s : State) : Advances s (execStartEntry s) := by
  have entered (b : Boot) : Evolves everyPart s { s.hashAll s.auditBacklog with boot := b } := (State.hashAll_evolves rfl _ _ (.refl s)).setBoot b
  unfold execStartEntry
  split
  · exact advances_self s
  · have logged (b : Boot) (e : AuditEntry) := State.auditAdd_evolves (ps := everyPart) rfl _ .security e (entered b)
    dsimp only
    split
    · exact (logged _ _).advances
    · exact (State.modLife_evolves rfl _ _ (State.irq_evolves rfl _ _ (State.post_evolves rfl _ _ _ _ _
        (State.auditAdd_evolves rfl _ _ _ (logged _ _))))).advances

theorem execDictionaryLoad_advances (s : State) : Advances s (execDictionaryLoad s) := by
  unfold execDictionaryLoad
  split
  · exact advances_self s
  · have h1 : Evolves everyPart s (s.forEach s.loadIndices fun s idx => s.forEach (loadSubs idx (s.dictMax idx)) fun s sub => s.loadEntry idx sub) :=
      State.forEach_evolves rfl _ _ _ (.refl s) fun u _ => State.forEach_evolves rfl _ _ _ (.refl u) fun v _ => State.loadEntry_evolves rfl _ _ _ (.refl v)
    have h2 := Evolves.ite_of (c := s.lifeState = .retired)
      (State.forEach_evolves rfl _ (List.range 64) (fun s i => (s.cmdPark i false).2) h1 fun u i => State.cmdPark_evolves rfl _ _ _ (.refl u)) h1
    exact (State.forEach_evolves rfl _ _ _ (h2.setBoot _) fun u k => State.loadWdog_evolves rfl _ _ (.refl u)).advances

theorem execCountPersist_advances (s : State) : Advances s (execCountPersist s) := by
  unfold execCountPersist
  split
  · exact advances_self s
  · exact (State.burst_evolves rfl _ (State.keepCounts_evolves rfl _ (State.elapseSince_evolves rfl _ _ _ (.refl s)))).advances

theorem execDebugOpened_advances (ok : Bool) (wipeUs : Word) (s : State) : Advances s (execDebugOpened ok wipeUs s) := by
  unfold execDebugOpened
  split
  · exact advances_self s
  · extract_lets s1
    have hs1 : Evolves everyPart s s1 := State.wipeMram_evolves rfl _ (.refl s)
    split
    · exact (State.irq_evolves rfl _ _ (State.post_evolves rfl _ _ _ _ _ (State.modLife_evolves rfl _ _ hs1))).advances
    · split
      · exact (State.modLife_evolves rfl _ _ hs1).advances
      · exact (State.modLife_evolves rfl _ _ hs1).advances

theorem execCryptoDone_advances (s : State) : Advances s (execCryptoDone s) := by
  unfold execCryptoDone
  extract_lets c s1
  have stored : Evolves everyPart s s1 := by
    unfold s1
    split
    · exact State.setSramBytes_evolves rfl _ _ _ (.refl s)
    · exact .refl s
  split
  · exact advances_self s
  · exact (State.line_evolves rfl _ _ (State.modCry_evolves rfl _ _ stored)).advances

theorem execRngRead_advances (k : Fin 4) (s : State) : Advances s (execRngRead k s) := (State.readCry_evolves rfl _ _ (.refl s)).reads _

theorem execRngFail_advances (code : Fin 3) (s : State) : Advances s (execRngFail code s) := by
  unfold execRngFail
  split
  · exact advances_self s
  · exact (State.line_evolves rfl _ _ (State.irq_evolves rfl _ _ (State.post_evolves rfl _ _ _ _ _ (State.tally_evolves rfl _ _ _ _ _
      (State.modLife_evolves rfl _ _ (.refl s)))))).advances

/-! The test access port (Machine/Tap.lean). -/

theorem execDbgOpen_advances (s : State) : Advances s (execDbgOpen s) := by
  unfold execDbgOpen
  extract_lets s1 s2
  have hs1 : Evolves everyPart s s1 := State.loadIr_evolves rfl _ _ _ (.refl s)
  split
  · exact hs1.advances
  · have hs2 : Evolves everyPart s s2 := State.line_evolves rfl _ _ hs1
    split
    · exact hs2.advances
    · exact (State.beginOpening_evolves rfl _ _ (State.auditAdd_evolves rfl _ _ _ hs2)).advances

theorem execDevReset_advances (s : State) : Advances s (execDevReset s) := by
  unfold execDevReset
  extract_lets s1
  have hs1 : Evolves everyPart s s1 := State.loadIr_evolves rfl _ _ _ (.refl s)
  exact (Evolves.ite_of (State.deviceReset_evolves rfl _ _ _ _ _ hs1) hs1).advances

theorem execCoreCtrl_advances (w : Byte) (s : State) : Advances s (execCoreCtrl w s) := by
  unfold execCoreCtrl
  split
  · exact (State.writeCoreRun_evolves rfl _ _ (State.loadIr_evolves rfl _ _ _ (.refl s))).advances
  · exact (State.loadIr_evolves rfl _ _ _ (.refl s)).advances

theorem execMemAccess_advances (isWrite : Bool) (addr data : Word) (s : State) : Advances s (execMemAccess isWrite addr data s) := by
  unfold execMemAccess
  extract_lets s1 x r
  generalize busOk false (if isWrite then .store else .load) x 4 = ok
  have loaded : Evolves everyPart s s1 := State.loadIr_evolves rfl _ _ _ (.refl s)
  split
  · exact loaded.advances
  · split
    · exact (State.modTap_evolves rfl _ _ loaded).advances
    · split
      · exact (State.modTap_evolves rfl _ _ (State.eccError_evolves rfl _ _ loaded)).advances
      · split
        · exact (State.modTap_evolves rfl _ _ (State.store_evolves rfl _ _ _ _ _ loaded)).advances
        · exact (State.modTap_evolves rfl _ _ (State.load_evolves rfl _ _ _ _ loaded)).advances

/-- Every command is a next state, into which the state evolves. -/
theorem exec_advances (c : Instr) (s : State) : Advances s (exec c s) := by
  cases c with
  | timerWrap t => exact execTimerWrap_advances t s
  | timerCompare t => exact execTimerCompare_advances t s
  | timerCapture t src dt => exact execTimerCapture_advances t src dt s
  | timerMakeup t dt => exact execTimerMakeup_advances t dt s
  | start _ _ _ | stop _ _ _ | clrCap _ _ _ | capSoft _ _ _ => exact (State.writeTimCtrl_evolves rfl _ _ _ _ (.refl s)).advances
  | timCountWrite _ _ _ => exact (State.writeCount_evolves rfl _ _ _ _ (.refl s)).advances
  | timCountRead ag t dt => exact execTimCountRead_advances ag t dt s
  | timReloadWrite _ _ _ => exact (State.writeReload_evolves rfl _ _ _ _ (.refl s)).advances
  | timCmpWrite _ _ _ => exact (State.writeCmp_evolves rfl _ _ _ _ (.refl s)).advances
  | timCapValRead ag t => exact execTimCapValRead_advances ag t s
  | charTransmit i line => exact execCharTransmit_advances i line s
  | charReceive i e => exact execCharReceive_advances i e s
  | txErrsigCheck i wave late => exact execTxErrsigCheck_advances i wave late s
  | txRepeat r => exact execTxRepeat_advances r s
  | charRawWrite _ _ _ => exact (State.writeRaw_evolves rfl _ _ _ _ (.refl s)).advances
  | charRawRead ag i => exact execCharRawRead_advances ag i s
  | activate _ _ _ | warmReset _ _ _ | deactivate _ _ _ | park _ _ _ | unpark _ _ _ | faultClear _ _ _ | cancelActAt _ _ _ | cancelDeactAt _ _ _ =>
    exact (State.writeSlotCtrl_evolves rfl _ _ _ _ (.refl s)).advances
  | actAtHiWrite _ _ _ => exact (State.writeActAtHi_evolves rfl _ _ _ _ (.refl s)).advances
  | deactAtHiWrite _ _ _ => exact (State.writeDeactAtHi_evolves rfl _ _ _ _ (.refl s)).advances
  | actAtDue i => exact execActAtDue_advances i s
  | deactAtDue i => exact execDeactAtDue_advances i s
  | presAbsent i => exact execPresAbsent_advances i s
  | presPresentRead i => exact execPresPresentRead_advances i s
  | presDebounceDone i => exact execPresDebounceDone_advances i s
  | vccRampStart i => exact execVccRampStart_advances i s
  | settleRequest i => exact execSettleRequest_advances i s
  | settleCheckDone i => exact execSettleCheckDone_advances i s
  | ioRelease i => exact execIoRelease_advances i s
  | rstRise i => exact execRstRise_advances i s
  | atrAbsent _ | atrCharTimeout _ | ppsWaitExpired _ | wtExpired _ | cwtExpired _ | bwtExpired _ => exact (State.expired_evolves rfl _ _ _ (.refl s)).advances
  | clockStop i => exact execClockStop_advances i s
  | clockRestartDone i => exact execClockRestartDone_advances i s
  | deactStep i => exact execDeactStep_advances i s
  | vccBelow04 i => exact execVccBelow04_advances i s
  | reactGapEnd i => exact execReactGapEnd_advances i s
  | ocTrip _ | ocFoldback _ | undervoltage _ | clkReadback _ | rstReadback _ => exact quenchIf_advances _ _ _ _
  | quenchStep i => exact execQuenchStep_advances i s
  | dischargeGrant => exact execDischargeGrant_advances s
  | dischTimeout i => exact execDischTimeout_advances i s
  | seepLeak l => exact execSeepLeak_advances l s
  | tempSample p celsius => exact execTempSample_advances p celsius s
  | polderThermRead a p => exact execPolderThermRead_advances a p s
  | railH p => exact execRailH_advances p s
  | railL p => exact execRailL_advances p s
  | railClear _ _ => exact (State.modPolder_evolves rfl _ _ _ (.refl s)).advances
  | ppsResponse i => exact execPpsResponse_advances i s
  | procedureByte _ => exact (State.t0Proc_evolves rfl _ _ (State.rxFlush_evolves rfl _ _ (.refl s))).advances
  | t0TpduEnd _ => exact (State.t0Sw2_evolves rfl _ _ (State.rxFlush_evolves rfl _ _ (.refl s))).advances
  | t1BlockReceived _ => exact (State.t1Whole_evolves rfl _ _ (State.rxFlush_evolves rfl _ _ (.refl s))).advances
  | exchLimit i => exact execExchLimit_advances i s
  | tideMarkEdge dt => exact execTideMarkEdge_advances dt s
  | tideHoldover => exact execTideHoldover_advances s
  | tidePauseEnd => exact execTidePauseEnd_advances s
  | tideNowRead ag => exact execTideNowRead_advances ag s
  | tideSetHiWrite _ _ => exact (State.writeTideSetHi_evolves rfl _ _ _ (.refl s)).advances
  | cancelSet _ _ => exact (State.writeTideCtrl_evolves rfl _ _ _ (.refl s)).advances
  | talarmHiWrite _ _ _ => exact (State.writeAlarmHi_evolves rfl _ _ _ _ (.refl s)).advances
  | cancel _ _ => exact (State.writeAlarmCtrl_evolves rfl _ _ _ (.refl s)).advances
  | talarmDue n => exact execTalarmDue_advances n s
  | slotDispatch i => exact execSlotDispatch_advances i s
  | intentCommit t => exact execIntentCommit_advances t s
  | outcomeCommit t => exact execOutcomeCommit_advances t s
  | smWrap t => exact execSmWrap_advances t s
  | smUnwrap t => exact execSmUnwrap_advances t s
  | qpEnable _ _ _ | qpDisable _ _ _ | resume _ _ _ | resumeAt _ _ _ => exact (State.writeQpCtrl_evolves rfl _ _ _ (.refl s)).advances
  | sqTailDoorbell _ _ _ => exact (State.sqDoorbell_evolves rfl _ _ _ (.refl s)).advances
  | sqFetch q r => exact execSqFetch_advances q r s
  | cardCmd t => exact execCardCmd_advances t s
  | openSession t => exact execOpenSession_advances t s
  | closeSession t => exact execCloseSession_advances t s
  | nop t => exact execNop_advances t s
  | cmdGather t r => exact execCmdGather_advances t r s
  | ledgerPresPresentRead p a => exact execLedgerPresPresentRead_advances p a s
  | ledgerPresDebounced p a => exact execLedgerPresDebounced_advances p a s
  | ledgerPresAbsent p a => exact execLedgerPresAbsent_advances p a s
  | removalCleanup p answers strays => exact execRemovalCleanup_advances p answers strays s
  | identification p found ocrReady => exact execIdentification_advances p found ocrReady s
  | cardReadyPoll p ready => exact execCardReadyPoll_advances p ready s
  | ledgerRead _ | ledgerWrite _ => exact (State.ledgerStage3_evolves rfl _ _ _ (.refl s)).advances
  | ledgerResponse p r => exact execLedgerResponse_advances p r s
  | ledgerBlock p data crcOk => exact execLedgerBlock_advances p data crcOk s
  | crcStatusToken p positive => exact execCrcStatusToken_advances p positive s
  | busyEnd p => exact execBusyEnd_advances p s
  | ledgerTimeout p => exact execLedgerTimeout_advances p s
  | mirrorSweep p a c => exact execMirrorSweep_advances p a c s
  | imageScan p a c dt => exact execImageScan_advances p a c dt s
  | ledgerJobStart p => exact execLedgerJobStart_advances p s
  | identify _ _ _ | format _ _ _ _ | lpUnbind _ _ _ => exact (State.writeLpCtrl_evolves rfl _ _ _ _ (.refl s)).advances
  | lpCfgWrite _ _ _ => exact (State.granted_evolves rfl _ _ _ _ (.refl s) fun _ => State.writeLpCfg_evolves rfl _ _ _ (.refl _)).advances
  | rxLock => exact execRxLock_advances s
  | rxLockLost => exact execRxLockLost_advances s
  | loss => exact (Evolves.ite_of (State.ringOpen_evolves rfl _ _ (.refl s)) (.refl s)).advances
  | enum f => exact execEnum_advances f s
  | measure f => exact execMeasure_advances f s
  | measureWindowEnd delay => exact execMeasureWindowEnd_advances delay s
  | measReport delay => exact execMeasReport_advances delay s
  | ringCheck hops => exact execRingCheck_advances hops s
  | ringCheckTimer => exact execRingCheckTimer_advances s
  | tideLaunch => exact execTideLaunch_advances s
  | tide f dt frac => exact execTide_advances f dt frac s
  | sluiceRxFail => exact execSluiceRxFail_advances s
  | sluiceRehold => exact execSluiceRehold_advances s
  | sched f => exact execSched_advances f s
  | schedAck f => exact execSchedAck_advances f s
  | schedResend => exact execSchedResend_advances s
  | enumerate _ _ | leave _ _ | ringRejoin _ _ | ringUnbind _ _ | schedGo _ _ => exact (State.writeRingCtrl_evolves rfl _ _ _ (.refl s)).advances
  | ringTxCommit _ | ringRxPop _ => exact (State.writeRingQueue_evolves rfl _ _ _ _ (.refl s)).advances
  | trayCharReceived line => exact execTrayCharReceived_advances line s
  | rxIdleClose => exact execRxIdleClose_advances s
  | trayCharTransmit => exact execTrayCharTransmit_advances s
  | txBreak _ _ | flushRx _ _ | frameGo _ _ | abort _ _ => exact (State.writeTrayCtrl_evolves rfl _ _ _ (.refl s)).advances
  | frameEnd => exact execFrameEnd_advances s
  | trayTx _ _ => exact (State.granted_evolves rfl _ _ _ _ (.refl s) fun _ => State.writeTrayTx_evolves rfl _ _ (.refl _)).advances
  | trayBaudWrite _ _ => exact (State.granted_evolves rfl _ _ _ _ (.refl s) fun _ => State.writeTrayBaud_evolves rfl _ _ (.refl _)).advances
  | rxRdWrite _ _ => exact (State.granted_evolves rfl _ _ _ _ (.refl s) fun _ => State.writeRxRd_evolves rfl _ _ (.refl _)).advances
  | trayCycle answers => exact execTrayCycle_advances answers s
  | loopGo _ _ _ | loopStop _ _ _ => exact (State.writeLoopCtrl_evolves rfl _ _ _ _ (.refl s)).advances
  | loopUnitDone b errors => exact execLoopUnitDone_advances b errors s
  | mbAbort _ _ _ => exact (State.writeMb_evolves rfl _ _ _ _ _ (.refl s)).advances
  | completionWrite t => exact execCompletionWrite_advances t s
  | cqHeadDoorbell _ _ _ => exact (State.cqDoorbell_evolves rfl _ _ _ (.refl s)).advances
  | ackPersist q => exact execAckPersist_advances q s
  | linkDown _ _ => exact (State.dropLink_evolves rfl _ _ (.ite_of (State.resetFunction_evolves rfl _ _ (.refl s)) (.refl s))).advances
  | linkUp p => exact execLinkUp_advances p s
  | eventWrite => exact execEventWrite_advances s
  | recoveryPosting => exact execRecoveryPosting_advances s
  | evrCfgWrite _ _ => exact (State.writeEvrCfg_evolves rfl _ _ (.refl s)).advances
  | evrHead _ _ => exact (State.writeEvrHead_evolves rfl _ _ (.refl s)).advances
  | irqMaskWrite _ _ => exact (State.writeIrqMask_evolves rfl _ _ (.refl s)).advances
  | spillStatusRead a => exact execSpillStatusRead_advances a s
  | setEnable _ _ _ | setDisable _ _ _ | clearDiverged _ _ _ | setRejoin _ _ _ | eject _ _ _ =>
    exact (State.writeSetCtrl_evolves rfl _ _ _ _ (.refl s)).advances
  | roundEnd t => exact execRoundEnd_advances t s
  | temperWindowEnd i m => exact execTemperWindowEnd_advances i m s
  | temperApply i at_ => exact execTemperApply_advances i at_ s
  | go _ _ _ => exact (State.writeConvReq_evolves rfl _ _ _ _ (.refl s)).advances
  | convSample p code => exact execConvSample_advances p code s
  | registerWrite _ _ _ => exact (State.busWriteSized_evolves rfl _ _ _ _ _ (.refl s)).advances
  | add k rd ra rb | adc k rd ra rb | sub k rd ra rb | sbc k rd ra rb | neg k rd ra | cmp k ra rb | and k rd ra rb | or k rd ra rb | xor k rd ra rb
  | andn k rd ra rb | tst k ra rb | shl k rd ra rb | shr k rd ra rb | sar k rd ra rb | rol k rd ra rb | ror k rd ra rb | mul k rd ra rb
  | mulh k rd ra rb | mulhu k rd ra rb | sextB k rd ra | sextH k rd ra | clz k rd ra | addi k rd ra imm | andi k rd ra imm | ori k rd ra imm
  | xori k rd ra imm | cmpi k ra imm | tsti k ra imm | shli k rd ra cnt long | shri k rd ra cnt long | sari k rd ra cnt long | roli k rd ra cnt long
  | rori k rd ra cnt long | muli k rd ra imm => exact run_advances _ _ _ (fun u =>
    aluOp_evolved rfl _ _ _ u)
  | div k rd ra rb | divu k rd ra rb | rem k rd ra rb | remu k rd ra rb => exact run_advances _ _ _ (fun u => divOp_evolved rfl _ _ _ _ _ u)
  | lui k rd imm | li k rd imm => exact run_advances _ _ _ (fun u => movOp_evolved rfl _ _ _ u)
  | ldB k rd m | ldBu k rd m | ldH k rd m | ldHu k rd m | ldW k rd m => exact run_advances _ _ _ (fun u => loadOp_evolved rfl _ _ _ _ _ _ u)
  | stB k rd m | stH k rd m | stW k rd m => exact run_advances _ _ _ (fun u => storeOp_evolved rfl _ _ _ _ _ u)
  | swapW k rd m => exact run_advances _ _ _ (fun u => swapOp_evolved rfl _ _ _ _ u)
  | movsB k m | movsW k m => exact run_advances _ _ _ (fun u => movsOp_evolved rfl _ _ _ _ u)
  | b k cond disp => exact execB_advances k cond disp s
  | bl k disp => exact run_advances s _ _ fun u => State.modCore_evolves rfl _ _ _ (.refl u)
  | jr k ra => exact run_advances s _ _ fun u => Evolves.refl u
  | jlr k rd ra => exact run_advances s _ _ fun u => State.modCore_evolves rfl _ _ _ (.refl u)
  | mfs k rd sr => exact execMfs_advances k rd sr s
  | mts k sr ra => exact execMts_advances k sr ra s
  | wait k => exact execWait_advances k s
  | fence k => exact execFence_advances k s
  | eret k => exact run_advances s _ _ fun u => State.modCore_evolves rfl _ _ _ (.refl u)
  | halt k => exact run_advances s _ _ fun u => State.haltCore_evolves rfl _ _ (.refl u)
  | rep _ | repl _ => exact (State.prefix_evolves rfl _ _ _ (.refl s)).advances
  | undefinedOpcode k word => exact execUndefinedOpcode_advances k word s
  | fadd k rd ra rb | fsub k rd ra rb | fmul k rd ra rb | fdiv k rd ra rb | fsqrt k rd ra | fmadd k rd ra rb | fmin k rd ra rb | fmax k rd ra rb
  | fcmp k ra rb | fcvtSw k rd ra | fcvtWs k rd ra | fcvtzWs k rd ra => exact run_advances _ _ _ (fun u =>
    fpOp_evolved rfl _ _ _ u)
  | fabs k rd ra => exact run_advances s _ _ fun u => movOp_evolved rfl _ _ _ u
  | fneg k rd ra => exact run_advances s _ _ fun u => movOp_evolved rfl _ _ _ u
  | interruptEntry k => exact execInterruptEntry_advances k s
  | coreWake k => exact execCoreWake_advances k s
  | watchdogExpiry k => exact execWatchdogExpiry_advances k s
  | coreRunWrite _ _ => exact (Evolves.ite_of (State.writeCoreRun_evolves rfl _ _ (.refl s)) (.refl s)).advances
  | ipi _ _ => exact (Evolves.ite_of (State.writeIpi_evolves rfl _ _ (.refl s)) (.refl s)).advances
  | fwEvent _ _ => exact (State.writeFwEvent_evolves rfl _ _ _ (.refl s)).advances
  | xchgEnd _ _ _ | xchgRespData _ _ _ | xchgRespLenWrite _ _ _ => exact (Evolves.ite_of (State.writeXchg_evolves rfl _ _ _ _ (.refl s)) (.refl s)).advances
  | xchgCmdDataRead ag i => exact execXchgCmdDataRead_advances ag i s
  | xchgLimitExpiry i => exact execXchgLimitExpiry_advances i s
  | mramStoreCommit _ => exact (Evolves.ite_of (.refl s) (State.commitStore_evolves rfl _ _ (.refl s))).advances
  | scrubBurst bad => exact execScrubBurst_advances bad s
  | dictReq f => exact execDictReq_advances f s
  | dictRsp f => exact execDictRsp_advances f s
  | dictRetry src => exact execDictRetry_advances src s
  | pubkeyVerifyDone => exact execPubkeyVerifyDone_advances s
  | read _ | write _ | default _ | challenge _ | respond _ | logout _ | endLogin _ | transitionRequest _ | debugOpen _ | keyLoad _ | keyGenerate _
  | keyErase _ | exportedUpto _ | clear _ =>
    exact (State.serveIf_evolves rfl _ _ _ (.refl s)).advances
  | challengeExpiry c => exact execChallengeExpiry_advances c s
  | lockoutEnd c => exact execLockoutEnd_advances c s
  | powerFail _ _ | pinReset => exact (State.deviceReset_evolves rfl _ _ _ _ _ (.refl s)).advances
  | powerRelease => exact execPowerRelease_advances s
  | sysrstRelease => exact execSysrstRelease_advances s
  | softwareReset | lifecycleReset => exact (Evolves.ite_of (State.deviceReset_evolves rfl _ _ _ _ _ (.refl s)) (.refl s)).advances
  | slotLogicRelease => exact execSlotLogicRelease_advances s
  | startZero => exact execStartZero_advances s
  | corePllLock => exact execCorePllLock_advances s
  | memoryWipe ok => exact execMemoryWipe_advances ok s
  | lifecycleRecordRead => exact execLifecycleRecordRead_advances s
  | mramWipeDone ok wipeUs => exact execMramWipeDone_advances ok wipeUs s
  | journalScan => exact execJournalScan_advances s
  | imageCheck header payload readError => exact execImageCheck_advances header payload readError s
  | startEntry => exact execStartEntry_advances s
  | dictionaryLoad => exact execDictionaryLoad_advances s
  | countPersist => exact execCountPersist_advances s
  | debugOpened ok wipeUs => exact execDebugOpened_advances ok wipeUs s
  | aes256Ctr _ | aesCmac _ | sha384 _ | ecdsaVerify _ | kcv _ => exact (State.startCrypto_evolves rfl _ _ (.refl s)).advances
  | cryptoDone => exact execCryptoDone_advances s
  | auditHash => exact (Evolves.ite_of (.refl s) (State.auditHashNext_evolves rfl _ (.refl s))).advances
  | rngRead a => exact execRngRead_advances a s
  | rngFail code => exact execRngFail_advances code s
  | tapReset | idcode | samplePreload | bypass => exact (State.loadIr_evolves rfl _ _ _ (.refl s)).advances
  | extest | clamp | highz => exact (State.takePins_evolves rfl _ _ (.refl s)).advances
  | dbgOpen => exact execDbgOpen_advances s
  | devReset => exact execDevReset_advances s
  | coreCtrl w => exact execCoreCtrl_advances w s
  | memAccess isWrite addr data => exact execMemAccess_advances isWrite addr data s
  | pcieLoopback _ => exact (State.dropLink_evolves rfl _ _ (.refl s)).advances

/-- A step takes the command at the front, and evolves the rest of the state. -/
theorem step_advances (s : State) : Advances { s with pending := s.pending.tail } (step s) := by
  unfold step
  split
  · next h =>
    have e : ({ s with pending := [] } : State) = s := by rw [← h]
    rw [h, List.tail_nil, e]
    exact (State.idle_evolves rfl s (.refl s)).advances
  · next c rest h => rw [h, List.tail_cons]; exact exec_advances c _

/-- Settles O3: a step evolves the state, and what evolves keeps both. -/
theorem stepsKeepInvariants : Obligations.StepsKeepInvariants := by
  intro s t h
  obtain ⟨u, hu, kept⟩ := step_advances s
  obtain rfl : u = t := Host.Outcome.next.inj (hu.symm.trans h)
  exact ⟨kept.wf, kept.bounded⟩

end Sys2Proof.Machine
end

section
/-! PROOFS of the queue family, the doorbells (07 R196, R197, 15 R394). What is refused sets DB_ERR alone; an accepted CQ_HEAD passes what lies before it, and
the ring's first spillway entries then find room. -/

namespace Sys2Proof.Machine

/-! SQ_TAIL. -/

/-- SQ_TAIL w is accepted by pair q (07 R196). -/
def State.sqAccepts (s : State) (q : Nat) (w : Word) : Prop :=
  fld w 31 16 = 0 ∧ fld w 15 0 < (s.qp q).sqSize ∧ (s.qp q).st ≠ .disabled ∧ s.dev.recovery = 3 ∧ s.boot.loaded = true

section
variable {s : State} {q : Nat} {w : Word}

theorem State.sqAccepts_iff : s.sqAccepts q w ↔
    ¬(fld w 31 16 ≠ 0 || (s.qp q).sqSize ≤ fld w 15 0 || (s.qp q).st = .disabled || s.dev.recovery ≠ 3 || !s.boot.loaded) = true := by
  simp [State.sqAccepts, and_assoc]

theorem State.sqDoorbell_accepted (h : s.sqAccepts q w) : s.sqDoorbell q w = s.modQp q fun x => { x with sqTail := fld w 15 0 } :=
  if_neg (State.sqAccepts_iff.mp h)

theorem State.sqDoorbell_ignored (h : ¬s.sqAccepts q w) : s.sqDoorbell q w = s.dbErr q :=
  if_pos (not_not.mp fun g => h (State.sqAccepts_iff.mpr g))

/-! CQ_HEAD. -/

/-- How many entries CQ_HEAD w passes in pair q. -/
def QPair.passes (x : QPair) (w : Word) : Nat := (fld w 15 0 + x.cqSize - x.cqHead) % x.cqSize

/-- CQ_HEAD w is accepted by pair q (07 R197). -/
def State.cqAccepts (s : State) (q : Nat) (w : Word) : Prop :=
  fld w 31 16 = 0 ∧ fld w 15 0 < (s.qp q).cqSize ∧ (s.qp q).st ≠ .disabled ∧ s.boot.loaded = true ∧ (s.qp q).passes w ≤ (s.qp q).outstanding

/-- The pair after an accepted CQ_HEAD: the checkpoint among the entries passed is passed with them (07 R214). -/
def QPair.headTo (x : QPair) (w : Word) : QPair :=
  let past := match x.checkpoint with | some c => decide ((c.1 + x.cqSize - x.cqHead) % x.cqSize < x.passes w) | none => false
  { x with cqHead := fld w 15 0, passed := if past then x.checkpoint.map (·.2) else x.passed, checkpoint := if past then none else x.checkpoint }

theorem State.cqAccepts_iff : s.cqAccepts q w ↔
    ¬(fld w 31 16 ≠ 0 || (s.qp q).cqSize ≤ fld w 15 0 || (s.qp q).st = .disabled || !s.boot.loaded ||
      (s.qp q).outstanding < (s.qp q).passes w) = true := by
  simp [State.cqAccepts, and_assoc]

theorem State.cqDoorbell_accepted (h : s.cqAccepts q w) : s.cqDoorbell q w = (s.modQp q fun _ => (s.qp q).headTo w).drain q 1024 := by
  have moved : s.cqDoorbell q w = _ := if_neg (State.cqAccepts_iff.mp h)
  rw [moved]
  exact congrArg (fun u => State.drain u q 1024) (State.modQp_congr rfl)

theorem State.cqDoorbell_ignored (h : ¬s.cqAccepts q w) : s.cqDoorbell q w = s.dbErr q :=
  if_pos (not_not.mp fun g => h (State.cqAccepts_iff.mpr g))

end

theorem QPair.headTo_noCheckpoint {x : QPair} (h : x.checkpoint = none) (w : Word) : x.headTo w = { x with cqHead := fld w 15 0 } := by
  simp [QPair.headTo, h]

theorem QPair.headTo_checkpoint {x : QPair} {c j : Nat} (h : x.checkpoint = some (c, j)) (w : Word) : x.headTo w =
    if (c + x.cqSize - x.cqHead) % x.cqSize < x.passes w then { x with cqHead := fld w 15 0, passed := some j, checkpoint := none }
    else { x with cqHead := fld w 15 0 } := by
  simp only [QPair.headTo, h, decide_eq_true_eq]
  split
  · rfl
  · rw [← h]

/-! An ignored doorbell, and the spillway. -/

theorem State.dbErr_qp (s : State) (q : Nat) : (s.dbErr q).qp q = { s.qp q with dbErr := true } := by
  have counted : (s.tally (0x4000 + q) 7).qp q = s.qp q := by rw [State.qp, (State.tally_evolves (ps := [.counts]) rfl s _ _ _ _ (.refl s)).flow_eq]; rfl
  rw [State.dbErr, State.modQp_qp, counted]

theorem dbErr_does {c : Instr} {s : State} {q : Nat} (he : exec c s = .next (s.dbErr q)) :
    Does c s fun t => t.qp q = { s.qp q with dbErr := true } ∧ Changes [.flow, .counts] s t :=
  ⟨_, he, s.dbErr_qp q, (State.dbErr_evolves rfl s q (.refl s)).changes⟩

theorem State.drain_empty {s : State} {r : Nat} (h : s.spillOf r = []) (n : Nat) : s.drain r n = s := by
  cases n with
  | zero => rfl
  | succ n => rw [State.drain_succ, h]

/-- An entry written leaves the spillway and the head of its ring. -/
theorem State.writeEntry_kept (s : State) (q r : Nat) (tag : Word) (jseq : Nat) (trunc : Bool) (o : Outcome) :
    (s.writeEntry q r tag jseq trunc o).flow.spill = s.flow.spill ∧ ((s.writeEntry q r tag jseq trunc o).qp r).cqHead = (s.qp r).cqHead := by
  unfold State.writeEntry
  extract_lets x p addr s0 s1 next s2 f s3
  have head : (s3.qp r).cqHead = (s.qp r).cqHead := by
    have same : s3.qp r = s2.qp r := rfl
    have before : s1.flow = s.flow :=
      (State.emit_evolves (ps := [.counts, .out]) rfl (State.emit_evolves rfl
        (State.tally_evolves rfl _ _ _ _ _ (State.tally_evolves rfl _ _ _ _ _ (State.tally_evolves rfl _ _ _ _ _ (.refl s)))))).flow_eq
    rw [same]; unfold s2; rw [State.modQp_qp, State.qp, before]; rfl
  split
  · have sent : (s3.sendMsix p r).flow = s3.flow := (State.sendMsix_evolves (ps := [.counts, .out, .pba]) rfl s3 p r (.refl s3)).flow_eq
    exact ⟨by rw [sent]; rfl, by rw [State.qp, sent]; exact head⟩
  · exact ⟨rfl, head⟩

theorem State.settleQp_ring (s : State) (q r : Nat) : ((s.settleQp q).qp r).cqHead = (s.qp r).cqHead ∧ ((s.settleQp q).qp r).cqTail = (s.qp r).cqTail := by
  by_cases h : r = q
  · subst h
    refine ⟨?_, s.settleQp_cqTail r⟩
    unfold State.settleQp
    dsimp only
    rw [State.modQp_qp]
    split <;> split <;> rfl
  · obtain ⟨f, settled⟩ := s.settleQp_eq q
    rw [settled, State.modQp_qp_ne _ _ _ _ h]
    exact ⟨rfl, rfl⟩

/-- The one entry that waits, for ring q, is written where the ring has room, and nothing waits any more. -/
theorem State.drain_one {s : State} {q : Nat} {e : Spill} (n : Nat) (hs : s.flow.spill = [e]) (he : e.ring = q) (hr : s.ringRoom q = true) :
    let t := s.drain q (n + 1)
    t.flow.spill = [] ∧ (t.qp q).cqHead = (s.qp q).cqHead ∧ (t.qp q).cqTail = ((s.qp q).cqTail + 1) % (s.qp q).cqSize ∧ e.jseq ∉ t.flow.unwritten ∧
      s.out.length + 2 ≤ t.out.length := by
  have first : s.spillOf q = [e] := by simp [State.spillOf, hs, he]
  obtain ⟨⟨l, _, out⟩, _, tail, written⟩ := s.writeEntry_spec e.qp q e.tag e.jseq e.trunc e.o
  obtain ⟨spill, head⟩ := s.writeEntry_kept e.qp q e.tag e.jseq e.trunc e.o
  rw [State.drain_succ, first]
  dsimp only
  rw [if_pos hr]
  generalize s.writeEntry e.qp q e.tag e.jseq e.trunc e.o = s1 at *
  have dropped : dropFirst q s1.flow.spill = [] := by rw [spill, hs, dropFirst, if_pos he]
  rw [dropped]
  generalize hs3 : (if 2 * ([] : List Spill).length < s1.dev.spillHigh then
    ({ s1 with flow := { s1.flow with spill := [] } } : State).modDev fun d => { d with spillArmed := true }
    else { s1 with flow := { s1.flow with spill := [] } }) = s3
  have flow3 : s3.flow = { s1.flow with spill := [] } := by rw [← hs3]; split <;> rfl
  have out3 : s3.out = s1.out := by rw [← hs3]; split <;> rfl
  obtain ⟨f, settled⟩ := s3.settleQp_eq e.qp
  obtain ⟨head4, tail4⟩ := s3.settleQp_ring e.qp q
  have flow4 : (s3.settleQp e.qp).flow.spill = [] ∧ (s3.settleQp e.qp).flow.unwritten = s1.flow.unwritten ∧ (s3.settleQp e.qp).out = s1.out := by
    rw [settled]
    exact ⟨by rw [show (s3.modQp e.qp f).flow.spill = s3.flow.spill from rfl, flow3], by rw [State.modQp_unwritten, flow3], by rw [State.modQp_at_out, out3]⟩
  have pair3 : s3.qp q = s1.qp q := by rw [State.qp, flow3]; rfl
  rw [State.drain_empty (by rw [State.spillOf, flow4.1]; rfl)]
  refine ⟨flow4.1, by rw [head4, pair3, head], by rw [tail4, pair3, tail], by rw [flow4.2.1]; exact written, ?_⟩
  rw [flow4.2.2, out, List.append_assoc, List.length_append, List.length_append]
  exact Nat.add_le_add_left (Nat.le_add_right _ _) _

/-- Settles O37: a doorbell is accepted or ignored, and an accepted CQ_HEAD leads to what waits for its ring. -/
theorem doorbells : Obligations.Doorbells := by
  intro s p q w _ x
  refine ⟨⟨fun good => congrArg Host.Outcome.next (State.sqDoorbell_accepted good), fun bad => dbErr_does (congrArg Host.Outcome.next (State.sqDoorbell_ignored bad))⟩, ?_⟩
  intro n k good
  have accepted (h : good) : exec (.cqHeadDoorbell p q w) s = .next ((s.modQp q fun _ => x.headTo w).drain q 1024) :=
    congrArg Host.Outcome.next (State.cqDoorbell_accepted h)
  have nothing (h : good) (hs : s.spillOf q = []) : exec (.cqHeadDoorbell p q w) s = .next (s.modQp q fun _ => x.headTo w) := by
    rw [accepted h]
    exact congrArg _ (State.drain_empty (s := s.modQp q fun _ => x.headTo w) hs _)
  refine ⟨fun bad => dbErr_does (congrArg Host.Outcome.next (State.cqDoorbell_ignored bad)), fun h hs => ⟨fun hc => ?_, fun c j hc => ?_⟩, fun h e hs he hl room => ?_⟩
  · rw [nothing h hs]
    exact congrArg Host.Outcome.next (State.modQp_congr (QPair.headTo_noCheckpoint hc w))
  · rw [nothing h hs]
    exact congrArg Host.Outcome.next (State.modQp_congr (QPair.headTo_checkpoint hc w))
  · have moved : ((s.modQp q fun _ => x.headTo w).qp q) = x.headTo w := State.modQp_qp _ _ _
    have free : (s.modQp q fun _ => x.headTo w).ringRoom q = true := by
      rw [State.ringRoom, moved]
      simp only [Bool.and_eq_true, decide_eq_true_eq]
      exact ⟨⟨h.2.2.1, hl⟩, room⟩
    obtain ⟨spill, head, tail, written, out⟩ := State.drain_one 1023 (s := s.modQp q fun _ => x.headTo w) hs he free
    exact ⟨_, accepted h, spill, by rw [head, moved]; rfl, by rw [tail, moved]; rfl, written, out,
      (State.drain_evolves rfl _ _ _ (State.modQp_evolves rfl _ _ _ (.refl s))).changes⟩

end Sys2Proof.Machine
end

section
/-! PROOFS of the queue family, links and the event ring (07 R216, R218). The statement is refuted by its first clause: the pairs of a fallen link end their
transactions one pair after another, and after each pair the pending slot commands act on the slots that are free. -/

namespace Sys2Proof.Machine

/-- Four ENABLED pairs, joined 1 to 3 and 2 to 4 across the paths, with 1 and 2 at home on path A, whose link is up; slot 0 is READY and free with a DEACTIVATE
pending, and transaction 0 of pair 2 waits for it. -/
def pendingSlotState : State :=
  let pair (homeB : Bool) (mirror : Nat) : QPair := { st := .enabled, cfg := packed [(30, 1), (29, b2n homeB), (0, mirror)] }
  { State.reset with
    dev := { linkA := true }
    slots := [(0, { st := .ready, seq := { deactPend := true } })]
    flow := { qps := [(1, pair false 3), (2, pair false 4), (3, pair true 1), (4, pair true 2)]
              txns := [(0, some { qp := 2, dws := [], stage := .wait, target := .slot 0 })] } }

theorem pendingSlotState_linkDown : ∃ t z o, exec (.linkDown .a false) pendingSlotState = .next t ∧ t.txn 0 = some z ∧ z.outDone = some o ∧ o.status = 0x0E :=
  ⟨_, _, _, rfl, rfl, rfl, rfl⟩

/-- Refutes O38: when the link of path A falls, the deactivation that pends on slot 0 begins once pair 1 is through, and it ends the waiting transaction of
pair 2 with SLOT_NOT_ACTIVE before that pair's own turn comes to end it with 0x12. -/
theorem not_linksAndEvents : ¬ Obligations.LinksAndEvents := by
  intro h
  have falls := (h pendingSlotState .fw .a 0#32 (by decide)).1 (by decide) false
  obtain ⟨t, ht, _, _, _, ended, _⟩ := falls
  obtain ⟨z, o, hz, _, ho, _, status⟩ := ended 0 _ rfl (by decide) (by decide)
  obtain ⟨t', z', o', ht', hz', ho', status'⟩ := pendingSlotState_linkDown
  cases ht.symm.trans ht'
  cases hz.symm.trans hz'
  cases ho.symm.trans ho'
  exact absurd (status.symm.trans status') (by decide)

end Sys2Proof.Machine
end

section
/-! PROOFS of the ledger family: host transactions on a port (07 R199, 10 R276 to R282). A job goes from step to step, each a command or a block and the wait
that follows, until it ends with the outcome of its transaction. -/

namespace Sys2Proof.Machine

theorem Evolves.port_eq {l : List Part} {s t : State} (h : Evolves l s t) (hl : Part.ports ∉ l) (p : Nat) : t.port p = s.port p := by
  have e : t.ports = s.ports := h.changes.at hl
  simp only [State.port, e]

theorem Evolves.lp_eq {l : List Part} {s t : State} (h : Evolves l s t) (hl : Part.lpos ∉ l) (k : Nat) : t.lp k = s.lp k := by
  have e : t.lpos = s.lpos := h.changes.at hl
  simp only [State.lp, e]

theorem State.outcomeIs_of_flow {s t : State} {n : Nat} {P : Outcome → Prop} (h : s.outcomeIs n P) (e : t.flow = s.flow) : t.outcomeIs n P := by
  simpa only [State.outcomeIs, State.txn, e] using h

/-! Stage 3 (07 R199, 10 R277). -/

section
variable {s : State} {n : Nat} {x : Txn} {o : Nat}

/-- What holds of a ledger entry whose checks find nothing. -/
theorem State.ledgerCheck_zero {write : Bool} (h : s.ledgerCheck x write = 0) :
    (s.port x.lport).en = true ∧ (s.lp (4 * x.lport + x.lposn)).st = .ready ∧ 1 ≤ (x.dw 14).toNat ∧ (x.dw 14).toNat ≤ 128 ∧
      (write = true → 2 ≤ x.role ∧ x.cmdLen = 512 * (x.dw 14).toNat) := by
  have passed := firstCode_eq_zero (by simp) h
  simp only [List.forall_mem_cons, Bool.or_eq_false_iff, decide_eq_false_iff_not, Bool.not_eq_false'] at passed
  obtain ⟨-, role, -, ⟨-, lists⟩, en, ready, ⟨⟨⟨zero, many⟩, -⟩, -⟩, -⟩ := passed
  refine ⟨en, not_not.mp ready, by omega, by omega, fun hw => ?_⟩
  subst hw
  simp only [if_true] at role lists
  simp only [Bool.or_eq_false_iff, decide_eq_false_iff_not] at lists
  exact ⟨by omega, not_not.mp lists.1⟩

theorem State.ledgerStage3_failed (hx : s.txn n = some x) (hst : x.stage = .check) (ho : x.opcode = o) (h : s.ledgerCheck x (o = 0x11) ≠ 0) :
    s.ledgerStage3 n o = s.endEarly n (s.ledgerCheck x (o = 0x11)) := by
  simp [State.ledgerStage3, hx, hst, ho, h]

theorem State.ledgerStage3_passed (hx : s.txn n = some x) (hst : x.stage = .check) (ho : x.opcode = o) (h : s.ledgerCheck x (o = 0x11) = 0) :
    s.ledgerStage3 n o = s.modTxn n fun x => { x with stage := .gather, target := .ledger x.lport x.lposn } := by
  simp [State.ledgerStage3, hx, hst, ho, h]

/-- The command of a ledger opcode at stage 3: the first failed check ends the entry, else it goes on to its port. -/
theorem ledgerStage3_does {c : Instr} (hx : s.txn n = some x) (hst : x.stage = .check) (ho : x.opcode = o) (he : exec c s = .next (s.ledgerStage3 n o)) :
    let write := decide (o = 0x11)
    (s.ledgerCheck x write ≠ 0 → Does c s fun t => t.ended n (s.ledgerCheck x write) ∧ Changes [.slots, .flow] s t) ∧
    (s.ledgerCheck x write = 0 → Does c s fun t =>
      t.txn n = some { x with stage := .gather, target := .ledger x.lport x.lposn } ∧ (s.port x.lport).en = true ∧
      (s.lp (4 * x.lport + x.lposn)).st = .ready ∧ 1 ≤ (x.dw 14).toNat ∧ (x.dw 14).toNat ≤ 128 ∧
      (write = true → 2 ≤ x.role ∧ x.cmdLen = 512 * (x.dw 14).toNat) ∧ Changes [.flow] s t) := by
  refine ⟨fun bad => ⟨_, he.trans (congrArg _ (State.ledgerStage3_failed hx hst ho bad)), State.endEarly_ended s n _ 0 [] x hx, State.endEarly_changes _ _ _ _ _⟩,
    fun good => ⟨_, he.trans (congrArg _ (State.ledgerStage3_passed hx hst ho good)), (State.modTxn_txn _ _ _).trans (by rw [hx]; rfl), ?_⟩⟩
  obtain ⟨en, ready, least, most, write⟩ := State.ledgerCheck_zero good
  exact ⟨en, ready, least, most, write, (State.modTxn_evolves rfl _ _ _ (.refl s)).changes⟩

end

/-! The free port takes the next transaction (10 R270, R276). -/

section
variable {s : State} {p : Nat}

theorem State.atFree_settled (hl : (s.port p).live = (s.port p).cfg) (hb : ∀ b < 4, (s.lp (4 * p + b)).live = (s.lp (4 * p + b)).cfg) : s.atFree p = s := by
  have settled (b : Nat) (h : b < 4) : s.loadPos (4 * p + b) = s := if_pos (hb b h)
  unfold State.atFree
  split
  · rfl
  · simp only [State.forEach, List.foldl, settled 0 (by decide), settled 1 (by decide), settled 2 (by decide), settled 3 (by decide)]

/-- The port with its rates as they are and no card left to switch. -/
def Port.rated (x : Port) (div : Nat) : Port := { x with div := div, switch := none, swBusy := none, owed := [] }

theorem State.applyRate_settled (hwf : s.wf = true) (hs : (s.port p).hs = s.ledgerHs p) (hw : (s.port p).width = s.ledgerWidth p) (ho : (s.port p).owed = []) :
    ∃ div, s.applyRate p [] = s.modPort p (·.rated div) := by
  have none_ : (s.ledgerReady p).filter (fun a => ([] : List Nat).contains a || (s.port p).owed.contains a) = [] := by simp [ho]
  have same : ¬((s.port p).hs ≠ s.ledgerHs p || (s.port p).width ≠ s.ledgerWidth p) = true := by simp [hs, hw]
  let div := max (fld (s.port p).live 10 0) (if s.ledgerHs p then 10 else 19)
  have rates : s.applyRate p [] = (s.modPort p fun x => { x with hs := s.ledgerHs p, width := s.ledgerWidth p, div := div }).switchOn p [] := by
    unfold State.applyRate
    dsimp only
    rw [if_neg same, none_]
  refine ⟨div, rates.trans ((State.modPort_modPort s p _ (fun x => { x with switch := none, swBusy := none, owed := [] })
    (State.wf_ports hwf)).trans (State.modPort_congr ?_))⟩
  rw [← hs, ← hw]
  rfl

theorem State.modPort_portBusy (f : Port → Port) (hi : (f (s.port p)).ident = (s.port p).ident) (hs : (f (s.port p)).switch = (s.port p).switch)
    (hc : (f (s.port p)).cleanup = (s.port p).cleanup) (hj : (f (s.port p)).job = (s.port p).job) : (s.modPort p f).portBusy p = s.portBusy p := by
  unfold State.portBusy
  dsimp only
  rw [State.modPort_port, hi, hs, hc, hj]
  rfl

theorem State.modPort_pickLedger (f : Port → Port) (h : (f (s.port p)).lastQp = (s.port p).lastQp) : (s.modPort p f).pickLedger p = s.pickLedger p := by
  unfold State.pickLedger
  dsimp only
  rw [State.modPort_port, h]
  rfl

theorem State.modPort_pickMirror (f : Port → Port) (he : (f (s.port p)).en = (s.port p).en) (hs : (f (s.port p)).stuck = (s.port p).stuck) :
    (s.modPort p f).pickMirror p = s.pickMirror p := by
  have same (k : Nat) : (s.modPort p f).mirrors p k = s.mirrors p k := by
    unfold State.mirrors
    dsimp only
    rw [State.modPort_port, he, hs]
    rfl
  simp only [State.pickMirror, same]
  rfl

theorem State.nextJob_ledger {n : Nat} (h : s.pickLedger p = some n) (hm : s.pickMirror p = none ∨ (s.port p).lastMirror = true) : s.nextJob p = s.takeLedger p n := by
  unfold State.nextJob
  rw [h]
  rcases hm with hm | hm
  · rw [hm]
  · cases s.pickMirror p with
    | none => rfl
    | some m => exact if_pos hm

end

/-- A free port with nothing left to take effect gives its turn to the next transaction, from a state u that differs in the port alone. -/
theorem execLedgerJobStart_take {s : State} {p : Fin 4} {n : Nat} (hwf : s.wf = true) (hb : s.portBusy p = false) (hk : (s.port p).stuck = false)
    (hw : (s.port p).en = false ∨ (s.port p).want = none) (hl : (s.port p).live = (s.port p).cfg)
    (hp : ∀ b < 4, (s.lp (4 * p + b)).live = (s.lp (4 * p + b)).cfg)
    (hr : (s.port p).known = false ∨ ((s.port p).hs = s.ledgerHs p ∧ (s.port p).width = s.ledgerWidth p ∧ (s.port p).owed = []))
    (hn : s.pickLedger p = some n) (hm : s.pickMirror p = none ∨ (s.port p).lastMirror = true) :
    ∃ u, exec (.ledgerJobStart p) s = .next (u.takeLedger p n) ∧ Evolves [.ports] s u ∧ (u.port p).en = (s.port p).en := by
  have awake : ¬(s.portBusy p || (s.port p).stuck || ((s.port p).en && (s.port p).want.isSome)) = true := by
    rcases hw with hw | hw <;> simp [hb, hk, hw]
  have started : exec (.ledgerJobStart p) s =
      .next (let s1 := if (s.port p).known then s.applyRate p [] else s
        if s1.portBusy p then s1 else s1.nextJob p) := by
    refine (if_neg awake).trans ?_
    rw [State.atFree_settled hl hp]
  rcases hr with hr | ⟨hs, hwd, ho⟩
  · refine ⟨s, ?_, .refl s, rfl⟩
    rw [started]
    simp [hr, hb, State.nextJob_ledger hn hm]
  · by_cases known : (s.port p).known = true
    · obtain ⟨div, rated⟩ := State.applyRate_settled hwf hs hwd ho
      have noSwitch : (s.port p).switch = none := by
        simp only [State.portBusy, Bool.or_eq_false_iff] at hb
        simpa using hb.1.1.2
      have free : (s.modPort p (·.rated div)).portBusy p = false := by
        rw [State.modPort_portBusy (·.rated div) rfl noSwitch.symm rfl rfl, hb]
      have next : (s.modPort p (·.rated div)).nextJob p = (s.modPort p (·.rated div)).takeLedger p n := by
        refine State.nextJob_ledger ((State.modPort_pickLedger (·.rated div) rfl).trans hn) ?_
        rw [State.modPort_pickMirror (·.rated div) rfl rfl, State.modPort_port]
        exact hm
      refine ⟨_, ?_, State.modPort_evolves rfl s p (·.rated div) (.refl s), by rw [State.modPort_port]; rfl⟩
      rw [started]
      simp [known, rated, free, next]
    · refine ⟨s, ?_, .refl s, rfl⟩
      rw [started]
      simp [known, hb, State.nextJob_ledger hn hm]

/-! What taking a transaction does, by the first two checks of R277. -/

section
variable {s : State} {n p : Nat} {x : Txn} (hx : s.txn n = some x)
include hx

theorem State.takeLedger_starts (he : (s.port p).en = true) (hr : (s.lp (4 * p + x.lposn)).st = .ready) : s.takeLedger p n =
    (s.modTxn n fun x => { x with stage := .intent }).modPort p fun y => { y with lastQp := x.qp, lastMirror := false } := by
  simp [State.takeLedger, hx, he, hr]

theorem State.takeLedger_off (he : (s.port p).en = false) : s.takeLedger p n = s.endEarly n 0x30 := by simp [State.takeLedger, hx, he]

theorem State.takeLedger_gone (he : (s.port p).en = true) (hr : (s.lp (4 * p + x.lposn)).st ≠ .ready) : s.takeLedger p n = s.endEarly n 0x31 := by
  simp [State.takeLedger, hx, he, hr]

end

/-! A step of a job. -/

/-- From s to t the job of port p comes to stand at step st as k, its wait beginning now, and cmds leave. -/
def JobGoes (s t : State) (p : Nat) (k : LJob) (st : LStep) (cmds : List Out) : Prop :=
  (t.port p).job = some { k with step := st, since := t.now } ∧ t.out = s.out ++ cmds

section
variable (s : State) (p : Nat) (j : LJob)

theorem State.ledgerStep_goes (st : LStep) : JobGoes s (s.ledgerStep p j st) p j st [] :=
  ⟨by rw [State.ledgerStep, State.modPort_port]; rfl, (List.append_nil _).symm⟩

theorem State.lcmd_goes (c : Nat) (w : Word) (st : LStep) : JobGoes s ((s.lcmd p c w).ledgerStep p j st) p j st [.ledgerCmd p c w] :=
  ⟨by rw [State.ledgerStep, State.modPort_port]; rfl, rfl⟩

/-- The data command for the blocks from the first that is not confirmed (10 R278 step 4). -/
def LJob.dataCmd (p : Nat) (j : LJob) : Out :=
  let more := decide (1 < j.count - j.confirmed)
  .ledgerCmd p (if j.write then (if more then 25 else 24) else if more then 18 else 17) (BitVec.ofNat 32 (j.first + j.confirmed))

theorem State.ledgerData_goes :
    JobGoes s (s.ledgerData p j) p { j with sent := true, many := decide (1 < j.count - j.confirmed) } .command [j.dataCmd p] := by
  unfold State.ledgerData LJob.dataCmd
  simp only [decide_eq_true_eq]
  exact State.lcmd_goes _ _ _ _ _ _

theorem State.ledgerSend_count (h : 1 < j.count - j.confirmed) :
    JobGoes s (s.ledgerSend p j) p { j with sent := true } .count [.ledgerCmd p 23 (BitVec.ofNat 32 (j.count - j.confirmed))] := by
  rw [State.ledgerSend, if_pos h]
  exact State.lcmd_goes _ _ _ _ _ _

theorem State.ledgerSend_data (h : ¬1 < j.count - j.confirmed) : s.ledgerSend p j = s.ledgerData p j := by
  rw [State.ledgerSend, if_neg h]

theorem State.ledgerOut_goes {n : Nat} {x : Txn} (hj : j.txn = some n) (hx : s.txn n = some x) :
    JobGoes s (s.ledgerOut p j) p { j with begun := max j.begun (j.confirmed + 1) } .token
      [.ledgerBlock p ((x.cmd.drop (512 * j.confirmed)).take 512)] := by
  unfold State.ledgerOut
  simp only [hj, hx]
  exact ⟨by rw [State.ledgerStep, State.modPort_port]; rfl, rfl⟩

/-- A job of a host transaction confirms no block of a mirror command. -/
theorem State.ledgerConfirm_host (data : List Byte) {n : Nat} (hj : j.txn = some n) : s.ledgerConfirm p j data = s := by
  simp [State.ledgerConfirm, hj]

end

/-- A job that begins with a card not selected sends CMD7 (10 R278). -/
theorem State.beginJob_selects (s : State) (p : Nat) (j : LJob) (h : (s.port p).selected ≠ some j.pos) :
    JobGoes s (s.beginJob p j) p { j with retries := (s.port p).retries } .select [.ledgerCmd p 7 (s.rcaArg p j.pos)] := by
  rw [State.beginJob, if_neg h]
  exact ⟨by rw [State.ledgerStep, State.modPort_port]; rfl, rfl⟩

/-! The end of a job (10 R279 to R282). -/

theorem State.loadPos_port (s : State) (k p : Nat) : (s.loadPos k).port p = s.port p :=
  (State.loadPos_evolves (ps := [.lpos]) rfl s k (.refl s)).port_eq (by decide) p

/-- A free point leaves the job alone. -/
theorem State.atFree_job (s : State) (p : Nat) : ((s.atFree p).port p).job = (s.port p).job := by
  have loads (u : State) : ((u.forEach four fun s a => s.loadPos (4 * p + a)).port p) = u.port p :=
    (State.forEach_evolves (ps := [.lpos]) rfl u _ _ (.refl u) fun v a => State.loadPos_evolves rfl v _ (.refl v)).port_eq (by decide) p
  unfold State.atFree
  split
  · rfl
  · dsimp only
    rw [loads]
    split
    · rfl
    · rw [State.modPort_port]

/-- The outcome in which job j ends with a status: DONE, or how far it came (10 R279 to R282). -/
def State.jobOutcome (s : State) (p : Nat) (j : LJob) (status : Nat) : Outcome :=
  { cls := if status = 0 then .done else if j.sent then .inDoubt else .notSent
    status := status
    sw := BitVec.ofNat 16 (j.confirmed * 256 + (if status = 0 then 0 else 16 * s.phaseOf p j) + (if status = 0 then 0 else j.bits))
    respLen := if j.write then 0 else 512 * j.confirmed
    sentLen := if j.write then 512 * j.begun else 0
    resp := j.data }

section
variable {s : State} {n p : Nat} {x : Txn} {j : LJob} (hx : s.txn n = some x) (hj : j.txn = some n)
include hx hj

omit hx in
theorem State.ledgerEnd_host (status : Nat) : ∃ u : State, Evolves [.counts, .ports] s u ∧ (u.port p).job = none ∧
    s.ledgerEnd p j status = (u.requestOutcome n (s.jobOutcome p j status)).atFree p := by
  unfold State.ledgerEnd
  simp only [hj]
  generalize hs0 : (s.modPort p fun x => { x with job := none }).lclk p 0 = s0
  have parted : Evolves [.counts, .ports] s s0 ∧ (s0.port p).job = none := by
    subst hs0
    exact ⟨State.modPort_evolves rfl _ _ _ (State.modPort_evolves rfl _ _ _ (.refl s)), by rw [State.lclk, State.modPort_port, State.modPort_port]⟩
  have tallied (u : State) (i k m : Nat) (w : Bool) (h : Evolves [.counts, .ports] s u ∧ (u.port p).job = none) :
      Evolves [.counts, .ports] s (u.tally i k m w) ∧ ((u.tally i k m w).port p).job = none :=
    ⟨State.tally_evolves rfl u i k m w h.1, h.2⟩
  have once := tallied s0 (0x2500 + p) 0x13 1 true parted
  obtain ⟨e, job⟩ : Evolves [.counts, .ports] s (if (s.jobOutcome p j status).cls = .inDoubt then (s0.tally (0x2500 + p) 0x13 1 true).tally (0x2500 + p) 0x14
      else s0.tally (0x2500 + p) 0x13 1 true) ∧ ((if (s.jobOutcome p j status).cls = .inDoubt then (s0.tally (0x2500 + p) 0x13 1 true).tally (0x2500 + p) 0x14
      else s0.tally (0x2500 + p) 0x13 1 true).port p).job = none := by
    split
    · exact tallied _ _ _ _ _ once
    · exact once
  exact ⟨_, e, job, rfl⟩

/-- A job that ends decides the outcome of its transaction and leaves the port without a job. -/
theorem State.ledgerEnd_decides (status : Nat) :
    (s.ledgerEnd p j status).outcomeIs n (· = { s.jobOutcome p j status with tide := s.ltide, sw := x.swOf (s.jobOutcome p j status) }) ∧
    ((s.ledgerEnd p j status).port p).job = none := by
  obtain ⟨u, e, job, ended⟩ := State.ledgerEnd_host (s := s) (p := p) hj status
  rw [ended]
  have decided := State.requestOutcome_is ((e.txn_eq (by decide) n).trans hx) (s.jobOutcome p j status)
  rw [e.ltide_eq (by decide)] at decided
  refine ⟨State.outcomeIs_of_flow decided (State.atFree_evolves (ps := [.ports, .lpos]) rfl _ p (.refl _)).flow_eq, ?_⟩
  rw [State.atFree_job]
  exact job

/-- A job ends with a failure: IN_DOUBT once its command was sent, before that NOT_SENT. -/
theorem State.ledgerEnd_fails {status : Nat} (h : status ≠ 0) : (s.ledgerEnd p j status).outcomeIs n (fun o =>
    o.cls = (if j.sent then .inDoubt else .notSent) ∧ o.status = status) ∧ ((s.ledgerEnd p j status).port p).job = none := by
  refine (State.ledgerEnd_decides hx hj status).imp (fun d => d.imp ?_) id
  rintro o rfl
  exact ⟨if_neg h, rfl⟩

/-- A job ends well: DONE, with the blocks confirmed in SW. -/
theorem State.ledgerEnd_done : (s.ledgerEnd p j 0).outcomeIs n (fun o =>
    o.cls = .done ∧ o.status = 0 ∧ o.resp = j.data ∧ (x.opcode ≠ 1 → o.sw.toNat = j.confirmed * 256 % 65536)) ∧ ((s.ledgerEnd p j 0).port p).job = none := by
  refine (State.ledgerEnd_decides hx hj 0).imp (fun d => d.imp ?_) id
  rintro o rfl
  refine ⟨rfl, rfl, rfl, fun ho => ?_⟩
  simp only [Txn.swOf, if_neg ho, State.jobOutcome, if_true, Nat.add_zero, BitVec.toNat_ofNat]

end

/-! Stage 7 begins (10 R278). -/

theorem State.markChanged_lp (s : State) (mode b k : Nat) : ((s.markChanged mode b).lp k).st = (s.lp k).st ∧ ((s.markChanged mode b).lp k).rca = (s.lp k).rca := by
  unfold State.markChanged
  generalize List.range 16 = l
  induction l generalizing s with
  | nil => exact ⟨rfl, rfl⟩
  | cons i l ih =>
    rw [List.foldl_cons]
    obtain ⟨st, rca⟩ := ih (if (s.lp i).mode = mode && !(s.lp i).dirty.contains b then s.modLp i fun x => { x with dirty := x.dirty ++ [b] } else s)
    rw [st, rca]
    split
    · by_cases h : k = i
      · subst h; rw [State.modLp_lp]; exact ⟨rfl, rfl⟩
      · rw [State.modLp_lp_ne _ _ _ _ h]; exact ⟨rfl, rfl⟩
    · exact ⟨rfl, rfl⟩

/-- A journal record marks blocks of the images changed, and moves no card. -/
theorem State.commitRec_lp (s : State) (r : JRec) (k : Nat) : ((s.commitRec r).lp k).st = (s.lp k).st ∧ ((s.commitRec r).lp k).rca = (s.lp k).rca := by
  have marked := ((s.placeRec r).tally 0x2800 4 1 true).markChanged_lp 1 (s.freePos 2200 (s.flow.jPos + 1) / 3) k
  have same : (s.commitRec r).lp k = ((((s.placeRec r).tally 0x2800 4 1 true).markChanged 1 (s.freePos 2200 (s.flow.jPos + 1) / 3))).lp k :=
    Evolves.lp_eq (l := [.dev, .counts, .out, .pba]) (Evolves.ite (fun _ =>
      State.irq_evolves rfl _ _ (State.post_evolves rfl _ _ _ _ _ (State.modDev_evolves rfl (.refl _) rfl))) fun _ => .refl _) (by decide) k
  rw [same]
  exact marked

section
variable {s : State} {n : Fin 1024} {x : Txn} (hx : s.txn n = some x) (hst : x.stage = .intent)
  (ho : s.flow.outq = []) (hd : ¬(x.deadline ≠ 0#64 ∧ x.deadline < s.ltide)) (hsm : ¬(x.sm = true ∧ 0xFFFFFFFFFFFFFFFE#64 ≤ x.smSsc))
include hx hst ho hd hsm

theorem execIntentCommit_ledger (hs : s.saturated = false) {p a : Nat} (ht : x.target = .ledger p a) :
    exec (.intentCommit n) s = .next ((s.commitIntent n x).startLedger n p a) := by
  simp only [exec, execIntentCommit, hx]
  rw [if_neg (by simp [hst, ho]), if_neg hd, if_neg hsm, if_neg (by simp [hs]), ht]
  rfl

end

/-- The job of transaction x, at place n, as stage 7 begins with it. -/
def Txn.ledgerJob (x : Txn) (n a : Nat) : LJob :=
  { txn := some n, pos := a, write := x.opcode = 0x11, first := (x.dw 13).toNat, count := (x.dw 14).toNat }

section
variable {s : State} {n : Nat} {x : Txn} (hx : s.txn n = some x)
include hx

theorem State.startLedger_ready {p a : Nat} (h : (s.lp (4 * p + a)).st = .ready) : s.startLedger n p a = s.beginJob p (x.ledgerJob n a) := by
  simp only [State.startLedger, hx]; exact if_pos h

theorem State.startLedger_gone {p a : Nat} (h : (s.lp (4 * p + a)).st ≠ .ready) : s.startLedger n p a = s.ledgerEnd p (x.ledgerJob n a) 0x34 := by
  simp only [State.startLedger, hx]; exact if_neg h

end

/-- INTENT_COMMIT of a ledger transaction: its job begins with the card, or where the card has gone ends at once (10 R278, R283). -/
theorem intentCommit_ledger_does {s : State} {n : Fin 1024} {x : Txn} {p : Fin 4} {a : Nat} (hx : s.txn n = some x) (hst : x.stage = .intent)
    (ho : s.flow.outq = []) (hd : ¬(x.deadline ≠ 0#64 ∧ x.deadline < s.ltide)) (hsm : ¬(x.sm = true ∧ 0xFFFFFFFFFFFFFFFE#64 ≤ x.smSsc))
    (hs : s.saturated = false) (ht : x.target = .ledger p a) :
    ((s.lp (4 * p + a)).st = .ready → (s.port p).selected ≠ some a → Does (.intentCommit n) s fun t =>
      (t.port p).job = some { txn := some n.val, pos := a, write := decide (x.opcode = 0x11), first := (x.dw 13).toNat, count := (x.dw 14).toNat,
                              since := s.now, retries := (s.port p).retries } ∧
      t.out.getLast? = some (.ledgerCmd p 7 (s.rcaArg p a)) ∧ t.recorded s.flow.jNext (fun r => r.outcome = false ∧ r.tag = x.tag) ∧
      Changes [.slots, .timers, .dev, .flow, .mram, .cores, .counts, .ports, .lpos, .audit, .crypto, .out, .pba] s t) ∧
    ((s.lp (4 * p + a)).st ≠ .ready → Does (.intentCommit n) s fun t =>
      t.outcomeIs n (fun o => o.cls = .notSent ∧ o.status = 0x34) ∧ (t.port p).job = none ∧
      Changes [.slots, .timers, .dev, .flow, .mram, .cores, .counts, .ports, .lpos, .audit, .crypto, .out, .pba] s t) := by
  have committed := s.commitIntent_evolves n x
  have begun := State.commitIntent_txn hx
  have lp : ((s.commitIntent n x).lp (4 * p + a)).st = (s.lp (4 * p + a)).st ∧ ((s.commitIntent n x).lp (4 * p + a)).rca = (s.lp (4 * p + a)).rca :=
    s.commitRec_lp _ _
  have port : (s.commitIntent n x).port p = s.port p := committed.port_eq (by decide) p
  have does := execIntentCommit_ledger hx hst ho hd hsm hs ht
  have starts := State.startLedger_evolves (ps := [.dev, .flow, .cores, .counts, .ports, .lpos, .out, .pba]) rfl (s.commitIntent n x) n p a (.refl _)
  have whole := (committed.mono (m := [.dev, .flow, .mram, .cores, .counts, .ports, .lpos, .out, .pba]) rfl).trans (starts.mono rfl)
  have recorded := State.recorded_of_mram (State.commitRec_recorded s (s.intentRec x) (fun r => r.outcome = false ∧ r.tag = x.tag) ⟨rfl, rfl⟩)
    (starts.changes.at (p := .mram) (by decide))
  have now := whole.now_eq (by decide)
  refine ⟨fun ready other => ⟨_, does, ?_, ?_, recorded, (whole.mono rfl).changes⟩, fun gone => ⟨_, does, ?_, ?_, (whole.mono rfl).changes⟩⟩
  · rw [State.startLedger_ready begun (lp.1.trans ready)] at now ⊢
    obtain ⟨job, -⟩ := State.beginJob_selects _ p (Txn.ledgerJob _ n a) (by rw [port]; exact other)
    rw [job, now, port]
    rfl
  · rw [State.startLedger_ready begun (lp.1.trans ready)]
    obtain ⟨-, out⟩ := State.beginJob_selects (s.commitIntent n x) p (Txn.ledgerJob { x with stage := .exch, intentSeq := some s.flow.jNext } n a)
      (by rw [port]; exact other)
    rw [out, List.getLast?_concat, State.rcaArg, State.rcaArg, ← lp.2]
    rfl
  · rw [State.startLedger_gone begun (lp.1.trans_ne gone)]
    exact (State.ledgerEnd_fails begun rfl (by decide)).1
  · rw [State.startLedger_gone begun (lp.1.trans_ne gone)]
    exact (State.ledgerEnd_fails begun rfl (by decide)).2

/-! The answers of a card (10 R278 to R280). -/

section
variable {s : State} {p : Fin 4} {j : LJob} (hs : (s.port p).switch = none) (hj : (s.port p).job = some j)
include hs hj

theorem execLedgerResponse_good {w : Word} (hw : r1Bits w = 0) (ha : j.step.awaits = true) : exec (.ledgerResponse p (.r1 w)) s = .next (s.ledgerGood p j w) := by
  simp only [exec, execLedgerResponse, hs, hj, State.ledgerAnswer]
  simp [ha, hw]

theorem execLedgerResponse_bits {w : Word} (hw : r1Bits w ≠ 0) (ha : j.step.awaits = true) :
    exec (.ledgerResponse p (.r1 w)) s = .next (s.ledgerEnd p { j with bits := r1Bits w } (if j.sent then 0x3A else 0x35)) := by
  simp only [exec, execLedgerResponse, hs, hj, State.ledgerAnswer]
  simp [ha, hw]

theorem execLedgerBlock_host {n : Nat} (hn : j.txn = some n) (hd : j.step = .dataIn) (d : List Byte) : exec (.ledgerBlock p d true) s = .next
    (let k := { j with confirmed := j.confirmed + 1, data := j.data ++ padTo 512 d }
     if k.confirmed = k.count then s.ledgerEnd p k 0 else s.ledgerStep p k .dataIn) := by
  simp only [exec, execLedgerBlock, hs, hj, State.ledgerConfirm_host s p j _ hn]
  simp [hd, hn]

theorem execLedgerBlock_bad (hd : j.step = .dataIn) (d : List Byte) : exec (.ledgerBlock p d false) s =
    .next (s.ledgerFail p { j with many := j.many && j.confirmed + 1 ≠ j.count } 0x36) := by
  simp only [exec, execLedgerBlock, hs, hj]
  simp [hd]

theorem execBusyEnd_select (hd : j.step = .selectBusy) : exec (.busyEnd p) s = .next ((s.lcmd p 13 (s.rcaArg p j.pos)).ledgerStep p j .status) := by
  simp only [exec, execBusyEnd, hs, hj, hd]

theorem execBusyEnd_block {n : Nat} (hn : j.txn = some n) (hd : j.step = .busy) : exec (.busyEnd p) s = .next
    (let k := { j with confirmed := j.confirmed + 1 }
     if k.confirmed = k.count then (s.lcmd p 13 (s.rcaArg p j.pos)).ledgerStep p k .final else s.ledgerOut p k) := by
  simp only [exec, execBusyEnd, hs, hj, hd, State.ledgerConfirm_host s p j _ hn]

theorem execLedgerTimeout_busy (hd : j.step = .busy) : exec (.ledgerTimeout p) s = .next ((s.elapseTo (j.since + (s.port p).busyTo)).ledgerEnd p j 0x39) := by
  simp only [exec, execLedgerTimeout, hs, hj, hd]

end

theorem execCrcStatusToken_positive {s : State} {p : Fin 4} {j : LJob} (hj : (s.port p).job = some j) (hd : j.step = .token) :
    exec (.crcStatusToken p true) s = .next ((s.elapseTo (s.blockEnd p j)).ledgerStep p j .busy) := by
  simp only [exec, execCrcStatusToken, hj]
  simp [hd]

/-! An answer without an error bit, by the step of the job (10 R278). -/

section
variable {s : State} {p : Nat} {j : LJob} {w : Word}

theorem State.ledgerGood_select (h : j.step = .select) : s.ledgerGood p j w = s.ledgerStep p j .selectBusy := by simp only [State.ledgerGood, h]

theorem State.ledgerGood_status (h : j.step = .status) (tran : fld w 12 9 = 4) : s.ledgerGood p j w = s.ledgerSend p j := by
  simp [State.ledgerGood, h, r1Tran, tran]

theorem State.ledgerGood_count (h : j.step = .count) : s.ledgerGood p j w = s.ledgerData p j := by simp only [State.ledgerGood, h]

theorem State.ledgerGood_command (h : j.step = .command) :
    s.ledgerGood p j w = if j.write then s.ledgerOut p j else s.ledgerStep p j .dataIn := by simp only [State.ledgerGood, h]

theorem State.ledgerGood_final (h : j.step = .final) : s.ledgerGood p j w = s.ledgerEnd p j 0 := by simp only [State.ledgerGood, h]

end

/-- A failure of a data command that was sent, with another attempt left, stops an open command or asks the card for its state (10 R280). -/
theorem State.ledgerFail_retries {s : State} {p : Nat} {j : LJob} {status : Nat} (hs : j.sent = true) (hr : j.reissues < j.retries) :
    s.ledgerFail p j status =
      if j.isOpen then (s.lcmd p 12 0#32).ledgerStep p { j with fail := status } .stop
      else (s.lcmd p 13 (s.rcaArg p j.pos)).ledgerStep p { j with fail := status } (.recover 0) := by
  rw [State.ledgerFail, if_neg (by simp [hs]), if_neg (Nat.not_le.mpr hr)]

theorem State.ledgerFail_ends {s : State} {p : Nat} {j : LJob} {status : Nat} (hs : j.sent = true) (hr : j.retries ≤ j.reissues) :
    s.ledgerFail p j status = s.ledgerEnd p j status := by
  rw [State.ledgerFail, if_neg (by simp [hs]), if_pos hr]

/-- A block with a CRC error and another attempt left: a command with blocks to come is stopped, else the card is asked for its state (10 R280). -/
theorem ledgerBlock_retries {s : State} {p : Fin 4} {j : LJob} (hs : (s.port p).switch = none) (hj : (s.port p).job = some j) (hd : j.step = .dataIn)
    (d : List Byte) (sent : j.sent = true) (hr : j.reissues < j.retries) : Does (.ledgerBlock p d false) s fun t =>
      (if j.many = true ∧ j.confirmed + 1 ≠ j.count then JobGoes s t p { j with fail := 0x36 } .stop [.ledgerCmd p 12 0#32]
       else JobGoes s t p { j with fail := 0x36, many := false } (.recover 0) [.ledgerCmd p 13 (s.rcaArg p j.pos)]) ∧ Changes [.ports, .out] s t := by
  have parts (k : LJob) (st : LStep) (c : Nat) (w : Word) : Changes [.ports, .out] s ((s.lcmd p c w).ledgerStep p k st) :=
    (State.ledgerStep_evolves rfl _ _ _ _ (State.lcmd_evolves rfl _ _ _ _ (.refl s))).changes
  have retried := (execLedgerBlock_bad hs hj hd d).trans (congrArg Host.Outcome.next (State.ledgerFail_retries (p := p) (status := 0x36)
    (j := { j with many := j.many && j.confirmed + 1 ≠ j.count }) sent hr))
  by_cases more : j.many = true ∧ j.confirmed + 1 ≠ j.count
  · have many : (j.many && decide (j.confirmed + 1 ≠ j.count)) = j.many := by simp [more]
    rw [if_pos (by simp [LJob.isOpen, hd, more])] at retried
    refine ⟨_, retried, ?_, parts _ _ _ _⟩
    rw [if_pos more, many]
    exact State.lcmd_goes _ _ _ _ _ _
  · have closed : (j.many && decide (j.confirmed + 1 ≠ j.count)) = false := by simpa using more
    rw [closed, if_neg (by simp [LJob.isOpen])] at retried
    refine ⟨_, retried, ?_, parts _ _ _ _⟩
    rw [if_neg more]
    exact State.lcmd_goes _ _ _ _ _ _

/-- Settles O43: each command of a port by the step at which its job stands, and the end of a job by how far it came. -/
theorem ledgerTransactions : Obligations.LedgerTransactions := by
  intro s n x p hwf hx y stage3 step
  refine ⟨fun hst ho => ledgerStage3_does hx hst ho rfl, fun hst ho => ledgerStage3_does hx hst ho rfl, fun h => if_pos (by simpa [or_assoc] using h), ?_, ?_, ?_⟩
  · intro hb hk hw hl hp hr hn hm
    obtain ⟨u, started, e, en⟩ := execLedgerJobStart_take hwf hb hk hw hl hp hr hn hm
    have lp := e.lp_eq (by decide) (4 * p + x.lposn)
    have hu := (e.txn_eq (by decide) n).trans hx
    have ends (status : Nat) : (u.endEarly n status).ended n status ∧ Changes [.slots, .flow, .ports] s (u.endEarly n status) :=
      ⟨State.endEarly_ended u n status 0 [] x hu, (State.endEarly_evolves rfl u n status 0 [] (e.mono rfl)).changes⟩
    refine ⟨fun on ready => ?_, fun off => ?_, fun on gone => ?_⟩
    · refine ⟨_, started.trans (congrArg _ (State.takeLedger_starts hu (en.trans on) ((congrArg LPos.st lp).trans ready))), ?_, by rw [State.modPort_port],
        by rw [State.modPort_port], (State.modPort_evolves rfl _ _ _ (State.modTxn_evolves rfl _ _ _ (e.mono rfl))).changes⟩
      exact (State.modTxn_txn _ _ _).trans (by rw [hu]; rfl)
    · exact ⟨_, started.trans (congrArg _ (State.takeLedger_off hu (en.trans off))), ends 0x30⟩
    · exact ⟨_, started.trans (congrArg _ (State.takeLedger_gone hu (en.trans on) (by rw [lp]; exact gone))), ends 0x31⟩
  · intro a hst ht hsm ho hd hsat
    exact intentCommit_ledger_does hx hst ho hd (by simp [hsm]) hsat ht
  · intro j hs hj hn more data
    have goes {f : LJob → LJob} {st : LStep} {cmds : List Out} {t : State} (h : JobGoes s t p (f j) st cmds) : step st f cmds t :=
      ⟨fun k hk => by cases hj.symm.trans hk; exact h.1, h.2⟩
    have answers {w : Word} (hw : r1Bits w = 0) (ha : j.step.awaits = true) {t : State} (ht : s.ledgerGood p j w = t) :
        exec (.ledgerResponse p (.r1 w)) s = .next t := ht ▸ execLedgerResponse_good hs hj hw ha
    have stepChanges (k : LJob) (st : LStep) : Changes [.ports] s (s.ledgerStep p k st) := (State.ledgerStep_evolves rfl _ _ _ _ (.refl s)).changes
    have lcmdChanges (k : LJob) (st : LStep) (c : Nat) (w : Word) : Changes [.ports, .out] s ((s.lcmd p c w).ledgerStep p k st) :=
      (State.ledgerStep_evolves rfl _ _ _ _ (State.lcmd_evolves rfl _ _ _ _ (.refl s))).changes
    have endChanges (u : State) (k : LJob) (status : Nat) : Evolves [.dev, .flow, .cores, .counts, .ports, .lpos, .out, .pba] u (u.ledgerEnd p k status) :=
      State.ledgerEnd_evolves rfl u p k status (.refl u)
    have dataChanges (k : LJob) : Changes [.ports, .out] s (s.ledgerData p k) := (State.ledgerData_evolves rfl _ _ _ (.refl s)).changes
    have outChanges (k : LJob) : Changes [.ports, .out] s (s.ledgerOut p k) := (State.ledgerOut_evolves rfl _ _ _ (.refl s)).changes
    refine ⟨fun w hw => ⟨fun hst => ?_, fun hst tran => ?_, fun hst => ?_, fun hst read => ?_, fun hst write => ?_, fun hst => ?_⟩, fun w hw ha => ?_,
      fun d hst sent => ⟨fun last => ?_, fun notLast => ?_, fun out => ?_, fun again => ?_⟩, fun hst => ?_, fun hst => ?_, fun hst notLast => ?_,
      fun hst last => ?_, fun hst sent => ?_⟩
    · exact ⟨_, answers hw (by rw [hst]; rfl) (State.ledgerGood_select hst), goes (f := id) (State.ledgerStep_goes _ _ _ _), stepChanges _ _⟩
    · refine ⟨_, answers hw (by rw [hst]; rfl) (State.ledgerGood_status hst tran), ?_, (State.ledgerSend_evolves rfl _ _ _ (.refl s)).changes⟩
      split
      · next many => exact goes (f := fun j => { j with sent := true }) (State.ledgerSend_count s p j (of_decide_eq_true many))
      · next few =>
        have few : ¬1 < j.count - j.confirmed := fun h => few (decide_eq_true h)
        rw [State.ledgerSend_data s p j few]
        refine goes (f := fun j => { j with sent := true, many := false }) ?_
        have sent := State.ledgerData_goes s p j
        rw [decide_eq_false few] at sent
        exact sent
    · exact ⟨_, answers hw (by rw [hst]; rfl) (State.ledgerGood_count hst),
        goes (f := fun j => { j with sent := true, many := more }) (State.ledgerData_goes s p j), dataChanges j⟩
    · exact ⟨_, answers hw (by rw [hst]; rfl) ((State.ledgerGood_command hst).trans (if_neg (by simp [read]))), goes (f := id) (State.ledgerStep_goes _ _ _ _),
        stepChanges _ _⟩
    · exact ⟨_, answers hw (by rw [hst]; rfl) ((State.ledgerGood_command hst).trans (if_pos write)),
        goes (f := fun j => { j with begun := max j.begun (j.confirmed + 1) }) (State.ledgerOut_goes s p j hn hx), outChanges j⟩
    · obtain ⟨done, job⟩ := State.ledgerEnd_done (p := p) hx hn
      exact ⟨_, answers hw (by rw [hst]; rfl) (State.ledgerGood_final hst), done.imp fun o ⟨cls, status, _, sw⟩ => ⟨cls, status, sw⟩, job,
        ((endChanges s j 0).mono rfl).changes⟩
    · obtain ⟨fails, job⟩ := State.ledgerEnd_fails (p := p) (j := { j with bits := r1Bits w }) hx hn (status := if j.sent then 0x3A else 0x35) (by split <;> decide)
      refine ⟨_, execLedgerResponse_bits hs hj hw ha, fails.imp ?_, job, ((endChanges s _ _).mono rfl).changes⟩
      rintro o ⟨cls, status⟩
      rw [cls, status]
      split <;> exact ⟨rfl, rfl⟩
    · obtain ⟨done, job⟩ := State.ledgerEnd_done (p := p) (j := { j with confirmed := j.confirmed + 1, data := j.data ++ padTo 512 d }) hx hn
      exact ⟨_, (execLedgerBlock_host hs hj hn hst d).trans (congrArg _ (if_pos last)), done.imp fun o ⟨cls, _, resp, _⟩ => ⟨cls, resp⟩, job,
        ((endChanges s _ 0).mono rfl).changes⟩
    · exact ⟨_, (execLedgerBlock_host hs hj hn hst d).trans (congrArg _ (if_neg notLast)),
        goes (f := fun j => { j with confirmed := j.confirmed + 1, data := j.data ++ padTo 512 d }) (State.ledgerStep_goes _ _ _ _), stepChanges _ _⟩
    · obtain ⟨fails, -⟩ := State.ledgerEnd_fails (p := p) (j := { j with many := j.many && j.confirmed + 1 ≠ j.count }) hx hn (status := 0x36) (by decide)
      refine ⟨_, (execLedgerBlock_bad hs hj hst d).trans (congrArg _ (State.ledgerFail_ends sent out)), fails.imp ?_, ((endChanges s _ _).mono rfl).changes⟩
      exact fun o ⟨cls, status⟩ => ⟨cls.trans (if_pos sent), status⟩
    · obtain ⟨t, ht, goesOn, parts⟩ := ledgerBlock_retries hs hj hst d sent again
      refine ⟨t, ht, ?_, parts⟩
      by_cases more : j.many = true ∧ j.confirmed + 1 ≠ j.count
      · rw [if_pos more] at goesOn ⊢
        exact goes (f := fun j => { j with fail := 0x36 }) goesOn
      · rw [if_neg more] at goesOn ⊢
        exact goes (f := fun j => { j with fail := 0x36, many := false }) goesOn
    · refine ⟨_, execCrcStatusToken_positive hj hst, State.elapseTo_now _ _, ?_, ?_⟩
      · obtain ⟨job, out⟩ := (s.elapseTo (s.blockEnd p j)).ledgerStep_goes p j .busy
        exact goes (f := id) ⟨job, out.trans (by rw [State.elapseTo_out])⟩
      · exact (State.ledgerStep_evolves rfl _ _ _ _ (State.elapseTo_evolves rfl _ _ (.refl s))).changes
    · exact ⟨_, execBusyEnd_select hs hj hst, goes (f := id) (State.lcmd_goes _ _ _ _ _ _), lcmdChanges _ _ _ _⟩
    · exact ⟨_, (execBusyEnd_block hs hj hn hst).trans (congrArg _ (if_neg notLast)),
        goes (f := fun j => { j with confirmed := j.confirmed + 1, begun := max j.begun (j.confirmed + 2) })
          (State.ledgerOut_goes s p { j with confirmed := j.confirmed + 1 } hn hx), outChanges _⟩
    · exact ⟨_, (execBusyEnd_block hs hj hn hst).trans (congrArg _ (if_pos last)), goes (f := fun j => { j with confirmed := j.confirmed + 1 })
        (State.lcmd_goes _ _ _ _ _ _), lcmdChanges _ _ _ _⟩
    · obtain ⟨fails, job⟩ := State.ledgerEnd_fails (s := s.elapseTo (j.since + (s.port p).busyTo)) (p := p) ((State.elapseTo_at_txn _ _ _).trans hx) hn
        (status := 0x39) (by decide)
      have passed := State.elapseTo_evolves (ps := [.now, .timers, .tide, .cores]) rfl s (j.since + (s.port p).busyTo) (.refl s)
      refine ⟨_, execLedgerTimeout_busy hs hj hst, ?_, fails.imp fun o ⟨cls, status⟩ => ⟨cls.trans (if_pos sent), status⟩, job, ?_⟩
      · exact ((endChanges _ _ _).now_eq (by decide)).trans (State.elapseTo_now _ _)
      · exact ((passed.mono rfl).trans ((endChanges _ _ _).mono rfl)).changes

end Sys2Proof.Machine
end

section
/-! PROOFS of the test family: loop-backs (17 R441 to R446). A write of LOOP_CTRL by its bits, the start and the end of a loop-back, and its units. -/

namespace Sys2Proof.Machine

/-- A field below the bits of c is that of the word to which c is added. -/
theorem fld_or_above {w c : Word} {hi lo : Nat} (h : ∀ i ≤ hi, c.getLsbD i = false) : fld (w ||| c) hi lo = fld w hi lo := by
  refine Nat.eq_of_testBit_eq fun i => ?_
  simp only [fld, Nat.testBit_mod_two_pow, Nat.testBit_div_two_pow, BitVec.toNat_or, Nat.testBit_or]
  by_cases hi' : i < hi + 1 - lo
  · have : c.toNat.testBit (lo + i) = false := h (lo + i) (by omega)
    simp [Nat.add_comm, this]
  · simp [hi']

theorem fld_or_go {w : Word} {hi lo : Nat} (h : hi < 30) : fld (w ||| 0x80000000#32) hi lo = fld w hi lo :=
  fld_or_above fun i hi' => by
    have : i < 31 := by omega
    interval_cases i <;> rfl

/-! What a write of LOOP_CTRL asks for (17 R442, Tables 17-2, 17-4). -/

/-- The fields of GO have values that block b has. -/
def loopValid (b : Nat) (w : Word) : Prop :=
  fld w 10 8 ∈ loopDepths b ∧ fld w 23 16 ≠ 0 ∧ fld w 2 0 ≤ loopIndexMax b ∧ fld w 25 24 ≠ 3 ∧ (8 ≤ b → fld w 25 24 = 0)

/-- A loop-back of block b may start for an agent. -/
def State.loopMay (s : State) (ag : Agent) (b : Nat) (w : Word) : Prop :=
  s.lifeState ≠ .retired ∧ s.loopCond b (fld w 10 8) (fld w 2 0) true = true ∧ loopAgentOk b (fld w 2 0) ag = true

theorem loopValid_iff {b : Nat} {w : Word} : loopValid b w ↔
    ¬(!(loopDepths b).contains (fld w 10 8) || fld w 23 16 = 0 || loopIndexMax b < fld w 2 0 || fld w 25 24 = 3 || (8 ≤ b && fld w 25 24 ≠ 0)) = true := by
  simp [loopValid, and_assoc]

theorem State.loopMay_iff {s : State} {ag : Agent} {b : Nat} {w : Word} (h : (s.loop b).running = false) : s.loopMay ag b w ↔
    ¬((s.loop b).running || s.lifeState = .retired || !s.loopCond b (fld w 10 8) (fld w 2 0) true || !loopAgentOk b (fld w 2 0) ag) = true := by
  simp [State.loopMay, h, and_assoc]

/-- A loop-back that does not run, or whose keep condition holds, goes on. -/
theorem State.keepLoop_kept {s : State} {b : Nat} (h : (s.loop b).running = false ∨ s.loopCond b (s.loop b).depth (s.loop b).index false = true) : s.keepLoop b = s :=
  if_neg (by rcases h with h | h <;> simp [h])

section
variable {s : State} {ag : Agent} {b : Nat} {w : Word} (ha : s.allows ag 2 = true) (hk : s.keepLoop b = s)
include ha hk

theorem State.writeLoopCtrl_multiple (h31 : bitOf w 31 = true) (h30 : bitOf w 30 = true) : s.writeLoopCtrl ag b w = s.loopErr b .multiple := by
  simp [State.writeLoopCtrl, State.granted_of_allows ha, hk, h31, h30]

theorem State.writeLoopCtrl_stop (h31 : bitOf w 31 = false) (h30 : bitOf w 30 = true) : s.writeLoopCtrl ag b w =
    if (s.loop b).running then (s.stopLoop b 4).loopErr b .none else s.loopErr b .state := by
  simp [State.writeLoopCtrl, State.granted_of_allows ha, hk, h31, h30]

section
variable (h31 : bitOf w 31 = true) (h30 : bitOf w 30 = false)
include h31 h30

theorem State.writeLoopCtrl_value (hv : ¬loopValid b w) : s.writeLoopCtrl ag b w = s.loopErr b .value := by
  have bad := not_not.mp fun g => hv (loopValid_iff.mpr g)
  unfold State.writeLoopCtrl
  rw [State.granted_of_allows ha]
  dsimp only
  rw [hk, if_neg (by simp [h30]), if_pos h31, if_pos bad]

theorem State.writeLoopCtrl_go (hv : loopValid b w) : s.writeLoopCtrl ag b w =
    if (s.loop b).running || s.lifeState = .retired || !s.loopCond b (fld w 10 8) (fld w 2 0) true || !loopAgentOk b (fld w 2 0) ag then s.loopErr b .state
    else if b = 12 && fld w 10 8 = 4 then (s.startLoop b w).ringPut 0x02 2 0xFF [] else s.startLoop b w := by
  unfold State.writeLoopCtrl
  rw [State.granted_of_allows ha]
  dsimp only
  rw [hk, if_neg (by simp [h30]), if_pos h31, if_neg (loopValid_iff.mp hv)]

end

end

/-! The start of a loop-back. -/

section
variable (s : State) (b : Nat) (w : Word)

theorem State.startLoop_loop : (s.startLoop b w).loop b = { cmdErr := .none, result := 1, units := 0, errors := 0, ctrl := w } := by
  unfold State.startLoop
  dsimp only
  split
  · exact s.modLoop_loop b fun _ => { cmdErr := .none, result := 1, units := 0, errors := 0, ctrl := w }
  · exact s.modLoop_loop b _

/-- The start of a slot's PAD asks for a ramp of class C (17 R445). -/
theorem State.startLoop_ramp (hb : b < 8) (hd : fld w 10 8 = 2) : ((s.startLoop b w).slot (8 * b + fld w 2 0)).seq.phase = .wait ∧
    ((s.startLoop b w).slot (8 * b + fld w 2 0)).seq.tryCls = .c := by
  have started : s.startLoop b w = _ := if_pos (by simp [hb, hd])
  rw [started, State.modSlot_slot]
  exact ⟨rfl, rfl⟩

theorem State.ringPut_loop (typ flags dst : Nat) (payload : List Byte) : (s.ringPut typ flags dst payload).loop b = s.loop b := by
  have e : (s.ringPut typ flags dst payload).loops = s.loops :=
    (State.ringPut_evolves (ps := [.ring, .out, .freeCount]) rfl s typ flags dst payload (.refl s)).changes.at (p := .loops) (by decide)
  simp only [State.loop, e]

/-- A frame of the device's own that finds the transmitter free leaves at once (13 R346). -/
theorem State.ringOffer_free {f : RingWait} (hf : f.cls = 3) (hw : s.ring.waits = []) (ht : s.ring.txUntil ≤ s.now) : s.ringOffer f = s.ringLeave f s.now := by
  simp [State.ringOffer, State.ringDrain, hf, hw, ht]

theorem State.ringLeave_own {f : RingWait} (hf : f.cls = 3) (t : Nat) : (s.ringLeave f t).out = s.out ++ [.ring f.frame] := by
  simp only [State.ringLeave, hf]
  rfl

/-- A new frame without a MAC leaves at once from a transmitter that is free. -/
theorem State.ringPut_out (typ flags dst : Nat) (payload : List Byte) (hf : frameAuth (s.ringNew typ flags dst payload).1 = false) (hw : s.ring.waits = [])
    (ht : s.ring.txUntil ≤ s.now) : ∃ g, (s.ringPut typ flags dst payload).out = s.out ++ [.ring g] ∧ g.typ = BitVec.ofNat 8 typ ∧ g.hops = 0 := by
  have sent : s.ringPut typ flags dst payload = _ := if_neg (by rw [hf]; exact Bool.false_ne_true)
  rw [sent, State.ringOffer_free (s.ringNew typ flags dst payload).2 rfl hw ht]
  exact ⟨_, State.ringLeave_own _ rfl _, rfl, rfl⟩

end

/-! The end of a loop-back (17 R443). -/

section
variable (s : State) (b r : Nat)

/-- The end of a loop-back takes back what it set up on its slot, and leaves the loop-backs alone but for its result. -/
theorem State.stopLoop_loops : (s.stopLoop b r).loops = (s.endLoop b r).loops := by
  unfold State.stopLoop
  extract_lets u i s1
  have down : (s1.beginDeact i true).loops = s1.loops :=
    (State.beginDeact_evolves (ps := [.slots, .timers, .dev, .flow, .mram, .cores, .counts, .lpos, .audit, .out, .pba]) rfl s1 i true (.refl s1)).changes.at
      (p := .loops) (by decide)
  split
  · split
    · split
      · exact down
      · rfl
    · split <;> rfl
  · rfl

theorem State.stopLoop_loop (h : (s.loop b).running = true) : (s.stopLoop b r).loop b = { s.loop b with result := r } := by
  rw [State.loop, State.stopLoop_loops, ← State.loop, State.endLoop, State.modLoop_loop, if_pos h]

theorem State.stopLoop_now : (s.stopLoop b r).now = s.now :=
  (State.stopLoop_evolves (ps := [.slots, .timers, .dev, .flow, .mram, .cores, .counts, .lpos, .audit, .loops, .out, .pba]) rfl s b r (.refl s)).now_eq (by decide)

end

/-! A unit (17 R443, R446). -/

/-- The clock periods that a unit of PAD waits before its first character (17 Table 17-5). -/
def State.padLead (s : State) (n : Nat) : Nat :=
  if n < 8 && (s.loop n).depth = 2 && (s.loop n).units = 0 then 1000 * (s.slot (8 * n + (s.loop n).index)).seq.div else 0

/-- The state at the end of a unit of block n with so many errors, before its result is known. -/
def State.passUnit (s : State) (n errors : Nat) : State :=
  ((if n < 8 && (s.loop n).depth = 3 then s.modSlot (8 * n + (s.loop n).index) fun x => x.afterExchange ((s.loop n).units + 1) else s).elapse
    (s.padLead n + (s.loop n).unitCk n)).modLoop n fun u => { u with units := u.units + 1, errors := min ((s.loop n).errors + errors) 0xFFFF }

section
variable (s : State) (n errors : Nat)

theorem State.passUnit_evolves : Evolves [.now, .slots, .timers, .tide, .cores, .loops] s (s.passUnit n errors) :=
  State.modLoop_evolves rfl _ _ _ (State.elapse_evolves rfl _ _ (Evolves.ite (fun _ => State.modSlot_evolves rfl _ _ _ (.refl s)) fun _ => .refl s))

theorem State.passUnit_loop : (s.passUnit n errors).loop n =
    { s.loop n with units := (s.loop n).units + 1, errors := min ((s.loop n).errors + errors) 0xFFFF } := by
  have same (u : State) (d : Nat) : (u.elapse d).loop n = u.loop n := by simp only [State.loop, State.elapse_loops]
  rw [State.passUnit, State.modLoop_loop, same]
  split <;> rfl

theorem State.passUnit_now : (s.passUnit n errors).now = s.now + (s.padLead n + (s.loop n).unitCk n) := by
  unfold State.passUnit
  rw [State.modLoop_at_now, State.elapse_now]
  split <;> rfl

end

section
variable {s : State} {b : LoopBlock} {errors : Nat} (hk : s.keepLoop (loopNum b) = s)

include hk

/-- A unit of a slot's PAD waits for CLK. -/
theorem execLoopUnitDone_noClock (hr : (s.loop (loopNum b)).running = false ∨
    (loopNum b < 8 ∧ (s.loop (loopNum b)).depth = 2 ∧ (s.slot (8 * loopNum b + (s.loop (loopNum b)).index)).seq.clkRun = false)) :
    exec (.loopUnitDone b errors) s = .next s := by
  simp only [exec, execLoopUnitDone, hk]
  refine if_pos ?_
  rcases hr with hr | ⟨h8, hd, hc⟩
  · simp [hr]
  · simp [h8, hd, hc]

variable (hr : (s.loop (loopNum b)).running = true)
  (hc : ¬(loopNum b < 8 ∧ (s.loop (loopNum b)).depth = 2 ∧ (s.slot (8 * loopNum b + (s.loop (loopNum b)).index)).seq.clkRun = false))
include hr hc

/-- An error on FAR ends the loop-back at once. -/
theorem execLoopUnitDone_lost (hf : loopNum b = 12 ∧ (s.loop (loopNum b)).depth = 4) (he : errors ≠ 0) : exec (.loopUnitDone b errors) s =
    .next ((s.modLoop (loopNum b) fun u => { u with errors := min ((s.loop (loopNum b)).errors + errors) 0xFFFF }).stopLoop (loopNum b) 3) := by
  simp only [exec, execLoopUnitDone, hk]
  rw [if_neg (by simpa [hr] using hc), if_pos (by rw [hf.2, hf.1]; simp [Nat.pos_of_ne_zero he])]

theorem execLoopUnitDone_passes (hf : ¬(loopNum b = 12 ∧ (s.loop (loopNum b)).depth = 4) ∨ errors = 0) : exec (.loopUnitDone b errors) s =
    if fld (s.loop (loopNum b)).ctrl 23 16 ≤ (s.loop (loopNum b)).units + 1 then
      .next ((s.passUnit (loopNum b) errors).stopLoop (loopNum b) (if min ((s.loop (loopNum b)).errors + errors) 0xFFFF = 0 then 2 else 3))
    else if loopNum b = 12 && (s.loop (loopNum b)).depth = 4 then .next ((s.passUnit (loopNum b) errors).ringPut 0x02 2 0xFF [])
    else .next (s.passUnit (loopNum b) errors) := by
  have notLost : ¬(loopNum b = 12 && (s.loop (loopNum b)).depth = 4 && 0 < errors) = true := by
    simp only [Bool.and_eq_true, decide_eq_true_eq]
    rcases hf with hf | hf
    · exact fun h => hf h.1
    · exact fun h => absurd h.2 (by omega)
  simp only [exec, execLoopUnitDone, hk]
  rw [if_neg (by simpa [hr] using hc), if_neg notLost]
  rfl

end

/-- The result after a unit: RUNNING, or at the last one PASS or FAIL. -/
def LoopUnit.resultAfter (u : LoopUnit) (errors : Nat) : Nat :=
  if fld u.ctrl 23 16 ≤ u.units + 1 then (if min (u.errors + errors) 0xFFFF = 0 then 2 else 3) else 1

/-- A unit of any depth but the ring's FAR: it is counted with its errors, time passes, and the last one ends the loop-back. -/
theorem loopUnitDone_counts {s : State} {b : LoopBlock} (errors : Nat) (hk : s.keepLoop (loopNum b) = s) (hr : (s.loop (loopNum b)).running = true)
    (hc : ¬(loopNum b < 8 ∧ (s.loop (loopNum b)).depth = 2 ∧ (s.slot (8 * loopNum b + (s.loop (loopNum b)).index)).seq.clkRun = false))
    (hf : ¬(loopNum b = 12 ∧ (s.loop (loopNum b)).depth = 4)) :
    Does (.loopUnitDone b errors) s fun t =>
      (t.loop (loopNum b)).units = (s.loop (loopNum b)).units + 1 ∧ (t.loop (loopNum b)).errors = min ((s.loop (loopNum b)).errors + errors) 0xFFFF ∧
      t.now = s.now + (s.padLead (loopNum b) + (s.loop (loopNum b)).unitCk (loopNum b)) ∧
      (t.loop (loopNum b)).result = (s.loop (loopNum b)).resultAfter errors ∧
      Changes [.now, .slots, .timers, .tide, .dev, .flow, .mram, .cores, .counts, .lpos, .audit, .ring, .loops, .out, .pba, .freeCount] s t := by
  have done := execLoopUnitDone_passes (errors := errors) hk hr hc (.inl hf)
  have loop := s.passUnit_loop (loopNum b) errors
  have now := s.passUnit_now (loopNum b) errors
  have parts := s.passUnit_evolves (loopNum b) errors
  generalize s.passUnit (loopNum b) errors = t at *
  by_cases last : fld (s.loop (loopNum b)).ctrl 23 16 ≤ (s.loop (loopNum b)).units + 1
  · have runs : (t.loop (loopNum b)).running = true := by rw [loop]; exact hr
    refine ⟨_, done.trans (if_pos last), ?_⟩
    dsimp only
    rw [State.stopLoop_loop _ _ _ runs, State.stopLoop_now, loop, now, LoopUnit.resultAfter, if_pos last]
    exact ⟨rfl, rfl, rfl, rfl, (State.stopLoop_evolves rfl _ _ _ (parts.mono rfl)).changes⟩
  · refine ⟨_, done.trans ((if_neg last).trans (if_neg (by simpa using hf))), ?_⟩
    dsimp only
    rw [loop, now, LoopUnit.resultAfter, if_neg last]
    exact ⟨rfl, rfl, rfl, of_decide_eq_true hr, (parts.mono rfl).changes⟩

/-- A unit of the ring's FAR without an error is counted, and unless it is the last the next frame is sent. -/
theorem loopUnitDone_far {s : State} {b : LoopBlock} (hk : s.keepLoop (loopNum b) = s) (hr : (s.loop (loopNum b)).running = true)
    (hn : loopNum b = 12) (hd : (s.loop (loopNum b)).depth = 4) : Does (.loopUnitDone b 0) s fun t =>
      (t.loop (loopNum b)).units = (s.loop (loopNum b)).units + 1 ∧
      ((s.loop (loopNum b)).units + 1 < fld (s.loop (loopNum b)).ctrl 23 16 → s.ring.waits = [] → s.ring.txUntil ≤ s.now →
        (t.loop (loopNum b)).result = 1 ∧ ∃ g, t.out = s.out ++ [.ring g] ∧ g.typ = 2#8 ∧ g.hops = 0) := by
  have done := execLoopUnitDone_passes (errors := 0) hk hr (by simp [hn]) (.inr rfl)
  have loop := s.passUnit_loop (loopNum b) 0
  have now : (s.passUnit (loopNum b) 0).now = s.now := by rw [State.passUnit_now]; simp [State.padLead, LoopUnit.unitCk, hn]
  have parts := s.passUnit_evolves (loopNum b) 0
  generalize s.passUnit (loopNum b) 0 = t at *
  by_cases last : fld (s.loop (loopNum b)).ctrl 23 16 ≤ (s.loop (loopNum b)).units + 1
  · have runs : (t.loop (loopNum b)).running = true := by rw [loop]; exact hr
    refine ⟨_, done.trans (if_pos last), ?_, fun more => absurd last (by omega)⟩
    rw [State.stopLoop_loop _ _ _ runs, loop]
  · have ring : t.ring = s.ring := parts.changes.at (p := .ring) (by decide)
    refine ⟨_, done.trans ((if_neg last).trans (if_pos (by rw [hd, hn]; rfl))), ?_, fun _ waits free => ⟨?_, ?_⟩⟩
    · rw [State.ringPut_loop, loop]
    · rw [State.ringPut_loop, loop]
      exact of_decide_eq_true hr
    · rw [← parts.out_eq (by decide)]
      exact State.ringPut_out t 0x02 2 0xFF [] (show (BitVec.ofNat 8 2).getLsbD 0 = false by decide) (by rw [ring]; exact waits) (by rw [ring, now]; exact free)

/-- A loop-back whose keep condition no longer holds ends ABORTED, and its unit with it. -/
theorem loopUnitDone_aborts {s : State} {b : LoopBlock} (errors : Nat) (hr : (s.loop (loopNum b)).running = true)
    (hc : s.loopCond (loopNum b) (s.loop (loopNum b)).depth (s.loop (loopNum b)).index false = false) : Does (.loopUnitDone b errors) s fun t =>
      (t.loop (loopNum b)).result = 4 ∧ (t.loop (loopNum b)).units = (s.loop (loopNum b)).units ∧ t.now = s.now := by
  have ended : s.keepLoop (loopNum b) = s.stopLoop (loopNum b) 4 := if_pos (by simp [hr, hc])
  have loop := s.stopLoop_loop (loopNum b) 4 hr
  have stopped : exec (.loopUnitDone b errors) s = .next (s.stopLoop (loopNum b) 4) := by
    simp only [exec, execLoopUnitDone, ended]
    exact if_pos (by rw [loop]; rfl)
  refine ⟨_, stopped, ?_⟩
  dsimp only
  rw [loop, State.stopLoop_now]
  exact ⟨rfl, rfl, rfl⟩

end Sys2Proof.Machine
end
section
/-! PROOFS of the test family: the test access port and the loop-back of a host path (17 R444, R447 to R449, 07 R216, R218). -/

namespace Sys2Proof.Machine

/-! The instructions that take the pins park every slot (17 R448). -/

/-- PARK with FORCE leaves a slot parked, unless it is quenching, and every other slot in its state. -/
theorem State.cmdPark_st (s : State) (a i : Nat) : ((s.cmdPark a true).2.slot i).st =
    if i = a ∧ (s.slot i).st ≠ .quenching then .parked else (s.slot i).st := by
  by_cases hi : i = a
  · subst hi
    cases h : (s.slot i).st with
    | empty | present | fault => rw [State.cmdPark_atRest (by simp [h]), State.modSlot_slot]; simp
    | activating | atr | negotiating | ready | clockstop => rw [(State.cmdPark_downs (force := true) (.inl (by simp [h]))).2.st]; simp
    | busy => rw [(State.cmdPark_downs (force := true) (.inr ⟨h, rfl⟩)).2.st]; simp
    | quenching => rw [State.cmdPark_quenching h, State.modSlot_slot]; simp [h]
    | parked => rw [State.cmdPark_parked h]; simp [h]
  · rw [if_neg (by simp [hi])]
    have kept := State.cmdPark_keeps s a true rfl (.refl a s) i hi
    have st := congrArg Slot.st kept
    exact st

/-- Every slot that is not quenching is parked, one after another. -/
theorem State.parkAll_st (s : State) (l : List Nat) (i : Nat) : ((s.forEach l fun s i => (s.cmdPark i true).2).slot i).st =
    if i ∈ l ∧ (s.slot i).st ≠ .quenching then .parked else (s.slot i).st := by
  induction l generalizing s with
  | nil => simp [State.forEach]
  | cons a l ih =>
    refine (ih (s.cmdPark a true).2).trans ?_
    rw [State.cmdPark_st]
    by_cases hq : (s.slot i).st = .quenching
    · simp [hq]
    · by_cases ha : i = a
      · subst ha; simp [hq]
      · simp [ha, hq]

theorem takePins_does {c : Instr} {s : State} {ir : Byte} (hc : exec c s = .next (s.takePins ir)) (ho : s.life.debugOpen = true) : Does c s fun t =>
    t.tap.ir = ir ∧ t.tap.pins = true ∧ (∀ i < 64, (s.slot i).st ≠ .quenching → (t.slot i).st = .parked) ∧
    Changes [.slots, .timers, .dev, .flow, .mram, .cores, .telemetry, .counts, .lpos, .audit, .crypto, .tap, .out, .pba] s t := by
  have taken : s.takePins ir = ((s.loadIr ir).forEach (List.range 64) fun s i => (s.cmdPark i true).2).modTap fun t => { t with pins := true } := if_pos ho
  have tap : ((s.loadIr ir).forEach (List.range 64) fun s i => (s.cmdPark i true).2).tap = (s.loadIr ir).tap :=
    (State.forEach_evolves (ps := [.slots, .timers, .dev, .flow, .mram, .cores, .telemetry, .counts, .lpos, .audit, .crypto, .out, .pba]) rfl _ _ _ (.refl _)
      fun u i => State.cmdPark_evolves rfl u i true (.refl u)).changes.at (p := .tap) (by decide)
  have parked (i : Nat) := (s.loadIr ir).parkAll_st (List.range 64) i
  refine ⟨_, hc, ?_, ?_, fun i hi hq => ?_, (State.takePins_evolves rfl s ir (.refl s)).changes⟩
  all_goals
    rw [taken]
    generalize (s.loadIr ir).forEach (List.range 64) (fun s i => (s.cmdPark i true).2) = u at tap parked ⊢
  · exact congrArg Tap.ir tap
  · rfl
  · exact (parked i).trans (if_pos ⟨List.mem_range.mpr hi, hq⟩)

/-! DBG_OPEN (16 R426, 17 Table 17-6). -/

/-- Sessions that close one after another are closed, and none opens. -/
theorem State.closeEach_closed (s : State) (l : List Nat) (j : Nat) (h : j ∈ l ∨ (s.session j).isOpen = false) :
    ((s.forEach l fun s i => s.closeSession i).session j).isOpen = false := by
  induction l generalizing s with
  | nil => simpa [State.forEach] using h
  | cons a l ih =>
    refine ih (s.closeSession a) ?_
    by_cases hj : j = a
    · exact .inr (by rw [(s.closeSession_sess a j).1, if_pos hj])
    · rw [(s.closeSession_sess a j).1, if_neg hj]
      exact h.imp (fun hm => (List.mem_cons.mp hm).resolve_left hj) id

/-- The opening of the debug port closes every session (16 R426). -/
theorem State.beginOpening_closed (s : State) (jtag : Bool) (j : Nat) : ((s.beginOpening jtag).session j).isOpen = false := by
  refine s.closeEach_closed _ j ?_
  by_cases open_ : (s.session j).isOpen = true
  · have listed : s.session j ≠ {} := fun e => by rw [e] at open_; exact Bool.false_ne_true open_
    exact .inl (List.mem_map.mpr ⟨(j, s.session j), List.mem_filter.mpr ⟨mem_of_tget_ne listed, open_⟩, rfl⟩)
  · exact .inr (by simpa using open_)

section
variable {s : State}

theorem execDbgOpen_only (h : s.lifeState ≠ .blank ∨ s.life.debugOpen = true) : exec .dbgOpen s = .next (s.loadIr 0x10) :=
  if_pos (by simpa using h)

theorem execDbgOpen_asks (hb : s.lifeState = .blank) (hd : s.life.debugOpen = false) : exec .dbgOpen s =
    if s.qpsLive || s.auditHeld || s.life.opening.isSome || !s.dictRuns then .next ((s.loadIr 0x10).line 47)
    else .next ((((s.loadIr 0x10).line 47).auditAdd .privileged { kind := 9, origin := 4, detail := [1#8] }).beginOpening true) :=
  if_neg (by simp [hb, hd])

end

/-! CORE_CTRL (17 Table 17-6). -/

theorem State.noteCores_core (s : State) (k : Nat) : s.noteCores.core k = s.core k := by
  have e : s.noteCores.cores = s.cores :=
    (State.noteCores_evolves (ps := [.dev, .coreCtl, .counts, .out, .pba]) rfl s (.refl s)).changes.at (p := .cores) (by decide)
  simp only [State.core, e]

/-- What the write of bit k of CORE_RUN does. -/
def State.coreBit (s : State) (v : Word) (k : Nat) : State :=
  if bitOf v k then
    if (s.core k).run = .halted then (s.releaseCore k).loadWdog k else s.modCore k fun c => { c with stopReq := false }
  else if (s.core k).run = .halted then s else s.stopCore k

section
variable (s : State) (v : Word)

theorem State.coreBit_other {j k : Nat} (h : j ≠ k) : (s.coreBit v k).core j = s.core j := by
  have mod (u : State) (f : Core → Core) : (u.modCore k f).core j = u.core j := State.modCore_core_ne u k j f h
  unfold State.coreBit State.releaseCore State.loadWdog State.stopCore State.haltCore
  split
  · split
    · split
      · rw [mod, State.noteCores_core, mod]
      · rw [State.noteCores_core, mod]
    · rw [mod]
  · split
    · rfl
    · split
      · rw [mod]
      · rw [State.noteCores_core, mod]

theorem State.coreBit_halts {k : Nat} (hv : bitOf v k = false) (h : (s.core k).inRepl = false ∨ (s.core k).run = .halted) : ((s.coreBit v k).core k).run = .halted := by
  rw [State.coreBit, if_neg (by simp [hv])]
  split
  · assumption
  · next running =>
    rw [State.stopCore, if_neg (by simp [h.resolve_right running]), State.haltCore, State.noteCores_core, State.modCore_core]

theorem State.coreBit_stops {k : Nat} (hv : bitOf v k = false) (h : (s.core k).inRepl = true) (hr : (s.core k).run ≠ .halted) :
    ((s.coreBit v k).core k).run = (s.core k).run ∧ ((s.coreBit v k).core k).stopReq = true := by
  rw [State.coreBit, if_neg (by simp [hv]), if_neg hr, State.stopCore, if_pos h, State.modCore_core]
  exact ⟨rfl, rfl⟩

theorem State.coreBit_runs {k : Nat} (hv : bitOf v k = true) (hr : (s.core k).run ≠ .halted) :
    ((s.coreBit v k).core k).run = (s.core k).run ∧ ((s.coreBit v k).core k).stopReq = false := by
  rw [State.coreBit, if_pos hv, if_neg hr, State.modCore_core]
  exact ⟨rfl, rfl⟩

/-- A write of CORE_RUN does to each core what its own bit says. -/
theorem State.writeCoreRun_core {k : Nat} (hk : k < 4) : ∃ u : State, u.core k = s.core k ∧ (s.writeCoreRun v).core k = (u.coreBit v k).core k := by
  have whole : s.writeCoreRun v = (((s.coreBit v 0).coreBit v 1).coreBit v 2).coreBit v 3 := rfl
  rw [whole]
  have other (u : State) {j : Nat} (h : k ≠ j) : (u.coreBit v j).core k = u.core k := u.coreBit_other v h
  interval_cases k
  · exact ⟨s, rfl, by rw [other _ (by decide), other _ (by decide), other _ (by decide)]⟩
  · exact ⟨s.coreBit v 0, other _ (by decide), by rw [other _ (by decide), other _ (by decide)]⟩
  · exact ⟨(s.coreBit v 0).coreBit v 1, by rw [other _ (by decide), other _ (by decide)], by rw [other _ (by decide)]⟩
  · exact ⟨((s.coreBit v 0).coreBit v 1).coreBit v 2, by rw [other _ (by decide), other _ (by decide), other _ (by decide)], rfl⟩

end

/-- The low four bits of CORE_CTRL are those of CORE_RUN. -/
theorem bitOf_coreCtrl (w : Byte) {k : Nat} (hk : k < 4) : bitOf ((w &&& 0x0F#8).setWidth 32) k = w.getLsbD k := by
  have mask : (0x0F#8).getLsbD k = true := by interval_cases k <;> rfl
  rw [bitOf, BitVec.getLsbD_setWidth, BitVec.getLsbD_and, mask, Bool.and_true, decide_eq_true (by omega), Bool.true_and]

theorem execCoreCtrl_open {s : State} (ho : s.life.debugOpen = true) (w : Byte) : exec (.coreCtrl w) s =
    .next ((s.loadIr 0x20 (BitVec.ofNat 32 s.coreStateBits)).writeCoreRun ((w &&& 0x0F#8).setWidth 32)) := if_pos ho

theorem coreCtrl_does {s : State} (ho : s.life.debugOpen = true) (w : Byte) : Does (.coreCtrl w) s fun t =>
    t.tap = { s.tap with ir := 0x20, pins := false, dr := BitVec.ofNat 32 s.coreStateBits } ∧
    (∀ k < 4, w.getLsbD k = false → (s.core k).inRepl = false ∨ (s.core k).run = .halted → (t.core k).run = .halted) ∧
    (∀ k < 4, w.getLsbD k = false → (s.core k).inRepl = true → (s.core k).run ≠ .halted → (t.core k).run = (s.core k).run ∧ (t.core k).stopReq = true) ∧
    (∀ k < 4, w.getLsbD k = true → (s.core k).run ≠ .halted → (t.core k).run = (s.core k).run ∧ (t.core k).stopReq = false) ∧
    Changes [.dev, .cores, .coreCtl, .counts, .tap, .out, .pba] s t := by
  generalize hv : (w &&& 0x0F#8).setWidth 32 = v
  have bits {k : Nat} (hk : k < 4) : bitOf v k = w.getLsbD k := hv ▸ bitOf_coreCtrl w hk
  have loaded := State.loadIr_evolves (ps := [.tap]) rfl s 0x20 (BitVec.ofNat 32 s.coreStateBits) (.refl s)
  have run := State.writeCoreRun_evolves (ps := [.dev, .cores, .coreCtl, .counts, .out, .pba]) rfl (s.loadIr 0x20 (BitVec.ofNat 32 s.coreStateBits)) v (.refl _)
  have cores {k : Nat} (hk : k < 4) := (s.loadIr 0x20 (BitVec.ofNat 32 s.coreStateBits)).writeCoreRun_core v hk
  refine ⟨_, hv ▸ execCoreCtrl_open ho w, run.changes.at (p := .tap) (by decide), fun k hk hw h => ?_, fun k hk hw h hr => ?_, fun k hk hw hr => ?_,
    ((loaded.mono rfl).trans (run.mono rfl)).changes⟩
  all_goals
    obtain ⟨u, same, core⟩ := cores hk
    have same : u.core k = s.core k := same
    rw [core]
  · exact u.coreBit_halts v ((bits hk).trans hw) (by rw [same]; exact h)
  · rw [← same]
    exact u.coreBit_stops v ((bits hk).trans hw) (by rw [same]; exact h) (by rw [same]; exact hr)
  · rw [← same]
    exact u.coreBit_runs v ((bits hk).trans hw) (by rw [same]; exact hr)

/-! MEM_ACCESS (17 R449). -/

section
variable {s : State} (ho : s.life.debugOpen = true)
include ho

theorem execMemAccess_unaligned {a : Word} (ha : a.toNat % 4 ≠ 0) (wr : Bool) (d : Word) :
    exec (.memAccess wr a d) s = .next { s with tap := { s.tap with ir := 0x21, pins := false, dr := 0, err := true } } := by
  simp only [exec, execMemAccess]
  rw [if_neg (by simp [ho]), if_pos (by simp [ha])]
  rfl

end

theorem regionOf_shared {x : Nat} (lo : 0x20000000 ≤ x) (hi : x < 0x20080000) : regionOf x = some .shared := by
  rw [regionOf, if_neg (by omega), if_neg (by omega), if_pos ⟨lo, hi⟩]

/-! The shared SRAM takes loads and stores of firmware. -/

section
variable {x : Nat} (h4 : x % 4 = 0) (lo : 0x20000000 ≤ x) (hi : x < 0x20080000)
include h4 lo hi

theorem busOk_shared {a : Acc} (ha : a ≠ .swap) : busOk false a x 4 = true := by
  have last : regionOf (x + 3) = some .shared := regionOf_shared (by omega) (by omega)
  rw [busOk, regionOf_shared lo hi, show x + 4 - 1 = x + 3 from rfl, last]
  simp [Region.permits, ha]

theorem State.badAt_shared (s : State) : s.badAt x 4 = none := by
  have off (j : Nat) (hj : j < 4) : mramOffset (x + j) = none := by rw [mramOffset, regionOf_shared (by omega) (by omega)]
  rw [State.badAt]
  split
  · rfl
  · refine List.findSome?_eq_none_iff.mpr fun j hj => ?_
    rw [off j (List.mem_range.mp hj)]

theorem State.load_shared (s : State) : s.load 0 x 4 = (ofLe (s.sramBytes x 4), s) := by
  have byte (j : Nat) (hj : j < 4) : s.memByte 0 (x + j) = s.sramByte (x + j) := by
    rw [State.memByte, regionOf_shared (by omega) (by omega)]
    dsimp only
    rw [sramAddr, if_neg (by omega)]
  rw [State.load, regionOf_shared lo hi]
  dsimp only
  rw [List.map_congr_left fun j hj => byte j (List.mem_range.mp hj)]
  rfl

theorem State.store_shared (s : State) (v : Nat) : s.store 0 x 4 v = s.setSramBytes x (leBytes v 4) := by
  have addr (j : Nat) : sramAddr 0 (x + j) = x + j := by rw [sramAddr, if_neg (by omega)]
  rw [State.store, regionOf_shared lo hi]
  simp only [leBytes, List.zipIdx, List.foldl, addr, State.setSramBytes]
  rfl

end

section
variable {s : State} (ho : s.life.debugOpen = true) {a : Word} (h4 : a.toNat % 4 = 0) (lo : 0x20000000 ≤ a.toNat) (hi : a.toNat < 0x20080000)
include ho h4 lo hi

theorem execMemAccess_write (d : Word) : exec (.memAccess true a d) s =
    .next (((s.loadIr 0x21).setSramBytes a.toNat (leBytes d.toNat 4)).modTap fun t => { t with err := false }) := by
  simp only [exec, execMemAccess]
  rw [if_neg (by simp [ho]), if_neg (by simp [h4, busOk_shared h4 lo hi]), if_neg (by simp), if_pos trivial, State.store_shared h4 lo hi]

theorem execMemAccess_read (d : Word) : exec (.memAccess false a d) s =
    .next { s with tap := { ir := 0x21, pins := false, err := false, dr := BitVec.ofNat 32 (ofLe (s.sramBytes a.toNat 4)) } } := by
  simp only [exec, execMemAccess]
  rw [if_neg (by simp [ho]), if_neg (by simp [h4, busOk_shared h4 lo hi]), if_neg (by simp [State.badAt_shared h4 lo hi]), if_neg (by simp),
    State.load_shared h4 lo hi]
  rfl

end

/-! The link of a path falls (07 R216, R218). -/

theorem State.linkUp_congr {s t : State} (ha : t.dev.linkA = s.dev.linkA) (hb : t.dev.linkB = s.dev.linkB) (p : Path) : t.linkUp p = s.linkUp p := by
  cases p
  · exact ha
  · exact hb

theorem State.irq_linkUp (s : State) (n : Nat) (p : Path) : (s.irq n).linkUp p = s.linkUp p := by
  have sent (u : State) (q : Path) (v : Nat) : (u.sendMsix q v).dev = u.dev :=
    (State.sendMsix_evolves (ps := [.counts, .out, .pba]) rfl u q v (.refl u)).changes.at (p := .dev) (by decide)
  refine State.linkUp_congr ?_ ?_ p
  all_goals
    unfold State.irq
    dsimp only
    split
    · rfl
    · split
      · rfl
      · rw [sent]; rfl

theorem State.post_linkUp (s : State) (typ source code : Nat) (data : List Word) (p : Path) : (s.post typ source code data).linkUp p = s.linkUp p := by
  unfold State.post State.postEv
  split
  · cases p <;> rfl
  · rw [State.irq_linkUp]; cases p <;> rfl

theorem State.setLink_linkUp (s : State) (p : Path) (up : Bool) : (s.setLink p up).linkUp p = up := by cases p <;> rfl

/-- Pairs that are suspended one after another. -/
theorem State.suspendAll_st (s : State) (l : List Nat) (q : Nat) : (q ∈ l ∨ (s.qp q).st = .suspended) →
    ((s.forEach l fun s q => s.modQp q fun x => { x with st := .suspended }).qp q).st = .suspended := by
  induction l generalizing s with
  | nil => exact fun h => h.resolve_left (by simp)
  | cons a l ih =>
    refine fun h => ih (s.modQp a fun x => { x with st := .suspended }) ?_
    by_cases hq : q = a
    · subst hq
      exact .inr (by rw [State.modQp_qp])
    · rw [State.modQp_qp_ne _ _ _ _ hq]
      exact h.imp (fun hm => (List.mem_cons.mp hm).resolve_left hq) id

theorem Settles.endEarlyAll {s : State} (h : s.wf = true) (l : List Nat) (status : Nat) : Settles s (s.forEach l fun s q => s.endEarlyOf q status) :=
  (Settles.refl h).forEach l _ fun _ q hu => hu.trans (State.endEarlyOf_spec hu.wf q status).1

/-- When a link falls, its joined pairs are suspended and the device's source is set. -/
theorem State.dropLink_spec {s : State} (h : s.wf = true) {p : Path} (hp : s.linkUp p = true) : (s.dropLink p).linkUp p = false ∧
    (s.dropLink p).dev.irqStatus.getLsbD 3 = true ∧ ∀ q ∈ s.joinedOn p, ((s.dropLink p).qp q).st = .suspended := by
  unfold State.dropLink
  rw [if_pos hp]
  dsimp only
  generalize hs1 : (s.forEach (s.joinedOn p) fun s q => s.modQp q fun x => { x with st := .suspended }) = s1
  have wf1 : s1.wf = true :=
    hs1 ▸ (State.forEach_evolves (ps := [.flow]) rfl s _ _ (.refl s) fun u q => State.modQp_evolves rfl u q _ (.refl u)).wf h
  have ended := Settles.endEarlyAll wf1 (s.joinedOn p) 0x12
  generalize s1.forEach (s.joinedOn p) (fun s q => s.endEarlyOf q 0x12) = s2 at ended ⊢
  have told := State.irq_evolves (ps := [.dev, .counts, .out, .pba]) rfl _ 3
    (State.post_evolves rfl _ 0x40 (pathNum p) 0 [BitVec.ofNat 32 (s.joinedOn p).length]
      (State.tally_evolves rfl _ (0x1301 + pathNum p) 3 1 false (State.setLink_evolves rfl s2 p false (.refl s2))))
  refine ⟨?_, State.irq_status _ 3 (by decide), fun q hq => ?_⟩
  · rw [State.irq_linkUp, State.post_linkUp]
    exact State.setLink_linkUp s2 p false
  · rw [State.qp, told.flow_eq, ← State.qp, ended.qp_eq, ← hs1]
    exact State.suspendAll_st s _ q (.inl hq)

theorem pcieLoopback_does {s : State} (h : s.wf = true) {p : Path} (hp : s.linkUp p = true) : Does (.pcieLoopback p) s fun t =>
    t.linkUp p = false ∧ t.dev.irqStatus.getLsbD 3 = true ∧ (∀ q ∈ s.joinedOn p, (t.qp q).st = .suspended) ∧
    Changes [.slots, .timers, .dev, .flow, .mram, .cores, .counts, .lpos, .audit, .out, .pba] s t := by
  obtain ⟨down, told, suspended⟩ := State.dropLink_spec h hp
  exact ⟨_, rfl, down, told, suspended, (State.dropLink_evolves rfl s p (.refl s)).changes⟩

end Sys2Proof.Machine
end
section
/-! PROOFS of the test family: writes at BAR0 offsets (07 R190 to R192), and with them what the family states of the loop-backs and of the test access port. -/

namespace Sys2Proof.Machine

/-! A write at an offset (07 R190). -/

section
variable (s : State) (ag : Agent)

theorem execRegisterWrite_word (a v : Word) : exec (.registerWrite ag a ⟨.word, v⟩) s = .next (s.busWrite ag a.toNat v) := rfl

theorem State.busWrite_unaligned {a : Nat} (h : a % 4 ≠ 0) (v : Word) : s.busWrite ag a v = s := if_neg (by simp [h])

theorem State.busWrite_unanswered {p : Path} (h : s.boot.step < 2) (a : Nat) (v : Word) : s.busWrite (.path p) a v = s :=
  if_neg (by simp [State.answers, h])

/-- Above the map nothing stands (07 Table 7-1). -/
theorem regAt_above {a : Nat} (h : 0x1E000 ≤ a) : regAt a = .none := by
  unfold regAt
  repeat rw [if_neg (by omega)]

theorem State.busWrite_above {a : Nat} (h : 0x1E000 ≤ a) (v : Word) : s.busWrite ag a v = s := by
  unfold State.busWrite
  rw [regAt_above h]
  split <;> rfl

/-- The path of a device whose start has reached step 2 writes the register that stands at an aligned offset. -/
theorem State.busWrite_reg {p : Path} (h : 2 ≤ s.boot.step) {a : Nat} (ha : a % 4 = 0) (v : Word) : s.busWrite (.path p) a v = s.writeReg (.path p) (regAt a) v :=
  if_pos (by simp [ha, State.answers, h])

end

theorem regAt_doorbell {a : Nat} (lo : 0x18000 ≤ a) (hi : a < 0x19000) : regAt a = .doorbell ((a - 0x18000) / 8) (a % 8 = 4) := by
  unfold regAt
  repeat rw [if_neg (by omega)]
  rw [if_pos hi]

theorem regAt_slot {a : Nat} (lo : 0x2000 ≤ a) (hi : a < 0x4000) : regAt a = .slot ((a - 0x2000) / 0x80) (a % 0x80) := by
  unfold regAt
  repeat rw [if_neg (by omega)]
  rw [if_pos hi]

theorem regAt_dev {a : Nat} (hi : a < 0x1000) : regAt a = .dev a := if_pos hi

section
variable {s : State} {p : Path} (h : 2 ≤ s.boot.step) (v : Word)
include h

theorem registerWrite_sqTail (q : Fin 512) :
    exec (.registerWrite (.path p) (BitVec.ofNat 32 (0x18000 + 8 * q.val)) ⟨.word, v⟩) s = exec (.sqTailDoorbell p q v) s := by
  have at_ : (BitVec.ofNat 32 (0x18000 + 8 * q.val)).toNat = 0x18000 + 8 * q.val := by rw [BitVec.toNat_ofNat]; omega
  rw [execRegisterWrite_word, at_, State.busWrite_reg s h (by omega), regAt_doorbell (by omega) (by omega),
    show (0x18000 + 8 * q.val - 0x18000) / 8 = q.val by omega, decide_eq_false (by omega)]
  rfl

theorem registerWrite_cqHead (q : Fin 512) :
    exec (.registerWrite (.path p) (BitVec.ofNat 32 (0x18004 + 8 * q.val)) ⟨.word, v⟩) s = exec (.cqHeadDoorbell p q v) s := by
  have at_ : (BitVec.ofNat 32 (0x18004 + 8 * q.val)).toNat = 0x18004 + 8 * q.val := by rw [BitVec.toNat_ofNat]; omega
  rw [execRegisterWrite_word, at_, State.busWrite_reg s h (by omega), regAt_doorbell (by omega) (by omega),
    show (0x18004 + 8 * q.val - 0x18000) / 8 = q.val by omega, decide_eq_true (by omega)]
  rfl

theorem registerWrite_slot (i : Fin 64) :
    exec (.registerWrite (.path p) (BitVec.ofNat 32 (0x2000 + 128 * i.val)) ⟨.word, v⟩) s = .next (s.writeSlot (.path p) i 0 v) := by
  have at_ : (BitVec.ofNat 32 (0x2000 + 128 * i.val)).toNat = 0x2000 + 128 * i.val := by rw [BitVec.toNat_ofNat]; omega
  rw [execRegisterWrite_word, at_, State.busWrite_reg s h (by omega), regAt_slot (by omega) (by omega),
    show (0x2000 + 128 * i.val - 0x2000) / 0x80 = i.val by omega, show (0x2000 + 128 * i.val) % 0x80 = 0 by omega]
  rfl

/-- A word written at an offset of the device block. -/
theorem registerWrite_dev {a : Word} (ha : a.toNat % 4 = 0) (hi : a.toNat < 0x1000) :
    exec (.registerWrite (.path p) a ⟨.word, v⟩) s = .next (s.writeDev (.path p) a.toNat v) := by
  rw [execRegisterWrite_word, State.busWrite_reg s h ha, regAt_dev hi]
  rfl

end

/-- An aligned 64-bit write acts on the lower register first. -/
theorem registerWrite_double (s : State) (ag : Agent) {a : Word} (ha : a.toNat % 8 = 0) (v hi : Word) {t : State}
    (ht : exec (.registerWrite ag a ⟨.word, v⟩) s = .next t) :
    exec (.registerWrite ag a ⟨.double hi, v⟩) s = exec (.registerWrite ag (a + 4) ⟨.word, hi⟩) t := by
  have lower : s.busWrite ag a.toNat v = t := Host.Outcome.next.inj ht
  have next : (a + 4).toNat = a.toNat + 4 := by
    have := a.isLt
    rw [BitVec.toNat_add]
    exact Nat.mod_eq_of_lt (by change a.toNat + 4 < 2 ^ 32; omega)
  have both : exec (.registerWrite ag a ⟨.double hi, v⟩) s = .next ((s.busWrite ag a.toNat v).busWrite ag (a.toNat + 4) hi) :=
    congrArg Host.Outcome.next (if_pos ha)
  rw [both, lower, execRegisterWrite_word, next]

/-! Loop-backs: what a write of LOOP_CTRL does (17 R441 to R443). -/

/-- The bits of GO and STOP in the words of a write that asks for one of them. -/
theorem bitOf_go (w : Word) : bitOf (w ||| 0x80000000#32) 31 = true := by rw [bitOf_or]; simp [bitOf]

theorem bitOf_stop (w : Word) : bitOf (w ||| 0x40000000#32) 30 = true := by rw [bitOf_or]; simp [bitOf]

theorem bitOf_go_stop {w : Word} (h : bitOf w 30 = false) : bitOf (w ||| 0x80000000#32) 30 = false := by rw [bitOf_or, h]; rfl

theorem bitOf_stop_go {w : Word} (h : bitOf w 31 = false) : bitOf (w ||| 0x40000000#32) 31 = false := by rw [bitOf_or, h]; rfl

/-- GO is not among the fields that it checks. -/
theorem loopValid_go (n : Nat) (w : Word) : loopValid n (w ||| 0x80000000#32) ↔ loopValid n w := by
  simp only [loopValid, fld_or_go (show 10 < 30 by decide), fld_or_go (show 23 < 30 by decide), fld_or_go (show 2 < 30 by decide),
    fld_or_go (show 25 < 30 by decide)]

theorem State.loopMay_go (s : State) (ag : Agent) (n : Nat) (w : Word) : s.loopMay ag n (w ||| 0x80000000#32) ↔ s.loopMay ag n w := by
  simp only [State.loopMay, fld_or_go (show 10 < 30 by decide), fld_or_go (show 2 < 30 by decide)]

section
variable {s : State} {ag : Agent} {b : LoopBlock} {w : Word} (h31 : bitOf w 31 = false) (h30 : bitOf w 30 = false) (ha : s.allows ag 2 = true)
include h31 h30 ha

/-- A block that carries no loop-back. -/
theorem loopCtrl_idle (hr : (s.loop (loopNum b)).running = false) :
    let n := loopNum b
    let err (e : CmdErr) : Host.Outcome State Fault Refusal := .next (s.modLoop n fun u => { u with cmdErr := e })
    exec (.loopGo ag b (w ||| 0x40000000#32)) s = err .multiple ∧ exec (.loopStop ag b (w ||| 0x80000000#32)) s = err .multiple ∧
    exec (.loopStop ag b w) s = err .state ∧
    (¬loopValid n w → exec (.loopGo ag b w) s = err .value) ∧ (loopValid n w → ¬s.loopMay ag n w → exec (.loopGo ag b w) s = err .state) ∧
    (loopValid n w → s.loopMay ag n w → Does (.loopGo ag b w) s fun t =>
      t.loop n = { cmdErr := .none, result := 1, units := 0, errors := 0, ctrl := w ||| 0x80000000#32 } ∧ (t.loop n).running = true ∧
      (n < 8 → fld w 10 8 = 2 → (t.slot (8 * n + fld w 2 0)).seq.phase = .wait ∧ (t.slot (8 * n + fld w 2 0)).seq.tryCls = .c) ∧
      Changes [.slots, .timers, .dev, .flow, .mram, .cores, .counts, .lpos, .audit, .ring, .loops, .out, .pba, .freeCount] s t) := by
  intro n err
  have hk : s.keepLoop n = s := State.keepLoop_kept (.inl hr)
  refine ⟨congrArg Host.Outcome.next (State.writeLoopCtrl_multiple ha hk (bitOf_go _) ?_),
    congrArg Host.Outcome.next (State.writeLoopCtrl_multiple ha hk ?_ (bitOf_stop _)), ?_,
    fun hv => congrArg Host.Outcome.next (State.writeLoopCtrl_value ha hk (bitOf_go w) (bitOf_go_stop h30) (by rwa [loopValid_go])), fun hv hm => ?_, fun hv hm => ?_⟩
  · rw [bitOf_or, bitOf_stop]; rfl
  · rw [bitOf_or, bitOf_go]; rfl
  · exact congrArg Host.Outcome.next ((State.writeLoopCtrl_stop ha hk (bitOf_stop_go h31) (bitOf_stop w)).trans (if_neg (by simpa using hr)))
  · refine congrArg Host.Outcome.next ((State.writeLoopCtrl_go ha hk (bitOf_go w) (bitOf_go_stop h30) ((loopValid_go n w).mpr hv)).trans (if_pos ?_))
    exact not_not.mp fun g => hm ((s.loopMay_go ag n w).mp ((State.loopMay_iff hr).mpr g))
  · have goes := (State.writeLoopCtrl_go ha hk (bitOf_go w) (bitOf_go_stop h30) ((loopValid_go n w).mpr hv)).trans (if_neg ((State.loopMay_iff hr).mp ((s.loopMay_go ag n w).mpr hm)))
    have parts := State.writeLoopCtrl_evolves (ps := [.slots, .timers, .dev, .flow, .mram, .cores, .counts, .lpos, .audit, .ring, .loops, .out, .pba, .freeCount])
      rfl s ag n (w ||| 0x80000000#32) (.refl s)
    have loop : (s.writeLoopCtrl ag n (w ||| 0x80000000#32)).loop n =
        { cmdErr := .none, result := 1, units := 0, errors := 0, ctrl := w ||| 0x80000000#32 } := by
      rw [goes]
      split
      · rw [State.ringPut_loop, State.startLoop_loop]
      · rw [State.startLoop_loop]
    refine ⟨_, rfl, loop, by rw [loop]; rfl, fun h8 hd => ?_, parts.changes⟩
    have pad : ¬(n = 12 && fld (w ||| 0x80000000#32) 10 8 = 4) = true := by simp [show n ≠ 12 by omega]
    rw [goes, if_neg pad, ← fld_or_go (w := w) (show 2 < 30 by decide)]
    exact State.startLoop_ramp s n _ h8 ((fld_or_go (by decide)).trans hd)

/-- A block whose loop-back goes on. -/
theorem loopCtrl_running (hr : (s.loop (loopNum b)).running = true)
    (hc : s.loopCond (loopNum b) (s.loop (loopNum b)).depth (s.loop (loopNum b)).index false = true) :
    let n := loopNum b
    (loopValid n w → exec (.loopGo ag b w) s = .next (s.modLoop n fun u => { u with cmdErr := .state })) ∧
    Does (.loopStop ag b w) s fun t => (t.loop n).result = 4 ∧ (t.loop n).running = false ∧ (t.loop n).cmdErr = .none ∧
      Changes [.slots, .timers, .dev, .flow, .mram, .cores, .counts, .lpos, .audit, .ring, .loops, .out, .pba, .freeCount] s t := by
  intro n
  have hk : s.keepLoop n = s := State.keepLoop_kept (.inr hc)
  refine ⟨fun hv => ?_, ?_⟩
  · exact congrArg Host.Outcome.next ((State.writeLoopCtrl_go ha hk (bitOf_go w) (bitOf_go_stop h30) ((loopValid_go n w).mpr hv)).trans (if_pos (by simp [n, hr])))
  · have stopped := (State.writeLoopCtrl_stop ha hk (bitOf_stop_go h31) (bitOf_stop w)).trans (if_pos hr)
    have loop : ((s.stopLoop n 4).loopErr n .none).loop n = { s.loop n with result := 4, cmdErr := .none } := by
      rw [State.loopErr, State.modLoop_loop, State.stopLoop_loop _ _ _ hr]
    have parts := State.writeLoopCtrl_evolves (ps := [.slots, .timers, .dev, .flow, .mram, .cores, .counts, .lpos, .audit, .ring, .loops, .out, .pba, .freeCount])
      rfl s ag n (w ||| 0x40000000#32) (.refl s)
    refine ⟨_, rfl, ?_, ?_, ?_, parts.changes⟩
    all_goals rw [stopped, loop]
    rfl

end

/-- A path without the administrator's grant writes no LOOP_CTRL (07 R191). -/
theorem loopCtrl_denied {s : State} {p : Path} (h : s.grant p < 2) (b : LoopBlock) (w : Word) :
    exec (.loopGo (.path p) b w) s = .next (s.wdeny p) ∧ exec (.loopStop (.path p) b w) s = .next (s.wdeny p) :=
  ⟨congrArg Host.Outcome.next (if_neg (Nat.not_le.mpr h)), congrArg Host.Outcome.next (if_neg (Nat.not_le.mpr h))⟩

/-! The test access port: what its instructions load (17 R447 to R449). -/

/-- Loading an instruction changes the TAP alone. -/
theorem State.loadIr_eq (s : State) (ir : Byte) (dr : Word) : s.loadIr ir dr = { s with tap := { s.tap with ir := ir, pins := false, dr := dr } } := rfl

/-- A word of four values is their sum, each at its bits. -/
theorem packed_four_toNat {a b c d x y z w m : Nat} (h : 0 + x * 2 ^ a + y * 2 ^ b + z * 2 ^ c + w * 2 ^ d = m) (lt : m < 2 ^ 32) :
    (packed [(a, x), (b, y), (c, z), (d, w)]).toNat = m := by
  subst h
  exact (BitVec.toNat_ofNat _ _).trans (Nat.mod_eq_of_lt lt)

theorem idcode_sum {k m : Nat} (h : m = k * 268435456 + 104858991) : 0 + k * 2 ^ 28 + 0x6400 * 2 ^ 12 + 0x2B7 * 2 ^ 1 + 1 * 2 ^ 0 = m := by omega

/-- The number that IDCODE shows, whatever the stepping (17 R447). -/
theorem idcodeWord_toNat {m : Nat} (h : m = Config.stepping.toNat % 16 * 268435456 + 104858991) : idcodeWord.toNat = m := by
  have sum := idcode_sum h
  have small : m < 2 ^ 32 := by
    have := Nat.mod_lt Config.stepping.toNat (show 16 > 0 by decide)
    omega
  exact packed_four_toNat sum small

theorem idcodeWord_fields : bitOf idcodeWord 0 = true ∧ fld idcodeWord 11 1 = 0x2B7 ∧ fld idcodeWord 27 12 = 0x6400 ∧
    fld idcodeWord 31 28 = Config.stepping.toNat % 16 := by
  obtain ⟨k, hk⟩ : ∃ k, k = Config.stepping.toNat % 16 := ⟨_, rfl⟩
  obtain ⟨m, hm⟩ : ∃ m, m = k * 268435456 + 104858991 := ⟨_, rfl⟩
  have small : k < 16 := by omega
  rw [bitOf, ← BitVec.testBit_toNat, Nat.testBit_zero, decide_eq_true_eq, fld, fld, fld, idcodeWord_toNat (hk ▸ hm), ← hk]
  clear hk
  refine ⟨?_, ?_, ?_, ?_⟩ <;> omega

section
variable {s : State} (hd : s.life.debugOpen = false)
include hd

theorem takePins_closed (ir : Byte) : s.takePins ir = s.loadIr ir := if_neg (by simp [hd])

theorem execCoreCtrl_closed (w : Byte) : exec (.coreCtrl w) s = .next (s.loadIr 0x20) := if_neg (by simp [hd])

theorem execMemAccess_closed (wr : Bool) (a d : Word) : exec (.memAccess wr a d) s = .next (s.loadIr 0x21) := if_pos (by simp [hd])

theorem dbgOpen_opens (hb : s.lifeState = .blank) (hq : s.qpsLive = false) (ha : s.auditHeld = false) (ho : s.life.opening = none) (hr : s.dictRuns = true) :
    Does .dbgOpen s fun t => t.tap.ir = 0x10#8 ∧ t.life.opening = some true ∧ (∀ j, (t.session j).isOpen = false) ∧
      Changes [.slots, .dev, .flow, .mram, .cores, .counts, .lpos, .audit, .life, .tap, .out, .pba] s t := by
  have asked := (execDbgOpen_asks hb hd).trans (if_neg (by simp [hq, ha, ho, hr]))
  have added := State.auditAdd_evolves (ps := [.slots, .dev, .flow, .mram, .cores, .counts, .lpos, .audit, .life, .out, .pba]) rfl ((s.loadIr 0x10).line 47)
    .privileged { kind := 9, origin := 4, detail := [1#8] } (State.line_evolves rfl (s.loadIr 0x10) 47 (.refl _))
  have opened := State.beginOpening_evolves rfl _ true added
  refine ⟨_, asked, ?_, rfl, State.beginOpening_closed _ true, ((State.loadIr_evolves rfl s 0x10 0 (.refl s)).trans (opened.mono rfl)).changes⟩
  exact congrArg Tap.ir (opened.changes.at (p := .tap) (by decide))

theorem dbgOpen_refused (hb : s.lifeState = .blank) (h : s.qpsLive = true ∨ s.auditHeld = true ∨ s.life.opening ≠ none ∨ s.dictRuns = false) :
    Does .dbgOpen s fun t => t.tap.ir = 0x10#8 ∧ Changes [.cores, .tap] s t := by
  have asked := (execDbgOpen_asks hb hd).trans (if_pos (by
    simp only [Bool.or_eq_true, Bool.not_eq_true', Option.isSome_iff_ne_none]
    tauto))
  have raised := State.line_evolves (ps := [.cores]) rfl (s.loadIr 0x10) 47 (.refl _)
  exact ⟨_, asked, congrArg Tap.ir (raised.changes.at (p := .tap) (by decide)),
    ((State.loadIr_evolves rfl s 0x10 0 (.refl s)).trans (raised.mono rfl)).changes⟩

end

/-- A write of the shared SRAM through the port. -/
theorem memAccess_writes {s : State} (ho : s.life.debugOpen = true) {a : Word} (h4 : a.toNat % 4 = 0) (lo : 0x20000000 ≤ a.toNat) (hi : a.toNat < 0x20080000)
    (d : Word) : Does (.memAccess true a d) s fun t => t.sramBytes a.toNat 4 = leBytes d.toNat 4 ∧
      (∀ x, x < a.toNat ∨ a.toNat + 4 ≤ x → t.sramByte x = s.sramByte x) ∧ t.tap.err = false ∧ Changes [.sram, .tap] s t := by
  refine ⟨_, execMemAccess_write ho h4 lo hi d, ?_, fun x hx => ?_, rfl, ?_⟩
  · exact State.setSramBytes_sramBytes (s.loadIr 0x21) a.toNat (leBytes d.toNat 4)
  · exact State.setSramBytes_outside (s.loadIr 0x21) a.toNat (leBytes d.toNat 4) x hx
  · exact (State.modTap_evolves rfl _ _ (State.setSramBytes_evolves rfl _ _ _ (State.loadIr_evolves rfl s 0x21 0 (.refl s)))).changes

/-- Settles O59: each part by what its commands do. -/
theorem loopbacksTapAndBus : Obligations.LoopbacksTapAndBus := by
  intro s hwf
  refine ⟨?_, fun p b w h => loopCtrl_denied h b w, ?_, ?_, ?_⟩
  · intro ag b w h31 h30 ha n u depth i err valid may
    have kept (hc : s.loopCond n u.depth u.index false = true) : s.keepLoop n = s := State.keepLoop_kept (.inr hc)
    refine ⟨loopCtrl_idle h31 h30 ha, loopCtrl_running h31 h30 ha, fun errors hr hc pad far => ?_, fun errors hr hc h8 hd => ⟨fun clk => ?_, fun clk => ?_⟩,
      fun errors hr hc hn hd => ⟨fun he => ?_, fun he => ?_⟩, fun errors hr hc => loopUnitDone_aborts errors hr hc⟩
    · have counted := loopUnitDone_counts errors (kept hc) hr (fun h => pad h.1 h.2.1) (fun h => far h.1 h.2)
      have lead : s.padLead n = 0 := if_neg (by simp only [Bool.and_eq_true, decide_eq_true_eq]; exact fun h => pad h.1.1 h.1.2)
      rw [lead, Nat.zero_add] at counted
      obtain ⟨t, ht, units, errs, now, result, parts⟩ := counted
      exact ⟨t, ht, units, errs, now, result, parts⟩
    · exact execLoopUnitDone_noClock (kept hc) (.inr ⟨h8, hd, clk⟩)
    · have counted := loopUnitDone_counts errors (kept hc) hr (fun h => Bool.false_ne_true (h.2.2.symm.trans clk)) (by omega)
      have lead : s.padLead n = if u.units = 0 then 1000 * (s.slot (8 * n + u.index)).seq.div else 0 := by simp [State.padLead, h8, hd, u]
      rw [lead] at counted
      obtain ⟨t, ht, units, errs, now, result, parts⟩ := counted
      exact ⟨t, ht, units, errs, now.trans (Nat.add_assoc _ _ _).symm, result, parts⟩
    · have lost := execLoopUnitDone_lost (kept hc) hr (by omega) ⟨hn, hd⟩ he
      have runs : ((s.modLoop n fun u => { u with errors := min ((s.loop n).errors + errors) 0xFFFF }).loop n).running = true := by
        rw [State.modLoop_loop]; exact hr
      refine ⟨_, lost, ?_⟩
      dsimp only
      rw [State.stopLoop_loop _ _ _ runs, State.stopLoop_now, State.modLoop_loop]
      exact ⟨rfl, rfl, rfl⟩
    · subst he
      exact loopUnitDone_far (kept hc) hr hn hd
  · intro loads
    refine ⟨rfl, rfl, rfl, rfl, idcodeWord_fields, fun hd => ⟨?_, ?_, ?_, execCoreCtrl_closed hd, execMemAccess_closed hd, fun hb => execDbgOpen_only (.inl hb),
      dbgOpen_opens hd, dbgOpen_refused hd⟩, fun ho => ⟨execDbgOpen_only (.inr ho), ?_, coreCtrl_does ho, fun a d h4 wr => execMemAccess_unaligned ho h4 wr d,
      fun a d h4 lo hi => ⟨memAccess_writes ho h4 lo hi d, execMemAccess_read ho h4 lo hi d⟩⟩, fun p => ⟨fun hp => ?_, pcieLoopback_does hwf⟩⟩
    · exact congrArg Host.Outcome.next (takePins_closed hd 3)
    · exact congrArg Host.Outcome.next (takePins_closed hd 4)
    · exact congrArg Host.Outcome.next (takePins_closed hd 5)
    · intro c hc
      simp only [List.mem_cons, List.not_mem_nil, or_false] at hc
      rcases hc with rfl | rfl | rfl <;> exact takePins_does rfl ho
    · exact congrArg Host.Outcome.next (if_neg (by simp [hp]))
  · intro ag a v
    exact ⟨fun h => congrArg Host.Outcome.next (State.busWrite_unaligned s ag h v), fun p h => congrArg Host.Outcome.next (State.busWrite_unanswered s h _ v),
      fun h => congrArg Host.Outcome.next (State.busWrite_above s ag h v), rfl, fun hi =>
      ⟨fun h => congrArg Host.Outcome.next (if_neg h), fun h t ht => registerWrite_double s ag h v hi ht⟩⟩
  · intro p v h
    refine ⟨fun q => ⟨registerWrite_sqTail h v q, registerWrite_cqHead h v q⟩, registerWrite_dev h v (by decide) (by decide),
      registerWrite_dev h v (by decide) (by decide), registerWrite_dev h v (by decide) (by decide), fun bad => ?_, fun lo hi => ?_, registerWrite_slot h v⟩
    · refine (registerWrite_dev h v (by decide) (by decide)).trans (congrArg Host.Outcome.next (if_pos ?_))
      simpa using bad
    · refine (registerWrite_dev h v (by decide) (by decide)).trans (congrArg Host.Outcome.next (if_neg ?_))
      simp [lo, hi]

end Sys2Proof.Machine
end
